-- ==== Sys2Proof/Word.lean ====
section
/-! DEFINITION. The words of the TMR-3618: 32-bit register and packet words (R5, R302), 18-bit engine words and
48-bit accumulators (R263), bytes, and their plainest arithmetic. -/

namespace Sys2Proof

/-- A 32-bit word: a BAR0 register, a packet or a reply word (R302, R320). -/
abbrev Word := BitVec 32

/-- A byte of a frame or of a record. -/
abbrev Byte := BitVec 8

/-- A word register of a Umide engine (R263). -/
abbrev EWord := BitVec 18

/-- An engine accumulator (R263). -/
abbrev Acc := BitVec 48

/-- Unsigned bits `[lo + w - 1 : lo]` of a natural number (R6). -/
def bits (x lo w : Nat) : Nat := (x >>> lo) % 2 ^ w

/-- Two's complement reading of the low `w` bits of `x` (R5). -/
def sext (w x : Nat) : Int :=
  if x % 2 ^ w < 2 ^ (w - 1) then (x % 2 ^ w : Nat) else (x % 2 ^ w : Nat) - (2 ^ w : Nat)

/-- The `w`-bit two's complement pattern of an integer (R5). -/
def twos (w : Nat) (x : Int) : Nat := (x % (2 ^ w : Nat)).toNat

/-- `x` held between `lo` and `hi`. -/
def clampInt (lo hi x : Int) : Int := max lo (min hi x)

/-- `x` held between `lo` and `hi`. -/
def clampNat (lo hi x : Nat) : Nat := max lo (min hi x)

/-- Rounded quotient of an integer by a positive natural, a half rounding up (R85). -/
def roundDiv (x : Int) (d : Nat) : Int := (2 * x + d) / (2 * d)

end Sys2Proof
end

