-- ==== Sys2Proof/Syntax.lean ====
section
/-! DEFINITION. The commands of the TMR-3618, one constructor per row of the operation table, with the operands each takes:
for a command packet its parameter words, for a register access its address and value, for an event what the world, the
firmware or the board supplies with it. Times are signed or unsigned counts of 2^-16 ns unless a comment says otherwise;
frequencies and control words are integers with LSB 2^-60 (R45). -/

namespace Sys2Proof

/-- The twelve operating modes (R4, R24). -/
inductive Mode where
  | reset | boot | config | freerun | acquire | locked | holdover | standby | calibrate | bench | timekeep | fault
  deriving DecidableEq, Repr

/-- The five power states (R4, R335). -/
inductive Power where
  | full | quiet | keep | aon | off
  deriving DecidableEq, Repr

/-- The eleven power domains (R3, R15). -/
inductive Domain where
  | aon | time | eng | gauge | gnss | fab | hbm | lineA | lineB | jieth | host
  deriving DecidableEq, Repr

/-- The supply rails (R333). -/
inductive Rail where
  | vddAon | vddioAon | vddCore | vddaClk | vddSrds | vddhSrds | vddHbm | vppHbm | vddio
  deriving DecidableEq, Repr

/-- The fault causes (R35). -/
inductive FaultCause where
  | noValidImage | rootNoLock | strapInvalid | engineWatchdog | eccUncorrectable | powerFail | cpWatchdog | tempLimit
  deriving DecidableEq, Repr

/-- The way a packet came in (R153, R305, R306). A relayed packet carries the link it arrived on. -/
inductive Iface where
  | pcie | spi | jieth (link : Nat)
  deriving DecidableEq, Repr

/-- What a started packet brings besides its parameter words: the interface, the queue, the slot or SPI buffer, the TAG and the
REPLY bit of its header (R302, R305). -/
structure CmdCtx where
  iface : Iface := .pcie
  queue : Nat := 0
  slot : Nat := 0
  tag : Nat := 0
  reply : Bool := false
  deriving DecidableEq, Repr

/-- A firmware image in flash (R346): its words from the header on, blank flash behind them, and whether the chip reads without error. -/
structure FwImage where
  words : List Word := []
  readOk : Bool := true
  deriving DecidableEq, Repr

/-- One calibration copy in flash (R297, R298): its words. -/
structure CalCopy where
  words : List Word := []
  deriving DecidableEq, Repr

/-- The flash chip's contents that the device uses: two images, the board equalisation table, three calibration copies. -/
structure Flash where
  imageA : FwImage := {}
  imageB : FwImage := {}
  eq : List Byte := []
  copies : List CalCopy := [{}, {}, {}]
  deriving DecidableEq, Repr

/-- OSC_IN as measured at boot (R38). -/
inductive OscIn where
  | absent | mhz10 | mhz100
  deriving DecidableEq, Repr

/-- What the board presents as the device passes from RESET to BOOT: the strap balls (R32), OSC_IN (R38), whether the root locks
in this boot step or a later ROOT_LOCK tells, whether the PUF reconstructs (R338), the flash contents if the board replaced
them, and the four key-hash slots of the OTP if the part was programmed before this boot (R348). -/
structure BootEnv where
  bootSrc : BitVec 2 := 0
  jrole : BitVec 2 := 0
  pairEn : Bool := false
  ovenUse : Bool := false
  osc : OscIn := .mhz10
  rootLocks : Bool := true
  pufOk : Bool := true
  flash : Option Flash := none
  keyHash : Option (List (List Word)) := none
  deriving DecidableEq, Repr

/-- Wake events of TIMEKEEP (R34). -/
inductive WakeSrc where
  | perst | spiCs | timer
  deriving DecidableEq, Repr

/-- One measurement of a slot's source at a selector evaluation: offset (reference less ToD), frequency, and 10 s mean offset. -/
structure SlotMeas where
  ofs : Int
  freq : Int
  ofs10 : Int
  deriving DecidableEq, Repr

/-- The loss conditions of R115, and R116's inconsistency, by source. -/
inductive LossCause where
  | signal | noOffset | fwdClk | link | solution | xrefClk | xrefPps | ppsSpacing | frequency
  deriving DecidableEq, Repr

/-- A rising transition of a sampled DDMTD stream: its helper-cycle count and the low samples that came before it (R84). -/
structure Rise where
  cnt : Nat
  lowBefore : Nat
  deriving DecidableEq, Repr

/-- The transitions of both streams in one beat (R83, R84). -/
structure Beat where
  recv : List Rise
  ref : List Rise
  deriving DecidableEq, Repr

/-- PTP messages (R87, R90, R93, R98): the four event messages, then the general ones. -/
inductive PtpKind where
  | sync | delayReq | pdelayReq | pdelayResp
  | followUp | delayResp | pdelayRespFollowUp | announce | management | signaling
  deriving DecidableEq, Repr

/-- An event message, which has a timestamp point (R87). -/
def PtpKind.event : PtpKind → Bool
  | .sync | .delayReq | .pdelayReq | .pdelayResp => true
  | _ => false

/-- The authentication TLV of a PTP message (R93, R97): whether it asks for delayed processing, and its ICV words. -/
structure PtpTlv where
  delayed : Bool := false
  icv : List Word := []
  deriving DecidableEq, Repr

/-- What the device reads of a PTP message: kind, domain, correctionField in 2^-16 ns, the transport that carries it (0 Ethernet, 1
UDP/IPv4, 2 UDP/IPv6, R93), the identity of its source port and its sequence number, by which a Follow_Up matches, and whether a
Follow_Up is to come (R98). -/
structure PtpHdr where
  kind : PtpKind
  domain : Nat
  corr : Int
  transport : Nat := 0
  source : Nat := 0
  seq : Nat := 0
  twoStep : Bool := false
  deriving DecidableEq, Repr

/-- The quality set that announcements and timing frames carry (R94, R219). -/
structure Dataset where
  gmId : Nat := 0
  clockClass : Nat := 248
  clockAccuracy : Nat := 0xFE
  variance : Nat := 0
  priority1 : Nat := 128
  priority2 : Nat := 128
  steps : Nat := 0
  timeSource : Nat := 0
  timeTraceable : Bool := false
  freqTraceable : Bool := false
  deriving DecidableEq, Repr

/-- A frame as it arrives at a fabric port (R177). `len` counts destination address to FCS, a VLAN tag (VID, PCP) included; `ingTs`
is its ingress timestamp in 2^-16 ns, which carries no time where `resolved` is false (R87); `ptp` is what a PTP message shows, `tlv`
its authentication TLV and `body` the bytes that its ICV covers (R97); `ann` is what an Announce message carries: its dataset, and
currentUtcOffset, leap59 and leap61 where it gives them (R94, R95); `l1` tells a signalling message with an L1Sync TLV in its basic form
(true) or with the optional parameters (false), `unicast` one that asks for unicast negotiation (R93). -/
structure FrameIn where
  dst : Nat
  src : Nat
  tag : Option (Nat × Nat) := none
  len : Nat
  fcsOk : Bool := true
  toDevice : Bool := false
  ptp : Option PtpHdr := none
  tlv : Option PtpTlv := none
  ingTs : Nat := 0
  resolved : Bool := true
  body : List Byte := []
  ann : Option (Dataset × Option (Int × Bool × Bool)) := none
  l1 : Option Bool := none
  unicast : Bool := false
  deriving DecidableEq, Repr

/-- A received PTP event message with the captures of its timestamp point (R87, R88), in fifths of 2^-16 ns: ToD at the rising-edge
and falling-edge captures of CK_REF, and the unit intervals to the timestamp point, which lies on lane Tn.1 of a trunk where `lane1` is
set (R82). `gap` is the start W of a receive gap that the message's Clabriek TLV asks for (R104), in 2^-16 ns of ToD. -/
structure PtpRx where
  rise : Int
  fall : Int
  uis : Nat
  lane1 : Bool := false
  resolved : Bool := true
  gap : Option Nat := none
  fr : FrameIn
  deriving DecidableEq, Repr

/-- The captures of an egress timestamp point (R87, R88): ToD at the CK_REF edge, in fifths of 2^-16 ns, the unit intervals from the
divided transmit clock's edge to the point, and whether the correction can be resolved. -/
structure EgressCap where
  edge : Int := 0
  uis : Nat := 0
  resolved : Bool := true
  deriving DecidableEq, Repr

/-- The start of a transmission (R184): the fabric port, and the captures of the frame's timestamp point, which count where the frame has
one (R87). -/
structure TxStart where
  f : Nat
  cap : EgressCap := {}
  deriving DecidableEq, Repr

/-- A link start (R82, R88, R189, R206): whether preemption was verified, the skew of lane Tn.1 that the alignment markers show, in fifths of
2^-16 ns, and the phase word of the transmit tap. -/
structure LinkStart where
  verified : Bool := false
  skew : Int := 0
  txPhi : Nat := 0
  deriving DecidableEq, Repr

/-- A request for a receive gap (R104): its start W in 2^-16 ns of ToD, and whether the partner confirms it. -/
structure GapAsk where
  w : Nat
  confirmed : Bool := false
  deriving DecidableEq, Repr

/-- Where the highest peak of a PRN search lies (R249): its Doppler bin of 500 Hz, and its code phase among 32,768. -/
structure SearchCell where
  bin : Int
  code : Nat
  deriving DecidableEq, Repr

/-- A general PTP message that the firmware sends: its kind, the timestamp it carries (2^-16 ns), correctionField, the dataset and the UTC
data of an Announce (offset, leap59, leap61, valid; R94, R95), coherence and congruence of an L1Sync TLV (R93), the words of its ICV. -/
structure PtpTx where
  kind : PtpKind
  stamp : Option Nat := none
  corr : Int := 0
  dataset : Option Dataset := none
  utc : Option (Int × Bool × Bool × Bool) := none
  l1 : Option (Bool × Bool) := none
  icv : List Word := []
  deriving DecidableEq, Repr

/-- The timing record of a timing frame (R142, R219). -/
structure TimingRec where
  marker : Nat
  sec : Nat
  ns : Nat
  frac : Nat
  epoch : Nat
  active : Bool
  upLost : Bool
  dataset : Dataset := {}
  deriving DecidableEq, Repr

/-- A MARKER block: its header (R215), its two copies of number and complement (R218), whether it falls on the relation of R141, the receiver's
ToD at its LC_156 edge in 2^-16 ns, and the frequency of LC_156 against OSC_IN (R146). -/
structure MarkerIn where
  hdr : Byte := 0x88
  n1 : Word
  c1 : Word
  n2 : Word
  c2 : Word
  inPlace : Bool := true
  tod : Int := 0
  freq : Int := 0
  deriving DecidableEq, Repr

/-- A HELLO (R217): role, depth, epoch, registration address and answers, and on a MIRROR link the serial. -/
structure HelloIn where
  role : BitVec 2
  depth : Nat
  epoch : Nat
  addr : Nat := 0
  regAck : Bool := false
  regRefused : Bool := false
  serial : Nat := 0
  deriving DecidableEq, Repr

/-- A loop-time measurement over 64 markers and the peer's values (R144), in fifths of 2^-16 ns; `own` is this end's θ in LSB of
0.0244 ps. -/
structure LoopMeas where
  loop : Int
  theta : Int
  peerTx : Int := 0
  peerRx : Int := 0
  own : Nat := 0
  deriving DecidableEq, Repr

/-- A control frame: its header word (R151), the packet or reply words, and the tag words of R341. -/
structure CtlFrame where
  header : Word
  words : List Word := []
  tag : List Word := []
  deriving DecidableEq, Repr

/-- A frame of the Jieth block stream (R214 to R216): the headers of its blocks and of those that fall between them, its descriptor, the
frame bytes, the CRC-32 of its DATA_END, and what an Ethernet frame's bytes say. -/
structure JFrameIn where
  hdrs : List Byte
  desc : Word
  body : List Byte
  crc : Word
  frame : FrameIn := { dst := 0, src := 0, len := 64 }
  deriving DecidableEq, Repr

/-- A FLOW block (R217). -/
structure FlowIn where
  ackSeq : Nat
  nak : Bool
  pair0 : Bool
  pair1 : Bool
  credit : Nat
  deriving DecidableEq, Repr

/-- A history entry (R130): second, word, valid mark. -/
structure HistEntry where
  sec : Nat
  word : Int
  valid : Bool
  deriving DecidableEq, Repr

/-- One slot's mirrored state (R158). -/
structure MirSlot where
  qualified : Bool := false
  wtr : Bool := false
  timer : Nat := 0
  suspect : Bool := false
  rank : Nat := 15
  deriving DecidableEq, Repr

/-- A mirror state frame (R158, R160): what it carries, and its check under the mirror key. -/
structure MirrorFrame where
  tag : List Word := []
  mode : Mode
  selected : Option Nat := none
  swTarget : Option Nat := none
  committed : Bool := false
  force : Option Nat := none
  lockout : List Nat := []
  cw : Int := 0
  epoch : Nat := 0
  slots : List MirSlot := []
  hist : List HistEntry := []
  calIds : List Nat := []
  deriving DecidableEq, Repr

/-- A spectral line (R247): centre in Hz on the mixed stream, level above the median bin in 0.25 dB, and the notch whose adaptation
already tracks it. -/
structure Line where
  hz : Int
  level : Nat
  notch : Option Nat := none
  deriving DecidableEq, Repr

/-- Decoded LNAV data (R254): PRN, health, agreement of IODE and IODC, age of the ephemeris, 10-bit week, ΔtLS, ΔtLSF and whether
this is the last UTC day before the announced leap second, and whether the almanac is complete (R250). -/
structure NavIn where
  prn : Nat
  healthy : Bool := true
  iodMatch : Bool := true
  toeInRange : Bool := true
  week10 : Nat := 0
  utc : Option (Int × Int × Bool) := none
  almanac : Bool := false
  deriving DecidableEq, Repr

/-- What one code epoch shows of a channel (R251, R253): the dumps of its seven correlators VE, E, NE, P, NL, L, VL, its phase-lock
indicator, C/N0 in 0.25 dB-Hz, synchronisation, Doppler in 2^-8 Hz, elevation. -/
structure ChanMeas where
  ch : Nat
  corr : List Int := []
  lock : Bool := true
  cn0 : Nat := 0
  bitSync : Bool := false
  frameSync : Bool := false
  halfCycle : Bool := false
  doppler : Int := 0
  elev : Int := 0
  deriving DecidableEq, Repr

/-- One least-squares fit over a set of satellites (R255, R256): channels with residuals in ps, the time of week of the sampling instant of
the ToD second in 2^-16 ns, the clock rate in 2^-60, and the fix in ECEF mm. -/
structure Fit where
  res : List (Nat × Int)
  tow : Int
  rate : Int := 0
  fix : Int × Int × Int := (0, 0, 0)
  deriving DecidableEq, Repr

/-- A channel latched for a raw epoch (R259): transmit time, and accumulated carrier phase in 2^-16 cycles. -/
structure RawChan where
  ch : Nat
  txMs : Nat := 0
  txFrac : Nat := 0
  adr : Int := 0
  deriving DecidableEq, Repr

/-- One result of a calibration measurement, by item (R289, R290): means of rt, of the offset with the sign of PORT.OFFSET, and of
own less the standard's time as the gauges show it before CABLE, in 2^-16 ns; a DLL's sixteen residuals in 2^-16 ns; a gauge's ring cycles over the gate and the count of the 200 ps edge; a gauge's converted and
PPS_OUT0's ball time in 2^-16 ps; the mean GNSS offset in 2^-16 ns; the two phases of a Berm window. TEMPCO has no measurement. -/
inductive CalResult where
  | portDelay (rt offset o : Int)
  | jiethDelay (rt offset o : Int)
  | dll (residuals : List Int)
  | vernier (start stop : Nat) (count : Nat)
  | gaugeDelay (time ball : Int)
  | gnssFe (offset : Int)
  | tempco
  | bermRef (tx loop : Nat)
  deriving DecidableEq, Repr

/-- What a debug port writes (R342): a BAR0 register through the internal access port, an internal memory, or an engine's state
through the engine debug port. -/
inductive DebugTarget where
  | reg (addr : Nat)
  | macWay (bucket way vid mac : Nat) (mask : Nat) (isStatic : Bool)
  | queueDesc (q : Nat)
  | engIram (e addr : Nat)
  | engDram (e addr : Nat)
  | engWord (e r : Nat)
  | engPc (e : Nat)
  | engHalt (e : Nat)
  | engStep (e : Nat)
  deriving DecidableEq, Repr

/-- Berm triggers that ask by themselves (R103). -/
inductive BermTrig where
  | period | temperature
  deriving DecidableEq, Repr

/-- THE COMMANDS: one constructor per row of the operation table. -/
inductive Instr where
  -- command packets (R314)
  | modeSet (c : CmdCtx) (ws : List Word)
  | deviceReset (c : CmdCtx) (ws : List Word)
  | snapshot (c : CmdCtx) (ws : List Word)
  | bootWrite (c : CmdCtx) (ws : List Word)
  | bootGo (c : CmdCtx) (ws : List Word)
  | queueAbort (c : CmdCtx) (ws : List Word)
  | regRead (c : CmdCtx) (ws : List Word)
  | regWrite (c : CmdCtx) (ws : List Word)
  | stepTod (c : CmdCtx) (ws : List Word)
  | slewAccept (c : CmdCtx) (ws : List Word)
  | alignOutputs (c : CmdCtx) (ws : List Word)
  | refSelect (c : CmdCtx) (ws : List Word)
  | ptpSend (c : CmdCtx) (ws : List Word)
  | ptpRecv (c : CmdCtx) (ws : List Word)
  | bermRun (c : CmdCtx) (ws : List Word)
  | macEdit (c : CmdCtx) (ws : List Word)
  | vlanEdit (c : CmdCtx) (ws : List Word)
  | gateLoad (c : CmdCtx) (ws : List Word)
  | jiethRelay (c : CmdCtx) (ws : List Word)
  | laneSlip (c : CmdCtx) (ws : List Word)
  | gaugeCtrl (c : CmdCtx) (ws : List Word)
  | gaugeRead (c : CmdCtx) (ws : List Word)
  | gnssCtrl (c : CmdCtx) (ws : List Word)
  | gnssRawRead (c : CmdCtx) (ws : List Word)
  | gnssPosSet (c : CmdCtx) (ws : List Word)
  | engLoad (c : CmdCtx) (ws : List Word)
  | engStart (c : CmdCtx) (ws : List Word)
  | engStop (c : CmdCtx) (ws : List Word)
  | engRead (c : CmdCtx) (ws : List Word)
  | calRun (c : CmdCtx) (ws : List Word)
  | calAccept (c : CmdCtx) (ws : List Word)
  | calLoad (c : CmdCtx) (ws : List Word)
  | calCommit (c : CmdCtx) (ws : List Word)
  | calRead (c : CmdCtx) (ws : List Word)
  | debugOpen (c : CmdCtx) (ws : List Word)
  | auditExport (c : CmdCtx) (ws : List Word)
  | auditAck (c : CmdCtx) (ws : List Word)
  | keyLoad (c : CmdCtx) (ws : List Word)
  | keyZero (c : CmdCtx) (ws : List Word)
  | idRead (c : CmdCtx) (ws : List Word)
  | sampleRead (c : CmdCtx) (ws : List Word)
  | fenceAll (c : CmdCtx) (ws : List Word)
  | sync (c : CmdCtx) (ws : List Word)
  | nop (c : CmdCtx) (ws : List Word)
  | fenceAllComplete (queue : Nat)
  | syncComplete (queue : Nat)
  | pcieDoorbell (queue slot words : Nat) (pkt : List Word) (late : Bool)
  | spiPacketWrite (pkt : List Word) (late : Bool)
  | spiReplyRead (complete : Bool)
  | packetStart (late : Bool)
  -- register accesses (R319 to R332)
  | registerWrite (addr : Nat) (be : Nat) (v : Word)
  | corRead (addr : Nat)
  | unlock (v : Word)
  | nominalLoWrite (v : Word)
  | incLoWrite (v : Word)
  | outPstepLoWrite (n : Nat) (v : Word)
  | applyWrite (hbm : Bool) (v : Word)
  | returnWrite (n : Nat) (v : Word)
  | armWrite (n : Nat) (v : Word)
  | outEnWrite (n : Nat) (v : Word)
  | retrain (n : Nat) (v : Word)
  | linkRoleWrite (n : Nat) (v : Word)
  | slotCfgWrite (n : Nat) (v : Word)
  | phyCfgWrite (p : Nat) (v : Word)
  | mboxInWrite (e : Nat) (v : Word)
  | mboxOutRead (e : Nat)
  | result3Read (n : Nat)
  | svnSet (v : Word)
  | keyRevoke (v : Word)
  | freeze (v : Word)
  | sampleReset (v : Word)
  | clrWrite (h : Nat) (v : Word)
  | steerCfgWrite (v : Word)
  | debugWrite (t : DebugTarget) (v : Word)
  -- power, reset and modes
  | powerOn
  | aonSupplyLoss
  | railOutOfWindow (r : Rail)
  | supplyCollapse (r : Rail)
  | aonExit (b : BootEnv)
  | resetNLow
  | resetRelease (b : BootEnv)
  | perstNLow
  | trstNLow
  | bootRootTimeout
  | faultEntry (cause : FaultCause)
  | powerSequenceDone
  | keepPowerDown
  | wakeEvent (src : WakeSrc)
  | wakeComplete (readOk : Bool)
  | debugClose
  -- clock root
  | oscLos
  | oscLosTimeout
  | rootLock
  | ovenOkChange (level : Bool)
  | ovenLowTimeout
  | slopeEvaluation (samples : Nat) (drift : Int)
  | tbWarmRise (seconds : Nat)
  | helperLock (locked : Bool)
  | pllLock (hbm : Bool)
  | pllLockTimeout (hbm : Bool)
  | dllLock (n : Nat)
  | dllUnlock (n : Nat)
  | periodBoundary (n : Nat)
  | compareFire (n : Nat)
  | todSecondBoundary
  | weirSlewEnd
  | rampEnd
  -- selector
  | recoveryWindowClose
  | slotQualified (n : Nat) (m : SlotMeas)
  | slotQualLost (n : Nat) (cause : LossCause)
  | gnssIncons (n : Nat)
  | wtrExpiry (n : Nat)
  | selectorEvaluation (meas : List (Option SlotMeas))
  | switchCommit
  | switchWindowEnd (m : SlotMeas)
  | holdOffEnd
  | historyRecord (wholeSecond : Bool)
  | holdSpecExpiry
  -- ports
  | phaseWord (p : Nat) (beats : List Beat)
  | portSignalLoss (p : Nat)
  | ptpEventRx (p : Nat) (m : PtpRx)
  | linkDelayUpdate (p : Nat) (t1 t2 t3 t4 : Int)
  | syncIntervalBoundary (p : Nat)
  | bermRequest (p : Nat) (t : BermTrig)
  | bermGapRequest (p : Nat) (a : GapAsk)
  | bermWindowStart (p : Nat)
  | bermWindowEnd (txA loopA txB loopB : Nat) (dieTemp : Int)
  -- switch core
  | frameRx (f : Nat) (fr : FrameIn)
  | spillStagedWrite (q : Nat)
  | spillReadback (q : Nat)
  | frameTx (x : TxStart)
  | macAgeOut (vid mac : Nat)
  | gateChange (f : Nat)
  | gateListTakeEffect (f : Nat)
  | sluiceRelease (f : Nat) (c : EgressCap)
  | linkUp (p : Nat) (x : LinkStart)
  | portDown (f : Nat) (laneLost : Bool)
  | flushDone (f : Nat)
  -- Jieth
  | jiethClockLock (n : Nat)
  | jiethAlignDone (n : Nat) (words : List Nat) (skew : Nat)
  | jiethHello (n : Nat) (h : HelloIn)
  | jiethDelayDone (n : Nat) (r1 r2 : LoopMeas)
  | jiethTrainingTimeout (n : Nat)
  | failedTimeout (n : Nat)
  | markerRx (n : Nat) (m : MarkerIn)
  | timingFrameTx (n : Nat)
  | timingFrameRx (n : Nat) (r0 r1 : List Word)
  | rtUpdate (n : Nat) (m : LoopMeas)
  | fwdClkLost (n : Nat)
  | controlFrameRx (n : Nat) (f : CtlFrame)
  | controlAckTimeout (n : Nat)
  | jiethFrameRx (n : Nat) (f : JFrameIn)
  | flowRx (n : Nat) (f : FlowIn)
  | laneLost (n : Nat) (k : Nat)
  | pairSwitch (n : Nat)
  | laneRejoined (n : Nat) (k : Nat)
  -- redundant pair
  | roleInTaken (v : BitVec 2)
  | yieldTimerExpiry
  | dualActiveClear
  | mirrorStateFrameTx
  | mirrorStateFrameRx (f : MirrorFrame)
  | mirrorLost
  -- gauges
  | gaugeEdge (n : Nat) (ps : Nat)
  | gaugeConversionDone (n : Nat) (coarse sub count : Nat)
  | freqGateEnd (n : Nat)
  | coarseWrap
  | gaugeCorrectionApply (n : Nat)
  -- GNSS
  | spectralScan (lines : List Line)
  | jamUpdate (power : Nat) (follows : Bool)
  | noiseRefDone (power : Nat)
  | acquisitionDone (prn : Nat) (c : SearchCell) (peak next : Nat)
  | channelTrack (ch : Nat)
  | channelLost (ch : Nat)
  | navDataDecode (d : NavIn)
  | codeEpoch (meas : List ChanMeas)
  | gnssSolution (fits : List Fit)
  | surveyDone (x y z : Int)
  | rawEpoch (recs : List RawChan)
  -- engine instructions (R267)
  | ueAdd (e : Nat) (d a b : BitVec 4)
  | ueSub (e : Nat) (d a b : BitVec 4)
  | ueAdds (e : Nat) (d a b : BitVec 4)
  | ueSubs (e : Nat) (d a b : BitVec 4)
  | ueAnd (e : Nat) (d a b : BitVec 4)
  | ueOr (e : Nat) (d a b : BitVec 4)
  | ueXor (e : Nat) (d a b : BitVec 4)
  | ueShl (e : Nat) (d a b : BitVec 4)
  | ueShr (e : Nat) (d a b : BitVec 4)
  | ueSar (e : Nat) (d a b : BitVec 4)
  | ueCmp (e : Nat) (d a b : BitVec 4)
  | ueMul (e : Nat) (d a b : BitVec 4)
  | ueMac (e : Nat) (d a b : BitVec 4)
  | ueMsu (e : Nat) (d a b : BitVec 4)
  | ueMulu (e : Nat) (d a b : BitVec 4)
  | ueMacu (e : Nat) (d a b : BitVec 4)
  | ueAccx (e : Nat) (d a b : BitVec 4)
  | ueAccl (e : Nat) (d a b : BitVec 4)
  | ueAsra (e : Nat) (d a b : BitVec 4)
  | ueAcca (e : Nat) (d a b : BitVec 4)
  | ueLd (e : Nat) (d a b : BitVec 4)
  | ueSt (e : Nat) (d a b : BitVec 4)
  | ueLdi (e : Nat) (d : BitVec 4) (imm : BitVec 8)
  | ueLim (e : Nat) (d : BitVec 4) (imm : BitVec 8)
  | ueLit (e : Nat) (d : BitVec 4) (imm : BitVec 8)
  | ueAddi (e : Nat) (d : BitVec 4) (imm : BitVec 8)
  | ueShli (e : Nat) (d : BitVec 4) (imm : BitVec 8)
  | ueSari (e : Nat) (d : BitVec 4) (imm : BitVec 8)
  | ueIn (e : Nat) (d : BitVec 4) (imm : BitVec 8)
  | ueOutSel (e : Nat) (d : BitVec 4)
  | ueOutMboxOut (e : Nat) (d : BitVec 4)
  | ueOutTrimStage (e : Nat) (d : BitVec 4) (imm : BitVec 8)
  | ueFtrimCommit (e : Nat) (d : BitVec 4)
  | uePtrimCommit (e : Nat) (d : BitVec 4)
  | ueOutTimer (e : Nat) (d : BitVec 4)
  | ueOutIrq (e : Nat) (d : BitVec 4)
  | ueWait (e : Nat) (imm : BitVec 8)
  | waitWake (e : Nat)
  | ueMark (e : Nat) (imm : BitVec 8)
  | ueJ (e : Nat) (target : BitVec 12)
  | ueBz (e : Nat) (target : BitVec 12)
  | ueBnz (e : Nat) (target : BitVec 12)
  | ueBlt (e : Nat) (target : BitVec 12)
  | ueBge (e : Nat) (target : BitVec 12)
  | ueCall (e : Nat) (target : BitVec 12)
  | ueRet (e : Nat)
  | ueHalt (e : Nat)
  | engineTimerExpiry (e : Nat)
  | userWatchdogExpiry (e : Nat)
  | steerTimeout
  | counterWrap (n : Nat)
  -- calibration
  | calMeasurementDone (r1 r2 : CalResult)
  | calStoreDone (failed : Option Nat)
  | loadClassEval (dieTemp : Option Int)
  | engineNop (e : Nat)
  | perstNDeassertion
  | signedPairWindowEnd (n : Nat)
  | todMillisecondBoundary
  deriving DecidableEq, Repr

end Sys2Proof
end

