-- ==== Sys2Proof/Decode.lean ====
section
/-! DEFINITION. The commands that words of the operation table spell. No row of the table gives its command any bits, so none does; the
instructions of a Umide engine, which are words of its own RAM, are decoded in Machine/Operands.lean. -/

namespace Sys2Proof

/-- The command that a word spells by the bits of the operation table: the table gives none. -/
def decodeTableWord (_nbits _w : Nat) : Option Instr := none

end Sys2Proof
end

