-- ==== Sys2Proof/Machine/Digest.lean ====
section
/-! DEFINITION. CRC-32 (IEEE 802.3), SHA-256 and HMAC-SHA-256 as the manual uses them: words enter most significant byte first
(R370). All arithmetic is on natural numbers below 2^32. -/

namespace Sys2Proof.Machine

/-! ### CRC-32 (R210, R216, R297) -/

/-- Eight shifts of the reflected CRC register. -/
def crcStep8 : Nat → Nat → Nat
  | 0, c => c
  | k + 1, c => crcStep8 k (if c % 2 = 1 then Nat.xor (c / 2) 0xEDB88320 else c / 2)

/-- CRC register after one byte. -/
def crcByte (c b : Nat) : Nat := crcStep8 8 (Nat.xor c b)

/-- CRC-32 of bytes. -/
def crc32 (l : List Nat) : Nat := Nat.xor (l.foldl crcByte 0xFFFFFFFF) 0xFFFFFFFF

/-- Bytes of a word, most significant first (R370). -/
def wordBytes (w : Word) : List Nat := [w.toNat / 2 ^ 24 % 256, w.toNat / 2 ^ 16 % 256, w.toNat / 2 ^ 8 % 256, w.toNat % 256]

/-- CRC-32 of words in ascending order. -/
def crcWords (l : List Word) : Word := BitVec.ofNat 32 (crc32 (l.flatMap wordBytes))

/-- The number that words spell, the most significant first. -/
def wordsNat (l : List Word) : Nat := l.foldl (fun a w => a * 2 ^ 32 + w.toNat) 0

/-! ### SHA-256 -/

/-- A 256-bit number as its eight words, the most significant first. -/
def wordsOf256 (x : Nat) : List Nat := (List.range 8).map (fun k => bits x (224 - 32 * k) 32)

/-- The round constants, eight to a number. -/
def shaConsts : List Nat :=
  [0x428a2f9871374491b5c0fbcfe9b5dba53956c25b59f111f1923f82a4ab1c5ed5,
   0xd807aa9812835b01243185be550c7dc372be5d7480deb1fe9bdc06a7c19bf174,
   0xe49b69c1efbe47860fc19dc6240ca1cc2de92c6f4a7484aa5cb0a9dc76f988da,
   0x983e5152a831c66db00327c8bf597fc7c6e00bf3d5a7914706ca635114292967,
   0x27b70a852e1b21384d2c6dfc53380d13650a7354766a0abb81c2c92e92722c85,
   0xa2bfe8a1a81a664bc24b8b70c76c51a3d192e819d6990624f40e3585106aa070,
   0x19a4c1161e376c082748774c34b0bcb5391c0cb34ed8aa4a5b9cca4f682e6ff3,
   0x748f82ee78a5636f84c878148cc7020890befffaa4506cebbef9a3f7c67178f2]

/-- The constant of round `t`. -/
def shaConst (t : Nat) : Nat := bits (shaConsts.getD (t / 8) 0) (224 - 32 * (t % 8)) 32

/-- The initial hash value. -/
def shaStart : List Nat := wordsOf256 0x6a09e667bb67ae853c6ef372a54ff53a510e527f9b05688c1f83d9ab5be0cd19

/-- A 32-bit word turned right by the sum of some of its rotations: their exclusive or. -/
def rotXor (rs : List Nat) (x : Nat) : Nat := rs.foldl (fun acc r => Nat.xor acc (x / 2 ^ r + x % 2 ^ r * 2 ^ (32 - r))) 0

/-- The word that enters the window of sixteen schedule words as its oldest leaves. -/
def shaFeed (win : List Nat) : Nat :=
  let at_ := fun k => win.getD k 0
  (at_ 0 + Nat.xor (rotXor [7, 18] (at_ 1)) (at_ 1 / 8) + at_ 9 + Nat.xor (rotXor [17, 19] (at_ 14)) (at_ 14 / 1024)) % 2 ^ 32

/-- Working variables after a round with constant `c` and schedule word `x`. -/
def shaTurn (v : List Nat) (c x : Nat) : List Nat :=
  let at_ := fun k => v.getD k 0
  let pick := Nat.xor (at_ 6) (Nat.land (at_ 4) (Nat.xor (at_ 5) (at_ 6)))
  let most := Nat.lor (Nat.land (at_ 0) (Nat.lor (at_ 1) (at_ 2))) (Nat.land (at_ 1) (at_ 2))
  let up := at_ 7 + rotXor [6, 11, 25] (at_ 4) + pick + c + x
  [(up + rotXor [2, 13, 22] (at_ 0) + most) % 2 ^ 32, at_ 0, at_ 1, at_ 2, (at_ 3 + up) % 2 ^ 32, at_ 4, at_ 5, at_ 6]

/-- The last `k` of the 64 rounds, the schedule in a window of sixteen words. -/
def shaTurns : Nat → List Nat → List Nat → List Nat
  | 0, _, v => v
  | k + 1, win, v => shaTurns k (win.drop 1 ++ [shaFeed win]) (shaTurn v (shaConst (63 - k)) (win.headD 0))

/-- The chaining value after the blocks of a message, sixteen words each; `n` bounds their number. -/
def shaChain : Nat → List Nat → List Nat → List Nat
  | 0, h, _ => h
  | n + 1, h, l =>
    match l with
    | [] => h
    | _ => shaChain n (List.zipWith (fun a b => (a + b) % 2 ^ 32) h (shaTurns 64 (l.take 16) h)) (l.drop 16)

/-- The words that complete a message of `n` words to whole blocks: a one bit, zeros, its length in bits. -/
def shaTail (n : Nat) : List Nat :=
  [2 ^ 31] ++ List.replicate ((29 - n % 16) % 16) 0 ++ [n / 2 ^ 27, n * 32 % 2 ^ 32]

/-- SHA-256 of words, as eight words (R370). -/
def sha256 (l : List Word) : List Word :=
  (shaChain (l.length + 1) shaStart (l.map (·.toNat) ++ shaTail l.length)).map (BitVec.ofNat 32)

/-- HMAC-SHA-256 with a 256-bit key, as eight words. -/
def hmac (key l : List Word) : List Word :=
  let k := key.take 8 ++ List.replicate (16 - (key.take 8).length) 0
  let pad := fun (c : Word) => k.map (fun w => w ^^^ c)
  sha256 (pad 0x5C5C5C5C ++ sha256 (pad 0x36363636 ++ l))

end Sys2Proof.Machine
end

