-- ==== Sys2Proof/Machine/Ecdsa.lean ====
section
/-! DEFINITION. Checking an ECDSA P-256 signature, which R298 and R347 ask of the device. The curve, its base point and the check itself
are FIPS 186's, to which the manual's name for the algorithm refers. -/

namespace Sys2Proof.Machine

namespace P256

/-- The field's prime. -/
def prime : Nat := 2 ^ 256 - 2 ^ 224 + 2 ^ 192 + 2 ^ 96 - 1

/-- The base point's order. -/
def order : Nat := 0xFFFFFFFF00000000FFFFFFFFFFFFFFFFBCE6FAADA7179E84F3B9CAC2FC632551

/-- Constant term of y² = x³ − 3x + b. -/
def coeffB : Nat := 0x5AC635D8AA3A93E7B3EBBD55769886BC651D06B0CC53B0F63BCE3C3E27D2604B

/-- A curve point in projective form: (x/z², y/z³), the neutral element where z is 0. -/
structure Pt where
  x : Nat
  y : Nat
  z : Nat
  deriving DecidableEq, Repr

/-- The base point. -/
def base : Pt :=
  ⟨0x6B17D1F2E12C4247F8BCE6E563A440F277037D812DEB33A0F4A13945D898C296,
   0x4FE342E2FE1A7F9B8EE7EB4A7C0F9E162BCE33576B315ECECBB6406837BF51F5, 1⟩

/-- Difference in the field, of residues. -/
def fsub (a b : Nat) : Nat := (a + (prime - b % prime)) % prime

/-- Product in the field. -/
def fmul (a b : Nat) : Nat := a * b % prime

/-- Twice a point. -/
def dbl (p : Pt) : Pt :=
  let zz := fmul p.z p.z
  let yy := fmul p.y p.y
  let s := fmul (4 * p.x) yy
  let m := fmul (3 * (fsub p.x zz)) ((p.x + zz) % prime)
  let x := fsub (fmul m m) (2 * s)
  ⟨x, fsub (fmul m (fsub s x)) (8 * fmul yy yy), fmul (2 * p.y) p.z⟩

/-- Sum of two points. -/
def add (p q : Pt) : Pt :=
  if p.z = 0 then q
  else if q.z = 0 then p
  else
    let pz := fmul p.z p.z
    let qz := fmul q.z q.z
    let u := fmul p.x qz
    let s := fmul p.y (fmul qz q.z)
    let h := fsub (fmul q.x pz) u
    let r := fsub (fmul q.y (fmul pz p.z)) s
    if h = 0 then (if r = 0 then dbl p else ⟨1, 1, 0⟩)
    else
      let hh := fmul h h
      let hhh := fmul hh h
      let v := fmul u hh
      let x := fsub (fsub (fmul r r) hhh) (2 * v)
      ⟨x, fsub (fmul r (fsub v x)) (fmul s hhh), fmul (fmul p.z q.z) h⟩

/-- a·P + b·Q by the low `k` bits of a and b, from the highest down; `t` is P + Q. -/
def twin (p q t : Pt) (a b : Nat) : Nat → Pt → Pt
  | 0, acc => acc
  | k + 1, acc =>
    let d := dbl acc
    let e := if bits a k 1 = 1 then (if bits b k 1 = 1 then add d t else add d p) else if bits b k 1 = 1 then add d q else d
    twin p q t a b k e

/-- a^e modulo m by the low `k` bits of e. -/
def powMod (m a e : Nat) : Nat → Nat → Nat
  | 0, acc => acc
  | k + 1, acc => powMod m a e k (let d := acc * acc % m; if bits e k 1 = 1 then d * a % m else d)

/-- A public key is a point of the curve. -/
def onCurve (x y : Nat) : Bool :=
  decide (x < prime) && decide (y < prime) && decide (y * y % prime = (x * x * x + (prime - 3) * x + coeffB) % prime)

/-- The signature (r, s) over a digest verifies under the public key (x, y). -/
def verifies (x y digest r s : Nat) : Bool :=
  if onCurve x y && decide (1 ≤ r) && decide (r < order) && decide (1 ≤ s) && decide (s < order) then
    let w := powMod order s (order - 2) 256 1
    let q : Pt := ⟨x, y, 1⟩
    let t := twin base q (add base q) (digest * w % order) (r * w % order) 256 ⟨1, 1, 0⟩
    decide (t.z ≠ 0) && (decide (t.x = fmul r (fmul t.z t.z)) || (decide (r + order < prime) && decide (t.x = fmul (r + order) (fmul t.z t.z))))
  else false

end P256

/-- ECDSA P-256 of word lists: the key X then Y, the SHA-256 digest, the signature r then s, each most significant word first. -/
def ecdsaVerifies (key digest sig : List Word) : Bool :=
  P256.verifies (wordsNat (key.take 8)) (wordsNat (key.drop 8)) (wordsNat digest) (wordsNat (sig.take 8)) (wordsNat (sig.drop 8))

end Sys2Proof.Machine
end

