-- ==== Sys2Proof/Config.lean ====
section
/-! DEFINITION. What one part fixes, and the values the manual leaves open. Every constant here is opaque: nothing in
Lean evaluates it, so a claim about the model holds whatever the hardware does there. Where a constant takes a natural number
it is applied to `State.freeCtr`, which every use reads and advances, unless its docstring says otherwise. -/

namespace Sys2Proof.Config

/-- DEVICE. SYS.SERIAL, from OTP (R332). -/
opaque serial : BitVec 64

/-- DEVICE. SYS.ID.SILICON_REV, from OTP (R332). -/
opaque siliconRev : BitVec 8

/-- DEVICE. Identity public key word `k`, X then Y, most significant first (R338): derived from the PUF. -/
opaque identityPub : Nat → Word

/-- DEVICE. Word `k` of the ECDSA P-256 signature r then s that the identity key gives over the SHA-256 digest (R338, R353): with the
deterministic nonces of RFC 6979 it is one for each digest. -/
opaque identitySign : List Word → Nat → Word

/-- FREE VALUE. How far a store operation had come when it was cut off (R300): twice the copies written, and one more where the next one was
being written; the model takes it modulo 7. -/
opaque storeCut : Nat → Nat

/-- FREE VALUE. Word of a copy in flash whose write was cut off or did not read back (R300), by the free counter and its place. -/
opaque tornWord : Nat → Nat → Word

/-- FREE VALUE. Whether the erased secrets read back as zero at one attempt of step 1 of R343. -/
opaque zeroiseReadsBack : Nat → Bool

/-- FREE VALUE. Whether a breach fuse burns and reads back (R343, step 3). -/
opaque fuseBurns : Nat → Bool

/-- FREE VALUE. Whether the selector declares lock at an evaluation (R25): the manual gives no criterion. -/
opaque lockDeclared : Nat → Bool

/-- FREE VALUE. What a lane shows once it has been slipped (R222): the alignment word found at the new boundary. -/
opaque laneAwFound : Nat → BitVec 3

/-- FREE VALUE. Whether a slipped lane is aligned at its new boundary (R222). -/
opaque laneAligned : Nat → Bool

/-- FREE VALUE. The bucket of a VID and a MAC address (R180): the manual gives no hash function. -/
opaque macHash : Nat → Nat → BitVec 14

/-- FREE VALUE. Bits [31:4] of word 3 of a tag entry (R277): stage times and stall cause, which the model leaves out. -/
opaque tagStages : Nat → BitVec 28

/-- FREE VALUE. Flag C after a subtraction, by its operands (R267): the manual does not say whether C shows a borrow or its absence. -/
opaque subCarry : EWord → EWord → Bool

/-- FREE VALUE. Cycles that a latching port read adds to the latency of IN (R264): the model takes it modulo 9, for 0 to 8. -/
opaque portWait : Nat → Nat

/-- FREE VALUE. Announced clockAccuracy while LOCKED (R111): from the selected reference's stated uncertainty. -/
opaque clockAccuracy : Nat → BitVec 8

/-- FREE VALUE. Whether the root's phase error stays within ±10 ps after a change of its input (R146). -/
opaque rootHolds : Nat → Bool

/-- DEVICE. Whether the managers of this worker form a redundant pair (R139): nothing that the device can read tells it. -/
opaque pairedManagers : Bool

/-- FREE VALUE. The header with which a control frame was issued, from the header that arrives behind more than one hop (R341): intermediate hops
rewrite SEQ, HOPS_LEFT and PATH and forward the tag unchecked, and the manual does not say how the final device checks it. -/
opaque tagHeader : Word → Word

/-- FREE VALUE. The words of a mirror state frame that its HMAC covers (R158, R160): the manual gives no layout. Applied to the frame without
its check. -/
opaque mirrorWords : MirrorFrame → List Word

/-- FREE VALUE. The words of a PTP message as it is signed (R97): those of the message with its correctionField and an inserted timestamp in
their places, which are IEEE 1588's. Applied to the words, the correctionField and the timestamp. -/
opaque ptpSigned : List Word → Int → Option Nat → List Word

/-- FREE VALUE. The words of a general PTP message of the firmware (R97), which are IEEE 1588's. Applied to the message without its ICV. -/
opaque messageWords : PtpTx → List Word

/-- FREE VALUE. Length in bytes of an event message that the firmware originates (R194), which the manual does not give. -/
opaque ptpLen : PtpKind → BitVec 8

/-- FREE VALUE. A word that the manual calls held or measured but gives no value for; each use names its entry of the log. -/
opaque freeWord : Nat → Word

end Sys2Proof.Config
end

