-- ==== Sys2Proof/Machine/RegMap.lean ====
section
/-! DEFINITION. The field maps of the manual as tables (R11, R319, R322): for each register group its fields, with offset in the
group, lowest bit, width, class, reset value and the way an out-of-range write is stored. Reserved fields are no entries; the
offsets that a map lists only as reserved stand in `Grp.reserved`. -/

namespace Sys2Proof.Machine

/-- Field classes (R11, R322). -/
inductive Cls where
  | ctrl | masked | guard | once | cor | cnt | go | hwv
  deriving DecidableEq, Repr

/-- How a written value outside a field's range is stored: as the nearest limit where the field's row says so. -/
inductive Norm where
  | any
  | min1
  | clamp (lo hi : Nat)
  | sclamp (lo hi : Int)
  deriving DecidableEq, Repr

/-- One field of a register. `sx`: the bits above read as its sign extension. -/
structure FieldDef where
  off : Nat
  lo : Nat
  w : Nat
  cls : Cls
  rst : Nat := 0
  norm : Norm := .any
  sx : Bool := false
  deriving DecidableEq, Repr

/-- The groups of registers: blocks, and windows inside blocks. -/
inductive Grp where
  | sys | clk | time | ref | ptpg | jg | pair | fab | gauge | gnss | eng | perf | cal | sec | aud | cmd | dll | outw | slot | port | link | fport | queue | ga | notch | chan | ue | cnt | hist
  deriving DecidableEq, Repr

/-- SYS: 16 R332. -/
def fieldsSys (_ : Nat) : List FieldDef :=
  [⟨0x0, 16, 16, .hwv, 13848, .any, false⟩,
   ⟨0x0, 0, 8, .hwv, 0, .any, false⟩,
   ⟨0x4, 0, 32, .hwv, 0, .any, false⟩,
   ⟨0x8, 0, 32, .hwv, 0, .any, false⟩,
   ⟨0xC, 4, 3, .hwv, 0, .any, false⟩,
   ⟨0xC, 0, 4, .hwv, 0, .any, false⟩,
   ⟨0x10, 16, 16, .hwv, 0, .any, false⟩,
   ⟨0x10, 10, 1, .hwv, 0, .any, false⟩,
   ⟨0x10, 9, 1, .hwv, 0, .any, false⟩,
   ⟨0x10, 7, 2, .hwv, 0, .any, false⟩,
   ⟨0x10, 5, 2, .hwv, 0, .any, false⟩,
   ⟨0x10, 0, 2, .hwv, 0, .any, false⟩,
   ⟨0x14, 8, 4, .hwv, 0, .any, false⟩,
   ⟨0x14, 0, 8, .hwv, 0, .any, false⟩,
   ⟨0x18, 16, 1, .hwv, 0, .any, false⟩,
   ⟨0x18, 0, 16, .ctrl, 0, .any, false⟩,
   ⟨0x1C, 3, 1, .cor, 0, .any, false⟩,
   ⟨0x1C, 2, 1, .cor, 0, .any, false⟩,
   ⟨0x1C, 1, 1, .cor, 0, .any, false⟩,
   ⟨0x1C, 0, 1, .cor, 0, .any, false⟩,
   ⟨0x20, 0, 16, .hwv, 0, .any, false⟩,
   ⟨0x24, 16, 16, .masked, 0, .any, false⟩,
   ⟨0x24, 0, 16, .masked, 65535, .any, false⟩,
   ⟨0x28, 0, 6, .ctrl, 32, .any, false⟩] ++
  [⟨0x2C, 0, 32, .hwv, 0, .any, false⟩,
   ⟨0x30, 8, 6, .hwv, 0, .any, false⟩,
   ⟨0x30, 0, 4, .hwv, 0, .any, false⟩,
   ⟨0x34, 0, 16, .once, 0, .any, false⟩,
   ⟨0x38, 0, 32, .ctrl, 0, .any, false⟩,
   ⟨0x3C, 0, 32, .cnt, 0, .any, false⟩,
   ⟨0x40, 0, 32, .cnt, 0, .any, false⟩,
   ⟨0x44, 0, 24, .hwv, 0, .any, false⟩]

/-- CLK: 03 R60. -/
def fieldsClk (_ : Nat) : List FieldDef :=
  [⟨0x4, 8, 1, .hwv, 0, .any, false⟩,
   ⟨0x4, 7, 1, .hwv, 0, .any, false⟩,
   ⟨0x4, 6, 1, .hwv, 0, .any, false⟩,
   ⟨0x4, 5, 1, .hwv, 0, .any, false⟩,
   ⟨0x4, 4, 1, .hwv, 0, .any, false⟩,
   ⟨0x4, 3, 1, .hwv, 0, .any, false⟩,
   ⟨0x4, 2, 1, .hwv, 0, .any, false⟩,
   ⟨0x4, 1, 1, .hwv, 0, .any, false⟩,
   ⟨0x4, 0, 1, .hwv, 0, .any, false⟩,
   ⟨0x10, 0, 22, .hwv, 0, .any, true⟩,
   ⟨0x14, 0, 32, .hwv, 0, .any, false⟩,
   ⟨0x18, 0, 22, .hwv, 0, .any, true⟩,
   ⟨0x1C, 0, 32, .hwv, 0, .any, false⟩,
   ⟨0x20, 0, 22, .guard, 0, .any, false⟩,
   ⟨0x24, 0, 32, .guard, 0, .any, false⟩,
   ⟨0x28, 0, 6, .ctrl, 30, .clamp 20 50, false⟩,
   ⟨0x30, 0, 16, .ctrl, 900, .any, false⟩,
   ⟨0x34, 5, 1, .cor, 0, .any, false⟩,
   ⟨0x34, 4, 1, .cor, 0, .any, false⟩,
   ⟨0x34, 3, 1, .cor, 0, .any, false⟩,
   ⟨0x34, 2, 1, .cor, 0, .any, false⟩,
   ⟨0x34, 1, 1, .cor, 0, .any, false⟩,
   ⟨0x34, 0, 1, .cor, 0, .any, false⟩,
   ⟨0x40, 9, 1, .hwv, 0, .any, false⟩] ++
  [⟨0x44, 9, 1, .hwv, 0, .any, false⟩,
   ⟨0x40, 8, 1, .hwv, 0, .any, false⟩,
   ⟨0x44, 8, 1, .hwv, 0, .any, false⟩,
   ⟨0x40, 7, 1, .go, 0, .any, false⟩,
   ⟨0x44, 7, 1, .go, 0, .any, false⟩,
   ⟨0x40, 4, 3, .ctrl, 5, .any, false⟩,
   ⟨0x44, 4, 3, .ctrl, 5, .any, false⟩,
   ⟨0x40, 2, 2, .ctrl, 0, .any, false⟩,
   ⟨0x44, 2, 2, .ctrl, 0, .any, false⟩,
   ⟨0x40, 0, 2, .ctrl, 0, .any, false⟩,
   ⟨0x44, 0, 2, .ctrl, 0, .any, false⟩]

/-- TIME: 04 R80. -/
def fieldsTime (_ : Nat) : List FieldDef :=
  [⟨0x0, 0, 16, .hwv, 0, .any, false⟩,
   ⟨0x4, 0, 32, .hwv, 0, .any, false⟩,
   ⟨0x8, 0, 30, .hwv, 0, .any, false⟩,
   ⟨0xC, 0, 16, .hwv, 0, .any, false⟩,
   ⟨0x10, 24, 8, .ctrl, 1, .any, false⟩,
   ⟨0x10, 0, 24, .ctrl, 10066329, .any, false⟩,
   ⟨0x14, 0, 32, .ctrl, 2576980378, .any, false⟩,
   ⟨0x18, 0, 32, .hwv, 26843545, .any, false⟩,
   ⟨0x1C, 0, 32, .hwv, 2576980378, .any, false⟩,
   ⟨0x20, 1, 1, .ctrl, 0, .any, false⟩,
   ⟨0x20, 0, 1, .ctrl, 1, .any, false⟩,
   ⟨0x24, 5, 1, .hwv, 0, .any, false⟩,
   ⟨0x24, 4, 1, .hwv, 0, .any, false⟩,
   ⟨0x24, 3, 1, .hwv, 0, .any, false⟩,
   ⟨0x24, 2, 1, .hwv, 0, .any, false⟩,
   ⟨0x24, 1, 1, .hwv, 0, .any, false⟩,
   ⟨0x24, 0, 1, .hwv, 0, .any, false⟩,
   ⟨0x28, 5, 1, .cor, 0, .any, false⟩,
   ⟨0x28, 4, 1, .cor, 0, .any, false⟩,
   ⟨0x28, 3, 1, .cor, 0, .any, false⟩,
   ⟨0x28, 2, 1, .cor, 0, .any, false⟩,
   ⟨0x28, 1, 1, .cor, 0, .any, false⟩,
   ⟨0x28, 0, 1, .cor, 0, .any, false⟩,
   ⟨0x2C, 0, 20, .ctrl, 10000, .clamp 1 1000000, false⟩] ++
  [⟨0x30, 0, 24, .ctrl, 100, .min1, false⟩,
   ⟨0x38, 0, 32, .hwv, 0, .any, false⟩,
   ⟨0x3C, 0, 32, .hwv, 0, .any, false⟩,
   ⟨0x40, 0, 16, .hwv, 0, .any, true⟩,
   ⟨0x44, 0, 32, .hwv, 0, .any, false⟩,
   ⟨0x48, 0, 30, .hwv, 0, .any, false⟩,
   ⟨0x4C, 0, 16, .hwv, 0, .any, false⟩]

/-- REF: 02 R30, 06 R138. -/
def fieldsRef (_ : Nat) : List FieldDef :=
  [⟨0x40, 16, 10, .ctrl, 600, .min1, false⟩,
   ⟨0x40, 3, 1, .hwv, 0, .any, false⟩,
   ⟨0x40, 2, 1, .hwv, 0, .any, false⟩,
   ⟨0x40, 0, 2, .ctrl, 0, .any, false⟩,
   ⟨0x0, 16, 16, .ctrl, 300, .any, false⟩,
   ⟨0x0, 0, 16, .ctrl, 10, .min1, false⟩,
   ⟨0x4, 0, 16, .ctrl, 4000, .clamp 200 60000, false⟩,
   ⟨0x8, 0, 24, .ctrl, 5000, .min1, false⟩,
   ⟨0xC, 16, 16, .ctrl, 100, .clamp 10 3600, false⟩,
   ⟨0xC, 0, 16, .ctrl, 1000, .min1, false⟩,
   ⟨0x10, 16, 12, .ctrl, 120, .clamp 0 3600, false⟩,
   ⟨0x10, 0, 12, .ctrl, 600, .clamp 60 3600, false⟩,
   ⟨0x14, 15, 1, .hwv, 0, .any, false⟩,
   ⟨0x14, 14, 1, .hwv, 0, .any, false⟩,
   ⟨0x14, 13, 1, .hwv, 0, .any, false⟩,
   ⟨0x14, 12, 1, .hwv, 0, .any, false⟩,
   ⟨0x14, 8, 4, .hwv, 15, .any, false⟩,
   ⟨0x14, 4, 4, .hwv, 15, .any, false⟩,
   ⟨0x14, 0, 4, .hwv, 15, .any, false⟩,
   ⟨0x18, 6, 1, .cor, 0, .any, false⟩,
   ⟨0x18, 5, 1, .cor, 0, .any, false⟩,
   ⟨0x18, 4, 1, .cor, 0, .any, false⟩,
   ⟨0x18, 3, 1, .cor, 0, .any, false⟩,
   ⟨0x18, 2, 1, .cor, 0, .any, false⟩] ++
  [⟨0x18, 1, 1, .cor, 0, .any, false⟩,
   ⟨0x18, 0, 1, .cor, 0, .any, false⟩,
   ⟨0x1C, 0, 22, .hwv, 0, .any, true⟩,
   ⟨0x20, 0, 32, .hwv, 0, .any, false⟩,
   ⟨0x24, 0, 13, .hwv, 0, .any, false⟩,
   ⟨0x28, 0, 32, .ctrl, 100000, .min1, false⟩]

/-- PTPG: 05 R111, 10 R228. -/
def fieldsPtpg (_ : Nat) : List FieldDef :=
  [⟨0x1000, 24, 8, .ctrl, 52, .any, false⟩,
   ⟨0x1000, 16, 8, .ctrl, 128, .any, false⟩,
   ⟨0x1000, 8, 8, .ctrl, 128, .any, false⟩,
   ⟨0x1000, 0, 8, .ctrl, 0, .any, false⟩,
   ⟨0x1004, 19, 1, .ctrl, 1, .any, false⟩,
   ⟨0x1004, 18, 1, .ctrl, 0, .any, false⟩,
   ⟨0x1004, 17, 1, .ctrl, 0, .any, false⟩,
   ⟨0x1004, 16, 1, .ctrl, 0, .any, false⟩,
   ⟨0x1004, 0, 16, .ctrl, 0, .any, false⟩,
   ⟨0x1008, 0, 24, .ctrl, 3600, .any, false⟩,
   ⟨0x100C, 18, 1, .hwv, 0, .any, false⟩,
   ⟨0x100C, 17, 1, .hwv, 0, .any, false⟩,
   ⟨0x100C, 16, 1, .hwv, 0, .any, false⟩,
   ⟨0x100C, 8, 8, .hwv, 254, .any, false⟩,
   ⟨0x100C, 0, 8, .hwv, 248, .any, false⟩,
   ⟨0x1010, 1, 2, .ctrl, 0, .any, false⟩,
   ⟨0x1010, 0, 1, .ctrl, 0, .any, false⟩,
   ⟨0x1100, 8, 8, .hwv, 0, .any, false⟩,
   ⟨0x1100, 2, 1, .hwv, 0, .any, false⟩,
   ⟨0x1100, 1, 1, .hwv, 0, .any, false⟩,
   ⟨0x1100, 0, 1, .hwv, 0, .any, false⟩]

/-- JG: 07 R155. -/
def fieldsJg (_ : Nat) : List FieldDef :=
  [⟨0x1000, 16, 3, .hwv, 7, .any, false⟩,
   ⟨0x1000, 8, 6, .hwv, 0, .any, false⟩,
   ⟨0x1000, 2, 3, .hwv, 0, .any, false⟩,
   ⟨0x1000, 0, 2, .hwv, 0, .any, false⟩,
   ⟨0x1004, 0, 16, .hwv, 0, .any, false⟩]

/-- PAIR: 08 R175. -/
def fieldsPair (_ : Nat) : List FieldDef :=
  [⟨0x0, 8, 8, .ctrl, 10, .min1, false⟩,
   ⟨0x0, 0, 8, .ctrl, 10, .min1, false⟩,
   ⟨0x4, 10, 3, .hwv, 7, .any, false⟩,
   ⟨0x4, 9, 1, .hwv, 0, .any, false⟩,
   ⟨0x4, 8, 1, .hwv, 0, .any, false⟩,
   ⟨0x4, 7, 1, .hwv, 0, .any, false⟩,
   ⟨0x4, 6, 1, .hwv, 0, .any, false⟩,
   ⟨0x4, 4, 2, .hwv, 0, .any, false⟩,
   ⟨0x4, 2, 2, .hwv, 0, .any, false⟩,
   ⟨0x4, 1, 1, .hwv, 0, .any, false⟩,
   ⟨0x4, 0, 1, .hwv, 0, .any, false⟩,
   ⟨0x8, 7, 1, .cor, 0, .any, false⟩,
   ⟨0x8, 6, 1, .cor, 0, .any, false⟩,
   ⟨0x8, 5, 1, .cor, 0, .any, false⟩,
   ⟨0x8, 4, 1, .cor, 0, .any, false⟩,
   ⟨0x8, 3, 1, .cor, 0, .any, false⟩,
   ⟨0x8, 2, 1, .cor, 0, .any, false⟩,
   ⟨0x8, 1, 1, .cor, 0, .any, false⟩,
   ⟨0x8, 0, 1, .cor, 0, .any, false⟩,
   ⟨0xC, 16, 16, .hwv, 0, .any, false⟩,
   ⟨0xC, 0, 16, .hwv, 0, .any, false⟩,
   ⟨0x10, 0, 32, .hwv, 0, .any, false⟩,
   ⟨0x14, 0, 32, .hwv, 4294967295, .any, false⟩,
   ⟨0x18, 0, 32, .cnt, 0, .any, false⟩] ++
  [⟨0x1C, 0, 32, .cnt, 0, .any, false⟩,
   ⟨0x20, 0, 32, .cnt, 0, .any, false⟩]

/-- FAB: 09 R201. -/
def fieldsFab (_ : Nat) : List FieldDef :=
  [⟨0x0, 16, 16, .ctrl, 300, .min1, false⟩,
   ⟨0x0, 0, 1, .ctrl, 1, .any, false⟩,
   ⟨0x4, 0, 17, .ctrl, 4000, .clamp 1000 100000, false⟩,
   ⟨0x8, 0, 17, .ctrl, 4096, .any, false⟩,
   ⟨0xC, 0, 18, .hwv, 131072, .any, false⟩,
   ⟨0x10, 0, 27, .hwv, 0, .any, false⟩,
   ⟨0x14, 3, 1, .cor, 0, .any, false⟩,
   ⟨0x14, 2, 1, .cor, 0, .any, false⟩,
   ⟨0x14, 1, 1, .cor, 0, .any, false⟩,
   ⟨0x14, 0, 1, .cor, 0, .any, false⟩,
   ⟨0x18, 0, 32, .cnt, 0, .any, false⟩,
   ⟨0x1C, 0, 17, .hwv, 0, .any, false⟩]

/-- GAUGE: 11 R244. -/
def fieldsGauge (_ : Nat) : List FieldDef :=
  [⟨0x0, 0, 16, .hwv, 0, .any, false⟩,
   ⟨0x4, 0, 32, .hwv, 0, .any, false⟩,
   ⟨0x8, 0, 32, .cnt, 0, .any, false⟩,
   ⟨0xC, 2, 1, .cor, 0, .any, false⟩,
   ⟨0xC, 1, 1, .cor, 0, .any, false⟩,
   ⟨0xC, 0, 1, .cor, 0, .any, false⟩]

/-- GNSS: 12 R262. -/
def fieldsGnss (_ : Nat) : List FieldDef :=
  [⟨0x0, 8, 1, .ctrl, 1, .any, false⟩,
   ⟨0x0, 5, 1, .ctrl, 0, .any, false⟩,
   ⟨0x0, 4, 1, .ctrl, 0, .any, false⟩,
   ⟨0x0, 2, 2, .ctrl, 0, .any, false⟩,
   ⟨0x0, 0, 1, .ctrl, 1, .any, false⟩,
   ⟨0x4, 0, 24, .ctrl, 0, .sclamp (-5000000) 5000000, true⟩,
   ⟨0x8, 24, 8, .ctrl, 25, .any, false⟩,
   ⟨0x8, 16, 5, .ctrl, 10, .clamp 1 20, false⟩,
   ⟨0xC, 24, 8, .ctrl, 10, .clamp 1 30, false⟩,
   ⟨0xC, 16, 8, .ctrl, 25, .clamp 5 200, false⟩,
   ⟨0xC, 8, 8, .ctrl, 25, .any, false⟩,
   ⟨0xC, 0, 2, .ctrl, 1, .any, false⟩,
   ⟨0x10, 24, 8, .ctrl, 60, .any, false⟩,
   ⟨0x10, 16, 8, .ctrl, 30, .any, false⟩,
   ⟨0x10, 8, 8, .ctrl, 10, .any, false⟩,
   ⟨0x10, 0, 4, .ctrl, 2, .clamp 1 12, false⟩,
   ⟨0x14, 0, 24, .ctrl, 3600, .min1, false⟩,
   ⟨0x18, 0, 16, .ctrl, 2360, .any, false⟩,
   ⟨0x1C, 0, 32, .ctrl, 0, .any, false⟩,
   ⟨0x20, 0, 32, .hwv, 0, .any, false⟩,
   ⟨0x24, 8, 8, .ctrl, 80, .any, false⟩,
   ⟨0x24, 0, 8, .ctrl, 48, .any, false⟩,
   ⟨0x28, 24, 8, .hwv, 255, .any, false⟩,
   ⟨0x28, 13, 1, .hwv, 0, .any, false⟩] ++
  [⟨0x28, 12, 1, .hwv, 0, .any, false⟩,
   ⟨0x28, 11, 1, .hwv, 0, .any, false⟩,
   ⟨0x28, 10, 1, .hwv, 0, .any, false⟩,
   ⟨0x28, 9, 1, .hwv, 0, .any, false⟩,
   ⟨0x28, 7, 2, .hwv, 0, .any, false⟩,
   ⟨0x28, 0, 5, .hwv, 0, .any, false⟩,
   ⟨0x2C, 5, 1, .cor, 0, .any, false⟩,
   ⟨0x2C, 4, 1, .cor, 0, .any, false⟩,
   ⟨0x2C, 3, 1, .cor, 0, .any, false⟩,
   ⟨0x2C, 2, 1, .cor, 0, .any, false⟩,
   ⟨0x2C, 1, 1, .cor, 0, .any, false⟩,
   ⟨0x2C, 0, 1, .cor, 0, .any, false⟩,
   ⟨0x30, 0, 32, .hwv, 0, .any, false⟩,
   ⟨0x34, 0, 32, .hwv, 0, .any, false⟩,
   ⟨0x38, 0, 32, .hwv, 0, .any, false⟩,
   ⟨0x3C, 0, 32, .hwv, 0, .any, false⟩,
   ⟨0x40, 0, 32, .hwv, 0, .any, false⟩,
   ⟨0x44, 0, 32, .hwv, 0, .any, false⟩,
   ⟨0x48, 0, 24, .hwv, 0, .any, false⟩,
   ⟨0x4C, 0, 32, .cnt, 0, .any, false⟩]

/-- ENG: 13 R284. -/
def fieldsEng (_ : Nat) : List FieldDef :=
  [⟨0x0, 16, 16, .guard, 1000, .min1, false⟩,
   ⟨0x0, 8, 6, .guard, 30, .clamp 0 40, false⟩,
   ⟨0x0, 0, 3, .guard, 0, .any, false⟩,
   ⟨0x4, 0, 24, .guard, 1000, .any, false⟩,
   ⟨0x8, 1, 1, .hwv, 0, .any, false⟩,
   ⟨0x8, 0, 1, .hwv, 0, .any, false⟩,
   ⟨0xC, 6, 1, .cor, 0, .any, false⟩,
   ⟨0xC, 5, 1, .cor, 0, .any, false⟩,
   ⟨0xC, 4, 1, .cor, 0, .any, false⟩,
   ⟨0xC, 3, 1, .cor, 0, .any, false⟩,
   ⟨0xC, 2, 1, .cor, 0, .any, false⟩,
   ⟨0xC, 1, 1, .cor, 0, .any, false⟩,
   ⟨0xC, 0, 1, .cor, 0, .any, false⟩,
   ⟨0x10, 18, 4, .hwv, 0, .any, false⟩,
   ⟨0x10, 0, 18, .hwv, 0, .any, false⟩]

/-- PERF: 13 R285. -/
def fieldsPerf (_ : Nat) : List FieldDef :=
  [⟨0x0, 0, 1, .ctrl, 0, .any, false⟩,
   ⟨0x4, 30, 2, .ctrl, 0, .any, false⟩,
   ⟨0x4, 29, 1, .ctrl, 0, .any, false⟩,
   ⟨0x4, 28, 1, .go, 0, .any, false⟩,
   ⟨0x4, 0, 16, .ctrl, 61440, .any, false⟩,
   ⟨0x8, 0, 20, .ctrl, 4096, .min1, false⟩,
   ⟨0xC, 16, 12, .ctrl, 4095, .any, false⟩,
   ⟨0xC, 0, 12, .ctrl, 0, .any, false⟩,
   ⟨0x10, 16, 16, .ctrl, 0, .any, false⟩,
   ⟨0x10, 0, 16, .ctrl, 44257, .min1, false⟩,
   ⟨0x14, 31, 1, .hwv, 0, .any, false⟩,
   ⟨0x14, 0, 11, .hwv, 0, .any, false⟩,
   ⟨0x18, 0, 32, .cnt, 0, .any, false⟩,
   ⟨0x20, 0, 32, .ctrl, 0, .any, false⟩,
   ⟨0x24, 0, 32, .ctrl, 0, .any, false⟩,
   ⟨0x28, 0, 32, .ctrl, 0, .any, false⟩,
   ⟨0x2C, 0, 32, .ctrl, 0, .any, false⟩,
   ⟨0x30, 0, 32, .cor, 0, .any, false⟩,
   ⟨0x34, 0, 32, .cor, 0, .any, false⟩,
   ⟨0x38, 0, 32, .cor, 0, .any, false⟩,
   ⟨0x3C, 0, 32, .cor, 0, .any, false⟩]

/-- CAL: 14 R301. -/
def fieldsCal (_ : Nat) : List FieldDef :=
  [⟨0x0, 0, 1, .ctrl, 0, .any, false⟩,
   ⟨0x4, 14, 2, .hwv, 0, .any, false⟩,
   ⟨0x4, 12, 2, .hwv, 0, .any, false⟩,
   ⟨0x4, 9, 3, .hwv, 0, .any, false⟩,
   ⟨0x4, 6, 3, .hwv, 0, .any, false⟩,
   ⟨0x4, 3, 1, .hwv, 0, .any, false⟩,
   ⟨0x4, 2, 1, .hwv, 0, .any, false⟩,
   ⟨0x4, 1, 1, .hwv, 0, .any, false⟩,
   ⟨0x4, 0, 1, .hwv, 0, .any, false⟩,
   ⟨0x8, 5, 1, .cor, 0, .any, false⟩,
   ⟨0x8, 4, 1, .cor, 0, .any, false⟩,
   ⟨0x8, 3, 1, .cor, 0, .any, false⟩,
   ⟨0x8, 2, 1, .cor, 0, .any, false⟩,
   ⟨0x8, 1, 1, .cor, 0, .any, false⟩,
   ⟨0x8, 0, 1, .cor, 0, .any, false⟩,
   ⟨0xC, 0, 32, .hwv, 0, .any, false⟩,
   ⟨0x10, 0, 16, .hwv, 0, .any, true⟩,
   ⟨0x14, 0, 32, .hwv, 0, .any, false⟩,
   ⟨0x18, 0, 4, .hwv, 0, .any, false⟩,
   ⟨0x1C, 0, 10, .hwv, 0, .any, false⟩]

/-- SEC: 17 R355. -/
def fieldsSec (_ : Nat) : List FieldDef :=
  [⟨0x0, 8, 6, .hwv, 0, .any, false⟩,
   ⟨0x0, 5, 1, .hwv, 0, .any, false⟩,
   ⟨0x0, 4, 1, .hwv, 0, .any, false⟩,
   ⟨0x0, 3, 1, .hwv, 0, .any, false⟩,
   ⟨0x0, 2, 1, .hwv, 0, .any, false⟩,
   ⟨0x0, 1, 1, .hwv, 0, .any, false⟩,
   ⟨0x0, 0, 1, .hwv, 0, .any, false⟩,
   ⟨0x4, 5, 1, .cor, 0, .any, false⟩,
   ⟨0x4, 4, 1, .cor, 0, .any, false⟩,
   ⟨0x4, 3, 1, .cor, 0, .any, false⟩,
   ⟨0x4, 2, 1, .cor, 0, .any, false⟩,
   ⟨0x4, 1, 1, .cor, 0, .any, false⟩,
   ⟨0x4, 0, 1, .cor, 0, .any, false⟩,
   ⟨0x8, 0, 32, .hwv, 0, .any, false⟩,
   ⟨0xC, 0, 32, .hwv, 0, .any, false⟩,
   ⟨0x10, 0, 2, .hwv, 0, .any, false⟩,
   ⟨0x14, 0, 1, .guard, 0, .any, false⟩,
   ⟨0x18, 28, 4, .hwv, 0, .any, false⟩,
   ⟨0x18, 24, 4, .hwv, 0, .any, false⟩,
   ⟨0x18, 16, 6, .hwv, 0, .any, false⟩,
   ⟨0x18, 8, 6, .hwv, 0, .any, false⟩,
   ⟨0x18, 4, 2, .hwv, 0, .any, false⟩,
   ⟨0x18, 0, 4, .hwv, 0, .any, false⟩,
   ⟨0x1C, 0, 6, .guard, 0, .any, false⟩] ++
  [⟨0x20, 0, 4, .guard, 0, .any, false⟩,
   ⟨0x40, 0, 32, .hwv, 0, .any, false⟩,
   ⟨0x44, 0, 32, .hwv, 0, .any, false⟩,
   ⟨0x48, 0, 32, .hwv, 0, .any, false⟩,
   ⟨0x4C, 0, 32, .hwv, 0, .any, false⟩,
   ⟨0x50, 0, 32, .hwv, 0, .any, false⟩,
   ⟨0x54, 0, 32, .hwv, 0, .any, false⟩,
   ⟨0x58, 0, 32, .hwv, 0, .any, false⟩,
   ⟨0x5C, 0, 32, .hwv, 0, .any, false⟩,
   ⟨0x60, 0, 32, .hwv, 0, .any, false⟩,
   ⟨0x64, 0, 32, .hwv, 0, .any, false⟩,
   ⟨0x68, 0, 32, .hwv, 0, .any, false⟩,
   ⟨0x6C, 0, 32, .hwv, 0, .any, false⟩,
   ⟨0x70, 0, 32, .hwv, 0, .any, false⟩,
   ⟨0x74, 0, 32, .hwv, 0, .any, false⟩,
   ⟨0x78, 0, 32, .hwv, 0, .any, false⟩,
   ⟨0x7C, 0, 32, .hwv, 0, .any, false⟩]

/-- AUD: 17 R356. -/
def fieldsAud (_ : Nat) : List FieldDef :=
  [⟨0x0, 0, 1, .guard, 0, .any, false⟩,
   ⟨0x4, 17, 1, .hwv, 0, .any, false⟩,
   ⟨0x4, 16, 1, .hwv, 0, .any, false⟩,
   ⟨0x4, 0, 14, .hwv, 0, .any, false⟩,
   ⟨0x8, 1, 1, .cor, 0, .any, false⟩,
   ⟨0x8, 0, 1, .cor, 0, .any, false⟩,
   ⟨0xC, 0, 32, .hwv, 0, .any, false⟩,
   ⟨0x10, 0, 32, .hwv, 0, .any, false⟩,
   ⟨0x14, 0, 32, .hwv, 0, .any, false⟩,
   ⟨0x18, 0, 32, .cnt, 0, .any, false⟩,
   ⟨0x1C, 0, 32, .cnt, 0, .any, false⟩]

/-- CMD: 15 R318. -/
def fieldsCmd (_ : Nat) : List FieldDef :=
  [⟨0x0, 2, 1, .cor, 0, .any, false⟩,
   ⟨0x0, 1, 1, .cor, 0, .any, false⟩,
   ⟨0x0, 0, 1, .cor, 0, .any, false⟩,
   ⟨0x4, 0, 4, .hwv, 8, .any, false⟩,
   ⟨0x10, 16, 5, .hwv, 0, .any, false⟩,
   ⟨0x14, 16, 5, .hwv, 0, .any, false⟩,
   ⟨0x18, 16, 5, .hwv, 0, .any, false⟩,
   ⟨0x1C, 16, 5, .hwv, 0, .any, false⟩,
   ⟨0x10, 8, 1, .hwv, 0, .any, false⟩,
   ⟨0x14, 8, 1, .hwv, 0, .any, false⟩,
   ⟨0x18, 8, 1, .hwv, 0, .any, false⟩,
   ⟨0x1C, 8, 1, .hwv, 0, .any, false⟩,
   ⟨0x20, 0, 6, .ctrl, 0, .any, false⟩,
   ⟨0x24, 0, 6, .ctrl, 1, .any, false⟩,
   ⟨0x28, 0, 6, .ctrl, 2, .any, false⟩,
   ⟨0x2C, 0, 6, .ctrl, 3, .any, false⟩,
   ⟨0x30, 0, 32, .cnt, 0, .any, false⟩,
   ⟨0x34, 0, 32, .cnt, 0, .any, false⟩,
   ⟨0x38, 0, 32, .cnt, 0, .any, false⟩,
   ⟨0x3C, 0, 32, .cnt, 0, .any, false⟩]

/-- DLL: 03 R60. -/
def fieldsDll (_ : Nat) : List FieldDef :=
  [⟨0x0, 16, 11, .ctrl, 64, .clamp 8 1024, false⟩,
   ⟨0x0, 1, 1, .go, 0, .any, false⟩,
   ⟨0x0, 0, 1, .ctrl, 1, .any, false⟩,
   ⟨0x4, 15, 1, .hwv, 0, .any, false⟩,
   ⟨0x4, 14, 1, .hwv, 0, .any, false⟩,
   ⟨0x4, 13, 1, .hwv, 1, .any, false⟩,
   ⟨0x4, 12, 1, .hwv, 0, .any, false⟩,
   ⟨0x4, 8, 3, .hwv, 0, .any, false⟩,
   ⟨0x4, 0, 8, .hwv, 0, .any, false⟩]

/-- OUT: 04 R80. -/
def fieldsOutw (n : Nat) : List FieldDef :=
  [⟨0x0, 10, 1, .hwv, 0, .any, false⟩,
   ⟨0x0, 9, 1, .hwv, 0, .any, false⟩,
   ⟨0x0, 8, 1, .hwv, 0, .any, false⟩,
   ⟨0x0, 4, 1, .go, 0, .any, false⟩,
   ⟨0x0, 1, 2, .ctrl, 0, .any, false⟩,
   ⟨0x0, 0, 1, .ctrl, (if n < 6 then 1 else 0), .any, false⟩,
   ⟨0x4, 0, 32, .ctrl, 500000000, .clamp 40 4294967295, false⟩,
   ⟨0x8, 0, 16, .ctrl, 0, .any, false⟩,
   ⟨0xC, 0, 32, .ctrl, 0, .any, false⟩,
   ⟨0x10, 0, 30, .ctrl, 0, .any, false⟩,
   ⟨0x14, 0, 16, .ctrl, 0, .any, false⟩,
   ⟨0x18, 0, 32, .ctrl, 1, .any, false⟩,
   ⟨0x1C, 0, 30, .ctrl, 0, .any, false⟩,
   ⟨0x20, 0, 16, .ctrl, 0, .any, false⟩,
   ⟨0x24, 0, 9, .ctrl, 0, .any, true⟩,
   ⟨0x28, 0, 32, .ctrl, 0, .any, false⟩,
   ⟨0x2C, 0, 9, .ctrl, 0, .any, true⟩,
   ⟨0x30, 0, 32, .ctrl, 0, .any, false⟩,
   ⟨0x34, 0, 16, .hwv, 0, .any, false⟩,
   ⟨0x38, 0, 32, .hwv, 0, .any, false⟩,
   ⟨0x3C, 0, 30, .hwv, 0, .any, false⟩,
   ⟨0x40, 0, 16, .hwv, 0, .any, false⟩]

/-- SLOT: 06 R138. -/
def fieldsSlot (_ : Nat) : List FieldDef :=
  [⟨0x0, 15, 1, .ctrl, 0, .any, false⟩,
   ⟨0x0, 14, 1, .ctrl, 0, .any, false⟩,
   ⟨0x0, 8, 4, .ctrl, 15, .min1, false⟩,
   ⟨0x0, 6, 2, .ctrl, 0, .any, false⟩,
   ⟨0x0, 0, 6, .ctrl, 0, .any, false⟩,
   ⟨0x4, 16, 16, .hwv, 0, .any, false⟩,
   ⟨0x4, 7, 1, .hwv, 0, .any, false⟩,
   ⟨0x4, 6, 1, .hwv, 0, .any, false⟩,
   ⟨0x4, 5, 1, .hwv, 0, .any, false⟩,
   ⟨0x4, 4, 1, .hwv, 0, .any, false⟩,
   ⟨0x4, 3, 1, .hwv, 0, .any, false⟩,
   ⟨0x4, 2, 1, .hwv, 0, .any, false⟩,
   ⟨0x4, 1, 1, .hwv, 0, .any, false⟩,
   ⟨0x4, 0, 1, .hwv, 0, .any, false⟩,
   ⟨0x8, 0, 22, .hwv, 0, .any, true⟩,
   ⟨0xC, 0, 32, .hwv, 0, .any, false⟩,
   ⟨0x10, 0, 16, .hwv, 0, .any, true⟩,
   ⟨0x14, 0, 32, .hwv, 0, .any, false⟩,
   ⟨0x18, 0, 32, .hwv, 0, .any, false⟩]

/-- PORT: 05 R110, 10 R226, 10 R228. -/
def fieldsPort (_ : Nat) : List FieldDef :=
  [⟨0x0, 8, 8, .ctrl, 32, .clamp 4 255, false⟩,
   ⟨0x0, 7, 1, .ctrl, 0, .any, false⟩,
   ⟨0x0, 6, 1, .ctrl, 1, .any, false⟩,
   ⟨0x0, 5, 1, .ctrl, 0, .any, false⟩,
   ⟨0x0, 3, 2, .ctrl, 0, .any, false⟩,
   ⟨0x0, 1, 1, .ctrl, 1, .any, false⟩,
   ⟨0x0, 0, 1, .ctrl, 1, .any, false⟩,
   ⟨0x4, 31, 1, .hwv, 0, .any, false⟩,
   ⟨0x4, 30, 1, .hwv, 0, .any, false⟩,
   ⟨0x4, 26, 4, .hwv, 0, .any, false⟩,
   ⟨0x4, 0, 18, .hwv, 0, .any, false⟩,
   ⟨0x8, 5, 1, .hwv, 0, .any, false⟩,
   ⟨0x8, 4, 1, .hwv, 0, .any, false⟩,
   ⟨0x8, 3, 1, .hwv, 0, .any, false⟩,
   ⟨0x8, 2, 1, .hwv, 0, .any, false⟩,
   ⟨0x8, 1, 1, .hwv, 0, .any, false⟩,
   ⟨0x8, 0, 1, .hwv, 0, .any, false⟩,
   ⟨0xC, 5, 1, .cor, 0, .any, false⟩,
   ⟨0xC, 4, 1, .cor, 0, .any, false⟩,
   ⟨0xC, 3, 1, .cor, 0, .any, false⟩,
   ⟨0xC, 2, 1, .cor, 0, .any, false⟩,
   ⟨0xC, 1, 1, .cor, 0, .any, false⟩,
   ⟨0xC, 0, 1, .cor, 0, .any, false⟩,
   ⟨0x10, 0, 32, .ctrl, 0, .any, false⟩] ++
  [⟨0x14, 0, 32, .ctrl, 0, .any, false⟩,
   ⟨0x18, 0, 32, .ctrl, 0, .any, false⟩,
   ⟨0x1C, 16, 8, .ctrl, 20, .any, false⟩,
   ⟨0x1C, 0, 16, .ctrl, 600, .any, false⟩,
   ⟨0x20, 0, 16, .hwv, 0, .any, false⟩,
   ⟨0x24, 0, 32, .hwv, 0, .any, false⟩,
   ⟨0x28, 0, 16, .hwv, 0, .any, true⟩,
   ⟨0x2C, 0, 32, .hwv, 0, .any, false⟩,
   ⟨0x30, 0, 32, .hwv, 0, .any, false⟩,
   ⟨0x34, 0, 32, .hwv, 0, .any, false⟩,
   ⟨0x38, 0, 32, .hwv, 0, .any, false⟩,
   ⟨0x3C, 0, 16, .hwv, 0, .any, false⟩,
   ⟨0x40, 16, 8, .ctrl, 252, .sclamp (-7) 4, false⟩,
   ⟨0x40, 8, 8, .ctrl, 252, .sclamp (-7) 4, false⟩,
   ⟨0x40, 0, 8, .ctrl, 0, .sclamp (-3) 4, false⟩,
   ⟨0x44, 10, 2, .ctrl, 0, .any, false⟩,
   ⟨0x44, 4, 6, .ctrl, 0, .any, false⟩,
   ⟨0x44, 3, 1, .ctrl, 0, .any, false⟩,
   ⟨0x44, 2, 1, .ctrl, 0, .any, false⟩,
   ⟨0x44, 0, 2, .ctrl, 0, .any, false⟩,
   ⟨0x80, 7, 1, .ctrl, 0, .any, false⟩,
   ⟨0x80, 6, 1, .ctrl, 1, .any, false⟩,
   ⟨0x80, 4, 2, .ctrl, 0, .any, false⟩,
   ⟨0x80, 0, 2, .ctrl, 0, .any, false⟩] ++
  [⟨0x84, 3, 1, .hwv, 0, .any, false⟩,
   ⟨0x84, 2, 1, .hwv, 0, .any, false⟩,
   ⟨0x84, 1, 1, .hwv, 0, .any, false⟩,
   ⟨0x84, 0, 1, .hwv, 0, .any, false⟩,
   ⟨0x88, 2, 1, .cor, 0, .any, false⟩,
   ⟨0x88, 1, 1, .cor, 0, .any, false⟩,
   ⟨0x88, 0, 1, .cor, 0, .any, false⟩,
   ⟨0x8C, 0, 32, .cnt, 0, .any, false⟩,
   ⟨0x90, 0, 32, .cnt, 0, .any, false⟩,
   ⟨0x94, 0, 32, .cnt, 0, .any, false⟩,
   ⟨0x98, 25, 5, .ctrl, 8, .any, false⟩,
   ⟨0x9C, 25, 5, .ctrl, 8, .any, false⟩,
   ⟨0x98, 21, 4, .ctrl, 4, .any, false⟩,
   ⟨0x9C, 21, 4, .ctrl, 4, .any, false⟩,
   ⟨0x98, 15, 6, .ctrl, 0, .any, false⟩,
   ⟨0x9C, 15, 6, .ctrl, 0, .any, false⟩,
   ⟨0x98, 9, 6, .ctrl, 63, .any, false⟩,
   ⟨0x9C, 9, 6, .ctrl, 63, .any, false⟩,
   ⟨0x98, 4, 5, .ctrl, 0, .any, false⟩,
   ⟨0x9C, 4, 5, .ctrl, 0, .any, false⟩,
   ⟨0x98, 0, 1, .hwv, 0, .any, false⟩,
   ⟨0x9C, 0, 1, .hwv, 0, .any, false⟩]

/-- LINK: 07 R155, 10 R227, 10 R228. -/
def fieldsLink (_ : Nat) : List FieldDef :=
  [⟨0x0, 3, 1, .ctrl, 1, .any, false⟩,
   ⟨0x0, 2, 1, .go, 0, .any, false⟩,
   ⟨0x0, 0, 2, .ctrl, 0, .any, false⟩,
   ⟨0x4, 16, 16, .hwv, 0, .any, false⟩,
   ⟨0x4, 9, 3, .hwv, 0, .any, false⟩,
   ⟨0x4, 8, 1, .hwv, 0, .any, false⟩,
   ⟨0x4, 7, 1, .hwv, 0, .any, false⟩,
   ⟨0x4, 6, 1, .hwv, 0, .any, false⟩,
   ⟨0x4, 5, 1, .hwv, 0, .any, false⟩,
   ⟨0x4, 4, 1, .hwv, 0, .any, false⟩,
   ⟨0x4, 0, 4, .hwv, 0, .any, false⟩,
   ⟨0x8, 6, 1, .cor, 0, .any, false⟩,
   ⟨0x8, 5, 1, .cor, 0, .any, false⟩,
   ⟨0x8, 4, 1, .cor, 0, .any, false⟩,
   ⟨0x8, 3, 1, .cor, 0, .any, false⟩,
   ⟨0x8, 2, 1, .cor, 0, .any, false⟩,
   ⟨0x8, 1, 1, .cor, 0, .any, false⟩,
   ⟨0x8, 0, 1, .cor, 0, .any, false⟩,
   ⟨0xC, 0, 32, .ctrl, 0, .any, false⟩,
   ⟨0x10, 0, 16, .hwv, 0, .any, false⟩,
   ⟨0x14, 0, 32, .hwv, 0, .any, false⟩,
   ⟨0x18, 0, 16, .hwv, 0, .any, false⟩,
   ⟨0x1C, 0, 32, .hwv, 0, .any, false⟩,
   ⟨0x20, 0, 18, .hwv, 0, .any, false⟩] ++
  [⟨0x24, 0, 32, .cnt, 0, .any, false⟩,
   ⟨0x28, 0, 32, .cnt, 0, .any, false⟩,
   ⟨0x2C, 0, 32, .cnt, 0, .any, false⟩,
   ⟨0x80, 15, 1, .hwv, 0, .any, false⟩,
   ⟨0x84, 15, 1, .hwv, 0, .any, false⟩,
   ⟨0x88, 15, 1, .hwv, 0, .any, false⟩,
   ⟨0x8C, 15, 1, .hwv, 0, .any, false⟩,
   ⟨0x80, 14, 1, .hwv, 0, .any, false⟩,
   ⟨0x84, 14, 1, .hwv, 0, .any, false⟩,
   ⟨0x88, 14, 1, .hwv, 0, .any, false⟩,
   ⟨0x8C, 14, 1, .hwv, 0, .any, false⟩,
   ⟨0x80, 13, 1, .hwv, 0, .any, false⟩,
   ⟨0x84, 13, 1, .hwv, 0, .any, false⟩,
   ⟨0x88, 13, 1, .hwv, 0, .any, false⟩,
   ⟨0x8C, 13, 1, .hwv, 0, .any, false⟩,
   ⟨0x80, 10, 3, .hwv, 7, .any, false⟩,
   ⟨0x84, 10, 3, .hwv, 7, .any, false⟩,
   ⟨0x88, 10, 3, .hwv, 7, .any, false⟩,
   ⟨0x8C, 10, 3, .hwv, 7, .any, false⟩,
   ⟨0x80, 0, 6, .hwv, 0, .any, false⟩,
   ⟨0x84, 0, 6, .hwv, 0, .any, false⟩,
   ⟨0x88, 0, 6, .hwv, 0, .any, false⟩,
   ⟨0x8C, 0, 6, .hwv, 0, .any, false⟩,
   ⟨0x90, 0, 1, .hwv, 0, .any, false⟩] ++
  [⟨0x94, 1, 1, .hwv, 0, .any, false⟩,
   ⟨0x94, 0, 1, .hwv, 0, .any, false⟩,
   ⟨0x98, 4, 1, .cor, 0, .any, false⟩,
   ⟨0x98, 3, 1, .cor, 0, .any, false⟩,
   ⟨0x98, 2, 1, .cor, 0, .any, false⟩,
   ⟨0x98, 1, 1, .cor, 0, .any, false⟩,
   ⟨0x98, 0, 1, .cor, 0, .any, false⟩,
   ⟨0x9C, 0, 32, .cnt, 0, .any, false⟩,
   ⟨0xA0, 0, 32, .cnt, 0, .any, false⟩,
   ⟨0xA4, 0, 32, .cnt, 0, .any, false⟩,
   ⟨0xA8, 0, 32, .cnt, 0, .any, false⟩,
   ⟨0xAC, 25, 5, .ctrl, 8, .any, false⟩,
   ⟨0xB0, 25, 5, .ctrl, 8, .any, false⟩,
   ⟨0xB4, 25, 5, .ctrl, 8, .any, false⟩,
   ⟨0xB8, 25, 5, .ctrl, 8, .any, false⟩,
   ⟨0xBC, 25, 5, .ctrl, 8, .any, false⟩,
   ⟨0xAC, 21, 4, .ctrl, 4, .any, false⟩,
   ⟨0xB0, 21, 4, .ctrl, 4, .any, false⟩,
   ⟨0xB4, 21, 4, .ctrl, 4, .any, false⟩,
   ⟨0xB8, 21, 4, .ctrl, 4, .any, false⟩,
   ⟨0xBC, 21, 4, .ctrl, 4, .any, false⟩,
   ⟨0xAC, 15, 6, .ctrl, 0, .any, false⟩,
   ⟨0xB0, 15, 6, .ctrl, 0, .any, false⟩,
   ⟨0xB4, 15, 6, .ctrl, 0, .any, false⟩] ++
  [⟨0xB8, 15, 6, .ctrl, 0, .any, false⟩,
   ⟨0xBC, 15, 6, .ctrl, 0, .any, false⟩,
   ⟨0xAC, 9, 6, .ctrl, 63, .any, false⟩,
   ⟨0xB0, 9, 6, .ctrl, 63, .any, false⟩,
   ⟨0xB4, 9, 6, .ctrl, 63, .any, false⟩,
   ⟨0xB8, 9, 6, .ctrl, 63, .any, false⟩,
   ⟨0xBC, 9, 6, .ctrl, 63, .any, false⟩,
   ⟨0xAC, 4, 5, .ctrl, 0, .any, false⟩,
   ⟨0xB0, 4, 5, .ctrl, 0, .any, false⟩,
   ⟨0xB4, 4, 5, .ctrl, 0, .any, false⟩,
   ⟨0xB8, 4, 5, .ctrl, 0, .any, false⟩,
   ⟨0xBC, 4, 5, .ctrl, 0, .any, false⟩,
   ⟨0xAC, 0, 1, .hwv, 0, .any, false⟩,
   ⟨0xB0, 0, 1, .hwv, 0, .any, false⟩,
   ⟨0xB4, 0, 1, .hwv, 0, .any, false⟩,
   ⟨0xB8, 0, 1, .hwv, 0, .any, false⟩,
   ⟨0xBC, 0, 1, .hwv, 0, .any, false⟩]

/-- FP: 09 R202. -/
def fieldsFport (_ : Nat) : List FieldDef :=
  [⟨0x0, 31, 1, .ctrl, 0, .any, false⟩,
   ⟨0x0, 30, 1, .ctrl, 1, .any, false⟩,
   ⟨0x0, 28, 2, .ctrl, 0, .any, false⟩,
   ⟨0x0, 24, 1, .ctrl, 0, .any, false⟩,
   ⟨0x0, 0, 12, .ctrl, 1, .any, false⟩,
   ⟨0x4, 0, 24, .ctrl, 16434824, .any, false⟩,
   ⟨0x8, 31, 1, .hwv, 0, .any, false⟩,
   ⟨0x8, 30, 1, .hwv, 0, .any, false⟩,
   ⟨0x8, 29, 1, .hwv, 0, .any, false⟩,
   ⟨0x8, 28, 1, .hwv, 0, .any, false⟩,
   ⟨0x8, 27, 1, .hwv, 0, .any, false⟩,
   ⟨0x8, 8, 8, .hwv, 255, .any, false⟩,
   ⟨0x8, 0, 8, .hwv, 0, .any, false⟩,
   ⟨0x10, 0, 32, .cnt, 0, .any, false⟩,
   ⟨0x14, 0, 32, .cnt, 0, .any, false⟩,
   ⟨0x18, 0, 32, .cnt, 0, .any, false⟩,
   ⟨0x1C, 0, 32, .cnt, 0, .any, false⟩,
   ⟨0x20, 0, 32, .cnt, 0, .any, false⟩,
   ⟨0x24, 0, 32, .cnt, 0, .any, false⟩,
   ⟨0x28, 0, 32, .cnt, 0, .any, false⟩,
   ⟨0x2C, 0, 32, .cnt, 0, .any, false⟩,
   ⟨0x30, 0, 32, .cnt, 0, .any, false⟩,
   ⟨0x34, 0, 32, .cnt, 0, .any, false⟩,
   ⟨0x38, 0, 32, .cnt, 0, .any, false⟩] ++
  [⟨0x3C, 0, 32, .cnt, 0, .any, false⟩,
   ⟨0x40, 0, 32, .cnt, 0, .any, false⟩,
   ⟨0x44, 0, 32, .cnt, 0, .any, false⟩,
   ⟨0x48, 0, 32, .cnt, 0, .any, false⟩,
   ⟨0x4C, 0, 32, .cnt, 0, .any, false⟩,
   ⟨0x50, 0, 32, .cnt, 0, .any, false⟩,
   ⟨0x54, 0, 32, .cnt, 0, .any, false⟩,
   ⟨0x58, 0, 32, .cnt, 0, .any, false⟩,
   ⟨0x5C, 0, 32, .cnt, 0, .any, false⟩,
   ⟨0x60, 0, 32, .cnt, 0, .any, false⟩,
   ⟨0x64, 0, 32, .cnt, 0, .any, false⟩,
   ⟨0x68, 0, 32, .cnt, 0, .any, false⟩,
   ⟨0x6C, 0, 32, .cnt, 0, .any, false⟩,
   ⟨0x70, 0, 32, .cnt, 0, .any, false⟩,
   ⟨0x74, 0, 32, .cnt, 0, .any, false⟩,
   ⟨0x78, 0, 32, .cnt, 0, .any, false⟩,
   ⟨0x7C, 0, 32, .cnt, 0, .any, false⟩]

/-- Q: 09 R203. -/
def fieldsQueue (n : Nat) : List FieldDef :=
  [⟨0x0, 0, 17, .ctrl, 2048, .any, false⟩,
   ⟨0x4, 0, 17, .ctrl, 1024, .any, false⟩,
   ⟨0x8, 16, 16, .ctrl, 0, .any, false⟩,
   ⟨0x8, 9, 7, .ctrl, 1, .min1, false⟩,
   ⟨0x8, 8, 1, .ctrl, 0, .any, false⟩,
   ⟨0x8, 7, 1, .ctrl, (if n % 8 < 6 then 0 else 1), .any, false⟩,
   ⟨0x8, 6, 1, .hwv, 0, .any, false⟩,
   ⟨0xC, 0, 17, .hwv, 0, .any, false⟩]

/-- GA: 11 R244. -/
def fieldsGa (_ : Nat) : List FieldDef :=
  [⟨0x0, 13, 1, .ctrl, 0, .any, false⟩,
   ⟨0x0, 12, 1, .ctrl, 0, .any, false⟩,
   ⟨0x0, 8, 4, .ctrl, 0, .any, false⟩,
   ⟨0x0, 4, 1, .ctrl, 0, .any, false⟩,
   ⟨0x0, 2, 2, .ctrl, 0, .any, false⟩,
   ⟨0x0, 1, 1, .ctrl, 0, .any, false⟩,
   ⟨0x0, 0, 1, .ctrl, 0, .any, false⟩,
   ⟨0x4, 0, 16, .ctrl, 1, .min1, false⟩,
   ⟨0x8, 0, 29, .ctrl, 1000, .clamp 1 345600000, false⟩,
   ⟨0xC, 0, 30, .ctrl, 500000000, .clamp 1 500000000, false⟩,
   ⟨0x10, 13, 1, .hwv, 0, .any, false⟩,
   ⟨0x10, 12, 1, .hwv, 0, .any, false⟩,
   ⟨0x10, 11, 1, .hwv, 0, .any, false⟩,
   ⟨0x10, 0, 11, .hwv, 0, .any, false⟩,
   ⟨0x14, 0, 32, .hwv, 0, .any, false⟩,
   ⟨0x18, 0, 32, .hwv, 0, .any, false⟩,
   ⟨0x1C, 0, 32, .hwv, 0, .any, false⟩,
   ⟨0x20, 0, 32, .hwv, 0, .any, false⟩,
   ⟨0x24, 0, 32, .hwv, 65536, .any, false⟩,
   ⟨0x28, 0, 32, .hwv, 0, .any, false⟩,
   ⟨0x2C, 0, 10, .hwv, 0, .any, false⟩,
   ⟨0x30, 0, 32, .cnt, 0, .any, false⟩,
   ⟨0x34, 0, 32, .cnt, 0, .any, false⟩,
   ⟨0x38, 0, 32, .cnt, 0, .any, false⟩]

/-- NOTCH: 12 R262. -/
def fieldsNotch (_ : Nat) : List FieldDef :=
  [⟨0x0, 31, 1, .ctrl, 0, .any, false⟩,
   ⟨0x0, 0, 24, .ctrl, 0, .any, false⟩,
   ⟨0x4, 31, 1, .hwv, 0, .any, false⟩,
   ⟨0x4, 0, 24, .hwv, 0, .any, false⟩]

/-- CH: 12 R262. -/
def fieldsChan (_ : Nat) : List FieldDef :=
  [⟨0x0, 29, 3, .hwv, 0, .any, false⟩,
   ⟨0x0, 16, 8, .hwv, 0, .any, false⟩,
   ⟨0x0, 10, 6, .hwv, 0, .any, false⟩,
   ⟨0x0, 0, 6, .hwv, 0, .any, false⟩,
   ⟨0x4, 0, 32, .hwv, 0, .any, false⟩,
   ⟨0x8, 0, 8, .hwv, 0, .any, false⟩,
   ⟨0xC, 0, 32, .hwv, 0, .any, false⟩]

/-- UE: 13 R284. -/
def fieldsUe (_ : Nat) : List FieldDef :=
  [⟨0x0, 31, 1, .hwv, 0, .any, false⟩,
   ⟨0x0, 30, 1, .hwv, 0, .any, false⟩,
   ⟨0x0, 29, 1, .hwv, 0, .any, false⟩,
   ⟨0x0, 24, 4, .hwv, 0, .any, false⟩,
   ⟨0x0, 0, 12, .hwv, 0, .any, false⟩,
   ⟨0x4, 0, 16, .ctrl, 0, .any, false⟩,
   ⟨0x8, 0, 18, .ctrl, 0, .any, false⟩,
   ⟨0xC, 31, 1, .hwv, 0, .any, false⟩,
   ⟨0xC, 0, 18, .hwv, 0, .any, false⟩,
   ⟨0x10, 0, 10, .hwv, 0, .any, false⟩,
   ⟨0x14, 0, 32, .cnt, 0, .any, false⟩]

/-- CNT: 13 R285. -/
def fieldsCnt (_ : Nat) : List FieldDef :=
  [⟨0x0, 24, 8, .ctrl, 0, .any, false⟩,
   ⟨0x0, 20, 4, .ctrl, 15, .any, false⟩,
   ⟨0x0, 14, 6, .ctrl, 63, .any, false⟩,
   ⟨0x0, 8, 1, .hwv, 0, .any, false⟩,
   ⟨0x0, 0, 8, .ctrl, 255, .any, false⟩,
   ⟨0x4, 0, 24, .ctrl, 0, .any, false⟩,
   ⟨0x8, 0, 24, .ctrl, 16777215, .any, false⟩,
   ⟨0xC, 0, 16, .cnt, 0, .any, false⟩,
   ⟨0x10, 0, 32, .cnt, 0, .any, false⟩]

/-- HIST: 13 R285. -/
def fieldsHist (n : Nat) : List FieldDef :=
  [⟨0x0, 28, 4, .ctrl, (if n < 4 then n + 1 else 0), .any, false⟩,
   ⟨0x0, 27, 1, .ctrl, (if n = 0 ∨ n = 2 ∨ n = 3 then 1 else 0), .any, false⟩,
   ⟨0x0, 26, 1, .ctrl, 0, .any, false⟩,
   ⟨0x0, 22, 4, .ctrl, 0, .any, false⟩,
   ⟨0x0, 14, 8, .ctrl, 0, .any, false⟩,
   ⟨0x0, 6, 8, .ctrl, 255, .any, false⟩,
   ⟨0x0, 0, 6, .ctrl, 63, .any, false⟩,
   ⟨0x4, 0, 32, .ctrl, (if n = 1 then 40000 else 0), .any, false⟩,
   ⟨0x8, 0, 24, .ctrl, (if n = 0 ∨ n = 2 then 1000 else if n = 3 then 32 else 1), .min1, false⟩,
   ⟨0xC, 0, 24, .ctrl, 0, .any, false⟩,
   ⟨0x10, 0, 24, .ctrl, 16777215, .any, false⟩,
   ⟨0x14, 0, 1, .go, 0, .any, false⟩,
   ⟨0x18, 0, 16, .cnt, 0, .any, false⟩,
   ⟨0x1C, 0, 32, .cnt, 0, .any, false⟩,
   ⟨0x20, 0, 32, .hwv, 4294967295, .any, false⟩,
   ⟨0x24, 0, 32, .hwv, 0, .any, false⟩,
   ⟨0x100, 0, 32, .cnt, 0, .any, false⟩,
   ⟨0x104, 0, 32, .cnt, 0, .any, false⟩,
   ⟨0x108, 0, 32, .cnt, 0, .any, false⟩,
   ⟨0x10C, 0, 32, .cnt, 0, .any, false⟩,
   ⟨0x110, 0, 32, .cnt, 0, .any, false⟩,
   ⟨0x114, 0, 32, .cnt, 0, .any, false⟩,
   ⟨0x118, 0, 32, .cnt, 0, .any, false⟩,
   ⟨0x11C, 0, 32, .cnt, 0, .any, false⟩] ++
  [⟨0x120, 0, 32, .cnt, 0, .any, false⟩,
   ⟨0x124, 0, 32, .cnt, 0, .any, false⟩,
   ⟨0x128, 0, 32, .cnt, 0, .any, false⟩,
   ⟨0x12C, 0, 32, .cnt, 0, .any, false⟩,
   ⟨0x130, 0, 32, .cnt, 0, .any, false⟩,
   ⟨0x134, 0, 32, .cnt, 0, .any, false⟩,
   ⟨0x138, 0, 32, .cnt, 0, .any, false⟩,
   ⟨0x13C, 0, 32, .cnt, 0, .any, false⟩,
   ⟨0x140, 0, 32, .cnt, 0, .any, false⟩,
   ⟨0x144, 0, 32, .cnt, 0, .any, false⟩,
   ⟨0x148, 0, 32, .cnt, 0, .any, false⟩,
   ⟨0x14C, 0, 32, .cnt, 0, .any, false⟩,
   ⟨0x150, 0, 32, .cnt, 0, .any, false⟩,
   ⟨0x154, 0, 32, .cnt, 0, .any, false⟩,
   ⟨0x158, 0, 32, .cnt, 0, .any, false⟩,
   ⟨0x15C, 0, 32, .cnt, 0, .any, false⟩,
   ⟨0x160, 0, 32, .cnt, 0, .any, false⟩,
   ⟨0x164, 0, 32, .cnt, 0, .any, false⟩,
   ⟨0x168, 0, 32, .cnt, 0, .any, false⟩,
   ⟨0x16C, 0, 32, .cnt, 0, .any, false⟩,
   ⟨0x170, 0, 32, .cnt, 0, .any, false⟩,
   ⟨0x174, 0, 32, .cnt, 0, .any, false⟩,
   ⟨0x178, 0, 32, .cnt, 0, .any, false⟩,
   ⟨0x17C, 0, 32, .cnt, 0, .any, false⟩]

/-- The fields of window `n` of a group. -/
def Grp.fields : Grp → Nat → List FieldDef
  | .sys, n => fieldsSys n
  | .clk, n => fieldsClk n
  | .time, n => fieldsTime n
  | .ref, n => fieldsRef n
  | .ptpg, n => fieldsPtpg n
  | .jg, n => fieldsJg n
  | .pair, n => fieldsPair n
  | .fab, n => fieldsFab n
  | .gauge, n => fieldsGauge n
  | .gnss, n => fieldsGnss n
  | .eng, n => fieldsEng n
  | .perf, n => fieldsPerf n
  | .cal, n => fieldsCal n
  | .sec, n => fieldsSec n
  | .aud, n => fieldsAud n
  | .cmd, n => fieldsCmd n
  | .dll, n => fieldsDll n
  | .outw, n => fieldsOutw n
  | .slot, n => fieldsSlot n
  | .port, n => fieldsPort n
  | .link, n => fieldsLink n
  | .fport, n => fieldsFport n
  | .queue, n => fieldsQueue n
  | .ga, n => fieldsGa n
  | .notch, n => fieldsNotch n
  | .chan, n => fieldsChan n
  | .ue, n => fieldsUe n
  | .cnt, n => fieldsCnt n
  | .hist, n => fieldsHist n

/-- Offsets of a group that its map lists only as reserved (R321). -/
def Grp.reserved : Grp → List Nat
  | .sys => [0x48]
  | .clk => []
  | .time => []
  | .ref => []
  | .ptpg => []
  | .jg => []
  | .pair => []
  | .fab => []
  | .gauge => []
  | .gnss => []
  | .eng => []
  | .perf => []
  | .cal => []
  | .sec => []
  | .aud => []
  | .cmd => []
  | .dll => []
  | .outw => []
  | .slot => [0x1C]
  | .port => []
  | .link => []
  | .fport => [0xC]
  | .queue => []
  | .ga => [0x3C]
  | .notch => []
  | .chan => [0x10, 0x14, 0x18, 0x1C]
  | .ue => []
  | .cnt => []
  | .hist => []

end Sys2Proof.Machine
end

