-- ==== Sys2Proof/Machine/Fields.lean ====
section
/-! DEFINITION. Names for the fields of the field maps, BLOCK_REGISTER_FIELD (R10): the address of the register, the lowest bit
and the width. A windowed field takes its window number, modulo how many windows there are: no name reaches past
its own group. -/

namespace Sys2Proof.Machine

/-- A field: BAR0 address of its word, lowest bit, width. -/
structure Fld where
  addr : Nat
  lo : Nat
  w : Nat
  deriving DecidableEq, Repr

/-- Base address of the window of line or trunk port `p` (R110). -/
def portBase (p : Nat) : Nat := if p < 32 then 0x40000 + 0x200 * p else 0x50000 + 0x200 * (p % 4)

namespace Reg

def SYS_ID_PART : Fld := ⟨0x0, 16, 16⟩
def SYS_ID_SILICON_REV : Fld := ⟨0x0, 0, 8⟩
def SYS_SERIAL_HI : Fld := ⟨0x4, 0, 32⟩
def SYS_SERIAL_LO : Fld := ⟨0x8, 0, 32⟩
def SYS_MODE_POWER : Fld := ⟨0xC, 4, 3⟩
def SYS_MODE_MODE : Fld := ⟨0xC, 0, 4⟩
def SYS_BOOT_STATUS_FW_VERSION : Fld := ⟨0x10, 16, 16⟩
def SYS_BOOT_STATUS_OVEN_USE : Fld := ⟨0x10, 10, 1⟩
def SYS_BOOT_STATUS_PAIR_EN : Fld := ⟨0x10, 9, 1⟩
def SYS_BOOT_STATUS_JROLE : Fld := ⟨0x10, 7, 2⟩
def SYS_BOOT_STATUS_BOOT_SRC : Fld := ⟨0x10, 5, 2⟩
def SYS_BOOT_STATUS_IMAGE : Fld := ⟨0x10, 0, 2⟩
def SYS_FAULT_CAUSE_LAST_RESET : Fld := ⟨0x14, 8, 4⟩
def SYS_FAULT_CAUSE_CODE : Fld := ⟨0x14, 0, 8⟩
def SYS_UNLOCK_ARMED : Fld := ⟨0x18, 16, 1⟩
def SYS_UNLOCK_KEY : Fld := ⟨0x18, 0, 16⟩
def SYS_EVENTS_BAD_ADDR_SEEN : Fld := ⟨0x1C, 3, 1⟩
def SYS_EVENTS_WR_DROPPED : Fld := ⟨0x1C, 2, 1⟩
def SYS_EVENTS_ONCE_VIOL : Fld := ⟨0x1C, 1, 1⟩
def SYS_EVENTS_GUARD_VIOL : Fld := ⟨0x1C, 0, 1⟩
def SYS_INT_STATUS : Fld := ⟨0x20, 0, 16⟩
def SYS_INT_EN_MASK : Fld := ⟨0x24, 16, 16⟩
def SYS_INT_EN : Fld := ⟨0x24, 0, 16⟩
def SYS_INT_CFG_VECTOR : Fld := ⟨0x28, 0, 6⟩
def SYS_PORT_PEND_LO : Fld := ⟨0x2C, 0, 32⟩
def SYS_PORT_PEND_HI_LINK : Fld := ⟨0x30, 8, 6⟩
def SYS_PORT_PEND_HI_TRUNK : Fld := ⟨0x30, 0, 4⟩
def SYS_BOARD_ID : Fld := ⟨0x34, 0, 16⟩
def SYS_SCRATCH : Fld := ⟨0x38, 0, 32⟩
def SYS_WR_DROP : Fld := ⟨0x3C, 0, 32⟩
def SYS_BAD_ADDR : Fld := ⟨0x40, 0, 32⟩
def SYS_VIOL_ADDR : Fld := ⟨0x44, 0, 24⟩
def CLK_ROOT_STATUS_OVEN_OK : Fld := ⟨0x10004, 8, 1⟩
def CLK_ROOT_STATUS_WARM_BY : Fld := ⟨0x10004, 7, 1⟩
def CLK_ROOT_STATUS_TB_WARM : Fld := ⟨0x10004, 6, 1⟩
def CLK_ROOT_STATUS_HELPER_LOCK : Fld := ⟨0x10004, 5, 1⟩
def CLK_ROOT_STATUS_RAMPING : Fld := ⟨0x10004, 4, 1⟩
def CLK_ROOT_STATUS_CLAMPED : Fld := ⟨0x10004, 3, 1⟩
def CLK_ROOT_STATUS_OSC_100M : Fld := ⟨0x10004, 2, 1⟩
def CLK_ROOT_STATUS_OSC_LOS : Fld := ⟨0x10004, 1, 1⟩
def CLK_ROOT_STATUS_ROOT_LOCK : Fld := ⟨0x10004, 0, 1⟩
def CLK_CW_APPLIED_HI : Fld := ⟨0x10010, 0, 22⟩
def CLK_CW_APPLIED_LO : Fld := ⟨0x10014, 0, 32⟩
def CLK_CW_REQ_HI : Fld := ⟨0x10018, 0, 22⟩
def CLK_CW_REQ_LO : Fld := ⟨0x1001C, 0, 32⟩
def CLK_NOMINAL_HI : Fld := ⟨0x10020, 0, 22⟩
def CLK_NOMINAL_LO : Fld := ⟨0x10024, 0, 32⟩
def CLK_RATE_LIM_E : Fld := ⟨0x10028, 0, 6⟩
def CLK_WARM_CFG_MIN_S : Fld := ⟨0x10030, 0, 16⟩
def CLK_EVENTS_DLL_UNLOCK_SEEN : Fld := ⟨0x10034, 5, 1⟩
def CLK_EVENTS_HBM_PLL_FAIL : Fld := ⟨0x10034, 4, 1⟩
def CLK_EVENTS_FAB_PLL_FAIL : Fld := ⟨0x10034, 3, 1⟩
def CLK_EVENTS_CLAMP_HIT : Fld := ⟨0x10034, 2, 1⟩
def CLK_EVENTS_WARM_LOST : Fld := ⟨0x10034, 1, 1⟩
def CLK_EVENTS_OSC_LOS_SEEN : Fld := ⟨0x10034, 0, 1⟩
def CLK_FAB_PLL_LOCKED : Fld := ⟨0x10040, 9, 1⟩
def CLK_HBM_PLL_LOCKED : Fld := ⟨0x10044, 9, 1⟩
def CLK_FAB_PLL_RELOCKING : Fld := ⟨0x10040, 8, 1⟩
def CLK_HBM_PLL_RELOCKING : Fld := ⟨0x10044, 8, 1⟩
def CLK_FAB_PLL_APPLY : Fld := ⟨0x10040, 7, 1⟩
def CLK_HBM_PLL_APPLY : Fld := ⟨0x10044, 7, 1⟩
def CLK_FAB_PLL_DEPTH : Fld := ⟨0x10040, 4, 3⟩
def CLK_HBM_PLL_DEPTH : Fld := ⟨0x10044, 4, 3⟩
def CLK_FAB_PLL_SPREAD : Fld := ⟨0x10040, 2, 2⟩
def CLK_HBM_PLL_SPREAD : Fld := ⟨0x10044, 2, 2⟩
def CLK_FAB_PLL_FREQ : Fld := ⟨0x10040, 0, 2⟩
def CLK_HBM_PLL_FREQ : Fld := ⟨0x10044, 0, 2⟩
def TIME_TOD_SEC_HI : Fld := ⟨0x20000, 0, 16⟩
def TIME_TOD_SEC_LO : Fld := ⟨0x20004, 0, 32⟩
def TIME_TOD_NS : Fld := ⟨0x20008, 0, 30⟩
def TIME_TOD_FRAC : Fld := ⟨0x2000C, 0, 16⟩
def TIME_INC_HI_NS : Fld := ⟨0x20010, 24, 8⟩
def TIME_INC_HI_FRAC_HI : Fld := ⟨0x20010, 0, 24⟩
def TIME_INC_LO : Fld := ⟨0x20014, 0, 32⟩
def TIME_INC_APPLIED_HI : Fld := ⟨0x20018, 0, 32⟩
def TIME_INC_APPLIED_LO : Fld := ⟨0x2001C, 0, 32⟩
def TIME_TOD_CTRL_DISCIPLINE : Fld := ⟨0x20020, 1, 1⟩
def TIME_TOD_CTRL_INC_EXACT : Fld := ⟨0x20020, 0, 1⟩
def TIME_STATUS_SEC_KNOWN : Fld := ⟨0x20024, 5, 1⟩
def TIME_STATUS_ALIGN_SRC : Fld := ⟨0x20024, 4, 1⟩
def TIME_STATUS_FIRST_ALIGNED : Fld := ⟨0x20024, 3, 1⟩
def TIME_STATUS_WEIR_ACTIVE : Fld := ⟨0x20024, 2, 1⟩
def TIME_STATUS_OFFSET_PENDING : Fld := ⟨0x20024, 1, 1⟩
def TIME_STATUS_TRACEABLE : Fld := ⟨0x20024, 0, 1⟩
def TIME_EVENTS_ALIGNED : Fld := ⟨0x20028, 5, 1⟩
def TIME_EVENTS_TO_MISSED : Fld := ⟨0x20028, 4, 1⟩
def TIME_EVENTS_TO_LATE : Fld := ⟨0x20028, 3, 1⟩
def TIME_EVENTS_TRACE_LOST : Fld := ⟨0x20028, 2, 1⟩
def TIME_EVENTS_PENDING_SET : Fld := ⟨0x20028, 1, 1⟩
def TIME_EVENTS_STEPPED : Fld := ⟨0x20028, 0, 1⟩
def TIME_WEIR_RATE : Fld := ⟨0x2002C, 0, 20⟩
def TIME_STEP_THR : Fld := ⟨0x20030, 0, 24⟩
def TIME_WEIR_REMAIN_HI : Fld := ⟨0x20038, 0, 32⟩
def TIME_WEIR_REMAIN_LO : Fld := ⟨0x2003C, 0, 32⟩
def TIME_PEND_SEC_HI : Fld := ⟨0x20040, 0, 16⟩
def TIME_PEND_SEC_LO : Fld := ⟨0x20044, 0, 32⟩
def TIME_PEND_NS : Fld := ⟨0x20048, 0, 30⟩
def TIME_PEND_FRAC : Fld := ⟨0x2004C, 0, 16⟩
def REF_LOSS_CTRL_RECOVERY_S : Fld := ⟨0x30040, 16, 10⟩
def REF_LOSS_CTRL_NO_HISTORY : Fld := ⟨0x30040, 3, 1⟩
def REF_LOSS_CTRL_WINDOW_OPEN : Fld := ⟨0x30040, 2, 1⟩
def REF_LOSS_CTRL_POLICY : Fld := ⟨0x30040, 0, 2⟩
def REF_SEL_TIMERS_WTR_S : Fld := ⟨0x30000, 16, 16⟩
def REF_SEL_TIMERS_QUAL_S : Fld := ⟨0x30000, 0, 16⟩
def REF_SEL_SWITCH_WINDOW_MS : Fld := ⟨0x30004, 0, 16⟩
def REF_JUMP_THR : Fld := ⟨0x30008, 0, 24⟩
def REF_AGREE_WIN : Fld := ⟨0x3000C, 16, 16⟩
def REF_AGREE_TOL : Fld := ⟨0x3000C, 0, 16⟩
def REF_HOLD_CFG_G_S : Fld := ⟨0x30010, 16, 12⟩
def REF_HOLD_CFG_W_S : Fld := ⟨0x30010, 0, 12⟩
def REF_SEL_STATUS_SWITCHING : Fld := ⟨0x30014, 15, 1⟩
def REF_SEL_STATUS_COMMITTED : Fld := ⟨0x30014, 14, 1⟩
def REF_SEL_STATUS_DISAGREE : Fld := ⟨0x30014, 13, 1⟩
def REF_SEL_STATUS_FORCED : Fld := ⟨0x30014, 12, 1⟩
def REF_SEL_STATUS_TARGET : Fld := ⟨0x30014, 8, 4⟩
def REF_SEL_STATUS_FORCE_SLOT : Fld := ⟨0x30014, 4, 4⟩
def REF_SEL_STATUS_SELECTED : Fld := ⟨0x30014, 0, 4⟩
def REF_SEL_EVENTS_GNSS_INCONS : Fld := ⟨0x30018, 6, 1⟩
def REF_SEL_EVENTS_QUAL_LOST : Fld := ⟨0x30018, 5, 1⟩
def REF_SEL_EVENTS_SUSPECT_CLEARED : Fld := ⟨0x30018, 4, 1⟩
def REF_SEL_EVENTS_SUSPECT_SET : Fld := ⟨0x30018, 3, 1⟩
def REF_SEL_EVENTS_DISAGREE_SET : Fld := ⟨0x30018, 2, 1⟩
def REF_SEL_EVENTS_SWITCH_ABORTED : Fld := ⟨0x30018, 1, 1⟩
def REF_SEL_EVENTS_SWITCHED : Fld := ⟨0x30018, 0, 1⟩
def REF_HOLD_AVG_HI : Fld := ⟨0x3001C, 0, 22⟩
def REF_HOLD_AVG_LO : Fld := ⟨0x30020, 0, 32⟩
def REF_HOLD_N : Fld := ⟨0x30024, 0, 13⟩
def REF_GNSS_CONS : Fld := ⟨0x30028, 0, 32⟩
def PTPG_PTP_GLOBAL_DEGRADED_CLASS : Fld := ⟨0x51000, 24, 8⟩
def PTPG_PTP_GLOBAL_PRIORITY2 : Fld := ⟨0x51000, 16, 8⟩
def PTPG_PTP_GLOBAL_PRIORITY1 : Fld := ⟨0x51000, 8, 8⟩
def PTPG_PTP_GLOBAL_DOMAIN : Fld := ⟨0x51000, 0, 8⟩
def PTPG_UTC_CFG_AUTO : Fld := ⟨0x51004, 19, 1⟩
def PTPG_UTC_CFG_VALID : Fld := ⟨0x51004, 18, 1⟩
def PTPG_UTC_CFG_LEAP59 : Fld := ⟨0x51004, 17, 1⟩
def PTPG_UTC_CFG_LEAP61 : Fld := ⟨0x51004, 16, 1⟩
def PTPG_UTC_CFG_UTC_OFFSET : Fld := ⟨0x51004, 0, 16⟩
def PTPG_HOLD_SPEC : Fld := ⟨0x51008, 0, 24⟩
def PTPG_PTP_GLOBAL_CLASS_GM_SELF : Fld := ⟨0x5100C, 18, 1⟩
def PTPG_PTP_GLOBAL_CLASS_FREQ_TRACEABLE : Fld := ⟨0x5100C, 17, 1⟩
def PTPG_PTP_GLOBAL_CLASS_TIME_TRACEABLE : Fld := ⟨0x5100C, 16, 1⟩
def PTPG_PTP_GLOBAL_CLASS_CLOCK_ACCURACY : Fld := ⟨0x5100C, 8, 8⟩
def PTPG_PTP_GLOBAL_CLASS_CLOCK_CLASS : Fld := ⟨0x5100C, 0, 8⟩
def PTPG_PTP_MODE_TC_TYPE : Fld := ⟨0x51010, 1, 2⟩
def PTPG_PTP_MODE_HOST_HANDLED : Fld := ⟨0x51010, 0, 1⟩
def PTPG_EQ_STATUS_ENTRIES : Fld := ⟨0x51100, 8, 8⟩
def PTPG_EQ_STATUS_DUP : Fld := ⟨0x51100, 2, 1⟩
def PTPG_EQ_STATUS_DEFAULTS : Fld := ⟨0x51100, 1, 1⟩
def PTPG_EQ_STATUS_LOADED : Fld := ⟨0x51100, 0, 1⟩
def JG_GLOBAL_FOLLOWED : Fld := ⟨0x61000, 16, 3⟩
def JG_GLOBAL_WORKERS : Fld := ⟨0x61000, 8, 6⟩
def JG_GLOBAL_DEPTH : Fld := ⟨0x61000, 2, 3⟩
def JG_GLOBAL_ROLE : Fld := ⟨0x61000, 0, 2⟩
def JG_SELF_ADDR : Fld := ⟨0x61004, 0, 16⟩
def PAIR_PAIR_CFG_READY_S : Fld := ⟨0x70000, 8, 8⟩
def PAIR_PAIR_CFG_READY_PS : Fld := ⟨0x70000, 0, 8⟩
def PAIR_PAIR_STATUS_MIRROR_LINK : Fld := ⟨0x70004, 10, 3⟩
def PAIR_PAIR_STATUS_CAL_MATCH : Fld := ⟨0x70004, 9, 1⟩
def PAIR_PAIR_STATUS_MIRROR_OK : Fld := ⟨0x70004, 8, 1⟩
def PAIR_PAIR_STATUS_DUAL_ACTIVE : Fld := ⟨0x70004, 7, 1⟩
def PAIR_PAIR_STATUS_READY : Fld := ⟨0x70004, 6, 1⟩
def PAIR_PAIR_STATUS_ROLE_IN : Fld := ⟨0x70004, 4, 2⟩
def PAIR_PAIR_STATUS_ROLE : Fld := ⟨0x70004, 2, 2⟩
def PAIR_PAIR_STATUS_ROLE_ACK : Fld := ⟨0x70004, 1, 1⟩
def PAIR_PAIR_STATUS_PAIRED : Fld := ⟨0x70004, 0, 1⟩
def PAIR_PAIR_EVENTS_UNREADY_TAKEOVER : Fld := ⟨0x70008, 7, 1⟩
def PAIR_PAIR_EVENTS_ROLE_RESERVED : Fld := ⟨0x70008, 6, 1⟩
def PAIR_PAIR_EVENTS_MIRROR_LOST : Fld := ⟨0x70008, 5, 1⟩
def PAIR_PAIR_EVENTS_YIELDED : Fld := ⟨0x70008, 4, 1⟩
def PAIR_PAIR_EVENTS_DUAL_ACTIVE_SET : Fld := ⟨0x70008, 3, 1⟩
def PAIR_PAIR_EVENTS_BECAME_STANDBY : Fld := ⟨0x70008, 2, 1⟩
def PAIR_PAIR_EVENTS_TOOK_OVER : Fld := ⟨0x70008, 1, 1⟩
def PAIR_PAIR_EVENTS_ROLE_CHANGED : Fld := ⟨0x70008, 0, 1⟩
def PAIR_PEER_EPOCH : Fld := ⟨0x7000C, 16, 16⟩
def PAIR_EPOCH : Fld := ⟨0x7000C, 0, 16⟩
def PAIR_MIRROR_OFS : Fld := ⟨0x70010, 0, 32⟩
def PAIR_MIRROR_AGE : Fld := ⟨0x70014, 0, 32⟩
def PAIR_TAKEOVER_CNT : Fld := ⟨0x70018, 0, 32⟩
def PAIR_DUAL_ACTIVE_CNT : Fld := ⟨0x7001C, 0, 32⟩
def PAIR_MIRROR_DISCARD : Fld := ⟨0x70020, 0, 32⟩
def FAB_CFG_AGE_S : Fld := ⟨0x80000, 16, 16⟩
def FAB_CFG_LEARN_EN : Fld := ⟨0x80000, 0, 1⟩
def FAB_SLUICE_D : Fld := ⟨0x80004, 0, 17⟩
def FAB_POLDER_RSV : Fld := ⟨0x80008, 0, 17⟩
def FAB_POLDER_FREE : Fld := ⟨0x8000C, 0, 18⟩
def FAB_SPILL_USED : Fld := ⟨0x80010, 0, 27⟩
def FAB_EVENTS_FLUSH_DONE : Fld := ⟨0x80014, 3, 1⟩
def FAB_EVENTS_SLUICE_LATE_SEEN : Fld := ⟨0x80014, 2, 1⟩
def FAB_EVENTS_POLDER_LOW : Fld := ⟨0x80014, 1, 1⟩
def FAB_EVENTS_SPILL_FULL : Fld := ⟨0x80014, 0, 1⟩
def FAB_LEARN_FAIL : Fld := ⟨0x80018, 0, 32⟩
def FAB_MAC_USED : Fld := ⟨0x8001C, 0, 17⟩
def GAUGE_COARSE_HI : Fld := ⟨0x90000, 0, 16⟩
def GAUGE_COARSE_LO : Fld := ⟨0x90004, 0, 32⟩
def GAUGE_WRAP_CNT : Fld := ⟨0x90008, 0, 32⟩
def GAUGE_EVENTS_OVERRUN_SEEN : Fld := ⟨0x9000C, 2, 1⟩
def GAUGE_EVENTS_COARSE_WRAP : Fld := ⟨0x9000C, 1, 1⟩
def GAUGE_EVENTS_COARSE_RESTART : Fld := ⟨0x9000C, 0, 1⟩
def GNSS_CFG_NOTCH_AUTO : Fld := ⟨0xA0000, 8, 1⟩
def GNSS_CFG_SPEC_INV : Fld := ⟨0xA0000, 5, 1⟩
def GNSS_CFG_CAP_EDGE : Fld := ⟨0xA0000, 4, 1⟩
def GNSS_CFG_SAMPLE_FMT : Fld := ⟨0xA0000, 2, 2⟩
def GNSS_CFG_CLK_EN : Fld := ⟨0xA0000, 0, 1⟩
def GNSS_IF_HZ : Fld := ⟨0xA0004, 0, 24⟩
def GNSS_ACQ_CFG_ACQ_THR : Fld := ⟨0xA0008, 24, 8⟩
def GNSS_ACQ_CFG_NC_SUMS : Fld := ⟨0xA0008, 16, 5⟩
def GNSS_TRK_CFG_PLL_BW : Fld := ⟨0xA000C, 24, 8⟩
def GNSS_TRK_CFG_DLL_BW : Fld := ⟨0xA000C, 16, 8⟩
def GNSS_TRK_CFG_LOSS_CN0 : Fld := ⟨0xA000C, 8, 8⟩
def GNSS_TRK_CFG_DISC : Fld := ⟨0xA000C, 0, 2⟩
def GNSS_SOL_CFG_RES_THR : Fld := ⟨0xA0010, 24, 8⟩
def GNSS_SOL_CFG_SOL_CN0 : Fld := ⟨0xA0010, 16, 8⟩
def GNSS_SOL_CFG_ELEV_MASK : Fld := ⟨0xA0010, 8, 8⟩
def GNSS_SOL_CFG_MIN_SV : Fld := ⟨0xA0010, 0, 4⟩
def GNSS_SURVEY_S : Fld := ⟨0xA0014, 0, 24⟩
def GNSS_WEEK_BASE : Fld := ⟨0xA0018, 0, 16⟩
def GNSS_ANT_DLY : Fld := ⟨0xA001C, 0, 32⟩
def GNSS_FE_DLY : Fld := ⟨0xA0020, 0, 32⟩
def GNSS_JAM_CFG_JAM_THR : Fld := ⟨0xA0024, 8, 8⟩
def GNSS_JAM_CFG_NOTCH_THR : Fld := ⟨0xA0024, 0, 8⟩
def GNSS_STATUS_JN : Fld := ⟨0xA0028, 24, 8⟩
def GNSS_STATUS_RUNNING : Fld := ⟨0xA0028, 13, 1⟩
def GNSS_STATUS_NOTCH_NEAR : Fld := ⟨0xA0028, 12, 1⟩
def GNSS_STATUS_JAM : Fld := ⟨0xA0028, 11, 1⟩
def GNSS_STATUS_STALE : Fld := ⟨0xA0028, 10, 1⟩
def GNSS_STATUS_SOL_VALID : Fld := ⟨0xA0028, 9, 1⟩
def GNSS_STATUS_POS_MODE : Fld := ⟨0xA0028, 7, 2⟩
def GNSS_STATUS_SV_USED : Fld := ⟨0xA0028, 0, 5⟩
def GNSS_EVENTS_RAW_DROP : Fld := ⟨0xA002C, 5, 1⟩
def GNSS_EVENTS_JAM_SET : Fld := ⟨0xA002C, 4, 1⟩
def GNSS_EVENTS_SOL_LOST : Fld := ⟨0xA002C, 3, 1⟩
def GNSS_EVENTS_SURVEY_DONE : Fld := ⟨0xA002C, 2, 1⟩
def GNSS_EVENTS_CAL_APPLIED : Fld := ⟨0xA002C, 1, 1⟩
def GNSS_EVENTS_SV_EXCLUDED : Fld := ⟨0xA002C, 0, 1⟩
def GNSS_POS_X_HI : Fld := ⟨0xA0030, 0, 32⟩
def GNSS_POS_X_LO : Fld := ⟨0xA0034, 0, 32⟩
def GNSS_POS_Y_HI : Fld := ⟨0xA0038, 0, 32⟩
def GNSS_POS_Y_LO : Fld := ⟨0xA003C, 0, 32⟩
def GNSS_POS_Z_HI : Fld := ⟨0xA0040, 0, 32⟩
def GNSS_POS_Z_LO : Fld := ⟨0xA0044, 0, 32⟩
def GNSS_SURVEY_LEFT : Fld := ⟨0xA0048, 0, 24⟩
def GNSS_RAW_DROP : Fld := ⟨0xA004C, 0, 32⟩
def ENG_STEER_CFG_TMO_MS : Fld := ⟨0xB0000, 16, 16⟩
def ENG_STEER_CFG_FLIM_E : Fld := ⟨0xB0000, 8, 6⟩
def ENG_STEER_CFG_OWNER : Fld := ⟨0xB0000, 0, 3⟩
def ENG_STEER_PLIM : Fld := ⟨0xB0004, 0, 24⟩
def ENG_STEER_STATUS_ACTIVE : Fld := ⟨0xB0008, 1, 1⟩
def ENG_STEER_STATUS_ACCEPTED : Fld := ⟨0xB0008, 0, 1⟩
def ENG_EVENTS_STEER_TIMEOUT : Fld := ⟨0xB000C, 6, 1⟩
def ENG_EVENTS_STEER_REJECTED : Fld := ⟨0xB000C, 5, 1⟩
def ENG_EVENTS_STEER_IGNORED : Fld := ⟨0xB000C, 4, 1⟩
def ENG_EVENTS_USER_IRQ : Fld := ⟨0xB000C, 3, 1⟩
def ENG_EVENTS_USER_FAULT : Fld := ⟨0xB000C, 2, 1⟩
def ENG_EVENTS_MBOX_OUT_OVR : Fld := ⟨0xB000C, 1, 1⟩
def ENG_EVENTS_MBOX_IN_OVR : Fld := ⟨0xB000C, 0, 1⟩
def ENG_IRQ_CODE_ENGINE : Fld := ⟨0xB0010, 18, 4⟩
def ENG_IRQ_CODE_CODE : Fld := ⟨0xB0010, 0, 18⟩
def PERF_PERF_CTRL_FREEZE : Fld := ⟨0xC0000, 0, 1⟩
def PERF_SAMPLE_CFG_MODE : Fld := ⟨0xC0004, 30, 2⟩
def PERF_SAMPLE_CFG_WRAP : Fld := ⟨0xC0004, 29, 1⟩
def PERF_SAMPLE_CFG_RESET : Fld := ⟨0xC0004, 28, 1⟩
def PERF_SAMPLE_CFG_ENG_MASK : Fld := ⟨0xC0004, 0, 16⟩
def PERF_SAMPLE_INTERVAL : Fld := ⟨0xC0008, 0, 20⟩
def PERF_SAMPLE_ADDR_HI : Fld := ⟨0xC000C, 16, 12⟩
def PERF_SAMPLE_ADDR_LO : Fld := ⟨0xC000C, 0, 12⟩
def PERF_SAMPLE_SEED_LAT_MIN : Fld := ⟨0xC0010, 16, 16⟩
def PERF_SAMPLE_SEED_SEED : Fld := ⟨0xC0010, 0, 16⟩
def PERF_SAMPLE_STATUS_FULL : Fld := ⟨0xC0014, 31, 1⟩
def PERF_SAMPLE_STATUS_FILL : Fld := ⟨0xC0014, 0, 11⟩
def PERF_SAMPLE_LOST : Fld := ⟨0xC0018, 0, 32⟩
def PERF_USER_READ (k : Nat) : Fld := ⟨0xC0020 + 4 * (k % 4), 0, 32⟩
def PERF_OVF (k : Nat) : Fld := ⟨0xC0030 + 4 * (k % 4), 0, 32⟩
def CAL_CFG_AUTO_RECAL : Fld := ⟨0xD0000, 0, 1⟩
def CAL_STATUS_PRESENT_CLASS : Fld := ⟨0xD0004, 14, 2⟩
def CAL_STATUS_RECORD_CLASS : Fld := ⟨0xD0004, 12, 2⟩
def CAL_STATUS_COPY_VALID : Fld := ⟨0xD0004, 9, 3⟩
def CAL_STATUS_COPY_USED : Fld := ⟨0xD0004, 6, 3⟩
def CAL_STATUS_COMMITTING : Fld := ⟨0xD0004, 3, 1⟩
def CAL_STATUS_RUNNING : Fld := ⟨0xD0004, 2, 1⟩
def CAL_STATUS_CAL_LOAD_MISMATCH : Fld := ⟨0xD0004, 1, 1⟩
def CAL_STATUS_CAL_REQUIRED : Fld := ⟨0xD0004, 0, 1⟩
def CAL_EVENTS_ABANDONED : Fld := ⟨0xD0008, 5, 1⟩
def CAL_EVENTS_COPY_REPAIRED : Fld := ⟨0xD0008, 4, 1⟩
def CAL_EVENTS_ITEM_FAIL : Fld := ⟨0xD0008, 3, 1⟩
def CAL_EVENTS_CAL_DISAGREE : Fld := ⟨0xD0008, 2, 1⟩
def CAL_EVENTS_ITEM_DONE : Fld := ⟨0xD0008, 1, 1⟩
def CAL_EVENTS_STORE_DONE : Fld := ⟨0xD0008, 0, 1⟩
def CAL_RECORD_ID : Fld := ⟨0xD000C, 0, 32⟩
def CAL_DIE_TEMP : Fld := ⟨0xD0010, 0, 16⟩
def CAL_MISMATCH_LO : Fld := ⟨0xD0014, 0, 32⟩
def CAL_MISMATCH_HI : Fld := ⟨0xD0018, 0, 4⟩
def CAL_LOAD_PERMILLE : Fld := ⟨0xD001C, 0, 10⟩
def SEC_STATUS_BREACH_COUNT : Fld := ⟨0xE0000, 8, 6⟩
def SEC_STATUS_SEALED : Fld := ⟨0xE0000, 5, 1⟩
def SEC_STATUS_DBG_EN : Fld := ⟨0xE0000, 4, 1⟩
def SEC_STATUS_DEBUG_OPEN : Fld := ⟨0xE0000, 3, 1⟩
def SEC_STATUS_ID_VALID : Fld := ⟨0xE0000, 2, 1⟩
def SEC_STATUS_KEYS_LOCKED : Fld := ⟨0xE0000, 1, 1⟩
def SEC_STATUS_BREACH : Fld := ⟨0xE0000, 0, 1⟩
def SEC_EVENTS_IMAGE_FALLBACK : Fld := ⟨0xE0004, 5, 1⟩
def SEC_EVENTS_ID_FAIL : Fld := ⟨0xE0004, 4, 1⟩
def SEC_EVENTS_AUTH_KEY_MISSING : Fld := ⟨0xE0004, 3, 1⟩
def SEC_EVENTS_DEBUG_CLOSED : Fld := ⟨0xE0004, 2, 1⟩
def SEC_EVENTS_KEY_ZEROED : Fld := ⟨0xE0004, 1, 1⟩
def SEC_EVENTS_BREACH_SET : Fld := ⟨0xE0004, 0, 1⟩
def SEC_KEY_VALID_LO : Fld := ⟨0xE0008, 0, 32⟩
def SEC_KEY_VALID_HI : Fld := ⟨0xE000C, 0, 32⟩
def SEC_KEY_VALID_SYS : Fld := ⟨0xE0010, 0, 2⟩
def SEC_CFG_JIETH_AUTH : Fld := ⟨0xE0014, 0, 1⟩
def SEC_BOOT_INFO_RESULT_A : Fld := ⟨0xE0018, 28, 4⟩
def SEC_BOOT_INFO_RESULT_B : Fld := ⟨0xE0018, 24, 4⟩
def SEC_BOOT_INFO_SVN_RUN : Fld := ⟨0xE0018, 16, 6⟩
def SEC_BOOT_INFO_SVN_FLOOR : Fld := ⟨0xE0018, 8, 6⟩
def SEC_BOOT_INFO_KEY_SLOT_RUN : Fld := ⟨0xE0018, 4, 2⟩
def SEC_BOOT_INFO_REVOKED : Fld := ⟨0xE0018, 0, 4⟩
def SEC_SVN_SET : Fld := ⟨0xE001C, 0, 6⟩
def SEC_KEY_REVOKE : Fld := ⟨0xE0020, 0, 4⟩
def SEC_PUBKEY_X (k : Nat) : Fld := ⟨0xE0040 + 4 * (k % 8), 0, 32⟩
def SEC_PUBKEY_Y (k : Nat) : Fld := ⟨0xE0060 + 4 * (k % 8), 0, 32⟩
def AUD_CFG_POLICY : Fld := ⟨0xF0000, 0, 1⟩
def AUD_STATUS_FULL : Fld := ⟨0xF0004, 17, 1⟩
def AUD_STATUS_EXPORT_PENDING : Fld := ⟨0xF0004, 16, 1⟩
def AUD_STATUS_USED : Fld := ⟨0xF0004, 0, 14⟩
def AUD_EVENTS_HOLD_FULL : Fld := ⟨0xF0008, 1, 1⟩
def AUD_EVENTS_AUDIT_WRAPPED : Fld := ⟨0xF0008, 0, 1⟩
def AUD_NEXT_SEQ : Fld := ⟨0xF000C, 0, 32⟩
def AUD_OLDEST_SEQ : Fld := ⟨0xF0010, 0, 32⟩
def AUD_BLOCK_NO : Fld := ⟨0xF0014, 0, 32⟩
def AUD_LOST : Fld := ⟨0xF0018, 0, 32⟩
def AUD_REFUSED : Fld := ⟨0xF001C, 0, 32⟩
def CMD_EVENTS_SPI_REJECT : Fld := ⟨0x100000, 2, 1⟩
def CMD_EVENTS_DB_BUSY : Fld := ⟨0x100000, 1, 1⟩
def CMD_EVENTS_CP_LATE : Fld := ⟨0x100000, 0, 1⟩
def CMD_SPI_FREE : Fld := ⟨0x100004, 0, 4⟩
def CMD_Q_STATUS_OCCUPIED (k : Nat) : Fld := ⟨0x100010 + 4 * (k % 4), 16, 5⟩
def CMD_Q_STATUS_WAITING (k : Nat) : Fld := ⟨0x100010 + 4 * (k % 4), 8, 1⟩
def CMD_Q_CFG_VECTOR (k : Nat) : Fld := ⟨0x100020 + 4 * (k % 4), 0, 6⟩
def CMD_DB_REJECT : Fld := ⟨0x100030, 0, 32⟩
def CMD_SPI_REJECT : Fld := ⟨0x100034, 0, 32⟩
def CMD_LATE_CNT : Fld := ⟨0x100038, 0, 32⟩
def CMD_PTP_RX_DROP : Fld := ⟨0x10003C, 0, 32⟩
def DLL_CFG_N (n : Nat) : Fld := ⟨0x10100 + 0x8 * (n % 20), 16, 11⟩
def DLL_CFG_RETURN (n : Nat) : Fld := ⟨0x10100 + 0x8 * (n % 20), 1, 1⟩
def DLL_CFG_AUTO_RETURN (n : Nat) : Fld := ⟨0x10100 + 0x8 * (n % 20), 0, 1⟩
def DLL_STAT_LOCK (n : Nat) : Fld := ⟨0x10104 + 0x8 * (n % 20), 15, 1⟩
def DLL_STAT_BYPASS (n : Nat) : Fld := ⟨0x10104 + 0x8 * (n % 20), 14, 1⟩
def DLL_STAT_GATED (n : Nat) : Fld := ⟨0x10104 + 0x8 * (n % 20), 13, 1⟩
def DLL_STAT_PENDING (n : Nat) : Fld := ⟨0x10104 + 0x8 * (n % 20), 12, 1⟩
def DLL_STAT_SUBTICK (n : Nat) : Fld := ⟨0x10104 + 0x8 * (n % 20), 8, 3⟩
def DLL_STAT_TAP (n : Nat) : Fld := ⟨0x10104 + 0x8 * (n % 20), 0, 8⟩
def OUT_OUT_CTRL_RUNNING (n : Nat) : Fld := ⟨0x20100 + 0x80 * (n % 14), 10, 1⟩
def OUT_OUT_CTRL_MISSED (n : Nat) : Fld := ⟨0x20100 + 0x80 * (n % 14), 9, 1⟩
def OUT_OUT_CTRL_LATE (n : Nat) : Fld := ⟨0x20100 + 0x80 * (n % 14), 8, 1⟩
def OUT_OUT_CTRL_ARM (n : Nat) : Fld := ⟨0x20100 + 0x80 * (n % 14), 4, 1⟩
def OUT_OUT_CTRL_MODE (n : Nat) : Fld := ⟨0x20100 + 0x80 * (n % 14), 1, 2⟩
def OUT_OUT_CTRL_EN (n : Nat) : Fld := ⟨0x20100 + 0x80 * (n % 14), 0, 1⟩
def OUT_OUT_WIDTH (n : Nat) : Fld := ⟨0x20104 + 0x80 * (n % 14), 0, 32⟩
def OUT_OUT_TGT_SEC_HI (n : Nat) : Fld := ⟨0x20108 + 0x80 * (n % 14), 0, 16⟩
def OUT_OUT_TGT_SEC_LO (n : Nat) : Fld := ⟨0x2010C + 0x80 * (n % 14), 0, 32⟩
def OUT_OUT_TGT_NS (n : Nat) : Fld := ⟨0x20110 + 0x80 * (n % 14), 0, 30⟩
def OUT_OUT_TGT_FRAC (n : Nat) : Fld := ⟨0x20114 + 0x80 * (n % 14), 0, 16⟩
def OUT_OUT_PER_S (n : Nat) : Fld := ⟨0x20118 + 0x80 * (n % 14), 0, 32⟩
def OUT_OUT_PER_NS (n : Nat) : Fld := ⟨0x2011C + 0x80 * (n % 14), 0, 30⟩
def OUT_OUT_PER_FRAC (n : Nat) : Fld := ⟨0x20120 + 0x80 * (n % 14), 0, 16⟩
def OUT_OUT_ALIGN_OFS_HI (n : Nat) : Fld := ⟨0x20124 + 0x80 * (n % 14), 0, 9⟩
def OUT_OUT_ALIGN_OFS_LO (n : Nat) : Fld := ⟨0x20128 + 0x80 * (n % 14), 0, 32⟩
def OUT_OUT_PSTEP_HI (n : Nat) : Fld := ⟨0x2012C + 0x80 * (n % 14), 0, 9⟩
def OUT_OUT_PSTEP_LO (n : Nat) : Fld := ⟨0x20130 + 0x80 * (n % 14), 0, 32⟩
def OUT_OUT_NEXT_SEC_HI (n : Nat) : Fld := ⟨0x20134 + 0x80 * (n % 14), 0, 16⟩
def OUT_OUT_NEXT_SEC_LO (n : Nat) : Fld := ⟨0x20138 + 0x80 * (n % 14), 0, 32⟩
def OUT_OUT_NEXT_NS (n : Nat) : Fld := ⟨0x2013C + 0x80 * (n % 14), 0, 30⟩
def OUT_OUT_NEXT_FRAC (n : Nat) : Fld := ⟨0x20140 + 0x80 * (n % 14), 0, 16⟩
def SLOT_SLOT_CFG_EN (n : Nat) : Fld := ⟨0x30100 + 0x20 * (n % 8), 15, 1⟩
def SLOT_SLOT_CFG_LOCKOUT (n : Nat) : Fld := ⟨0x30100 + 0x20 * (n % 8), 14, 1⟩
def SLOT_SLOT_CFG_RANK (n : Nat) : Fld := ⟨0x30100 + 0x20 * (n % 8), 8, 4⟩
def SLOT_SLOT_CFG_TYPE (n : Nat) : Fld := ⟨0x30100 + 0x20 * (n % 8), 6, 2⟩
def SLOT_SLOT_CFG_INDEX (n : Nat) : Fld := ⟨0x30100 + 0x20 * (n % 8), 0, 6⟩
def SLOT_SLOT_STATUS_TIMER_S (n : Nat) : Fld := ⟨0x30104 + 0x20 * (n % 8), 16, 16⟩
def SLOT_SLOT_STATUS_QUALIFIED (n : Nat) : Fld := ⟨0x30104 + 0x20 * (n % 8), 7, 1⟩
def SLOT_SLOT_STATUS_ELIGIBLE (n : Nat) : Fld := ⟨0x30104 + 0x20 * (n % 8), 6, 1⟩
def SLOT_SLOT_STATUS_WTR_RUN (n : Nat) : Fld := ⟨0x30104 + 0x20 * (n % 8), 5, 1⟩
def SLOT_SLOT_STATUS_PHASE_SUSPECT (n : Nat) : Fld := ⟨0x30104 + 0x20 * (n % 8), 4, 1⟩
def SLOT_SLOT_STATUS_SELECTED (n : Nat) : Fld := ⟨0x30104 + 0x20 * (n % 8), 3, 1⟩
def SLOT_SLOT_STATUS_SRC_VALID (n : Nat) : Fld := ⟨0x30104 + 0x20 * (n % 8), 2, 1⟩
def SLOT_SLOT_STATUS_DISAGREE (n : Nat) : Fld := ⟨0x30104 + 0x20 * (n % 8), 1, 1⟩
def SLOT_SLOT_STATUS_CONFIG_ERR (n : Nat) : Fld := ⟨0x30104 + 0x20 * (n % 8), 0, 1⟩
def SLOT_FREQ_HI (n : Nat) : Fld := ⟨0x30108 + 0x20 * (n % 8), 0, 22⟩
def SLOT_FREQ_LO (n : Nat) : Fld := ⟨0x3010C + 0x20 * (n % 8), 0, 32⟩
def SLOT_OFS_HI (n : Nat) : Fld := ⟨0x30110 + 0x20 * (n % 8), 0, 16⟩
def SLOT_OFS_LO (n : Nat) : Fld := ⟨0x30114 + 0x20 * (n % 8), 0, 32⟩
def SLOT_JUMP (n : Nat) : Fld := ⟨0x30118 + 0x20 * (n % 8), 0, 32⟩
def PORT_TT_CTRL_DGW (n : Nat) : Fld := ⟨portBase n + 0x0, 8, 8⟩
def PORT_TT_CTRL_BERM_LOSSY (n : Nat) : Fld := ⟨portBase n + 0x0, 7, 1⟩
def PORT_TT_CTRL_BERM_EN (n : Nat) : Fld := ⟨portBase n + 0x0, 6, 1⟩
def PORT_TT_CTRL_ONE_STEP (n : Nat) : Fld := ⟨portBase n + 0x0, 5, 1⟩
def PORT_TT_CTRL_DELAY_MECH (n : Nat) : Fld := ⟨portBase n + 0x0, 3, 2⟩
def PORT_TT_CTRL_L1SYNC_EN (n : Nat) : Fld := ⟨portBase n + 0x0, 1, 1⟩
def PORT_TT_CTRL_DDMTD_EN (n : Nat) : Fld := ⟨portBase n + 0x0, 0, 1⟩
def PORT_PHASE_VALID (n : Nat) : Fld := ⟨portBase n + 0x4, 31, 1⟩
def PORT_PHASE_STALE (n : Nat) : Fld := ⟨portBase n + 0x4, 30, 1⟩
def PORT_PHASE_SEQ (n : Nat) : Fld := ⟨portBase n + 0x4, 26, 4⟩
def PORT_PHASE_PHASE (n : Nat) : Fld := ⟨portBase n + 0x4, 0, 18⟩
def PORT_TT_STATUS_PARTNER_TMR (n : Nat) : Fld := ⟨portBase n + 0x8, 5, 1⟩
def PORT_TT_STATUS_BERM_WAIT (n : Nat) : Fld := ⟨portBase n + 0x8, 4, 1⟩
def PORT_TT_STATUS_BERM_BUSY (n : Nat) : Fld := ⟨portBase n + 0x8, 3, 1⟩
def PORT_TT_STATUS_CAL_STALE (n : Nat) : Fld := ⟨portBase n + 0x8, 2, 1⟩
def PORT_TT_STATUS_L1SYNC_UP (n : Nat) : Fld := ⟨portBase n + 0x8, 1, 1⟩
def PORT_TT_STATUS_CDR_LOCK (n : Nat) : Fld := ⟨portBase n + 0x8, 0, 1⟩
def PORT_TT_EVENTS_TS_UNRESOLVED (n : Nat) : Fld := ⟨portBase n + 0xC, 5, 1⟩
def PORT_TT_EVENTS_BERM_ABANDONED (n : Nat) : Fld := ⟨portBase n + 0xC, 4, 1⟩
def PORT_TT_EVENTS_AUTH_FAIL (n : Nat) : Fld := ⟨portBase n + 0xC, 3, 1⟩
def PORT_TT_EVENTS_BERM_DISAGREE (n : Nat) : Fld := ⟨portBase n + 0xC, 2, 1⟩
def PORT_TT_EVENTS_BERM_DONE (n : Nat) : Fld := ⟨portBase n + 0xC, 1, 1⟩
def PORT_TT_EVENTS_PHASE_LOST (n : Nat) : Fld := ⟨portBase n + 0xC, 0, 1⟩
def PORT_ALPHA (n : Nat) : Fld := ⟨portBase n + 0x10, 0, 32⟩
def PORT_BOARD_TX (n : Nat) : Fld := ⟨portBase n + 0x14, 0, 32⟩
def PORT_BOARD_RX (n : Nat) : Fld := ⟨portBase n + 0x18, 0, 32⟩
def PORT_BERM_CFG_DT (n : Nat) : Fld := ⟨portBase n + 0x1C, 16, 8⟩
def PORT_BERM_CFG_PERIOD_S (n : Nat) : Fld := ⟨portBase n + 0x1C, 0, 16⟩
def PORT_LINK_DLY_HI (n : Nat) : Fld := ⟨portBase n + 0x20, 0, 16⟩
def PORT_LINK_DLY_LO (n : Nat) : Fld := ⟨portBase n + 0x24, 0, 32⟩
def PORT_OFFSET_HI (n : Nat) : Fld := ⟨portBase n + 0x28, 0, 16⟩
def PORT_OFFSET_LO (n : Nat) : Fld := ⟨portBase n + 0x2C, 0, 32⟩
def PORT_BERM_TX (n : Nat) : Fld := ⟨portBase n + 0x30, 0, 32⟩
def PORT_BERM_RX (n : Nat) : Fld := ⟨portBase n + 0x34, 0, 32⟩
def PORT_BERM_AGE (n : Nat) : Fld := ⟨portBase n + 0x38, 0, 32⟩
def PORT_U_STATED (n : Nat) : Fld := ⟨portBase n + 0x3C, 0, 16⟩
def PORT_PTP_CFG_LOG_SYNC (n : Nat) : Fld := ⟨portBase n + 0x40, 16, 8⟩
def PORT_PTP_CFG_LOG_DELAY_REQ (n : Nat) : Fld := ⟨portBase n + 0x40, 8, 8⟩
def PORT_PTP_CFG_LOG_ANNOUNCE (n : Nat) : Fld := ⟨portBase n + 0x40, 0, 8⟩
def PORT_PTP_XPORT_ROLE_FORCE (n : Nat) : Fld := ⟨portBase n + 0x44, 10, 2⟩
def PORT_PTP_XPORT_KEY_ID (n : Nat) : Fld := ⟨portBase n + 0x44, 4, 6⟩
def PORT_PTP_XPORT_ICV_128 (n : Nat) : Fld := ⟨portBase n + 0x44, 3, 1⟩
def PORT_PTP_XPORT_AUTH_EN (n : Nat) : Fld := ⟨portBase n + 0x44, 2, 1⟩
def PORT_PTP_XPORT_TRANSPORT (n : Nat) : Fld := ⟨portBase n + 0x44, 0, 2⟩
def PORT_PHY_CFG_TX_SQUELCH (n : Nat) : Fld := ⟨portBase n + 0x80, 7, 1⟩
def PORT_PHY_CFG_EN (n : Nat) : Fld := ⟨portBase n + 0x80, 6, 1⟩
def PORT_PHY_CFG_FEC (n : Nat) : Fld := ⟨portBase n + 0x80, 4, 2⟩
def PORT_PHY_CFG_RATE (n : Nat) : Fld := ⟨portBase n + 0x80, 0, 2⟩
def PORT_PHY_STATUS_AM_LOCK (n : Nat) : Fld := ⟨portBase n + 0x84, 3, 1⟩
def PORT_PHY_STATUS_LANE1_LOCK (n : Nat) : Fld := ⟨portBase n + 0x84, 2, 1⟩
def PORT_PHY_STATUS_BLOCK_LOCK (n : Nat) : Fld := ⟨portBase n + 0x84, 1, 1⟩
def PORT_PHY_STATUS_LINK_UP (n : Nat) : Fld := ⟨portBase n + 0x84, 0, 1⟩
def PORT_PHY_EVENTS_HI_BER (n : Nat) : Fld := ⟨portBase n + 0x88, 2, 1⟩
def PORT_PHY_EVENTS_LINK_DOWN (n : Nat) : Fld := ⟨portBase n + 0x88, 1, 1⟩
def PORT_PHY_EVENTS_LANE_LOST (n : Nat) : Fld := ⟨portBase n + 0x88, 0, 1⟩
def PORT_FEC_CORR (n : Nat) : Fld := ⟨portBase n + 0x8C, 0, 32⟩
def PORT_FEC_UNCORR (n : Nat) : Fld := ⟨portBase n + 0x90, 0, 32⟩
def PORT_BLOCK_ERR (n : Nat) : Fld := ⟨portBase n + 0x94, 0, 32⟩
def PORT_EQ_GAIN (n k : Nat) : Fld := ⟨portBase n + 0x98 + 4 * (k % 2), 25, 5⟩
def PORT_EQ_CTLE (n k : Nat) : Fld := ⟨portBase n + 0x98 + 4 * (k % 2), 21, 4⟩
def PORT_EQ_C_POST (n k : Nat) : Fld := ⟨portBase n + 0x98 + 4 * (k % 2), 15, 6⟩
def PORT_EQ_C_MAIN (n k : Nat) : Fld := ⟨portBase n + 0x98 + 4 * (k % 2), 9, 6⟩
def PORT_EQ_C_PRE (n k : Nat) : Fld := ⟨portBase n + 0x98 + 4 * (k % 2), 4, 5⟩
def PORT_EQ_FROM_TABLE (n k : Nat) : Fld := ⟨portBase n + 0x98 + 4 * (k % 2), 0, 1⟩
def LINK_LINK_CFG_AUTO_ALIGN (n : Nat) : Fld := ⟨0x60000 + 0x200 * (n % 6), 3, 1⟩
def LINK_LINK_CFG_RETRAIN (n : Nat) : Fld := ⟨0x60000 + 0x200 * (n % 6), 2, 1⟩
def LINK_LINK_CFG_ROLE (n : Nat) : Fld := ⟨0x60000 + 0x200 * (n % 6), 0, 2⟩
def LINK_LINK_STATUS_PEER_EPOCH (n : Nat) : Fld := ⟨0x60004 + 0x200 * (n % 6), 16, 16⟩
def LINK_LINK_STATUS_PEER_DEPTH (n : Nat) : Fld := ⟨0x60004 + 0x200 * (n % 6), 9, 3⟩
def LINK_LINK_STATUS_FOLLOWED (n : Nat) : Fld := ⟨0x60004 + 0x200 * (n % 6), 8, 1⟩
def LINK_LINK_STATUS_DLY_STALE (n : Nat) : Fld := ⟨0x60004 + 0x200 * (n % 6), 7, 1⟩
def LINK_LINK_STATUS_PAIR23_OK (n : Nat) : Fld := ⟨0x60004 + 0x200 * (n % 6), 6, 1⟩
def LINK_LINK_STATUS_PAIR01_OK (n : Nat) : Fld := ⟨0x60004 + 0x200 * (n % 6), 5, 1⟩
def LINK_LINK_STATUS_FWD_CLK_OK (n : Nat) : Fld := ⟨0x60004 + 0x200 * (n % 6), 4, 1⟩
def LINK_LINK_STATUS_STATE (n : Nat) : Fld := ⟨0x60004 + 0x200 * (n % 6), 0, 4⟩
def LINK_LINK_EVENTS_ROLE_MISMATCH (n : Nat) : Fld := ⟨0x60008 + 0x200 * (n % 6), 6, 1⟩
def LINK_LINK_EVENTS_DLY_DISAGREE (n : Nat) : Fld := ⟨0x60008 + 0x200 * (n % 6), 5, 1⟩
def LINK_LINK_EVENTS_TOO_MANY (n : Nat) : Fld := ⟨0x60008 + 0x200 * (n % 6), 4, 1⟩
def LINK_LINK_EVENTS_TOO_DEEP (n : Nat) : Fld := ⟨0x60008 + 0x200 * (n % 6), 3, 1⟩
def LINK_LINK_EVENTS_RETRY (n : Nat) : Fld := ⟨0x60008 + 0x200 * (n % 6), 2, 1⟩
def LINK_LINK_EVENTS_LINK_FAILED (n : Nat) : Fld := ⟨0x60008 + 0x200 * (n % 6), 1, 1⟩
def LINK_LINK_EVENTS_FWD_CLK_LOST (n : Nat) : Fld := ⟨0x60008 + 0x200 * (n % 6), 0, 1⟩
def LINK_ASYM (n : Nat) : Fld := ⟨0x6000C + 0x200 * (n % 6), 0, 32⟩
def LINK_RT_HI (n : Nat) : Fld := ⟨0x60010 + 0x200 * (n % 6), 0, 16⟩
def LINK_RT_LO (n : Nat) : Fld := ⟨0x60014 + 0x200 * (n % 6), 0, 32⟩
def LINK_DW_HI (n : Nat) : Fld := ⟨0x60018 + 0x200 * (n % 6), 0, 16⟩
def LINK_DW_LO (n : Nat) : Fld := ⟨0x6001C + 0x200 * (n % 6), 0, 32⟩
def LINK_THETA (n : Nat) : Fld := ⟨0x60020 + 0x200 * (n % 6), 0, 18⟩
def LINK_RETRY_CNT (n : Nat) : Fld := ⟨0x60024 + 0x200 * (n % 6), 0, 32⟩
def LINK_FAIL_CNT (n : Nat) : Fld := ⟨0x60028 + 0x200 * (n % 6), 0, 32⟩
def LINK_TF_DISCARD (n : Nat) : Fld := ⟨0x6002C + 0x200 * (n % 6), 0, 32⟩
def LINK_JPHY_LANE_LOCK (n k : Nat) : Fld := ⟨0x60080 + 0x200 * (n % 6) + 4 * (k % 4), 15, 1⟩
def LINK_JPHY_LANE_ALIGNED (n k : Nat) : Fld := ⟨0x60080 + 0x200 * (n % 6) + 4 * (k % 4), 14, 1⟩
def LINK_JPHY_LANE_LOST (n k : Nat) : Fld := ⟨0x60080 + 0x200 * (n % 6) + 4 * (k % 4), 13, 1⟩
def LINK_JPHY_LANE_AW_FOUND (n k : Nat) : Fld := ⟨0x60080 + 0x200 * (n % 6) + 4 * (k % 4), 10, 3⟩
def LINK_JPHY_LANE_SLIP_POS (n k : Nat) : Fld := ⟨0x60080 + 0x200 * (n % 6) + 4 * (k % 4), 0, 6⟩
def LINK_JPHY_LC_DETECT (n : Nat) : Fld := ⟨0x60090 + 0x200 * (n % 6), 0, 1⟩
def LINK_JPHY_STATUS_TX_PAIR23_USED (n : Nat) : Fld := ⟨0x60094 + 0x200 * (n % 6), 1, 1⟩
def LINK_JPHY_STATUS_TX_PAIR01_USED (n : Nat) : Fld := ⟨0x60094 + 0x200 * (n % 6), 0, 1⟩
def LINK_JPHY_EVENTS_LANE_ORDER (n : Nat) : Fld := ⟨0x60098 + 0x200 * (n % 6), 4, 1⟩
def LINK_JPHY_EVENTS_SKEW_ERR (n : Nat) : Fld := ⟨0x60098 + 0x200 * (n % 6), 3, 1⟩
def LINK_JPHY_EVENTS_LANE_REJOINED (n : Nat) : Fld := ⟨0x60098 + 0x200 * (n % 6), 2, 1⟩
def LINK_JPHY_EVENTS_LANE_LOST (n : Nat) : Fld := ⟨0x60098 + 0x200 * (n % 6), 1, 1⟩
def LINK_JPHY_EVENTS_CRC_ERR_SEEN (n : Nat) : Fld := ⟨0x60098 + 0x200 * (n % 6), 0, 1⟩
def LINK_CRC_ERR (n : Nat) : Fld := ⟨0x6009C + 0x200 * (n % 6), 0, 32⟩
def LINK_REPLAY_CNT (n : Nat) : Fld := ⟨0x600A0 + 0x200 * (n % 6), 0, 32⟩
def LINK_BLOCK_ERR (n : Nat) : Fld := ⟨0x600A4 + 0x200 * (n % 6), 0, 32⟩
def LINK_DEGRADE_CNT (n : Nat) : Fld := ⟨0x600A8 + 0x200 * (n % 6), 0, 32⟩
def LINK_EQ_GAIN (n k : Nat) : Fld := ⟨0x600AC + 0x200 * (n % 6) + 4 * (k % 5), 25, 5⟩
def LINK_EQ_CTLE (n k : Nat) : Fld := ⟨0x600AC + 0x200 * (n % 6) + 4 * (k % 5), 21, 4⟩
def LINK_EQ_C_POST (n k : Nat) : Fld := ⟨0x600AC + 0x200 * (n % 6) + 4 * (k % 5), 15, 6⟩
def LINK_EQ_C_MAIN (n k : Nat) : Fld := ⟨0x600AC + 0x200 * (n % 6) + 4 * (k % 5), 9, 6⟩
def LINK_EQ_C_PRE (n k : Nat) : Fld := ⟨0x600AC + 0x200 * (n % 6) + 4 * (k % 5), 4, 5⟩
def LINK_EQ_FROM_TABLE (n k : Nat) : Fld := ⟨0x600AC + 0x200 * (n % 6) + 4 * (k % 5), 0, 1⟩
def FP_SW_CFG_CUT_THROUGH (n : Nat) : Fld := ⟨0x81000 + 0x80 * (n % 42), 31, 1⟩
def FP_SW_CFG_PREEMPT_EN (n : Nat) : Fld := ⟨0x81000 + 0x80 * (n % 42), 30, 1⟩
def FP_SW_CFG_ADD_FRAG (n : Nat) : Fld := ⟨0x81000 + 0x80 * (n % 42), 28, 2⟩
def FP_SW_CFG_GATE_EN (n : Nat) : Fld := ⟨0x81000 + 0x80 * (n % 42), 24, 1⟩
def FP_SW_CFG_PVID (n : Nat) : Fld := ⟨0x81000 + 0x80 * (n % 42), 0, 12⟩
def FP_SW_CFG_PCP_MAP (n : Nat) : Fld := ⟨0x81004 + 0x80 * (n % 42), 0, 24⟩
def FP_SW_STATUS_LINK_UP (n : Nat) : Fld := ⟨0x81008 + 0x80 * (n % 42), 31, 1⟩
def FP_SW_STATUS_FLUSHING (n : Nat) : Fld := ⟨0x81008 + 0x80 * (n % 42), 30, 1⟩
def FP_SW_STATUS_PREEMPT_ACTIVE (n : Nat) : Fld := ⟨0x81008 + 0x80 * (n % 42), 29, 1⟩
def FP_SW_STATUS_SLUICE_DEGRADED (n : Nat) : Fld := ⟨0x81008 + 0x80 * (n % 42), 28, 1⟩
def FP_SW_STATUS_GATE_PENDING (n : Nat) : Fld := ⟨0x81008 + 0x80 * (n % 42), 27, 1⟩
def FP_SW_STATUS_GATE_STATE (n : Nat) : Fld := ⟨0x81008 + 0x80 * (n % 42), 8, 8⟩
def FP_SW_STATUS_GATE_INDEX (n : Nat) : Fld := ⟨0x81008 + 0x80 * (n % 42), 0, 8⟩
def FP_RX_FRAMES_HI (n : Nat) : Fld := ⟨0x81010 + 0x80 * (n % 42), 0, 32⟩
def FP_RX_FRAMES_LO (n : Nat) : Fld := ⟨0x81014 + 0x80 * (n % 42), 0, 32⟩
def FP_RX_BYTES_HI (n : Nat) : Fld := ⟨0x81018 + 0x80 * (n % 42), 0, 32⟩
def FP_RX_BYTES_LO (n : Nat) : Fld := ⟨0x8101C + 0x80 * (n % 42), 0, 32⟩
def FP_TX_FRAMES_HI (n : Nat) : Fld := ⟨0x81020 + 0x80 * (n % 42), 0, 32⟩
def FP_TX_FRAMES_LO (n : Nat) : Fld := ⟨0x81024 + 0x80 * (n % 42), 0, 32⟩
def FP_TX_BYTES_HI (n : Nat) : Fld := ⟨0x81028 + 0x80 * (n % 42), 0, 32⟩
def FP_TX_BYTES_LO (n : Nat) : Fld := ⟨0x8102C + 0x80 * (n % 42), 0, 32⟩
def FP_RX_FCS_ERR_HI (n : Nat) : Fld := ⟨0x81030 + 0x80 * (n % 42), 0, 32⟩
def FP_RX_FCS_ERR_LO (n : Nat) : Fld := ⟨0x81034 + 0x80 * (n % 42), 0, 32⟩
def FP_RX_RUNT_HI (n : Nat) : Fld := ⟨0x81038 + 0x80 * (n % 42), 0, 32⟩
def FP_RX_RUNT_LO (n : Nat) : Fld := ⟨0x8103C + 0x80 * (n % 42), 0, 32⟩
def FP_RX_OVERSIZE_HI (n : Nat) : Fld := ⟨0x81040 + 0x80 * (n % 42), 0, 32⟩
def FP_RX_OVERSIZE_LO (n : Nat) : Fld := ⟨0x81044 + 0x80 * (n % 42), 0, 32⟩
def FP_RX_DISCARD_HI (n : Nat) : Fld := ⟨0x81048 + 0x80 * (n % 42), 0, 32⟩
def FP_RX_DISCARD_LO (n : Nat) : Fld := ⟨0x8104C + 0x80 * (n % 42), 0, 32⟩
def FP_DROP_ADMIT_HI (n : Nat) : Fld := ⟨0x81050 + 0x80 * (n % 42), 0, 32⟩
def FP_DROP_ADMIT_LO (n : Nat) : Fld := ⟨0x81054 + 0x80 * (n % 42), 0, 32⟩
def FP_FLUSHED_HI (n : Nat) : Fld := ⟨0x81058 + 0x80 * (n % 42), 0, 32⟩
def FP_FLUSHED_LO (n : Nat) : Fld := ⟨0x8105C + 0x80 * (n % 42), 0, 32⟩
def FP_CT_TRUNCATED_HI (n : Nat) : Fld := ⟨0x81060 + 0x80 * (n % 42), 0, 32⟩
def FP_CT_TRUNCATED_LO (n : Nat) : Fld := ⟨0x81064 + 0x80 * (n % 42), 0, 32⟩
def FP_SLUICE_TX_HI (n : Nat) : Fld := ⟨0x81068 + 0x80 * (n % 42), 0, 32⟩
def FP_SLUICE_TX_LO (n : Nat) : Fld := ⟨0x8106C + 0x80 * (n % 42), 0, 32⟩
def FP_SLUICE_LATE_HI (n : Nat) : Fld := ⟨0x81070 + 0x80 * (n % 42), 0, 32⟩
def FP_SLUICE_LATE_LO (n : Nat) : Fld := ⟨0x81074 + 0x80 * (n % 42), 0, 32⟩
def FP_SLUICE_DROP_HI (n : Nat) : Fld := ⟨0x81078 + 0x80 * (n % 42), 0, 32⟩
def FP_SLUICE_DROP_LO (n : Nat) : Fld := ⟨0x8107C + 0x80 * (n % 42), 0, 32⟩
def Q_Q_FB_HI (n : Nat) : Fld := ⟨0x82800 + 0x10 * (n % 336), 0, 17⟩
def Q_Q_FB_LO (n : Nat) : Fld := ⟨0x82804 + 0x10 * (n % 336), 0, 17⟩
def Q_Q_CFG_SPILL_MAX (n : Nat) : Fld := ⟨0x82808 + 0x10 * (n % 336), 16, 16⟩
def Q_Q_CFG_WEIGHT (n : Nat) : Fld := ⟨0x82808 + 0x10 * (n % 336), 9, 7⟩
def Q_Q_CFG_STRICT (n : Nat) : Fld := ⟨0x82808 + 0x10 * (n % 336), 8, 1⟩
def Q_Q_CFG_EXPRESS (n : Nat) : Fld := ⟨0x82808 + 0x10 * (n % 336), 7, 1⟩
def Q_Q_CFG_SPILLING (n : Nat) : Fld := ⟨0x82808 + 0x10 * (n % 336), 6, 1⟩
def Q_Q_OCC (n : Nat) : Fld := ⟨0x8280C + 0x10 * (n % 336), 0, 17⟩
def GA_CFG_CONT (n : Nat) : Fld := ⟨0x90100 + 0x40 * (n % 12), 13, 1⟩
def GA_CFG_PAIRING (n : Nat) : Fld := ⟨0x90100 + 0x40 * (n % 12), 12, 1⟩
def GA_CFG_PARTNER (n : Nat) : Fld := ⟨0x90100 + 0x40 * (n % 12), 8, 4⟩
def GA_CFG_TOD_FMT (n : Nat) : Fld := ⟨0x90100 + 0x40 * (n % 12), 4, 1⟩
def GA_CFG_MODE (n : Nat) : Fld := ⟨0x90100 + 0x40 * (n % 12), 2, 2⟩
def GA_CFG_EDGE (n : Nat) : Fld := ⟨0x90100 + 0x40 * (n % 12), 1, 1⟩
def GA_CFG_EN (n : Nat) : Fld := ⟨0x90100 + 0x40 * (n % 12), 0, 1⟩
def GA_PERIOD_M (n : Nat) : Fld := ⟨0x90104 + 0x40 * (n % 12), 0, 16⟩
def GA_GATE_MS (n : Nat) : Fld := ⟨0x90108 + 0x40 * (n % 12), 0, 29⟩
def GA_PAIR_WIN (n : Nat) : Fld := ⟨0x9010C + 0x40 * (n % 12), 0, 30⟩
def GA_STATUS_RUNNING (n : Nat) : Fld := ⟨0x90110 + 0x40 * (n % 12), 13, 1⟩
def GA_STATUS_CFG_ERR (n : Nat) : Fld := ⟨0x90110 + 0x40 * (n % 12), 12, 1⟩
def GA_STATUS_STALE (n : Nat) : Fld := ⟨0x90110 + 0x40 * (n % 12), 11, 1⟩
def GA_STATUS_FILL (n : Nat) : Fld := ⟨0x90110 + 0x40 * (n % 12), 0, 11⟩
def GA_RESULT_0 (n : Nat) : Fld := ⟨0x90114 + 0x40 * (n % 12), 0, 32⟩
def GA_RESULT_1 (n : Nat) : Fld := ⟨0x90118 + 0x40 * (n % 12), 0, 32⟩
def GA_RESULT_2 (n : Nat) : Fld := ⟨0x9011C + 0x40 * (n % 12), 0, 32⟩
def GA_RESULT_3 (n : Nat) : Fld := ⟨0x90120 + 0x40 * (n % 12), 0, 32⟩
def GA_LSB_CAL (n : Nat) : Fld := ⟨0x90124 + 0x40 * (n % 12), 0, 32⟩
def GA_IN_DELAY (n : Nat) : Fld := ⟨0x90128 + 0x40 * (n % 12), 0, 32⟩
def GA_N0 (n : Nat) : Fld := ⟨0x9012C + 0x40 * (n % 12), 0, 10⟩
def GA_MISSED (n : Nat) : Fld := ⟨0x90130 + 0x40 * (n % 12), 0, 32⟩
def GA_OVERRUN (n : Nat) : Fld := ⟨0x90134 + 0x40 * (n % 12), 0, 32⟩
def GA_IGNORED (n : Nat) : Fld := ⟨0x90138 + 0x40 * (n % 12), 0, 32⟩
def NOTCH_CFG_MANUAL (n : Nat) : Fld := ⟨0xA0050 + 0x8 * (n % 4), 31, 1⟩
def NOTCH_CFG_FREQ (n : Nat) : Fld := ⟨0xA0050 + 0x8 * (n % 4), 0, 24⟩
def NOTCH_STAT_ACTIVE (n : Nat) : Fld := ⟨0xA0054 + 0x8 * (n % 4), 31, 1⟩
def NOTCH_STAT_FREQ (n : Nat) : Fld := ⟨0xA0054 + 0x8 * (n % 4), 0, 24⟩
def CH_CH_STATUS_STATE (n : Nat) : Fld := ⟨0xA0100 + 0x20 * (n % 24), 29, 3⟩
def CH_CH_STATUS_CN0 (n : Nat) : Fld := ⟨0xA0100 + 0x20 * (n % 24), 16, 8⟩
def CH_CH_STATUS_FLAGS (n : Nat) : Fld := ⟨0xA0100 + 0x20 * (n % 24), 10, 6⟩
def CH_CH_STATUS_PRN (n : Nat) : Fld := ⟨0xA0100 + 0x20 * (n % 24), 0, 6⟩
def CH_DOPPLER (n : Nat) : Fld := ⟨0xA0104 + 0x20 * (n % 24), 0, 32⟩
def CH_ELEV (n : Nat) : Fld := ⟨0xA0108 + 0x20 * (n % 24), 0, 8⟩
def CH_RESIDUAL (n : Nat) : Fld := ⟨0xA010C + 0x20 * (n % 24), 0, 32⟩
def UE_ENG_STATUS_RUNNING (n : Nat) : Fld := ⟨0xB0100 + 0x20 * (n % 16), 31, 1⟩
def UE_ENG_STATUS_HALTED (n : Nat) : Fld := ⟨0xB0100 + 0x20 * (n % 16), 30, 1⟩
def UE_ENG_STATUS_LOST (n : Nat) : Fld := ⟨0xB0100 + 0x20 * (n % 16), 29, 1⟩
def UE_ENG_STATUS_CAUSE (n : Nat) : Fld := ⟨0xB0100 + 0x20 * (n % 16), 24, 4⟩
def UE_ENG_STATUS_PC (n : Nat) : Fld := ⟨0xB0100 + 0x20 * (n % 16), 0, 12⟩
def UE_ENG_CFG_WDT_MS (n : Nat) : Fld := ⟨0xB0104 + 0x20 * (n % 16), 0, 16⟩
def UE_MBOX_IN (n : Nat) : Fld := ⟨0xB0108 + 0x20 * (n % 16), 0, 18⟩
def UE_MBOX_OUT_VALID (n : Nat) : Fld := ⟨0xB010C + 0x20 * (n % 16), 31, 1⟩
def UE_MBOX_OUT_DATA (n : Nat) : Fld := ⟨0xB010C + 0x20 * (n % 16), 0, 18⟩
def UE_LOAD (n : Nat) : Fld := ⟨0xB0110 + 0x20 * (n % 16), 0, 10⟩
def UE_DENIED_RD (n : Nat) : Fld := ⟨0xB0114 + 0x20 * (n % 16), 0, 32⟩
def CNT_CNT_CFG_EVENT (n : Nat) : Fld := ⟨0xC1000 + 0x20 * (n % 128), 24, 8⟩
def CNT_CNT_CFG_PRIV (n : Nat) : Fld := ⟨0xC1000 + 0x20 * (n % 128), 20, 4⟩
def CNT_CNT_CFG_REQ (n : Nat) : Fld := ⟨0xC1000 + 0x20 * (n % 128), 14, 6⟩
def CNT_CNT_CFG_CFG_ERR (n : Nat) : Fld := ⟨0xC1000 + 0x20 * (n % 128), 8, 1⟩
def CNT_CNT_CFG_CLASS (n : Nat) : Fld := ⟨0xC1000 + 0x20 * (n % 128), 0, 8⟩
def CNT_ADDR_LO (n : Nat) : Fld := ⟨0xC1004 + 0x20 * (n % 128), 0, 24⟩
def CNT_ADDR_HI (n : Nat) : Fld := ⟨0xC1008 + 0x20 * (n % 128), 0, 24⟩
def CNT_VALUE_HI (n : Nat) : Fld := ⟨0xC100C + 0x20 * (n % 128), 0, 16⟩
def CNT_VALUE_LO (n : Nat) : Fld := ⟨0xC1010 + 0x20 * (n % 128), 0, 32⟩
def HIST_HIST_CFG_SRC (n : Nat) : Fld := ⟨0xC4000 + 0x200 * (n % 8), 28, 4⟩
def HIST_HIST_CFG_LOG (n : Nat) : Fld := ⟨0xC4000 + 0x200 * (n % 8), 27, 1⟩
def HIST_HIST_CFG_USER_READ (n : Nat) : Fld := ⟨0xC4000 + 0x200 * (n % 8), 26, 1⟩
def HIST_HIST_CFG_ENG (n : Nat) : Fld := ⟨0xC4000 + 0x200 * (n % 8), 22, 4⟩
def HIST_HIST_CFG_MARK_ID (n : Nat) : Fld := ⟨0xC4000 + 0x200 * (n % 8), 14, 8⟩
def HIST_HIST_CFG_CLASS (n : Nat) : Fld := ⟨0xC4000 + 0x200 * (n % 8), 6, 8⟩
def HIST_HIST_CFG_REQ (n : Nat) : Fld := ⟨0xC4000 + 0x200 * (n % 8), 0, 6⟩
def HIST_BASE (n : Nat) : Fld := ⟨0xC4004 + 0x200 * (n % 8), 0, 32⟩
def HIST_WIDTH (n : Nat) : Fld := ⟨0xC4008 + 0x200 * (n % 8), 0, 24⟩
def HIST_LO (n : Nat) : Fld := ⟨0xC400C + 0x200 * (n % 8), 0, 24⟩
def HIST_HI (n : Nat) : Fld := ⟨0xC4010 + 0x200 * (n % 8), 0, 24⟩
def HIST_CLR (n : Nat) : Fld := ⟨0xC4014 + 0x200 * (n % 8), 0, 1⟩
def HIST_COUNT_HI (n : Nat) : Fld := ⟨0xC4018 + 0x200 * (n % 8), 0, 16⟩
def HIST_COUNT_LO (n : Nat) : Fld := ⟨0xC401C + 0x200 * (n % 8), 0, 32⟩
def HIST_MIN (n : Nat) : Fld := ⟨0xC4020 + 0x200 * (n % 8), 0, 32⟩
def HIST_MAX (n : Nat) : Fld := ⟨0xC4024 + 0x200 * (n % 8), 0, 32⟩
def HIST_BIN (n k : Nat) : Fld := ⟨0xC4100 + 0x200 * (n % 8) + 4 * (k % 32), 0, 32⟩

end Reg

end Sys2Proof.Machine
end

