-- ==== Sys2Proof/Machine/State.lean ====
section
/-! DEFINITION. The state of the TMR-3618 as plain data. Every register of the register map lives in the bank `regs`
(unlisted address = reset value of the field maps, Machine/RegMap.lean); what no register holds lives in the structures below.
Each field's docstring gives its width, the rule that names it and its reset value, which is the field's default. -/

namespace Sys2Proof.Machine

/-- Why a step stops with a fault. -/
inductive Fault where
  /-- Raised by a meaning whose command names a resource that does not exist (a port above 35, an engine above 15, a queue
  above 3 ...). The manual gives such a resource no state. Safe: the model stops where the hardware has nothing to act on. -/
  | noSuchResource
  deriving DecidableEq, Repr

/-- Why a step is refused. -/
inductive Refusal where
  /-- Raised only by an arm of `exec` for a command without a meaning yet. Safe: the model stops. -/
  | notModelled (mnemonic : String)
  deriving DecidableEq, Repr

/-- What the device does at its boundary, oldest first: the model's own record of pulses, messages, frames and replies. -/
inductive Output where
  /-- MSI-X message with its vector (R305, R331). -/
  | msix (vector : Nat)
  /-- A reply written to a reply slot over PCI Express (R305): queue, slot, reply words. -/
  | pcieReply (queue slot : Nat) (words : List Word)
  /-- A reply sent back over a Jieth link (R153). -/
  | jiethReply (link : Nat) (words : List Word)
  /-- Value returned by a BAR0 read (R319, R322). -/
  | read (addr : Nat) (v : Word)
  /-- Words shifted out over SPI (R306). -/
  | spi (words : List Word)
  /-- An output edge (R54, R67): output, number of the launch tick (as `State.now`), sub-tick, tap, width in 200 ps. -/
  | edge (n tick sub tap width : Nat)
  /-- A frame leaves a fabric port (R178, R184): port, source port, length, and whether with a good FCS. -/
  | frame (f src len : Nat) (good : Bool)
  /-- A fragment of a preempted frame leaves (R189): port, source port, data bytes, and whether it is the last. -/
  | fragment (f src bytes : Nat) (last : Bool)
  /-- A Sluice frame leaves (R195, R98): port, source port, length, egress timestamp and correctionField in 2^-16 ns, the timestamp that a
  one-step egress inserts, and the words of its ICV (R97). -/
  | sluice (f src len : Nat) (ts : Nat) (corr : Int) (stamp : Option Nat) (icv : List Word)
  /-- A PTP message leaves through a traffic class (R97, R98): port, source port, length, correctionField, and the words of its ICV. -/
  | ptpFrame (f src len : Nat) (corr : Int) (icv : List Word)
  /-- A frame or message given to the firmware (R176, R180): the port it came in by. -/
  | firmware (f : Nat)
  /-- A PTP frame sent by PTP_SEND leaves (R96, R97, R316): port, its words, the timestamp that a one-step egress inserts, its ICV. -/
  | ptp (port : Nat) (bytes : List Word) (stamp : Option Nat) (icv : List Word)
  /-- A general PTP message of the firmware leaves (R93 to R97): port, what it carries. -/
  | message (port : Nat) (m : PtpTx)
  /-- A control frame leaves on a link (R151). -/
  | ctl (link : Nat) (header : Word) (words : List Word)
  /-- A timing frame leaves on a link (R142). -/
  | timing (link : Nat) (r : TimingRec)
  /-- A block leaves on a link (R213 to R219): the levels of its symbols on the data lanes in use. -/
  | block (link : Nat) (levels : List (List Int))
  /-- A HELLO leaves on a link (R140, R217). -/
  | hello (link : Nat) (h : HelloIn)
  /-- A FLOW leaves on a link (R217). -/
  | flow (link : Nat) (f : FlowIn)
  /-- A mirror state frame leaves (R158). -/
  | mirror (m : MirrorFrame)
  /-- A gap request toward a TMR-3618 partner, with the start W that it names (R104). -/
  | gapAsk (port : Nat) (w : Nat)
  /-- A gap confirmed to a TMR-3618 partner (R104). -/
  | gapConfirm (port : Nat)
  deriving DecidableEq, Repr

/-- Straps as sampled at the passage from RESET to BOOT (R32). -/
structure Straps where
  /-- 2 bits, R32. Reset 0: before the first sampling (DESIGN CHOICE, log entry 7). -/
  bootSrc : BitVec 2 := 0
  /-- 2 bits, R32. Reset 0 (DESIGN CHOICE, log entry 7). -/
  jrole : BitVec 2 := 0
  /-- 1 bit, R32. Reset false (DESIGN CHOICE, log entry 7). -/
  pairEn : Bool := false
  /-- 1 bit, R32. Reset false (DESIGN CHOICE, log entry 7). -/
  ovenUse : Bool := false
  deriving DecidableEq, Repr

/-- One-time fuses (R343, R348) that survive power-on. -/
structure Otp where
  /-- 32 fuses, R343: breach fuses burnt, lowest first. Reset: none burnt (DESIGN CHOICE, log entry 8, OTP of a new part). -/
  breach : List Bool := List.replicate 32 false
  /-- 6 bits, R348: security-version floor. Reset 0 (DESIGN CHOICE, log entry 8). -/
  svnFloor : Nat := 0
  /-- 4 bits, R348: revoke fuses. Reset 0 (DESIGN CHOICE, log entry 8). -/
  revoked : BitVec 4 := 0
  /-- 4 × 256 bits, R348: key-hash slots. Reset 0, unprogrammed (DESIGN CHOICE, log entry 8): a boot may bring the programmed ones. -/
  keyHash : List (List Word) := List.replicate 4 (List.replicate 8 0)
  deriving DecidableEq, Repr

/-- Levels the board drives (R31, R37, R344, R166). -/
structure Pins where
  /-- RESET_N (R31). Reset true: high after power-on (DESIGN CHOICE, log entry 10). -/
  resetN : Bool := true
  /-- PERST_N (R31). Reset false: PCI Express in reset until its deassertion (DESIGN CHOICE, log entry 10). -/
  perstN : Bool := false
  /-- DBG_EN (R317). Reset true (DESIGN CHOICE, log entry 10): the board's level; DEBUG_CLOSE takes it low. -/
  dbgEn : Bool := true
  deriving DecidableEq, Repr

/-- Settings of a spreadable PLL in force (R50, R51). -/
structure Pll where
  /-- 2 bits, R50: FREQ in force. Reset 0. -/
  freq : Nat := 0
  /-- 2 bits, R50: SPREAD in force. Reset 0. -/
  spread : Nat := 0
  /-- 3 bits, R50: DEPTH in force. Reset 5. -/
  depth : Nat := 5
  deriving DecidableEq, Repr

/-- Clock root (chapter 3). -/
structure Clk where
  /-- 54 bits signed, R45: the request as made. Reset 0. -/
  cwReq : Int := 0
  /-- R47: position of the applied word, in 1/625,000,000 LSB. Reset 0. -/
  cwPos : Int := 0
  /-- 18 bits, R46: staged request word [53:36]. Reset 0 (DESIGN CHOICE, log entry 11). -/
  stageHi : EWord := 0
  /-- 18 bits, R46: staged request word [35:18]. Reset 0 (DESIGN CHOICE, log entry 11). -/
  stageMid : EWord := 0
  /-- R163: the applied word holds and follows no request. Reset false. -/
  cwHeld : Bool := false
  /-- R47, R65: position of the root's own word while NUMERIC holds it at NOMINAL, in 1/625,000,000 LSB. Reset 0. -/
  rootPos : Int := 0
  /-- R146: the link whose LC_156 is the root's input; none is OSC_IN. Reset none. -/
  rootFwd : Option Nat := none
  /-- R146: the build-out stored at the last change of the root's input, LSB 0.0244 ps. Reset 0. -/
  buildOut : Nat := 0
  /-- R43, R48: the root has locked since the last reset, so dividers and warm-up timer run. Reset false. -/
  started : Bool := false
  /-- R48: the tick at which the dividers started: the common rising edge of the divided clocks. Reset 0. -/
  divAt : Nat := 0
  /-- R43: the tick at which the warm-up timer started or restarted. Reset none: no ROOT_LOCK yet. -/
  warmAt : Option Nat := none
  /-- R41: the tick of the last change of the deglitched OVEN_OK. Reset none: no change yet. -/
  ovenAt : Option Nat := none
  /-- R42: the consecutive once-per-second frequency samples of the slope window, newest first, at most 600. Reset none. -/
  slope : List Int := []
  /-- R42: consecutive passing evaluations. Reset 0. -/
  slopePass : Nat := 0
  /-- R42: highest-ranked qualified slot the window measures against. Reset none. -/
  slopeRef : Option Nat := none
  /-- R50: fabric PLL in force. -/
  fab : Pll := {}
  /-- R50: HBM PLL in force. -/
  hbm : Pll := {}
  deriving DecidableEq, Repr

/-- A change that waits for an output's period boundary (R59). -/
inductive OutChange where
  /-- Phase step of R75, in taps. -/
  | pstep (taps : Int)
  /-- Re-alignment of R74: to the reference second marker (its offset from the ToD second in 2^-16 ns) or, with `tod`, to the ToD second
  boundary, stepped or slewed. -/
  | align (marker : Int) (tod slew : Bool)
  /-- The grid of R74 before first alignment moves to the OUT_ALIGN_OFS that holds at the boundary. -/
  | grid
  deriving DecidableEq, Repr

/-- One timed output n = 0–13 (R72 to R75). -/
structure OutS where
  /-- R73: ToD of the next edge, in fifths of 2^-16 ns (a tap is 256). Reset 0. -/
  next : Int := 0
  /-- R72: a schedule stands. Reset false. -/
  armed : Bool := false
  /-- R72: schedule is PERIODIC. Reset false. -/
  periodic : Bool := false
  /-- R72: the schedule's first edge has fired. Reset false. -/
  firstDone : Bool := false
  /-- R72: TGT of the schedule, in 2^-16 ns. Reset 0. -/
  tgt : Nat := 0
  /-- R72: period of the schedule, in 2^-16 ns. Reset 0. -/
  per : Nat := 0
  /-- 32 bits, R72: width of the schedule in 200 ps. Reset 0. -/
  width : Nat := 0
  /-- R59: change pending its period boundary. Reset none. -/
  pend : Option OutChange := none
  /-- R74: fifths of 2^-16 ns still to slew. Reset 0. -/
  slew : Int := 0
  /-- R74: what the slew's rate leaves below a fifth, in 10^-12. Reset 0. -/
  slewAcc : Nat := 0
  /-- R59: the edge of the period boundary to come has been launched, so that boundary is done. Reset false. -/
  fired : Bool := false
  /-- R59: the value of `next` whose period boundary has been taken ahead of its edge. Reset none. -/
  opened : Option Int := none
  deriving DecidableEq, Repr

/-- Time of day (chapter 4). -/
structure Tim where
  /-- R61: the counter, seconds × 10^9 ns + ns, in 2^-56 ns, below 2^48 s. Reset 0 (R62). -/
  tod : Nat := 0
  /-- R63: tick phase 0–4. Reset 0 (DESIGN CHOICE, log entry 12: the phase at the first tick is not stated). -/
  phase : Nat := 0
  /-- R65: NUMERIC discipline in force. Reset false. -/
  numeric : Bool := false
  /-- R69: remaining Weir amount, signed 2^-56 ns. Reset 0. -/
  weirRem : Int := 0
  /-- R69: accumulator remainder, in 10^-13 of 2^-56 ns. Reset 0. -/
  weirAcc : Nat := 0
  /-- R77: pending offset, 2^-16 ns. Reset none. -/
  pend : Option Int := none
  /-- R74: outputs run provisionally, since the first exit from CONFIG. Reset false. -/
  provisional : Bool := false
  /-- The fourteen timed outputs. -/
  outs : List OutS := List.replicate 14 {}
  deriving DecidableEq, Repr

/-- One selector slot beside its registers (R112 to R137). -/
structure SlotS where
  /-- Last measurement. Reset none. -/
  meas : Option SlotMeas := none
  /-- R117: the next qualification runs wait-to-restore. Reset false. -/
  lostOnce : Bool := false
  /-- R132: the tick at which qualification was last lost. Reset none. -/
  lostAt : Option Nat := none
  /-- R132: prediction of the coast: offset and frequency at the loss. Reset none. -/
  pred : Option (Int × Int) := none
  /-- R119: seconds since qualification. Reset 0. -/
  secs : Nat := 0
  /-- R116: consecutive inconsistent seconds. Reset 0. -/
  incons : Nat := 0
  /-- R119: once-per-second frequencies since qualification, newest first, up to 3,600. Reset none. -/
  freqs : List Int := []
  deriving DecidableEq, Repr

/-- Quantities integrated since the loss that began a coast (R132), or since a source was lost or released (R122). -/
structure Coast where
  /-- Ticks since the loss. -/
  ticks : Nat := 0
  /-- Sum over those ticks of the applied word, in 1/625,000,000 LSB. -/
  cSum : Int := 0
  /-- What the Weir and steps have added to the ToD, in 2^-56 ns. -/
  w : Int := 0
  deriving DecidableEq, Repr

/-- A running switch (R122): target, source phase and frequency, build-out, start, whether the source is measured live or extrapolated;
`freqOnly` tells a source whose phase the Weir was not given (R77, R133), so that the blend steers the frequency only. -/
structure Switch where
  b : Nat
  xFrom : Int
  yFrom : Int
  bOut : Int
  start : Nat
  live : Bool
  committed : Bool := false
  freqOnly : Bool := false
  /-- R122: what has passed since the source was lost or released. -/
  run : Coast := {}
  deriving DecidableEq, Repr

/-- The selector (chapter 6). -/
structure Sel where
  /-- The eight slots. -/
  slots : List SlotS := List.replicate 8 {}
  /-- R122: the running switch. Reset none. -/
  sw : Option Switch := none
  /-- R121: hold-off after a window. Reset false. -/
  holdOff : Bool := false
  /-- R130: history, newest first, at most 7,200 entries. Reset none. -/
  hist : List HistEntry := []
  /-- R131: holdover value taken at entry; none is NOMINAL. Reset none. -/
  holdVal : Option Int := none
  /-- R132: the coast. Reset none. -/
  coast : Option Coast := none
  /-- R129, R120: ACQUIRE with nothing selected keeps the holdover average. Reset false. -/
  keepAvg : Bool := false
  /-- R94: HOLDOVER has lasted longer than HOLD_SPEC. Reset false. -/
  specOver : Bool := false
  /-- R273: the selector's own word, before trims. Reset 0. -/
  ownCw : Int := 0
  /-- R273: the selector's own Weir target, 2^-16 ns. Reset 0. -/
  ownWeir : Int := 0
  /-- R25, R118: slots eligible when the selector last looked. Reset none. -/
  elig : List Nat := []
  /-- R121, R127: slots that became eligible while a switch or its hold-off ran: gains that the hold-off delays. Reset none. -/
  gained : List Nat := []
  /-- R74: the first selection has been made. Reset false. -/
  everSelected : Bool := false
  /-- R71, R77: an offset that SLEW_ACCEPT gave to the Weir is being slewed out. Reset false. -/
  slewing : Bool := false
  deriving DecidableEq, Repr

/-- One line or trunk port beside its registers (chapter 5). -/
structure PortS where
  /-- R90: rt, d_in and, but on a port in the master state, the offset awaiting the Sync boundary. Reset none. -/
  pendLink : Option (Int × Int × Option Int) := none
  /-- R90: offset last published. Reset none. -/
  ofs : Option Int := none
  /-- R89, R90: ingress timestamp of the last Sync, t2, at the reference plane in 2^-16 ns. Reset none. -/
  syncIn : Option Int := none
  /-- R89, R90: egress timestamp of the last Sync sent. Reset none. -/
  syncOut : Option Int := none
  /-- R89, R90: ingress timestamp of the last Delay_Req, of a Pdelay_Req under DELAY_MECH 0b01. Reset none. -/
  reqIn : Option Int := none
  /-- R89, R90: egress timestamp of the last Delay_Req sent, t3, of a Pdelay_Req under DELAY_MECH 0b01. Reset none. -/
  reqOut : Option Int := none
  /-- R92: the tick of the last grid boundary. Reset none. -/
  syncAt : Option Nat := none
  /-- R93: number of the Announce interval of the ToD last served, plus one. Reset 0: none. -/
  annDue : Nat := 0
  /-- R93: number of the delay request interval of the ToD last served, plus one. Reset 0: none. -/
  reqDue : Nat := 0
  /-- R90: rt in force, 2^-16 ns. Reset 0. -/
  rt : Int := 0
  /-- R92: LOG_SYNC in force. Reset −4. -/
  logSync : Int := -4
  /-- R111: TRANSPORT in force. Reset 0. -/
  transport : Nat := 0
  /-- R111: DOMAIN in force. Reset 0. -/
  domain : Nat := 0
  /-- R111: TC_TYPE in force. Reset 0. -/
  tcType : Nat := 0
  /-- R96, R111: HOST_HANDLED in force. Reset false. -/
  hostHandled : Bool := false
  /-- R115: whole grid intervals since the last update. Reset 0. -/
  quiet : Nat := 0
  /-- R206: rate whose internal delays are in force. Reset 0. -/
  rate : Nat := 0
  /-- R205: the PCS and FEC that the port runs, as RATE and FEC act. Reset none: no link. -/
  phy : Option (Nat × Nat) := none
  /-- R86: the tick at which the last condition that invalidates phase words ended. Reset none: it stands. -/
  cleanAt : Option Nat := none
  /-- R83, R86: the tick at which the group of beats in progress began. Reset 0. -/
  groupAt : Nat := 0
  /-- R102: a Berm window has ended and no valid word has followed. Reset false. -/
  after : Bool := false
  /-- R88: the last valid phase word that is not stale. Reset none. -/
  phase : Option Nat := none
  /-- R81: frequency of the recovered clock against OSC_IN between the last two such words, in 2^-60. Reset none. -/
  freq : Option Int := none
  /-- R82: the tick at which the recovered-clock divider restarted. Reset none: no CDR lock. -/
  divAt : Option Nat := none
  /-- R82: skew of Tn.1 after Tn.0 from the alignment-marker positions, in unit intervals. Reset 0. -/
  skew : Int := 0
  /-- 18 bits, R88: phase of the transmit lane clock after CK_REF from the transmit tap. Reset 0 (DESIGN CHOICE, log entry 110). -/
  txPhi : Nat := 0
  /-- R104: the gap start W that the device has asked its partner for, 2^-16 ns of ToD. Reset none. -/
  gapAsk : Option Nat := none
  /-- R104: the gap start W that the partner has confirmed. Reset none. -/
  gapOk : Option Nat := none
  /-- R102: accepted transmit and receive changes awaiting the boundary. Reset none. -/
  bermPend : Option (Int × Int × Int) := none
  /-- R288: attempts of the present Berm measurement. Reset 0. -/
  tries : Nat := 0
  /-- R102, R293: reference temperature from the last accepted measurement, 0.01 °C. Reset none. -/
  refTemp : Option Int := none
  /-- R295: reference load class from the last accepted measurement. Reset none. -/
  refClass : Option Nat := none
  /-- R293: die temperature at the port's last Sync interval boundary, 0.01 °C. Reset 0. -/
  dieT : Int := 0
  /-- R296: AUTO_RECAL has asked at this reference class. Reset false. -/
  recalAsked : Bool := false
  /-- R94: dataset of the last Announce taken on the port. Reset none. -/
  ann : Option Dataset := none
  /-- R95: UTC data of that Announce: currentUtcOffset, leap59, leap61. Reset none. -/
  utc : Option (Int × Bool × Bool) := none
  /-- R104: ToD at which a gap held for the partner starts, 2^-16 ns. Reset none. -/
  gapW : Option Nat := none
  /-- 32 bits, R209: equalisation in force on lane 0. Reset 0: no lane has started (DESIGN CHOICE, log entry 14). -/
  eq0 : Word := 0
  /-- 32 bits, R209: equalisation in force on trunk lane 1. Reset 0 (DESIGN CHOICE, log entry 14). -/
  eq1 : Word := 0
  /-- R290: accepted transmit and receive changes with their die temperatures, for TEMPCO. Reset none. -/
  temps : List (Int × Int × Int) := []
  deriving DecidableEq, Repr

/-- A queued Berm request (R103). -/
structure BermReq where
  port : Nat
  lossy : Bool := false
  cal : Bool := false
  deriving DecidableEq, Repr

/-- A received PTP message waiting for the host (R316). -/
structure PtpMsg where
  port : Nat
  bytes : Nat
  ts : Nat
  words : List Word
  deriving DecidableEq, Repr

/-- A correction of a forwarded event message that its Follow_Up or Pdelay_Resp_Follow_Up is to carry (R98): egress port, kind of the
follow-up, identity of the source port, sequence number, amount in 2^-16 ns. -/
structure Residue where
  f : Nat
  kind : PtpKind
  source : Nat
  seq : Nat
  amount : Int
  deriving DecidableEq, Repr

/-- Ports together (chapter 5). -/
structure Ports where
  /-- The 36 ports. -/
  port : List PortS := List.replicate 36 {}
  /-- R103: requests in order of arrival. Reset none. -/
  bermQ : List BermReq := []
  /-- R102: the port in a window. Reset none. -/
  bermWin : Option BermReq := none
  /-- R316: FIFO of 64 messages. Reset empty. -/
  ptpRx : List PtpMsg := []
  /-- R95: UTC data of the GNSS navigation data. Reset none. -/
  utcAuto : Option (Int × Bool × Bool) := none
  /-- R98: corrections that wait for their follow-up messages, oldest first. Reset none. -/
  residues : List Residue := []
  /-- R93: requests for unicast negotiation counted and ignored. Reset 0. -/
  unicast : Nat := 0
  /-- 32 bits, R94: PTP_GLOBAL_CLASS as it stood at the entry to FAULT. Reset none: not in FAULT. -/
  classHeld : Option Word := none
  deriving DecidableEq, Repr

/-- A control frame awaiting its acknowledgement (R151). -/
structure CtlOut where
  frame : CtlFrame
  retried : Bool := false
  deriving DecidableEq, Repr

/-- One Jieth link beside its registers (chapters 7 and 10). -/
structure LinkS where
  /-- R139: the link holds its role. Reset false. -/
  holds : Bool := false
  /-- R141: last marker number accepted. Reset none. -/
  marker : Option Nat := none
  /-- R144: failed DELAY attempts. Reset 0. -/
  tries : Nat := 0
  /-- R144: d_w in force, fifths of 2^-16 ns. Reset 0. -/
  dw : Int := 0
  /-- R145: rt and d_w in fifths and θ that wait for the next block boundary, with the tick that measured them. Reset none. -/
  loopPend : Option (Int × Int × Nat × Nat) := none
  /-- R141: the 66-cycle group, counted from the start of the dividers, that ends with the link's marker number 0. Reset 0 (DESIGN
  CHOICE, log entry 15). -/
  markerAt : Nat := 0
  /-- R142: the tick of the last regular timing frame. Reset none. -/
  tfAt : Option Nat := none
  /-- 4 × 2 bits, R213: state of the transmit precoder of each data lane. Reset 0. -/
  txPre : List Nat := [0, 0, 0, 0]
  /-- 4 × 2 bits, R213: the receiver's last symbol on each data lane. Reset 0. -/
  rxPre : List Nat := [0, 0, 0, 0]
  /-- R140: HELLO held by a refused registration, depth or roles. Reset false. -/
  helloHeld : Bool := false
  /-- R142: last timing record taken. Reset none. -/
  tf : Option TimingRec := none
  /-- R142: a timing record that waits for its marker. Reset none. -/
  tfNext : Option TimingRec := none
  /-- R146: offset of the last marker, 2^-16 ns. Reset none. -/
  ofs : Option Int := none
  /-- R146: frequency of LC_156 against OSC_IN at the last marker, in 2^-60. Reset none. -/
  freq : Option Int := none
  /-- R164: peer serial from HELLO. Reset none. -/
  peerSerial : Option Nat := none
  /-- R140: the address that a worker registers at the manager when this link reaches UP. Reset none. -/
  regAddr : Option Nat := none
  /-- 16 bits, R140: own address as told over this UP link. Reset 0: none. -/
  selfAddr : Nat := 0
  /-- 8 bits, R151: SEQ of the next control frame sent. Reset 0 (DESIGN CHOICE, log entry 15). -/
  ctlTx : BitVec 8 := 0
  /-- R151: last control SEQ accepted. Reset none. -/
  ctlRx : Option (BitVec 8) := none
  /-- R151: control frames not yet acknowledged, oldest first. Reset none. -/
  ctlWait : List CtlOut := []
  /-- 12 bits, R216: SEQ of the next frame sent. Reset 0 (DESIGN CHOICE, log entry 15). -/
  seqTx : BitVec 12 := 0
  /-- 12 bits, R217: last SEQ received in order. Reset 4,095, one before the first (DESIGN CHOICE, log entry 15). -/
  seqRx : BitVec 12 := 4095
  /-- R217: NAK to be sent. Reset false. -/
  nak : Bool := false
  /-- R217: replay buffer: SEQ, class and bytes of unacknowledged frames. Reset empty. -/
  replay : List (BitVec 12 × Nat × Nat) := []
  /-- 16 bits, R217: cumulative credit received. Reset 0. -/
  credit : BitVec 16 := 0
  /-- 16 bits, R193, R217: cumulative cells freed in the link's ingress FIFO. Reset 4,096: the FIFO is free (DESIGN CHOICE, log entry 15). -/
  freed : BitVec 16 := 4096
  /-- R217: cumulative cells sent. Reset 0. -/
  cellsSent : BitVec 16 := 0
  /-- 5 × 32 bits, R209: equalisation in force on L0–L3 and LC. Reset empty: no lane has started. -/
  eq : List Word := []
  /-- R223: pairs our receiver reports usable (RX_PAIRS). Reset 0b11. -/
  rxPairs : BitVec 2 := 3
  /-- R223: pairs the peer reports usable in its last FLOW. Reset 0b11. -/
  peerPairs : BitVec 2 := 3
  deriving DecidableEq, Repr

/-- A relay whose reply is outstanding (R154): the packet's number, the link its path starts with, the inner packet's TAG. -/
structure Relay where
  id : Nat
  link : Nat
  tag : Nat
  deriving DecidableEq, Repr

/-- Jieth links together. -/
structure Jieth where
  /-- The six links. -/
  link : List LinkS := List.replicate 6 {}
  /-- R140: addresses registered at the manager, at most 48. Reset none. -/
  workers : List Nat := []
  /-- R154: outstanding relays. Reset none. -/
  relays : List Relay := []
  /-- R153: command frames forwarded whose replies are outstanding: link out, link in, TAG of the inner packet. Reset none. -/
  back : List (Nat × Nat × Nat) := []
  deriving DecidableEq, Repr

/-- Redundant pair beside its registers (chapter 8). -/
structure Pair where
  /-- R158: last valid mirror state frame since STANDBY was entered. Reset none. -/
  mirror : Option MirrorFrame := none
  /-- R171: ms since that frame. Reset 0. -/
  mirrorMs : Nat := 0
  /-- R172: the tick at which the running 5 µs timer started. Reset none: it does not run. -/
  timer : Option Nat := none
  /-- R172: the tick of the last ACTIVE timing frame on the mirror link. Reset 0. -/
  activeAt : Nat := 0
  /-- R172: yielded, until a later ROLE_IN change. Reset false. -/
  yielded : Bool := false
  /-- 16 bits, R164: own epoch, in PD_AON. Reset 0. -/
  epoch : BitVec 16 := 0
  /-- R164: last epoch received on the mirror link since power-on. Reset none. -/
  peerEpoch : Option (BitVec 16) := none
  /-- R162: the tick since which MIRROR_OFS has stayed within READY_PS. Reset none. -/
  okSince : Option Nat := none
  deriving DecidableEq, Repr

/-- A MAC entry (R180 to R182). -/
structure MacEntry where
  vid : Nat
  mac : Nat
  mask : Nat
  isStatic : Bool
  /-- R182: the tick at which the address was last seen. -/
  seen : Nat := 0
  deriving DecidableEq, Repr

/-- A VLAN (R179): member and untagged sets as 42-bit masks. -/
structure Vlan where
  vid : Nat
  member : Nat
  untag : Nat
  deriving DecidableEq, Repr

/-- A frame in an egress queue q = 8f + TC: its length as it leaves, ingress port, ingress timestamp (2^-16 ns), and where its cells
are (R191, R192): in the Polder, staged in the Polder for the Spillway, in the Spillway, read back into prefetch cells. `origin` is
the packet that sent it. Of a PTP message `ptp` is the header, its correctionField as far as known at ingress, and `body` the words its
ICV covers. -/
structure QFrame where
  q : Nat
  len : Nat
  src : Nat
  ingTs : Nat := 0
  pol : Nat := 0
  stg : Nat := 0
  spl : Nat := 0
  pre : Nat := 0
  origin : Option Nat := none
  ptp : Option PtpHdr := none
  resolved : Bool := true
  body : List Word := []
  deriving DecidableEq, Repr

/-- A frame in a Sluice queue (R194, R195): egress, length, ingress port, ingress timestamp and release ToD (2^-16 ns), whether that
timestamp carries time (R87), the header with the correctionField as received, what the ingress adds to it (R99), the transparent-clock type
in force at ingress (R111), the words that its ICV covers, and the packet that sent it. -/
structure SFrame where
  f : Nat
  len : Nat
  src : Nat
  ingTs : Nat
  release : Nat
  resolved : Bool := true
  hdr : PtpHdr := { kind := .sync, domain := 0, corr := 0 }
  add : Int := 0
  tc : Nat := 0
  body : List Word := []
  origin : Option Nat := none
  deriving DecidableEq, Repr

/-- A frame in transmission or held preempted (R189): the data bytes sent before, and those sent at the end of the present fragment. -/
structure TxPart where
  fr : QFrame
  sent : Nat
  upto : Nat
  deriving DecidableEq, Repr

/-- What is in transmission at an egress (R189, R196, R197). Times are in ps of device time, 1,600 a tick. -/
structure EgS where
  /-- The instant from which the egress is free, the gap included. Reset 0. -/
  freeAt : Nat := 0
  /-- The instant at which the preamble of the frame or fragment began. Reset 0. -/
  start : Nat := 0
  /-- The queued frame or fragment in transmission. Reset none. -/
  cur : Option TxPart := none
  /-- What is in transmission is a Sluice frame (R197). Reset false. -/
  sluice : Bool := false
  /-- R189: a preempted frame whose remainder is held. Reset none. -/
  rest : Option TxPart := none
  deriving DecidableEq, Repr

/-- What a frame meets on its arrival (R19, R88, R111): the receive delay to the reference plane, the PTP settings in force, d_in and
delayAsymmetry of the port, all as its ingress timestamp is taken. -/
structure Arrive where
  plane : Int := 0
  domain : Nat := 0
  tc : Nat := 0
  host : Bool := false
  transport : Nat := 0
  din : Int := 0
  asym : Int := 0
  deriving DecidableEq, Repr

/-- A frame in an ingress FIFO (R193). -/
structure Held where
  f : Nat
  fr : FrameIn
  a : Arrive := {}
  /-- R216: CLASS of a frame from a Jieth link. -/
  cls : Nat := 0
  deriving DecidableEq, Repr

/-- A gate list (R185): base in ns of the PTP timescale, cycle and extension in ns, entries (gates, interval). -/
structure GateList where
  base : Nat
  cycle : Nat
  ext : Nat
  entries : List (Nat × Nat)
  deriving DecidableEq, Repr

/-- Gates of one line or trunk port. -/
structure GateS where
  /-- R185: list in force. Reset none. -/
  run : Option GateList := none
  /-- R186: list pending. Reset none. -/
  admin : Option GateList := none
  /-- R186: ToD at which the pending list takes effect, in ns. Reset 0. -/
  start : Nat := 0
  deriving DecidableEq, Repr

/-- Switch core beside its registers (chapter 9). -/
structure Fab where
  /-- R294: cells that entered the fabric since the last evaluation of the load. Reset 0. -/
  cells : Nat := 0
  /-- R294: cells of the last 60 s, by second, newest first. Reset none. -/
  load : List Nat := []
  /-- R180: MAC table. Reset empty. -/
  macs : List MacEntry := []
  /-- R179: VLANs. Reset: VID 1 with all 42 ports untagged. -/
  vlans : List Vlan := [⟨1, 2 ^ 42 - 1, 2 ^ 42 - 1⟩]
  /-- R184: queued frames, oldest first. Reset none. -/
  frames : List QFrame := []
  /-- R184: deficits by queue, non-zero. Reset none. -/
  deficit : List (Nat × Nat) := []
  /-- R184: class that the round robin of each port visits, by port. Reset TC0 (DESIGN CHOICE, log entry 16). -/
  drr : List Nat := List.replicate 42 0
  /-- R194: Sluice queues, oldest first. Reset none. -/
  sluice : List SFrame := []
  /-- R185: gates of ports 0–35. -/
  gates : List GateS := List.replicate 36 {}
  /-- R193: frames waiting in ingress FIFOs, oldest first. Reset none. -/
  ingress : List Held := []
  /-- R51: the tick from which the throttled fabric can admit its next frame. Reset 0. -/
  admitAt : Nat := 0
  /-- R189, R196: transmission at each egress. -/
  egress : List EgS := List.replicate 42 {}
  deriving DecidableEq, Repr

/-- A converted edge (chapter 11). -/
structure GEdge where
  /-- R229: time of the edge, 2^-16 ps of the coarse counter's scale. -/
  t : Int
  /-- R230: the input's edge count at the edge. -/
  cnt : Nat := 0
  /-- R241: converted in QUIET. -/
  quiet : Bool := false
  /-- R240: a correction of the input was pending. -/
  stale : Bool := false
  deriving DecidableEq, Repr

/-- Gauge n beside its registers (chapter 11). -/
structure GaugeS where
  /-- R238: result FIFO of 1,024 entries of four words, oldest first. Reset empty. -/
  fifo : List (List Word) := []
  /-- 16 bits, R238: SEQ of the next result. Reset 0. -/
  seq : BitVec 16 := 0
  /-- R230: edges counted. Reset 0. -/
  edges : Nat := 0
  /-- R230: time of the last accepted edge in ps of device time. Reset none. -/
  lastEdge : Option Nat := none
  /-- R230: an accepted edge is converting. Reset false. -/
  busy : Bool := false
  /-- R237: CFG as taken at the start. Reset 0. -/
  cfg : Word := 0
  /-- R235: PERIOD_M taken at the start. Reset 1. -/
  m : Nat := 1
  /-- R236: GATE_MS taken at the start. Reset 1,000. -/
  gateMs : Nat := 1000
  /-- R234: PAIR_WIN taken at the start, ns. Reset 500,000,000. -/
  win : Nat := 500000000
  /-- R234: starts not yet paired, oldest first. Reset none. -/
  starts : List GEdge := []
  /-- R234: stops seen within the window (SIGNED), or waiting for a start that is still converting (ORDERED). Reset none. -/
  stops : List GEdge := []
  /-- R235, R236: last or first converted edge of the period or gate, with its edge count. Reset none. -/
  first : Option GEdge := none
  /-- R236: last converted edge of the gate, with its edge count. Reset none. -/
  last : Option GEdge := none
  /-- R235: input cycles to the next converted edge. Reset 0. -/
  toGo : Nat := 0
  /-- R235: the pending result spans 2M cycles. Reset false. -/
  doubled : Bool := false
  /-- R238: HOLDCLK seen since the measurement began. Reset false. -/
  hold : Bool := false
  /-- R236: edge count at the edge being converted. Reset 0. -/
  cap : Nat := 0
  /-- R235: the edge being converted is one of the period's. Reset false. -/
  hit : Bool := false
  /-- R237: coarse count at the start. Reset 0. -/
  t0 : Nat := 0
  /-- R236: coarse count at which the gate opened. Reset 0. -/
  gateAt : Nat := 0
  /-- R236: a gate is open. Reset false. -/
  gate : Bool := false
  /-- R237: coarse count at the last stop. Reset none. -/
  stopAt : Option Nat := none
  /-- R240: device time in ps of the last edge on the input, converted or not. Reset none. -/
  seenAt : Option Nat := none
  /-- R239: at the edge being converted, the coarse count, the ToD (2^-56 ns) and the ToD's increment per tick. Reset 0. -/
  capAt : Nat × Nat × Nat := (0, 0, 0)
  deriving DecidableEq, Repr

/-- A GNSS channel beside its registers (R250 to R253). -/
structure GnssChan where
  /-- R250: code phase handed over, in steps of 1,023/32,768 chip. Reset 0. -/
  code : Nat := 0
  /-- R251: last dumps of VE, E, NE, P, NL, L, VL. Reset none. -/
  corr : List Int := []
  /-- R252: the code discriminator's last output. Reset 0. -/
  disc : Int := 0
  /-- R253: code epochs in a row with phase lock. Reset 0. -/
  lockMs : Nat := 0
  /-- R253: code epochs in a row without phase lock. Reset 0. -/
  openMs : Nat := 0
  /-- R253: code epochs in a row with C/N0 below LOSS_CN0. Reset 0. -/
  lowMs : Nat := 0
  /-- R259: code epochs since the channel entered TRACK. Reset 0. -/
  trackMs : Nat := 0
  deriving DecidableEq, Repr

/-- GNSS baseband beside its registers (chapter 12). -/
structure Gnss where
  /-- R248: noise baseline in 0.25 dB. Reset none. -/
  base : Option Nat := none
  /-- R248: NOISE_REF running. Reset false. -/
  baseRun : Bool := false
  /-- R250: PRNs with stored ephemeris. Reset none. -/
  eph : List Nat := []
  /-- R250: an almanac is held. Reset false. -/
  almanac : Bool := false
  /-- R255: a position is held. Reset false. -/
  posHeld : Bool := false
  /-- R255: the held position, ECEF mm. Reset 0. -/
  pos : Int × Int × Int := (0, 0, 0)
  /-- R255: sums of the survey's fixes, and their number. Reset 0. -/
  fixSum : Int × Int × Int := (0, 0, 0)
  /-- R255: fixes summed. Reset 0. -/
  fixes : Nat := 0
  /-- R261: the baseband ran when PD_GNSS went off. Reset false. -/
  resume : Bool := false
  /-- R248: power averages in a row with JN at least JAM_THR. Reset 0. -/
  jamHi : Nat := 0
  /-- R248: power averages in a row with JN below JAM_THR − 3 dB. Reset 0. -/
  jamLo : Nat := 0
  /-- R250: PRN of the last search. Reset 0. -/
  lastPrn : Nat := 0
  /-- R250 to R253: the 24 channels. -/
  chans : List GnssChan := List.replicate 24 {}
  /-- R259: tick of the last raw epoch. Reset none. -/
  rawAt : Option Nat := none
  /-- R257: offset published to the selector, 2^-16 ns. Reset none. -/
  ofs : Option Int := none
  /-- R247: consecutive scans for which each automatic notch's line has stayed below NOTCH_THR − 3 dB. Reset 0. -/
  low : List Nat := [0, 0, 0, 0]
  /-- R258: ANT_DLY in force, 2^-16 ns. Reset 0. -/
  ant : Nat := 0
  /-- R259: raw FIFO, epochs oldest first, each a list of eight-word records. Reset empty. -/
  raw : List (List (List Word)) := []
  /-- 12 bits, R259: EPOCH_SEQ. Reset 0. -/
  epochSeq : BitVec 12 := 0
  /-- R259: a STEP since the last epoch. Reset false. -/
  stepped : Bool := false
  /-- R254: resolved week. Reset 0. -/
  week : Nat := 0
  deriving DecidableEq, Repr

/-- One Umide engine (R263). -/
structure Eng where
  /-- 16 × 18 bits, R263: W0–W15. Reset 0 (ENG_START clears; UE0–UE11: DESIGN CHOICE, log entry 19). -/
  w : List EWord := List.replicate 16 0
  /-- 48 bits, R263: A0. Reset 0. -/
  a0 : Acc := 0
  /-- 48 bits, R263: A1. Reset 0. -/
  a1 : Acc := 0
  /-- 1 bit, R263. Reset false. -/
  z : Bool := false
  /-- 1 bit, R263. Reset false. -/
  n : Bool := false
  /-- 1 bit, R263. Reset false. -/
  c : Bool := false
  /-- 1 bit, R263. Reset false. -/
  v : Bool := false
  /-- 12 bits, R263: program counter. Reset 0. -/
  pc : BitVec 12 := 0
  /-- 16 entries of 12 bits, R263: call stack, newest first. Reset empty. -/
  stack : List (BitVec 12) := []
  /-- 4,096 × 18 bits, R263: instruction RAM, non-zero words. Reset 0 (R265). -/
  iram : List (Nat × EWord) := []
  /-- 8,192 × 18 bits, R263: data RAM, non-zero words. Reset 0 (R265). -/
  dram : List (Nat × EWord) := []
  /-- 8 bits, R270: pending events. Reset 0. -/
  ev : BitVec 8 := 0
  /-- R267: WAIT stalls on this mask. Reset none. -/
  wait : Option (BitVec 8) := none
  /-- 18 bits, R268: SEL. Reset 0. -/
  sel : EWord := 0
  /-- 54 bits, R268: the latched object. Reset 0. -/
  latch : BitVec 54 := 0
  /-- 46 bits, R269: nanoseconds latched with KIND 0 INDEX 0. Reset 0. -/
  latchNs : Nat := 0
  /-- R270: an MBOX_IN word is unread. Reset false. -/
  mboxNew : Bool := false
  /-- 16 × 18 bits, R268: MBOX_OUT FIFO, oldest first. Reset empty. -/
  mboxOut : List EWord := []
  /-- 36 bits, R272: staged FTRIM [53:18]. Reset 0. -/
  ftStage : BitVec 36 := 0
  /-- 36 bits, R272: staged PTRIM [53:18]. Reset 0. -/
  ptStage : BitVec 36 := 0
  /-- R279: CK_ENG cycle at which WAIT stalled. Reset 0. -/
  waitAt : Nat := 0
  /-- R268: TIMER runs, ms left. Reset 0: none. -/
  timer : Nat := 0
  /-- R271: ms since the last MARK or start. Reset 0. -/
  sinceMark : Nat := 0
  /-- R281: CK_ENG cycle of the last MARK of each identifier. Reset none. -/
  marks : List (Nat × Nat) := []
  /-- R284: instructions retired in the running second. Reset 0. -/
  retired : Nat := 0
  deriving DecidableEq, Repr

/-- Engines together, steering and sampling (chapter 13). -/
structure Engs where
  /-- UE0–UE15. -/
  eng : List Eng := List.replicate 16 {}
  /-- 54 bits signed, R272: stored FTRIM. Reset 0. -/
  ftrim : Int := 0
  /-- 54 bits signed, R272: stored PTRIM, 2^-16 ns. Reset 0. -/
  ptrim : Int := 0
  /-- R274: ms since the owner's last commit, or since OWNER changed or the trims timed out. Reset 0. -/
  sinceCommit : Nat := 0
  /-- R276: sampling countdown; 0 before the first reload. Reset 0. -/
  count : Nat := 0
  /-- 16 bits, R276: LFSR state; 0 before seeding. Reset 0. -/
  lfsr : BitVec 16 := 0
  /-- R276: engine tagged in this interval. Reset 0. -/
  tagEng : Nat := 0
  /-- R276: the tag of this interval is still to be taken. Reset false. -/
  tagOpen : Bool := false
  /-- R276: cycle of the last interval start. Reset 0. -/
  tagBase : Nat := 0
  /-- R277: buffer of 1,024 entries of four words, oldest first. Reset empty. -/
  buf : List (List Word) := []
  /-- 12 bits, R277: SEQ. Reset 0. -/
  seq : BitVec 12 := 0
  /-- R278: entries were lost since the previous entry read. Reset false. -/
  lost : Bool := false
  deriving DecidableEq, Repr

/-- A calibration item with its index (R286, R287). -/
inductive CalItem where
  | portDelay (p rate : Nat)
  | jiethDelay (n : Nat)
  | dll (n : Nat)
  | vernier (n : Nat)
  | gaugeDelay (n : Nat)
  | gnssFe
  | tempco (i : Nat) (jieth : Bool)
  | bermRef (p rate : Nat)
  deriving DecidableEq, Repr

/-- A run-list entry (R287): item, REF_DLY, CABLE, gauges. -/
structure CalReq where
  item : CalItem
  refDly : Nat := 0
  cable : Int := 0
  evA : Nat := 0
  evB : Nat := 0
  deriving DecidableEq, Repr

/-- A running store operation (R300): packet number, record words, first copy to write. -/
structure Store where
  id : Nat
  words : List Word
  skip : Option Nat := none
  deriving DecidableEq, Repr

/-- Calibration beside its registers (chapter 14). -/
structure Cal where
  /-- R287: run list of up to 8. Reset empty. -/
  run : List CalReq := []
  /-- R288: attempts of the head. Reset 0. -/
  tries : Nat := 0
  /-- R288: working set, non-zero record words. Reset empty. -/
  work : List (Nat × Word) := []
  /-- R291: values in force, non-zero record words. Reset empty. -/
  force : List (Nat × Word) := []
  /-- R291: items pending their boundary. Reset none. -/
  pend : List CalItem := []
  /-- 1,024 words, R300: staging buffer, non-zero words. Reset 0 (DESIGN CHOICE, log entry 18). -/
  staging : List (Nat × Word) := []
  /-- R300: running commit or accept. Reset none. -/
  store : Option Store := none
  /-- R293: accepted Jieth delays by link with their die temperatures, for TEMPCO: link, dtx, drx, 0.01 °C. Reset none. -/
  jtemps : List (Nat × Int × Int × Int) := []
  deriving DecidableEq, Repr

/-- A packet that has created a command (R302 to R308): `bell` is the tick of its doorbell, `aud` marks an audited opcode, `mute` one that
was running when PERST_N fell and completes without reply (R31). -/
structure Packet where
  id : Nat
  iface : Iface
  queue : Nat
  slot : Nat
  tag : Nat
  opcode : Nat
  fence : Bool
  reply : Bool
  words : List Word
  header : Word
  bell : Nat
  startAt : Nat := 0
  aud : Bool := false
  mute : Bool := false
  deriving DecidableEq, Repr

/-- An SPI packet buffer in use (R306): packet number, unread reply words if any, whether it is final, REPLY bit. The list keeps the
buffers in the order of their reply entries. -/
structure SpiBuf where
  id : Nat
  words : Option (List Word) := none
  final : Bool := false
  reply : Bool := false
  deriving DecidableEq, Repr

/-- Command queues (chapter 15). -/
structure Cmd where
  /-- R308: packets not started, in doorbell order. Reset none. -/
  waiting : List Packet := []
  /-- R310: packets started and not completed. Reset none. -/
  running : List Packet := []
  /-- R305: occupied slots (queue, slot). Reset none. -/
  slots : List (Nat × Nat) := []
  /-- R305: reply slots' contents in BAR2: queue, slot, words. Reset none. -/
  replies : List (Nat × Nat × List Word) := []
  /-- R306: SPI buffers in use, oldest first. Reset none. -/
  spi : List SpiBuf := []
  /-- R308: queue that last started. Reset 3, so that rotation begins with Q0 (DESIGN CHOICE, log entry 17). -/
  lastQ : Nat := 3
  /-- Numbers packets. Reset 0; the model's own. -/
  nextId : Nat := 0
  deriving DecidableEq, Repr

/-- Keys and identity (chapter 17). -/
structure Sec where
  /-- R338: key RAM, slots with a key: slot, eight words. Reset none. -/
  keys : List (Nat × List Word) := []
  /-- R338: the identity register holds the private key. Reset false. -/
  idKey : Bool := false
  /-- R338: BOOT has published the identity public key. Reset false. -/
  pub : Bool := false
  deriving DecidableEq, Repr

/-- The audit ring (R349 to R354). -/
structure Aud where
  /-- R351: ring of 8,192 entries of eight words, oldest first. Reset empty. -/
  ring : List (List Word) := []
  /-- R153: addresses of relayed commands' entries, by entry number, oldest first. Reset none. -/
  relayed : List (BitVec 32 × Nat) := []
  /-- R351: unacknowledged entries, the newest of the ring. Reset 0. -/
  unack : Nat := 0
  /-- 32 bits, R349: SEQ of the next entry. Reset 0. -/
  seq : BitVec 32 := 0
  /-- R353: pending export block. Reset none. -/
  block : Option (List Word) := none
  /-- R353: number of the pending or next block. Reset 0. -/
  blockNo : BitVec 32 := 0
  /-- R353: entries in the pending block. Reset 0. -/
  blockCount : Nat := 0
  /-- R353: hash of the previous block. Reset 0. -/
  prevHash : List Word := List.replicate 8 0
  /-- R353: LOST at the previous block. Reset 0. -/
  lostBase : Nat := 0
  deriving DecidableEq, Repr

/-- Where the boot sequence of R33 waits. -/
inductive BootStep where
  /-- Not in BOOT. -/
  | idle
  /-- Step 2: the root is to lock. -/
  | root (b : BootEnv)
  /-- Step 4 with a host-written image: BOOT_WRITE and BOOT_GO. -/
  | hostImage (b : BootEnv)
  deriving DecidableEq, Repr

/-- THE STATE of the TMR-3618. -/
structure State where
  /-- FIRST IN, FIRST OUT: commands waiting. The block model's own. Reset empty. -/
  pending : List Instr := []
  /-- Register bank: (address, word), addresses rising, none equal to its reset value. R319 to R322. Reset empty. -/
  regs : List (Nat × Word) := []
  /-- R327: staged upper words by address, addresses rising. Reset empty. -/
  staged : List (Nat × Word) := []
  /-- 4 bits, R4, R24: mode. Reset RESET. -/
  mode : Mode := .reset
  /-- 3 bits, R4, R335: power state. Reset AON. -/
  power : Power := .aon
  /-- R335: power state the running power sequence ends in. Reset none. -/
  powerTo : Option Power := none
  /-- R3, R15: powered domains. Reset PD_AON. -/
  domains : List Domain := [.aon]
  /-- R25: entry mode of CALIBRATE. Reset CONFIG (DESIGN CHOICE, log entry 13). -/
  calEntry : Mode := .config
  /-- R33: boot step. Reset idle. -/
  boot : BootStep := .idle
  /-- 4 MiB, R315: host image buffer, non-zero words. Reset 0 (DESIGN CHOICE, log entry 18). -/
  image : List (Nat × Word) := []
  /-- R35: command processor started at step 5. Reset false. -/
  cpUp : Bool := false
  /-- R34: WAKE_S of the MODE_SET to TIMEKEEP; 0 none. Reset 0. -/
  wakeS : Nat := 0
  /-- R332: ID and SERIAL have been loaded by BOOT. Reset false. -/
  idLoaded : Bool := false
  /-- R326: BOARD_ID has taken its one write since the last reset. Reset false. -/
  boardSet : Bool := false
  /-- R336: a wake is running. Reset false. -/
  waking : Bool := false
  /-- R334: AON entered through a collapse. Reset false. -/
  collapsed : Bool := false
  /-- R32: straps as sampled. -/
  straps : Straps := {}
  /-- R348, R343: fuses. -/
  otp : Otp := {}
  /-- Flash chip: images, equalisation table, calibration copies. Reset blank (PRESUMED, log entry 9). -/
  flash : Flash := {}
  /-- Levels at balls. -/
  pins : Pins := {}
  /-- R37: PCI Express endpoint out of reset. Reset false. -/
  pcieUp : Bool := false
  /-- R165: HB_OUT runs. Reset false. -/
  hb : Bool := false
  /-- R165: the tick of HB_OUT's first rising edge. Reset 0. -/
  hbAt : Nat := 0
  /-- Clock root. -/
  clk : Clk := {}
  /-- Time of day. -/
  tim : Tim := {}
  /-- Selector. -/
  sel : Sel := {}
  /-- Ports. -/
  ports : Ports := {}
  /-- Jieth links. -/
  jieth : Jieth := {}
  /-- Redundant pair. -/
  pair : Pair := {}
  /-- Switch core. -/
  fab : Fab := {}
  /-- R232, R233: ticks counted since the coarse counter's last restart; the 48-bit counter is this number modulo 2^48, and what
  lies above is the compare that detects COARSE_OVF. Reset 0. -/
  coarse : Nat := 0
  /-- Gauges EV0–EV11. -/
  gauges : List GaugeS := List.replicate 12 {}
  /-- GNSS baseband. -/
  gnss : Gnss := {}
  /-- Engines. -/
  engs : Engs := {}
  /-- Calibration. -/
  cal : Cal := {}
  /-- Command queues. -/
  cmd : Cmd := {}
  /-- Keys and identity. -/
  sec : Sec := {}
  /-- Audit ring. -/
  aud : Aud := {}
  /-- Ticks of CK_TICK since power-on; the model's own (CK_ENG cycles are half of it, R268). Reset 0. -/
  now : Nat := 0
  /-- Outputs at the boundary, oldest first; the model's own record. Reset none. -/
  out : List Output := []
  /-- Argument of the free values of Config; the model's own. Reset 0 (DESIGN CHOICE, log entry 20). -/
  freeCtr : Nat := 0
  deriving DecidableEq, Repr

/-- The machine right after power-on (R31, R334): mode RESET, power state AON, every register at its reset value. -/
def State.reset : State := {}

end Sys2Proof.Machine
end

