-- ==== Sys2Proof/Machine/Ops.lean ====
section
/-! DEFINITION. The named operations over the state: sparse memories in canonical form, the register bank and its fields,
event bits and interrupt routing (R331), the boundary record, power domains, the audit ring (R349 to R352), performance
counters and histograms (R279 to R282). -/

namespace Sys2Proof.Machine

/-! ### Sparse memories: lists of (key, value), keys strictly rising, no value equal to its default. -/

/-- Value listed for a key. -/
def spGet? {α : Type} : List (Nat × α) → Nat → Option α
  | [], _ => none
  | (a, x) :: r, k => if a = k then some x else spGet? r k

/-- List or replace a key's value, keeping keys rising. -/
def spIns {α : Type} : List (Nat × α) → Nat → α → List (Nat × α)
  | [], k, v => [(k, v)]
  | (a, x) :: r, k, v => if k < a then (k, v) :: (a, x) :: r else if k = a then (k, v) :: r else (a, x) :: spIns r k v

/-- Remove a key. -/
def spDel {α : Type} : List (Nat × α) → Nat → List (Nat × α)
  | [], _ => []
  | (a, x) :: r, k => if a = k then spDel r k else (a, x) :: spDel r k

/-- Write a key: a value equal to the default removes the entry. -/
def spPut {α : Type} [DecidableEq α] (d : Nat → α) (l : List (Nat × α)) (k : Nat) (v : α) : List (Nat × α) :=
  if v = d k then spDel l k else spIns l k v

/-- The canonical form, keys above `b`. -/
def spWfFrom {α : Type} [DecidableEq α] (d : Nat → α) : Nat → List (Nat × α) → Bool
  | _, [] => true
  | b, (a, x) :: r => decide (b ≤ a) && decide (x ≠ d a) && spWfFrom d (a + 1) r

/-- The canonical form of a sparse memory. -/
def spWf {α : Type} [DecidableEq α] (d : Nat → α) (l : List (Nat × α)) : Bool := spWfFrom d 0 l

/-- Read a word of a sparse memory whose default is zero. -/
def memGet {w : Nat} (l : List (Nat × BitVec w)) (k : Nat) : BitVec w := (spGet? l k).getD 0

/-- Write a word of a sparse memory whose default is zero. -/
def memPut {w : Nat} (l : List (Nat × BitVec w)) (k : Nat) (v : BitVec w) : List (Nat × BitVec w) :=
  spPut (fun _ => 0) l k v

/-- Write consecutive words from `k` on. -/
def memPutList {w : Nat} (l : List (Nat × BitVec w)) (k : Nat) : List (BitVec w) → List (Nat × BitVec w)
  | [] => l
  | v :: vs => memPutList (memPut l k v) (k + 1) vs

/-- Read `n` consecutive words from `k` on. -/
def memGetList {w : Nat} (l : List (Nat × BitVec w)) (k n : Nat) : List (BitVec w) :=
  (List.range n).map (fun i => memGet l (k + i))

/-- Change the element at index `i` of a list; an element that the list does not hold counts as `d`, so that what is written reads back. -/
def listUpd {α : Type} (d : α) : List α → Nat → (α → α) → List α
  | [], 0, f => [f d]
  | [], i + 1, f => d :: listUpd d [] i f
  | x :: r, 0, f => f x :: r
  | x :: r, i + 1, f => x :: listUpd d r i f

/-! ### Which field map an address has (R319, R321) -/

/-- Group, window number and offset in the group of an offset of a block. -/
def locate (blk off : Nat) : Option (Grp × Nat × Nat) :=
  match blk with
  | 0 => some (.sys, 0, off)
  | 1 => if 0x100 ≤ off ∧ off < 0x100 + 8 * 20 then some (.dll, (off - 0x100) / 8, (off - 0x100) % 8) else some (.clk, 0, off)
  | 2 => if 0x100 ≤ off ∧ off < 0x100 + 0x80 * 14 then some (.outw, (off - 0x100) / 0x80, (off - 0x100) % 0x80)
         else some (.time, 0, off)
  | 3 => if 0x100 ≤ off ∧ off < 0x200 then some (.slot, (off - 0x100) / 0x20, (off - 0x100) % 0x20) else some (.ref, 0, off)
  | 4 => some (.port, off / 0x200, off % 0x200)
  | 5 => if off < 0x800 then some (.port, 32 + off / 0x200, off % 0x200) else some (.ptpg, 0, off)
  | 6 => if off < 0xC00 then some (.link, off / 0x200, off % 0x200) else some (.jg, 0, off)
  | 7 => some (.pair, 0, off)
  | 8 => if 0x1000 ≤ off ∧ off < 0x1000 + 0x80 * 42 then some (.fport, (off - 0x1000) / 0x80, (off - 0x1000) % 0x80)
         else if 0x2800 ≤ off ∧ off < 0x2800 + 0x10 * 336 then some (.queue, (off - 0x2800) / 0x10, (off - 0x2800) % 0x10)
         else some (.fab, 0, off)
  | 9 => if 0x100 ≤ off ∧ off < 0x100 + 0x40 * 12 then some (.ga, (off - 0x100) / 0x40, (off - 0x100) % 0x40)
         else some (.gauge, 0, off)
  | 10 => if 0x50 ≤ off ∧ off < 0x70 then some (.notch, (off - 0x50) / 8, (off - 0x50) % 8)
          else if 0x100 ≤ off ∧ off < 0x400 then some (.chan, (off - 0x100) / 0x20, (off - 0x100) % 0x20)
          else some (.gnss, 0, off)
  | 11 => if 0x100 ≤ off ∧ off < 0x300 then some (.ue, (off - 0x100) / 0x20, (off - 0x100) % 0x20) else some (.eng, 0, off)
  | 12 => if 0x1000 ≤ off ∧ off < 0x2000 then some (.cnt, (off - 0x1000) / 0x20, (off - 0x1000) % 0x20)
          else if 0x4000 ≤ off ∧ off < 0x5000 then some (.hist, (off - 0x4000) / 0x200, (off - 0x4000) % 0x200)
          else some (.perf, 0, off)
  | 13 => some (.cal, 0, off)
  | 14 => some (.sec, 0, off)
  | 15 => some (.aud, 0, off)
  | 16 => some (.cmd, 0, off)
  | _ => none

/-- The fields of the register at an address, none where the address holds no register. EQ_L1 is reserved on line ports. -/
def fieldsAt (a : Nat) : List FieldDef :=
  match locate (a / 65536) (a % 65536) with
  | none => []
  | some (.port, n, o) => if n < 32 ∧ o = 0x9C then [] else (Grp.fields .port n).filter (fun f => f.off = o)
  | some (g, n, o) => (g.fields n).filter (fun f => f.off = o)

/-- Reset value of the register at an address. -/
def wordReset (a : Nat) : Word :=
  BitVec.ofNat 32 ((fieldsAt a).foldl (fun acc f => acc + f.rst <<< f.lo) 0)

/-! ### The register bank -/

/-- The word the bank holds for an address. -/
def regWord (s : State) (a : Nat) : Word := (spGet? s.regs a).getD (wordReset a)

/-- Set the word the bank holds for an address. -/
def setWord (s : State) (a : Nat) (v : Word) : State := { s with regs := spPut wordReset s.regs a v }

/-- Field [lo + w - 1 : lo] of a word. -/
def fieldOf (v : Word) (lo w : Nat) : Nat := bits v.toNat lo w

/-- A word with field [lo + w - 1 : lo] replaced. -/
def insField (v : Word) (lo w x : Nat) : Word :=
  BitVec.ofNat 32 (v.toNat - (fieldOf v lo w) <<< lo + (x % 2 ^ w) <<< lo)

/-- The value of a field in the bank. -/
def getF (s : State) (f : Fld) : Nat := fieldOf (regWord s f.addr) f.lo f.w

/-- Whether a one-bit field is set. -/
def getB (s : State) (f : Fld) : Bool := getF s f = 1

/-- A field read as two's complement. -/
def getS (s : State) (f : Fld) : Int := sext f.w (getF s f)

/-- Set a field in the bank. -/
def setF (s : State) (f : Fld) (x : Nat) : State := setWord s f.addr (insField (regWord s f.addr) f.lo f.w x)

/-- Set or clear a one-bit field. -/
def setB (s : State) (f : Fld) (b : Bool) : State := setF s f b.toNat

/-- Add to a counter field, modulo its width (CNT, R322). -/
def incF (s : State) (f : Fld) (k : Nat) : State := setF s f (getF s f + k)

/-- Value of a two-word quantity. -/
def getHL (s : State) (hi lo : Fld) : Nat := getF s hi * 2 ^ lo.w + getF s lo

/-- Set a two-word quantity from an integer, both words at once (R328). -/
def setHL (s : State) (hi lo : Fld) (x : Int) : State :=
  setF (setF s hi ((x / (2 ^ lo.w : Nat)) % (2 ^ hi.w : Nat)).toNat) lo (x % (2 ^ lo.w : Nat)).toNat

/-- Add to a two-word counter. -/
def incHL (s : State) (hi lo : Fld) (k : Nat) : State := setHL s hi lo ((getHL s hi lo + k : Nat) : Int)

/-! ### Power domains (R3, R15, R319) -/

/-- Whether a domain is powered and out of reset. -/
def powered (s : State) (d : Domain) : Bool := decide (d ∈ s.domains)

/-- Domain of a line or trunk port (R15). -/
def portDomain (p : Nat) : Domain := if p < 16 then .lineA else .lineB

/-- Domain of the register block at an address (R319). -/
def addrDomain (a : Nat) : Domain :=
  match a / 65536 with
  | 0 => .aon
  | 1 => .time
  | 2 => .time
  | 3 => .eng
  | 4 => if a % 65536 < 0x2000 then .lineA else .lineB
  | 5 => .lineB
  | 6 => .jieth
  | 7 => .time
  | 8 => .fab
  | 9 => .gauge
  | 10 => .gnss
  | 11 => .eng
  | 12 => .eng
  | 13 => .time
  | 14 => .aon
  | 15 => .aon
  | _ => .time

/-! ### Boundary record and interrupts (R331) -/

/-- Record an output at the boundary. -/
def emit (s : State) (o : Output) : State := { s with out := s.out ++ [o] }

/-- Bit of SYS.INT_STATUS that a COR register feeds (R331), none for any other register. -/
def intSource (a : Nat) : Option Nat :=
  match locate (a / 65536) (a % 65536) with
  | some (.sys, _, 0x1C) => some 0
  | some (.clk, _, 0x34) => some 1
  | some (.time, _, 0x28) => some 2
  | some (.ref, _, 0x18) => some 3
  | some (.port, _, 0x0C) => some 4
  | some (.port, _, 0x88) => some 4
  | some (.link, _, 0x08) => some 5
  | some (.link, _, 0x98) => some 5
  | some (.pair, _, 0x08) => some 6
  | some (.fab, _, 0x14) => some 7
  | some (.gauge, _, 0x0C) => some 8
  | some (.gnss, _, 0x2C) => some 9
  | some (.eng, _, 0x0C) => some 10
  | some (.perf, _, o) => if o = 0x30 ∨ o = 0x34 ∨ o = 0x38 ∨ o = 0x3C then some 11 else none
  | some (.cal, _, 0x08) => some 12
  | some (.cmd, _, 0x00) => some 13
  | some (.sec, _, 0x04) => some 14
  | some (.aud, _, 0x08) => some 14
  | _ => none

/-- An unread SPI reply entry of a packet with REPLY = 1 (R306). -/
def spiReplyUnread (s : State) : Bool := s.cmd.spi.any (fun b => b.reply && b.words.isSome)

/-- Whether some listed register feeds a bit of INT_STATUS. A listed COR register is non-zero. -/
def intBit (s : State) (k : Nat) : Bool :=
  if k = 15 then spiReplyUnread s else s.regs.any (fun e => decide (intSource e.1 = some k) && decide (e.2 ≠ 0))

/-- SYS.INT_STATUS [15:0] (R331). -/
def intStatus (s : State) : Nat := (List.range 16).foldl (fun acc k => acc + (intBit s k).toNat <<< k) 0

/-- INT_STATUS AND INT_EN (R331). -/
def intActive (s : State) : Nat := intStatus s &&& getF s Reg.SYS_INT_EN

/-- INT_N is asserted: in FAULT whatever INT_EN holds (R331, R35); in RESET and BOOT the ball is high impedance (R37). -/
def intN (s : State) : Bool := s.mode = .fault || (s.mode ≠ .reset && s.mode ≠ .boot && intActive s ≠ 0)

/-- Send one MSI-X message for each bit of (INT_STATUS AND INT_EN) that is 1 in `s` and was 0 in `old` (R331). -/
def msixEdges (old : Nat) (s : State) : State :=
  if s.pcieUp then
    (List.range 16).foldl
      (fun t k => if bits (intActive s) k 1 = 1 ∧ bits old k 1 = 0 then emit t (.msix (getF s Reg.SYS_INT_CFG_VECTOR)) else t) s
  else s

/-- Set an event bit of a COR register, with the interrupt routing of R331. -/
def raise (s : State) (f : Fld) : State := msixEdges (intActive s) (setF s f 1)

/-- Set an event bit if a condition holds. -/
def raiseIf (b : Bool) (s : State) (f : Fld) : State := if b then raise s f else s

/-! ### Free values -/

/-- Draw the next argument for a free value of Config. -/
def draw (s : State) : Nat × State := (s.freeCtr, { s with freeCtr := s.freeCtr + 1 })

/-! ### Time of day as reported (R61) -/

/-- Seconds [47:0]. -/
def todSec (s : State) : Nat := s.tim.tod / (10 ^ 9 * 2 ^ 56)

/-- Nanoseconds 0 to 999,999,999. -/
def todNs (s : State) : Nat := s.tim.tod / 2 ^ 56 % 10 ^ 9

/-- Fraction in 2^-16 ns. -/
def todFrac (s : State) : Nat := s.tim.tod / 2 ^ 40 % 2 ^ 16

/-- Visible ToD in units of 2^-16 ns from second 0. -/
def todVis (s : State) : Nat := s.tim.tod / 2 ^ 40

/-- The four ToD words of SNAPSHOT (R315) for a visible ToD in 2^-16 ns. -/
def todWords (t : Nat) : List Word :=
  let sec := t / (10 ^ 9 * 2 ^ 16)
  [BitVec.ofNat 32 (bits sec 32 16), BitVec.ofNat 32 sec, BitVec.ofNat 32 (t / 2 ^ 16 % 10 ^ 9), BitVec.ofNat 32 (t % 2 ^ 16)]

/-! ### The audit ring (R349 to R352) -/

/-- Entries kept by the ring. -/
def auditCap : Nat := 8192

/-- FULL: 8,128 or more unacknowledged entries under HOLD (R352). -/
def auditFull (s : State) : Bool := getF s Reg.AUD_CFG_POLICY = 1 && decide (8128 ≤ s.aud.unack)

/-- Append one entry (R350): KIND, REJECTED, ALIAS, REQUESTER and words 4 to 7. -/
def audit (s : State) (kind : Nat) (rej ali : Bool) (req : Nat) (w4 w5 w6 w7 : Word) : State :=
  let w1 := BitVec.ofNat 32 (kind <<< 30 + rej.toNat <<< 29 + ali.toNat <<< 28 + (req % 64) <<< 22 + bits (todSec s) 32 16)
  let e : List Word := [s.aud.seq, w1, BitVec.ofNat 32 (todSec s), BitVec.ofNat 32 (todNs s), w4, w5, w6, w7]
  let was := auditFull s
  let atCap := decide (auditCap ≤ s.aud.ring.length)
  let lost := atCap && decide (auditCap ≤ s.aud.unack)
  let ring := (if atCap then s.aud.ring.drop 1 else s.aud.ring) ++ [e]
  let s1 := { s with aud := { s.aud with ring := ring, unack := min (s.aud.unack + 1) auditCap, seq := s.aud.seq + 1 } }
  let s2 := if lost then raise (incF s1 Reg.AUD_LOST 1) Reg.AUD_EVENTS_AUDIT_WRAPPED else s1
  raiseIf (auditFull s2 && !was) s2 Reg.AUD_EVENTS_HOLD_FULL

/-- Audit events (R349, R350). -/
inductive AudEvent where
  | boot | breach | role | fault | wake
  deriving DecidableEq, Repr

/-- EVENT code of R350. -/
def AudEvent.code : AudEvent → Nat
  | .boot => 1
  | .breach => 2
  | .role => 3
  | .fault => 4
  | .wake => 5

/-- Append an event entry. -/
def auditEvent (s : State) (ev : AudEvent) (req detail : Nat) (w5 : Word) : State :=
  audit s 2 false false req (BitVec.ofNat 32 (ev.code <<< 24 + detail % 2 ^ 24)) w5 0 0

/-- Requester code of R279 of an interface and queue. -/
def reqCode (i : Iface) (queue : Nat) : Nat :=
  match i with
  | .pcie => 0x10 + queue
  | .spi => 0x15
  | .jieth _ => 0x16

/-! ### Performance counters and histograms (R279 to R282) -/

/-- Whether an EVENT code is assigned (R279). -/
def perfEventKnown (e : Nat) : Bool :=
  decide (e ∈ [0x00, 0x01, 0x02, 0x03, 0x10, 0x11, 0x12, 0x13, 0x20, 0x21, 0x22, 0x30, 0x31, 0x32, 0x33, 0x34, 0x40, 0x41, 0x42,
    0x43, 0x44])

/-- Whether CLASS has a meaning for an EVENT (R279). -/
def perfHasClass (e : Nat) : Bool := decide (e ∈ [0x01, 0x02, 0x30, 0x31, 0x32, 0x33, 0x34])

/-- Counter n's CFG_ERR: ADDR_LO above ADDR_HI or a reserved EVENT (R279). -/
def cntErr (s : State) (n : Nat) : Bool :=
  decide (getF s (Reg.CNT_ADDR_HI n) < getF s (Reg.CNT_ADDR_LO n)) || !perfEventKnown (getF s (Reg.CNT_CNT_CFG_EVENT n))

/-- PRIV bit of a requester code: 0 hardware, 1 firmware engines, 2 user engines, 3 host (R279). -/
def privBit (req : Nat) : Nat := if req < 12 then 1 else if req < 16 then 2 else if req ≤ 0x16 then 3 else 0

/-- Whether counter n takes an event: its EVENT, PRIV, REQ, range and CLASS filters (R279). -/
def cntTakes (s : State) (n ev req a : Nat) (cls : Nat) : Bool :=
  decide (getF s (Reg.CNT_CNT_CFG_EVENT n) = ev) && !cntErr s n &&
  decide (bits (getF s (Reg.CNT_CNT_CFG_PRIV n)) (privBit req) 1 = 1) &&
  (decide (getF s (Reg.CNT_CNT_CFG_REQ n) = 0x3F) || decide (getF s (Reg.CNT_CNT_CFG_REQ n) = req)) &&
  decide (getF s (Reg.CNT_ADDR_LO n) ≤ a) && decide (a ≤ getF s (Reg.CNT_ADDR_HI n)) &&
  (!perfHasClass ev || decide (bits (getF s (Reg.CNT_CNT_CFG_CLASS n)) cls 1 = 1))

/-- Add `k` events to counter n: a wrap sets its OVF bit (R280). -/
def cntAdd (s : State) (n k : Nat) : State :=
  let v := getHL s (Reg.CNT_VALUE_HI n) (Reg.CNT_VALUE_LO n)
  let s1 := setHL s (Reg.CNT_VALUE_HI n) (Reg.CNT_VALUE_LO n) ((v + k : Nat) : Int)
  raiseIf (decide (2 ^ 48 ≤ v + k)) s1 ⟨(Reg.PERF_OVF (n / 32)).addr, n % 32, 1⟩

/-- Counters whose CNT_CFG is listed in the bank: the others hold EVENT 0 and count nothing. -/
def cntListed (s : State) : List Nat :=
  s.regs.filterMap (fun e => if 0xC1000 ≤ e.1 ∧ e.1 < 0xC2000 ∧ (e.1 - 0xC1000) % 0x20 = 0 then some ((e.1 - 0xC1000) / 0x20) else none)

/-- Count `k` events `ev` by requester `req` with range quantity `a` and class `cls` in every counter that takes them. -/
def perf (s : State) (ev req a cls k : Nat) : State :=
  if getB s Reg.PERF_PERF_CTRL_FREEZE then s
  else (cntListed s).foldl (fun t n => if cntTakes s n ev req a cls then cntAdd t n k else t) s

/-- Bin of a value (R282). -/
def histBin (log : Bool) (base width v : Nat) : Nat :=
  if v < base then 0
  else
    let u := v - base
    if log then
      match (List.range 30).find? (fun i => decide (u < (2 ^ (i + 1) - 1) * width)) with
      | some i => i + 1
      | none => 31
    else min (u / width + 1) 31

/-- Histogram h takes a value in 0.1 ns (R282): bins saturate; COUNT, MIN and MAX cover every value. -/
def histTake (s : State) (h v : Nat) : State :=
  let b := histBin (getB s (Reg.HIST_HIST_CFG_LOG h)) (getF s (Reg.HIST_BASE h)) (getF s (Reg.HIST_WIDTH h)) v
  let c := getF s (Reg.HIST_BIN h b)
  let s1 := setF s (Reg.HIST_BIN h b) (min (c + 1) (2 ^ 32 - 1))
  let s2 := incHL s1 (Reg.HIST_COUNT_HI h) (Reg.HIST_COUNT_LO h) 1
  let s3 := setF s2 (Reg.HIST_MIN h) (min (getF s2 (Reg.HIST_MIN h)) (min v (2 ^ 32 - 1)))
  setF s3 (Reg.HIST_MAX h) (max (getF s3 (Reg.HIST_MAX h)) (min v (2 ^ 32 - 1)))

/-- Offer a value to every histogram of source `src` whose filters hold (R281). -/
def histOffer (s : State) (src : Nat) (ok : Nat → Bool) (v : Nat) : State :=
  if getB s Reg.PERF_PERF_CTRL_FREEZE || !powered s .eng then s
  else (List.range 8).foldl (fun t h => if decide (getF s (Reg.HIST_HIST_CFG_SRC h) = src) && ok h then histTake t h v else t) s

/-- Range filter [LO, HI] of histogram h (R281). -/
def histIn (s : State) (a h : Nat) : Bool := decide (getF s (Reg.HIST_LO h) ≤ a) && decide (a ≤ getF s (Reg.HIST_HI h))

/-! ### Substates by index -/

/-- Selector slot n beside its registers. -/
def slotS (s : State) (n : Nat) : SlotS := s.sel.slots.getD n {}

/-- Change slot n. -/
def updSlot (s : State) (n : Nat) (f : SlotS → SlotS) : State := { s with sel := { s.sel with slots := listUpd {} s.sel.slots n f } }

/-- Port p beside its registers. -/
def portS (s : State) (p : Nat) : PortS := s.ports.port.getD p {}

/-- Change port p. -/
def updPort (s : State) (p : Nat) (f : PortS → PortS) : State := { s with ports := { s.ports with port := listUpd {} s.ports.port p f } }

/-- Link n beside its registers. -/
def linkS (s : State) (n : Nat) : LinkS := s.jieth.link.getD n {}

/-- Change link n. -/
def updLink (s : State) (n : Nat) (f : LinkS → LinkS) : State := { s with jieth := { s.jieth with link := listUpd {} s.jieth.link n f } }

/-- Output n. -/
def outS (s : State) (n : Nat) : OutS := s.tim.outs.getD n {}

/-- Change output n. -/
def updOut (s : State) (n : Nat) (f : OutS → OutS) : State := { s with tim := { s.tim with outs := listUpd {} s.tim.outs n f } }

/-- Gauge n. -/
def gaugeS (s : State) (n : Nat) : GaugeS := s.gauges.getD n {}

/-- Change gauge n. -/
def updGauge (s : State) (n : Nat) (f : GaugeS → GaugeS) : State := { s with gauges := listUpd {} s.gauges n f }

/-- Engine e. -/
def engS (s : State) (e : Nat) : Eng := s.engs.eng.getD e {}

/-- Change engine e. -/
def updEng (s : State) (e : Nat) (f : Eng → Eng) : State := { s with engs := { s.engs with eng := listUpd {} s.engs.eng e f } }

/-- Gates of port f. -/
def gateS (s : State) (f : Nat) : GateS := s.fab.gates.getD f {}

/-- Change the gates of port f. -/
def updGate (s : State) (f : Nat) (g : GateS → GateS) : State := { s with fab := { s.fab with gates := listUpd {} s.fab.gates f g } }

/-- A link carries frames: UP or DEGRADED (R143). -/
def linkCarries (s : State) (n : Nat) : Bool :=
  let st := getF s (Reg.LINK_LINK_STATUS_STATE n)
  decide (st = 5) || decide (st = 6)

/-- Cells of a frame of `len` bytes (R190). -/
def cellsOf (len : Nat) : Nat := (len + 191) / 192

/-- Sum of naturals. -/
def sumNat (l : List Nat) : Nat := l.foldl (· + ·) 0

/-! ### Jieth egress (R216, R217) -/

/-- Cells of credit a link still holds. -/
def jiethCredit (s : State) (n : Nat) : Nat := ((linkS s n).credit - (linkS s n).cellsSent).toNat

/-- Bytes in a link's replay buffer. -/
def replayBytes (s : State) (n : Nat) : Nat := sumNat ((linkS s n).replay.map (fun e => e.2.2))

/-- A frame of a class may start on link n (R217): room in the 128 KiB replay buffer, and for CLASS 0 credit for its cells; CLASS 1 and 2 have
their own reserve. -/
def jiethMay (s : State) (n cls len : Nat) : Bool :=
  linkCarries s n && decide (replayBytes s n + len ≤ 131072) && (decide (cls ≠ 0) || decide (cellsOf len ≤ jiethCredit s n))

/-- A frame leaves on link n: it takes the next SEQ and stays in the replay buffer (R217). -/
def jiethSend (s : State) (n cls len : Nat) : State :=
  updLink s n (fun l => { l with
    replay := l.replay ++ [(l.seqTx, cls, len)]
    seqTx := l.seqTx + 1
    cellsSent := if cls = 0 then l.cellsSent + BitVec.ofNat 16 (cellsOf len) else l.cellsSent })

/-- Outcome of a meaning: the next state. -/
def ok (s : State) : Host.Outcome State Fault Refusal := .next s

/-- State after an outcome, the old one where there is none. -/
def outcomeOr (s : State) (o : Host.Outcome State Fault Refusal) : State :=
  match o with
  | .next t => t
  | _ => s

end Sys2Proof.Machine
end

