-- ==== Sys2Proof/Machine/Items.lean ====
section
/-! DEFINITION. Calibrated items: their record words, the working set and the values in force (R286, R291, R297). -/

namespace Sys2Proof.Machine

/-- Change the calibration state. -/
def updCal (s : State) (f : Cal → Cal) : State := { s with cal := f s.cal }

/-- Record words of an item (R297). -/
def itemWords : CalItem → List Nat
  | .portDelay p r => if p < 32 then [16 + 6 * p + 2 * r, 17 + 6 * p + 2 * r] else [208 + 2 * (p - 32), 209 + 2 * (p - 32)]
  | .jiethDelay n => [288 + 4 * n, 289 + 4 * n]
  | .dll n => [312 + 5 * n, 313 + 5 * n, 314 + 5 * n, 315 + 5 * n, 316 + 5 * n]
  | .vernier n => [412 + 4 * n, 413 + 4 * n]
  | .gaugeDelay n => [414 + 4 * n]
  | .gnssFe => [460]
  | .tempco i j => if j then [290 + 4 * i, 291 + 4 * i] else [216 + 2 * i, 217 + 2 * i]
  | .bermRef p r => if p < 32 then [461 + 6 * p + 2 * r, 462 + 6 * p + 2 * r] else [653 + 2 * (p - 32), 654 + 2 * (p - 32)]

/-- Write an item's accepted values into the working set; they wait for the item's boundary (R288, R291). -/
def acceptItem (s : State) (it : CalItem) (vs : List Word) : State :=
  let w := ((itemWords it).zip vs).foldl (fun m e => memPut m e.1 e.2) s.cal.work
  { s with cal := { s.cal with work := w, pend := s.cal.pend.erase it ++ [it] } }

/-- An item's boundary: its pending values come into force (R291). -/
def applyItem (s : State) (it : CalItem) : State :=
  if it ∈ s.cal.pend then
    let f := (itemWords it).foldl (fun m k => memPut m k (memGet s.cal.work k)) s.cal.force
    { s with cal := { s.cal with force := f, pend := s.cal.pend.erase it } }
  else s

/-- An item is pending or being measured (R286). -/
def itemBusy (s : State) (it : CalItem) : Bool :=
  decide (it ∈ s.cal.pend) || (match s.cal.run with | r :: _ => decide (r.item = it) | [] => false)

end Sys2Proof.Machine
end

