-- ==== Sys2Proof/Machine/Time.lean ====
section
/-! DEFINITION. The clock root's control word and its ramp (R45 to R47), the time-of-day counter, its increment and the Weir
(R61 to R70), the advance of time by ticks, compare arithmetic (R66, R67), edge placement (R54) and the schedules of the timed
outputs (R72 to R75). Fifths are fifths of 2^-16 ns: a tap is 256 of them, a CK_ROOT period 65,536, a tick 524,288. -/

namespace Sys2Proof.Machine

/-! ### Control word -/

/-- Largest word not above 20 × 10^-6 (R45). -/
def cwClamp : Int := 23058430092136

/-- Units of `Clk.cwPos` per LSB: ticks per second. -/
def cwUnit : Int := 625000000

/-- The ramp target: the request within the clamp (R45, R47). -/
def cwTarget (s : State) : Int := clampInt (-cwClamp) cwClamp s.clk.cwReq

/-- CLAMPED follows the request (R45). -/
def cwClamped (s : State) : Bool := cwTarget s ≠ s.clk.cwReq

/-- Position rounded to a whole LSB toward the start of the ramp (R47). -/
def cwRound (pos target : Int) : Int := if pos ≤ target * cwUnit then pos / cwUnit else -((-pos) / cwUnit)

/-- The word the ramp applies. -/
def cwNow (s : State) : Int := cwRound s.clk.cwPos (cwTarget s)

/-- NOMINAL [53:0] (R60). -/
def nominal (s : State) : Int := sext 54 (getHL s Reg.CLK_NOMINAL_HI Reg.CLK_NOMINAL_LO)

/-- NOMINAL within the clamp: what the root's own word ramps to under NUMERIC discipline (R45, R47, R65). -/
def rootTarget (s : State) : Int := clampInt (-cwClamp) cwClamp (nominal s)

/-- The word the root uses: under NUMERIC discipline the one that ramps to NOMINAL (R47, R65), the ramp's word otherwise. -/
def cwRoot (s : State) : Int := if s.tim.numeric then cwRound s.clk.rootPos (rootTarget s) else cwNow s

/-- Ramp units added per tick: 2^(60-E) (R47). -/
def rampStep (s : State) : Int := 2 ^ (60 - getF s Reg.CLK_RATE_LIM_E)

/-- Whether the applied word follows requests (R47): not in FAULT, not held, not while the root follows a forwarded clock. -/
def cwFollows (s : State) : Bool := s.mode ≠ .fault && !s.clk.cwHeld && s.clk.rootFwd.isNone

/-- Position after `k` ticks of ramp. -/
def rampTo (pos target r : Int) (k : Nat) : Int :=
  if pos ≤ target then min target (pos + r * k) else max target (pos - r * k)

/-- Sum over ticks 0 to k-1 of the position at the start of each. -/
def rampSum (pos target r : Int) (k : Nat) : Int :=
  let q := (if pos ≤ target then target - pos else pos - target) / r
  let n : Int := min (k : Int) (q + 1)
  let d := if pos ≤ target then r else -r
  n * pos + d * (n * (n - 1) / 2) + (k - n) * target

/-- Make a request (R45, R46): the ramp starts from the present applied word; a request that newly lies beyond the clamp sets
CLAMP_HIT. -/
def setRequest (s : State) (v : Int) : State :=
  let was := cwClamped s
  let s1 := { s with clk := { s.clk with cwPos := cwNow s * cwUnit, cwReq := v } }
  raiseIf (cwClamped s1 && !was) s1 Reg.CLK_EVENTS_CLAMP_HIT

/-- Take a word up with no ramp (R141, R163, R170): request and applied word at once, within the clamp of R45; a request that newly
lies beyond it sets CLAMP_HIT. -/
def takeWord (s : State) (v : Int) : State :=
  let was := cwClamped s
  let s1 := { s with clk := { s.clk with cwPos := clampInt (-cwClamp) cwClamp v * cwUnit, cwReq := v } }
  raiseIf (cwClamped s1 && !was) s1 Reg.CLK_EVENTS_CLAMP_HIT

/-- DISCIPLINE takes effect (R65, R47): under NUMERIC the root's own word sets out for NOMINAL from the word applied so far; back under
SYNTONISED the applied word goes on from there. -/
def takeDiscipline (s : State) (on : Bool) : State :=
  if on = s.tim.numeric then s
  else if on then { s with tim := { s.tim with numeric := true }, clk := { s.clk with rootPos := cwNow s * cwUnit } }
  else { s with tim := { s.tim with numeric := false }, clk := { s.clk with cwPos := cwRoot s * cwUnit } }

/-- RAMPING (R47): the applied word, and under NUMERIC the root's own, differs from what it ramps to. -/
def ramping (s : State) : Bool := cwNow s ≠ cwTarget s || (s.tim.numeric && cwRoot s ≠ rootTarget s)

/-! ### Increment and Weir -/

/-- Wrap of the counter: 2^48 seconds in 2^-56 ns (R61). -/
def todWrap : Nat := 2 ^ 48 * 10 ^ 9 * 2 ^ 56

/-- INC in force: unsigned 8.56 ns (R64). -/
def incVal (s : State) : Nat := getF s Reg.TIME_INC_HI_NS * 2 ^ 56 + getF s Reg.TIME_INC_HI_FRAC_HI * 2 ^ 32 + getF s Reg.TIME_INC_LO

/-- INC × (1 + c) rounded to the nearest 2^-56 ns (R65). -/
def incNumeric (inc : Nat) (c : Int) : Nat := (roundDiv ((inc : Int) * (2 ^ 60 + c)) (2 ^ 60)).toNat

/-- The applied increment, INC_APPLIED (R65): the literal value unless NUMERIC. DESIGN CHOICE (log entry 117): c is the whole requested
word, as R45 has it, also where NOMINAL is not 0: the manual does not say whether c is taken against OSC_IN or against the root held at
NOMINAL. -/
def incApplied (s : State) : Nat := if s.tim.numeric then incNumeric (incVal s) (cwNow s) else incVal s

/-- Added by the first `j` ticks of the five-phase pattern, in 2^-16 ns (R63). -/
def patCum (j : Nat) : Nat :=
  match j with
  | 0 => 0
  | 1 => 104858
  | 2 => 209715
  | 3 => 314573
  | 4 => 419430
  | _ => 524288

/-- Added by `k` ticks from phase `p`, in 2^-16 ns (R63). -/
def patSum (p k : Nat) : Nat := (p + k) / 5 * 524288 + patCum ((p + k) % 5) - patCum (p % 5) - p / 5 * 524288

/-- Sum of the applied increments over `k` ticks while c ramps (R65). -/
def numericSum (inc : Nat) (pos target r : Int) : Nat → Nat
  | 0 => 0
  | k + 1 => numericSum inc pos target r k + incNumeric inc (cwRound (rampTo (pos) (target * cwUnit) r k) target)

/-- What the increments of the next `k` ticks add, in 2^-56 ns. -/
def incSum (s : State) (k : Nat) : Nat :=
  if s.tim.numeric then
    let r := if cwFollows s then rampStep s else 0
    if s.clk.cwPos = cwTarget s * cwUnit ∨ r = 0 then k * incApplied s
    else
      let d := if s.clk.cwPos ≤ cwTarget s * cwUnit then cwTarget s * cwUnit - s.clk.cwPos else s.clk.cwPos - cwTarget s * cwUnit
      let m := min k ((d + r - 1) / r).toNat
      numericSum (incVal s) s.clk.cwPos (cwTarget s) r m + (k - m) * incNumeric (incVal s) (cwTarget s)
  else if getB s Reg.TIME_TOD_CTRL_INC_EXACT then patSum s.tim.phase k * 2 ^ 40
  else k * incVal s

/-- Weir units per tick, in 10^-13 of 2^-56 ns (R69): WEIR_RATE × 1.6 × 10^-12 ns. -/
def weirStep (s : State) : Nat := getF s Reg.TIME_WEIR_RATE * 16 * 2 ^ 56

/-- Magnitude `k` ticks of slew would remove, in 2^-56 ns (R69). -/
def weirAmt (acc step k : Nat) : Nat := (acc + k * step) / 10 ^ 13

/-- What the Weir adds over `k` ticks: the tick that ends the slew adds exactly the remainder (R69). -/
def weirSum (s : State) (k : Nat) : Int :=
  let a := weirAmt s.tim.weirAcc (weirStep s) k
  if s.tim.weirRem.natAbs ≤ a then s.tim.weirRem else if s.tim.weirRem < 0 then -(a : Int) else (a : Int)

/-- The time-of-day part after `k` ticks: counter, phase, Weir. -/
def timAdvance (s : State) (k : Nat) : Tim :=
  let w := weirSum s k
  let rem := s.tim.weirRem - w
  { s.tim with
    tod := (((s.tim.tod + incSum s k : Nat) + w) % (todWrap : Int)).toNat
    phase := (s.tim.phase + k) % 5
    weirRem := rem
    weirAcc := if rem = 0 then 0 else (s.tim.weirAcc + k * weirStep s) % 10 ^ 13 }

/-- Ticks of the next `k` on which WEIR_ACTIVE is set. -/
def weirTicks (s : State) (k : Nat) : Nat :=
  if s.tim.weirRem = 0 then 0
  else if weirAmt s.tim.weirAcc (weirStep s) k < s.tim.weirRem.natAbs then k
  else min k ((s.tim.weirRem.natAbs * 10 ^ 13 - s.tim.weirAcc + weirStep s - 1) / weirStep s)

/-- A coast's integrals over `k` ticks (R132). -/
def coastRun (s : State) (k : Nat) (c : Coast) : Coast :=
  { ticks := c.ticks + k
    cSum := c.cSum + (if cwFollows s then rampSum s.clk.cwPos (cwTarget s * cwUnit) (rampStep s) k else s.clk.cwPos * k)
    w := c.w + weirSum s k }

/-- The selector's integrals over `k` ticks: of the coast (R132) and of a switch's extrapolated source (R122). -/
def selAdvance (s : State) (k : Nat) : Sel :=
  { s.sel with coast := s.sel.coast.map (coastRun s k), sw := s.sel.sw.map (fun w => { w with run := coastRun s k w.run }) }

/-- ToD, Weir, ramp, coast and the model's tick count over `k` ticks. -/
def countTicks (k : Nat) (s : State) : State :=
  { s with
    tim := timAdvance s k
    clk := { s.clk with
      cwPos := if cwFollows s then rampTo s.clk.cwPos (cwTarget s * cwUnit) (rampStep s) k else s.clk.cwPos
      rootPos := if cwFollows s && s.tim.numeric then rampTo s.clk.rootPos (rootTarget s * cwUnit) (rampStep s) k else s.clk.rootPos }
    sel := selAdvance s k
    now := s.now + k }

/-- The coarse counter over `k` ticks, and its wraps (R232). -/
def coarseAdvance (k : Nat) (s : State) : State :=
  let w := (s.coarse + k) / 2 ^ 48 - s.coarse / 2 ^ 48
  let s1 := { s with coarse := s.coarse + k }
  if w = 0 then s1 else raise (incF s1 Reg.GAUGE_WRAP_CNT w) Reg.GAUGE_EVENTS_COARSE_WRAP

/-- Time passes by `k` ticks of CK_TICK: ToD, Weir, ramp, coast, coarse counter and the model's tick count. Before the first
ROOT_LOCK no divided clock runs (R48). -/
def advance (k : Nat) (s : State) : State :=
  if s.clk.started then
    let s1 := perf (countTicks k s) 0x43 0x23 0 0 (weirTicks s k)
    if powered s .gauge then coarseAdvance k s1 else s1
  else { s with now := s.now + k }

/-- One CK_TICK. -/
def tick (s : State) : State := advance 1 s

/-- Least k ≥ 1 with `p k`, for a `p` that stays true once true, looking at k up to 2^bits. -/
def leastTick (p : Nat → Bool) : Nat → Nat → Nat
  | 0, lo => lo + 1
  | b + 1, lo => if p (lo + 2 ^ b) then leastTick p b lo else leastTick p b (lo + 2 ^ b)

/-- Counter value after `k` ticks, in 2^-56 ns and without the wrap. -/
def todAfter (s : State) (k : Nat) : Int := (s.tim.tod + incSum s k : Nat) + weirSum s k

/-- Ticks to the tick on which the ToD first reaches or passes the next multiple of `unit` (in 2^-56 ns). -/
def ticksToNext (s : State) (unit : Nat) : Nat :=
  let goal : Int := ((s.tim.tod / unit + 1) * unit : Nat)
  leastTick (fun k => decide (goal ≤ todAfter s k)) 42 0

/-- Time passes to the first tick at or after a ToD instant in 2^-56 ns. -/
def runTo (s : State) (goal : Nat) : State :=
  if !s.clk.started ∨ goal ≤ s.tim.tod then s
  else advance (leastTick (fun k => decide ((goal : Int) ≤ todAfter s k)) 80 0) s

/-- Time passes to the next ToD multiple of `unit` (in 2^-56 ns), unless this tick brings one (R66). -/
def runToGrid (s : State) (unit : Nat) : State :=
  if s.tim.tod % unit < 8 * 2 ^ 56 / 5 ∨ !s.clk.started then s else advance (ticksToNext s unit) s

/-- Set a new Weir target in 2^-16 ns: it replaces the remaining amount, and the accumulator restarts (R69). -/
def setWeir (s : State) (x : Int) : State := { s with tim := { s.tim with weirRem := x * 2 ^ 40, weirAcc := 0 } }

/-! ### Compare and placement -/

/-- Modulus of the compare value in fifths: 2^62 ns (R66). -/
def cmpMod : Int := 5 * 2 ^ 78

/-- Signed difference of a target in fifths against the visible ToD in 2^-16 ns (R66): in [-2^61, 2^61) ns. -/
def cmpDiff (x : Int) (vis : Nat) : Int :=
  let d := (x - 5 * (vis : Int)) % cmpMod
  if 5 * 2 ^ 77 ≤ d then d - cmpMod else d

/-- Split of a remainder in fifths into tick carry, sub-tick and tap, to the nearest tap, a half rounding up (R54). -/
def placement (d : Nat) : Nat × Nat × Nat :=
  let t := (d + 128) / 256
  (t / 2048, t / 256 % 8, t % 256)

/-- Record word `k` of the calibration values in force (R297). -/
def calWord (s : State) (k : Nat) : Word := memGet s.cal.force k

/-- Output path delay of DLL n in fifths (R54, R297). -/
def pathDelay (s : State) (n : Nat) : Int := 5 * (calWord s (312 + 5 * n)).toNat

/-- Launch time of output n's next edge, in fifths (R54, R67). -/
def launch (s : State) (n : Nat) : Int := (outS s n).next - pathDelay s n

/-- 256 ns, the least lead of an armed target (R68), in fifths. -/
def leadFifths : Int := 5 * 256 * 65536

/-- Period of output n in fifths: 1 s, 100 ns, or the schedule's (R72, R74). -/
def outPeriod (s : State) (n : Nat) : Int :=
  if n < 4 then 5 * 65536 * 10 ^ 9 else if n < 6 then 5 * 65536 * 100 else 5 * (outS s n).per

/-- OUT_ALIGN_OFS in taps (R74). -/
def alignOfs (s : State) (n : Nat) : Int := sext 41 (getHL s (Reg.OUT_OUT_ALIGN_OFS_HI n) (Reg.OUT_OUT_ALIGN_OFS_LO n))

/-- A field of a TO's staged schedule: of its word that waits in staging, else of the register (R72, R327). -/
def schedF (s : State) (f : Fld) : Nat :=
  match spGet? s.staged f.addr with
  | some x => fieldOf x f.lo f.w
  | none => getF s f

/-- A period in 2^-16 ns: all zero encodes 2^32 s, below 16 ns is 16 ns (R72). -/
def perValue (p : Nat) : Nat := if p = 0 then 2 ^ 32 * 10 ^ 9 * 65536 else max p (16 * 65536)

/-- Staged period of a TO in 2^-16 ns. -/
def stagedPer (s : State) (n : Nat) : Nat :=
  perValue ((schedF s (Reg.OUT_OUT_PER_S n) * 10 ^ 9 + schedF s (Reg.OUT_OUT_PER_NS n)) * 65536 + schedF s (Reg.OUT_OUT_PER_FRAC n))

/-- Staged target of a TO in 2^-16 ns. -/
def stagedTgt (s : State) (n : Nat) : Nat :=
  ((schedF s (Reg.OUT_OUT_TGT_SEC_HI n) * 2 ^ 32 + schedF s (Reg.OUT_OUT_TGT_SEC_LO n)) * 10 ^ 9 + schedF s (Reg.OUT_OUT_TGT_NS n)) * 65536 +
    schedF s (Reg.OUT_OUT_TGT_FRAC n)

/-- A period between zero and 16 ns is stored as 16 ns (R72). -/
def normPer (s : State) (n : Nat) : State :=
  let p := (getF s (Reg.OUT_OUT_PER_S n) * 10 ^ 9 + getF s (Reg.OUT_OUT_PER_NS n)) * 65536 + getF s (Reg.OUT_OUT_PER_FRAC n)
  if 0 < p ∧ p < 16 * 65536 then setF (setF s (Reg.OUT_OUT_PER_NS n) 16) (Reg.OUT_OUT_PER_FRAC n) 0 else s

/-- A staged word of the schedule goes to its register. -/
def takeStaged (s : State) (f : Fld) : State :=
  match spGet? s.staged f.addr with
  | some _ => { setF s f (schedF s f) with staged := spDel s.staged f.addr }
  | none => s

/-- The staged words of a TO's TGT and PER go to their registers (R72, R327). -/
def takeSchedule (s : State) (n : Nat) : State :=
  let s1 := takeStaged (takeStaged (takeStaged s (Reg.OUT_OUT_TGT_SEC_HI n)) (Reg.OUT_OUT_TGT_SEC_LO n)) (Reg.OUT_OUT_TGT_NS n)
  normPer (takeStaged (takeStaged s1 (Reg.OUT_OUT_PER_S n)) (Reg.OUT_OUT_PER_NS n)) n

/-- A ToD in fifths, within the counter's 48 bits of seconds (R61, R73). -/
def wrapNext (x : Int) : Int := x % (5 * 65536 * 10 ^ 9 * 2 ^ 48)

/-- Pulse width in 200 ps units: at least 8 ns, and for a period at most the period less 8 ns (R72). Where that limit is no multiple of
200 ps the model applies the largest multiple below it (DESIGN CHOICE, log entry 118: the manual states no rounding). A 10 MHz output
has 50 % duty (R80). -/
def outWidth (s : State) (n : Nat) (o : OutS) : Nat :=
  let w := if 4 ≤ n ∧ n < 6 then 250 else max 40 (if n < 4 then getF s (Reg.OUT_OUT_WIDTH n) else o.width)
  if 6 ≤ n ∧ o.periodic then min w ((5 * o.per - 5 * 8 * 65536) / 65536) else w

/-- First point of the grid anchor + k × per that is at or after `from_`, for a positive period. -/
def gridFrom (anchor per from_ : Int) : Int :=
  if from_ ≤ anchor then anchor else anchor + ((from_ - anchor + per - 1) / per) * per

/-- Grid point nearest to `x`, on the whole grid anchor + k × per. -/
def gridNear (anchor per x : Int) : Int := anchor + roundDiv (x - anchor) per.toNat * per

/-- A 10 MHz output has started: its DLL has locked, and on a later loss of lock it runs on its bypass clock (R33, R37, R57). -/
def clk10Up (s : State) (n : Nat) : Bool := getB s (Reg.DLL_STAT_LOCK n) || getB s (Reg.DLL_STAT_BYPASS n)

/-- Output n is producing edges (R24, R72, R74): enabled, with a schedule, in a mode that lets it run, and aligned where CONFIG needs
it; a 10 MHz output once its DLL has locked. -/
def outRunning (s : State) (n : Nat) : Bool :=
  let aligned := getB s Reg.TIME_STATUS_FIRST_ALIGNED
  getB s (Reg.OUT_OUT_CTRL_EN n) && (decide (n < 4) || decide (6 ≤ n) || clk10Up s n) &&
  match s.mode with
  | .reset => false
  | .boot => decide (4 ≤ n ∧ n < 6)
  | .fault => false
  | .config => decide (4 ≤ n ∧ n < 6) || (aligned && (decide (n < 4) || (outS s n).armed))
  | .timekeep => decide (n < 4)
  | _ => if n < 6 then s.tim.provisional || aligned else (outS s n).armed

/-- A timed output misses its ONCE target (R68, R72). -/
def outMiss (s : State) (n : Nat) : State :=
  raise (setF (setF (updOut s n (fun o => { o with armed := false })) (Reg.OUT_OUT_CTRL_MISSED n) 1) (Reg.OUT_OUT_CTRL_ARM n) 0)
    Reg.TIME_EVENTS_TO_MISSED

/-- Next edge after one at `nx`: one period on, with the slew of a re-alignment (R74) at WEIR_RATE, whose remainder is kept. A start
target of a PERIODIC schedule that passes while EN = 0 counts as the first edge of R73 (DESIGN CHOICE, log entry 120: the manual does not
say whether the fixed target or the keeping of the phase then applies). -/
def outNext (s : State) (n : Nat) (o : OutS) : OutS :=
  let per := outPeriod s n
  let sum := o.slewAcc + per.toNat * getF s Reg.TIME_WEIR_RATE
  let lim : Int := (sum / 10 ^ 12 : Nat)
  let mv := clampInt (-lim) lim o.slew
  { o with next := wrapNext (o.next + per + mv), slew := o.slew - mv, slewAcc := if o.slew = mv then 0 else sum % 10 ^ 12, firstDone := true }

/-- Where the bypass clock has the edge placed on a tick and sub-tick (R55, R57): the compare unit's pulse on its tick, or for CLK10_OUT
the edge of CK_10M, 500 CK_ROOT cycles apart from the dividers' start, at or before it: tick and sub-tick. -/
def bypassEdge (s : State) (n t sub : Nat) : Nat × Nat :=
  if 4 ≤ n ∧ n < 6 then
    let e := ((t - s.clk.divAt) * 8 + sub) / 500 * 500
    (s.clk.divAt + e / 8, e % 8)
  else (t, 0)

/-- An edge of DLL n placed `p` = (ticks from the present one, sub-tick, tap) leaves: on the delayed path, which SUBTICK and TAP show, or
in bypass on the undelayed clock (R54, R57). -/
def placeEdge (s : State) (n : Nat) (p : Nat × Nat × Nat) (width : Nat) : State :=
  if getB s (Reg.DLL_STAT_BYPASS n) then
    let b := bypassEdge s n (s.now + p.1) p.2.1
    emit s (.edge n b.1 b.2 0 width)
  else setF (setF (emit s (.edge n (s.now + p.1) p.2.1 p.2.2 width)) (Reg.DLL_STAT_SUBTICK n) p.2.1) (Reg.DLL_STAT_TAP n) p.2.2

/-- The edge of output n fires on the present tick with remainder `d` fifths; in bypass on the undelayed clock (R57), while gated or
stopped not at all. LATE tells of an output that runs (R68, R72). A ONCE target that passes with EN = 1 while the output is stopped
(TIMEKEEP, or CONFIG before first alignment) is consumed with neither MISSED nor TO_MISSED (DESIGN CHOICE, log entry 119: R72 names
EN = 0 only). -/
def outFire (s : State) (n : Nat) (d : Nat) (late : Bool) : State :=
  let o := outS s n
  let p := if late then (0, 0, 0) else placement d
  let s1 := if outRunning s n && !getB s (Reg.DLL_STAT_GATED n) then placeEdge s n p (outWidth s n o) else s
  let s2 := if late && outRunning s n then raise (setF s1 (Reg.OUT_OUT_CTRL_LATE n) 1) Reg.TIME_EVENTS_TO_LATE else s1
  if n < 6 then updOut s2 n (outNext s n)
  else
    let en := getB s (Reg.OUT_OUT_CTRL_EN n)
    if o.periodic then
      let s3 := updOut s2 n (outNext s n)
      if en then setF s3 (Reg.OUT_OUT_CTRL_ARM n) 0 else s3
    else if en then setF (updOut s2 n (fun o => { o with armed := false, firstDone := true })) (Reg.OUT_OUT_CTRL_ARM n) 0
    else outMiss s2 n

/-- ARM of a timed output (R68, R72): load the staged schedule; words of TGT and PER that wait in staging are loaded with it. -/
def outArm (s : State) (n : Nat) : State :=
  let periodic := getF s (Reg.OUT_OUT_CTRL_MODE n) = 1
  let tgt := stagedTgt s n
  let per := stagedPer s n
  let d := cmpDiff (5 * (tgt : Int)) (todVis s)
  let vis5 : Int := 5 * (todVis s : Int)
  let nx : Int := if leadFifths ≤ d then vis5 + d else gridFrom (vis5 + d) (5 * per) (vis5 + leadFifths)
  let s1 := setF (setF (setF (takeSchedule s n) (Reg.OUT_OUT_CTRL_MISSED n) 0) (Reg.OUT_OUT_CTRL_LATE n) 0) (Reg.OUT_OUT_CTRL_ARM n) 1
  let s2 := updOut s1 n (fun o =>
    { o with armed := true, periodic := periodic, firstDone := false, tgt := tgt, per := per, width := getF s (Reg.OUT_OUT_WIDTH n),
             next := wrapNext nx, slew := 0, slewAcc := 0, fired := false, opened := none })
  if !periodic ∧ d < leadFifths then outMiss s2 n else s2

/-- First alignment or re-alignment grid of output n in fifths: marker in 2^-16 ns against the ToD second for PPS and 10 MHz,
TGT + k × PER for a TO (R74). -/
def alignShift (s : State) (n : Nat) (marker : Int) : Int :=
  let o := outS s n
  let per := outPeriod s n
  if per ≤ 0 then 0
  else if n < 6 then gridNear (5 * marker + 256 * alignOfs s n) per o.next - o.next
  else gridNear (5 * (o.tgt : Int)) per o.next - o.next

/-- Apply a pending change of output n at its period boundary (R59, R74, R75). -/
def applyChange (s : State) (n : Nat) (c : OutChange) : State :=
  match c with
  | .pstep taps => updOut s n (fun o => { o with next := wrapNext (o.next + 256 * taps) })
  | .align m _ slew =>
    let d := alignShift s n m
    raise (if slew then updOut s n (fun o => { o with slew := d, slewAcc := 0 })
      else updOut s n (fun o => { o with next := wrapNext (o.next + d), slew := 0, slewAcc := 0 })) Reg.TIME_EVENTS_ALIGNED
  | .grid => updOut s n (fun o => { o with next := wrapNext (o.next + alignShift s n 0) })

/-- Hold a change of placement of output n until its period boundary; a later one replaces it (R59). PENDING shows a change that
waits while the output is in bypass, gated or waiting for lock. -/
def holdChange (s : State) (n : Nat) (c : OutChange) : State :=
  let s1 := updOut s n (fun o => { o with pend := some c })
  if getB s (Reg.DLL_STAT_BYPASS n) || getB s (Reg.DLL_STAT_GATED n) || !getB s (Reg.DLL_STAT_LOCK n) then
    setF s1 (Reg.DLL_STAT_PENDING n) 1
  else s1

/-- Start a PPS or 10 MHz output on the grid of `marker` (2^-16 ns from the ToD second) + OUT_ALIGN_OFS: its first edge whose launch lies
ahead (R74). -/
def startOut (s : State) (n : Nat) (marker : Int) : State :=
  let per := outPeriod s n
  let ahead : Int := 5 * (todVis s : Int) + pathDelay s n + 524288
  updOut s n (fun o => { o with next := wrapNext (gridFrom ((5 * marker + 256 * alignOfs s n) % per) per ahead), firstDone := true, pend := none,
                                slew := 0, slewAcc := 0, fired := false, opened := none })

/-- The outputs of a mask take an alignment (R74): source 0 reference second marker, 1 ToD second boundary, which ALIGN_SRC shows. A
running PPS or 10 MHz output and a PERIODIC TO take it at the next period boundary; a PPS output that has not started, in CONFIG, starts
so. -/
def alignAll (s : State) (mask : Nat) (marker : Int) (src : Nat) (slew : Bool) (idle : Bool) : State :=
  (List.range 14).foldl
    (fun t n =>
      if bits mask n 1 = 0 then t
      else if n < 4 ∧ idle = true then raise (startOut t n marker) Reg.TIME_EVENTS_ALIGNED
      else if n < 6 ∨ ((outS t n).armed ∧ (outS t n).periodic) then holdChange t n (.align marker (decide (src = 1)) slew) else t)
    (setF s Reg.TIME_STATUS_ALIGN_SRC src)

/-- The first alignment of R74, once per boot, of every PPS and 10 MHz output. -/
def firstAlign (s : State) (marker : Int) (src : Nat) (mask : Nat) (slew : Bool) : State :=
  if getB s Reg.TIME_STATUS_FIRST_ALIGNED then s
  else alignAll (setF s Reg.TIME_STATUS_FIRST_ALIGNED 1) (mask ||| 0x3F) marker src slew (!s.tim.provisional)

/-- An alignment by ALIGN_OUTPUTS: the first one, or a re-alignment of the mask (R74). -/
def realign (s : State) (marker : Int) (src : Nat) (mask : Nat) (slew : Bool) : State :=
  if getB s Reg.TIME_STATUS_FIRST_ALIGNED then alignAll s mask marker src slew false else firstAlign s marker src mask slew

/-- The outputs have left CONFIG. -/
def leaveConfigOuts (s : State) : State := { s with tim := { s.tim with provisional := true } }

/-- Provisional PPS and 10 MHz edges from the first exit from CONFIG (R74): on each ToD second boundary + OUT_ALIGN_OFS. -/
def startProvisional (s : State) : State :=
  if s.tim.provisional || getB s Reg.TIME_STATUS_FIRST_ALIGNED then leaveConfigOuts s
  else (List.range 6).foldl (fun t n => startOut t n 0) (leaveConfigOuts s)

/-- A held re-alignment to the reference second marker moves with the counter (R73, R74). -/
def OutChange.moved (d : Int) : OutChange → OutChange
  | .align m false slew => .align (m + d) false slew
  | c => c

/-- A STEP moves the counter by `d` (2^-16 ns): running periodic, PPS and 10 MHz outputs keep their physical phase (R73). -/
def moveOutputs (s : State) (d : Int) : State :=
  { s with tim := { s.tim with outs := (List.range 14).map (fun n =>
      let o := outS s n
      let o1 := { o with pend := o.pend.map (OutChange.moved d) }
      if n < 6 ∨ (o.periodic ∧ o.firstDone) then
        { o1 with next := wrapNext (o.next + 5 * d), opened := o.opened.map (fun x => wrapNext (x + 5 * d)) }
      else o1) } }

/-! ### DLLs and gating (R56 to R58) -/

/-- Gate every DLL output low (R58): ROOT_LOCK is clear. -/
def gateAll (s : State) : State := (List.range 20).foldl (fun t n => setF t (Reg.DLL_STAT_GATED n) 1) s

/-- A DLL loses lock: bypass (R57). -/
def dllLose (s : State) (n : Nat) : State :=
  raise (setF (setF s (Reg.DLL_STAT_LOCK n) 0) (Reg.DLL_STAT_BYPASS n) 1) Reg.CLK_EVENTS_DLL_UNLOCK_SEEN

/-- The delayed path of DLL n is in use (R59): not in bypass, not gated, locked. -/
def delayedPath (s : State) (n : Nat) : Bool :=
  !getB s (Reg.DLL_STAT_BYPASS n) && !getB s (Reg.DLL_STAT_GATED n) && getB s (Reg.DLL_STAT_LOCK n)

/-- The state that a period boundary of DLL n's output brings (R57 to R59, R286): a gated output resumes once the root is locked; a
bypassed one returns when its DLL is locked and AUTO_RETURN or RETURN asks; a pending change, and a pending correction of the DLL, apply
at the first boundary after the delayed path has resumed. -/
def openPeriod (s : State) (n : Nat) : State :=
  let gated := getB s (Reg.DLL_STAT_GATED n)
  let rootOk := getB s Reg.CLK_ROOT_STATUS_ROOT_LOCK
  let s1 := if gated && rootOk then setF s (Reg.DLL_STAT_GATED n) 0 else s
  let back := getB s1 (Reg.DLL_STAT_BYPASS n) && getB s1 (Reg.DLL_STAT_LOCK n) &&
    (getB s1 (Reg.DLL_CFG_AUTO_RETURN n) || getB s1 (Reg.DLL_CFG_RETURN n))
  let s2 := if back then setF (setF s1 (Reg.DLL_STAT_BYPASS n) 0) (Reg.DLL_CFG_RETURN n) 0 else s1
  if delayedPath s n then
    let s3 := setF (applyItem s2 (.dll n)) (Reg.DLL_STAT_PENDING n) 0
    match (outS s3 n).pend with
    | none => s3
    | some c => applyChange (updOut s3 n (fun o => { o with pend := none })) n c
  else s2

/-- The boundary of output n's next edge is taken ahead of that edge (R59): the edge that opens a period is launched in its state. -/
def openAhead (s : State) (n : Nat) : State :=
  if (outS s n).opened = some (outS s n).next then s
  else
    let t := openPeriod s n
    updOut t n (fun o => { o with opened := some o.next })

/-- PERIOD_BOUNDARY of an output with a compare unit (R59): done already where its edge has been launched. -/
def outBoundary (s : State) (n : Nat) : State :=
  if (outS s n).fired then updOut s n (fun o => { o with fired := false }) else openAhead s n

/-- CK_REF rising edge of the forwarded clock of DLL n (R54, R55): the edge placed on the calibrated path delay before a CK_REF edge, four
ticks apart, leaves unless the output is gated. -/
def fwdEdge (s : State) (n : Nat) : State :=
  if getB s (Reg.DLL_STAT_GATED n) then s else placeEdge s n (placement ((-pathDelay s n) % (4 * 524288)).toNat) 16

/-- Ticks to the next CK_REF rising edge: CK_REF is CK_ROOT / 32, four ticks, from the dividers' start (R48). -/
def ticksToRef (s : State) : Nat := 4 - (s.now - s.clk.divAt) % 4

end Sys2Proof.Machine
end

