-- ==== Sys2Proof/Machine/Select.lean ====
section
/-! DEFINITION. The selector (chapter 6), the loss policy and the recovery window (R27 to R30), the returns of R76 to R78, and the
commands of the selector: qualification, evaluation, switching, coasting and its history. Offsets are in 2^-16 ns, frequencies
and words in 2^-60. -/

namespace Sys2Proof.Machine

/-! ### Slots -/

/-- TYPE of a slot: 0 port, 1 Jieth upstream, 2 GNSS, 3 XREF (R112). -/
def slotType (s : State) (n : Nat) : Nat := getF s (Reg.SLOT_SLOT_CFG_TYPE n)

/-- INDEX of a slot. -/
def slotIndex (s : State) (n : Nat) : Nat := getF s (Reg.SLOT_SLOT_CFG_INDEX n)

/-- EN of a slot. -/
def slotEn (s : State) (n : Nat) : Bool := getB s (Reg.SLOT_SLOT_CFG_EN n)

/-- RANK of a slot; a stored 0 cannot occur (R112). -/
def slotRank (s : State) (n : Nat) : Nat := getF s (Reg.SLOT_SLOT_CFG_RANK n)

/-- Link role as the host wrote it: 0 OFF, 1 UP, 2 DOWN, 3 MIRROR. -/
def linkRoleCfg (s : State) (n : Nat) : Nat := getF s (Reg.LINK_LINK_CFG_ROLE n)

/-- Role in effect: OFF unless the link holds its role (R139). -/
def linkRole (s : State) (n : Nat) : Nat := if (linkS s n).holds then linkRoleCfg s n else 0

/-- CONFIG_ERR (R113). -/
def slotErr (s : State) (n : Nat) : Bool :=
  let ty := slotType s n
  let ix := slotIndex s n
  (match ty with
   | 0 => decide (36 ≤ ix)
   | 1 => decide (6 ≤ ix) || decide (s.straps.jrole ≠ 1) || decide (linkRole s ix ≠ 1)
   | 2 => decide (ix ≠ 0)
   | _ => decide (4 ≤ ix)) ||
  (slotEn s n && (List.range n).any (fun m => slotEn s m && decide (slotType s m = ty) && decide (slotIndex s m = ix)))

/-- QUALIFIED of a slot. -/
def slotQual (s : State) (n : Nat) : Bool := getB s (Reg.SLOT_SLOT_STATUS_QUALIFIED n)

/-- PHASE_SUSPECT of a slot. -/
def slotSuspect (s : State) (n : Nat) : Bool := getB s (Reg.SLOT_SLOT_STATUS_PHASE_SUSPECT n)

/-- The conditions of R118 short of the rule on suspects. -/
def slotReady (s : State) (n : Nat) : Bool :=
  slotEn s n && !slotErr s n && slotQual s n && !getB s (Reg.SLOT_SLOT_STATUS_WTR_RUN n) && !getB s (Reg.SLOT_SLOT_CFG_LOCKOUT n)

/-- ELIGIBLE (R118): a suspect slot only when no other slot is. -/
def slotEligible (s : State) (n : Nat) : Bool :=
  slotReady s n && (!slotSuspect s n || !(List.range 8).any (fun m => slotReady s m && !slotSuspect s m))

/-- The eight slot numbers. -/
def slotNos : List Nat := List.range 8

/-- Sum of integers. -/
def sumInt (l : List Int) : Int := l.foldl (· + ·) 0

/-- Mean fractional frequency of R119: over AGREE.WIN or the seconds since qualification; the last measurement while there is no
whole second yet. -/
def slotFreq (s : State) (n : Nat) : Int :=
  let l := (slotS s n).freqs.take (getF s Reg.REF_AGREE_WIN)
  if l = [] then ((slotS s n).meas.map (·.freq)).getD 0 else roundDiv (sumInt l) l.length

/-- An offset of a slot: that of an XREF input is reduced to [-0.5, 0.5) s (R114). -/
def wrapOfs (s : State) (n : Nat) (x : Int) : Int :=
  if slotType s n = 3 then (x + 32768 * 10 ^ 9) % (65536 * 10 ^ 9) - 32768 * 10 ^ 9 else x

/-- Live frequency of a slot, its last measurement: what the selector steers on (R122). -/
def slotY (s : State) (n : Nat) : Int := ((slotS s n).meas.map (·.freq)).getD 0

/-- Offset of a slot, reference less ToD. -/
def slotOfs (s : State) (n : Nat) : Int := ((slotS s n).meas.map (·.ofs)).getD 0

/-- Mean of a slot's last `k` whole seconds, its last measurement for k = 0. -/
def meanOver (s : State) (n k : Nat) : Int :=
  if k = 0 then slotY s n else roundDiv (sumInt ((slotS s n).freqs.take k)) k

/-- Mean frequencies of a pair: over AGREE.WIN, or over the seconds since the later of the two qualified (R119). -/
def pairFreqs (s : State) (a b : Nat) : Int × Int :=
  let k := min (getF s Reg.REF_AGREE_WIN) (min (slotS s a).freqs.length (slotS s b).freqs.length)
  (meanOver s a k, meanOver s b k)

/-- Two frequencies differ by more than TOL × 10^-14 / d (R119). -/
def freqDiffers (s : State) (a b : Int) (d : Nat) : Bool :=
  decide ((getF s Reg.REF_AGREE_TOL : Nat) * 2 ^ 60 < (a - b).natAbs * d * 10 ^ 14)

/-- Two slots disagree, at a fraction 1/d of TOL (R119). -/
def pairDiffers (s : State) (a b d : Nat) : Bool :=
  let f := pairFreqs s a b
  freqDiffers s f.1 f.2 d

/-- Selected slot, from SEL_STATUS.SELECTED. -/
def selected (s : State) : Option Nat :=
  let x := getF s Reg.REF_SEL_STATUS_SELECTED
  if x < 8 then some x else none

/-- Forced slot, from SEL_STATUS.FORCE_SLOT. -/
def forced (s : State) : Option Nat :=
  let x := getF s Reg.REF_SEL_STATUS_FORCE_SLOT
  if x < 8 then some x else none

/-- Lowest of a list of naturals, none if empty. -/
def minNat (l : List Nat) : Option Nat := l.foldl (fun a x => match a with | none => some x | some y => some (min x y)) none

/-- Eligible slots of the best rank present (R120). -/
def bestGroup (s : State) : List Nat :=
  let e := slotNos.filter (slotEligible s)
  match minNat (e.map (slotRank s)) with
  | none => []
  | some r => e.filter (fun n => decide (slotRank s n = r))

/-- Some pair of a group disagrees (R119), at a fraction 1/d of TOL. -/
def groupDisagrees (s : State) (g : List Nat) (d : Nat) : Bool :=
  g.any (fun a => g.any (fun b => pairDiffers s a b d))

/-- Insert in rising order. -/
def insertInt (x : Int) : List Int → List Int
  | [] => [x]
  | y :: r => if x ≤ y then x :: y :: r else y :: insertInt x r

/-- Rising order. -/
def sortInt (l : List Int) : List Int := l.foldr insertInt []

/-- Median; of an even number the mean of the two middle values (R120). -/
def median (l : List Int) : Int :=
  let t := sortInt l
  let n := t.length
  if n % 2 = 1 then t.getD (n / 2) 0 else roundDiv (t.getD (n / 2 - 1) 0 + t.getD (n / 2) 0) 2

/-- Slot of a group nearest a frequency: ties to the current slot, then the lowest index (R120). -/
def nearest (s : State) (g : List Nat) (cur : Option Nat) (f : Int) : Option Nat :=
  let dist := fun n => (slotFreq s n - f).natAbs
  match minNat (g.map dist) with
  | none => none
  | some d =>
    let h := g.filter (fun n => decide (dist n = d))
    match cur with
    | some c => if c ∈ h then some c else h.head?
    | none => h.head?

/-- Best-ranked qualified slot outside a group, lowest index among equals: the referee (R120). -/
def referee (s : State) (g : List Nat) : Option Nat :=
  let q := slotNos.filter (fun n => slotEn s n && !slotErr s n && slotQual s n && decide (n ∉ g))
  match minNat (q.map (slotRank s)) with
  | none => none
  | some r => (q.filter (fun n => decide (slotRank s n = r))).head?

/-- Highest-ranked qualified slot (R42). -/
def topQualified (s : State) : Option Nat := referee s []

/-- The slope window restarts (R42): no evaluation passes until 600 consecutive samples have been taken. -/
def slopeRestart (s : State) : State :=
  { s with clk := { s.clk with slope := [], slopePass := 0, slopeRef := topQualified s } }

/-- A change of the highest-ranked qualified reference restarts the slope window (R42). -/
def slopeWatch (s : State) : State := if topQualified s = s.clk.slopeRef then s else slopeRestart s

/-- The choice of R120, given the current slot. -/
def chooseSlot (s : State) (cur : Option Nat) : Option Nat :=
  let g := bestGroup s
  let keep := match cur with
    | some c => if c ∈ g then some c else none
    | none => none
  match forced s with
  | some f => if slotEligible s f then some f else chooseAuto g keep
  | none => chooseAuto g keep
where
  /-- Choice without forcing. -/
  chooseAuto (g : List Nat) (keep : Option Nat) : Option Nat :=
    if g = [] then none
    else if !groupDisagrees s g 1 then (match keep with | some c => some c | none => g.head?)
    else
      match referee s g with
      | some r => nearest s g cur (slotFreq s r)
      | none => if 3 ≤ g.length then nearest s g cur (median (g.map (slotFreq s))) else keep

/-! ### Recovery window, holdover value, pending offset -/

/-- Open the recovery window (R28). -/
def openWindow (s : State) : State := setF s Reg.REF_LOSS_CTRL_WINDOW_OPEN 1

/-- Valid history entries stamped in [t - G - W, t - G) (R131). -/
def holdEntries (s : State) (t : Nat) : List Int :=
  let g : Int := getF s Reg.REF_HOLD_CFG_G_S
  let w : Int := getF s Reg.REF_HOLD_CFG_W_S
  (s.sel.hist.filter (fun e => e.valid && decide ((t : Int) - g - w ≤ e.sec) && decide ((e.sec : Int) < t - g))).map (·.word)

/-- Holdover average with its count: valid with 60 entries or more (R131). -/
def holdAverage (s : State) : Option Int × Nat :=
  let l := holdEntries s (todSec s)
  (if 60 ≤ l.length then some (roundDiv (sumInt l) l.length) else none, l.length)

/-- Publish HOLD_AVG and HOLD_N (R131). -/
def publishHold (s : State) : State :=
  let a := holdAverage s
  setF (setHL s Reg.REF_HOLD_AVG_HI Reg.REF_HOLD_AVG_LO (a.1.getD (nominal s))) Reg.REF_HOLD_N a.2

/-- TRACEABLE (R78). -/
def traceable (s : State) : Bool := decide (s.mode = .locked) && s.tim.pend.isNone && getB s Reg.TIME_STATUS_SEC_KNOWN

/-- STEP_THR in 2^-16 ns. -/
def stepThr (s : State) : Nat := getF s Reg.TIME_STEP_THR * 65536

/-- An offset is held pending (R77). -/
def setPending (s : State) (x : Int) : State :=
  let new := s.tim.pend.isNone
  raiseIf new { s with tim := { s.tim with pend := some x } } Reg.TIME_EVENTS_PENDING_SET

/-- Conditions under which the selector accepts the trims. -/
def trimsAccepted (s : State) : Bool :=
  (decide (s.mode = .locked) || decide (s.mode = .acquire)) &&
  (match selected s with | some n => !slotSuspect s n | none => false) && s.sel.sw.isNone && s.tim.pend.isNone

/-- Re-evaluate acceptance; entry into the rejecting state sets STEER_REJECTED. -/
def evalTrims (s : State) : State :=
  let was := getB s Reg.ENG_STEER_STATUS_ACCEPTED
  let is := trimsAccepted s
  raiseIf (was && !is) (setB s Reg.ENG_STEER_STATUS_ACCEPTED is) Reg.ENG_EVENTS_STEER_REJECTED

/-- The Weir takes an offset as its target, with the accepted phase trim (R69, R273); a source with seconds establishes them
(R78). -/
def giveWeir (s : State) (x : Int) (seconds : Bool) : State :=
  let lim : Int := (getF s Reg.ENG_STEER_PLIM : Nat) * 65536 / 1000
  let trim := if getB s Reg.ENG_STEER_STATUS_ACCEPTED && trimsAccepted s then clampInt (-lim) lim s.engs.ptrim else 0
  let s1 := setWeir { s with sel := { s.sel with ownWeir := x } } (x + trim)
  if seconds && decide (x.natAbs ≤ stepThr s) then setF s1 Reg.TIME_STATUS_SEC_KNOWN 1 else s1

/-- R77: an offset within STEP_THR goes to the Weir; a larger one is held pending, unless SLEW_ACCEPT has given it to the Weir, which is
still removing it (R71). -/
def takeOffset (s : State) (x : Int) (seconds : Bool) : State :=
  if s.tim.pend.isSome then setPending s x
  else if x.natAbs ≤ stepThr s then giveWeir { s with sel := { s.sel with slewing := false } } x seconds
  else if s.sel.slewing then giveWeir s x seconds
  else setPending s x

/-- The selector requests a word, with the accepted frequency trim (R46, R273). -/
def requestWord (s : State) (y : Int) : State :=
  let lim : Int := 2 ^ getF s Reg.ENG_STEER_CFG_FLIM_E
  let trim := if getB s Reg.ENG_STEER_STATUS_ACCEPTED && trimsAccepted s then clampInt (-lim) lim s.engs.ftrim else 0
  setRequest { s with sel := { s.sel with ownCw := y } } (y + trim)

/-- Whether a slot's time content includes the seconds (R78): every type but XREF. -/
def slotSeconds (s : State) (n : Nat) : Bool := slotType s n ≠ 3

/-! ### The root's input (R140, R146) -/

/-- Links that hold a role, by number. -/
def roleHolders (s : State) (role : Nat) : List Nat := (List.range 6).filter (fun n => linkRole s n = role)

/-- The mirror link (R156, R175). -/
def mirrorLink (s : State) : Option Nat := (roleHolders s 3).head?

/-- UP links that carry. -/
def upCarrying (s : State) : List Nat := (roleHolders s 1).filter (linkCarries s)

/-- Epoch `a` is higher than `b` (R164). -/
def epochAbove (a b : Nat) : Bool := decide (1 ≤ ((a : Int) - b) % 65536) && decide (((a : Int) - b) % 65536 < 32768)

/-- The better of a worker's two UP links (R140, R173): the one whose timing frames carry ACTIVE, then the higher epoch, then the first. -/
def betterUp (s : State) (a b : Nat) : Nat :=
  match (linkS s a).tf, (linkS s b).tf with
  | some x, some y =>
    if x.active ≠ y.active then (if x.active then a else b)
    else if epochAbove y.epoch x.epoch then b else a
  | none, some y => if y.active then b else a
  | _, none => a

/-- The UP link that carries and that a worker follows, of two the better one (R140). -/
def followedUp (s : State) : Option Nat :=
  match upCarrying s with
  | [] => none
  | [n] => some n
  | n :: m :: _ => some (betterUp s n m)

/-- Modes in which the loops are closed, so that a link followed under R140 takes the root without its slot being selected (DEDUCED, log entry
134). -/
def loopsClosed (s : State) : Bool :=
  match s.mode with
  | .acquire | .locked | .bench => true
  | .calibrate => decide (s.calEntry = .locked)
  | _ => false

/-- The link whose LC_156 the root takes (R140, R146, R161): in STANDBY the mirror link; while an upstream slot is selected its link, of a worker
with two UP links the one it follows; with nothing selected the one that such a worker follows. -/
def wantedFwd (s : State) : Option Nat :=
  if s.mode = .standby then (mirrorLink s).filter (linkCarries s)
  else
    let two := decide (2 ≤ (roleHolders s 1).length)
    match selected s with
    | some a => if slotType s a = 1 then (if two then followedUp s else (followedUp s).filter (fun n => n = slotIndex s a)) else none
    | none => if two && loopsClosed s then followedUp s else none

/-- The root's input changes under build-out (R146): the phase at that edge is stored, of a link's clock its θ, of OSC_IN a free value; ROOT_LOCK
stays set, or clears with every DLL gated where the phase error leaves ±10 ps (R39, R58), which the manual leaves to the part. -/
def rootInput (s : State) (v : Option Nat) : State :=
  if s.clk.rootFwd = v then s
  else
    let d := draw s
    let b := match v with
      | some n => getF s (Reg.LINK_THETA n)
      | none => (Config.freeWord d.1).toNat % 2 ^ 18
    let s1 := { d.2 with clk := { d.2.clk with rootFwd := v, buildOut := b } }
    if Config.rootHolds d.1 then s1
    else
      let s2 := gateAll (setF s1 Reg.CLK_ROOT_STATUS_ROOT_LOCK 0)
      { s2 with gauges := s2.gauges.map (fun g => { g with hold := true }) }

/-- The root takes the input it should (R140, R146). -/
def follow (s : State) : State := rootInput s (wantedFwd s)

/-! ### Modes -/

/-- Modes in which the selector selects (R24, R121). -/
def selecting (m : Mode) : Bool :=
  match m with
  | .freerun | .acquire | .locked | .holdover | .calibrate | .bench => true
  | _ => false

/-- The mode holds the NOMINAL value as its request (R24, R30, R129). -/
def holdsNominal (s : State) : Bool :=
  match s.mode with
  | .config => !s.clk.cwHeld
  | .freerun => true
  | .acquire => (selected s).isNone && s.sel.sw.isNone && !s.sel.keepAvg
  | .holdover => getB s Reg.REF_LOSS_CTRL_NO_HISTORY
  | .calibrate => decide (s.calEntry ≠ .locked)
  | _ => false

/-- The mode changes; in STANDBY the control word follows no request (R161, R163). -/
def setMode (s : State) (m : Mode) : State := { s with mode := m, clk := { s.clk with cwHeld := decide (m = .standby) } }

/-- Leaving CONFIG takes DISCIPLINE (R65) and starts the provisional outputs (R74). -/
def leaveConfig (s : State) : State := startProvisional (takeDiscipline s (getB s Reg.TIME_TOD_CTRL_DISCIPLINE))

/-- What a mode entered from `from_` brings: ACQUIRE from any mode but CONFIG opens the recovery window (R28) and from HOLDOVER keeps the
average (R120); LOCKED clears NO_HISTORY (R30). -/
def modeEntered (s : State) (from_ m : Mode) : State :=
  match m with
  | .acquire =>
    let s1 := { s with sel := { s.sel with keepAvg := decide (from_ = .holdover) || decide (from_ = .timekeep) } }
    if from_ = .config then s1 else openWindow s1
  | .locked => setF { s with sel := { s.sel with coast := none } } Reg.REF_LOSS_CTRL_NO_HISTORY 0
  | _ => s

/-- Enter a mode (R25); the trims' acceptance follows it (R273). -/
def enterMode (s : State) (m : Mode) : State :=
  let s1 := setMode s m
  let s2 := if s.mode = .config ∧ m ≠ .config ∧ m ≠ .fault ∧ m ≠ .reset then leaveConfig s1 else s1
  evalTrims (modeEntered s2 s.mode m)

/-- FREERUN: the control word goes to NOMINAL (R27, R129). -/
def enterFreerun (s : State) : State := requestWord (enterMode s .freerun) (nominal s)

/-- HOLDOVER on the average, local or mirrored, or on NOMINAL with NO_HISTORY (R30, R131). -/
def enterHoldover (s : State) : State :=
  let s0 := publishHold s
  let a := (holdAverage s).1
  let s1 := enterMode { s0 with sel := { s0.sel with holdVal := a, specOver := false } } .holdover
  match a with
  | some v => requestWord s1 v
  | none => requestWord (setF s1 Reg.REF_LOSS_CTRL_NO_HISTORY 1) (nominal s)

/-- A slot was qualified just before the present instant: it is, or it lost qualification on this tick (R132). -/
def qualBefore (s : State) (n : Nat) : Bool := slotQual s n || decide ((slotS s n).lostAt = some s.now)

/-- Begin a coast: predictions for every slot qualified just before the loss, and for the slot `lost` (R132). -/
def beginCoast (s : State) (lost : Option Nat) : State :=
  let s1 := { s with sel := { s.sel with coast := some {} } }
  slotNos.foldl (fun t n => updSlot t n (fun o =>
    { o with pred := if (qualBefore s n || decide (lost = some n)) && o.meas.isSome then some (slotOfs s n, slotFreq s n) else none })) s1

/-- Abandon the calibration run list, with its queued Berm windows (R287). -/
def abandonCal (s : State) : State :=
  let gone := s.ports.bermQ.filter (fun q => q.cal)
  let s1 := gone.foldl (fun t q => setF t (Reg.PORT_TT_STATUS_BERM_WAIT q.port) 0) s
  raise { s1 with cal := { s1.cal with run := [], tries := 0 }, ports := { s1.ports with bermQ := s1.ports.bermQ.filter (fun q => !q.cal) } }
    Reg.CAL_EVENTS_ABANDONED

/-- Nothing is selected and no switch runs. -/
def dropSelection (s : State) : State :=
  let s1 := { s with sel := { s.sel with sw := none, slewing := false } }
  let s2 := setF (setF s1 Reg.REF_SEL_STATUS_SELECTED 0xF) Reg.REF_SEL_STATUS_TARGET 0xF
  setF (setF s2 Reg.REF_SEL_STATUS_SWITCHING 0) Reg.REF_SEL_STATUS_COMMITTED 0

/-- The mode that R27 chooses: true for HOLDOVER. -/
def lossToHoldover (s : State) : Bool :=
  match getF s Reg.REF_LOSS_CTRL_POLICY with
  | 1 => false
  | 2 => true
  | _ => decide (s.mode = .acquire) || decide (s.mode = .calibrate) || getB s Reg.REF_LOSS_CTRL_WINDOW_OPEN

/-- Loss of all references (R27, R76, R77): TRACEABLE clears, a pending offset clears, the coast begins, and the mode and the
control word follow POLICY; in BENCH the mode stays, and with it NO_HISTORY, which R30 gives to HOLDOVER. -/
def lossOfAll (s : State) (lost : Option Nat) : State :=
  let hold := lossToHoldover s
  let s1 := raise (dropSelection (beginCoast s lost)) Reg.TIME_EVENTS_TRACE_LOST
  let s2 := rootInput { s1 with tim := { s1.tim with pend := none } } none
  if s2.mode = .bench then
    let s3 := publishHold s2
    requestWord s3 (if hold then (holdAverage s2).1.getD (nominal s3) else nominal s3)
  else
    let s3 := if s2.mode = .calibrate then abandonCal s2 else s2
    if hold then enterHoldover s3 else enterFreerun s3

/-! ### Steering and switching -/

/-- Ticks of the switch window (R122). A write of WINDOW_MS while a switch runs changes the running window and its blend at once (DESIGN
CHOICE, log entry 121: the manual does not say whether WINDOW is taken at the start S). -/
def windowTicks (s : State) : Nat := getF s Reg.REF_SEL_SWITCH_WINDOW_MS * 625000

/-- What an offset has gained at frequency `y` since the integrals began, in 2^-16 ns: 1.6 ns per tick, less what the Weir and
steps have added to the ToD (R122, R132). -/
def coastGain (c : Coast) (y : Int) : Int := (y * c.ticks * cwUnit - c.cSum) * 524288 / (5 * 2 ^ 60 * cwUnit) - c.w / 2 ^ 40

/-- Source phase and frequency of a switch: live measurements, or extrapolated from the last ones (R122). -/
def switchSource (s : State) (w : Switch) : Int × Int :=
  match w.live, selected s with
  | true, some a => (slotOfs s a, slotY s a)
  | _, _ => (w.xFrom + coastGain w.run w.yFrom, w.yFrom)

/-- From here on the source of a switch is extrapolated (R122). -/
def freezeSwitch (s : State) (w : Switch) : Switch :=
  let src := switchSource s w
  if w.live then { w with live := false, xFrom := src.1, yFrom := src.2, run := {} } else w

/-- The blend of R122. -/
def blend (s : State) (w : Switch) : Int × Int :=
  let win : Int := windowTicks s
  let e : Int := min ((s.now - w.start : Nat) : Int) win
  let src := switchSource s w
  let mix := fun (a b : Int) => if win = 0 then b else ((win - e) * a + e * b) / win
  (mix src.1 (slotOfs s w.b - w.bOut), mix src.2 (slotY s w.b))

/-- Present steering phase and frequency: the blend while a switch runs, else the selected slot (R122). -/
def steering (s : State) : Option (Int × Int) :=
  match s.sel.sw with
  | some w => some (blend s w)
  | none => (selected s).map (fun n => (slotOfs s n, slotY s n))

/-- The phase of slot n is withheld from the Weir: it is pending (R77), or that of a suspect slot within STEP_THR (R133), unless SLEW_ACCEPT
gave it to the Weir. -/
def phaseWithheld (s : State) (n : Nat) : Bool := s.tim.pend.isSome || (slotSuspect s n && !s.sel.slewing)

/-- Start a switch toward b from a source phase and frequency (R122); `fo` tells a source whose phase the Weir was not given. -/
def startSwitch (s : State) (b : Nat) (src : Int × Int) (live fo : Bool) : State :=
  let w : Switch := { b := b, xFrom := src.1, yFrom := src.2, bOut := slotOfs s b - src.1, start := s.now, live := live, freqOnly := fo }
  let s1 := { s with sel := { s.sel with sw := some w, slewing := false } }
  setF (setF (setF s1 Reg.REF_SEL_STATUS_SWITCHING 1) Reg.REF_SEL_STATUS_COMMITTED 0) Reg.REF_SEL_STATUS_TARGET b

/-- End a switch without completing it (R125, R126). -/
def abortSwitch (s : State) : State :=
  let s1 := { s with sel := { s.sel with sw := none } }
  raise (setF (setF (setF s1 Reg.REF_SEL_STATUS_SWITCHING 0) Reg.REF_SEL_STATUS_COMMITTED 0) Reg.REF_SEL_STATUS_TARGET 0xF)
    Reg.REF_SEL_EVENTS_SWITCH_ABORTED

/-- The jump of R133 for a slot with a prediction: measured less predicted, in 2^-16 ns. -/
def slotJump (s : State) (n : Nat) (x : Int) : Option Int :=
  match (slotS s n).pred, s.sel.coast with
  | some p, some c => some (wrapOfs s n (x - (p.1 + coastGain c p.2)))
  | _, _ => none

/-- JUMP in ps from 2^-16 ns, saturating (R138). -/
def jumpPs (j : Int) : Int := clampInt (-(2 ^ 31 - 1)) (2 ^ 31 - 1) (roundDiv (j * 1000) 65536)

/-- Jump test (R133): publishes J; above JUMP_THR the slot becomes PHASE_SUSPECT. -/
def jumpTest (s : State) (n : Nat) (x : Int) : State :=
  match slotJump s n x with
  | none => s
  | some j =>
    let s1 := setF s (Reg.SLOT_JUMP n) (twos 32 (jumpPs j))
    if getF s Reg.REF_JUMP_THR * 65536 < j.natAbs * 1000 ∧ slotSuspect s n = false then
      raise (setF s1 (Reg.SLOT_SLOT_STATUS_PHASE_SUSPECT n) 1) Reg.REF_SEL_EVENTS_SUSPECT_SET
    else s1

/-- The choice made with nothing selected, each candidate tested for its jump first (R128, R133): a test may make it suspect, and the choice
is made again, at most once for each slot. -/
def testedChoice : Nat → State → State × Option Nat
  | 0, s => (s, chooseSlot s none)
  | k + 1, s =>
    match chooseSlot s none with
    | none => (s, none)
    | some b =>
      let t := jumpTest s b (slotOfs s b)
      if slotSuspect t b = slotSuspect s b then (t, some b) else testedChoice k t

/-- A selection made while nothing is selected and nothing steers (R128): the offset goes to R77; the first triggers the first
alignment (R74). -/
def selectDirect (s : State) (b : Nat) : State :=
  let s1 := setF { s with sel := { s.sel with slewing := false } } Reg.REF_SEL_STATUS_SELECTED b
  let s2 := requestWord (follow s1) (slotY s b)
  let x := slotOfs s b
  let s3 := if slotSuspect s b && decide (x.natAbs ≤ stepThr s) then s2 else takeOffset s2 x (slotSeconds s b)
  let s4 := if s.sel.everSelected then s3 else firstAlign s3 (-x) 0 0 false
  { s4 with sel := { s4.sel with everSelected := true, coast := none } }

/-- A slot other than `n` or none is a qualified slot that is not suspect (R136). -/
def cleanQualified (s : State) : Bool := slotNos.any (fun n => slotEn s n && slotQual s n && !slotSuspect s n)

/-- R136: in LOCKED the last clean qualified slot is lost; the remaining suspect slots count as qualifying on the next evaluation. -/
def suspectLoss (s : State) (a : Nat) : State :=
  let t := lossOfAll s (some a)
  { t with sel := { t.sel with elig := [] } }

/-- A switch from a to b is caused by a gain, which the hold-off delays (R121): b became eligible since the last switch began, or has the
better rank and is not forced. -/
def gainSwitch (s : State) (a b : Nat) : Bool :=
  decide (b ∈ s.sel.gained) || (decide (forced s ≠ some b) && decide (slotRank s b < slotRank s a))

/-- A reference lost while an offset is pending: the offset clears (R77). -/
def dropPending (s : State) : State := { s with tim := { s.tim with pend := none } }

/-- A switch to b in place of a lost slot, extrapolated from the phase and frequency `src` (R121, R122). -/
def switchLost (s : State) (b : Nat) (src : Int × Int) (fo : Bool) : State := startSwitch (dropPending s) b src false fo

/-- A switch from the selected slot a, which is measured on while it is qualified and extrapolated once it is lost (R122). -/
def switchFrom (s : State) (a b : Nat) : State :=
  let src := (slotOfs s a, slotY s a)
  if slotQual s a then startSwitch s b src true (phaseWithheld s a) else switchLost s b src (phaseWithheld s a)

/-- R121 with no switch running; in LOCKED the loss of the last clean slot is that of all, whatever the remaining suspects are (R136). -/
def settleChoice (s : State) : State :=
  match selected s with
  | none =>
    match testedChoice 8 s with
    | (t, some b) => selectDirect t b
    | (t, none) => t
  | some a =>
    if s.mode = .locked ∧ !cleanQualified s then suspectLoss s a
    else
      match chooseSlot s (some a) with
      | some b =>
        if b = a ∨ (slotEligible s a = true ∧ s.sel.holdOff = true ∧ gainSwitch s a b = true) then s else switchFrom s a b
      | none => if slotEligible s a then s else lossOfAll s (some a)

/-- The source of a switch is lost before the commit: the switch goes on with the source extrapolated (R125), and an offset pending
on the lost slot clears (R77). -/
def sourceLost (s : State) : State :=
  match s.sel.sw, selected s with
  | some w, some a =>
    if w.live && !slotQual s a then dropPending { s with sel := { s.sel with sw := some (freezeSwitch s w) } } else s
  | _, _ => s

/-- A switch aborted before its commit (R125): steering returns to the source. A source lost before, or a frozen blend (R126), is no
slot's own phase, so R121 chooses again from there. -/
def abortTo (s : State) (w : Switch) : State :=
  let s1 := abortSwitch s
  if w.live then settleChoice s1
  else
    match chooseSlot s1 (selected s1) with
    | some c => switchLost s1 c (switchSource s w) w.freqOnly
    | none => lossOfAll s1 (some w.b)

/-- The choice while the switch w runs (R121, R125, R126, R136). -/
def switchChoice (s : State) (w : Switch) : State :=
  if s.mode = .locked ∧ !cleanQualified s then suspectLoss s w.b
  else
    let ch := chooseSlot s (some w.b)
    if !slotEligible s w.b then
      if w.committed then
        match ch with
        | some c => switchLost s c (blend s w) w.freqOnly
        | none => lossOfAll s (some w.b)
      else abortTo s w
    else
      match ch with
      | some c =>
        if c ≠ w.b ∧ !w.committed then startSwitch (abortSwitch s) c (blend s w) false w.freqOnly
        else s
      | none => s

/-- The choice of R120 and what follows from it, a switch running or not (R121, R125, R126). -/
def applyChoice (s : State) : State :=
  let t := sourceLost s
  match t.sel.sw with
  | some w => switchChoice t w
  | none => settleChoice t

/-- The eligible slots are noted, and those that became so while a switch or its hold-off runs (R118, R121, R127). -/
def noteEligible (s : State) : State :=
  let now := slotNos.filter (slotEligible s)
  let got := if s.sel.sw.isSome || s.sel.holdOff then
      now.filter (fun n => decide (n ∈ s.sel.gained) || decide (n ∉ s.sel.elig)) else []
  { s with sel := { s.sel with elig := now, gained := got } }

/-- One application of R121. In FREERUN and HOLDOVER a slot that becomes eligible moves the device to ACQUIRE (R25); one that was
eligible before does not. CALIBRATE leaves the loops as in the mode of entry (R24): entered from CONFIG or FREERUN it selects nothing. -/
def reselect (s00 : State) : State :=
  let fresh := slotNos.any (fun n => slotEligible s00 n && decide (n ∉ s00.sel.elig))
  let s0 := noteEligible s00
  let idle := decide (s0.mode = .freerun) || decide (s0.mode = .holdover)
  if !selecting s0.mode || (idle && !fresh) || (decide (s0.mode = .calibrate) && decide (s0.calEntry ≠ .locked)) then s0
  else applyChoice (if idle then enterMode s0 .acquire else s0)

/-! ### Trims (R273) -/

/-- Both trims become zero (R274); the word and the Weir return to the selector's own values. -/
def clearTrims (s : State) : State :=
  let s1 := { s with engs := { s.engs with ftrim := 0, ptrim := 0 } }
  if getB s Reg.ENG_STEER_STATUS_ACCEPTED then
    let s2 := if s.engs.ftrim ≠ 0 then setRequest s1 s.sel.ownCw else s1
    if s.engs.ptrim ≠ 0 then setWeir s2 s.sel.ownWeir else s2
  else s1

/-- Slot n is a port whose phase word is STALE (R105). -/
def slotStale (s : State) (n : Nat) : Bool := decide (slotType s n = 0) && getB s (Reg.PORT_PHASE_STALE (slotIndex s n))

/-- The selector coasts the control word: what it would steer on, the selected slot or one of a running switch, is a STALE word (R105). -/
def steerHolds (s : State) : Bool :=
  (match selected s with | some n => slotStale s n | none => false) || (match s.sel.sw with | some w => slotStale s w.b | none => false)

/-- Steer on the present phase and frequency (R122, R77, R134), unless it is STALE (R105): a pending offset is refreshed, in a switch from the blend; one of a suspect slot
within STEP_THR is withheld from the Weir, and so is the blend of a switch away from a slot whose phase the Weir was not given: at w = 0
neither the Weir target nor the control word steps. -/
def steer (s : State) : State :=
  match (if steerHolds s then none else steering s) with
  | none => s
  | some (x, y) =>
    let s1 := requestWord s y
    match s.sel.sw, selected s with
    | none, some n =>
      if slotSuspect s n && s.tim.pend.isNone && !s.sel.slewing && decide (x.natAbs ≤ stepThr s) then s1
      else takeOffset s1 x (slotSeconds s n)
    | some w, _ => if s.tim.pend.isSome then setPending s1 x else if w.freqOnly then s1 else giveWeir s1 x false
    | none, none => s1

/-! ### Meanings -/

/-- A slot's source may qualify in the present mode and power state (R22, R115, R138). -/
def slotMayQualify (s : State) (n : Nat) : Bool :=
  (match s.mode with
   | .reset | .boot | .fault | .timekeep => false
   | .bench => decide (slotType s n ≠ 0)
   | _ => true) &&
  (match slotType s n with
   | 0 => powered s (portDomain (slotIndex s n))
   | 1 => powered s .jieth
   | 2 => powered s .gnss
   | _ => true)

/-- No loss condition of R115 that the state shows is present: of a port its VALID phase and four Sync intervals, of a link its clock, of
GNSS its solution. -/
def srcClear (s : State) (n : Nat) : Bool :=
  let ix := slotIndex s n
  slotEn s n && !slotErr s n && slotMayQualify s n &&
  (match slotType s n with
   | 0 => getB s (Reg.PORT_PHASE_VALID ix) && decide ((portS s ix).quiet < 4)
   | 1 => getB s (Reg.LINK_LINK_STATUS_FWD_CLK_OK ix) && linkCarries s ix
   | 2 => getB s Reg.GNSS_STATUS_SOL_VALID
   | _ => true)

/-- A measurement of a source with no loss condition sets SRC_VALID; the seconds of qualification begin with it (R115, R138). -/
def sourceSeen (s : State) (n : Nat) : State :=
  if srcClear s n && !getB s (Reg.SLOT_SLOT_STATUS_SRC_VALID n) then
    setF (if slotQual s n then s else setF s (Reg.SLOT_SLOT_STATUS_TIMER_S n) (getF s Reg.REF_SEL_TIMERS_QUAL_S))
      (Reg.SLOT_SLOT_STATUS_SRC_VALID n) 1
  else s

/-- A slot's measurement as the state holds it: of a port the published OFFSET, port less master, with its sign turned, and the frequency
of its phase words (R81, R90); of an upstream the offset and frequency of its link (R146); of GNSS the published offset (R257). What the state
does not hold yet is what the command brings. -/
def heldMeas (s : State) (n : Nat) (u : SlotMeas) : SlotMeas :=
  let ix := slotIndex s n
  match slotType s n with
  | 0 => { u with ofs := ((portS s ix).ofs.map (fun x => -x)).getD u.ofs, freq := (portS s ix).freq.getD u.freq }
  | 1 => { u with ofs := (linkS s ix).ofs.getD u.ofs, freq := (linkS s ix).freq.getD u.freq }
  | 2 => { u with ofs := s.gnss.ofs.getD u.ofs }
  | _ => { u with ofs := wrapOfs s n u.ofs, ofs10 := wrapOfs s n u.ofs10 }

/-- Store one slot's measurement in its registers (R138): FREQ is the mean of R119 for a qualified slot. -/
def storeMeas (s : State) (n : Nat) (m : Option SlotMeas) : State :=
  match m with
  | none => if slotQual s n then s else setHL s (Reg.SLOT_FREQ_HI n) (Reg.SLOT_FREQ_LO n) 0
  | some u =>
    let v := heldMeas s n u
    let s1 := sourceSeen (updSlot s n (fun o => { o with meas := some v })) n
    setHL (setHL s1 (Reg.SLOT_FREQ_HI n) (Reg.SLOT_FREQ_LO n) (if slotQual s n then slotFreq s1 n else v.freq))
      (Reg.SLOT_OFS_HI n) (Reg.SLOT_OFS_LO n) v.ofs

/-- R135: PHASE_SUSPECT clears on the slots of a list. -/
def clearSuspect (s : State) (l : List Nat) : State :=
  let hit := l.any (slotSuspect s)
  raiseIf hit (l.foldl (fun t n => setF t (Reg.SLOT_SLOT_STATUS_PHASE_SUSPECT n) 0) s) Reg.REF_SEL_EVENTS_SUSPECT_CLEARED

/-- R135: a suspect slot confirmed within 1 ns by a qualified slot that is not suspect. -/
def confirmSuspects (s : State) : State :=
  let ofs10 := fun n => ((slotS s n).meas.map (·.ofs10)).getD 0
  let ok := slotNos.filter (fun n => slotSuspect s n && slotNos.any (fun m =>
    slotQual s m && !slotSuspect s m && decide ((ofs10 m - ofs10 n).natAbs ≤ 65536)))
  clearSuspect s ok

/-- Slot n is one of a disagreeing pair of eligible slots of one rank (R119). -/
def slotDisagrees (s : State) (n : Nat) : Bool :=
  slotEligible s n && slotNos.any (fun m => slotEligible s m && decide (slotRank s m = slotRank s n) && pairDiffers s n m 1)

/-- REF_DISAGREE (R119): sets when a pair of the best-ranked slots disagrees, clears when every such pair lies within half of TOL; each slot
of a disagreeing pair shows it. -/
def evalDisagree (s : State) : State :=
  let g := bestGroup s
  let was := getB s Reg.REF_SEL_STATUS_DISAGREE
  let on := groupDisagrees s g 1
  let off := !groupDisagrees s g 2
  let s1 := slotNos.foldl (fun t n => setB t (Reg.SLOT_SLOT_STATUS_DISAGREE n) (slotDisagrees s n)) s
  let s2 := setB s1 Reg.REF_SEL_STATUS_DISAGREE (on || (was && !off))
  raiseIf (on && !was) s2 Reg.REF_SEL_EVENTS_DISAGREE_SET

/-- Raise event bit `b` of every running user engine (R270). -/
def engEvent (s : State) (b : Nat) : State :=
  { s with engs := { s.engs with eng := s.engs.eng.map (fun e => { e with ev := e.ev ||| BitVec.ofNat 8 (2 ^ b) }) } }

/-- ACQUIRE passes to LOCKED (R25, R44, R78, R134): the selector declares lock, TB_WARM is high, nothing is pending or suspect. -/
def tryLock (s : State) : State :=
  let d := draw s
  if s.mode = .acquire ∧ s.sel.sw.isNone ∧ s.tim.pend.isNone ∧ getB s Reg.CLK_ROOT_STATUS_TB_WARM = true then
    match selected s with
    | some n => if slotSuspect s n then s else if Config.lockDeclared d.1 then enterMode d.2 .locked else d.2
    | none => s
  else s

/-- SELECTOR_EVALUATION (R121): measurements, disagreement, confirmation, choice, steering, lock. -/
def execSelectorEvaluation (meas : List (Option SlotMeas)) (s : State) : Host.Outcome State Fault Refusal :=
  if !powered s .eng || (!selecting s.mode && s.mode ≠ .standby && s.mode ≠ .config) then ok s
  else
    let s1 := slotNos.foldl (fun t n => storeMeas t n (meas.getD n none)) s
    let s2 := perf (engEvent s1 3) 0x44 0x23 0 0 1
    if !selecting s.mode then ok s2
    else ok (tryLock (steer (evalTrims (reselect (confirmSuspects (evalDisagree s2))))))

/-- SLOT_QUALIFIED (R115, R117, R133). -/
def execSlotQualified (n : Nat) (m : SlotMeas) (s : State) : Host.Outcome State Fault Refusal :=
  if 8 ≤ n then .fault .noSuchResource
  else if slotQual s n || !srcClear s n || decide (19 * 2 ^ 60 < m.freq.natAbs * 10 ^ 6) then ok s
  else
    let wtr := (slotS s n).lostOnce && decide (getF s Reg.REF_SEL_TIMERS_WTR_S ≠ 0)
    let s1 := updSlot s n (fun o => { o with meas := some m, secs := 0, freqs := [], incons := 0, lostAt := none })
    let s2 := setF (setF s1 (Reg.SLOT_SLOT_STATUS_QUALIFIED n) 1) (Reg.SLOT_SLOT_STATUS_SRC_VALID n) 1
    let s3 := if wtr then setF (setF s2 (Reg.SLOT_SLOT_STATUS_WTR_RUN n) 1) (Reg.SLOT_SLOT_STATUS_TIMER_S n) (getF s Reg.REF_SEL_TIMERS_WTR_S)
      else setF s2 (Reg.SLOT_SLOT_STATUS_TIMER_S n) 0
    let s4 := storeMeas s3 n (some m)
    ok (reselect (slopeWatch (jumpTest s4 n (slotOfs s4 n))))

/-- A slot loses qualification (R115, R117, R134). -/
def loseSlot (s : State) (n : Nat) (count : Bool) : State :=
  if !slotQual s n then s
  else
    let s1 := updSlot s n (fun o => { o with lostOnce := o.lostOnce || count, lostAt := some s.now, incons := 0 })
    let s2 := setF (setF (setF s1 (Reg.SLOT_SLOT_STATUS_QUALIFIED n) 0) (Reg.SLOT_SLOT_STATUS_WTR_RUN n) 0)
      (Reg.SLOT_SLOT_STATUS_PHASE_SUSPECT n) 0
    slopeWatch (setF s2 (Reg.SLOT_SLOT_STATUS_TIMER_S n) (getF s Reg.REF_SEL_TIMERS_QUAL_S))

/-- Some slots lose qualification: QUAL_LOST is set and the selector evaluates at once (R115, R121). -/
def loseSlots (s : State) (l : List Nat) : State :=
  if l = [] then s else reselect (raise (l.foldl (fun t n => loseSlot t n true) s) Reg.REF_SEL_EVENTS_QUAL_LOST)

/-- Every slot that names a source loses it, and the selector evaluates at once (R115, R121). -/
def loseSource (s : State) (ty ix : Nat) : State :=
  let l := slotNos.filter (fun n => slotEn s n && decide (slotType s n = ty) && decide (slotIndex s n = ix))
  let s1 := l.foldl (fun t n => setF t (Reg.SLOT_SLOT_STATUS_SRC_VALID n) 0) s
  loseSlots s1 (l.filter (slotQual s))

/-- A change of source (R113): for the selected slot, or one of a running switch, it counts as its loss, with the measurements it had; then
qualification starts afresh with no wait-to-restore. -/
def slotRestart (s : State) (n : Nat) : State :=
  let s1 := reselect (raiseIf (slotQual s n) (loseSlot s n false) Reg.REF_SEL_EVENTS_QUAL_LOST)
  let s2 := updSlot s1 n (fun o => { o with lostOnce := false, meas := none, freqs := [], secs := 0, incons := 0 })
  setF (setF s2 (Reg.SLOT_SLOT_STATUS_SRC_VALID n) 0) (Reg.SLOT_SLOT_STATUS_TIMER_S n)
    (if slotEn s n then getF s Reg.REF_SEL_TIMERS_QUAL_S else 0)

/-- Restart every slot that names a source. -/
def restartSource (s : State) (ty ix : Nat) : State :=
  (slotNos.filter (fun n => slotEn s n && decide (slotType s n = ty) && decide (slotIndex s n = ix))).foldl slotRestart s

/-- SLOT_QUAL_LOST (R115): SRC_VALID clears with a loss condition; exceeding 20 × 10^-6 is not one. -/
def execSlotQualLost (n : Nat) (cause : LossCause) (s : State) : Host.Outcome State Fault Refusal :=
  if 8 ≤ n then .fault .noSuchResource
  else
    let s1 := if cause = .frequency then s else setF s (Reg.SLOT_SLOT_STATUS_SRC_VALID n) 0
    ok (if slotQual s n then loseSlots s1 [n] else setF s1 (Reg.SLOT_SLOT_STATUS_TIMER_S n) (getF s Reg.REF_SEL_TIMERS_QUAL_S))

/-- The slot that GNSS is compared with (R116): the selected one, not GNSS, qualified and not suspect. -/
def gnssPeer (s : State) : Option Nat :=
  (selected s).filter (fun a => decide (slotType s a ≠ 2) && slotQual s a && !slotSuspect s a)

/-- The GNSS slot n differs from its comparison slot by more than GNSS_CONS (R116). -/
def gnssDiffers (s : State) (n : Nat) : Bool :=
  decide (slotType s n = 2) &&
  (match gnssPeer s with
   | some a => decide (getF s Reg.REF_GNSS_CONS * 65536 < (slotOfs s n - slotOfs s a).natAbs * 1000)
   | none => false)

/-- A second of a GNSS slot's comparison (R116): with no comparison slot it neither counts nor breaks the run. -/
def gnssSecond (s : State) (n : Nat) : State :=
  if slotType s n = 2 ∧ slotQual s n = true ∧ (gnssPeer s).isSome = true then
    updSlot s n (fun o => { o with incons := if gnssDiffers s n then o.incons + 1 else 0 })
  else s

/-- GNSS_INCONS (R116): ten consecutive inconsistent seconds against the selected slot disqualify the GNSS slot. -/
def execGnssIncons (n : Nat) (s : State) : Host.Outcome State Fault Refusal :=
  if 8 ≤ n then .fault .noSuchResource
  else
    if slotType s n = 2 ∧ slotQual s n = true ∧ 10 ≤ (slotS s n).incons then ok (loseSlots (raise s Reg.REF_SEL_EVENTS_GNSS_INCONS) [n])
    else ok s

/-- The 1 s mean frequency of a qualified slot exceeds 20 × 10^-6 (R115). -/
def freqBad (s : State) (n : Nat) : Bool := slotQual s n && decide (20 * 2 ^ 60 < (slotY s n).natAbs * 10 ^ 6)

/-- One second of a slot: of a qualified one its once-per-second frequency and its wait-to-restore; of another the seconds of
qualification, which start again in a second with a loss condition, a frequency beyond 19 × 10^-6 or an inconsistency (R115 to R117,
R119). -/
def slotSecond (s : State) (n : Nat) : State :=
  let t := getF s (Reg.SLOT_SLOT_STATUS_TIMER_S n)
  let clear := getB s (Reg.SLOT_SLOT_STATUS_SRC_VALID n) && decide ((slotY s n).natAbs * 10 ^ 6 ≤ 19 * 2 ^ 60) && !gnssDiffers s n
  if slotQual s n then
    updSlot (setF s (Reg.SLOT_SLOT_STATUS_TIMER_S n) (t - 1)) n (fun o =>
      { o with secs := o.secs + 1, freqs := (match o.meas with | some m => (m.freq :: o.freqs).take 3600 | none => o.freqs) })
  else if slotEn s n && !slotErr s n then setF s (Reg.SLOT_SLOT_STATUS_TIMER_S n) (if clear then t - 1 else getF s Reg.REF_SEL_TIMERS_QUAL_S)
  else s

/-- One second of the selector's slots (R115 to R119): frequencies and timers, the comparison of GNSS, and the disqualification of a slot
whose frequency is out of range. -/
def slotsSecond (s : State) : State :=
  let t := slotNos.foldl slotSecond (slotNos.foldl gnssSecond s)
  loseSlots t (slotNos.filter (freqBad t))

/-- WTR_EXPIRY (R117). -/
def execWtrExpiry (n : Nat) (s : State) : Host.Outcome State Fault Refusal :=
  if 8 ≤ n then .fault .noSuchResource
  else if getB s (Reg.SLOT_SLOT_STATUS_WTR_RUN n) then
    ok (reselect (setF (setF s (Reg.SLOT_SLOT_STATUS_WTR_RUN n) 0) (Reg.SLOT_SLOT_STATUS_TIMER_S n) 0))
  else ok s

/-- RECOVERY_WINDOW_CLOSE (R28). -/
def execRecoveryWindowClose (s : State) : Host.Outcome State Fault Refusal :=
  ok (setF s Reg.REF_LOSS_CTRL_WINDOW_OPEN 0)

/-- SWITCH_COMMIT (R123): the source slot is released; a loss of b is applied first. -/
def execSwitchCommit (s : State) : Host.Outcome State Fault Refusal :=
  match s.sel.sw with
  | none => ok s
  | some w =>
    if w.committed then ok s
    else if !slotEligible s w.b then ok (reselect s)
    else
      ok (setF { s with sel := { s.sel with sw := some { freezeSwitch s w with committed := true } } } Reg.REF_SEL_STATUS_COMMITTED 1)

/-- Slot b is selected, the hold-off starts (R122). -/
def switchSelect (s : State) (b : Nat) : State :=
  let s1 := setF (setF (setF (setF { s with sel := { s.sel with sw := none, holdOff := true } } Reg.REF_SEL_STATUS_SWITCHING 0)
    Reg.REF_SEL_STATUS_COMMITTED 0) Reg.REF_SEL_STATUS_TARGET 0xF) Reg.REF_SEL_STATUS_SELECTED b
  let s2 := raise (follow s1) Reg.REF_SEL_EVENTS_SWITCHED
  requestWord s2 (slotY s2 b)

/-- B is handled as a returned offset under R77 (R124): above STEP_THR x_b is pending; else steering moves to x_b, which R77 classifies as
in steady steering, so that a pending offset stays pending; a suspect slot's is withheld within STEP_THR (R133). -/
def switchOffset (s : State) (b : Nat) (bOut ofs : Int) : State :=
  if stepThr s < bOut.natAbs then setPending s ofs
  else if slotSuspect s b && s.tim.pend.isNone && decide (ofs.natAbs ≤ stepThr s) then s
  else takeOffset s ofs (slotSeconds s b)

/-- SWITCH_WINDOW_END (R122, R124): b is selected; B is handled as a returned offset; the hold-off starts. -/
def execSwitchWindowEnd (m : SlotMeas) (s : State) : Host.Outcome State Fault Refusal :=
  match s.sel.sw with
  | none => ok s
  | some w =>
    if w.committed then
      let t := storeMeas s w.b (some m)
      ok (switchOffset (switchSelect t w.b) w.b w.bOut (slotOfs t w.b))
    else ok s

/-- HOLD_OFF_END (R121, R127). -/
def execHoldOffEnd (s : State) : Host.Outcome State Fault Refusal :=
  if s.sel.holdOff then ok (reselect { s with sel := { s.sel with holdOff := false, gained := [] } }) else ok s

/-- HISTORY_RECORD (R130, R131): once per second; valid when for the whole second a qualified slot steered in ACQUIRE, LOCKED or
CALIBRATE with nothing pending; in every mode in which the selector runs. In HOLDOVER HOLD_AVG and HOLD_N are frozen. -/
def execHistoryRecord (wholeSecond : Bool) (s : State) : Host.Outcome State Fault Refusal :=
  if !powered s .eng || (!selecting s.mode && s.mode ≠ .standby && s.mode ≠ .config) then ok s
  else
    let steers := (match selected s with | some n => slotQual s n | none => false) || s.sel.sw.isSome
    let v := wholeSecond && steers && s.tim.pend.isNone &&
      (decide (s.mode = .acquire) || decide (s.mode = .locked) || decide (s.mode = .calibrate))
    let e : HistEntry := ⟨todSec s, cwNow s, v⟩
    let s1 := { s with sel := { s.sel with hist := (e :: s.sel.hist).take 7200 } }
    ok (if s.mode = .holdover then s1 else publishHold s1)

/-- HOLD_SPEC_EXPIRY (R94): HOLDOVER has lasted longer than HOLD_SPEC. -/
def execHoldSpecExpiry (s : State) : Host.Outcome State Fault Refusal :=
  if s.mode = .holdover then ok { s with sel := { s.sel with specOver := true } } else ok s

end Sys2Proof.Machine
end

