-- ==== Sys2Proof/Machine/JiethPhy.lean ====
section
/-! DEFINITION. The Jieth block stream (R213 to R219): Gray map and precoder, block striping, headers and their parity, frames and their CRC,
LINK payloads, markers with their alignment words, timing records. A block is an 8-bit header and a 256-bit payload, as numbers. -/

namespace Sys2Proof.Machine

/-! ### Symbols (R213, R214) -/

/-- Gray value G of a bit pair, b1 the higher bit (R213). -/
def grayOf : Nat → Nat
  | 0 => 0
  | 1 => 1
  | 3 => 2
  | _ => 3

/-- Bit pair of a Gray value (R213). -/
def grayPair : Nat → Nat
  | 0 => 0
  | 1 => 1
  | 2 => 3
  | _ => 2

/-- The transmit precoder over Gray values, from its state `p` (R213): P(n) = (G(n) − P(n−1)) mod 4. -/
def precode : Nat → List Nat → List Nat
  | _, [] => []
  | p, g :: r => ((g + 4 - p % 4) % 4) :: precode ((g + 4 - p % 4) % 4) r

/-- The receiver's sum over received symbols, from the symbol before them (R213): G(n) = (P(n) + P(n−1)) mod 4. -/
def unprecode : Nat → List Nat → List Nat
  | _, [] => []
  | q, p :: r => ((p + q) % 4) :: unprecode p r

/-- Level of a precoded symbol (R213). -/
def pamLevel (p : Nat) : Int := 2 * (p : Int) - 3

/-- Bit pairs of a number of `k` pairs, the most significant first. -/
def pairsOf (v : Nat) : Nat → List Nat
  | 0 => []
  | k + 1 => v / 4 ^ k % 4 :: pairsOf v k

/-- The 132-bit string of pair 0 or 1 (R214): a nibble of the header and half of the payload. -/
def pairString (hdr payload : Nat) (second : Bool) : Nat :=
  if second then hdr % 16 * 2 ^ 128 + payload % 2 ^ 128 else hdr / 16 % 16 * 2 ^ 128 + payload / 2 ^ 128 % 2 ^ 128

/-- Every other element, from the first. -/
def evens : List Nat → List Nat
  | [] => []
  | [a] => [a]
  | a :: _ :: r => a :: evens r

/-- Gray values of a block on lanes L0 to L3 (R214): even symbols of a pair's string on its even lane. With one pair in use (DEGRADED) it carries
pair 0's string and then pair 1's, and the other lanes nothing. -/
def laneGrays (pairs : BitVec 2) (hdr payload : Nat) : List (List Nat) :=
  let a := (pairsOf (pairString hdr payload false) 66).map grayOf
  let b := (pairsOf (pairString hdr payload true) 66).map grayOf
  let two := fun l => [evens l, evens (l.drop 1)]
  if pairs = 1 then two (a ++ b) ++ [[], []]
  else if pairs = 2 then [[], []] ++ two (a ++ b)
  else two a ++ two b

/-- Symbols of a block on each lane, from the precoder states `pre` (R213). -/
def laneSymbols (pre : List Nat) (grays : List (List Nat)) : List (List Nat) := List.zipWith precode pre grays

/-- Precoder states after those symbols: the last symbol of each lane. -/
def preAfter (pre : List Nat) (syms : List (List Nat)) : List Nat := List.zipWith (fun p l => l.getLastD p) pre syms

/-! ### Headers (R215) -/

/-- A header nibble has odd parity. -/
def nibbleOk (x : Nat) : Bool := decide ((x / 8 + x / 4 % 2 + x / 2 % 2 + x % 2) % 2 = 1)

/-- The nibble of a block type: TYPE[2:0] and the odd-parity bit (R215). -/
def nibbleOf (t : Nat) : Nat := 2 * t + (t / 4 + t / 2 % 2 + t % 2 + 1) % 2

/-- Header of a block type, both nibbles alike. -/
def headerOf (t : Nat) : Nat := 16 * nibbleOf t + nibbleOf t

/-- TYPE that a receiver reads of a header with the pairs in use (R215): of the nibble with good parity; none is a block error: no good nibble, two
good ones that differ, or TYPE 7. -/
def blockType (pairs : BitVec 2) (hdr : Nat) : Option Nat :=
  let a := hdr / 16 % 16
  let b := hdr % 16
  let okA := pairs.getLsbD 0 && nibbleOk a
  let okB := pairs.getLsbD 1 && nibbleOk b
  let t := if okA && okB then (if a / 2 = b / 2 then some (a / 2) else none)
    else if okA then some (a / 2) else if okB then some (b / 2) else none
  t.filter (fun x => decide (x ≠ 7))

/-- Block errors among headers. -/
def blockErrors (pairs : BitVec 2) (l : List Nat) : Nat := (l.filter (fun h => (blockType pairs h).isNone)).length

/-! ### Frames (R216) -/

/-- CLASS of a frame descriptor. -/
def descClass (d : Word) : Nat := fieldOf d 30 2

/-- SEQ of a frame descriptor. -/
def descSeq (d : Word) : Nat := fieldOf d 18 12

/-- LENGTH of a frame descriptor. -/
def descLen (d : Word) : Nat := fieldOf d 4 14

/-- Types of the blocks of a frame of `len` bytes: DATA_START with 28 of them, DATA with 32 each, DATA_END. -/
def frameTypes (len : Nat) : List Nat := 1 :: (List.replicate ((len - 28 + 31) / 32) 2 ++ [3])

/-- The block sequence of a frame is whole (R215, R216): no block error, and its own blocks in order; IDLE, MARKER, TIMING and LINK blocks may
fall between them. -/
def framed (pairs : BitVec 2) (hdrs : List Nat) (len : Nat) : Bool :=
  decide (blockErrors pairs hdrs = 0) &&
    decide ((hdrs.filterMap (blockType pairs)).filter (fun t => decide (1 ≤ t ∧ t ≤ 3)) = frameTypes len)

/-- CRC-32 of a frame: over descriptor and frame bytes. -/
def frameCrc (desc : Word) (body : List Byte) : Word := BitVec.ofNat 32 (crc32 (wordBytes desc ++ body.map (·.toNat)))

/-- A received frame is intact (R216). -/
def frameIntact (pairs : BitVec 2) (f : JFrameIn) : Bool :=
  let len := descLen f.desc
  decide (1 ≤ len) && decide (len ≤ 9216) && decide (f.body.length = len) && framed pairs (f.hdrs.map (·.toNat)) len &&
    decide (f.crc = frameCrc f.desc f.body)

/-! ### LINK payloads (R217) -/

/-- Payload of a FLOW. -/
def flowPayload (f : FlowIn) : Nat :=
  f.ackSeq % 4096 * 2 ^ 240 + f.nak.toNat * 2 ^ 239 + f.pair1.toNat * 2 ^ 238 + f.pair0.toNat * 2 ^ 237 + f.credit % 65536 * 2 ^ 221

/-- Payload of a HELLO. -/
def helloPayload (h : HelloIn) : Nat :=
  2 ^ 252 + h.role.toNat * 2 ^ 250 + h.depth % 8 * 2 ^ 247 + h.epoch % 65536 * 2 ^ 231 + h.addr % 65536 * 2 ^ 215 + h.regAck.toNat * 2 ^ 214 +
    h.regRefused.toNat * 2 ^ 213 + h.serial % 2 ^ 64 * 2 ^ 149

/-- Payload of a DELAY: θ and the marker it refers to. -/
def delayPayload (theta marker : Nat) : Nat := 2 * 2 ^ 252 + theta % 2 ^ 18 * 2 ^ 234 + marker % 2 ^ 32 * 2 ^ 202

/-! ### Markers (R218) -/

/-- Alignment word of lane k. -/
def alignWord : Nat → Nat
  | 0 => 0x3C5A96E1
  | 1 => 0xA36C1F58
  | 2 => 0x5E81C7A4
  | _ => 0xC9273A6D

/-- The sixteen bit pairs of two words in turn, `a` first: what puts them on the last sixteen symbols of an even and an odd lane. -/
def weave (a b : Nat) : Nat → Nat
  | 0 => 0
  | k + 1 => (a / 4 ^ k % 4 * 4 + b / 4 ^ k % 4) * 16 ^ k + weave a b k

/-- Half of a marker's payload: number, complement, alignment words of its two lanes. -/
def markerHalf (n a b : Nat) : Nat := n % 2 ^ 32 * 2 ^ 96 + (2 ^ 32 - 1 - n % 2 ^ 32) * 2 ^ 64 + weave a b 16

/-- Payload of a MARKER. -/
def markerPayload (n : Nat) : Nat := markerHalf n (alignWord 0) (alignWord 1) * 2 ^ 128 + markerHalf n (alignWord 2) (alignWord 3)

/-- A marker's copies agree, and number and complement match (R218). -/
def markerIntact (m : MarkerIn) : Bool := decide (m.n1 = m.n2) && decide (m.c1 = ~~~m.n1) && decide (m.c2 = ~~~m.n2)

/-! ### Timing records (R219) -/

/-- The record's bits [383:32]. -/
def timingBits (r : TimingRec) : Nat :=
  let d := r.dataset
  r.marker % 2 ^ 32 * 2 ^ 320 + r.sec % 2 ^ 48 * 2 ^ 272 + r.ns % 2 ^ 30 * 2 ^ 242 + r.frac % 2 ^ 16 * 2 ^ 226 + r.epoch % 2 ^ 16 * 2 ^ 210 +
    r.active.toNat * 2 ^ 209 + r.upLost.toNat * 2 ^ 208 + d.gmId % 2 ^ 64 * 2 ^ 144 + d.clockClass % 256 * 2 ^ 136 +
    d.clockAccuracy % 256 * 2 ^ 128 + d.variance % 65536 * 2 ^ 112 + d.priority1 % 256 * 2 ^ 104 + d.priority2 % 256 * 2 ^ 96 +
    d.steps % 65536 * 2 ^ 80 + d.timeSource % 256 * 2 ^ 72

/-- A number of `k` words, the most significant first. -/
def wordsOf (v : Nat) : Nat → List Word
  | 0 => []
  | k + 1 => BitVec.ofNat 32 (v / 2 ^ (32 * k)) :: wordsOf v k

/-- The twelve words of a timing record with its CRC-32. -/
def timingWords (r : TimingRec) : List Word :=
  let l := wordsOf (timingBits r) 11
  l ++ [crcWords l]

/-- A timing record from the words of one copy; none where its CRC fails. A received record carries no traceability flags: they are those of its
clockClass 6 (DEDUCED, log entry 135). -/
def timingOf (l : List Word) : Option TimingRec :=
  if l.length = 12 ∧ l.getD 11 0 = crcWords (l.take 11) then
    let v := wordsNat (l.take 11)
    let f := fun lo w => v / 2 ^ lo % 2 ^ w
    some { marker := f 320 32, sec := f 272 48, ns := f 242 30, frac := f 226 16, epoch := f 210 16, active := decide (f 209 1 = 1),
           upLost := decide (f 208 1 = 1),
           dataset := { gmId := f 144 64, clockClass := f 136 8, clockAccuracy := f 128 8, variance := f 112 16, priority1 := f 104 8,
                        priority2 := f 96 8, steps := f 80 16, timeSource := f 72 8, timeTraceable := decide (f 136 8 = 6),
                        freqTraceable := decide (f 136 8 = 6) || decide (f 136 8 = 7) } }
  else none

/-- Payloads of the three TIMING blocks of a record: each half of a block carries a third of it (R219). -/
def timingPayloads (r : TimingRec) : List Nat :=
  let v := wordsNat (timingWords r)
  [2, 1, 0].map (fun k => v / 2 ^ (128 * k) % 2 ^ 128 * (2 ^ 128 + 1))

/-! ### Sending -/

/-- Pairs that the transmitter of link n uses (R214, R223). -/
def txPairs (s : State) (n : Nat) : BitVec 2 :=
  BitVec.ofNat 2 (getF s (Reg.LINK_JPHY_STATUS_TX_PAIR01_USED n) + 2 * getF s (Reg.LINK_JPHY_STATUS_TX_PAIR23_USED n))

/-- Pairs that the receiver of link n reads (R215, R223): both until a lane is lost. -/
def rxPairsOf (s : State) (n : Nat) : BitVec 2 := if (linkS s n).rxPairs = 0 then 3 else (linkS s n).rxPairs

/-- A block leaves on link n (R213, R214): its levels, and the precoder states after it. The states follow the blocks that the model sends; the
idle and data blocks between them are left out (log entry 136). -/
def sendBlock (s : State) (n type payload : Nat) : State :=
  let syms := laneSymbols (linkS s n).txPre (laneGrays (txPairs s n) (headerOf type) payload)
  updLink (emit s (.block n (syms.map (fun l => l.map pamLevel)))) n (fun l => { l with txPre := preAfter l.txPre syms })

/-- A block taken on link n (R213): its symbols as the peer's precoders send them, the last of which the receiver's sum needs next. -/
def takeBlock (s : State) (n type payload : Nat) : State :=
  let pairs := rxPairsOf s n
  updLink s n (fun l => { l with rxPre := preAfter l.rxPre (laneSymbols l.rxPre (laneGrays pairs (headerOf type) payload)) })

/-- A HELLO leaves on link n (R217). -/
def sendHello (s : State) (n : Nat) (h : HelloIn) : State := sendBlock (emit s (.hello n h)) n 6 (helloPayload h)

/-- The FLOW of link n now (R217, R223). -/
def flowNow (s : State) (n : Nat) : FlowIn :=
  let l := linkS s n
  { ackSeq := l.seqRx.toNat, nak := l.nak, pair0 := l.rxPairs.getLsbD 0, pair1 := l.rxPairs.getLsbD 1, credit := l.freed.toNat }

/-- A FLOW leaves on link n (R193, R217): acknowledgement, loss, usable pairs, and the cells freed in the ingress FIFO. -/
def sendFlow (s : State) (n : Nat) : State := sendBlock (emit s (.flow n (flowNow s n))) n 6 (flowPayload (flowNow s n))

/-- Block errors of link n are counted (R215). -/
def countBlockErr (s : State) (n k : Nat) : State := if k = 0 then s else incF s (Reg.LINK_BLOCK_ERR n) k

end Sys2Proof.Machine
end

