-- ==== Sys2Proof/Machine/Ptp.lean ====
section
/-! DEFINITION. PTP as the device runs it (chapter 5): announced quality (R94), UTC data (R95), port states (R93), message
authentication (R97, R340), and what is read of a message and of a host's frame (R93, R316). -/

namespace Sys2Proof.Machine

/-! ### Announced quality (R94) -/

/-- A qualified slot is selected and steering. -/
def steered (s : State) : Bool := match selected s with | some n => slotQual s n | none => false

/-- clockClass, timeTraceable, frequencyTraceable of the device as its own grandmaster (R94). -/
def gmClass (s : State) : Nat × Bool × Bool :=
  match s.mode with
  | .locked => if traceable s then (6, true, true) else (248, false, true)
  | .calibrate => if s.calEntry = .locked then (7, false, true) else (248, false, false)
  | .holdover =>
    if s.sel.specOver || getB s Reg.REF_LOSS_CTRL_NO_HISTORY then (getF s Reg.PTPG_PTP_GLOBAL_DEGRADED_CLASS, false, false)
    else (7, false, true)
  | .bench => (248, false, steered s)
  | _ => (248, false, false)

/-- The received dataset the device passes on: of the followed upstream, of the active, or of the selected port (R94). -/
def parentData (s : State) : Option Dataset :=
  match s.clk.rootFwd with
  | some k => (linkS s k).tf.map (·.dataset)
  | none =>
    match selected s with
    | some a => if slotType s a = 0 then (portS s (slotIndex s a)).ann else none
    | none => none

/-- The dataset of the device as grandmaster. -/
def ownData (s : State) : Dataset :=
  let c := gmClass s
  { gmId := Config.serial.toNat, clockClass := c.1, timeTraceable := c.2.1, freqTraceable := c.2.2,
    priority1 := getF s Reg.PTPG_PTP_GLOBAL_PRIORITY1, priority2 := getF s Reg.PTPG_PTP_GLOBAL_PRIORITY2,
    clockAccuracy := if s.mode = .locked then (Config.clockAccuracy s.freeCtr).toNat else 0xFE }

/-- The dataset the device announces and carries (R94): its own as grandmaster, else the parent's with stepsRemoved one more. -/
def announced (s : State) : Dataset :=
  match parentData s with
  | some d => if s.mode = .standby then d else { d with steps := d.steps + 1 }
  | none => ownData s

/-- PTP_GLOBAL_CLASS for a dataset, with GM_SELF (R94, R111). -/
def classWord (d : Dataset) (self : Bool) : Word :=
  BitVec.ofNat 32 (self.toNat <<< 18 + d.freqTraceable.toNat <<< 17 + d.timeTraceable.toNat <<< 16 + (d.clockAccuracy % 256) <<< 8 + d.clockClass % 256)

/-- PTP_GLOBAL_CLASS (R94): in FAULT what it held at the entry, in RESET and BOOT its reset value, in STANDBY the dataset of the active
with GM_SELF 0, which is the reset value until one has been received. -/
def shownClass (s : State) : Word :=
  match s.mode with
  | .fault => s.ports.classHeld.getD (classWord {} false)
  | .reset | .boot => classWord {} false
  | .standby => classWord ((parentData s).getD {}) false
  | _ => classWord (announced s) (parentData s).isNone

/-- The dataset that a port announces: on a port forced slave-only its class is 255 (R94). -/
def announcedOn (s : State) (p : Nat) : Dataset :=
  if getF s (Reg.PORT_PTP_XPORT_ROLE_FORCE p) = 2 then { announced s with clockClass := 255 } else announced s

/-! ### UTC data (R95) -/

/-- currentUtcOffset, leap59 and leap61 of the automatic source: the navigation data while GNSS is selected, the parent's Announce while a
port is. -/
def utcSource (s : State) : Option (Int × Bool × Bool) :=
  match selected s with
  | some n => if slotType s n = 2 then s.ports.utcAuto else if slotType s n = 0 then (portS s (slotIndex s n)).utc else none
  | none => none

/-- currentUtcOffset, leap59, leap61 and currentUtcOffsetValid (R95): of the automatic source while it supplies them under AUTO = 1, else
the host-written fields. -/
def utcData (s : State) : Int × Bool × Bool × Bool :=
  match (if getB s Reg.PTPG_UTC_CFG_AUTO then utcSource s else none) with
  | some u => (u.1, u.2.1, u.2.2, true)
  | none => (getS s Reg.PTPG_UTC_CFG_UTC_OFFSET, getB s Reg.PTPG_UTC_CFG_LEAP59, getB s Reg.PTPG_UTC_CFG_LEAP61, getB s Reg.PTPG_UTC_CFG_VALID)

/-! ### Port states (R90, R93, R110) -/

/-- States of a port's PTP in the firmware. -/
inductive PortState where
  | disabled | listening | master | passive | slave
  deriving DecidableEq, Repr

/-- The PTP state machines of the firmware run (R24, R94, R162): not in STANDBY, and where ports have power and may send. -/
def ptpRuns (s : State) : Bool :=
  match s.mode with
  | .config | .freerun | .acquire | .locked | .holdover | .calibrate => true
  | _ => false

/-- The firmware runs PTP on a port: its link is up, its PTP is not disabled, and the host does not handle it (R96, R110). -/
def ptpOn (s : State) (p : Nat) : Bool :=
  ptpRuns s && decide (p < 36) && getB s (Reg.PORT_PHY_STATUS_LINK_UP p) && decide (getF s (Reg.PORT_PTP_XPORT_ROLE_FORCE p) ≠ 3) && !(portS s p).hostHandled

/-- Order of datasets of the default BMCA: priority1, class, accuracy, variance, priority2, identity, steps (PRESUMED, log entry 126). -/
def dataKey (d : Dataset) : List Nat :=
  [d.priority1, d.clockClass, d.clockAccuracy, d.variance, d.priority2, d.gmId, d.steps]

/-- Lexicographic order. -/
def keyLess : List Nat → List Nat → Bool
  | a :: r, b :: t => decide (a < b) || (decide (a = b) && keyLess r t)
  | _, _ => false

/-- A dataset is better than another. -/
def dataBetter (a b : Dataset) : Bool := keyLess (dataKey a) (dataKey b)

/-- Dataset of the last Announce on a port that takes part in the BMCA: not one forced master. -/
def portData (s : State) (p : Nat) : Option Dataset :=
  if ptpOn s p && decide (getF s (Reg.PORT_PTP_XPORT_ROLE_FORCE p) ≠ 1) then (portS s p).ann else none

/-- The port of a list with the best dataset, the lowest one of equals, with that dataset. -/
def bestOf (s : State) : List Nat → Option (Nat × Dataset)
  | [] => none
  | p :: r =>
    match portData s p, bestOf s r with
    | some d, some e => if dataBetter e.2 d then some e else some (p, d)
    | some d, none => some (p, d)
    | none, b => b

/-- State of a port under the default BMCA, ROLE_FORCE and the mode (R93, R110; PRESUMED, log entry 126). -/
def portState (s : State) (p : Nat) : PortState :=
  if !ptpOn s p then .disabled
  else
    match getF s (Reg.PORT_PTP_XPORT_ROLE_FORCE p) with
    | 1 => .master
    | 2 => if (portS s p).ann.isSome then .slave else .listening
    | _ =>
      let own := ownData s
      if own.clockClass ≤ 127 then
        match portData s p with
        | some d => if dataBetter d own then .passive else .master
        | none => .master
      else
        match bestOf s (List.range 36) with
        | none => .master
        | some (b, d) =>
          if dataBetter own d then .master
          else if b = p then .slave
          else match portData s p with | some e => if e.gmId = d.gmId then .passive else .master | none => .master

/-- DELAY_MECH of a port: 0 request-response, 1 peer delay, 2 none; 3 acts as 0 (R110). -/
def delayMech (s : State) (p : Nat) : Nat :=
  let m := getF s (Reg.PORT_TT_CTRL_DELAY_MECH p)
  if m = 3 then 0 else m

/-! ### Settings in force (R92, R111) -/

/-- DOMAIN as written, 128 to 255 acting as 0. -/
def domainCfg (s : State) : Nat :=
  let d := getF s Reg.PTPG_PTP_GLOBAL_DOMAIN
  if 128 ≤ d then 0 else d

/-- TC_TYPE as written, 3 acting as off. -/
def tcTypeCfg (s : State) : Nat :=
  let t := getF s Reg.PTPG_PTP_MODE_TC_TYPE
  if t = 3 then 0 else t

/-- DOMAIN in force at a fabric port: a Jieth port, which has no Sync grid, takes it as written. -/
def domainAt (s : State) (f : Nat) : Nat := if f < 36 then (portS s f).domain else domainCfg s

/-- TC_TYPE in force at a fabric port. -/
def tcAt (s : State) (f : Nat) : Nat := if f < 36 then (portS s f).tcType else tcTypeCfg s

/-- HOST_HANDLED in force at a fabric port. -/
def hostAt (s : State) (f : Nat) : Bool := if f < 36 then (portS s f).hostHandled else getB s Reg.PTPG_PTP_MODE_HOST_HANDLED

/-! ### Authentication (R97, R340) -/

/-- Key slot `k` holds a usable key (R339, R340). -/
def keyUsable (s : State) (k : Nat) : Bool :=
  s.sec.keys.any (fun e => e.1 = k) && !getB s Reg.SEC_STATUS_KEYS_LOCKED

/-- Four bytes as a word, first byte in [31:24] (R316). -/
def packBytes : List Byte → List Word
  | [] => []
  | [a] => [BitVec.ofNat 32 (a.toNat <<< 24)]
  | [a, b] => [BitVec.ofNat 32 (a.toNat <<< 24 + b.toNat <<< 16)]
  | [a, b, c] => [BitVec.ofNat 32 (a.toNat <<< 24 + b.toNat <<< 16 + c.toNat <<< 8)]
  | a :: b :: c :: d :: r => BitVec.ofNat 32 (a.toNat <<< 24 + b.toNat <<< 16 + c.toNat <<< 8 + d.toNat) :: packBytes r

/-- The ICV of a port's key over words: HMAC-SHA-256 of 256 bits, or its first 128 under ICV_128 (R93, R97, R370). -/
def portIcv (s : State) (p : Nat) (ws : List Word) : List Word :=
  (hmac ((spGet? s.sec.keys (getF s (Reg.PORT_PTP_XPORT_KEY_ID p))).getD []) ws).take (if getB s (Reg.PORT_PTP_XPORT_ICV_128 p) then 4 else 8)

/-- A received message's TLV verifies (R93, R97): it is there, asks for no delayed processing, and its ICV is that of the port's key. -/
def tlvVerifies (s : State) (p : Nat) (fr : FrameIn) : Bool :=
  match fr.tlv with
  | some t => !t.delayed && decide (t.icv = portIcv s p (packBytes fr.body))
  | none => false

/-- Authentication of a received PTP message on a port (R97, R340): the state with what a failure raises, and whether it may be used. -/
def ptpAuth (s : State) (p : Nat) (fr : FrameIn) : State × Bool :=
  if !getB s (Reg.PORT_PTP_XPORT_AUTH_EN p) then (s, true)
  else if !keyUsable s (getF s (Reg.PORT_PTP_XPORT_KEY_ID p)) then
    (raise (raise s Reg.SEC_EVENTS_AUTH_KEY_MISSING) (Reg.PORT_TT_EVENTS_AUTH_FAIL p), false)
  else if tlvVerifies s p fr then (s, true) else (raise s (Reg.PORT_TT_EVENTS_AUTH_FAIL p), false)

/-- The port's PTP frames must be authenticated and their key is missing: it sends none (R340). -/
def authMissing (s : State) (f : Nat) : Bool :=
  decide (f < 36) && getB s (Reg.PORT_PTP_XPORT_AUTH_EN f) && !keyUsable s (getF s (Reg.PORT_PTP_XPORT_KEY_ID f))

/-- ICV of a message that port f sends, signed after its correctionField and its timestamp are in place; none without AUTH_EN (R97). -/
def sendIcv (s : State) (f : Nat) (body : List Word) (corr : Int) (stamp : Option Nat) : List Word :=
  if f < 36 ∧ getB s (Reg.PORT_PTP_XPORT_AUTH_EN f) = true then portIcv s f (Config.ptpSigned body corr stamp) else []

/-- The firmware sends a general message on a port, unless its key is missing (R93 to R97, R340). -/
def sendMessage (s : State) (p : Nat) (m : PtpTx) : State :=
  if authMissing s p then s
  else emit s (.message p { m with icv := if getB s (Reg.PORT_PTP_XPORT_AUTH_EN p) then portIcv s p (Config.messageWords m) else [] })

/-! ### What a host's frame is (R96, R316) -/

/-- Byte `k` of packed words, first byte in [31:24]. -/
def byteAt (ws : List Word) (k : Nat) : Nat := fieldOf (ws.getD (k / 4) 0) (24 - 8 * (k % 4)) 8

/-- Offset of the PTP header in a frame: behind the addresses, a VLAN tag if there is one, and the headers of the port's transport
(PRESUMED: EtherType 0x88F7 or IPv4, IPv6 and UDP headers without options, log entry 127). -/
def ptpOffset (transport : Nat) (ws : List Word) : Nat :=
  let tag := if byteAt ws 12 = 0x81 ∧ byteAt ws 13 = 0 then 4 else 0
  14 + tag + (match transport with | 1 => 28 | 2 => 48 | _ => 0)

/-- Kind of a PTP message by messageType, the low half of its first byte (PRESUMED, log entry 127). -/
def ptpKindOf (t : Nat) : PtpKind :=
  match t % 16 with
  | 0 => .sync
  | 1 => .delayReq
  | 2 => .pdelayReq
  | 3 => .pdelayResp
  | 8 => .followUp
  | 9 => .delayResp
  | 10 => .pdelayRespFollowUp
  | 11 => .announce
  | 12 => .signaling
  | _ => .management

/-- Header of a message that the host built for a port: its kind and domain; the correctionField is the host's own (R96, R316). -/
def hostHdr (s : State) (p : Nat) (ws : List Word) : PtpHdr :=
  let o := ptpOffset (portS s p).transport ws
  { kind := ptpKindOf (byteAt ws o), domain := byteAt ws (o + 4), corr := 0, transport := (portS s p).transport, source := Config.serial.toNat }

end Sys2Proof.Machine
end

