-- ==== Sys2Proof/Machine/Reply.lean ====
section
/-! DEFINITION. Replies and status codes (R303, R305, R306, R312), the completion of a started command with its audit entry (R313)
and its counters, FAULT and the closing of debug (R35, R344). -/

namespace Sys2Proof.Machine

/-- Mode code of R303. -/
def Mode.code : Mode → Nat
  | .reset => 0
  | .boot => 1
  | .config => 2
  | .freerun => 3
  | .acquire => 4
  | .locked => 5
  | .holdover => 6
  | .standby => 7
  | .calibrate => 8
  | .bench => 9
  | .timekeep => 10
  | .fault => 11

/-- Mode of a code (R303). -/
def modeOfCode : Nat → Option Mode
  | 0 => some .reset
  | 1 => some .boot
  | 2 => some .config
  | 3 => some .freerun
  | 4 => some .acquire
  | 5 => some .locked
  | 6 => some .holdover
  | 7 => some .standby
  | 8 => some .calibrate
  | 9 => some .bench
  | 10 => some .timekeep
  | 11 => some .fault
  | _ => none

/-- SYS.MODE.POWER code (R332). -/
def Power.code : Power → Nat
  | .full => 0
  | .quiet => 1
  | .keep => 2
  | .aon => 3
  | .off => 3

/-- Status codes (R312). -/
inductive Status where
  | ok | queued | wrongMode | lenExceeds | truncated | badOpcode | badParam | busy | locked | denied | auditFull | fenceAborted | timeout
  deriving DecidableEq, Repr

/-- Code of a status. -/
def Status.code : Status → Nat
  | .ok => 0x00
  | .queued => 0x01
  | .wrongMode => 0x10
  | .lenExceeds => 0x11
  | .truncated => 0x12
  | .badOpcode => 0x13
  | .badParam => 0x14
  | .busy => 0x15
  | .locked => 0x16
  | .denied => 0x17
  | .auditFull => 0x18
  | .fenceAborted => 0x19
  | .timeout => 0x1A

/-- Reply header word (R303). -/
def replyHeader (s : State) (final : Bool) (rlen : Nat) (st : Status) (tag : Nat) : Word :=
  BitVec.ofNat 32 (final.toNat <<< 31 + (Mode.code s.mode) <<< 26 + (rlen % 1024) <<< 16 + (st.code) <<< 8 + tag % 256)

/-- Set the content of a reply slot in BAR2 (R304, R305). -/
def setReplySlot (s : State) (q slot : Nat) (ws : List Word) : State :=
  { s with cmd := { s.cmd with replies := (s.cmd.replies.filter (fun e => !(e.1 = q && e.2.1 = slot))) ++ [(q, slot, ws)] } }

/-- Header of a control frame (R151). -/
def ctlHeader (kind : Nat) (seq : BitVec 8) (hops path : Nat) : Word :=
  BitVec.ofNat 32 ((kind % 4) <<< 30 + seq.toNat <<< 22 + (hops % 8) <<< 19 + (path % 4096) <<< 7)

/-- A control frame leaves link n as a frame of CLASS 1 (R216); while the replay buffer is full no new frame does (R217). -/
def ctlOut (s : State) (n : Nat) (h : Word) (words : List Word) : State :=
  let len := 4 * (1 + words.length)
  if jiethMay s n 1 len then emit (jiethSend s n 1 len) (.ctl n h words) else s

/-- A control frame of KIND 0 or 1 leaves on link n with the next SEQ and waits for its acknowledgement (R151); `tag` gives the tag words
of R341 for its header. -/
def ctlSend (s : State) (n kind hops path : Nat) (words : List Word) (tag : Word → List Word) : State :=
  let h := ctlHeader kind (linkS s n).ctlTx hops path
  let f : CtlFrame := { header := h, words := words, tag := tag h }
  ctlOut (updLink s n (fun l => { l with ctlTx := l.ctlTx + 1, ctlWait := l.ctlWait ++ [{ frame := f }] })) n h (words ++ tag h)

/-- A reply frame leaves on a link that carries; a reply has no hops to name, since it goes back along the links its command came by
(R153). -/
def ctlReply (s : State) (n : Nat) (words : List Word) : State :=
  if linkCarries s n then ctlSend (emit s (.jiethReply n words)) n 1 0 0 words (fun _ => []) else s

/-- The SPI buffer of a packet takes reply words (R306): a new entry is the newest, a final reply replaces an unread
acknowledgement in its place. -/
def spiReply (l : List SpiBuf) (id : Nat) (final : Bool) (words : List Word) : List SpiBuf :=
  match l.find? (fun b => b.id = id) with
  | none => l
  | some b =>
    let b' := { b with words := some words, final := final }
    if b.words.isSome then l.map (fun x => if x.id = id then b' else x) else l.filter (fun x => x.id ≠ id) ++ [b']

/-- Write a reply of a packet through its own interface; a final one frees a PCI Express slot and replaces the unread
acknowledgement of an SPI packet (R305, R306). A PCI Express endpoint in reset takes no reply, and a packet that was started when
PERST_N fell gives none (R31). -/
def writeReply (s : State) (p : Packet) (final : Bool) (st : Status) (ws : List Word) : State :=
  let words := replyHeader s final ws.length st p.tag :: ws
  match p.iface with
  | .pcie =>
    if p.mute then s
    else
      let s1 := if final then { s with cmd := { s.cmd with slots := s.cmd.slots.erase (p.queue, p.slot) } } else s
      if s.pcieUp then
        let s2 := emit (setReplySlot s1 p.queue p.slot words) (.pcieReply p.queue p.slot words)
        if final && p.reply then emit s2 (.msix (getF s (Reg.CMD_Q_CFG_VECTOR p.queue))) else s2
      else s1
  | .spi => msixEdges (intActive s) { s with cmd := { s.cmd with spi := spiReply s.cmd.spi p.id final words } }
  | .jieth n => if final then ctlReply s n words else s

/-- First 96 bits of SHA-256 over the header and parameter words (R350); of KEY_LOAD over the header and word 0 (R339), of JIETH_RELAY over the
inner packet (R154). -/
def packetDigest (p : Packet) : List Word :=
  (sha256 (if p.opcode = 0xA3 then p.header :: p.words.take 1 else if p.opcode = 0x50 then p.words.drop 1 else p.header :: p.words)).take 3

/-- A relayed command's entry is recorded with the address of its final device (R153): that entry's format has no field for it, so the model keeps it
beside the ring by entry number (DESIGN CHOICE, log entry 69). -/
def auditAddr (s : State) (p : Packet) : State :=
  match p.iface with
  | .jieth _ => { s with aud := { s.aud with relayed := (s.aud.relayed ++ [(s.aud.seq, getF s Reg.JG_SELF_ADDR)]).drop (s.aud.relayed.length + 1 - auditCap) } }
  | _ => s

/-- The audit entry of a command (R153, R313, R350). -/
def auditCommand (s : State) (p : Packet) (st : Status) : State :=
  let d := packetDigest p
  audit (auditAddr s p) 1 (st ≠ .ok) false (reqCode p.iface p.queue)
    (BitVec.ofNat 32 (p.opcode <<< 24 + st.code <<< 16 + (p.tag % 256) <<< 8 + p.queue % 4)) (d.getD 0 0) (d.getD 1 0) (d.getD 2 0)

/-- Rejections that write no entry (R313). -/
def unaudited (st : Status) : Bool := decide (st = .wrongMode) || decide (st = .auditFull) || decide (st = .fenceAborted)

/-- A missed deadline (R312): CP_LATE, LATE_CNT and counter event 0x13. -/
def cpLate (s : State) (late : Bool) (p : Packet) : State :=
  if late then
    perf (raise (incF s Reg.CMD_LATE_CNT 1) Reg.CMD_EVENTS_CP_LATE) 0x13 (reqCode p.iface p.queue) p.opcode 0 1
  else s

/-- Completion bound of an opcode in CK_TICKs (R312, R314), counted from its start; none for FENCE_ALL, whose bound runs from its completion
condition, and for JIETH_RELAY, which R154 exempts. -/
def opBound (op : Nat) : Option Nat :=
  if op = 0x50 ∨ op = 0xF0 then none
  else if op = 0xFF then some 1250
  else if op = 0x53 then some 3125
  else if op ∈ [0x02, 0x07, 0x08] then some 6250
  else if op ∈ [0x30, 0x31, 0x40, 0x41, 0x42, 0x71, 0x92, 0x94, 0xA3, 0xA4, 0xB0] then some 31250
  else if op ∈ [0x04, 0x80, 0x83] then some 62500
  else if op ∈ [0x01, 0xA1] then some 625000
  else if op = 0xA0 then some 6250000
  else if op = 0x05 then some 1250000000
  else if op ∈ [0x91, 0x93] then some 1875000000
  else some 12500

/-- A started packet completes past its bound (R312). -/
def pastBound (s : State) (p : Packet) : Bool :=
  match s.cmd.running.find? (fun r => decide (r.id = p.id)), opBound p.opcode with
  | some r, some b => decide (r.startAt + b < s.now)
  | _, _ => false

/-- A started packet completes: deadline, audit entry if audited, counters, histogram source CMD_COMPLETION, final reply. -/
def finish (s0 : State) (p : Packet) (st : Status) (ws : List Word) : State :=
  let s := cpLate s0 (pastBound s0 p) p
  let s1 := { s with cmd := { s.cmd with running := s.cmd.running.filter (fun r => r.id ≠ p.id) } }
  let s2 := if p.aud && !unaudited st then auditCommand s1 p st else s1
  let req := reqCode p.iface p.queue
  let s3 := perf s2 (if st = .ok then 0x11 else 0x12) req p.opcode 0 1
  let s4 := histOffer s3 3 (fun h => histIn s3 p.opcode h &&
    (decide (getF s3 (Reg.HIST_HIST_CFG_REQ h) = 0x3F) || decide (getF s3 (Reg.HIST_HIST_CFG_REQ h) = req))) ((s.now - p.bell) * 16)
  writeReply s4 p true st ws

/-- What a started command answers: the state, and its final status with reply words, or none while it runs on. -/
abbrev CmdOut := State × Option (Status × List Word)

/-- OK without reply words. -/
def done (s : State) : CmdOut := (s, some (.ok, []))

/-- OK with reply words. -/
def answer (s : State) (ws : List Word) : CmdOut := (s, some (.ok, ws))

/-- Another final status, without words. -/
def deny (s : State) (st : Status) : CmdOut := (s, some (st, []))

/-- Word `k` of a parameter list. -/
def par (ws : List Word) (k : Nat) : Word := ws.getD k 0

/-- Bits of parameter word `k`. -/
def parF (ws : List Word) (k lo w : Nat) : Nat := fieldOf (par ws k) lo w

/-- Debug closes (R344). -/
def closeDebug (s : State) : State :=
  if getB s Reg.SEC_STATUS_DEBUG_OPEN then raise (setF s Reg.SEC_STATUS_DEBUG_OPEN 0) Reg.SEC_EVENTS_DEBUG_CLOSED else s

/-- Code of a fault cause (R35). -/
def FaultCause.code : FaultCause → Nat
  | .noValidImage => 1
  | .rootNoLock => 2
  | .strapInvalid => 3
  | .engineWatchdog => 4
  | .eccUncorrectable => 5
  | .powerFail => 6
  | .cpWatchdog => 7
  | .tempLimit => 8

/-- Forwarded clocks and lanes stop: every link not OFF goes to FAILED with its clock lost (R35, R37). -/
def stopLinks (s : State) : State :=
  (List.range 6).foldl (fun t n =>
    if getF t (Reg.LINK_LINK_STATUS_STATE n) = 0 then t else setF (setF t (Reg.LINK_LINK_STATUS_STATE n) 7) (Reg.LINK_LINK_STATUS_FWD_CLK_OK n) 0) s

end Sys2Proof.Machine
end

