-- ==== Sys2Proof/Machine/Fault.lean ====
section
/-! DEFINITION. A store operation cut off (R300); entry to FAULT (R35). -/

namespace Sys2Proof.Machine

/-- Set copy `k` of the flash. -/
def setCopy (s : State) (k : Nat) (c : CalCopy) : State :=
  { s with flash := { s.flash with copies := listUpd {} s.flash.copies k (fun _ => c) } }

/-- A copy whose write did not end well: its words are free values (R300). -/
def tornCopy (d : Nat) : CalCopy := ⟨(List.range 1024).map (Config.tornWord d)⟩

/-- A store operation is cut off by a reset, a fault or a loss of power (R300): some of its copies are written, the next one may be torn; how
far it had come is a free value. -/
def cutStore (s : State) : State :=
  match s.cal.store with
  | none => s
  | some st =>
    let d := draw s
    let order := [0, 1, 2].filter (fun k => decide (st.skip ≠ some k))
    let n := Config.storeCut d.1 % 7
    let s1 := (order.take (n / 2)).foldl (fun t k => setCopy t k ⟨st.words⟩) { d.2 with cal := { d.2.cal with store := none } }
    match (order.drop (n / 2)).head? with
    | some k => if n % 2 = 1 then setCopy s1 k (tornCopy d.1) else s1
    | none => s1

/-- What entering FAULT does to the mode, the heartbeat and the host domain (R35); PTP_GLOBAL_CLASS keeps its value (R94). -/
def faultMode (s : State) : State :=
  { s with mode := .fault, hb := false, boot := .idle, powerTo := none, waking := false,
           domains := if powered s .host then s.domains else s.domains ++ [.host],
           ports := { s.ports with classHeld := some (shownClass s) },
           pcieUp := s.pcieUp || (!powered s .host && s.pins.perstN) }

/-- The relays and the store that entering FAULT ends (R35, R300, R310). -/
def faultStops (s : State) : State :=
  let t := cutStore s
  { t with jieth := { t.jieth with relays := [] } }

/-- Entry to FAULT (R35): HB_OUT and transmitters stop, outputs low, INT_N asserted, the cause written and logged, running
commands end with TIMEOUT (R310), PD_HOST comes on where it was off, a power sequence under way stops. From RESET there is no such transition (R25). -/
def enterFault (s : State) (c : FaultCause) : State :=
  if s.mode = .reset ∨ s.mode = .fault then s
  else
    let s1 := faultStops (stopLinks (faultMode (setF (auditEvent s .fault 0x23 (FaultCause.code c) 0) Reg.SYS_FAULT_CAUSE_CODE (FaultCause.code c))))
    s1.cmd.running.foldl (fun t p => finish t p .timeout []) s1

end Sys2Proof.Machine
end

