-- ==== Sys2Proof/Machine/Root.lean ====
section
/-! DEFINITION. Meanings of the clock root's and the time-driven commands: OSC_IN loss and relock (R39, R40), TB_WARM (R41 to R44),
helper and spreadable PLLs (R49 to R53), DLLs (R56 to R59), compare units (R67, R68), ToD boundaries, ends of slew and ramp. -/

namespace Sys2Proof.Machine

/-- OSC_LOS (R39): no edge for 1 µs, or the rate left its window. ROOT_LOCK clears and every DLL output is gated (R58);
measurements of running gauges carry HOLDCLK (R232). -/
def execOscLos (s : State) : Host.Outcome State Fault Refusal :=
  if !s.clk.started then ok s
  else
    let s1 := setF (setF s Reg.CLK_ROOT_STATUS_OSC_LOS 1) Reg.CLK_ROOT_STATUS_ROOT_LOCK 0
    let s2 := raise (gateAll s1) Reg.CLK_EVENTS_OSC_LOS_SEEN
    ok { s2 with gauges := s2.gauges.map (fun g => { g with hold := true }) }

/-- OSC_LOS_TIMEOUT (R39): no lock within 10 ms of OSC_LOS: FAULT. -/
def execOscLosTimeout (s : State) : Host.Outcome State Fault Refusal :=
  if getB s Reg.CLK_ROOT_STATUS_OSC_LOS ∧ !getB s Reg.CLK_ROOT_STATUS_ROOT_LOCK then ok (enterFault s .rootNoLock) else ok s

/-- OVEN_OK_CHANGE (R41): the deglitched level; a fall restarts the warm-up timer (R43). -/
def execOvenOkChange (level : Bool) (s : State) : Host.Outcome State Fault Refusal :=
  if !powered s .time || getB s Reg.CLK_ROOT_STATUS_OVEN_OK = level then ok s
  else
    let s1 := { s with clk := { s.clk with ovenAt := some s.now } }
    ok (setB s1 Reg.CLK_ROOT_STATUS_OVEN_OK level)

/-- OVEN_OK has held its level for 10 ms, 6,250,000 ticks, since its change (R41). -/
def ovenHeld (s : State) : Bool :=
  match s.clk.ovenAt with
  | some t => decide (t + 6250000 ≤ s.now)
  | none => false

/-- The warm-up timer starts again at the tick of OVEN_OK's last change (R41, R43). -/
def warmRestart (s : State) : State := { s with clk := { s.clk with warmAt := s.clk.ovenAt } }

/-- OVEN_LOW_TIMEOUT (R41, R43, R44): OVEN_OK low for 10 ms clears TB_WARM while OVEN_USE = 1; that fall restarts the warm-up timer, from
its tick (DEDUCED, log entry 122: "that fall" of R41 is one that stays low for 10 ms). -/
def execOvenLowTimeout (s : State) : Host.Outcome State Fault Refusal :=
  if s.clk.started ∧ s.straps.ovenUse ∧ !getB s Reg.CLK_ROOT_STATUS_OVEN_OK ∧ ovenHeld s = true then
    ok (if getB s Reg.CLK_ROOT_STATUS_TB_WARM then
      raise (setF (warmRestart s) Reg.CLK_ROOT_STATUS_TB_WARM 0) Reg.CLK_EVENTS_WARM_LOST else warmRestart s)
  else ok s

/-- Sum of f × (position from the middle of the window), in half seconds, over samples whose newest lies at `k` half seconds. -/
def slopeMoment : List Int → Int → Int
  | [], _ => 0
  | f :: r, k => k * f + slopeMoment r (k - 2)

/-- The least-squares line through 600 once-per-second samples drifts by less than 1 × 10^-11 per minute (R42). With x the half seconds
from the middle, the slope per second is 2 Σ x f / Σ x², and Σ x² is 600 (600² − 1) / 3. -/
def slopeFlat (l : List Int) : Bool :=
  decide (600 ≤ l.length) && decide ((120 * slopeMoment (l.take 600) 599).natAbs * 10 ^ 11 < 71999800 * 2 ^ 60)

/-- One sample per second for the slope window (R42): the frequency of the highest-ranked qualified reference; a second without one, or a
change of that reference, restarts the window. -/
def slopeSecond (s : State) : State :=
  let t := slopeWatch s
  match t.clk.slopeRef.bind (fun n => (slotS t n).meas) with
  | some m => { t with clk := { t.clk with slope := (m.freq :: t.clk.slope).take 600 } }
  | none => slopeRestart t

/-- The drift that the line through 600 samples shows, in 2^-60 per minute (R42); 0 where the window does not hold them. -/
def slopeDrift (l : List Int) : Int := if 600 ≤ l.length then roundDiv (120 * slopeMoment (l.take 600) 599) 71999800 else 0

/-- SLOPE_EVALUATION (R42): the firmware evaluates its fit, of so many samples with that drift. Both are those of the window that State
holds, or the row changes nothing (DESIGN CHOICE, log entry 146). An evaluation passes only with 600 consecutive samples of the present
reference that drift little enough. -/
def execSlopeEvaluation (samples : Nat) (drift : Int) (s : State) : Host.Outcome State Fault Refusal :=
  let t := slopeWatch s
  if !s.clk.started || decide (samples ≠ t.clk.slope.length) || decide (drift ≠ slopeDrift t.clk.slope) then ok s
  else
    let pass := slopeFlat t.clk.slope && t.clk.slopeRef.isSome
    ok { t with clk := { t.clk with slopePass := if pass then t.clk.slopePass + 1 else 0 } }

/-- MIN_S seconds have passed since the warm-up timer's start (R41, R43), with so many seconds shown on the timer; MIN_S = 0 is met at
once. A reading that the timer has not reached counts for nothing (DESIGN CHOICE, log entry 146). -/
def warmTime (s : State) (seconds : Nat) : Bool :=
  match s.clk.warmAt with
  | some t => decide (getF s Reg.CLK_WARM_CFG_MIN_S ≤ seconds) && decide (t + seconds * 625000000 ≤ s.now)
  | none => false

/-- TB_WARM_RISE (R41): OVEN_OK high for 10 ms or unused, and the slope condition met or MIN_S seconds since the timer's start. Where both
hold WARM_BY records the time path (DESIGN CHOICE, log entry 123: the manual does not say which). -/
def execTbWarmRise (seconds : Nat) (s : State) : Host.Outcome State Fault Refusal :=
  let oven := !s.straps.ovenUse || (getB s Reg.CLK_ROOT_STATUS_OVEN_OK && ovenHeld s)
  let slope := decide (3 ≤ s.clk.slopePass)
  let time := warmTime s seconds
  if s.clk.started ∧ oven = true ∧ (slope = true ∨ time = true) ∧ !getB s Reg.CLK_ROOT_STATUS_TB_WARM then
    ok (setB (setF s Reg.CLK_ROOT_STATUS_TB_WARM 1) Reg.CLK_ROOT_STATUS_WARM_BY (slope && !time))
  else ok s

/-- PORT.PHASE.VALID falls (R86), and with it the port as a reference (R115). -/
def phaseLose (s : State) (p : Nat) : State :=
  let s1 := updPort s p (fun o => { o with cleanAt := none, phase := none })
  if getB s (Reg.PORT_PHASE_VALID p) then
    loseSource (raise (setF s1 (Reg.PORT_PHASE_VALID p) 0) (Reg.PORT_TT_EVENTS_PHASE_LOST p)) 0 p
  else s1

/-- A condition that invalidated the phase words of port p has ended (R86). -/
def phaseClean (s : State) (p : Nat) : State := updPort s p (fun o => { o with cleanAt := some s.now })

/-- HELPER_LOCK (R49, R86): set, or cleared with every phase word. -/
def execHelperLock (locked : Bool) (s : State) : Host.Outcome State Fault Refusal :=
  if !s.clk.started then ok s
  else
    let s1 := setB s Reg.CLK_ROOT_STATUS_HELPER_LOCK locked
    ok (if !locked then (List.range 36).foldl phaseLose s1
      else if getB s Reg.CLK_ROOT_STATUS_HELPER_LOCK then s1 else (List.range 36).foldl phaseClean s1)

/-- DLL_LOCK (R56, R57); with it a 10 MHz output starts (R33). -/
def execDllLock (n : Nat) (s : State) : Host.Outcome State Fault Refusal :=
  if 20 ≤ n then .fault .noSuchResource
  else if s.clk.started then
    let first := decide (4 ≤ n) && decide (n < 6) && !clk10Up s n
    ok (setF (if first then startOut s n 0 else s) (Reg.DLL_STAT_LOCK n) 1)
  else ok s

/-- DLL_UNLOCK (R57). -/
def execDllUnlock (n : Nat) (s : State) : Host.Outcome State Fault Refusal :=
  if 20 ≤ n then .fault .noSuchResource else if getB s (Reg.DLL_STAT_LOCK n) then ok (dllLose s n) else ok s

/-- Output n has a next edge: a PPS output once it runs provisionally or is aligned, a 10 MHz output once its DLL has locked, a timed
output with a schedule (R33, R72, R74). -/
def outScheduled (s : State) (n : Nat) : Bool :=
  if n < 4 then s.tim.provisional || getB s Reg.TIME_STATUS_FIRST_ALIGNED else if n < 6 then clk10Up s n else (outS s n).armed

/-- Time runs to the launch tick of output n and its edge fires; a launch already past fires late on the next tick (R67, R68). -/
def fireNext (s : State) (n : Nat) : State :=
  let d := cmpDiff (launch s n) (todVis s)
  if d < 0 then outFire (tick s) n 0 true
  else
    let goal : Int := 5 * (todVis s : Int) + d
    let k := leastTick (fun k => decide (goal < 5 * (todAfter s k / 2 ^ 40))) 62 0 - 1
    outFire (advance k s) n (goal - 5 * (todAfter s k / 2 ^ 40)).toNat false

/-- COMPARE_FIRE (R54, R59, R67, R68): what the boundary that the edge opens brings is taken, and the edge is launched in that state. -/
def execCompareFire (n : Nat) (s : State) : Host.Outcome State Fault Refusal :=
  if 14 ≤ n then .fault .noSuchResource
  else if !s.clk.started || !outScheduled s n then ok s
  else ok (updOut (fireNext (openAhead s n) n) n (fun o => { o with fired := true, opened := none }))

/-- LOAD of an engine over the last second, in 0.1 % of 312,500,000 cycles (R284). -/
def engLoad (s : State) (e : Nat) : State :=
  updEng (setF s (Reg.UE_LOAD e) (min 1000 ((engS s e).retired * 1000 / 312500000))) e (fun o => { o with retired := 0 })

/-- BERM_AGE counts a second on every port that has a reference. -/
def bermAges (s : State) : State :=
  (List.range 36).foldl (fun t p => if (portS t p).refTemp.isSome then
    setF t (Reg.PORT_BERM_AGE p) (min (getF t (Reg.PORT_BERM_AGE p) + 1) (2 ^ 32 - 1)) else t) s

/-- TOD_SECOND_BOUNDARY (R62, R270, R284): time runs to the next ToD second; event bit 0, engine loads, slot seconds, BERM_AGE. -/
def execTodSecondBoundary (s : State) : Host.Outcome State Fault Refusal :=
  if !s.clk.started then ok s
  else
    let s1 := engEvent (advance (ticksToNext s (10 ^ 9 * 2 ^ 56)) s) 0
    ok (slopeSecond (slotsSecond (bermAges ((List.range 16).foldl engLoad s1))))

/-- The engines' timers and watchdogs and the time since the last commit count a millisecond (R268, R271, R274), and the age of the mirror
(R160). -/
def countMs (s : State) : State :=
  { s with
    pair := { s.pair with mirrorMs := s.pair.mirrorMs + 1 }
    engs := { s.engs with sinceCommit := s.engs.sinceCommit + 1, eng := s.engs.eng.map (fun e => { e with timer := if 1 < e.timer then e.timer - 1 else e.timer, sinceMark := e.sinceMark + 1 }) } }

/-- MIRROR_AGE counts a millisecond; its reset value, that of no frame yet, is where it saturates (R175). -/
def mirrorAge (s : State) : State := setF s Reg.PAIR_MIRROR_AGE (min (getF s Reg.PAIR_MIRROR_AGE + 1) (2 ^ 32 - 1))

/-- TOD_MILLISECOND_BOUNDARY (R270): time runs to the next ToD millisecond; event bit 1; timers, watchdogs and MIRROR_AGE count. -/
def execTodMillisecondBoundary (s : State) : Host.Outcome State Fault Refusal :=
  if !s.clk.started then ok s else ok (countMs (mirrorAge (engEvent (advance (ticksToNext s (10 ^ 6 * 2 ^ 56)) s) 1)))

/-- WEIR_SLEW_END (R69): time runs to the tick that ends the slew. -/
def execWeirSlewEnd (s : State) : Host.Outcome State Fault Refusal :=
  if s.clk.started ∧ s.tim.weirRem ≠ 0 then ok (advance (weirTicks s (2 ^ 64)) s) else ok s

/-- Ramp units that the applied word, or under NUMERIC the root's own if that is further, still has to go (R47, R65). -/
def rampLeft (s : State) : Nat :=
  let d := (cwTarget s * cwUnit - s.clk.cwPos).natAbs
  if s.tim.numeric then max d (rootTarget s * cwUnit - s.clk.rootPos).natAbs else d

/-- RAMP_END (R47): time runs to the tick on which the applied word equals its target. -/
def execRampEnd (s : State) : Host.Outcome State Fault Refusal :=
  if s.clk.started ∧ cwFollows s = true ∧ rampLeft s ≠ 0 then
    let d := rampLeft s
    ok (advance ((d + (rampStep s).toNat - 1) / (rampStep s).toNat) s)
  else ok s

end Sys2Proof.Machine
end

