-- ==== Sys2Proof/Machine/CalOps.lean ====
section
/-! DEFINITION. Delays of a port in force (R89, R293), stated uncertainties and load-class mismatch (R107, R294, R295), the run list
(R287, R288). -/

namespace Sys2Proof.Machine

/-- Rate of a line port, RATE 3 acting as 0 (R205). -/
def portRate (s : State) (p : Nat) : Nat :=
  let r := getF s (Reg.PORT_PHY_CFG_RATE p)
  if r = 3 ∨ 32 ≤ p then 0 else r

/-- FEC of a line port (R205): BASE-R at 25 and 10 Gb/s, RS(528,514) at 25 Gb/s alone; any other combination acts as none. A trunk's is its own
(R207). -/
def portFec (s : State) (p : Nat) : Nat :=
  let f := getF s (Reg.PORT_PHY_CFG_FEC p)
  if 32 ≤ p then 3 else if (f = 1 ∧ portRate s p ≠ 2) ∨ (f = 2 ∧ portRate s p = 0) then f else 0

/-- Rate whose internal delays are in force (R206): a new one from the next Sync interval boundary. -/
def delayRate (s : State) (p : Nat) : Nat := (portS s p).rate

/-- Items of a port at its present rate. -/
def portItems (s : State) (p : Nat) : List CalItem := [.portDelay p (portRate s p), .bermRef p (portRate s p), .tempco p false]

/-- Internal delay of a port in force (R89, R293): record value, Berm change, temperature term as of the port's last Sync interval boundary;
k = 0 transmit, 1 receive. -/
def portDelay (s : State) (p k : Nat) : Int :=
  let base : Int := (calWord s ((itemWords (.portDelay p (delayRate s p))).getD k 0)).toNat
  let berm : Int := getS s (if k = 0 then Reg.PORT_BERM_TX p else Reg.PORT_BERM_RX p)
  let tc : Int := (calWord s ((itemWords (.tempco p false)).getD k 0)).toInt
  let ref : Int := (portS s p).refTemp.getD ((calWord s 5).truncate 16).toInt
  base + berm + tc * ((portS s p).dieT - ref) / 100

/-- Δtx or Δrx to the reference plane (R89). -/
def planeDelay (s : State) (p k : Nat) : Int :=
  portDelay s p k + (getF s (if k = 0 then Reg.PORT_BOARD_TX p else Reg.PORT_BOARD_RX p) : Nat)

/-- Combined standard uncertainty of R107 in 0.1 ps, and k of R295 in 0.1 ps per class, of a port. -/
def portBudget (s : State) (p : Nat) : Nat × Nat :=
  if 32 ≤ p then (250, 45)
  else
    match delayRate s p with
    | 1 => (100, 35)
    | 2 => (200, 60)
    | _ => (75, 30)

/-- Nearest whole square root. -/
def sqrtNear (x : Nat) : Nat := leastTick (fun k => decide (4 * x < (2 * k - 1) * (2 * k - 1))) 20 0 - 1

/-- Reference class of a port (R295). -/
def portRefClass (s : State) (p : Nat) : Nat := (portS s p).refClass.getD (bits (calWord s 1).toNat 16 2)

/-- Class difference of a port (R295). -/
def classDiff (s : State) (p : Nat) : Nat :=
  let a := portRefClass s p
  let b := getF s Reg.CAL_STATUS_PRESENT_CLASS
  max a b - min a b

/-- U_STATED in 0.1 ps (R107, R295): 0 until a calibration record applies. -/
def uStated (s : State) (p : Nat) : Nat :=
  if (itemWords (.portDelay p (delayRate s p))).all (fun k => decide (calWord s k = 0)) then 0
  else
    let b := portBudget s p
    let d := classDiff s p
    if 2 ≤ d then sqrtNear (4 * (b.1 ^ 2 + (b.2 * d) ^ 2)) else 2 * b.1

/-- A port is mismatched (R295); without a record in use no port has a reference class. -/
def mismatched (s : State) (p : Nat) : Bool := decide (calWord s 0 = 0x43414C31) && decide (2 ≤ classDiff s p)

/-- Re-evaluate the mismatch flags and stated uncertainties of every port (R295). -/
def evalMismatch (s : State) : State :=
  let bad := (List.range 36).filter (mismatched s)
  let lo := bad.foldl (fun a p => if p < 32 then a + 2 ^ p else a) 0
  let hi := bad.foldl (fun a p => if 32 ≤ p then a + 2 ^ (p - 32) else a) 0
  let s1 := (List.range 36).foldl (fun t p => setF t (Reg.PORT_U_STATED p) (uStated s p)) s
  setB (setF (setF s1 Reg.CAL_MISMATCH_LO lo) Reg.CAL_MISMATCH_HI hi) Reg.CAL_STATUS_CAL_LOAD_MISMATCH (bad ≠ [])

/-- Queue a Berm request; one already queued or in a window merges (R103). -/
def bermAsk (s : State) (r : BermReq) : State :=
  let standing := s.ports.bermQ.any (fun q => q.port = r.port) || (match s.ports.bermWin with | some w => decide (w.port = r.port) | none => false)
  let q := if standing then s.ports.bermQ.map (fun x => if x.port = r.port then { x with lossy := x.lossy || r.lossy } else x)
    else s.ports.bermQ ++ [r]
  let s1 := { s with ports := { s.ports with bermQ := q } }
  if standing then s1 else setF s1 (Reg.PORT_TT_STATUS_BERM_WAIT r.port) 1

/-! ### The run list (R287, R288) -/

/-- The run list is empty: the measurement ends, to CONFIG or to ACQUIRE by the entry mode (R25). -/
def endCal (s : State) : State :=
  if s.mode = .calibrate ∧ s.cal.run = [] then (if s.calEntry = .config then enterMode s .config else enterMode s .acquire) else s

/-- The head of the run list begins: BERM_REF asks for a Berm window (R103, R290). -/
def startHead (s : State) : State :=
  match s.cal.run with
  | r :: _ =>
    match r.item with
    | .bermRef p _ =>
      if s.ports.bermQ.any (fun q => q.port = p) then
        { s with ports := { s.ports with bermQ := s.ports.bermQ.map (fun q => if q.port = p then { q with cal := true } else q) } }
      else
        setF { s with ports := { s.ports with bermQ := s.ports.bermQ ++ [{ port := p, cal := true }] } } (Reg.PORT_TT_STATUS_BERM_WAIT p) 1
    | _ => s
  | [] => s

/-- The head leaves the list: the next one begins, or CALIBRATE ends. -/
def headDone (s : State) : State :=
  endCal (startHead { s with cal := { s.cal with run := s.cal.run.drop 1, tries := 0 } })

/-- One attempt of the head fails: three in all (R288). -/
def headFail (s : State) : State :=
  let k := s.cal.tries + 1
  if 3 ≤ k then headDone (raise s Reg.CAL_EVENTS_ITEM_FAIL) else startHead { s with cal := { s.cal with tries := k } }

/-! ### Load classes -/

/-- AUTO_RECAL asks for a Berm window on each newly mismatched port (R296). -/
def autoRecal (s : State) : State :=
  if getB s Reg.CAL_CFG_AUTO_RECAL then
    (List.range 36).foldl (fun t p =>
      if mismatched s p = true ∧ (portS s p).recalAsked = false then
        bermAsk (updPort t p (fun o => { o with recalAsked := true })) { port := p }
      else t) s
  else s

end Sys2Proof.Machine
end

