-- ==== Sys2Proof/Machine/Port.lean ====
section
/-! DEFINITION. Line and trunk ports (chapter 5): phase words (R81 to R86), timestamps (R87 to R89), link quantities (R90, R91), and Berm
windows (R101 to R106). -/

namespace Sys2Proof.Machine

/-! ### Phase words -/

/-- Tag of one stream in half helper cycles (R84): first rise after DGW low samples, and the last rise within the next DGW. -/
def ddmtdTag (dgw : Nat) (l : List Rise) : Option Nat :=
  match l.find? (fun r => decide (dgw ≤ r.lowBefore)) with
  | none => none
  | some a =>
    let near := l.filter (fun r => decide (a.cnt ≤ r.cnt) && decide (r.cnt ≤ a.cnt + dgw))
    some (a.cnt + (near.foldl (fun m r => max m r.cnt) a.cnt))

/-- Half cycles in one beat (R85). -/
def halfCycles : Nat := 32766

/-- Difference of a beat's tags, modulo one beat (R85). -/
def beatDiff (dgw : Nat) (b : Beat) : Option Nat :=
  match ddmtdTag dgw b.recv, ddmtdTag dgw b.ref with
  | some x, some y => some (((x : Int) - y) % halfCycles).toNat
  | _, _ => none

/-- Unwrap a difference to within half a period of the first (R85). -/
def unwrap (first d : Nat) : Int :=
  let e : Int := (d : Int) - first
  if (halfCycles : Int) < 2 * e then (d : Int) - halfCycles else if 2 * e < -(halfCycles : Int) then (d : Int) + halfCycles else d

/-- The phase word of sixteen differences (R85). -/
def phaseOf (l : List Nat) : Nat :=
  let first := l.headD 0
  let sum := sumInt (l.map (unwrap first))
  (roundDiv (sum * 2 ^ 18) (16 * halfCycles) % 2 ^ 18).toNat

/-- Sixteen beats as a phase word, none where a beat has no tag. -/
def phaseWordOf (dgw : Nat) (beats : List Beat) : Option Nat :=
  let d := beats.filterMap (beatDiff dgw)
  if beats.length = 16 ∧ d.length = 16 then some (phaseOf d) else none

/-- The port is in a Berm window (R102, R105). -/
def inWindow (s : State) (p : Nat) : Bool := match s.ports.bermWin with | some r => decide (r.port = p) | none => false

/-- A delay correction of the port is pending: of its calibrated items, or an accepted Berm measurement (R86, R102, R286). -/
def corrPending (s : State) (p : Nat) : Bool := (portItems s p).any (itemBusy s) || (portS s p).bermPend.isSome

/-- What makes the port's words STALE (R86). -/
def portStale (s : State) (p : Nat) : Bool := inWindow s p || corrPending s p

/-- The present group of sixteen beats began after the last invalidating condition had ended (R86). -/
def wordWhole (s : State) (p : Nat) : Bool :=
  match (portS s p).cleanAt with
  | some t => decide (t ≤ (portS s p).groupAt)
  | none => false

/-- A phase difference unwrapped to its value nearest zero (R101). -/
def phaseWrap (d : Int) : Int :=
  let m := d % 2 ^ 18
  if 2 ^ 17 ≤ m then m - 2 ^ 18 else m

/-- Frequency of the recovered clock against OSC_IN from two successive words (R81, R83): CK_REF runs at 1 + c, and one LSB in a word period
of 2^18 CK_REF cycles is 2^-36; a leading clock's phase falls. In 2^-60, the product of the two fractions left out (DEDUCED, log entry
128). -/
def wordFreq (s : State) (a b : Nat) : Int := cwRoot s - phaseWrap ((b : Int) - a) * 2 ^ 24

/-- A valid word `w` that is not stale is published (R85, R86): it ends what a Berm window left. -/
def publishPhase (s : State) (p w : Nat) : State :=
  let f := match (portS s p).phase with | some a => some (wordFreq s a w) | none => (portS s p).freq
  setF (setF (setF (updPort s p (fun o => { o with phase := some w, freq := f, after := false })) (Reg.PORT_PHASE_PHASE p) w)
    (Reg.PORT_PHASE_VALID p) 1) (Reg.PORT_PHASE_STALE p) 0

/-- PHASE_WORD (R85, R86): SEQ counts; a STALE word holds its last value; VALID sets with the first word whose beats all follow the end of
the invalidating condition. -/
def execPhaseWord (p : Nat) (beats : List Beat) (s : State) : Host.Outcome State Fault Refusal :=
  if 36 ≤ p then .fault .noSuchResource
  else if !powered s .gauge || !powered s (portDomain p) || !getB s (Reg.PORT_TT_CTRL_DDMTD_EN p) then ok s
  else
    let s1 := perf (incF s (Reg.PORT_PHASE_SEQ p) 1) 0x40 0x23 p 0 1
    let good := getB s (Reg.PORT_TT_STATUS_CDR_LOCK p) && getB s Reg.CLK_ROOT_STATUS_HELPER_LOCK && wordWhole s p
    let next := fun (t : State) => updPort t p (fun o => { o with groupAt := s.now })
    match phaseWordOf (getF s (Reg.PORT_TT_CTRL_DGW p)) beats with
    | none => ok (next (updPort s1 p (fun o => { o with phase := none })))
    | some w =>
      if portStale s p then ok (next (setF (updPort s1 p (fun o => { o with phase := none })) (Reg.PORT_PHASE_STALE p) 1))
      else if good then ok (next (publishPhase s1 p w))
      else ok (next s1)

/-- The receive CDR is out of lock: its divider stops (R82) and the port has no phase words (R86). -/
def cdrLose (s : State) (p : Nat) : State := phaseLose (updPort (setF s (Reg.PORT_TT_STATUS_CDR_LOCK p) 0) p (fun o => { o with divAt := none })) p

/-- PORT_SIGNAL_LOSS (R86): loss of signal or CDR unlock. What a Berm window itself brings, from its start to the first valid word after it, is
no loss of the port (R102, R105). -/
def execPortSignalLoss (p : Nat) (s : State) : Host.Outcome State Fault Refusal :=
  if 36 ≤ p then .fault .noSuchResource
  else if !powered s (portDomain p) || inWindow s p || (portS s p).after then ok s
  else ok (cdrLose s p)

/-! ### Timestamps -/

/-- Unit intervals in one divided clock period of 6.4 ns (R82). -/
def portDivider (s : State) (p : Nat) : Nat :=
  if 32 ≤ p then 170
  else
    match portRate s p with
    | 1 => 66
    | 2 => 8
    | _ => 165

/-- Unit intervals of a port's lane in fifths of 2^-16 ns (R82): `k` of them in 6.4 ns. -/
def uiFifths (s : State) (p : Nat) (uis : Int) : Int := uis * 2 ^ 21 / portDivider s p

/-- Ingress timestamp at the PCS in fifths (R88): the CK_REF edge of the safe capture, the phase word of the port, the unit intervals; on lane
Tn.1 of a trunk less its skew (R82). -/
def ingressStamp (s : State) (p : Nat) (m : PtpRx) : Int :=
  let phi := getF s (Reg.PORT_PHASE_PHASE p)
  let near := phi < 2 ^ 15 ∨ 2 ^ 18 - 2 ^ 15 < phi
  let edge := if near then m.fall - 2 ^ 20 else m.rise
  edge + 8 * (phi : Int) + uiFifths s p (m.uis - if m.lane1 && decide (32 ≤ p) then (portS s p).skew else 0)

/-- Egress timestamp at the PCS in 2^-16 ns (R88): the CK_REF edge, the phase of the transmit lane clock as the transmit tap measured it,
the unit intervals. -/
def egressStamp (s : State) (p : Nat) (c : EgressCap) : Int :=
  (c.edge + 8 * ((portS s p).txPhi : Int) + uiFifths s p c.uis) / 5

/-- delayAsymmetry of a port: d_in − rt/2 where α is set (R99). -/
def delayAsym (s : State) (p : Nat) : Int :=
  if 36 ≤ p ∨ getF s (Reg.PORT_ALPHA p) = 0 then 0
  else (getHL s (Reg.PORT_LINK_DLY_HI p) (Reg.PORT_LINK_DLY_LO p) : Nat) - (portS s p).rt / 2

/-- What a frame meets as it arrives at fabric port f (R19, R88, R111): later changes of delays and settings leave it as it is. -/
def arriveAt (s : State) (f : Nat) : Arrive :=
  { plane := if f < 36 then planeDelay s f 1 else 0, domain := domainAt s f, tc := tcAt s f, host := hostAt s f,
    transport := if f < 36 then (portS s f).transport else 0,
    din := if f < 36 then (getHL s (Reg.PORT_LINK_DLY_HI f) (Reg.PORT_LINK_DLY_LO f) : Nat) else 0, asym := delayAsym s f }

/-! ### Link delay -/

/-- rt, d_in and offset of a completed exchange (R90), with α of R91. -/
def linkQuantities (alpha t1 t2 t3 t4 : Int) : Int × Int × Int :=
  let rt := (t2 - t1) + (t4 - t3)
  let din := roundDiv (rt * (2 ^ 40 + alpha)) (2 ^ 41 + alpha).toNat
  (rt, din, t2 - t1 - din)

/-- LINK_DELAY_UPDATE (R90): an exchange is complete with its four timestamps. t1 and t4 are the partner's, the egress of its message
toward this port and the ingress of this port's; t2 and t3 are the device's own, and are those it took (R89). Its values wait for the next Sync interval boundary. In the master state rt
and d_in are for reporting only. With DELAY_MECH 0b10 no exchange completes. -/
def execLinkDelayUpdate (p : Nat) (t1 t2 t3 t4 : Int) (s : State) : Host.Outcome State Fault Refusal :=
  if 36 ≤ p then .fault .noSuchResource
  else if !powered s (portDomain p) || decide (delayMech s p = 2) then ok s
  else
    let master := decide (portState s p = .master)
    let o := portS s p
    match (if master then o.reqIn else o.syncIn), (if master then o.syncOut else o.reqOut) with
    | some own, some out =>
      let q := linkQuantities (getS s (Reg.PORT_ALPHA p)) t1 t2 t3 t4
      if t2 ≠ own ∨ t3 ≠ out then ok s
      else
        ok (updPort s p (fun o => { o with pendLink := some (q.1, q.2.1, if master then none else some q.2.2),
                                           quiet := if master then o.quiet else 0 }))
    | _, _ => ok s

/-- Publish the pending link quantities (R90); OFFSET holds while a correction of the port is pending (R286). -/
def publishLink (s : State) (p : Nat) : State :=
  match (portS s p).pendLink with
  | none => s
  | some (rt, din, ofs) =>
    let s1 := updPort s p (fun o => { o with pendLink := none, rt := rt })
    let s2 := setHL s1 (Reg.PORT_LINK_DLY_HI p) (Reg.PORT_LINK_DLY_LO p) din
    match ofs with
    | none => s2
    | some x =>
      if corrPending s p then s2
      else setHL (updPort s2 p (fun o => { o with ofs := some x })) (Reg.PORT_OFFSET_HI p) (Reg.PORT_OFFSET_LO p) x

/-- Accepted Berm values take effect (R102). -/
def applyBerm (s : State) (p : Nat) : State :=
  match (portS s p).bermPend with
  | none => s
  | some (tx, rx, temp) =>
    let s1 := updPort s p (fun o => { o with bermPend := none, refTemp := some temp, temps := (tx, rx, temp) :: o.temps })
    setF (setF (setF s1 (Reg.PORT_BERM_TX p) (twos 32 tx)) (Reg.PORT_BERM_RX p) (twos 32 rx)) (Reg.PORT_BERM_AGE p) 0

/-- The port's pending corrections take effect; a new Berm reference for its rate clears what the old one gave (R286). -/
def applyPortItems (s : State) (p : Nat) : State :=
  let s1 := (portItems s p).foldl applyItem s
  if (CalItem.bermRef p (portRate s p)) ∈ s.cal.pend then
    setF (setF (updPort s1 p (fun o => { o with temps := [] })) (Reg.PORT_BERM_TX p) 0) (Reg.PORT_BERM_RX p) 0
  else s1

/-- The PTP settings of a port, reserved values read as 0 (R92, R111), and the rate whose delays apply (R206); `q` counts the intervals without an update. -/
def applyPtpPort (s : State) (p q : Nat) : State :=
  let tr := getF s (Reg.PORT_PTP_XPORT_TRANSPORT p)
  updPort s p (fun o => { o with quiet := q, logSync := getS s (Reg.PORT_PTP_CFG_LOG_SYNC p), transport := if tr = 3 then 0 else tr,
                                 domain := domainCfg s, tcType := tcTypeCfg s, hostHandled := getB s Reg.PTPG_PTP_MODE_HOST_HANDLED,
                                 rate := portRate s p })

/-- CAL_STALE and the stated uncertainty of a port; STALE clears with the last pending correction, but not before the first valid word after a
window (R86, R102). -/
def portQuality (s : State) (p : Nat) : State :=
  let s1 := setB s (Reg.PORT_TT_STATUS_CAL_STALE p) (corrPending s p)
  let s2 := if portStale s p || (portS s p).after then s1 else setF s1 (Reg.PORT_PHASE_STALE p) 0
  setF s2 (Reg.PORT_U_STATED p) (uStated s2 p)

/-- Length of the port's Sync grid in 2^-56 ns, LOG_SYNC in force (R92): a power of two of seconds, at most 2^-7 of one; every multiple of it
from ToD second 0 is a boundary. -/
def syncStep (s : State) (p : Nat) : Nat := 10 ^ 9 * 2 ^ 56 * 2 ^ ((portS s p).logSync + 7).toNat / 2 ^ 7

/-- Time runs to the port's next Sync grid boundary, the tick itself where it brings one that has not been taken (R66, R92). -/
def runToSync (s : State) (p : Nat) : State :=
  let here := decide (s.tim.tod % syncStep s p < 8 * 2 ^ 56 / 5) && decide ((portS s p).syncAt ≠ some s.now)
  if here || !s.clk.started then s else advance (ticksToNext s (syncStep s p)) s

/-! ### Berm path -/

/-- Reference temperature of a port in 0.01 °C (R102, R293): of the last accepted measurement, else the record's. -/
def refTempOf (s : State) (p : Nat) : Int := (portS s p).refTemp.getD ((calWord s 5).truncate 16).toInt

/-- A trigger's condition holds (R103): BERM_AGE has reached PERIOD_S, or the die temperature lies DT or more off the reference. -/
def bermDue (s : State) (p : Nat) (t : BermTrig) : Bool :=
  match t with
  | .period => decide (getF s (Reg.PORT_BERM_CFG_PERIOD_S p) ≠ 0) && decide (getF s (Reg.PORT_BERM_CFG_PERIOD_S p) ≤ getF s (Reg.PORT_BERM_AGE p))
  | .temperature => decide (getF s (Reg.PORT_BERM_CFG_DT p) ≠ 0) &&
      decide (10 * getF s (Reg.PORT_BERM_CFG_DT p) ≤ (getS s Reg.CAL_DIE_TEMP - refTempOf s p).natAbs)

/-- BERM_REQUEST (R103): the periodic or the temperature trigger. -/
def execBermRequest (p : Nat) (t : BermTrig) (s : State) : Host.Outcome State Fault Refusal :=
  if 36 ≤ p then .fault .noSuchResource
  else if powered s (portDomain p) && getB s (Reg.PORT_TT_CTRL_BERM_EN p) && bermDue s p t then ok (bermAsk s { port := p })
  else ok s

/-- The device's transmitters run (R35, R37). -/
def txOn (s : State) : Bool :=
  match s.mode with
  | .reset | .boot | .fault => false
  | _ => true

/-- BERM_GAP_REQUEST (R104): the next exchange asks for a gap whose start W lies at least 10 ms ahead; a TMR-3618 partner confirms it, else the
request is made again. -/
def execBermGapRequest (p : Nat) (a : GapAsk) (s : State) : Host.Outcome State Fault Refusal :=
  if 36 ≤ p then .fault .noSuchResource
  else if txOn s && s.ports.bermQ.any (fun r => r.port = p) && getB s (Reg.PORT_PHY_STATUS_LINK_UP p) then
    let at_ := max a.w (todVis s + 10 ^ 7 * 65536)
    ok (setB (updPort (emit s (.gapAsk p at_)) p (fun o => { o with gapAsk := some at_, gapOk := if a.confirmed then some at_ else none }))
      (Reg.PORT_TT_STATUS_PARTNER_TMR p) a.confirmed)
  else ok s

/-- A confirmed gap whose start W has not passed (R104). -/
def gapAhead (s : State) (p : Nat) : Option Nat := (portS s p).gapOk.filter (fun w => decide (todVis s < w + 104858))

/-- A window may open on port p without a partner's gap (R104). -/
def gapLossy (s : State) (r : BermReq) : Bool :=
  decide (s.mode = .config) || decide (s.mode = .calibrate) || getB s (Reg.PORT_TT_CTRL_BERM_LOSSY r.port) || r.lossy

/-- The conditions of a request but for its turn (R103): link and CDR, mode, gap. -/
def bermMay (s : State) (r : BermReq) : Bool :=
  getB s (Reg.PORT_PHY_STATUS_LINK_UP r.port) && getB s (Reg.PORT_TT_STATUS_CDR_LOCK r.port) && decide (s.mode ≠ .bench) && decide (s.mode ≠ .timekeep) &&
    ((gapAhead s r.port).isSome || gapLossy s r)

/-- The request whose turn it is (R103): the first of the queue whose conditions hold. -/
def bermNext (s : State) : Option BermReq := s.ports.bermQ.find? (bermMay s)

/-- BERM_WINDOW_START (R102 to R104): time runs to the confirmed W, or the window starts now. -/
def execBermWindowStart (p : Nat) (s : State) : Host.Outcome State Fault Refusal :=
  if 36 ≤ p then .fault .noSuchResource
  else
    match bermNext s with
    | none => ok s
    | some r =>
      if r.port = p ∧ s.ports.bermWin.isNone = true then
        let s0 := match gapAhead s p with | some w => runTo s (w * 2 ^ 40) | none => s
        let s1 := { s0 with ports := { s0.ports with bermQ := s0.ports.bermQ.erase r, bermWin := some r } }
        let s2 := setF (setF (setF s1 (Reg.PORT_TT_STATUS_BERM_WAIT p) 0) (Reg.PORT_TT_STATUS_BERM_BUSY p) 1) (Reg.PORT_PHASE_STALE p) 1
        ok (perf (updPort s2 p (fun o => { o with gapAsk := none, gapOk := none })) 0x41 0x23 p 0 1)
      else ok s

/-- Two phases agree within 2 ps (R102): LSB 6,400 ps / 2^18. -/
def phaseAgree (a b : Nat) : Bool := decide ((phaseWrap ((a : Int) - b)).natAbs * 6400 ≤ 2 * 2 ^ 18)

/-- Mean of two phases, in half LSB (R102). -/
def phaseMean2 (a b : Nat) : Int := 2 * (a : Int) + phaseWrap ((b : Int) - a)

/-- Half LSBs of phase as 2^-16 ns: one LSB is 1.6 units. -/
def phaseUnits (h : Int) : Int := roundDiv (h * 4) 5

/-- Transmit and receive changes since the last full calibration (R101), in 2^-16 ns. -/
def bermChange (s : State) (p txA loopA txB loopB : Nat) : Int × Int :=
  let w := itemWords (.bermRef p (portRate s p))
  let ct : Int := 2 * ((calWord s (w.getD 0 0)).toNat % 2 ^ 18 : Nat)
  let cl : Int := 2 * ((calWord s (w.getD 1 0)).toNat % 2 ^ 18 : Nat)
  let wrap2 := fun (d : Int) => let m := d % 2 ^ 19; if 2 ^ 18 ≤ m then m - 2 ^ 19 else m
  let t := phaseMean2 txA txB
  let l := phaseMean2 loopA loopB
  (phaseUnits (wrap2 (t - ct)), phaseUnits (wrap2 ((l - t) - (cl - ct))))

/-- An accepted Berm measurement of a port takes the present load class as its reference class (R295, R296). -/
def takeClass (s : State) (p : Nat) : State :=
  let c := getF s Reg.CAL_STATUS_PRESENT_CLASS
  evalMismatch (updPort s p (fun o => { o with refClass := some c, recalAsked := o.recalAsked && decide (portRefClass s p = c) }))

/-- BERM_WINDOW_END (R102, R288): repeats within 2 ps are accepted; otherwise the measurement is made again, three attempts in all. The
phases of a window asked by BERM_REF are its results (R290), which its completion takes. The die temperature is the window's. The transmit
tap's phase serves the egress timestamps (R88). The phase word stays STALE until the first valid word after it (R102). -/
def execBermWindowEnd (txA loopA txB loopB : Nat) (dieTemp : Int) (s : State) : Host.Outcome State Fault Refusal :=
  match s.ports.bermWin with
  | none => ok s
  | some r =>
    let p := r.port
    let s0 := setF s Reg.CAL_DIE_TEMP (twos 16 dieTemp)
    let s1 := setF { s0 with ports := { s0.ports with bermWin := none } } (Reg.PORT_TT_STATUS_BERM_BUSY p) 0
    let s2 := updPort s1 p (fun o => { o with after := true, cleanAt := some s.now, groupAt := s.now, txPhi := (phaseMean2 txA txB / 2 % 2 ^ 18).toNat })
    if r.cal then ok s2
    else if phaseAgree txA txB && phaseAgree loopA loopB then
      let c := bermChange s p txA loopA txB loopB
      ok (takeClass (raise (updPort s2 p (fun o => { o with bermPend := some (c.1, c.2, dieTemp), tries := 0 })) (Reg.PORT_TT_EVENTS_BERM_DONE p)) p)
    else
      let n := (portS s p).tries + 1
      let s3 := raise (updPort s2 p (fun o => { o with tries := if n < 3 then n else 0 })) (Reg.PORT_TT_EVENTS_BERM_DISAGREE p)
      ok (if n < 3 then bermAsk s3 r else s3)

/-- A link that goes down or is flushed in a window abandons the measurement; it counts as an attempt (R105). -/
def bermAbandon (s : State) (p : Nat) : State :=
  match s.ports.bermWin with
  | some r =>
    if r.port = p then
      let s1 := raise (setF { s with ports := { s.ports with bermWin := none } } (Reg.PORT_TT_STATUS_BERM_BUSY p) 0)
        (Reg.PORT_TT_EVENTS_BERM_ABANDONED p)
      if r.cal then
        match s1.cal.run with
        | h :: _ => if h.item = .bermRef p (portRate s p) then headFail s1 else s1
        | [] => s1
      else
        let n := (portS s p).tries + 1
        let s2 := updPort s1 p (fun o => { o with tries := if n < 3 then n else 0 })
        if n < 3 then bermAsk s2 r else s2
    else s
  | none => s

end Sys2Proof.Machine
end

