-- ==== Sys2Proof/Machine/Fab.lean ====
section
/-! DEFINITION. The switch core (chapter 9), first part: cells of Polder and Spillway, ports, gate lists, counters, the state of
an egress, admission to queues and to the Sluice lane. -/

namespace Sys2Proof.Machine

/-! ### Cells (R190 to R192) -/

/-- Cells of the Polder. -/
def polderCells : Nat := 131072

/-- Cells of the Spillway (R192). -/
def spillCells : Nat := 67108864

/-- Polder cells of a queued frame: stored, staged, prefetched. -/
def QFrame.polder (f : QFrame) : Nat := f.pol + f.stg + f.pre

/-- Frames of queue q, oldest first. -/
def queueOf (s : State) (q : Nat) : List QFrame := s.fab.frames.filter (fun f => f.q = q)

/-- Q_OCC (R203): Polder cells held, prefetch and staging included. -/
def queueOcc (s : State) (q : Nat) : Nat := sumNat ((queueOf s q).map QFrame.polder)

/-- Spillway cells of queue q. -/
def queueSpill (s : State) (q : Nat) : Nat := sumNat ((queueOf s q).map (·.spl))

/-- Cells of Sluice frames. -/
def sluiceCells (s : State) : Nat := sumNat (s.fab.sluice.map (fun f => cellsOf f.len))

/-- Polder cells in use. -/
def polderUsed (s : State) : Nat := sumNat (s.fab.frames.map QFrame.polder) + sluiceCells s

/-- POLDER_FREE (R201). -/
def polderFree (s : State) : Nat := polderCells - polderUsed s

/-- SPILL_USED (R201). -/
def spillUsed (s : State) : Nat := sumNat (s.fab.frames.map (·.spl))

/-- The Spillway is paused (R51, R52, R193): the HBM PLL is relocking or failed. -/
def spillPaused (s : State) : Bool := !getB s Reg.CLK_HBM_PLL_LOCKED || getB s Reg.CLK_HBM_PLL_RELOCKING

/-- SPILLING clears when the queue has no cell in the Spillway and its Polder occupancy is below FB_LO (R191). -/
def spillCheck (s : State) (q : Nat) : State :=
  if queueSpill s q = 0 ∧ queueOcc s q < getF s (Reg.Q_Q_FB_LO q) then setF s (Reg.Q_Q_CFG_SPILLING q) 0 else s

/-! ### Ports -/

/-- LINK_UP of a fabric port. -/
def fabUp (s : State) (f : Nat) : Bool := getB s (Reg.FP_SW_STATUS_LINK_UP f)

/-- Nominal rate in Mb/s, for the comparison of R178; a Jieth link in DEGRADED runs on one pair (R223). -/
def portMbps (s : State) (f : Nat) : Nat :=
  if 36 ≤ f then (if getF s (Reg.LINK_LINK_STATUS_STATE (f - 36)) = 6 then 103000 else 206000)
  else if 32 ≤ f then 100000 else match portRate s f with | 1 => 10000 | 2 => 1000 | _ => 25000

/-- Picoseconds of `k` bytes at a port's rate, rounded up on a Jieth link (R205, R207, R223). -/
def bytesPs (s : State) (f k : Nat) : Nat := (k * 8000000 + portMbps s f - 1) / portMbps s f

/-- Picoseconds of one byte. -/
def bytePs (s : State) (f : Nat) : Nat := bytesPs s f 1

/-- The port holds its egress for a partner's Berm gap, W to W + 7 ms (R104). -/
def inGap (s : State) (f : Nat) : Bool :=
  match (portS s f).gapW with
  | some w => decide (f < 36) && decide (w ≤ todVis s) && decide (todVis s < w + 7 * 10 ^ 6 * 65536)
  | none => false

/-! ### Gate lists (R185 to R188) -/

/-- Entry in force at `pos` ns into a cycle: the last holds beyond the entries' sum. -/
def entryAt : List (Nat × Nat) → Nat → Nat → Nat × Nat
  | [], i, _ => (0xFF, i)
  | [e], i, _ => (e.1, i)
  | e :: r, i, pos => if pos < e.2 then (e.1, i) else entryAt r (i + 1) (pos - e.2)

/-- How far an instant in ns lies ahead of another: signed, modulo 2^62 ns (R66). -/
def aheadNs (a b : Nat) : Int :=
  let d := ((a : Int) - b) % 2 ^ 62
  if 2 ^ 61 ≤ d then d - 2 ^ 62 else d

/-- Gate states and entry index of a list at ToD `t` ns, before a pending start `st` with extension `ext` (R185, R186): before BASE
all gates stand open. -/
def listAt (l : GateList) (pend : Option (Nat × Nat)) (t : Nat) : Nat × Nat :=
  let d := aheadNs t l.base
  if d < 0 ∨ l.cycle = 0 then (0xFF, 0)
  else
    let pos := d.toNat % l.cycle
    let cs : Int := d - pos
    let stretched := match pend with
      | some (st, ext) => decide (0 < cs) && decide (cs < aheadNs st l.base) && decide (aheadNs st l.base - cs ≤ ext)
      | none => false
    entryAt l.entries 0 (if stretched then pos + l.cycle else pos)

/-- The pending list of a port has reached its start at ToD `t` ns (R66, R186). -/
def listBegun (g : GateS) (t : Nat) : Bool := decide (0 ≤ aheadNs t g.start)

/-- Gate states and entry index of port f at ToD `t` ns (R185, R186): all open with GATE_EN = 0, on a Jieth port, or before a
first list takes effect. -/
def gatesAt (s : State) (f t : Nat) : Nat × Nat :=
  if 36 ≤ f || !getB s (Reg.FP_SW_CFG_GATE_EN f) then (0xFF, 0)
  else
    let g := gateS s f
    match g.admin with
    | some a => if listBegun g t then listAt a none t else (match g.run with | some r => listAt r (some (g.start, a.ext)) t | none => (0xFF, 0))
    | none => (match g.run with | some r => listAt r none t | none => (0xFF, 0))

/-- ToD in whole ns. -/
def todWholeNs (s : State) : Nat := s.tim.tod / 2 ^ 56

/-- Gate of class tc of port f is open now. -/
def gateOpen (s : State) (f tc : Nat) : Bool := decide (bits (gatesAt s f (todWholeNs s)).1 tc 1 = 1)

/-- Starts of the entries of one cycle, from `at_` ns, within a cycle that ends at `stop`. -/
def entryStarts : List (Nat × Nat) → Nat → Nat → List Nat
  | [], _, _ => []
  | e :: r, at_, stop => if stop ≤ at_ then [] else at_ :: entryStarts r (at_ + e.2) stop

/-- Boundaries of a list in its cycle at `t` and in the next, in ns. -/
def listBounds (l : GateList) (t : Nat) : List Nat :=
  if l.cycle = 0 then []
  else
    let cs := if aheadNs t l.base < 0 then l.base else t - (aheadNs t l.base).toNat % l.cycle
    entryStarts l.entries cs (cs + l.cycle) ++ entryStarts l.entries (cs + l.cycle) (cs + 2 * l.cycle)

/-- Boundaries at which port f's gates may change, in ns. -/
def gateBounds (s : State) (f : Nat) : List Nat :=
  let g := gateS s f
  let t := todWholeNs s
  let r := match g.run with | some l => listBounds l t | none => []
  match g.admin with
  | some a => r ++ g.start :: listBounds a (if listBegun g t then t else g.start)
  | none => r

/-- Boundaries of a list that lie ahead, as distances from now in ns (R66). -/
def boundsAhead (s : State) (l : List Nat) : List Nat :=
  (l.filter (fun b => decide (0 < aheadNs b (todWholeNs s)))).map (fun b => (aheadNs b (todWholeNs s)).toNat)

/-- Distance in ns from the present whole ns to the first instant at which gate tc of port f is closed, looking over this cycle and the
next; none if it stays open over both. -/
def gateCloses (s : State) (f tc : Nat) : Option Nat :=
  minNat (boundsAhead s ((gateBounds s f).filter (fun b => decide (bits (gatesAt s f b).1 tc 1 = 0))))

/-- A pending list whose start has come takes effect (R186). -/
def takeList (s : State) (f : Nat) : State :=
  match (gateS s f).admin with
  | some a => if listBegun (gateS s f) (todWholeNs s) then updGate s f (fun g => { g with run := some a, admin := none }) else s
  | none => s

/-- GATE_CHANGE (R185): time runs to the next entry boundary of port f, on whose tick the gate states change. -/
def execGateChange (f : Nat) (s : State) : Host.Outcome State Fault Refusal :=
  if 36 ≤ f then .fault .noSuchResource
  else if !powered s .fab then ok s
  else
    match minNat (boundsAhead s (gateBounds s f)) with
    | some d => ok (takeList (runTo s ((todWholeNs s + d) * 2 ^ 56)) f)
    | none => ok s

/-- GATE_LIST_TAKE_EFFECT (R186): time runs to the pending list's start; GATE_PENDING clears. -/
def execGateListTakeEffect (f : Nat) (s : State) : Host.Outcome State Fault Refusal :=
  if 36 ≤ f then .fault .noSuchResource
  else if !powered s .fab then ok s
  else
    match (gateS s f).admin with
    | some a =>
      let d := (aheadNs (gateS s f).start (todWholeNs s)).toNat
      ok (updGate (runTo s ((todWholeNs s + d) * 2 ^ 56)) f (fun g => { g with run := some a, admin := none }))
    | none => ok s

/-- ToD in ns, rounded up. -/
def todCeilNs (s : State) : Nat := (s.tim.tod + 2 ^ 56 - 1) / 2 ^ 56

/-- Start of a list loaded at ToD `t` ns: first BASE + k × CYCLE at least 256 ns ahead (R66, R186). -/
def listStart (l : GateList) (t : Nat) : Nat :=
  let a := aheadNs l.base t
  if 256 ≤ a ∨ l.cycle = 0 then l.base else l.base + (((256 - a).toNat + l.cycle - 1) / l.cycle) * l.cycle

/-- A STEP moves the schedule with the ToD (R187): a list in effect stays so. -/
def takeLists (s : State) : State := (List.range 36).foldl takeList s

/-! ### Counters of a fabric port -/

/-- A frame dropped or flushed by any counted cause (R279). -/
def perfDrop (s : State) (f tc : Nat) : State := perf s 0x33 0x23 f tc 1

/-- Count a discard at ingress (R177, R179, R104). -/
def countDiscard (s : State) (f : Nat) : State :=
  perfDrop (incHL s (Reg.FP_RX_DISCARD_HI f) (Reg.FP_RX_DISCARD_LO f) 1) f 0

/-- Count a drop at admission. -/
def countAdmit (s : State) (f tc : Nat) : State :=
  perfDrop (incHL s (Reg.FP_DROP_ADMIT_HI f) (Reg.FP_DROP_ADMIT_LO f) 1) f tc

/-- Count a Sluice drop. -/
def countSluiceDrop (s : State) (f : Nat) : State :=
  perfDrop (incHL s (Reg.FP_SLUICE_DROP_HI f) (Reg.FP_SLUICE_DROP_LO f) 1) f 7

/-- Count flushed frames. -/
def countFlushed (s : State) (f k : Nat) : State :=
  incHL s (Reg.FP_FLUSHED_HI f) (Reg.FP_FLUSHED_LO f) k

/-- Count a frame sent. -/
def countTx (s : State) (f len : Nat) : State :=
  incHL (incHL s (Reg.FP_TX_FRAMES_HI f) (Reg.FP_TX_FRAMES_LO f) 1) (Reg.FP_TX_BYTES_HI f) (Reg.FP_TX_BYTES_LO f) len

/-! ### The egresses in time -/

/-- Egress f. -/
def egS (s : State) (f : Nat) : EgS := s.fab.egress.getD f {}

/-- Change egress f. -/
def updEg (s : State) (f : Nat) (g : EgS → EgS) : State := { s with fab := { s.fab with egress := listUpd {} s.fab.egress f g } }

/-- Device time in ps. -/
def nowPs (s : State) : Nat := 1600 * s.now

/-- Time passes to the first tick at or after an instant of device time in ps. -/
def runPs (s : State) (ps : Nat) : State := if nowPs s < ps then advance ((ps - nowPs s + 1599) / 1600) s else s

/-- Time that a frame or fragment of `k` data bytes takes on port f: with preamble and gap, and the mCRC of a fragment that is not the last
(R188, R189); on a Jieth link its bytes alone. -/
def txPs (s : State) (f k : Nat) (last : Bool) : Nat := bytesPs s f (if 36 ≤ f then k else if last then k + 20 else k + 24)

/-! ### Admission -/

/-- The queue stores new cells in the Polder (R191): its occupancy is at most FB_HI and the free pool exceeds the reserve. -/
def polderOpen (s : State) (q : Nat) : Bool :=
  decide (queueOcc s q ≤ getF s (Reg.Q_Q_FB_HI q)) && decide (getF s Reg.FAB_POLDER_RSV < polderFree s)

/-- SPILLING sets when either condition of R191 fails. -/
def spillMark (s : State) (q : Nat) : State := if polderOpen s q then s else setF s (Reg.Q_Q_CFG_SPILLING q) 1

/-- The conditions of R191 are looked at again for every queue that holds a frame. -/
def spillMarks (s : State) : State := ((s.fab.frames.map (·.q)).eraseDups).foldl spillMark s

/-- A read of the Spillway waits: some queue has spilled cells and a free prefetch cell (R191). Reads take precedence over writes (R192). -/
def spillReads (s : State) : Bool :=
  s.fab.frames.any (fun f => decide (f.spl ≠ 0) && decide (sumNat ((queueOf s f.q).map (·.pre)) < 64))

/-- Where the `n` cells of a new frame of queue q go (R191), one by one: stored while the queue is at or below FB_HI and the free
pool exceeds the reserve, the rest for the Spillway. -/
def cellSplit (occ free hi rsv : Nat) : Nat → Nat × Nat
  | 0 => (0, 0)
  | n + 1 => if occ ≤ hi ∧ rsv < free then
      let r := cellSplit (occ + 1) (free - 1) hi rsv n
      (r.1 + 1, r.2)
    else (0, n + 1)

/-- POLDER_LOW when the free pool reaches the reserve (R201). -/
def polderLow (old : State) (s : State) : State :=
  let rsv := getF s Reg.FAB_POLDER_RSV
  raiseIf (decide (rsv < polderFree old) && decide (polderFree s ≤ rsv)) s Reg.FAB_EVENTS_POLDER_LOW

/-- Admit a frame to its queue or drop it whole (R190 to R192). Cells for the Spillway wait in staging while it is paused, behind cells
staged before, and behind reads. -/
def enqueue (s : State) (fr : QFrame) : State :=
  let q := fr.q
  let n := cellsOf fr.len
  let free := polderFree s
  let rsv := getF s Reg.FAB_POLDER_RSV
  let split := if getB s (Reg.Q_Q_CFG_SPILLING q) then (0, n) else cellSplit (queueOcc s q) free (getF s (Reg.Q_Q_FB_HI q)) rsv n
  let over_ := split.2
  let stage := spillPaused s || (queueOf s q).any (fun f => decide (f.stg ≠ 0)) || spillReads s
  let full := decide (spillCells < spillUsed s + over_)
  let max_ := getF s (Reg.Q_Q_CFG_SPILL_MAX q)
  let limit := decide (max_ ≠ 0) && decide (max_ * 1024 ≤ queueSpill s q)
  let noStage := stage && decide (free < rsv + split.1 + over_)
  let s0 := if over_ = 0 then s else setF s (Reg.Q_Q_CFG_SPILLING q) 1
  if over_ ≠ 0 ∧ (full = true ∨ limit = true ∨ noStage = true) then
    countAdmit (raiseIf full s0 Reg.FAB_EVENTS_SPILL_FULL) (q / 8) (q % 8)
  else
    let fr1 := { fr with pol := split.1, stg := if stage then over_ else 0, spl := if stage then 0 else over_ }
    let s1 := { s0 with fab := { s0.fab with frames := s0.fab.frames ++ [fr1] } }
    let s3 := perf s1 0x30 0x23 (q / 8) (q % 8) 1
    let s4 := if fr1.spl = 0 then s3 else perf s3 0x31 0x23 (q / 8) (q % 8) fr1.spl
    spillMarks (polderLow s s4)

/-- Admit a Sluice frame to its egress (R194). -/
def admitSluice (s : State) (fr : SFrame) : State :=
  let count := (s.fab.sluice.filter (fun x => x.f = fr.f)).length
  let used := sluiceCells s + sumNat (s.fab.frames.map (·.pre))
  if 32 ≤ count ∨ getF s Reg.FAB_POLDER_RSV < used + cellsOf fr.len then countSluiceDrop s fr.f
  else
    let s1 := { s with fab := { s.fab with sluice := s.fab.sluice ++ [fr] } }
    spillMarks (polderLow s (perf s1 0x30 0x23 fr.f 7 1))

end Sys2Proof.Machine
end

