-- ==== Sys2Proof/Machine/Forward.lean ====
section
/-! DEFINITION. The switch core (chapter 9), second part: the MAC table and learning, what a frame meets from its ingress FIFO to its
egress queues, cut-through transmission, and what the device does with the PTP messages it receives (R93 to R99). -/

namespace Sys2Proof.Machine

/-! ### Tables (R179 to R182) -/

/-- VLAN of a VID. -/
def vlanOf (s : State) (vid : Nat) : Option Vlan := s.fab.vlans.find? (fun v => v.vid = vid)

/-- VID of a frame at port f (R179): PVID for untagged and priority-tagged frames; 0 and 4095 act as 1. -/
def ingressVid (s : State) (f : Nat) (fr : FrameIn) : Nat :=
  let p := getF s (Reg.FP_SW_CFG_PVID f)
  let pvid := if p = 0 ∨ p = 4095 then 1 else p
  match fr.tag with
  | none => pvid
  | some (v, _) => if v = 0 then pvid else v

/-- AGE_S in ticks (R182). -/
def ageTicks (s : State) : Nat := getF s Reg.FAB_CFG_AGE_S * 625000000

/-- The ager has not had to remove an entry yet (R182): it is static, or seen within 1.25 × AGE_S. -/
def macLive (s : State) (e : MacEntry) : Bool := e.isStatic || decide (4 * (s.now - e.seen) ≤ 5 * ageTicks s)

/-- MAC entry of a VID and an address. -/
def macFind (s : State) (vid mac : Nat) : Option MacEntry := s.fab.macs.find? (fun e => e.vid = vid && e.mac = mac && macLive s e)

/-- Replace or append the entry of (vid, mac). -/
def macSet (s : State) (e : MacEntry) : State :=
  let rest := s.fab.macs.filter (fun x => !(x.vid = e.vid && x.mac = e.mac))
  { s with fab := { s.fab with macs := rest ++ [e] } }

/-- Entries in the bucket of (vid, mac) (R180). -/
def bucketOf (s : State) (b : Nat) : List MacEntry := s.fab.macs.filter (fun e => decide ((Config.macHash e.vid e.mac).toNat = b) && macLive s e)

/-- The bucket of (vid, mac) has a free way (R180). -/
def bucketFree (s : State) (vid mac : Nat) : Bool := decide ((bucketOf s (Config.macHash vid mac).toNat).length < 4)

/-- Learning (R181) and the refresh of what R182 calls seen. -/
def learn (s : State) (f vid mac : Nat) : State :=
  if !getB s Reg.FAB_CFG_LEARN_EN then s
  else
    match macFind s vid mac with
    | some e => if e.isStatic then s else macSet s { e with mask := 2 ^ f, seen := s.now }
    | none => if bucketFree s vid mac then macSet s { vid := vid, mac := mac, mask := 2 ^ f, isStatic := false, seen := s.now }
              else incF s Reg.FAB_LEARN_FAIL 1

/-- MAC_AGE_OUT (R182): a dynamic entry not seen for AGE_S seconds is removed; static entries never age. -/
def execMacAgeOut (vid mac : Nat) (s : State) : Host.Outcome State Fault Refusal :=
  ok { s with fab := { s.fab with macs := s.fab.macs.filter (fun e =>
    !(e.vid = vid && e.mac = mac && !e.isStatic && decide (ageTicks s ≤ s.now - e.seen))) } }

/-! ### Where a frame goes (R179, R180, R184) -/

/-- Reserved destination addresses go to the firmware (R180). -/
def reservedDst (d : Nat) : Bool := decide (0x0180C2000000 ≤ d) && decide (d ≤ 0x0180C200000F)

/-- Egress ports of a destination (R180): its entry's or the flood set, less the ingress port, within the VID's members. A broadcast with a
static entry goes to that entry's ports (DESIGN CHOICE, log entry 129). -/
def egressPorts (s : State) (f vid dst : Nat) (v : Vlan) : List Nat :=
  let m := match macFind s vid dst with
    | some e => e.mask
    | none => 2 ^ 42 - 1
  (List.range 42).filter (fun g => decide (g ≠ f) && decide (bits m g 1 = 1) && decide (bits v.member g 1 = 1))

/-- Traffic class of a frame (R184). -/
def trafficClass (s : State) (f : Nat) (fr : FrameIn) : Nat :=
  let pcp := match fr.tag with | some (_, p) => p % 8 | none => 0
  bits (getF s (Reg.FP_SW_CFG_PCP_MAP f)) (3 * pcp) 3

/-- Length at an egress: a tag is added or removed (R179). -/
def egressLen (fr : FrameIn) (v : Vlan) (g : Nat) : Nat :=
  let untag := decide (bits v.untag g 1 = 1)
  match fr.tag with
  | none => if untag then fr.len else fr.len + 4
  | some _ => if untag then fr.len - 4 else fr.len

/-- Modes in which frames are forwarded (R24). -/
def forwards (s : State) : Bool :=
  match s.mode with
  | .freerun | .acquire | .locked | .holdover | .standby | .calibrate => true
  | _ => false

/-! ### PTP among the frames (R93, R97, R99, R194) -/

/-- The PTP message of the domain and transport in force that a frame carries (R93, R111): another is an ordinary frame. -/
def ptpHere (f : Nat) (fr : FrameIn) (a : Arrive) : Option PtpHdr :=
  fr.ptp.filter (fun h => decide (h.domain = a.domain) && (decide (36 ≤ f) || decide (h.transport = a.transport)))

/-- A forwarded event message that the Sluice lane or TC7 takes to egress g (R194): as a transparent clock, or between the fabric and a
Jieth link. -/
def sluiceWay (f g : Nat) (fr : FrameIn) (a : Arrive) : Bool :=
  match ptpHere f fr a with
  | some h => h.kind.event && (decide (a.tc ≠ 0) || (decide (36 ≤ f) != decide (36 ≤ g)))
  | none => false

/-- It takes the Sluice lane up to 256 bytes, else it travels in TC7 (R194). -/
def takesSluice (f g : Nat) (fr : FrameIn) (len : Nat) (a : Arrive) : Bool := sluiceWay f g fr a && decide (len ≤ 256)

/-- What the ingress adds to the correctionField (R98, R99): a peer-to-peer clock d_in to Sync, both kinds the ingress asymmetry to Sync and
Pdelay_Resp. d_in already holds the asymmetry of the span; R99 names both, and the model adds both (DESIGN CHOICE, log entry 130). -/
def ingressCorr (h : PtpHdr) (a : Arrive) : Int :=
  (if a.tc = 2 ∧ h.kind = .sync then a.din else 0) +
    (if a.tc ≠ 0 ∧ (h.kind = .sync ∨ h.kind = .pdelayResp) then a.asym else 0)

/-- Sluice frame of the device itself (R194): its source port is none of the fabric's. -/
def ownSource : Nat := 42

/-- An event message that the firmware originates on a port (R194, R195): released at the ToD its firmware schedules, the present one. -/
def originate (s : State) (p : Nat) (k : PtpKind) : State :=
  if authMissing s p then raise s Reg.SEC_EVENTS_AUTH_KEY_MISSING
  else admitSluice s { f := p, len := (Config.ptpLen k).toNat, src := ownSource, ingTs := todVis s, release := todVis s,
                       hdr := { kind := k, domain := (portS s p).domain, corr := 0, transport := (portS s p).transport, source := Config.serial.toNat } }

/-- Take an Announce's dataset and UTC data on a port (R94, R95). -/
def takeAnnounce (s : State) (f : Nat) (fr : FrameIn) : State :=
  match fr.ann with
  | none => s
  | some (d, utc) => updPort s f (fun o => { o with ann := some d, utc := utc })

/-- Firmware's part for a PTP message on a port (R90, R93): own timestamps of an exchange, replies to requests, Announce data, the L1Sync
exchange; a request for unicast negotiation is counted and ignored, an L1Sync TLV with optional parameters ignored. -/
def firmwarePtp (s : State) (f : Nat) (fr : FrameIn) (h : PtpHdr) (a : Arrive) : State :=
  let plane : Int := (fr.ingTs : Int) - a.plane
  let st := if fr.resolved then some plane else none
  let mech := delayMech s f
  match h.kind with
  | .sync => updPort s f (fun o => { o with syncIn := st.or o.syncIn })
  | .delayReq =>
    if mech ≠ 0 then s
    else
      let s1 := updPort s f (fun o => { o with reqIn := st.or o.reqIn })
      if portState s f = .master ∧ fr.resolved = true then sendMessage s1 f { kind := .delayResp, stamp := some plane.toNat } else s1
  | .pdelayReq =>
    if mech ≠ 1 then s
    else
      let s1 := updPort s f (fun o => { o with reqIn := st.or o.reqIn })
      if ptpOn s f then originate s1 f .pdelayResp else s1
  | .announce => takeAnnounce s f fr
  | .signaling =>
    if fr.unicast then { s with ports := { s.ports with unicast := s.ports.unicast + 1 } }
    else if fr.l1 = some true ∧ getB s (Reg.PORT_TT_CTRL_L1SYNC_EN f) = true then setF s (Reg.PORT_TT_STATUS_L1SYNC_UP f) 1
    else s
  | _ => s

/-- A message addressed to the device, for the host (R96, R316): it waits in the FIFO of 64 with its timestamp at the reference plane. -/
def hostPtp (s : State) (f : Nat) (fr : FrameIn) (a : Arrive) : State :=
  if 64 ≤ s.ports.ptpRx.length then incF s Reg.CMD_PTP_RX_DROP 1
  else
    let ts := if fr.resolved then ((fr.ingTs : Int) - a.plane).toNat else 0
    { s with ports := { s.ports with ptpRx := s.ports.ptpRx ++ [⟨f, fr.body.length, ts, packBytes fr.body⟩] } }

/-- A frame for the device itself (R176, R93, R96): a PTP message goes to the host in host-handled mode, else to the firmware, which ignores
it on a port whose PTP is disabled; any other frame to the firmware. -/
def toDevice (s : State) (f : Nat) (fr : FrameIn) (a : Arrive) : State :=
  match ptpHere f fr a with
  | some h =>
    if a.host then hostPtp s f fr a
    else if 36 ≤ f then emit s (.firmware f)
    else if getF s (Reg.PORT_PTP_XPORT_ROLE_FORCE f) = 3 then s
    else if h.kind = .signaling ∧ fr.unicast = true then firmwarePtp s f fr h a
    else firmwarePtp (emit s (.firmware f)) f fr h a
  | none => emit s (.firmware f)

/-! ### Transmission (R178, R184, R188, R189, R196) -/

/-- PREEMPT_ACTIVE of a line or trunk port. -/
def preemptActive (s : State) (f : Nat) : Bool := decide (f < 36) && getB s (Reg.FP_SW_STATUS_PREEMPT_ACTIVE f)

/-- Bytes that a frame of class tc may use before its barrier (R188, R196): its gate's close, and with PREEMPT_ACTIVE the release
preamble of the next Sluice frame. None: no barrier. -/
def roomFor (s : State) (f tc : Nat) : Option Nat :=
  let ps := bytePs s f
  let frac := s.tim.tod % 2 ^ 56 * 1000 / 2 ^ 56 + 1
  let now := s.tim.tod * 1000 / 2 ^ 56 + 1
  let gate := (gateCloses s f tc).map (fun d => (d * 1000 - frac) / ps)
  let sl := if preemptActive s f then
      (minNat ((s.fab.sluice.filter (fun x => x.f = f)).map (·.release))).map (fun r => (r * 1000 / 65536 - now) / ps - 8)
    else none
  match gate, sl with
  | some a, some b => some (min a b)
  | some a, none => some a
  | none, b => b

/-- Minimum fragment in data bytes (R189). -/
def minFrag (s : State) (f : Nat) : Nat := 64 * (1 + getF s (Reg.FP_SW_CFG_ADD_FRAG f))

/-- Data bytes of a fragment of a frame of `len` bytes of which `sent` are sent, in `room` bytes with preamble, mCRC and gap (R189): a multiple of
8, fragment and remainder both of the minimum; none where there is no such fragment. -/
def fragBytes (s : State) (f len sent room : Nat) : Option Nat :=
  let m := minFrag s f
  let d := min ((room - 24) / 8) ((len - sent - m) / 8) * 8
  if m ≤ d ∧ m ≤ len - sent ∧ 24 ≤ room then some d else none

/-- Queue q holds preemptable frames (R189). -/
def preemptable (s : State) (q : Nat) : Bool := preemptActive s (q / 8) && !getB s (Reg.Q_Q_CFG_EXPRESS q)

/-- What of a frame of queue q may start now, `sent` of its `len` bytes having left (R188, R189, R196): all that is left, or its next fragment;
none where it may not start. -/
def mayStart (s : State) (q len sent : Nat) : Option (Nat × Bool) :=
  let f := q / 8
  if 36 ≤ f then (if jiethMay s (f - 36) 0 len then some (len, true) else none)
  else
    match roomFor s f (q % 8) with
    | none => some (len, true)
    | some room =>
      if len - sent + 20 ≤ room then some (len, true)
      else if preemptable s q then (fragBytes s f len sent room).map (fun d => (sent + d, false))
      else none

/-- The device originates the frame: it is its host's (R96). -/
def QFrame.own (x : QFrame) : Bool := decide (x.src = ownSource)

/-- Latency of a non-Sluice frame in 0.1 ns (R281). -/
def offerLatency (s : State) (f tc ingTs : Nat) : State :=
  histOffer s 1 (fun h => histIn s f h && decide (bits (getF s (Reg.HIST_HIST_CFG_CLASS h)) tc 1 = 1)) ((todVis s - ingTs) * 10 / 65536)

/-- The kind of message that carries an event message's timestamp or residence after it (R98). -/
def followKind : PtpKind → Option PtpKind
  | .sync => some .followUp
  | .pdelayResp => some .pdelayRespFollowUp
  | _ => none

/-- A waiting correction matches a message that leaves port f (R98). -/
def residueFits (f : Nat) (h : PtpHdr) (r : Residue) : Bool :=
  decide (r.f = f) && decide (r.kind = h.kind) && decide (r.source = h.source) && decide (r.seq = h.seq)

/-- The device sends a non-Sluice frame's record and its PTP parts (R97, R98): a follow-up takes the correction that waits for it, a host's message
the timestamp of a one-step egress (R316), and a message is signed after that. -/
def sendRecord (s : State) (f : Nat) (fr : QFrame) (len : Nat) (good : Bool) (stamp : Option Nat) : State :=
  match fr.ptp with
  | none => emit s (.frame f fr.src len good)
  | some h =>
    let corr := h.corr + ((s.ports.residues.find? (residueFits f h)).map (·.amount)).getD 0
    let s1 := { s with ports := { s.ports with residues := s.ports.residues.eraseP (residueFits f h) } }
    if fr.own then emit s1 (.ptp f fr.body stamp (sendIcv s f fr.body corr stamp))
    else emit s1 (.ptpFrame f fr.src len corr (sendIcv s f fr.body corr none))

/-- A frame of class tc leaves port f whole or with its last fragment: `len` bytes in all. -/
def sendFrame (s : State) (f tc len : Nat) (fr : QFrame) (good : Bool) (stamp : Option Nat := none) : State :=
  let s1 := countTx (sendRecord s f fr len good stamp) f len
  let s2 := if 36 ≤ f then jiethSend s1 (f - 36) 0 len else s1
  offerLatency s2 f tc fr.ingTs

/-- The egress is taken from now on by a frame or fragment up to byte `upto` (R178, R189). -/
def egTake (s : State) (f : Nat) (fr : QFrame) (sent upto : Nat) (last : Bool) : State :=
  updEg s f (fun e => { e with start := nowPs s, freeAt := nowPs s + txPs s f (upto - sent) last, sluice := false,
                               cur := some ⟨fr, sent, upto⟩, rest := if last then none else some ⟨fr, upto, upto⟩ })

/-! ### From the ingress to the queues (R177 to R181, R193) -/

/-- Cut-through conditions of R178 for egress g; the egress is free and the frame may start there whole (R188). -/
def cutThrough (s : State) (f g tc len : Nat) : Bool :=
  getB s (Reg.FP_SW_CFG_CUT_THROUGH g) && decide (portMbps s g ≤ portMbps s f) && decide (queueOf s (8 * g + tc) = []) && gateOpen s g tc &&
  fabUp s g && !getB s (Reg.FP_SW_STATUS_FLUSHING g) && !inGap s g && decide ((egS s g).freeAt ≤ nowPs s) && (egS s g).rest.isNone &&
  decide (mayStart s (8 * g + tc) len 0 = some (len, true))

/-- One copy of a frame toward egress g. An over-long one in cut-through ends at 9,216 bytes with an invalid FCS (R178). A frame for a port that
is down and no longer FLUSHING is dropped and counted nowhere (DESIGN CHOICE, log entry 131: R200 names no counter). -/
def toEgress (s : State) (f : Nat) (fr : FrameIn) (a : Arrive) (v : Vlan) (g : Nat) : State :=
  let len := egressLen fr v g
  let way := sluiceWay f g fr a
  let tc := if way && decide (256 < len) then 7 else trafficClass s f fr
  let sl := takesSluice f g fr len a
  let ct := !sl && cutThrough s f g tc len
  let q : QFrame := { q := 8 * g + tc, len := len, src := f, ingTs := fr.ingTs, resolved := fr.resolved,
                      ptp := if a.tc = 0 then none else ptpHere f fr a, body := packBytes fr.body }
  if !fabUp s g && !getB s (Reg.FP_SW_STATUS_FLUSHING g) then s
  else if ct && (!fr.fcsOk || decide (9216 < len)) then
    let s1 := egTake (sendFrame s g tc (min len 9216) { q with ptp := none } false) g q 0 (min len 9216) true
    if 9216 < len then incHL s1 (Reg.FP_CT_TRUNCATED_HI g) (Reg.FP_CT_TRUNCATED_LO g) 1 else s1
  else if !fr.fcsOk || decide (9216 < fr.len) then s
  else if 9216 < len then countDiscard s f
  else if getB s (Reg.FP_SW_STATUS_FLUSHING g) then perfDrop (countFlushed s g 1) g tc
  else if sl then
    match ptpHere f fr a with
    | some h => admitSluice s { f := g, len := len, src := f, ingTs := fr.ingTs,
                                release := if fr.resolved then fr.ingTs + getF s Reg.FAB_SLUICE_D * 65536 else todVis s, resolved := fr.resolved,
                                hdr := h, add := ingressCorr h a, tc := a.tc, body := packBytes fr.body }
    | none => s
  else if q.ptp.isSome && authMissing s g then perfDrop (raise s Reg.SEC_EVENTS_AUTH_KEY_MISSING) g tc
  else if ct then egTake (sendFrame s g tc len q true) g q 0 len true
  else enqueue s q

/-- A frame that the fabric takes from port f (R177 to R181, R194, R97): a PTP message that must be authenticated is verified before anything is
done with it; one that fails is discarded and counted. In a mode without forwarding (R24) only frames for the device go on. -/
def rxFrame (s0 : State) (f : Nat) (fr : FrameIn) (a : Arrive) : State :=
  let s := { s0 with fab := { s0.fab with cells := s0.fab.cells + cellsOf fr.len } }
  if fr.len < 64 then perfDrop (incHL s (Reg.FP_RX_RUNT_HI f) (Reg.FP_RX_RUNT_LO f) 1) f 0
  else
    let s1 := if fr.fcsOk then
        incHL (incHL s (Reg.FP_RX_FRAMES_HI f) (Reg.FP_RX_FRAMES_LO f) 1) (Reg.FP_RX_BYTES_HI f) (Reg.FP_RX_BYTES_LO f) fr.len
      else incHL s (Reg.FP_RX_FCS_ERR_HI f) (Reg.FP_RX_FCS_ERR_LO f) 1
    let vid := ingressVid s f fr
    let vlan := (if vid = 4095 then none else vlanOf s vid).filter (fun v => decide (bits v.member f 1 = 1))
    let mine := reservedDst fr.dst || fr.toDevice
    let good := fr.fcsOk && decide (fr.len ≤ 9216)
    let tc := trafficClass s f fr
    let outs := match vlan with
      | some v => if mine || !forwards s then [] else egressPorts s f vid fr.dst v
      | none => []
    let allCt := decide (outs ≠ []) && outs.all (fun g => match vlan with
      | some v => cutThrough s f g tc (egressLen fr v g) && !takesSluice f g fr (egressLen fr v g) a
      | none => false)
    if 9216 < fr.len ∧ allCt = false then perfDrop (incHL s1 (Reg.FP_RX_OVERSIZE_HI f) (Reg.FP_RX_OVERSIZE_LO f) 1) f 0
    else
      match vlan with
      | none => if good then countDiscard s1 f else perfDrop s1 f 0
      | some v =>
        let au := if good && decide (f < 36) && (ptpHere f fr a).isSome then ptpAuth s1 f fr else (s1, true)
        if !au.2 then countDiscard au.1 f
        else
          let s3 := if good && forwards s then learn au.1 f vid fr.src else au.1
          if mine then (if good then toDevice s3 f fr a else s3)
          else outs.foldl (fun t g => toEgress t f fr a v g) s3

/-- Bytes of ingress FIFO of port f (R193). -/
def fifoBytes (f : Nat) : Nat := if f < 32 then 98304 else if f < 36 then 393216 else 786432

/-- The fabric is throttled to one eighth (R51 to R53): its PLL has not locked since its relock or switch-on began. -/
def throttled (s : State) : Bool := powered s .fab && !getB s Reg.CLK_FAB_PLL_LOCKED

/-- Ticks that the throttled fabric takes for a frame: 64 bytes a tick, an eighth of the 2,048 bits in 0.8 ns of R14 (R51). -/
def throttleTicks (len : Nat) : Nat := (len + 63) / 64

/-- The cells of a CLASS 0 frame that leaves a Jieth link's ingress FIFO are freed, and with them its credit (R193, R217). -/
def freeCells (s : State) (h : Held) : State :=
  if 36 ≤ h.f ∧ h.cls = 0 then updLink s (h.f - 36) (fun l => { l with freed := l.freed + BitVec.ofNat 16 (cellsOf h.fr.len) }) else s

/-- The fabric admits one frame at tick `t`; throttled, it is busy with it from then on. -/
def admitAt (s : State) (h : Held) (t : Nat) : State :=
  rxFrame (freeCells { s with fab := { s.fab with admitAt := if throttled s then t + throttleTicks h.fr.len else s.fab.admitAt } } h) h.f h.fr h.a

/-- The frames that the fabric has had time to admit since leave the ingress FIFOs, oldest first (R51, R193). -/
def settleIngress (s : State) : State :=
  (List.range s.fab.ingress.length).foldl (fun t _ =>
    match t.fab.ingress with
    | h :: r => if throttled t && decide (t.now < t.fab.admitAt) then t else admitAt { t with fab := { t.fab with ingress := r } } h t.fab.admitAt
    | [] => t) s

/-- A frame at port f, of a Jieth link with its CLASS: lost in a Berm window (R104); taken, or held in the ingress FIFO while the throttled
fabric cannot admit it (R193). -/
def ingress (s : State) (f : Nat) (fr : FrameIn) (cls : Nat := 0) : State :=
  let h : Held := ⟨f, fr, arriveAt s f, cls⟩
  if inWindow s f then countDiscard s f
  else
    let s1 := settleIngress s
    if throttled s1 && (decide (s1.now < s1.fab.admitAt) || decide (s1.fab.ingress ≠ [])) then
      let held := sumNat ((s1.fab.ingress.filter (fun e => e.f = f)).map (fun e => e.fr.len))
      if fifoBytes f < held + fr.len then countAdmit s1 f 0
      else { s1 with fab := { s1.fab with ingress := s1.fab.ingress ++ [h] } }
    else admitAt s1 h s1.now

/-- Frames that waited in the ingress FIFOs are taken, oldest first (R193). -/
def drainIngress (s : State) : State :=
  s.fab.ingress.foldl (fun t h => rxFrame (freeCells t h) h.f h.fr h.a) { s with fab := { s.fab with ingress := [] } }

/-- FRAME_RX (R177 to R183, R190 to R194). -/
def execFrameRx (f : Nat) (fr : FrameIn) (s : State) : Host.Outcome State Fault Refusal :=
  if 42 ≤ f then .fault .noSuchResource
  else if powered s .fab && fabUp s f then ok (ingress s f fr)
  else ok s

/-- A receive gap that a request asks for is held and confirmed (R104): the request is the firmware's, verifies, and names a start at least
10 ms ahead. -/
def takeGap (s : State) (p : Nat) (m : PtpRx) (h : PtpHdr) : State :=
  match m.gap with
  | some w =>
    if m.fr.toDevice && ptpOn s p && (decide (h.kind = .delayReq) || decide (h.kind = .pdelayReq)) && (ptpAuth s p m.fr).2 &&
        decide (todVis s + 10 ^ 7 * 65536 ≤ w) then
      emit (updPort s p (fun o => { o with gapW := some w })) (.gapConfirm p)
    else s
  | none => s

/-- PTP_EVENT_RX (R87 to R89, R93, R97, R104): an event message of the domain in force is timestamped at the PCS, an unresolved timestamp
carrying no time; then the frame goes into the fabric as any other. -/
def execPtpEventRx (p : Nat) (m : PtpRx) (s : State) : Host.Outcome State Fault Refusal :=
  if 36 ≤ p then .fault .noSuchResource
  else if !powered s (portDomain p) then ok s
  else
    let fr := { m.fr with ingTs := if m.resolved then (ingressStamp s p m / 5).toNat else 0, resolved := m.resolved }
    let s1 := match ptpHere p fr (arriveAt s p) with
      | some h => takeGap (raiseIf (!m.resolved) s (Reg.PORT_TT_EVENTS_TS_UNRESOLVED p)) p m h
      | none => s
    ok (if powered s1 .fab && fabUp s1 p then ingress s1 p fr else s1)

end Sys2Proof.Machine
end

