-- ==== Sys2Proof/Machine/Egress.lean ====
section
/-! DEFINITION. The switch core (chapter 9), third part: movements of the Spillway, the scheduler and transmission, the Sluice lane's releases,
links and flush; and the spreadable PLLs that throttle or pause it (R50 to R53). -/

namespace Sys2Proof.Machine

/-- The packet with an identifier completes. -/
def finishId (s : State) (id : Option Nat) (st : Status) (ws : List Word) : State :=
  match id with
  | none => s
  | some k =>
    match s.cmd.running.find? (fun p => p.id = k) with
    | some p => finish s p st ws
    | none => s

/-! ### Spillway movements -/

/-- Deliver the staged cells of queue q's frames into `room` Spillway cells, in order: the frames kept, the cells written, the
frames dropped whole for lack of room. -/
def stagedOut (q : Nat) : List QFrame → Nat → List QFrame × Nat × List QFrame
  | [], _ => ([], 0, [])
  | f :: r, room =>
    if f.q = q ∧ f.stg ≠ 0 then
      if f.stg ≤ room then
        let t := stagedOut q r (room - f.stg)
        ({ f with spl := f.spl + f.stg, stg := 0 } :: t.1, f.stg + t.2.1, t.2.2)
      else
        let t := stagedOut q r room
        (t.1, t.2.1, f :: t.2.2)
    else
      let t := stagedOut q r room
      (f :: t.1, t.2.1, t.2.2)

/-- SPILL_STAGED_WRITE (R192): the queue's staged cells are delivered behind its spilled cells; a frame that finds the Spillway full
is dropped whole. -/
def execSpillStagedWrite (q : Nat) (s : State) : Host.Outcome State Fault Refusal :=
  if 336 ≤ q then .fault .noSuchResource
  else if spillPaused s || !powered s .hbm then ok s
  else
    let r := stagedOut q s.fab.frames (spillCells - spillUsed s)
    let s1 := { s with fab := { s.fab with frames := r.1 } }
    let s2 := if r.2.1 = 0 then s1 else perf s1 0x31 0x23 (q / 8) (q % 8) r.2.1
    let s3 := raiseIf (decide (r.2.2 ≠ [])) s2 Reg.FAB_EVENTS_SPILL_FULL
    ok (r.2.2.foldl (fun t f => finishId (countAdmit t (q / 8) (q % 8)) f.origin .timeout []) s3)

/-- Read back up to `room` cells of queue q in queue order: the frames and the cells moved. -/
def readBack (q : Nat) : List QFrame → Nat → List QFrame × Nat
  | [], _ => ([], 0)
  | f :: r, room =>
    let k := if f.q = q then min f.spl room else 0
    let t := readBack q r (room - k)
    ({ f with spl := f.spl - k, pre := f.pre + k } :: t.1, k + t.2)

/-- Prefetch cells that queue q may still fill (R190, R191): its 64, within the reserve that Sluice frames and prefetch share. -/
def prefetchRoom (s : State) (q : Nat) : Nat :=
  min (64 - sumNat ((queueOf s q).map (·.pre)))
    (min (polderFree s) (getF s Reg.FAB_POLDER_RSV - (sluiceCells s + sumNat (s.fab.frames.map (·.pre)))))

/-- SPILL_READBACK (R190, R191): spilled cells of a queue move into its prefetch cells. -/
def execSpillReadback (q : Nat) (s : State) : Host.Outcome State Fault Refusal :=
  if 336 ≤ q then .fault .noSuchResource
  else if spillPaused s || !powered s .hbm then ok s
  else
    let r := readBack q s.fab.frames (prefetchRoom s q)
    if r.2 = 0 then ok s
    else ok (spillCheck (polderLow s (perf { s with fab := { s.fab with frames := r.1 } } 0x32 0x23 (q / 8) (q % 8) r.2)) q)

/-! ### The scheduler (R184, R189) -/

/-- Head of queue q. -/
def headOf (s : State) (q : Nat) : Option QFrame := s.fab.frames.find? (fun f => f.q = q)

/-- Class tc of port f can be served now: a head in the Polder, an open gate, and room; while a preempted frame is held, an express
class only (R189). -/
def servable (s : State) (f tc : Nat) : Bool :=
  match headOf s (8 * f + tc) with
  | some h => decide (h.spl = 0) && gateOpen s f tc && (mayStart s (8 * f + tc) h.len 0).isSome &&
      ((egS s f).rest.isNone || !preemptable s (8 * f + tc))
  | none => false

/-- Deficit of a queue. -/
def deficitOf (d : List (Nat × Nat)) (q : Nat) : Nat := (spGet? d q).getD 0

/-- Quantum of a queue (R184). -/
def quantum (s : State) (q : Nat) : Nat := 64 * getF s (Reg.Q_Q_CFG_WEIGHT q)

/-- Deficit round robin of port f from class tc: the class to serve, the deficits and the class visited. A queue that cannot be
served keeps its deficit; an empty one has none. -/
def drrPick (s : State) (f : Nat) : Nat → Nat → List (Nat × Nat) → Option (Nat × List (Nat × Nat))
  | 0, _, _ => none
  | k + 1, tc, d =>
    let q := 8 * f + tc
    let next := (tc + 1) % 8
    let grant := fun (d : List (Nat × Nat)) =>
      let qn := 8 * f + next
      if servable s f next && !getB s (Reg.Q_Q_CFG_STRICT qn) then spPut (fun _ => 0) d qn (deficitOf d qn + quantum s qn) else d
    if getB s (Reg.Q_Q_CFG_STRICT q) then drrPick s f k next (grant d)
    else
      match headOf s q with
      | none => drrPick s f k next (grant (spDel d q))
      | some h =>
        if servable s f tc && decide (h.len ≤ deficitOf d q) then some (tc, spPut (fun _ => 0) d q (deficitOf d q - h.len))
        else drrPick s f k next (grant d)

/-- Choice of the scheduler at port f (R184): strict classes in descending order, then the round robin. -/
def pickClass (s : State) (f : Nat) : Option (Nat × List (Nat × Nat) × Nat) :=
  match ([7, 6, 5, 4, 3, 2, 1, 0] : List Nat).find? (fun tc => getB s (Reg.Q_Q_CFG_STRICT (8 * f + tc)) && servable s f tc) with
  | some tc => some (tc, s.fab.deficit, s.fab.drr.getD f 0)
  | none =>
    if (List.range 8).any (fun tc => !getB s (Reg.Q_Q_CFG_STRICT (8 * f + tc)) && servable s f tc) then
      (drrPick s f 1300 (s.fab.drr.getD f 0) s.fab.deficit).map (fun r => (r.1, r.2, r.1))
    else none

/-- Remove the first frame of queue q. -/
def dropHead (q : Nat) : List QFrame → List QFrame
  | [] => []
  | f :: r => if f.q = q then r else f :: dropHead q r

/-! ### Transmission (R184, R188, R189, R196) -/

/-- What the egress timestamp of a frame is (R88): of the transmit lane on a line or trunk port, the present ToD on a Jieth link. -/
def txStamp (s : State) (f : Nat) (c : EgressCap) : Int := if f < 36 then egressStamp s f c else todVis s

/-- One-step egress of a port (R98, R110); a Jieth link writes during transmission. -/
def oneStep (s : State) (f : Nat) : Bool := decide (36 ≤ f) || getB s (Reg.PORT_TT_CTRL_ONE_STEP f)

/-- The timestamp at the reference plane that a one-step egress of a line or trunk port inserts into an own message that carries one (R96, R97). -/
def ownInsert (s : State) (f : Nat) (h : PtpHdr) (c : EgressCap) : Option Nat :=
  if f < 36 ∧ c.resolved = true ∧ oneStep s f = true ∧ (followKind h.kind).isSome = true then some (txStamp s f c + planeDelay s f 0).toNat else none

/-- The packet of a frame that has left completes, with its timestamp at the reference plane (R89, R316); an unresolved one is given as 0
and sets TS_UNRESOLVED (R87). -/
def finishTx (s : State) (f : Nat) (id : Option Nat) (c : EgressCap) : State :=
  if id.isNone then s
  else if c.resolved || decide (36 ≤ f) then finishId s id .ok (todWords (txStamp s f c + planeDelay s f 0).toNat)
  else finishId (raise s (Reg.PORT_TT_EVENTS_TS_UNRESOLVED f)) id .ok (todWords 0)

/-- Bytes `sent` to `upto` of a frame start on port f: all that is left of it, or a fragment (R189). -/
def startPart (s : State) (f : Nat) (fr : QFrame) (sent upto : Nat) (last : Bool) (c : EgressCap) : State :=
  let whole := decide (sent = 0) && last
  let s1 := if whole then s else emit s (.fragment f fr.src (upto - sent) last)
  let s2 := if last then sendFrame s1 f (fr.q % 8) fr.len fr true (if fr.own then fr.ptp.bind (ownInsert s f · c) else none) else perf s1 0x34 0x23 f (fr.q % 8) 1
  let s3 := egTake s2 f fr sent upto last
  if last then finishTx s3 f fr.origin c else s3

/-- The held remainder of a preempted frame goes on, if it may start (R189). -/
def resumePart (s : State) (f : Nat) (c : EgressCap) : State :=
  match (egS s f).rest with
  | none => s
  | some t =>
    if !gateOpen s f (t.fr.q % 8) then s
    else match mayStart s t.fr.q t.fr.len t.sent with
      | some (upto, last) => startPart s f t.fr t.sent upto last c
      | none => s

/-- FRAME_TX (R184): time runs until the egress is free, and it starts its next frame or fragment: an express frame before a held
remainder, a held remainder before another preemptable frame (R189). -/
def execFrameTx (x : TxStart) (s0 : State) : Host.Outcome State Fault Refusal :=
  let f := x.f
  let c := x.cap
  if 42 ≤ f then .fault .noSuchResource
  else if !powered s0 .fab || !forwards s0 || !fabUp s0 f || getB s0 (Reg.FP_SW_STATUS_FLUSHING f) then ok s0
  else
    let s := settleIngress (runPs s0 (egS s0 f).freeAt)
    if inGap s f then ok s
    else
      match pickClass s f with
      | none => ok (resumePart s f c)
      | some (tc, d, cur) =>
        match headOf s (8 * f + tc) with
        | none => ok s
        | some h =>
          match mayStart s (8 * f + tc) h.len 0 with
          | none => ok s
          | some (upto, last) =>
            let rest := (egS s f).rest
            let s1 := { s with fab := { s.fab with frames := dropHead (8 * f + tc) s.fab.frames, deficit := d, drr := s.fab.drr.set f cur } }
            let s2 := startPart s1 f h 0 upto last c
            let s3 := if rest.isSome then updEg s2 f (fun e => { e with rest := rest }) else s2
            ok (spillCheck s3 (8 * f + tc))

/-! ### Sluice release (R195 to R198, R98) -/

/-- Earlier release first, ties to the lower ingress port (R197). -/
def sluiceFirst (s : State) (f : Nat) : Option SFrame :=
  (s.fab.sluice.filter (fun x => x.f = f)).foldl
    (fun a x => match a with
      | none => some x
      | some y => if x.release < y.release ∨ (x.release = y.release ∧ x.src < y.src) then some x else some y) none

/-- SLUICE_DEGRADED (R198). -/
def sluiceDegraded (s : State) (f : Nat) : Bool := decide (f < 36) && fabUp s f && !preemptActive s f

/-- Asymmetry at egress: subtracted from Delay_Req and Pdelay_Req (R99). -/
def egressAsym (s : State) (f : Nat) (x : SFrame) : Int :=
  if x.tc ≠ 0 ∧ (x.hdr.kind = .delayReq ∨ x.hdr.kind = .pdelayReq) then delayAsym s f else 0

/-- A Sluice frame leaves its buffer. -/
def dropSluice (s : State) (x : SFrame) : State := { s with fab := { s.fab with sluice := s.fab.sluice.erase x } }

/-- The device originates the frame: its firmware or its host (R194). -/
def SFrame.own (x : SFrame) : Bool := decide (x.src = ownSource)

/-- It is the host's: a message of PTP_SEND has words (R316). -/
def SFrame.host (x : SFrame) : Bool := x.own && decide (x.body ≠ [])

/-- Residence time of a Sluice frame in 2^-16 ns (R98): of the device's own frames, and where a timestamp carries no time, none. -/
def residence (x : SFrame) (ts : Int) (resolved : Bool) : Int := if x.own || !x.resolved || !resolved then 0 else ts - x.ingTs

/-- A two-step egress leaves the correction of a message to its follow-up, where one is to come (R98; DEDUCED, log entry 132: without one the
message carries it). -/
def defers (s : State) (f : Nat) (x : SFrame) : Bool := !oneStep s f && x.hdr.twoStep && (followKind x.hdr.kind).isSome

/-- The correction that a follow-up of `x` is to carry (R98). -/
def addResidue (s : State) (f : Nat) (x : SFrame) (amount : Int) : State :=
  match followKind x.hdr.kind with
  | some k =>
    let r : Residue := ⟨f, k, x.hdr.source, x.hdr.seq, amount⟩
    { s with ports := { s.ports with residues := s.ports.residues.filter (fun y => !residueFits f { x.hdr with kind := k } y) ++ [r] } }
  | none => s

/-- The device's own timestamps of the exchanges of R90, at the reference plane. -/
def ownStamp (s : State) (f : Nat) (k : PtpKind) (plane : Int) : State :=
  match k with
  | .sync => updPort s f (fun o => { o with syncOut := some plane })
  | .delayReq => if delayMech s f = 0 then updPort s f (fun o => { o with reqOut := some plane }) else s
  | .pdelayReq => if delayMech s f = 1 then updPort s f (fun o => { o with reqOut := some plane }) else s
  | _ => s

/-- What follows an event message of the device itself on a line or trunk port (R90, R93, R98): its timestamp is kept, and a two-step egress of the
firmware sends the follow-up with it. -/
def afterOwn (s : State) (f : Nat) (x : SFrame) (plane : Int) : State :=
  let s1 := ownStamp s f x.hdr.kind plane
  match followKind x.hdr.kind with
  | some k => if oneStep s f || x.host then s1 else sendMessage s1 f { kind := k, stamp := some plane.toNat }
  | none => s1

/-- A Sluice frame leaves at timestamp `ts`: correctionField or residue, one-step insertion, signature, counters, histograms (R96 to R99, R195,
R197). -/
def sluiceSend (s : State) (f : Nat) (x : SFrame) (c : EgressCap) (late : Bool) : State :=
  let ts := txStamp s f c
  let known := c.resolved || decide (36 ≤ f)
  let total := if x.own then 0 else x.add + residence x ts known - egressAsym s f x
  let later := defers s f x
  let corr := if later then x.hdr.corr else x.hdr.corr + total
  let plane := ts + planeDelay s f 0
  let stamp := if x.own then ownInsert s f x.hdr c else none
  let icv := sendIcv s f x.body corr stamp
  let s1 := emit (if later then addResidue s f x total else s) (.sluice f x.src x.len ts.toNat corr stamp icv)
  let s2 := if x.host then emit s1 (.ptp f x.body stamp icv) else s1
  let s3 := incHL (countTx s2 f x.len) (Reg.FP_SLUICE_TX_HI f) (Reg.FP_SLUICE_TX_LO f) 1
  let s4 := if late then raise (incHL s3 (Reg.FP_SLUICE_LATE_HI f) (Reg.FP_SLUICE_LATE_LO f) 1) Reg.FAB_EVENTS_SLUICE_LATE_SEEN else s3
  let s5 := perf (if 36 ≤ f then jiethSend s4 (f - 36) 2 x.len else s4) 0x42 0x23 f 0 1
  let s6 := if x.own then (if f < 36 ∧ known then afterOwn s5 f x plane else s5)
    else if known && x.resolved then histOffer s5 2 (fun h => histIn s5 f h) ((residence x ts known).toNat * 10 / 65536) else s5
  updEg s6 f (fun e => { e with start := nowPs s, freeAt := nowPs s + bytesPs s f (if 36 ≤ f then x.len else x.len + 12), sluice := true, cur := none })

/-- A whole frame counted as sent has been cut after all (R189, R199). -/
def uncountTx (s : State) (f len : Nat) : State :=
  setHL (setHL s (Reg.FP_TX_FRAMES_HI f) (Reg.FP_TX_FRAMES_LO f) (getHL s (Reg.FP_TX_FRAMES_HI f) (Reg.FP_TX_FRAMES_LO f) - 1))
    (Reg.FP_TX_BYTES_HI f) (Reg.FP_TX_BYTES_LO f) ((getHL s (Reg.FP_TX_BYTES_HI f) (Reg.FP_TX_BYTES_LO f) : Int) - len)

/-- The last fragment end of what is in transmission that clears an instant (R189, R196): the byte reached. -/
def cutPoint (s : State) (f : Nat) (t : TxPart) (clear : Nat) : Option Nat :=
  if preemptable s t.fr.q then
    (fragBytes s f t.fr.len t.sent ((clear - (egS s f).start) / bytePs s f)).bind (fun d => if t.sent + d < t.upto then some (t.sent + d) else none)
  else none

/-- A preemptable frame in transmission is held at the fragment end that clears the release preamble (R196). -/
def cutFor (s : State) (f : Nat) (clear : Nat) : State :=
  match (egS s f).cur with
  | some t =>
    match cutPoint s f t clear with
    | some d =>
      let s1 := if t.upto = t.fr.len then uncountTx s f t.fr.len else s
      let s2 := perf (emit s1 (.fragment f t.fr.src (d - t.sent) false)) 0x34 0x23 f (t.fr.q % 8) 1
      updEg s2 f (fun e => { e with freeAt := e.start + txPs s f (d - t.sent) false, cur := some ⟨t.fr, t.sent, d⟩, rest := some ⟨t.fr, d, d⟩ })
    | none => s
  | none => s

/-- The instant in ps at which the release preamble starts, for a release now. -/
def preamblePs (s : State) (f : Nat) : Nat := nowPs s - (if 36 ≤ f then 0 else bytesPs s f 8)

/-- The egress at the release of a Sluice frame (R196 to R198): cleared by preemption where that is possible; else time runs until it is free. The second
component tells whether the wait counts as late: behind another Sluice frame, or, unless degraded, behind anything. -/
def clearEgress (s : State) (f : Nat) : State × Bool :=
  let t := if (egS s f).freeAt ≤ preamblePs s f then s else cutFor s f (preamblePs s f)
  if (egS t f).freeAt ≤ preamblePs t f then (t, false)
  else (runPs t ((egS t f).freeAt + (nowPs t - preamblePs t f)), decide (f < 36) && ((egS t f).sluice || !sluiceDegraded t f))

/-- SLUICE_RELEASE (R195 to R198, R98): time runs to the release tick; the frame leaves then or, delayed, as soon as the egress is free. Inside a
Berm gap (R104), or without the port's key (R340), it does not leave. A forwarded frame stays while the mode does not forward, and nothing is
sent in FAULT (R24, R35). -/
def execSluiceRelease (f : Nat) (c : EgressCap) (s : State) : Host.Outcome State Fault Refusal :=
  if 42 ≤ f then .fault .noSuchResource
  else if !powered s .fab || !txOn s then ok s
  else
    match sluiceFirst s f with
    | none => ok s
    | some x =>
      if !x.own && !forwards s then ok s
      else
        let missed := decide (x.release + 104858 ≤ todVis s)
        let s1 := dropSluice (runTo s (x.release * 2 ^ 40)) x
        if inGap s1 f then ok (finishId (countSluiceDrop s1 f) x.origin .timeout [])
        else if authMissing s1 f then ok (finishId (raise s1 Reg.SEC_EVENTS_AUTH_KEY_MISSING) x.origin .denied [])
        else
          let e := clearEgress s1 f
          let u := sluiceSend e.1 f x c ((missed && !x.own) || e.2)
          let v := if c.resolved || decide (36 ≤ f) || x.origin.isSome then u else raise u (Reg.PORT_TT_EVENTS_TS_UNRESOLVED f)
          ok (finishTx v f x.origin c)

/-- A STEP discards the forwarded Sluice frames whose residence it spans (R195). -/
def stepSluice (s : State) : State :=
  let gone := s.fab.sluice.filter (fun x => !x.own)
  gone.foldl (fun t x => countSluiceDrop t x.f) { s with fab := { s.fab with sluice := s.fab.sluice.filter (fun x => x.own) } }

/-! ### Links of line and trunk ports (R189, R199, R200, R206 to R209) -/

/-- A line or trunk port is enabled (R206, R226). -/
def phyEnabled (s : State) (p : Nat) : Bool := getB s (Reg.PORT_PHY_CFG_EN p) && !getB s (Reg.PORT_PHY_CFG_TX_SQUELCH p)

/-- LINK_UP (R205 to R207, R209, R189): the port runs the PCS and FEC configured, equalisation comes into force, the CDR locks with its divider restarted (R82), the transmit tap's phase (R88)
and on a trunk the skew of Tn.1 (R82) are measured, the PCS reports link up, and the verify exchange sets or clears PREEMPT_ACTIVE. -/
def execLinkUp (p : Nat) (x : LinkStart) (s : State) : Host.Outcome State Fault Refusal :=
  if 36 ≤ p then .fault .noSuchResource
  else if !powered s (portDomain p) || !phyEnabled s p || getB s (Reg.PORT_PHY_STATUS_LINK_UP p) then ok s
  else
    let s0 := updPort (phaseClean s p) p (fun o => { o with divAt := some s.now, skew := if 32 ≤ p then x.skew else 0, txPhi := x.txPhi % 2 ^ 18, phy := some (portRate s p, portFec s p), eq0 := regWord s (portBase p + 0x98), eq1 := if 32 ≤ p then regWord s (portBase p + 0x9C) else o.eq1 })
    let s1 := setF (setF (setF s0 (Reg.PORT_PHY_STATUS_LINK_UP p) 1) (Reg.PORT_PHY_STATUS_BLOCK_LOCK p) 1) (Reg.PORT_TT_STATUS_CDR_LOCK p) 1
    let s2 := if 32 ≤ p then setF (setF s1 (Reg.PORT_PHY_STATUS_LANE1_LOCK p) 1) (Reg.PORT_PHY_STATUS_AM_LOCK p) 1 else s1
    let s3 := setF s2 (Reg.FP_SW_STATUS_LINK_UP p) 1
    ok (setB s3 (Reg.FP_SW_STATUS_PREEMPT_ACTIVE p) (x.verified && getB s (Reg.FP_SW_CFG_PREEMPT_EN p)))

/-- Fabric side of a port going down (R199): its queues are flushed and counted, and what is cut off in transmission or held preempted; FLUSHING
sets. -/
def fabricDown (s : State) (f : Nat) : State :=
  if !fabUp s f then s
  else
    let out := s.fab.frames.filter (fun x => x.q / 8 = f)
    let sl := s.fab.sluice.filter (fun x => x.f = f)
    let s1 := { s with fab := { s.fab with frames := s.fab.frames.filter (fun x => x.q / 8 ≠ f), sluice := s.fab.sluice.filter (fun x => x.f ≠ f) } }
    let e := egS s f
    let going := decide (nowPs s < e.freeAt)
    let cut := if going then match e.cur with | some t => if t.upto = t.fr.len then some t.fr.len else none | none => none else none
    let inTx := (going && (e.cur.isSome || e.sluice) && e.rest.isNone).toNat + e.rest.isSome.toNat
    let s2 := countFlushed (match cut with | some k => uncountTx s1 f k | none => s1) f (out.length + sl.length + inTx)
    let s3 := out.foldl (fun t x => perfDrop t f (x.q % 8)) (sl.foldl (fun t _ => perfDrop t f 7) s2)
    let s4 := (List.range 8).foldl (fun t tc => setF t (Reg.Q_Q_CFG_SPILLING (8 * f + tc)) 0) s3
    let s5 := setF (setF (setF (updEg s4 f (fun _ => {})) (Reg.FP_SW_STATUS_LINK_UP f) 0) (Reg.FP_SW_STATUS_FLUSHING f) 1) (Reg.FP_SW_STATUS_PREEMPT_ACTIVE f) 0
    (out.map (·.origin) ++ sl.map (·.origin)).foldl (fun t o => finishId t o .timeout []) s5

/-- A line or trunk port goes down (R199, R208, R105). -/
def portDown (s : State) (p : Nat) (laneLost : Bool) : State :=
  if !getB s (Reg.PORT_PHY_STATUS_LINK_UP p) then s
  else
    let s1 := raise (setF (setF s (Reg.PORT_PHY_STATUS_LINK_UP p) 0) (Reg.PORT_PHY_STATUS_BLOCK_LOCK p) 0) (Reg.PORT_PHY_EVENTS_LINK_DOWN p)
    let s2 := if laneLost ∧ 32 ≤ p then
        raise (setF (setF s1 (Reg.PORT_PHY_STATUS_LANE1_LOCK p) 0) (Reg.PORT_PHY_STATUS_AM_LOCK p) 0) (Reg.PORT_PHY_EVENTS_LANE_LOST p)
      else s1
    let s3 := updPort (setF s2 (Reg.PORT_TT_STATUS_L1SYNC_UP p) 0) p (fun o =>
      { o with phy := none, ann := none, utc := none, syncIn := none, syncOut := none, reqIn := none, reqOut := none })
    fabricDown (bermAbandon s3 p) p

/-- PORT_DOWN (R199, R208). Ports 36 to 41 are the Jieth links. -/
def execPortDown (f : Nat) (laneLost : Bool) (s : State) : Host.Outcome State Fault Refusal :=
  if 42 ≤ f then .fault .noSuchResource else if f < 36 then ok (portDown s f laneLost) else ok (fabricDown s f)

/-- FLUSH_DONE (R199, R200). -/
def execFlushDone (f : Nat) (s : State) : Host.Outcome State Fault Refusal :=
  if 42 ≤ f then .fault .noSuchResource
  else if getB s (Reg.FP_SW_STATUS_FLUSHING f) then ok (raise (setF s (Reg.FP_SW_STATUS_FLUSHING f) 0) Reg.FAB_EVENTS_FLUSH_DONE)
  else ok s

/-! ### Spreadable PLLs (R50 to R53) -/

/-- Settings staged in FAB_PLL or HBM_PLL (R50): what each value acts as. -/
def stagedPll (s : State) (hbm : Bool) : Pll :=
  let d := getF s (if hbm then Reg.CLK_HBM_PLL_DEPTH else Reg.CLK_FAB_PLL_DEPTH)
  let f := getF s (if hbm then Reg.CLK_HBM_PLL_FREQ else Reg.CLK_FAB_PLL_FREQ)
  let sp := getF s (if hbm then Reg.CLK_HBM_PLL_SPREAD else Reg.CLK_FAB_PLL_SPREAD)
  { freq := if (if hbm then 3 else 2) ≤ f then 0 else f, spread := if sp = 3 then 0 else sp, depth := if d = 0 ∨ 5 < d then 5 else d }

/-- Fields of the fabric or the HBM PLL: APPLY, RELOCKING, LOCKED. -/
def pllFlds (hbm : Bool) : Fld × Fld × Fld :=
  if hbm then (Reg.CLK_HBM_PLL_APPLY, Reg.CLK_HBM_PLL_RELOCKING, Reg.CLK_HBM_PLL_LOCKED)
  else (Reg.CLK_FAB_PLL_APPLY, Reg.CLK_FAB_PLL_RELOCKING, Reg.CLK_FAB_PLL_LOCKED)

/-- Reprogramming step of a relock: the staged settings come into force and acquisition starts (R51, R53). -/
def pllStart (s : State) (hbm : Bool) : State :=
  let p := stagedPll s hbm
  let f := pllFlds hbm
  let s1 := if hbm then { s with clk := { s.clk with hbm := p } } else { s with clk := { s.clk with fab := p } }
  setF (setF s1 f.2.1 1) f.2.2 0

/-- PLL_LOCK (R51, R193): APPLY and RELOCKING clear, the logic runs from the PLL, held frames are taken. -/
def execPllLock (hbm : Bool) (s : State) : Host.Outcome State Fault Refusal :=
  let f := pllFlds hbm
  if getB s f.2.1 then
    let s1 := setF (setF (setF s f.1 0) f.2.1 0) f.2.2 1
    ok (if hbm then s1 else drainIngress s1)
  else ok s

/-- PLL_LOCK_TIMEOUT (R52): the attempt stops; the logic stays on the bypass clock, the fabric throttled or the Spillway paused. -/
def execPllLockTimeout (hbm : Bool) (s : State) : Host.Outcome State Fault Refusal :=
  let f := pllFlds hbm
  if getB s f.2.1 then
    ok (raise (setF (setF s f.1 0) f.2.1 0) (if hbm then Reg.CLK_EVENTS_HBM_PLL_FAIL else Reg.CLK_EVENTS_FAB_PLL_FAIL))
  else ok s

end Sys2Proof.Machine
end

