-- ==== Sys2Proof/Machine/PtpTx.lean ====
section
/-! DEFINITION. Sync interval boundaries (R90, R92, R102, R111, R286) and the messages that the firmware sends at them (R93 to R97, R170). -/

namespace Sys2Proof.Machine

/-- Number of the interval of 2^`log` seconds in which the ToD lies (R93). -/
def intervalNo (s : State) (log : Int) : Nat := todVis s * 2 ^ 7 / (10 ^ 9 * 65536 * 2 ^ (log + 7).toNat)

/-- Announce message of a port (R94, R95). -/
def sendAnnounce (s : State) (p : Nat) : State :=
  sendMessage s p { kind := .announce, dataset := some (announcedOn s p), utc := some (utcData s) }

/-- Announce of a master port, where the interval of LOG_ANNOUNCE has passed (R93, R94). -/
def announceRound (s : State) (p : Nat) : State :=
  let k := intervalNo s (getS s (Reg.PORT_PTP_CFG_LOG_ANNOUNCE p)) + 1
  if portState s p = .master ∧ (portS s p).annDue ≠ k then sendAnnounce (updPort s p (fun o => { o with annDue := k })) p else s

/-- Sync of a master port at each of its grid's boundaries (R92, R93). -/
def syncRound (s : State) (p : Nat) : State := if portState s p = .master then originate s p .sync else s

/-- Delay_Req of a slave port, or Pdelay_Req under the peer delay mechanism, where the interval of LOG_DELAY_REQ has passed (R90, R93). -/
def delayRound (s : State) (p : Nat) : State :=
  let k := intervalNo s (getS s (Reg.PORT_PTP_CFG_LOG_DELAY_REQ p)) + 1
  let kind := if delayMech s p = 0 ∧ portState s p = .slave then some PtpKind.delayReq
    else if delayMech s p = 1 then some .pdelayReq else none
  match kind with
  | some m => if (portS s p).reqDue ≠ k then originate (updPort s p (fun o => { o with reqDue := k })) p m else s
  | none => s

/-- Basic L1Sync TLV with the port's coherence and congruence from CDR lock and VALID (R93, R110). -/
def l1Round (s : State) (p : Nat) : State :=
  if getB s (Reg.PORT_TT_CTRL_L1SYNC_EN p) then
    sendMessage s p { kind := .signaling, l1 := some (getB s (Reg.PORT_TT_STATUS_CDR_LOCK p), getB s (Reg.PORT_PHASE_VALID p)) }
  else s

/-- What the firmware sends on a port at a Sync interval boundary (DESIGN CHOICE, log entry 133: every message waits for such a boundary). -/
def ptpRound (s : State) (p : Nat) : State :=
  if ptpOn s p then l1Round (delayRound (syncRound (announceRound s p) p) p) p else s

/-- The messages of a master resume: each master port announces at once (R170). -/
def ptpResume (s : State) : State :=
  (List.range 36).foldl (fun t p => if ptpOn t p && decide (portState t p = .master) then sendAnnounce t p else t) s

/-- The boundary itself (R90, R92, R102, R111, R286): pending values, corrections and settings of the port take effect. -/
def syncApply (s : State) (p : Nat) : State :=
  let q := (portS s p).quiet + 1
  portQuality (applyPtpPort (applyBerm (publishLink (applyPortItems s p) p) p) p q) p

/-- SYNC_INTERVAL_BOUNDARY (R90, R92, R102, R111, R115, R286): time runs to the port's next boundary, what waits for it takes effect, and the firmware
sends its messages; the end of the fourth whole interval without an update disqualifies the port as a reference. -/
def execSyncIntervalBoundary (p : Nat) (s0 : State) : Host.Outcome State Fault Refusal :=
  if 36 ≤ p then .fault .noSuchResource
  else if !powered s0 (portDomain p) then ok s0
  else
    let s := runToSync s0 p
    let s1 := updPort (syncApply (updPort s p (fun o => { o with dieT := getS s Reg.CAL_DIE_TEMP })) p) p (fun o => { o with syncAt := some s.now })
    ok (ptpRound (if (portS s p).quiet + 1 = 5 then loseSource s1 0 p else s1) p)

end Sys2Proof.Machine
end

