-- ==== Sys2Proof/Machine/Jieth.lean ====
section
/-! DEFINITION. Jieth links: roles (R139), training (R143, R144, R220 to R222), markers and timing frames (R141, R142, R219), following
and failure (R146 to R150), the physical layer's frames, flow control and lane loss (R216, R217, R223 to R225). Loop times and one-way
delays are in fifths of 2^-16 ns. -/

namespace Sys2Proof.Machine

/-! ### Roles -/

/-- The pair role acted in (R168, R175): 0 isolate, 1 standby, 2 active, 3 not a pair member. -/
def pairRole (s : State) : Nat :=
  if !s.straps.pairEn then 3
  else
    match s.mode with
    | .standby => 1
    | .freerun | .acquire | .locked | .holdover | .calibrate => 2
    | _ => 0

/-- How many links of this device may hold a role (R139). A worker has one UP link, or two where its managers form a redundant pair, which only the
installation knows (DESIGN CHOICE, log entry 65). -/
def roleLimit (s : State) (role : Nat) : Nat :=
  match role with
  | 1 => if s.straps.jrole = 1 then 1 + Config.pairedManagers.toNat else 0
  | 2 => if s.straps.jrole = 0 then 0 else 6
  | 3 => if s.straps.jrole = 2 ∧ s.straps.pairEn = true then 1 else 0
  | _ => 0

/-- STATE of a link (R143). -/
def linkState (s : State) (n : Nat) : Nat := getF s (Reg.LINK_LINK_STATUS_STATE n)

/-- Set STATE. -/
def setLinkState (s : State) (n st : Nat) : State := setF s (Reg.LINK_LINK_STATUS_STATE n) st

/-- The number of the 66-cycle group of CK_REF, 264 ticks, in which the present tick lies, counted from the start of the dividers (R141). -/
def groupNo (s : State) : Nat := (s.now - s.clk.divAt) / 264

/-- Entry to CLOCK (R143, R209, R213): RETRAIN clears, the lanes start with the equalisation of their registers and their precoders at zero,
nothing is aligned, and markers leave from the next group on. -/
def enterClock (s : State) (n : Nat) : State :=
  let s1 := setF (setLinkState s n 1) (Reg.LINK_LINK_CFG_RETRAIN n) 0
  let s2 := (List.range 4).foldl (fun t k =>
    setF (setF (setF (setF t (Reg.LINK_JPHY_LANE_LOCK n k) 0) (Reg.LINK_JPHY_LANE_ALIGNED n k) 0) (Reg.LINK_JPHY_LANE_LOST n k) 0)
      (Reg.LINK_JPHY_LANE_AW_FOUND n k) 7) s1
  updLink s2 n (fun l => { l with
    eq := (List.range 5).map (fun k => regWord s (0x600AC + 0x200 * n + 4 * k))
    marker := none, tries := 0, helloHeld := false, tf := none, tfNext := none, ofs := none, freq := none, loopPend := none
    markerAt := groupNo s, tfAt := none, txPre := [0, 0, 0, 0], rxPre := [0, 0, 0, 0]
    ctlWait := [], seqTx := 0, seqRx := 4095, nak := false, replay := [], credit := 0, cellsSent := 0, freed := 4096, rxPairs := 3, peerPairs := 3 })

/-! ### Own address and depth (R140, R152) -/

/-- First hop of a worker address (R152). -/
def addrHop (a k : Nat) : Nat := a / 8 ^ (4 - k) % 8

/-- Depth of a worker address. -/
def addrDepth (a : Nat) : Nat := a / 4096 % 8

/-- Own depth (R140). -/
def ownDepth (s : State) : Nat := getF s Reg.JG_GLOBAL_DEPTH

/-- Address of the device below link n (R152): one hop more than the device's own. -/
def childAddr (s : State) (n : Nat) : Nat :=
  let a := getF s Reg.JG_SELF_ADDR
  a + 4096 + n * 8 ^ (3 - addrDepth a)

/-- A worker's address and depth are those told over the link it follows (R140), `n` where none carries yet. -/
def setSelf (s : State) (n : Nat) : State :=
  if s.straps.jrole = 1 ∧ linkRole s n = 1 then
    let k := (followedUp s).getD n
    setF (setF s Reg.JG_SELF_ADDR (linkS s k).selfAddr) Reg.JG_GLOBAL_DEPTH (min (getF s (Reg.LINK_LINK_STATUS_PEER_DEPTH k) + 1) 4)
  else s

/-! ### Failure (R148 to R150) -/

/-- MIRROR_OK clears and MIRROR_LOST is set (R160). -/
def mirrorGone (s : State) : State :=
  raise (setF s Reg.PAIR_PAIR_STATUS_MIRROR_OK 0) Reg.PAIR_PAIR_EVENTS_MIRROR_LOST

/-- The reply of status TIMEOUT that names this device's failed hop, sent back over link n (R153): the hop taken at depth k − 1 is hop k, from which
the issuing device takes its own depth (log entry 66). -/
def hopTimeout (s : State) (n tag : Nat) : State :=
  ctlReply s n [replyHeader s true 1 .timeout tag, BitVec.ofNat 32 (getF s Reg.JG_GLOBAL_DEPTH + 1)]

/-- Relays whose path starts with link n complete with TIMEOUT at hop 1, and those forwarded over it are answered (R153, R154). -/
def failRelays (s : State) (n : Nat) : State :=
  let l := s.jieth.relays.filter (fun r => r.link = n)
  let b := s.jieth.back.filter (fun b => b.1 = n && b.2.1 ≠ n)
  let s1 := { s with jieth := { s.jieth with relays := s.jieth.relays.filter (fun r => r.link ≠ n), back := s.jieth.back.filter (fun b => b.1 ≠ n && b.2.1 ≠ n) } }
  b.foldl (fun t b => hopTimeout t b.2.1 b.2.2) (l.foldl (fun t r => finishId t (some r.id) .timeout [1]) s1)

/-- A worker that loses the followed UP link while its other UP link carries changes to that one with no loss counted (R149): to its slot, where that
is eligible; else nothing is selected until it is, the mode stays, and the root follows the other link (DEDUCED, log entry 134). -/
def changeUp (s : State) (n : Nat) : State :=
  match selected s with
  | some a =>
    if slotType s a = 1 ∧ slotIndex s a = n ∧ ((upCarrying s).filter (fun m => decide (m ≠ n))) ≠ [] then
      match slotNos.find? (fun m => slotType s m = 1 && slotEligible s m && decide (slotIndex s m ≠ n) && linkCarries s (slotIndex s m)) with
      | some m => setF s Reg.REF_SEL_STATUS_SELECTED m
      | none => dropPending (dropSelection s)
    else s
  | none => s

/-- The registrations that came over link n are withdrawn (R140). -/
def dropWorkers (s : State) (n : Nat) : State :=
  { s with jieth := { s.jieth with workers := s.jieth.workers.filter (fun a => decide (addrHop a 1 ≠ n)) } }

/-- What stops with a link that leaves UP or DEGRADED or any training state (R77, R140, R148, R151, R154, R199): of a standby's mirror link also the
offset that waits. -/
def linkDrop (s : State) (n : Nat) : State :=
  let wasUp := linkCarries s n
  let s1 := dropWorkers (failRelays (fabricDown s (36 + n)) n) n
  let s3 := updLink s1 n (fun l =>
    { l with regAddr := none, tf := none, tfNext := none, ofs := none, freq := none, loopPend := none, marker := none, ctlWait := [], helloHeld := false })
  let s4 := setF (setF s3 (Reg.LINK_LINK_STATUS_PAIR01_OK n) 0) (Reg.LINK_LINK_STATUS_PAIR23_OK n) 0
  let s5 := setF (setF s4 (Reg.LINK_JPHY_STATUS_TX_PAIR01_USED n) 0) (Reg.LINK_JPHY_STATUS_TX_PAIR23_USED n) 0
  if wasUp && decide (mirrorLink s = some n) then
    mirrorGone (if s.mode = .standby then dropPending s5 else s5)
  else s5

/-- The selector's part of a link's loss, which takes the root's input back to OSC_IN or to the other UP link (R146, R149): the slots that name it
are disqualified. With nothing selected and no UP link left that the root followed, it is the loss of all (R27). -/
def linkLost (s : State) (n : Nat) : State :=
  let was := decide (s.clk.rootFwd = some n)
  let s1 := loseSource (changeUp (if was then rootInput s none else s) n) 1 n
  let s2 := if was && decide (s1.mode = .locked) && (selected s1).isNone && s1.sel.sw.isNone && decide (upCarrying s1 = []) then lossOfAll s1 none else s1
  setSelf (follow s2) n

/-- Entry to FAILED (R148). -/
def failLink (s : State) (n : Nat) : State :=
  let st := linkState s n
  if st = 0 ∨ st = 7 then s
  else
    let s1 := setF (setLinkState (linkDrop s n) n 7) (Reg.LINK_LINK_STATUS_FWD_CLK_OK n) 0
    linkLost (raise (incF s1 (Reg.LINK_FAIL_CNT n) 1) (Reg.LINK_LINK_EVENTS_LINK_FAILED n)) n

/-- RETRAIN (R155): training starts again from CLOCK. -/
def retrainLink (s : State) (n : Nat) : State :=
  if linkRole s n = 0 then setF s (Reg.LINK_LINK_CFG_RETRAIN n) 0
  else if linkState s n = 7 then s
  else enterClock (linkLost (linkDrop s n) n) n

/-- Links that name a role and act as OFF take a free place, lowest number first, and train (R139). -/
def fillRole (s : State) (role : Nat) : State :=
  (List.range 6).foldl (fun t n =>
    if linkRoleCfg t n = role ∧ role ≠ 0 ∧ (linkS t n).holds = false ∧ (roleHolders t role).length < roleLimit t role then
      let t1 := updLink t n (fun l => { l with holds := true })
      if linkState t n = 0 ∧ powered t .jieth = true then enterClock t1 n else t1
    else t) s

/-- A write of LINK_CFG.ROLE (R139): the old role's link fails, the new role is held if the limit allows, and a place left free is
taken. -/
def setLinkRole (s : State) (n role : Nat) : State :=
  let old := linkRole s n
  if linkRoleCfg s n = role then s
  else
    let s1 := if old = 0 then s else failLink s n
    let s2 := setF (updLink s1 n (fun l => { l with holds := false })) (Reg.LINK_LINK_CFG_ROLE n) role
    let s3 := if role ≠ 0 ∧ (roleHolders s2 role).length < roleLimit s2 role then
        let t := updLink s2 n (fun l => { l with holds := true })
        if linkState t n = 0 ∧ powered t .jieth = true then enterClock t n else t
      else s2
    reselect (fillRole s3 old)

/-! ### Training -/
/-- The HELLO that this end of link n sends (R140, R217): a DOWN end tells the address of the device below, an UP end registers the address it was
told over the link it follows. -/
def ownHello (s : State) (n : Nat) (ack refused : Bool) : HelloIn :=
  let role := linkRole s n
  let addr := match role with
    | 2 => childAddr s n
    | 1 => if (followedUp s).getD n = n then (linkS s n).selfAddr else 0
    | _ => 0
  { role := BitVec.ofNat 2 role, depth := ownDepth s, epoch := s.pair.epoch.toNat, addr := addr, regAck := ack, regRefused := refused,
    serial := if role = 3 then Config.serial.toNat else 0 }

/-- JIETH_CLOCK_LOCK (R143, R220): CLOCK passes to ALIGN. -/
def execJiethClockLock (n : Nat) (s : State) : Host.Outcome State Fault Refusal :=
  if 6 ≤ n then .fault .noSuchResource
  else if linkState s n = 1 then
    let s1 := setF (setF s (Reg.LINK_LINK_STATUS_FWD_CLK_OK n) 1) (Reg.LINK_JPHY_LC_DETECT n) 1
    ok (setLinkState ((List.range 4).foldl (fun t k => setF t (Reg.LINK_JPHY_LANE_LOCK n k) 1) s1) n 2)
  else ok s

/-- JIETH_ALIGN_DONE (R221): the words found on the lanes and their skew in blocks. A lane with its own word is aligned; a wrong word sets
LANE_ORDER, a skew above 8 SKEW_ERR with the lanes unaligned, and the link stays in ALIGN; otherwise HELLO. -/
def execJiethAlignDone (n : Nat) (words : List Nat) (skew : Nat) (s : State) : Host.Outcome State Fault Refusal :=
  if 6 ≤ n then .fault .noSuchResource
  else if linkState s n ≠ 2 then ok s
  else
    let found := fun k => min (words.getD k 7) 7
    let right := (List.range 4).all (fun k => found k = k)
    let s1 := (List.range 4).foldl (fun t k =>
      setB (setF t (Reg.LINK_JPHY_LANE_AW_FOUND n k) (found k)) (Reg.LINK_JPHY_LANE_ALIGNED n k) (!right && decide (found k = k))) s
    if !right then
      ok (raiseIf ((List.range 4).any (fun k => found k ≠ k && decide (found k < 4))) s1 (Reg.LINK_JPHY_EVENTS_LANE_ORDER n))
    else if 8 < skew then ok (raise s1 (Reg.LINK_JPHY_EVENTS_SKEW_ERR n))
    else
      let s2 := (List.range 4).foldl (fun t k => setF t (Reg.LINK_JPHY_LANE_ALIGNED n k) 1) s1
      let s3 := setF (setF s2 (Reg.LINK_LINK_STATUS_PAIR01_OK n) 1) (Reg.LINK_LINK_STATUS_PAIR23_OK n) 1
      let s4 := setF (setF s3 (Reg.LINK_JPHY_STATUS_TX_PAIR01_USED n) 1) (Reg.LINK_JPHY_STATUS_TX_PAIR23_USED n) 1
      ok (sendHello (setLinkState s4 n 3) n (ownHello s4 n false false))

/-- Roles that face each other (R143). -/
def rolesMatch (own peer : Nat) : Bool := (own = 1 && peer = 2) || (own = 2 && peer = 1) || (own = 3 && peer = 3)

/-- An epoch received on the mirror link (R164, R175): the one that the next takeover reckons with, kept since power-on, and PEER_EPOCH. -/
def setPeerEpoch (s : State) (e : Nat) : State :=
  setF { s with pair := { s.pair with peerEpoch := some (BitVec.ofNat 16 e) } } Reg.PAIR_PEER_EPOCH e

/-- An address can be registered at this manager over link n (R140, R152): it is new, starts with that link, and there are fewer than 48. -/
def canRegister (s : State) (a : Nat) : Bool := decide (a ∈ s.jieth.workers) || decide (s.jieth.workers.length < 48)

/-- Register an address (R140). -/
def register (s : State) (a : Nat) : State :=
  if a ∈ s.jieth.workers then s else { s with jieth := { s.jieth with workers := s.jieth.workers ++ [a] } }

/-- A registration, or its withdrawal, that a worker below passes on over a link that carries (R140; DESIGN CHOICE, log entry 137: HELLO carries it,
REG_REFUSED from below withdraws it): a manager answers it, a worker passes it up. -/
def passUp (s : State) (n : Nat) (h : HelloIn) : State :=
  if s.straps.jrole = 2 then
    if addrHop h.addr 1 ≠ n then s
    else if h.regRefused then { s with jieth := { s.jieth with workers := s.jieth.workers.erase h.addr } }
    else if canRegister s h.addr then sendHello (register s h.addr) n { ownHello s n true false with addr := h.addr }
    else sendHello (raise s (Reg.LINK_LINK_EVENTS_TOO_MANY n)) n { ownHello s n false true with addr := h.addr }
  else
    match followedUp s with
    | some k => sendHello s k { ownHello s k false h.regRefused with addr := h.addr }
    | none => s

/-- A manager's answer to a registration from below (R140): passed down the path of its address; a refusal takes the link of the worker it names
back to HELLO. -/
def passDown (s : State) (h : HelloIn) : State :=
  let d := ownDepth s
  let k := addrHop h.addr (d + 1)
  if d < addrDepth h.addr ∧ k < 6 ∧ linkRole s k = 2 then
    let s1 := sendHello s k { ownHello s k h.regAck h.regRefused with addr := h.addr }
    if h.regRefused ∧ addrDepth h.addr = d + 1 then
      let s2 := raise (updLink (linkDrop s1 k) k (fun l => { l with helloHeld := true })) (Reg.LINK_LINK_EVENTS_TOO_MANY k)
      setLinkState s2 k 3
    else s1
  else s

/-- A HELLO exchange in state HELLO (R140, R143, R164, R217): incompatible roles, a device at depth 4 and a refused registration hold the link in
HELLO; otherwise DELAY. -/
def takeHello (s : State) (n : Nat) (h : HelloIn) : State :=
  let role := linkRole s n
  let s0 := setF s (Reg.LINK_LINK_STATUS_PEER_DEPTH n) h.depth
  if !rolesMatch role h.role.toNat then
    raise (updLink s0 n (fun l => { l with helloHeld := true })) (Reg.LINK_LINK_EVENTS_ROLE_MISMATCH n)
  else
    let s1 := match role with
      | 1 => setSelf (updLink s0 n (fun l => { l with selfAddr := if h.regRefused then l.selfAddr else h.addr % 65536 })) n
      | 3 => setPeerEpoch (updLink s0 n (fun l => { l with peerSerial := some h.serial })) h.epoch
      | _ => s0
    let manager := decide (role = 2) && decide (s.straps.jrole = 2) && decide (h.addr ≠ 0)
    let deep := decide (role = 2) && decide (4 ≤ ownDepth s)
    let many := (decide (role = 1) && h.regRefused) || (manager && !canRegister s h.addr)
    let s2 := raiseIf many (raiseIf deep s1 (Reg.LINK_LINK_EVENTS_TOO_DEEP n)) (Reg.LINK_LINK_EVENTS_TOO_MANY n)
    let s3 := if manager then sendHello s2 n (ownHello s2 n (!many) many) else s2
    if deep || many then updLink s3 n (fun l => { l with helloHeld := true })
    else
      let s4 := if role = 2 ∧ s.straps.jrole = 1 ∧ h.addr ≠ 0 then passUp s3 n { h with regRefused := false } else s3
      setLinkState (updLink s4 n (fun l => { l with helloHeld := false, tries := 0, regAddr := if manager then some (childAddr s n) else none })) n 4

/-- JIETH_HELLO (R140, R143, R217): an exchange in training, or on a link that carries a registration passed on. -/
def execJiethHello (n : Nat) (h : HelloIn) (s : State) : Host.Outcome State Fault Refusal :=
  if 6 ≤ n then .fault .noSuchResource
  else if linkState s n = 3 then ok (takeHello (takeBlock s n 6 (helloPayload h)) n h)
  else if linkCarries s n then
    ok (if linkRole s n = 2 then passUp s n h else if linkRole s n = 1 then passDown s h else s)
  else ok s

/-- Internal delay of link n in fifths (R144, R293): k = 0 transmit, 1 receive. -/
def linkDelay (s : State) (n k : Nat) : Int :=
  let base : Int := (calWord s ((itemWords (.jiethDelay n)).getD k 0)).toNat
  let tc : Int := (calWord s ((itemWords (.tempco n true)).getD k 0)).toInt
  let ref : Int := ((calWord s 5).truncate 16).toInt
  5 * (base + tc * (getS s Reg.CAL_DIE_TEMP - ref) / 100)

/-- New values of rt, d_w and θ whose block boundary has come: a block is shorter than a tick (R145). -/
def loopDue (s : State) (n : Nat) : Option (Int × Int × Nat) :=
  match (linkS s n).loopPend with
  | some (rt, dw, th, at_) => if at_ < s.now then some (rt, dw, th) else none
  | none => none

/-- DLY_STALE (R145, R286): new values wait for the next block boundary, or a correction of the link's delays is pending or being measured. -/
def dlyStale (s : State) (n : Nat) : Bool :=
  itemBusy s (.jiethDelay n) || itemBusy s (.tempco n true) || ((linkS s n).loopPend.isSome && (loopDue s n).isNone)

/-- rt of a measurement (R144), in fifths. -/
def loopRt (s : State) (n : Nat) (m : LoopMeas) : Int :=
  m.loop - m.theta - (linkDelay s n 0 + m.peerRx + m.peerTx + linkDelay s n 1)

/-- d_w of a round trip (R144): transmit delay of the manager's side, medium delay with ASYM, own receive delay, in fifths. -/
def linkDw (s : State) (n : Nat) (m : LoopMeas) (rt : Int) : Int :=
  m.peerTx + (rt / 2 + 5 * getS s (Reg.LINK_ASYM n)) + linkDelay s n 1

/-- rt, d_w and θ of a link take effect (R144, R145). -/
def publishLoop (s : State) (n : Nat) (rt dw : Int) (th : Nat) : State :=
  let s1 := updLink (setHL s (Reg.LINK_RT_HI n) (Reg.LINK_RT_LO n) (roundDiv rt 5)) n (fun l => { l with dw := dw, loopPend := none })
  let s2 := if linkRole s n = 1 then setHL s1 (Reg.LINK_DW_HI n) (Reg.LINK_DW_LO n) (roundDiv dw 5) else s1
  setF s2 (Reg.LINK_THETA n) th

/-- New values whose block boundary has come are published (R145). -/
def settleLoop (s : State) (n : Nat) : State :=
  match loopDue s n with
  | some (rt, dw, th) => publishLoop s n rt dw th
  | none => s

/-- Entry to UP: the fabric port comes up, a registration is entered, the root may follow (R140, R176). -/
def enterUp (s : State) (n : Nat) : State :=
  let s1 := setF (setLinkState s n 5) (Reg.FP_SW_STATUS_LINK_UP (36 + n)) 1
  let s2 := match (linkS s n).regAddr with
    | some a => register s1 a
    | none => s1
  setSelf (follow s2) n

/-- JIETH_DELAY_DONE (R144): two measurements within 1 ps give rt and UP; otherwise DLY_DISAGREE, and FAILED after the third
failing attempt. -/
def execJiethDelayDone (n : Nat) (r1 r2 : LoopMeas) (s : State) : Host.Outcome State Fault Refusal :=
  if 6 ≤ n then .fault .noSuchResource
  else if linkState s n ≠ 4 then ok s
  else
    let a := loopRt s n r1
    let b := loopRt s n r2
    if (a - b).natAbs * 1000 ≤ 5 * 65536 then ok (enterUp (publishLoop s n (roundDiv (a + b) 2) (linkDw s n r2 (roundDiv (a + b) 2)) r2.own) n)
    else
      let k := (linkS s n).tries + 1
      let s1 := raise (updLink s n (fun l => { l with tries := k })) (Reg.LINK_LINK_EVENTS_DLY_DISAGREE n)
      ok (if 3 ≤ k then failLink s1 n else s1)

/-- JIETH_TRAINING_TIMEOUT (R143): a limit of CLOCK, ALIGN or the HELLO exchange. -/
def execJiethTrainingTimeout (n : Nat) (s : State) : Host.Outcome State Fault Refusal :=
  if 6 ≤ n then .fault .noSuchResource
  else
    let st := linkState s n
    if st = 1 ∨ st = 2 ∨ (st = 3 ∧ (linkS s n).helloHeld = false) then ok (failLink s n) else ok s

/-- FAILED_TIMEOUT (R143, R148): back to CLOCK, or OFF. -/
def execFailedTimeout (n : Nat) (s : State) : Host.Outcome State Fault Refusal :=
  if 6 ≤ n then .fault .noSuchResource
  else if linkState s n = 7 ∧ powered s .jieth = true ∧ s.mode ≠ .fault then
    ok (if linkRole s n = 0 then setF (setLinkState s n 0) (Reg.LINK_LINK_CFG_RETRAIN n) 0 else enterClock s n)
  else ok s

/-! ### Markers and timing (R141, R142, R146, R161) -/

/-- Marker period 422.4 ns in fifths of 2^-16 ns. -/
def markerFifths : Int := 138412032

/-- ToD of a record in fifths of 2^-16 ns. -/
def recTod (r : TimingRec) : Int := 5 * (((r.sec * 10 ^ 9 + r.ns) * 65536 + r.frac : Nat) : Int)

/-- Distance of two 32-bit marker numbers, signed. -/
def markerDiff (a b : Nat) : Int := sext 32 ((a + 2 ^ 32 - b % 2 ^ 32) % 2 ^ 32)

/-- Offset of a marker (R146): the sender's ToD at its launch, plus d_w, less the receiver's ToD at its LC_156 edge; in 2^-16 ns. -/
def markerOfs (s : State) (n : Nat) (r : TimingRec) (m : Nat) (tod : Int) : Int :=
  roundDiv (recTod r + markerDiff m r.marker * markerFifths + (linkS s n).dw - 5 * tod) 5

/-- A mirror offset (R161): published, saturating, and given to R77; the first one applied aligns the outputs to the ToD second. -/
def takeMirror (s : State) (x : Int) : State :=
  let lim : Int := 2 ^ 31
  let s1 := setF s Reg.PAIR_MIRROR_OFS (twos 32 (clampInt (-lim) (lim - 1) x))
  let far := decide (getF s Reg.PAIR_PAIR_CFG_READY_PS * 65536 < x.natAbs * 1000)
  let s2 := { s1 with pair := { s1.pair with okSince := if far then none else some (s.pair.okSince.getD s.now) } }
  let s3 := takeOffset s2 x true
  if s3.tim.pend.isNone then firstAlign s3 0 1 0 false else s3

/-- A marker's frequency reaches the root that follows the link's clock (R141): the equivalent word is published (R163). -/
def markerFreq (s : State) (n : Nat) (freq : Int) : State := if s.clk.rootFwd = some n then takeWord s freq else s

/-- The offset that a marker and the timing frame give (R145, R146): it holds its last value while the link's delays are stale. -/
def markerOffset (s : State) (n : Nat) (n1 : Nat) (tod : Int) : State :=
  match (linkS s n).tf with
  | none => s
  | some r =>
    if dlyStale s n then s
    else
      let x := markerOfs s n r n1 tod
      let s1 := updLink s n (fun l => { l with ofs := some x })
      if s.mode = .standby ∧ mirrorLink s = some n then takeMirror s1 x else s1

/-- A timing frame on the mirror link (R164, R172): the epoch is kept; ACTIVE met by an active member is a dual active. -/
def mirrorTiming (s : State) (r : TimingRec) : State :=
  let s1 := setPeerEpoch { s with pair := { s.pair with activeAt := if r.active then s.now else s.pair.activeAt } } r.epoch
  if r.active && decide (pairRole s = 2) then
    let s2 := raise (setF s1 Reg.PAIR_PAIR_STATUS_DUAL_ACTIVE 1) Reg.PAIR_PAIR_EVENTS_DUAL_ACTIVE_SET
    let s3 := incF s2 Reg.PAIR_DUAL_ACTIVE_CNT 1
    { s3 with pair := { s3.pair with timer := some (s3.pair.timer.getD s3.now) } }
  else s1

/-- A timing frame whose marker has arrived is taken (R142, R164, R172). -/
def takeTiming (s : State) (n : Nat) (r : TimingRec) : State :=
  let s1 := setF (updLink s n (fun l => { l with tf := some r, tfNext := none })) (Reg.LINK_LINK_STATUS_PEER_EPOCH n) r.epoch
  setSelf (follow (if linkRole s n = 3 then mirrorTiming s1 r else s1)) n

/-- The timing frame that waits is taken with its marker (R142). -/
def takeWaiting (s : State) (n m : Nat) : State :=
  match (linkS s n).tfNext with
  | some r => if 0 ≤ markerDiff m r.marker then takeTiming s n r else s
  | none => s

/-- A good marker on link n, which carries from UP on (R141, R142, R146): a waiting timing frame, the frequency of a followed clock, the link's
offset. -/
def takeMarker (s : State) (n : Nat) (m : MarkerIn) : State :=
  let s1 := updLink s n (fun l => { l with marker := some m.n1.toNat })
  if linkCarries s n then
    let s2 := takeWaiting (settleLoop (updLink s1 n (fun l => { l with freq := some m.freq })) n) n m.n1.toNat
    markerOffset (markerFreq s2 n m.freq) n m.n1.toNat m.tod
  else s1

/-- MARKER_RX (R141, R142, R146, R215, R218): a block error is counted; a marker whose copies disagree is rejected; one out of place fails the
link. -/
def execMarkerRx (n : Nat) (m : MarkerIn) (s : State) : Host.Outcome State Fault Refusal :=
  if 6 ≤ n then .fault .noSuchResource
  else
    let st := linkState s n
    if st < 2 ∨ 6 < st then ok s
    else
      match blockType (rxPairsOf s n) m.hdr.toNat with
      | none => ok (countBlockErr s n 1)
      | some t =>
        if t ≠ 4 ∨ markerIntact m = false then ok s
        else if !m.inPlace ∧ 3 ≤ st then ok (failLink s n)
        else ok (takeMarker (takeBlock s n 4 (markerPayload m.n1.toNat)) n m)

/-- ACTIVE flag of the timing frames (R142, R162): a pair member's role; a worker passes on what it follows. -/
def activeFlag (s : State) : Bool :=
  match pairRole s with
  | 2 => true
  | 3 =>
    match s.clk.rootFwd with
    | some n => (match (linkS s n).tf with | some r => r.active | none => true)
    | none => true
  | _ => false

/-- Epoch of the timing frames: the member's own, or the followed link's. -/
def epochOut (s : State) : Nat :=
  match s.clk.rootFwd with
  | some n => if s.straps.jrole = 1 then (match (linkS s n).tf with | some r => r.epoch | none => 0) else s.pair.epoch.toNat
  | none => s.pair.epoch.toNat

/-- UPSTREAM_LOST (R150): a worker follows nothing, or what it follows says so. -/
def upLost (s : State) : Bool :=
  if s.straps.jrole = 1 then
    match s.clk.rootFwd with
    | some n => (match (linkS s n).tf with | some r => r.upLost | none => false)
    | none => true
  else false

/-- The timing record of a marker that leaves link n at ToD `tod` in 2^-16 ns (R142, R219). -/
def timingRec (s : State) (marker tod : Nat) : TimingRec :=
  { marker := marker % 2 ^ 32, sec := tod / 65536 / 10 ^ 9, ns := tod / 65536 % 10 ^ 9, frac := tod % 65536, epoch := epochOut s,
    active := activeFlag s, upLost := upLost s, dataset := announced s }

/-- A link carries timing frames downward or to the mirror (R142). -/
def timingOut (s : State) (n : Nat) : Bool := (decide (linkRole s n = 2) || decide (linkRole s n = 3)) && linkCarries s n

/-- The tick at which marker number `k` leaves link n: at the end of its group (R141). -/
def markerTick (s : State) (n k : Nat) : Nat := s.clk.divAt + 264 * ((linkS s n).markerAt + k + 1)

/-- Marker `k` of link n and the timing frame that names it leave (R141, R142, R218, R219). -/
def sendMarkerFrame (s : State) (n k tod : Nat) : State :=
  let r := timingRec s k tod
  let s1 := sendBlock (emit (draw s).2 (.timing n r)) n 4 (markerPayload k)
  (timingPayloads r).foldl (fun t p => sendBlock t n 5 p) s1

/-- The next marker of link n: the first that leaves after the present tick. -/
def nextMarker (s : State) (n : Nat) : Nat := groupNo s - (linkS s n).markerAt

/-- Extra timing frame of link n for its next marker (R170): the ToD is the one at that marker's launch. The regular schedule stays. -/
def sendTiming (s : State) (n : Nat) : State :=
  if timingOut s n then
    let k := nextMarker s n
    sendMarkerFrame s n k (todAfter s (markerTick s n k - s.now) % todWrap / 2 ^ 40).toNat
  else s

/-- Extra timing frames of a member that acts on a role (R170, R172): on every DOWN and MIRROR link. -/
def sendTimingAll (s : State) : State := (List.range 6).foldl sendTiming s

/-- The next regular timing frame's marker (R142): numbers divisible by 1,024; one whose frame has not left may leave on the present tick. -/
def nextTiming (s : State) (n : Nat) : Nat :=
  let j := (nextMarker s n + 1023) / 1024 * 1024
  let here := nextMarker s n - 1
  if here % 1024 = 0 ∧ 0 < nextMarker s n ∧ markerTick s n here = s.now ∧ (linkS s n).tfAt ≠ some s.now then here else j

/-- TIMING_FRAME_TX (R142): time runs to the next marker whose number is a multiple of 1,024, and the frame leaves with it. -/
def execTimingFrameTx (n : Nat) (s : State) : Host.Outcome State Fault Refusal :=
  if 6 ≤ n then .fault .noSuchResource
  else if !timingOut s n || !s.clk.started then ok s
  else
    let k := nextTiming s n
    let t := advance (markerTick s n k - s.now) s
    ok (sendMarkerFrame (updLink t n (fun l => { l with tfAt := some t.now })) n k (todVis t))

/-- TIMING_FRAME_RX (R142, R219): the first intact copy is used; none, or one more than 1,024 markers old, is discarded and counted; one that
comes before its marker waits for it. -/
def execTimingFrameRx (n : Nat) (r0 r1 : List Word) (s : State) : Host.Outcome State Fault Refusal :=
  if 6 ≤ n then .fault .noSuchResource
  else if !linkCarries s n then ok s
  else
    match (timingOf r0).or (timingOf r1) with
    | none => ok (incF s (Reg.LINK_TF_DISCARD n) 1)
    | some r =>
      match (linkS s n).marker with
      | some m =>
        if 1024 < markerDiff m r.marker then ok (incF s (Reg.LINK_TF_DISCARD n) 1)
        else if markerDiff m r.marker < 0 then ok (updLink s n (fun l => { l with tfNext := some r }))
        else ok (takeTiming s n r)
      | none => ok (updLink s n (fun l => { l with tfNext := some r }))

/-- RT_UPDATE (R145, R291): rt, d_w and θ of 64 averaged markers, with pending corrections of the link, wait for the next block boundary. -/
def execRtUpdate (n : Nat) (m : LoopMeas) (s : State) : Host.Outcome State Fault Refusal :=
  if 6 ≤ n then .fault .noSuchResource
  else if !linkCarries s n then ok s
  else
    let s1 := applyItem (applyItem (settleLoop s n) (.jiethDelay n)) (.tempco n true)
    let rt := loopRt s1 n m
    let v := (rt, linkDw s1 n m rt, m.own, s.now)
    ok (sendBlock (updLink s1 n (fun l => { l with loopPend := some v })) n 6 (delayPayload m.own ((linkS s n).marker.getD 0)))

/-- Every DLL is forced to bypass (R149): it locks afresh before it can return (R57). -/
def bypassAll (s : State) : State :=
  (List.range 20).foldl (fun t k => setF (setF t (Reg.DLL_STAT_LOCK k) 0) (Reg.DLL_STAT_BYPASS k) 1) s

/-- FWD_CLK_LOST (R149, R163, R225): a lost clock fails its link; of the followed link it returns the root to OSC_IN with every DLL in
bypass, in STANDBY with the control word held. -/
def execFwdClkLost (n : Nat) (s : State) : Host.Outcome State Fault Refusal :=
  if 6 ≤ n then .fault .noSuchResource
  else
    let st := linkState s n
    if st = 0 ∨ st = 7 then ok s
    else
      let s1 := setF (setF s (Reg.LINK_LINK_STATUS_FWD_CLK_OK n) 0) (Reg.LINK_JPHY_LC_DETECT n) 0
      let s2 := raise s1 (Reg.LINK_LINK_EVENTS_FWD_CLK_LOST n)
      let s3 := if s.clk.rootFwd = some n then
          bypassAll { s2 with clk := { s2.clk with cwHeld := s2.clk.cwHeld || decide (s.mode = .standby) } }
        else s2
      ok (failLink s3 n)

/-! ### Frames, flow control and lanes (R216, R217, R223 to R225) -/

/-- JIETH_FRAME_RX (R214 to R217, R193): block errors are counted; a damaged frame is counted and asked for again; frames are taken in order of
SEQ; Ethernet goes to the fabric. FLOW tells of it. Control frames are the command CONTROL_FRAME_RX. -/
def execJiethFrameRx (n : Nat) (f : JFrameIn) (s : State) : Host.Outcome State Fault Refusal :=
  if 6 ≤ n then .fault .noSuchResource
  else if !linkCarries s n then ok s
  else
    let s0 := countBlockErr s n (blockErrors (rxPairsOf s n) (f.hdrs.map (·.toNat)))
    let cls := descClass f.desc
    let seq := BitVec.ofNat 12 (descSeq f.desc)
    if frameIntact (rxPairsOf s n) f = false then
      ok (sendFlow (updLink (raise (incF s0 (Reg.LINK_CRC_ERR n) 1) (Reg.LINK_JPHY_EVENTS_CRC_ERR_SEEN n)) n (fun l => { l with nak := true })) n)
    else if seq = (linkS s n).seqRx + 1 then
      let s1 := updLink s0 n (fun l => { l with seqRx := l.seqRx + 1, nak := false })
      ok (sendFlow (if (cls = 0 ∨ cls = 2) ∧ powered s1 .fab = true then ingress s1 (36 + n) f.frame cls else s1) n)
    else ok (sendFlow (updLink s0 n (fun l => { l with nak := l.nak || decide ((linkS s n).seqRx - seq ≥ 2048) })) n)

/-- Frames still unacknowledged after ACK_SEQ. -/
def afterAck (ack : BitVec 12) (l : List (BitVec 12 × Nat × Nat)) : List (BitVec 12 × Nat × Nat) :=
  if l.any (fun e => e.1 = ack) then ((l.dropWhile (fun e => e.1 ≠ ack)).drop 1) else l

/-- FLOW_RX (R217, R223): acknowledged frames leave the replay buffer, a NAK resends the rest, credit and usable pairs are taken. -/
def execFlowRx (n : Nat) (f : FlowIn) (s : State) : Host.Outcome State Fault Refusal :=
  if 6 ≤ n then .fault .noSuchResource
  else if !linkCarries s n then ok s
  else
    let rest := afterAck (BitVec.ofNat 12 f.ackSeq) (linkS s n).replay
    let s1 := updLink (takeBlock s n 6 (flowPayload f)) n (fun l =>
      { l with replay := rest, credit := BitVec.ofNat 16 f.credit, peerPairs := BitVec.ofNat 2 (f.pair0.toNat + 2 * f.pair1.toNat) })
    ok (if f.nak then incF s1 (Reg.LINK_REPLAY_CNT n) rest.length else s1)

/-- Pair bit of a lane. -/
def laneBit (k : Nat) : BitVec 2 := if k < 2 then 1 else 2

/-- PAIR01_OK or PAIR23_OK, by lane. -/
def pairOk (n k : Nat) : Fld := if k < 2 then Reg.LINK_LINK_STATUS_PAIR01_OK n else Reg.LINK_LINK_STATUS_PAIR23_OK n

/-- LANE_LOST (R223, R225): the lane's pair is out of use for reception; with both pairs out no marker arrives, and the link fails. -/
def execLaneLost (n : Nat) (k : Nat) (s : State) : Host.Outcome State Fault Refusal :=
  if 6 ≤ n ∨ 4 ≤ k then .fault .noSuchResource
  else if !linkCarries s n || getB s (Reg.LINK_JPHY_LANE_LOST n k) then ok s
  else
    let s1 := setF (setF (setF s (Reg.LINK_JPHY_LANE_LOST n k) 1) (Reg.LINK_JPHY_LANE_ALIGNED n k) 0) (pairOk n k) 0
    let s2 := raise s1 (Reg.LINK_JPHY_EVENTS_LANE_LOST n)
    let s3 := updLink s2 n (fun l => { l with rxPairs := l.rxPairs &&& ~~~(laneBit k) })
    ok (if (linkS s3 n).rxPairs = 0 then failLink s3 n else sendFlow s3 n)

/-- PAIR_SWITCH (R223, R224): the transmitter uses the pairs that the peer reports usable; with a pair of either direction out of use
the link is DEGRADED, with all four lanes UP. -/
def execPairSwitch (n : Nat) (s : State) : Host.Outcome State Fault Refusal :=
  if 6 ≤ n then .fault .noSuchResource
  else if !linkCarries s n then ok s
  else
    let l := linkS s n
    let s1 := setB (setB s (Reg.LINK_JPHY_STATUS_TX_PAIR01_USED n) (l.peerPairs.getLsbD 0)) (Reg.LINK_JPHY_STATUS_TX_PAIR23_USED n)
      (l.peerPairs.getLsbD 1)
    if l.peerPairs = 3 ∧ l.rxPairs = 3 then ok (setLinkState s1 n 5)
    else if linkState s n = 5 then ok (incF (setLinkState s1 n 6) (Reg.LINK_DEGRADE_CNT n) 1)
    else ok s1

/-- LANE_REJOINED (R224): the lane is aligned again; with its pair whole and both directions on four lanes the link is UP. -/
def execLaneRejoined (n : Nat) (k : Nat) (s : State) : Host.Outcome State Fault Refusal :=
  if 6 ≤ n ∨ 4 ≤ k then .fault .noSuchResource
  else if !linkCarries s n || !getB s (Reg.LINK_JPHY_LANE_LOST n k) then ok s
  else
    let s1 := setF (setF s (Reg.LINK_JPHY_LANE_LOST n k) 0) (Reg.LINK_JPHY_LANE_ALIGNED n k) 1
    let other := if k % 2 = 0 then k + 1 else k - 1
    let whole := !getB s1 (Reg.LINK_JPHY_LANE_LOST n other)
    let s2 := if whole then setF (updLink s1 n (fun l => { l with rxPairs := l.rxPairs ||| laneBit k })) (pairOk n k) 1 else s1
    let s3 := sendFlow (raise s2 (Reg.LINK_JPHY_EVENTS_LANE_REJOINED n)) n
    ok (if (linkS s3 n).rxPairs = 3 ∧ (linkS s3 n).peerPairs = 3 then setLinkState s3 n 5 else s3)

end Sys2Proof.Machine
end

