-- ==== Sys2Proof/Machine/Pair.lean ====
section
/-! DEFINITION. Active and standby pair (chapter 8): the role taken and its acknowledgement, takeover and standby, dual actives, mirror
state frames. -/

namespace Sys2Proof.Machine

/-- ROLE_IN as last taken (R166). -/
def roleIn (s : State) : Nat := getF s Reg.PAIR_PAIR_STATUS_ROLE_IN

/-- Level of ROLE_ACK (R168). -/
def roleAck (s : State) : Bool :=
  s.straps.pairEn && !s.pair.yielded &&
  match s.mode with
  | .reset | .boot | .fault => false
  | _ => decide (roleIn s ≠ 3) && decide (roleIn s = pairRole s)

/-- READY (R162). -/
def pairReady (s : State) : Bool :=
  decide (s.mode = .standby) &&
  (match mirrorLink s with | some n => linkCarries s n && decide (s.clk.rootFwd = some n) | none => false) &&
  getB s Reg.PAIR_PAIR_STATUS_MIRROR_OK && getB s Reg.PAIR_PAIR_STATUS_CAL_MATCH && s.tim.pend.isNone &&
  (match s.pair.okSince with
   | some t => decide (t + getF s Reg.PAIR_PAIR_CFG_READY_S * 625000000 ≤ s.now)
   | none => false)

/-- Epoch `a` is higher than `b` (R164). -/
def epochHigher (a b : BitVec 16) : Bool := epochAbove a.toNat b.toNat

/-- The epoch on becoming active (R164). -/
def nextEpoch (s : State) : BitVec 16 :=
  match s.pair.peerEpoch with
  | none => s.pair.epoch + 1
  | some b => if epochHigher s.pair.epoch b then s.pair.epoch + 1 else b + 1

/-- Own epoch is the lower of two active members', ties decided by SYS.SERIAL (R164). -/
def epochLower (s : State) : Bool :=
  match s.pair.peerEpoch with
  | none => false
  | some b =>
    if epochHigher b s.pair.epoch then true
    else if epochHigher s.pair.epoch b then false
    else
      match mirrorLink s with
      | some n => (match (linkS s n).peerSerial with | some x => decide (Config.serial.toNat < x) | none => false)
      | none => false

/-- The audit entry of a role change (R169, R350). -/
def auditRole (s : State) : State := auditEvent s .role 0x20 (roleIn s) (BitVec.ofNat 32 s.pair.epoch.toNat)

/-- Entry to STANDBY (R24, R161): selection and calibration end, the root follows the mirror link, nothing is mirrored yet. -/
def enterStandby (s : State) : State :=
  let s0 := if s.mode = .calibrate then abandonCal s else s
  let s1 := enterMode (dropSelection s0) .standby
  follow { s1 with
    pair := { s1.pair with mirror := none, okSince := none }
    tim := { s1.tim with pend := none }
    sel := { s1.sel with coast := none, holdVal := none } }

/-- STANDBY is entered as the role taken (R25, R169): the change is logged, and timing frames tell of it. -/
def enterStandbyRole (s : State) : State := sendTimingAll (auditRole (enterStandby s))

/-- An active member becomes standby (R25, R170). -/
def toStandby (s : State) : State := sendTimingAll (auditRole (raise (enterStandby s) Reg.PAIR_PAIR_EVENTS_BECAME_STANDBY))

/-- The mode that a takeover takes from the mirrored state (R29, R171): none is no mirrored mode. -/
def mirroredMode (s : State) : Option Mode :=
  match s.pair.mirror with
  | none => none
  | some f => if f.mode = .locked ∧ 1000 < s.pair.mirrorMs then some .acquire else some f.mode

/-- The new active without its reference: HOLDOVER where its history serves, else FREERUN (R28, R29). -/
def takeoverLost (s : State) : State := if lossToHoldover s then enterHoldover s else enterFreerun s

/-- Slot n is the new active's selection; the first one of all aligns the outputs (R29, R74). -/
def takeoverSelect (s : State) (n : Nat) : State :=
  let s1 := follow (setF s Reg.REF_SEL_STATUS_SELECTED n)
  let s2 := if s.sel.everSelected then s1 else firstAlign s1 (-slotOfs s n) 0 0 false
  enterMode { s2 with sel := { s2.sel with everSelected := true } } .locked

/-- The new active LOCKED on the active's selection, where the slot is qualified (R29). -/
def takeoverLocked (s : State) : State :=
  match s.pair.mirror.bind (·.selected) with
  | some n => if slotQual s n then takeoverSelect s n else takeoverLost s
  | none => takeoverLost s

/-- No history is held (R171). -/
def dropHist (s : State) : State := { s with sel := { s.sel with hist := [] } }

/-- No slot is eligible until the next evaluation. -/
def dropElig (s : State) : State := { s with sel := { s.sel with elig := [] } }

/-- Mode of the new active (R29), the recovery window being open. -/
def takeoverMode (s : State) : State :=
  match mirroredMode s with
  | some .locked => takeoverLocked s
  | some .freerun => enterFreerun s
  | some _ => enterHoldover s
  | none => dropElig (enterHoldover (dropHist s))

/-- The root's input returns to OSC_IN under build-out (R146) and the word follows requests again; the mirror offset is lost with its reference
(R77, R170). -/
def takeoverRoot (s : State) : State :=
  let s1 := rootInput s none
  { s1 with
    pair := { s1.pair with epoch := nextEpoch s }
    clk := { s1.clk with cwHeld := false }
    tim := { s1.tim with pend := none } }

/-- TAKEOVER (R170, R164, R171, R28): the standby becomes active; the control word starts from the last mirrored applied value, the extra timing
frames leave, and PTP master messages resume on the ports. -/
def takeover (s : State) : State :=
  let ready := pairReady s
  let cw := match s.pair.mirror with | some f => f.cw | none => cwNow s
  let s1 := takeWord (takeoverRoot s) cw
  let s2 := raise (incF s1 Reg.PAIR_TAKEOVER_CNT 1) Reg.PAIR_PAIR_EVENTS_TOOK_OVER
  let s3 := raiseIf (!ready) s2 Reg.PAIR_PAIR_EVENTS_UNREADY_TAKEOVER
  let s4 := takeoverMode (openWindow s3)
  let s5 := openWindow { s4 with pair := { s4.pair with mirror := none } }
  ptpResume (sendTimingAll (auditRole s5))

/-- Entry to CONFIG by isolation (R25): active timing stops and the control word is held. -/
def isolate (s : State) : State :=
  let s0 := if s.mode = .calibrate then abandonCal s else s
  let s1 := enterMode (dropSelection s0) .config
  let s2 := rootInput { s1 with clk := { s1.clk with cwHeld := true }, tim := { s1.tim with pend := none }, sel := { s1.sel with coast := none } } none
  sendTimingAll (auditRole s2)

/-- Active modes, which ROLE_IN = 0b01 takes to STANDBY (R25). -/
def activeMode (m : Mode) : Bool :=
  match m with
  | .freerun | .acquire | .locked | .holdover | .calibrate => true
  | _ => false

/-- A ROLE_IN change is taken (R166, R169, R172): a yield ends with it, and a 5 µs timer that runs starts again. -/
def roleTaken (s : State) (v : Nat) : State :=
  let s0 := setF { s with pair := { s.pair with yielded := false, timer := s.pair.timer.map (fun _ => s.now) } } Reg.PAIR_PAIR_STATUS_ROLE_IN v
  raiseIf (decide (v = 3)) (raise s0 Reg.PAIR_PAIR_EVENTS_ROLE_CHANGED) Reg.PAIR_PAIR_EVENTS_ROLE_RESERVED

/-- ROLE_IN_TAKEN (R25, R166 to R170): a value stable for 32 ticks. Outside RESET, BOOT, FAULT and CONFIG the device acts in it. -/
def execRoleInTaken (v : BitVec 2) (s : State) : Host.Outcome State Fault Refusal :=
  if !s.straps.pairEn || decide (v.toNat = roleIn s) || !powered s .time then ok s
  else
    let s2 := roleTaken s v.toNat
    if v = 1 then
      if activeMode s.mode then ok (toStandby s2) else ok s2
    else if v = 2 then
      if s.mode = .standby then ok (takeover s2) else ok s2
    else if activeMode s.mode || decide (s.mode = .standby) then ok (isolate s2)
    else ok s2

/-- An active member with the lower epoch yields (R172): to STANDBY, with ROLE_ACK held low. -/
def yieldNow (s : State) : State :=
  let s2 := enterStandby s
  sendTimingAll (auditRole (raise { s2 with pair := { s2.pair with yielded := true } } Reg.PAIR_PAIR_EVENTS_YIELDED))

/-- YIELD_TIMER_EXPIRY (R172): time runs to the end of the 5 µs, 3,125 ticks; a member that is still active and whose epoch is the lower then
yields. -/
def execYieldTimerExpiry (s : State) : Host.Outcome State Fault Refusal :=
  match s.pair.timer with
  | none => ok s
  | some t =>
    let s0 := advance (t + 3125 - s.now) s
    let s1 := { s0 with pair := { s0.pair with timer := none } }
    ok (if pairRole s1 = 2 ∧ epochLower s1 = true then yieldNow s1 else s1)

/-- DUAL_ACTIVE_CLEAR (R172): no ACTIVE timing frame for 1,024 markers, 270,336 ticks: time runs to the end of them. -/
def execDualActiveClear (s : State) : Host.Outcome State Fault Refusal :=
  if getB s Reg.PAIR_PAIR_STATUS_DUAL_ACTIVE then
    ok (setF (advance (s.pair.activeAt + 270336 - s.now) s) Reg.PAIR_PAIR_STATUS_DUAL_ACTIVE 0)
  else ok s

/-- Identifier and CRC of the calibration record (R158, R159). -/
def calIdents (s : State) : List Nat := [(calWord s 2).toNat, (calWord s 1007).toNat]

/-- One slot as mirrored (R158). -/
def mirSlot (s : State) (n : Nat) : MirSlot :=
  { qualified := slotQual s n, wtr := getB s (Reg.SLOT_SLOT_STATUS_WTR_RUN n), timer := getF s (Reg.SLOT_SLOT_STATUS_TIMER_S n),
    suspect := slotSuspect s n, rank := slotRank s n }

/-- The mirror state frame of the present state (R158). -/
def mirrorFrame (s : State) : MirrorFrame :=
  { mode := s.mode, selected := selected s, swTarget := s.sel.sw.map (·.b),
    committed := (match s.sel.sw with | some w => w.committed | none => false),
    force := forced s, lockout := slotNos.filter (fun n => getB s (Reg.SLOT_SLOT_CFG_LOCKOUT n)), cw := cwNow s,
    epoch := s.pair.epoch.toNat, slots := slotNos.map (mirSlot s), hist := s.sel.hist, calIds := calIdents s }

/-- The check of a mirror state frame: HMAC-SHA-256 with the mirror key, slot 65, over what it carries (R160, R338). -/
def mirrorTag (s : State) (f : MirrorFrame) : List Word :=
  hmac ((spGet? s.sec.keys 65).getD []) (Config.mirrorWords { f with tag := [] })

/-- The frame with its check. -/
def sealMirror (s : State) (f : MirrorFrame) : MirrorFrame := { f with tag := mirrorTag s f }

/-- MIRROR_STATE_FRAME_TX (R158, R160): the active sends it over a mirror link that carries, with its check under a usable mirror key. -/
def execMirrorStateFrameTx (s : State) : Host.Outcome State Fault Refusal :=
  match mirrorLink s with
  | some n =>
    if pairRole s = 2 ∧ linkCarries s n = true ∧ keyUsable s 65 = true then ok (emit s (.mirror (sealMirror s (mirrorFrame s)))) else ok s
  | none => ok s

/-- History as the standby keeps it (R158): the active's entries replace its own. -/
def mirrorHist (s : State) (f : MirrorFrame) : List HistEntry :=
  let old := if s.pair.mirror.isNone then [] else s.sel.hist.filter (fun e => f.hist.all (fun x => x.sec ≠ e.sec))
  (f.hist ++ old).take 7200

/-- A valid frame has arrived: MIRROR_OK, MIRROR_AGE, and the epoch received (R160, R164, R175). -/
def mirrorValid (s : State) (f : MirrorFrame) : State :=
  let s1 := setPeerEpoch { s with pair := { s.pair with mirrorMs := 0 } } f.epoch
  setF (setF s1 Reg.PAIR_PAIR_STATUS_MIRROR_OK 1) Reg.PAIR_MIRROR_AGE 0

/-- The standby takes the active's state in the place of its own (R158, R159). -/
def mirrorStore (s : State) (f : MirrorFrame) : State :=
  let s1 := { s with
    sel := { s.sel with hist := mirrorHist s f }
    pair := { s.pair with mirror := some f, epoch := BitVec.ofNat 16 f.epoch } }
  let s2 := setB s1 Reg.PAIR_PAIR_STATUS_CAL_MATCH (decide (f.calIds = calIdents s))
  let s3 := setF s2 Reg.REF_SEL_STATUS_FORCE_SLOT (match f.force with | some n => n | none => 15)
  slotNos.foldl (fun t n => setB t (Reg.SLOT_SLOT_CFG_LOCKOUT n) (decide (n ∈ f.lockout))) s3

/-- MIRROR_STATE_FRAME_RX (R158 to R160, R164): a frame on the mirror link is checked, in any mode; one that fails is counted; the standby
stores what a valid one carries. -/
def execMirrorStateFrameRx (f : MirrorFrame) (s : State) : Host.Outcome State Fault Refusal :=
  match mirrorLink s with
  | none => ok s
  | some n =>
    if !linkCarries s n then ok s
    else if !keyUsable s 65 || decide (f.tag ≠ mirrorTag s f) then ok (incF s Reg.PAIR_MIRROR_DISCARD 1)
    else ok (if s.mode = .standby then mirrorStore (mirrorValid s f) f else mirrorValid s f)

/-- MIRROR_LOST (R160): no valid frame for 1 s. -/
def execMirrorLost (s : State) : Host.Outcome State Fault Refusal :=
  if getB s Reg.PAIR_PAIR_STATUS_MIRROR_OK then ok (mirrorGone s) else ok s

end Sys2Proof.Machine
end

