-- ==== Sys2Proof/Machine/Gauge.lean ====
section
/-! DEFINITION. Gauges (chapter 11): conversion of an edge into a time, the four measurement modes, result words. Times are in 2^-16 ps
of the coarse counter's scale. -/

namespace Sys2Proof.Machine

/-- One tick, 1,600 ps, in 2^-16 ps. -/
def tickPs16 : Int := 104857600

/-- LSB_CAL in force (R244): 65,536 without a record. -/
def gaugeLsb (s : State) (n : Nat) : Nat :=
  let w := (calWord s (412 + 4 * n)).toNat
  if w = 0 then 65536 else w

/-- N0 in force. -/
def gaugeN0 (s : State) (n : Nat) : Nat := (calWord s (413 + 4 * n)).toNat % 1024

/-- IN_DELAY in force, 2^-16 ps. -/
def gaugeInDelay (s : State) (n : Nat) : Nat := (calWord s (414 + 4 * n)).toNat

/-- A correction of input n is pending (R240). -/
def gaugeStale (s : State) (n : Nat) : Bool := itemBusy s (.vernier n) || itemBusy s (.gaugeDelay n)

/-- Field of a CFG word. -/
def cfgMode (c : Word) : Nat := fieldOf c 2 2

/-- PARTNER of a CFG word. -/
def cfgPartner (c : Word) : Nat := fieldOf c 8 4

/-- CFG register of gauge n. -/
def gaugeCfg (s : State) (n : Nat) : Word := regWord s (0x90100 + 0x40 * n)

/-- RUNNING of gauge n. -/
def gaugeRuns (s : State) (n : Nat) : Bool := getB s (Reg.GA_STATUS_RUNNING n)

/-- CFG_ERR (R234): the configuration that the next start would take. -/
def gaugeCfgErr (s : State) (n : Nat) : Bool :=
  let c := gaugeCfg s n
  let p := cfgPartner c
  cfgMode c = 1 && (decide (p = n) || decide (11 < p) || decide (fieldOf (gaugeCfg s p) 0 1 = 0))

/-- Gauge m runs in INTERVAL mode with input n as its stop. -/
def usesAsStop (s : State) (n m : Nat) : Bool :=
  gaugeRuns s m && cfgMode (gaugeS s m).cfg = 1 && decide (cfgPartner (gaugeS s m).cfg = n) && decide (m ≠ n)

/-- The twelve gauges. -/
def gaugeNos : List Nat := List.range 12

/-- The converter of input n is enabled (R234). -/
def converterOn (s : State) (n : Nat) : Bool :=
  (if gaugeRuns s n then decide (fieldOf (gaugeS s n).cfg 0 1 = 1) else decide (fieldOf (gaugeCfg s n) 0 1 = 1)) ||
  gaugeNos.any (usesAsStop s n)

/-- GAUGE_EDGE (R230, R235, R236): time runs to the edge, the edge counter counts it. In PERIOD mode every M-th edge is converted, in FREQ
mode the gate's first and, as any later edge may be its last, each later one at least 200 ns after the first. An edge to be converted
within 200 ns of the last accepted one is missed; DEDUCED (log entry 142): an edge that its mode leaves unconverted anyway is not. -/
def execGaugeEdge (n ps : Nat) (s : State) : Host.Outcome State Fault Refusal :=
  if 12 ≤ n then .fault .noSuchResource
  else if !powered s .gauge || !converterOn s n then ok s
  else
    let s := runPs s ps
    let g := gaugeS s n
    let stop := gaugeNos.any (usesAsStop s n)
    let period := gaugeRuns s n && cfgMode g.cfg = 2
    let hit := period && decide (g.toGo ≤ 1)
    let later := gaugeRuns s n && cfgMode g.cfg = 3 && g.gate && (g.first.isSome || g.busy) && !stop
    let wanted := !period || hit || stop
    let g1 := { g with edges := g.edges + 1, seenAt := some ps, toGo := if period then (if hit then g.m else g.toGo - 1) else g.toGo }
    let dead := match g.lastEdge with | some t => decide (ps < t + 200000) | none => false
    if !wanted || (later && dead) then ok (updGauge s n (fun _ => g1))
    else if dead then ok (incF (updGauge s n (fun _ => { g1 with doubled := g1.doubled || hit })) (Reg.GA_MISSED n) 1)
    else ok (updGauge s n (fun _ => { g1 with
      lastEdge := if later then g.lastEdge else some ps, busy := true, cap := g1.edges, hit := hit
      capAt := (s.coarse, s.tim.tod, incApplied s) }))

/-- Unbounded coarse count of a 48-bit count near the present one (R233). -/
def coarseExt (s : State) (c : Nat) : Nat :=
  let d := (c + 2 ^ 48 - s.coarse % 2 ^ 48) % 2 ^ 48
  if d < 2 ^ 47 then s.coarse + d else s.coarse - (2 ^ 48 - d)

/-- Edge time of a conversion (R229). -/
def edgeTime (s : State) (n x sub count : Nat) : Int :=
  (x : Int) * tickPs16 + sub * 200 * 65536 - ((count : Int) - gaugeN0 s n) * gaugeLsb s n - gaugeInDelay s n

/-- Coarse and FINE of a time or an interval (R238): units of 2^-8 ps, rounded to nearest with a half rounding up. -/
def coarseFine (v : Int) : Int × Nat :=
  let r := (v + 128) / 256
  (r / 409600, (r % 409600).toNat)

/-- Words 1 to 3 in time form (R238). -/
def timeWords (coarse : Int) (fine : Nat) : List Word :=
  let c := (coarse % 2 ^ 48).toNat
  [BitVec.ofNat 32 (c / 2 ^ 16), BitVec.ofNat 32 (c % 2 ^ 16 * 2 ^ 16), BitVec.ofNat 32 fine]

/-- Words 1 to 3 in ToD form (R239), for a ToD in 2^-16 ns. -/
def todFormWords (t : Nat) : List Word :=
  let sec := t / (10 ^ 9 * 2 ^ 16) % 2 ^ 48
  let ns := t / 2 ^ 16 % 10 ^ 9
  [BitVec.ofNat 32 (sec / 2 ^ 16), BitVec.ofNat 32 (sec % 2 ^ 16 * 2 ^ 16 + ns / 2 ^ 14),
   BitVec.ofNat 32 (ns % 2 ^ 14 * 2 ^ 18 + t % 2 ^ 16 * 4)]

/-- ToD of an edge of input n (R239): the ToD at its coarse tick plus the fine part, in 2^-16 ns. DEDUCED (log entry 143): the ToD at the
coarse tick is the one held when the edge arrived, carried over the few ticks between by the increment then applied. -/
def edgeTod (s : State) (n : Nat) (t : Int) : Nat :=
  let c := (gaugeS s n).capAt
  let x := t / tickPs16
  let fine := t % tickPs16
  let base : Int := (c.2.1 : Int) + (x - (c.1 : Int)) * (c.2.2 : Int)
  ((roundDiv (base * 1000 + fine * 2 ^ 40) (1000 * 2 ^ 40)) % (10 ^ 9 * 2 ^ 64)).toNat

/-- A result enters gauge n's FIFO (R238): SEQ advances whether it is kept or dropped. `es`: the edges it is made of; one not converted in
QUIET takes the QUIET bit away (R241), and one converted while a correction was pending makes it STALE (R240). -/
def pushResult (s : State) (n : Nat) (es : List GEdge) (w : Nat) (ws : List Word) : State :=
  let g := gaugeS s n
  let quiet := if es = [] then decide (s.power = .quiet) else es.all (·.quiet)
  let w0 := w + (es.any (·.stale)).toNat <<< 24
  let hold := g.hold || !getB s Reg.CLK_ROOT_STATUS_ROOT_LOCK
  let head : Word := BitVec.ofNat 32 (n <<< 28 + cfgMode g.cfg <<< 26 + w0 + quiet.toNat <<< 22 + hold.toNat <<< 20 + g.doubled.toNat <<< 19 + g.seq.toNat)
  let s1 := updGauge s n (fun g => { g with seq := g.seq + 1, hold := false, doubled := false })
  if 1024 ≤ g.fifo.length then raise (incF s1 (Reg.GA_OVERRUN n) 1) Reg.GAUGE_EVENTS_OVERRUN_SEEN
  else updGauge s1 n (fun g => { g with fifo := g.fifo ++ [head :: ws] })

/-- An interval result from edge a to edge b (R233, R238). -/
def pushInterval (s : State) (n : Nat) (a b : GEdge) : State :=
  let ovf := decide (2 ^ 48 * tickPs16.toNat ≤ (b.t - a.t).natAbs)
  let cf := coarseFine (b.t - a.t)
  pushResult s n [a, b] (ovf.toNat <<< 23) (timeWords cf.1 cf.2)

/-- A timestamp result (R238, R239). -/
def pushStamp (s : State) (n : Nat) (x : Nat) (e : GEdge) : State :=
  let tod := decide (fieldOf (gaugeS s n).cfg 4 1 = 1)
  let wrap := getF s Reg.GAUGE_WRAP_CNT + x / 2 ^ 48 + 2 ^ 32 - s.coarse / 2 ^ 48
  let cf := coarseFine e.t
  pushResult s n [e] (tod.toNat <<< 21 + (wrap % 4) <<< 16)
    (if tod then todFormWords (edgeTod s n e.t) else timeWords cf.1 cf.2)

/-- Ticks of a FREQ gate. -/
def gateTicks (g : GaugeS) : Nat := g.gateMs * 625000

/-- A FREQ gate closes (R236): PART 0 the interval, PART 1 the count, both zero with fewer than two edges; with CONT the next opens at
once and takes the closing edge over. -/
def closeGate (s : State) (n : Nat) : State :=
  let g := gaugeS s n
  if !g.gate then s
  else
    let r : GEdge × GEdge := match g.first, g.last with
      | some a, some b => if a.cnt < b.cnt then (a, b) else (a, a)
      | some a, none => (a, a)
      | none, _ => let z : GEdge := { t := 0, quiet := decide (s.power = .quiet), stale := gaugeStale s n }; (z, z)
    let hold := g.hold
    let s1 := updGauge (pushInterval s n r.1 r.2) n (fun g => { g with hold := hold })
    let s2 := pushResult s1 n [r.1, r.2] (1 <<< 25) (timeWords ((r.2.cnt - r.1.cnt : Nat) : Int) 0)
    let cont := decide (fieldOf g.cfg 13 1 = 1)
    updGauge s2 n (fun o => { o with gate := cont, gateAt := g.gateAt + gateTicks g, first := if cont then g.last else none,
                                     last := if cont then g.last else none })

/-- Gates whose end lies at or before coarse count `x` close before an edge of that count is used (R236). -/
def closeGates (s : State) (n x : Nat) : Nat → State
  | 0 => s
  | k + 1 =>
    let g := gaugeS s n
    if g.gate ∧ g.gateAt + gateTicks g ≤ x then closeGates (closeGate s n) n x k else s

/-- Gates of gauge n that end at or before coarse count `x`. -/
def gatesDue (g : GaugeS) (x : Nat) : Nat := if g.gate then (x - g.gateAt) / gateTicks g + 1 else 0

/-- FREQ_GATE_END (R236): time runs to the end of gauge n's gate. -/
def execFreqGateEnd (n : Nat) (s : State) : Host.Outcome State Fault Refusal :=
  if 12 ≤ n then .fault .noSuchResource
  else if !gaugeRuns s n || !(gaugeS s n).gate || decide (cfgMode (gaugeS s n).cfg ≠ 3) then ok s
  else ok (closeGate (advance ((gaugeS s n).gateAt + gateTicks (gaugeS s n) - s.coarse) s) n)

/-- IGNORED counts (R234). -/
def ignoreEdge (s : State) (n : Nat) : State := incF s (Reg.GA_IGNORED n) 1

/-- Window of SIGNED pairing in 2^-16 ps. -/
def pairWin (g : GaugeS) : Int := (g.win : Int) * 1000 * 65536

/-- Stop nearest to a start within the window, the earlier of two equally near (R234). -/
def nearestStop (g : GaugeS) (t : Int) : Option GEdge :=
  (g.stops.filter (fun u => decide ((u.t - t).natAbs ≤ (pairWin g).toNat))).foldl
    (fun a u => match a with
      | none => some u
      | some v => if (u.t - t).natAbs < (v.t - t).natAbs ∨ ((u.t - t).natAbs = (v.t - t).natAbs ∧ u.t < v.t) then some u else some v) none

/-- Settle the oldest start of a SIGNED gauge: the nearest stop, or none. -/
def settleStart (s : State) (n : Nat) : State :=
  let g := gaugeS s n
  match g.starts with
  | [] => s
  | t :: r =>
    let s1 := updGauge s n (fun g => { g with starts := r })
    match nearestStop g t.t with
    | some u => pushInterval s1 n t u
    | none => ignoreEdge s1 n

/-- Starts that a stop at or after them decides are settled (R234). -/
def settleStarts (s : State) (n : Nat) : Nat → State
  | 0 => s
  | k + 1 =>
    let g := gaugeS s n
    match g.starts with
    | [] => s
    | t :: _ => if g.stops.any (fun u => decide (t.t ≤ u.t)) then settleStarts (settleStart s n) n k else s

/-- The first of the stops at or after a start (R234, ORDERED). -/
def firstStop (l : List GEdge) (t : Int) : Option GEdge :=
  (l.filter (fun u => decide (t ≤ u.t))).foldl
    (fun a u => match a with | none => some u | some v => if u.t < v.t then some u else some v) none

/-- A start edge of gauge n in INTERVAL mode (R234). ORDERED: the first at-or-later stop of those that waited for its conversion closes
the pair, the other stops had no armed start. -/
def startEdge (s : State) (n : Nat) (t : GEdge) : State :=
  let g := gaugeS s n
  if fieldOf g.cfg 12 1 = 0 then
    if g.starts ≠ [] then ignoreEdge s n
    else
      let s1 := updGauge s n (fun g => { g with stops := [] })
      match firstStop g.stops t.t with
      | some u => pushInterval (incF s1 (Reg.GA_IGNORED n) (g.stops.length - 1)) n t u
      | none => updGauge (incF s1 (Reg.GA_IGNORED n) g.stops.length) n (fun g => { g with starts := [t] })
  else settleStarts (updGauge s n (fun g => { g with starts := g.starts ++ [t] })) n (g.starts.length + 1)

/-- A stop edge for gauge n in INTERVAL mode (R234). ORDERED: one that comes while a start of gauge n is still converting waits for that
start's time. -/
def stopEdge (s : State) (n : Nat) (u : GEdge) : State :=
  let g := gaugeS s n
  if fieldOf g.cfg 12 1 = 0 then
    match g.starts with
    | t :: _ => if t.t ≤ u.t then pushInterval (updGauge s n (fun g => { g with starts := [] })) n t u else ignoreEdge s n
    | [] => if g.busy then updGauge s n (fun g => { g with stops := g.stops ++ [u] }) else ignoreEdge s n
  else
    let keep := g.stops.filter (fun v => decide (u.t - v.t ≤ 2 * pairWin g))
    settleStarts (updGauge s n (fun g => { g with stops := keep ++ [u] })) n (g.starts.length + 1)

/-- An edge of gauge n's own input enters its measurement (R234 to R236). -/
def ownEdge (s : State) (n x : Nat) (t : GEdge) : State :=
  let g := gaugeS s n
  match cfgMode g.cfg with
  | 0 => pushStamp s n x t
  | 1 => startEdge s n t
  | 2 =>
    if g.hit then
      match g.first with
      | some a => updGauge (pushInterval s n a t) n (fun g => { g with first := some t })
      | none => updGauge s n (fun g => { g with first := some t, doubled := false })
    else s
  | _ =>
    let s1 := closeGates s n x (gatesDue g x)
    if (gaugeS s1 n).gate then
      updGauge s1 n (fun o => { o with first := (match o.first with | some a => some a | none => some t), last := some t })
    else s1

/-- An edge whose reference edge is coarse count `x` is one of gauge n's run (R237): after the start's tick, and, where the gauge has
stopped, in or before the stop's. -/
def inRun (s : State) (n x : Nat) : Bool :=
  decide ((gaugeS s n).t0 < x) &&
  (gaugeRuns s n || (match (gaugeS s n).stopAt with | some c => decide (x ≤ c) | none => false))

/-- Gauge m measures input n as its stop, or did so at coarse count `x` before it stopped. -/
def stopInRun (s : State) (n x m : Nat) : Bool :=
  inRun s m x && cfgMode (gaugeS s m).cfg = 1 && decide (cfgPartner (gaugeS s m).cfg = n) && decide (m ≠ n)

/-- GAUGE_CONVERSION_DONE (R229, R231): the edge's time enters every measurement that uses the input. -/
def execGaugeConversionDone (n : Nat) (coarse sub count : Nat) (s : State) : Host.Outcome State Fault Refusal :=
  if 12 ≤ n then .fault .noSuchResource
  else if !powered s .gauge || !(gaugeS s n).busy then ok s
  else
    let x := coarseExt s coarse
    let e : GEdge := { t := edgeTime s n x sub count, cnt := (gaugeS s n).cap, quiet := decide (s.power = .quiet), stale := gaugeStale s n }
    let s1 := updGauge s n (fun g => { g with busy := false })
    let s2 := if inRun s1 n x then ownEdge s1 n x e else s1
    ok (gaugeNos.foldl (fun st m => if stopInRun st n x m then stopEdge st m e else st) s2)

/-- Coarse count at which the window of a start ends (R234). -/
def windowEnd (g : GaugeS) (t : GEdge) : Nat := ((t.t + pairWin g + tickPs16 - 1) / tickPs16).toNat

/-- SIGNED_PAIR_WINDOW_END (R234): time runs to the end of the oldest start's window, and the start is settled. -/
def execSignedPairWindowEnd (n : Nat) (s : State) : Host.Outcome State Fault Refusal :=
  if 12 ≤ n then .fault .noSuchResource
  else if gaugeRuns s n && cfgMode (gaugeS s n).cfg = 1 && decide (fieldOf (gaugeS s n).cfg 12 1 = 1) then
    match (gaugeS s n).starts with
    | [] => ok s
    | t :: _ => ok (settleStart (advance (windowEnd (gaugeS s n) t - s.coarse) s) n)
  else ok s

/-- COARSE_WRAP (R232): time runs to the wrap of the 48-bit counter. -/
def execCoarseWrap (s : State) : Host.Outcome State Fault Refusal :=
  if s.clk.started ∧ powered s .gauge = true then ok (advance (2 ^ 48 - s.coarse % 2 ^ 48) s) else ok s

/-- GAUGE_CORRECTION_APPLY (R240, R291): time runs to 1 µs after the last edge on input n, and its pending corrections take effect. -/
def execGaugeCorrectionApply (n : Nat) (s : State) : Host.Outcome State Fault Refusal :=
  if 12 ≤ n then .fault .noSuchResource
  else
    let s1 := match (gaugeS s n).seenAt with | some t => runPs s (t + 1000000) | none => s
    ok (applyItem (applyItem s1 (.vernier n)) (.gaugeDelay n))

/-- Start gauge n (R236, R237): its configuration is taken. -/
def gaugeStart (s : State) (n : Nat) : State :=
  let s1 := updGauge s n (fun g => { g with
    cfg := gaugeCfg s n, m := getF s (Reg.GA_PERIOD_M n), gateMs := getF s (Reg.GA_GATE_MS n), win := getF s (Reg.GA_PAIR_WIN n)
    starts := [], stops := [], first := none, last := none, toGo := 1, doubled := false, hit := false, stopAt := none
    hold := !getB s Reg.CLK_ROOT_STATUS_ROOT_LOCK, t0 := s.coarse, gateAt := s.coarse, gate := decide (cfgMode (gaugeCfg s n) = 3) })
  setF s1 (Reg.GA_STATUS_RUNNING n) 1

/-- Stop gauge n (R237): an open gate, pair or window gets no result any more, but an edge whose reference edge lies in or before this
tick still belongs to the run; results in the FIFO remain. -/
def gaugeStop (s : State) (n : Nat) : State :=
  if gaugeRuns s n then setF (updGauge s n (fun g => { g with gate := false, stopAt := some s.coarse })) (Reg.GA_STATUS_RUNNING n) 0 else s

/-- PD_GAUGE powers down (R242): every gauge stops, unread results are lost. -/
def gaugesOff (s : State) : State :=
  let s1 := gaugeNos.foldl gaugeStop s
  { s1 with gauges := s1.gauges.map (fun g => { seq := g.seq }) }

/-- PD_GAUGE powers up: the coarse counter restarts (R232). -/
def coarseRestart (s : State) : State := raise { s with coarse := 0 } Reg.GAUGE_EVENTS_COARSE_RESTART

/-- RESULT_3_READ (R244): the last word of the head result, which is popped; zero on an empty FIFO. -/
def popResult (s : State) (n : Nat) : State × Word :=
  match (gaugeS s n).fifo with
  | [] => (s, 0)
  | r :: _ => (updGauge s n (fun g => { g with fifo := g.fifo.drop 1 }), r.getD 3 0)

end Sys2Proof.Machine
end

