-- ==== Sys2Proof/Machine/Gnss.lean ====
section
/-! DEFINITION. The GNSS baseband (chapter 12): notches and jamming, acquisition, channel states, navigation data, time solution, survey
and raw epochs. What the correlators and the firmware's fits give comes with the commands. -/

namespace Sys2Proof.Machine

/-- The 24 channels. -/
def chanNos : List Nat := List.range 24

/-- STATE of a channel: 0 IDLE, 1 PULL_IN, 2 TRACK, 3 LOST (R253). -/
def chanState (s : State) (ch : Nat) : Nat := getF s (Reg.CH_CH_STATUS_STATE ch)

/-- PRN of a channel. -/
def chanPrn (s : State) (ch : Nat) : Nat := getF s (Reg.CH_CH_STATUS_PRN ch)

/-- Bit `b` of a channel's FLAGS: 5 FRAME_SYNC, 4 BIT_SYNC, 3 HALF_CYCLE, 2 HEALTHY, 1 USED, 0 EXCLUDED (R259). -/
def chanFlag (s : State) (ch b : Nat) : Bool := decide (bits (getF s (Reg.CH_CH_STATUS_FLAGS ch)) b 1 = 1)

/-- Set a bit of FLAGS. -/
def setChanFlag (s : State) (ch b : Nat) (v : Bool) : State := setB s ⟨(Reg.CH_CH_STATUS_FLAGS ch).addr, 10 + b, 1⟩ v

/-- The baseband is powered and started. -/
def gnssRuns (s : State) : Bool := powered s .gnss && getB s Reg.GNSS_STATUS_RUNNING

/-- Change the baseband's own state. -/
def updGnss (s : State) (f : Gnss → Gnss) : State := { s with gnss := f s.gnss }

/-! ### Interference -/

/-- A notch in use: by MANUAL at its written frequency, or assigned (R247). -/
def notchActive (s : State) (n : Nat) : Bool := getB s (Reg.NOTCH_CFG_MANUAL n) || getB s (Reg.NOTCH_STAT_ACTIVE n)

/-- Centre of a notch. -/
def notchFreq (s : State) (n : Nat) : Int :=
  if getB s (Reg.NOTCH_CFG_MANUAL n) then getS s (Reg.NOTCH_CFG_FREQ n) else getS s (Reg.NOTCH_STAT_FREQ n)

/-- NOTCH_NEAR (R247): an active notch within 1.5 MHz of the carrier, which the mixer of R246 brings to zero. -/
def notchNear (s : State) : Bool := (List.range 4).any (fun n => notchActive s n && decide ((notchFreq s n).natAbs ≤ 1500000))

/-- Release an automatic notch. -/
def releaseNotch (s : State) (n : Nat) : State :=
  updGnss (setF (setF s (Reg.NOTCH_STAT_ACTIVE n) 0) (Reg.NOTCH_STAT_FREQ n) 0) (fun g => { g with low := listUpd 0 g.low n (fun _ => 0) })

/-- Put a notch on a line. -/
def placeNotch (s : State) (n : Nat) (hz : Int) : State :=
  updGnss (setF (setF s (Reg.NOTCH_STAT_ACTIVE n) 1) (Reg.NOTCH_STAT_FREQ n) (twos 24 hz)) (fun g => { g with low := listUpd 0 g.low n (fun _ => 0) })

/-- One line of a scan (R247): followed by the notch that tracks it, else assigned the lowest-numbered free notch. -/
def takeLine (s : State) (l : Line) : State :=
  match l.notch.filter (fun n => decide (n < 4) && !getB s (Reg.NOTCH_CFG_MANUAL n) && getB s (Reg.NOTCH_STAT_ACTIVE n)) with
  | some n => setF s (Reg.NOTCH_STAT_FREQ n) (twos 24 l.hz)
  | none =>
    if getF s Reg.GNSS_JAM_CFG_NOTCH_THR < l.level then
      match (List.range 4).find? (fun n => !notchActive s n) with
      | some n => placeNotch s n l.hz
      | none => s
    else s

/-- An automatic notch after a scan: the tenth scan in a row with its line below NOTCH_THR − 3 dB releases it (R247). -/
def ageNotch (lines : List Line) (s : State) (n : Nat) : State :=
  if getB s (Reg.NOTCH_CFG_MANUAL n) || !getB s (Reg.NOTCH_STAT_ACTIVE n) then s
  else
    let high := lines.any (fun l => decide (l.notch = some n ∧ getF s Reg.GNSS_JAM_CFG_NOTCH_THR ≤ l.level + 12))
    let c := if high then 0 else s.gnss.low.getD n 0 + 1
    if 10 ≤ c then releaseNotch s n else updGnss s (fun g => { g with low := listUpd 0 g.low n (fun _ => c) })

/-- SPECTRAL_SCAN (R247): every 100 ms with NOTCH_AUTO = 1. -/
def execSpectralScan (lines : List Line) (s : State) : Host.Outcome State Fault Refusal :=
  if gnssRuns s && getB s Reg.GNSS_CFG_NOTCH_AUTO then ok (lines.foldl takeLine ((List.range 4).foldl (ageNotch lines) s)) else ok s

/-- JAM_UPDATE (R248): a 100 ms average of the input power in 0.25 dB against the baseline; `follows` says that it follows
on the last one with no gap. JAM changes when its condition has held over ten averages in a row, 1 s (DEDUCED, log entry 147). -/
def execJamUpdate (power : Nat) (follows : Bool) (s : State) : Host.Outcome State Fault Refusal :=
  if !powered s .gnss then ok s
  else
    match s.gnss.base with
    | none => ok s
    | some b =>
      let jn := min 240 (power - b)
      let thr := getF s Reg.GNSS_JAM_CFG_JAM_THR
      let hi := if thr ≤ jn then (if follows then s.gnss.jamHi else 0) + 1 else 0
      let lo := if jn + 12 < thr then (if follows then s.gnss.jamLo else 0) + 1 else 0
      let s1 := updGnss (setF s Reg.GNSS_STATUS_JN jn) (fun g => { g with jamHi := hi, jamLo := lo })
      if 10 ≤ hi ∧ getB s Reg.GNSS_STATUS_JAM = false then ok (raise (setF s1 Reg.GNSS_STATUS_JAM 1) Reg.GNSS_EVENTS_JAM_SET)
      else if 10 ≤ lo then ok (setF s1 Reg.GNSS_STATUS_JAM 0)
      else ok s1

/-- NOISE_REF_DONE (R248): the 10 s average becomes the baseline. -/
def execNoiseRefDone (power : Nat) (s : State) : Host.Outcome State Fault Refusal :=
  if s.gnss.baseRun ∧ powered s .gnss = true then ok (updGnss s (fun g => { g with base := some power, baseRun := false })) else ok s

/-! ### Acquisition and tracking -/

/-- Channel ch's own state. -/
def gnssChan (s : State) (ch : Nat) : GnssChan := s.gnss.chans.getD ch {}

/-- Change a channel's own state. -/
def updChan (s : State) (ch : Nat) (f : GnssChan → GnssChan) : State := updGnss s (fun g => { g with chans := listUpd {} g.chans ch f })

/-- Clear a channel to IDLE. -/
def idleChan (s0 : State) (ch : Nat) : State :=
  let s := updChan s0 ch (fun _ => {})
  setF (setF (setF (setF (setF (setF (setF s (Reg.CH_CH_STATUS_STATE ch) 0) (Reg.CH_CH_STATUS_PRN ch) 0) (Reg.CH_CH_STATUS_FLAGS ch) 0)
    (Reg.CH_CH_STATUS_CN0 ch) 0) (Reg.CH_DOPPLER ch) 0) (Reg.CH_ELEV ch) 0) (Reg.CH_RESIDUAL ch) 0

/-- A PRN is on a channel in PULL_IN or TRACK. -/
def prnTracked (s : State) (prn : Nat) : Bool :=
  chanNos.any (fun ch => decide (chanPrn s ch = prn) && (decide (chanState s ch = 1) || decide (chanState s ch = 2)))

/-- PRN that a search without an almanac takes next (R250): ascending from 1 over those on no channel, and again from 1. -/
def nextPrn (s : State) : Option Nat :=
  let free := ((List.range 32).map (· + 1)).filter (fun p => !prnTracked s p)
  (free.find? (fun p => decide (s.gnss.lastPrn < p))).or free.head?

/-- A search of this PRN is one that the firmware makes (R250): a channel is free, the PRN is on none, and without an almanac it is the next.
With one the order is the almanac's prediction, which the row names. -/
def searches (s : State) (prn : Nat) : Bool :=
  gnssRuns s && chanNos.any (fun ch => decide (chanState s ch = 0)) && !prnTracked s prn &&
  (s.gnss.almanac || decide (nextPrn s = some prn))

/-- A detection hands the PRN, its code phase and its 500 Hz bin to the lowest-numbered free channel, in PULL_IN (R250). -/
def pullIn (s : State) (prn : Nat) (bin : Int) (code : Nat) : State :=
  match chanNos.find? (fun ch => decide (chanState s ch = 0)) with
  | none => s
  | some ch =>
    setF (setF (setF (updChan (idleChan s ch) ch (fun _ => { code := code })) (Reg.CH_CH_STATUS_STATE ch) 1) (Reg.CH_CH_STATUS_PRN ch) prn)
      (Reg.CH_DOPPLER ch) (twos 32 (bin * 500 * 256))

/-- ACQUISITION_DONE (R249, R250): a search ends; the PRN is detected where the highest peak exceeds the next by more than
ACQ_THR × 0.1. -/
def execAcquisitionDone (prn : Nat) (c : SearchCell) (peak next : Nat) (s : State) : Host.Outcome State Fault Refusal :=
  if prn = 0 ∨ 32 < prn ∨ 20 < c.bin.natAbs ∨ 32768 ≤ c.code then .fault .noSuchResource
  else if !searches s prn then ok s
  else
    let s1 := updGnss s (fun g => { g with lastPrn := prn })
    if peak * 10 ≤ next * getF s Reg.GNSS_ACQ_CFG_ACQ_THR then ok s1 else ok (pullIn s1 prn c.bin c.code)

/-- CHANNEL_TRACK (R253): from PULL_IN, where the phase-lock indicator has held for 200 ms. -/
def execChannelTrack (ch : Nat) (s : State) : Host.Outcome State Fault Refusal :=
  if 24 ≤ ch then .fault .noSuchResource
  else if gnssRuns s && decide (chanState s ch = 1) && decide (200 ≤ (gnssChan s ch).lockMs) then
    ok (setF (updChan s ch (fun c => { c with trackMs := 0 })) (Reg.CH_CH_STATUS_STATE ch) 2)
  else ok s

/-- A channel's loss condition holds (R253): 2 s without lock in PULL_IN; in TRACK 1 s of C/N0 below LOSS_CN0, or 200 ms without lock. -/
def chanLoses (s : State) (ch : Nat) : Bool :=
  (decide (chanState s ch = 1) && decide (2000 ≤ (gnssChan s ch).openMs)) ||
  (decide (chanState s ch = 2) && (decide (1000 ≤ (gnssChan s ch).lowMs) || decide (200 ≤ (gnssChan s ch).openMs)))

/-- CHANNEL_LOST (R253): the PRN returns to the search list. -/
def execChannelLost (ch : Nat) (s : State) : Host.Outcome State Fault Refusal :=
  if 24 ≤ ch then .fault .noSuchResource
  else if gnssRuns s && chanLoses s ch then ok (setF s (Reg.CH_CH_STATUS_STATE ch) 3)
  else ok s

/-! ### Navigation data -/

/-- First week not earlier than `base` with the given 10 bits (R254). -/
def resolveWeek (base week10 : Nat) : Nat := base + (week10 + 1024 - base % 1024) % 1024

/-- Navigation data of the satellite of a channel: health, ephemeris and week (R254). -/
def navData (s : State) (ch : Nat) (d : NavIn) : State :=
  let good := d.healthy && d.iodMatch && d.toeInRange
  updGnss (setChanFlag (setChanFlag (setChanFlag s ch 2 d.healthy) ch 4 true) ch 5 true) (fun g => { g with
    eph := if good then g.eph.erase d.prn ++ [d.prn] else g.eph.erase d.prn
    week := resolveWeek (getF s Reg.GNSS_WEEK_BASE) d.week10
    almanac := g.almanac || d.almanac })

/-- UTC data of the navigation message (R254): the offset from TAI and the leap flags; they are used with UTC_CFG.AUTO = 1 and GNSS
selected (R95). -/
def navUtc (s : State) (ls lsf : Int) (last : Bool) : State :=
  { s with ports := { s.ports with utcAuto := some (ls + 19, last && decide (lsf < ls), last && decide (ls < lsf)) } }

/-- NAV_DATA_DECODE (R254, R95): ephemeris, week and UTC data of a tracked satellite. -/
def execNavDataDecode (d : NavIn) (s : State) : Host.Outcome State Fault Refusal :=
  if !gnssRuns s then ok s
  else
    match chanNos.find? (fun ch => decide (chanState s ch = 2) && decide (chanPrn s ch = d.prn)) with
    | none => ok s
    | some ch =>
      let s1 := navData s ch d
      match d.utc with
      | some (ls, lsf, last) => ok (navUtc s1 ls lsf last)
      | none => ok s1

/-! ### Time solution -/

/-- A channel whose measurements the solution uses (R256). -/
def chanUsable (s : State) (ch : Nat) : Bool :=
  decide (chanState s ch = 2) && chanFlag s ch 5 && decide (chanPrn s ch ∈ s.gnss.eph) &&
  decide ((getF s Reg.GNSS_SOL_CFG_ELEV_MASK : Int) ≤ getS s (Reg.CH_ELEV ch)) &&
  decide (4 * getF s Reg.GNSS_SOL_CFG_SOL_CN0 ≤ getF s (Reg.CH_CH_STATUS_CN0 ch))

/-- Satellites a valid solution needs (R256). -/
def minSv (s : State) : Nat :=
  if getF s Reg.GNSS_STATUS_POS_MODE = 1 then max 4 (getF s Reg.GNSS_SOL_CFG_MIN_SV) else getF s Reg.GNSS_SOL_CFG_MIN_SV

/-- SOL_VALID falls (R256), and with it every slot that names GNSS (R115). -/
def solutionLost (s : State) : State :=
  let s1 := setF s Reg.GNSS_STATUS_SOL_VALID 0
  let s2 := updGnss s1 (fun g => { g with ofs := none })
  if getB s Reg.GNSS_STATUS_SOL_VALID then loseSource (raise s2 Reg.GNSS_EVENTS_SOL_LOST) 2 0 else s2

/-- STALE (R258): a front-end correction is pending or being measured. -/
def gnssStale (s : State) : Bool := itemBusy s .gnssFe

/-- FE_DLY in force, 2^-16 ns. -/
def feDelay (s : State) : Nat := (calWord s 460).toNat

/-- The code discriminator that DISC selects (R252), of the dumps VE, E, NE, P, NL, L, VL. -/
def discriminator (disc : Nat) (d : List Int) : Int :=
  let el := d.getD 1 0 - d.getD 5 0
  let narrow := d.getD 2 0 - d.getD 4 0
  if disc = 0 then el else if disc = 2 then 2 * narrow - el else narrow

/-- A channel's dumps and timers after a code epoch (R251 to R253); `disc` the discriminator, `low` C/N0 below LOSS_CN0. -/
def chanEpoch (m : ChanMeas) (disc : Nat) (low : Bool) (c : GnssChan) : GnssChan :=
  { c with
    corr := m.corr
    disc := discriminator disc m.corr
    lockMs := if m.lock then c.lockMs + 1 else 0
    openMs := if m.lock then 0 else c.openMs + 1
    lowMs := if low then c.lowMs + 1 else 0
    trackMs := c.trackMs + 1 }

/-- What a code epoch shows of one channel. -/
def takeChan (s0 : State) (m : ChanMeas) : State :=
  if chanState s0 m.ch = 1 ∨ chanState s0 m.ch = 2 then
    let s := updChan s0 m.ch (chanEpoch m (getF s0 Reg.GNSS_TRK_CFG_DISC) (decide (m.cn0 < 4 * getF s0 Reg.GNSS_TRK_CFG_LOSS_CN0)))
    let s1 := setF (setF (setF s (Reg.CH_CH_STATUS_CN0 m.ch) m.cn0) (Reg.CH_DOPPLER m.ch) (twos 32 m.doppler)) (Reg.CH_ELEV m.ch) (twos 8 m.elev)
    setChanFlag (setChanFlag (setChanFlag s1 m.ch 4 m.bitSync) m.ch 5 m.frameSync) m.ch 3 m.halfCycle
  else s0

/-- CODE_EPOCH (R251 to R253, R256 to R258): time runs to the ToD millisecond boundary; delays take effect, LOST channels become IDLE, the
dumps are taken, the solution is checked against the channels in TRACK. -/
def execCodeEpoch (meas : List ChanMeas) (s0 : State) : Host.Outcome State Fault Refusal :=
  if !gnssRuns s0 then ok s0
  else
    let s := runToGrid s0 (10 ^ 6 * 2 ^ 56)
    let fe := decide (CalItem.gnssFe ∈ s.cal.pend)
    let s1 := raiseIf fe (applyItem s .gnssFe) Reg.GNSS_EVENTS_CAL_APPLIED
    let s2 := updGnss s1 (fun g => { g with ant := getF s1 Reg.GNSS_ANT_DLY })
    let s3 := (meas.filter (fun m => decide (m.ch < 24))).foldl takeChan s2
    let s4 := chanNos.foldl (fun t ch => if chanState t ch = 3 then idleChan t ch else t) s3
    let n := (chanNos.filter (fun ch => chanFlag s4 ch 1 && decide (chanState s4 ch = 2))).length
    if n < minSv s4 ∨ getF s4 Reg.GNSS_STATUS_POS_MODE = 0 then ok (solutionLost s4) else ok s4

/-- Channel with the largest residual of a fit. -/
def worst (res : List (Nat × Int)) : Option (Nat × Int) :=
  res.foldl (fun a r => match a with
    | none => some r
    | some b => if b.2.natAbs < r.2.natAbs then some r else some b) none

/-- Repeat the fit while the largest residual exceeds RES_THR and more than `k` satellites remain: the last fit, none where no further one was
made, and the excluded channels (R256). -/
def exclude (thr k : Nat) : List Fit → List Nat → Option Fit × List Nat
  | [], out => (none, out)
  | f :: r, out =>
    match worst (f.res.filter (fun e => decide (e.1 ∉ out))) with
    | none => (some f, out)
    | some w => if thr < w.2.natAbs ∧ k < (f.res.filter (fun e => decide (e.1 ∉ out))).length then exclude thr k r (out ++ [w.1]) else (some f, out)

/-- The offset reaches every slot that names GNSS (R257). -/
def publishGnss (s : State) (x rate : Int) : State :=
  (slotNos.filter (fun n => slotEn s n && decide (slotType s n = 2) && decide (slotIndex s n = 0))).foldl
    (fun t n => storeMeas t n (some ⟨x, rate, ((slotS t n).meas.map (·.ofs10)).getD x⟩)) (updGnss s (fun g => { g with ofs := some x }))

/-- The RMS of residuals is at most `thr` ps (R256). -/
def rmsWithin (thr : Nat) (l : List (Nat × Int)) : Bool := decide ((l.foldl (fun a e => a + e.2 * e.2) 0 : Int) ≤ (thr : Int) ^ 2 * l.length)

/-- PTP-timescale time of a time of the resolved GPS week, 2^-16 ns (R254). -/
def gpsToPtp (week : Nat) (tow : Int) : Int := ((week * 604800 + 315964819) * (10 ^ 9 * 2 ^ 16) : Nat) + tow

/-- One more second's fix enters the survey's average (R255). -/
def surveyFix (s : State) (x : Int × Int × Int) : State :=
  setF (updGnss s (fun g => { g with
    fixSum := (g.fixSum.1 + x.1, g.fixSum.2.1 + x.2.1, g.fixSum.2.2 + x.2.2), fixes := g.fixes + 1 }))
    Reg.GNSS_SURVEY_LEFT (getF s Reg.GNSS_SURVEY_LEFT - 1)

/-- GNSS_SOLUTION (R255 to R257): the fits over the usable channels, with exclusion; validity; the offset to the selector. -/
def execGnssSolution (fits : List Fit) (s : State) : Host.Outcome State Fault Refusal :=
  if !gnssRuns s then ok s
  else
    let use := fits.map (fun f => { f with res := f.res.filter (fun e => chanUsable s e.1) })
    let thr := getF s Reg.GNSS_SOL_CFG_RES_THR * 1000
    let r := exclude thr (getF s Reg.GNSS_SOL_CFG_MIN_SV) use []
    let res : List (Nat × Int) := match r.1 with
      | some f => f.res.filter (fun e => decide (e.1 ∉ r.2))
      | none => []
    let s1 := raiseIf (r.2 ≠ []) s Reg.GNSS_EVENTS_SV_EXCLUDED
    let s2 := chanNos.foldl (fun t ch =>
      let t1 := setChanFlag (setChanFlag t ch 1 (res.any (fun e => decide (e.1 = ch)))) ch 0 (decide (ch ∈ r.2))
      match res.find? (fun e => decide (e.1 = ch)) with
      | some e => setF t1 (Reg.CH_RESIDUAL ch) (twos 32 e.2)
      | none => t1) s1
    let mode := getF s Reg.GNSS_STATUS_POS_MODE
    let s3 := setF s2 Reg.GNSS_STATUS_SV_USED res.length
    match r.1 with
    | none => ok (solutionLost s3)
    | some f =>
      let s4 := if mode = 1 ∧ 4 ≤ res.length ∧ 0 < getF s Reg.GNSS_SURVEY_LEFT then surveyFix s3 f.fix else s3
      if minSv s ≤ res.length ∧ 1 ≤ res.length ∧ rmsWithin thr res = true ∧ mode ≠ 0 then
        let s5 := setF s4 Reg.GNSS_STATUS_SOL_VALID 1
        if gnssStale s5 then ok s5
        else ok (publishGnss s5 (gpsToPtp s5.gnss.week f.tow + s5.gnss.ant + feDelay s5 - (todSec s5 * 10 ^ 9 * 2 ^ 16 : Nat)) f.rate)
      else ok (solutionLost s4)

/-! ### Position -/

/-- Write the held or surveyed position. -/
def setPosition (s : State) (x y z : Int) : State :=
  setHL (setHL (setHL s Reg.GNSS_POS_X_HI Reg.GNSS_POS_X_LO x) Reg.GNSS_POS_Y_HI Reg.GNSS_POS_Y_LO y) Reg.GNSS_POS_Z_HI Reg.GNSS_POS_Z_LO z

/-- Enter position hold at a position (R255): a change of the held position restarts the GNSS slot's qualification. -/
def holdPosition (s : State) (x y z : Int) : State :=
  let same := s.gnss.posHeld && decide (s.gnss.pos = (x, y, z))
  let s1 := setF (setF (setPosition (updGnss s (fun g => { g with posHeld := true, pos := (x, y, z) })) x y z) Reg.GNSS_STATUS_POS_MODE 2) Reg.GNSS_SURVEY_LEFT 0
  if same then s1 else restartSource s1 2 0

/-- A survey starts, if the baseband runs and no position is held; a held position is shown (R255). -/
def startSurvey (s0 : State) : State :=
  let s := updGnss s0 (fun g => { g with fixSum := (0, 0, 0), fixes := 0 })
  if s.gnss.posHeld then setF (setPosition s s.gnss.pos.1 s.gnss.pos.2.1 s.gnss.pos.2.2) Reg.GNSS_STATUS_POS_MODE 2
  else if getB s Reg.GNSS_STATUS_RUNNING then
    setF (setF s Reg.GNSS_STATUS_POS_MODE 1) Reg.GNSS_SURVEY_LEFT (getF s Reg.GNSS_SURVEY_S)
  else setF (setF s Reg.GNSS_STATUS_POS_MODE 0) Reg.GNSS_SURVEY_LEFT 0

/-- A whole mm beside the mean of n values with that sum, rounded either way. -/
def besideMean (n : Nat) (sum x : Int) : Bool := decide ((n * x - sum).natAbs < n)

/-- A position in whole mm that is the average of the survey's fixes (R255). The manual does not say how a coordinate is rounded: what the
row shows may be rounded up or down (DESIGN CHOICE, log entry 144). -/
def surveyMean (s : State) (x y z : Int) : Bool :=
  besideMean s.gnss.fixes s.gnss.fixSum.1 x && besideMean s.gnss.fixes s.gnss.fixSum.2.1 y && besideMean s.gnss.fixes s.gnss.fixSum.2.2 z

/-- SURVEY_DONE (R255): the average over SURVEY_S seconds with a fix is complete; the device holds that position. -/
def execSurveyDone (x y z : Int) (s : State) : Host.Outcome State Fault Refusal :=
  if gnssRuns s && decide (getF s Reg.GNSS_STATUS_POS_MODE = 1) && decide (getF s Reg.GNSS_SURVEY_LEFT = 0) && surveyMean s x y z then
    ok (raise (holdPosition s x y z) Reg.GNSS_EVENTS_SURVEY_DONE)
  else ok s

/-! ### Raw measurements -/

/-- The eight words of a channel record (R259). -/
def rawChanWords (s : State) (c : RawChan) : List Word :=
  let adr := twos 64 c.adr
  [BitVec.ofNat 32 (1 <<< 28 + chanPrn s c.ch <<< 22 + getF s (Reg.CH_CH_STATUS_CN0 c.ch) <<< 14 + getF s (Reg.CH_CH_STATUS_FLAGS c.ch) <<< 8),
   BitVec.ofNat 32 (c.txMs % 2 ^ 30), BitVec.ofNat 32 c.txFrac, BitVec.ofNat 32 (s.gnss.week % 2 ^ 16),
   BitVec.ofNat 32 (adr / 2 ^ 32), BitVec.ofNat 32 adr, BitVec.ofNat 32 (getF s (Reg.CH_DOPPLER c.ch)),
   BitVec.ofNat 32 (min (gnssChan s c.ch).trackMs (2 ^ 32 - 1))]

/-- The header record (R259). -/
def rawHeader (s : State) (nrec : Nat) : List Word :=
  let flags := s.gnss.stepped.toNat <<< 7 + (gnssStale s).toNat <<< 6 + (getB s Reg.GNSS_STATUS_JAM).toNat <<< 5 + (notchNear s).toNat <<< 4 +
    (traceable s).toNat <<< 3 + (getB s Reg.GNSS_STATUS_SOL_VALID).toNat <<< 2 + getF s Reg.GNSS_STATUS_POS_MODE
  [BitVec.ofNat 32 (s.gnss.epochSeq.toNat <<< 16 + nrec <<< 8 + flags), BitVec.ofNat 32 (bits (todSec s) 32 16),
   BitVec.ofNat 32 (todSec s), BitVec.ofNat 32 (s.gnss.ant + feDelay s), BitVec.ofNat 32 (getF s Reg.GNSS_STATUS_JN), 0, 0, 0]

/-- Records queued in the raw FIFO. -/
def rawFill (s : State) : Nat := (s.gnss.raw.map List.length).foldl (· + ·) 0

/-- Time runs to the ToD second boundary of the next raw epoch, this tick's where it brings one not yet taken (R257). -/
def runToRaw (s : State) : State :=
  if s.gnss.rawAt = some s.now ∧ s.clk.started = true then advance (ticksToNext s (10 ^ 9 * 2 ^ 56)) s else runToGrid s (10 ^ 9 * 2 ^ 56)

/-- What the correlators latched of each channel in TRACK (R259); one in LOST is left out. -/
def latched (s : State) (recs : List RawChan) : List RawChan :=
  (chanNos.filter (fun ch => decide (chanState s ch = 2))).map (fun ch => (recs.find? (fun c => decide (c.ch = ch))).getD { ch := ch })

/-- RAW_EPOCH (R259): at a ToD second boundary with a channel in TRACK, one epoch of a header and a record per channel; one that does not fit
in 200 records is dropped whole. -/
def execRawEpoch (recs : List RawChan) (s0 : State) : Host.Outcome State Fault Refusal :=
  if !gnssRuns s0 || !chanNos.any (fun ch => decide (chanState s0 ch = 2)) then ok s0
  else
    let s := runToRaw s0
    let l := latched s recs
    let epoch := rawHeader s l.length :: l.map (rawChanWords s)
    let s1 := updGnss s (fun g => { g with epochSeq := g.epochSeq + 1, stepped := false, rawAt := some s.now })
    if 200 < rawFill s + epoch.length then ok (raise (incF s1 Reg.GNSS_RAW_DROP 1) Reg.GNSS_EVENTS_RAW_DROP)
    else ok (updGnss s1 (fun g => { g with raw := g.raw ++ [epoch] }))

/-- Pop whole epochs up to `count` records, at least one epoch if one is queued (R260). -/
def popRaw (count : Nat) : List (List (List Word)) → List (List Word) × List (List (List Word))
  | [] => ([], [])
  | e :: r => go (count - e.length) e r
where
  /-- Further whole epochs within what is left of the count. -/
  go (left : Nat) (acc : List (List Word)) : List (List (List Word)) → List (List Word) × List (List (List Word))
    | [] => (acc, [])
    | e :: r => if e.length ≤ left then go (left - e.length) (acc ++ e) r else (acc, e :: r)

/-! ### Start and stop (R260, R261) -/

/-- The baseband stops: its channels are lost and the solution with them. -/
def gnssStop (s : State) : State :=
  if getB s Reg.GNSS_STATUS_RUNNING then
    let s1 := (List.range 4).foldl (fun t n => if getB t (Reg.NOTCH_CFG_MANUAL n) then t else releaseNotch t n) (chanNos.foldl idleChan s)
    let s2 := solutionLost (setF (setF s1 Reg.GNSS_STATUS_RUNNING 0) Reg.GNSS_STATUS_SV_USED 0)
    startSurvey s2
  else s

/-- The baseband starts; `keep`: with the stored almanac and ephemerides (R260). -/
def gnssStart (s : State) (keep : Bool) : State :=
  let s1 := setF (gnssStop s) Reg.GNSS_STATUS_RUNNING 1
  let s2 := if keep then s1 else updGnss s1 (fun g => { g with eph := [], almanac := false })
  startSurvey s2

/-- PD_GNSS goes off (R261): the baseband stops; firmware on UE0 keeps the held position, the almanac and the ephemerides. -/
def gnssOff (s : State) : State :=
  let g := s.gnss
  let s1 := gnssStop s
  { s1 with gnss := { posHeld := g.posHeld, pos := g.pos, eph := g.eph, almanac := g.almanac, week := g.week
                      resume := g.resume || getB s Reg.GNSS_STATUS_RUNNING } }

/-- After a wake the baseband restarts with its stored data, if KEEP stopped it (R261). -/
def gnssWake (s : State) : State :=
  let s1 := updGnss s (fun g => { g with resume := false })
  if s.gnss.resume then gnssStart s1 true else startSurvey s1

/-- ACTION SURVEY (R260): the held position is cleared and the survey starts afresh. -/
def gnssSurvey (s : State) : State :=
  let had := s.gnss.posHeld
  let s1 := startSurvey (updGnss s (fun g => { g with posHeld := false }))
  if had then restartSource s1 2 0 else s1

end Sys2Proof.Machine
end

