-- ==== Sys2Proof/Machine/View.lean ====
section
/-! DEFINITION. What a register shows (R322, R328): the word of the bank with the fields that hardware computes laid over it, and the
sign extension of the fields whose maps ask for it. -/

namespace Sys2Proof.Machine

/-- A part of a register: lowest bit, width, value. -/
abbrev Part := Nat × Nat × Nat

/-- Whether the register of an offset in some window is non-zero in the bank. -/
def anySet (s : State) (l : List Nat) : Bool := l.any (fun a => decide (regWord s a ≠ 0))

/-- SYS (R331, R332, R335). -/
def viewSys (s : State) (off : Nat) : List Part :=
  match off with
  | 0x00 => if s.idLoaded then [(0, 8, Config.siliconRev.toNat)] else []
  | 0x04 => if s.idLoaded then [(0, 32, Config.serial.toNat / 2 ^ 32)] else []
  | 0x08 => if s.idLoaded then [(0, 32, Config.serial.toNat)] else []
  | 0x0C => [(4, 3, Power.code s.power), (0, 4, Mode.code s.mode)]
  | 0x10 => [(10, 1, s.straps.ovenUse.toNat), (9, 1, s.straps.pairEn.toNat), (7, 2, s.straps.jrole.toNat), (5, 2, s.straps.bootSrc.toNat)]
  | 0x20 => [(0, 16, intStatus s)]
  | 0x2C => [(0, 32, (List.range 32).foldl (fun a p => a + (anySet s [(Reg.PORT_TT_EVENTS_PHASE_LOST p).addr,
      (Reg.PORT_PHY_EVENTS_HI_BER p).addr]).toNat * 2 ^ p) 0)]
  | 0x30 => [(8, 6, (List.range 6).foldl (fun a n => a + (anySet s [0x60008 + 0x200 * n, 0x60098 + 0x200 * n]).toNat * 2 ^ n) 0),
             (0, 4, (List.range 4).foldl (fun a n => a + (anySet s [portBase (32 + n) + 0x0C, portBase (32 + n) + 0x88]).toNat * 2 ^ n) 0)]
  | _ => []

/-- CLK (R45, R47, R60). -/
def viewClk (s : State) (off : Nat) : List Part :=
  match off with
  | 0x04 => [(4, 1, (ramping s).toNat), (3, 1, (cwClamped s).toNat)]
  | 0x10 => [(0, 22, twos 54 (cwRoot s) / 2 ^ 32)]
  | 0x14 => [(0, 32, twos 54 (cwRoot s))]
  | 0x18 => [(0, 22, twos 54 s.clk.cwReq / 2 ^ 32)]
  | 0x1C => [(0, 32, twos 54 s.clk.cwReq)]
  | _ => []

/-- Signed time in 2^-16 ns as seconds (48 bits), nanoseconds and fraction, the latter two positive (R80). -/
def timeParts (x : Int) : Nat × Nat × Nat :=
  let u : Int := 10 ^ 9 * 65536
  (twos 48 (x / u), (x % u).toNat / 65536, (x % u).toNat % 65536)

/-- The pending offset, zero while none is held (R77). -/
def pendOfs (s : State) : Int := s.tim.pend.getD 0

/-- TIME (R61, R65, R69, R77, R78). -/
def viewTime (s : State) (off : Nat) : List Part :=
  match off with
  | 0x00 => [(0, 16, todSec s / 2 ^ 32)]
  | 0x04 => [(0, 32, todSec s)]
  | 0x08 => [(0, 30, todNs s)]
  | 0x0C => [(0, 16, todFrac s)]
  | 0x18 => [(0, 32, incApplied s / 2 ^ 32)]
  | 0x1C => [(0, 32, incApplied s)]
  | 0x24 => [(2, 1, (decide (s.tim.weirRem ≠ 0)).toNat), (1, 1, s.tim.pend.isSome.toNat), (0, 1, (traceable s).toNat)]
  | 0x38 => [(0, 32, twos 64 (s.tim.weirRem / 2 ^ 40) / 2 ^ 32)]
  | 0x3C => [(0, 32, twos 64 (s.tim.weirRem / 2 ^ 40))]
  | 0x40 => [(0, 16, (timeParts (pendOfs s)).1 / 2 ^ 32)]
  | 0x44 => [(0, 32, (timeParts (pendOfs s)).1)]
  | 0x48 => [(0, 30, (timeParts (pendOfs s)).2.1)]
  | 0x4C => [(0, 16, (timeParts (pendOfs s)).2.2)]
  | _ => []

/-- ToD of output n's next edge in 2^-16 ns (R73, R80): zero for a timed output with no schedule; the phase against the ToD for
CLK10_OUT. -/
def outNextTod (s : State) (n : Nat) : Int :=
  let x := (outS s n).next / 5
  if 6 ≤ n ∧ (outS s n).armed = false then 0 else if 4 ≤ n ∧ n < 6 then x % (100 * 65536) else x

/-- Output window. -/
def viewOut (s : State) (n off : Nat) : List Part :=
  match off with
  | 0x00 => [(10, 1, (outRunning s n).toNat)]
  | 0x34 => [(0, 16, (timeParts (outNextTod s n)).1 / 2 ^ 32)]
  | 0x38 => [(0, 32, (timeParts (outNextTod s n)).1)]
  | 0x3C => [(0, 30, (timeParts (outNextTod s n)).2.1)]
  | 0x40 => [(0, 16, (timeParts (outNextTod s n)).2.2)]
  | _ => []

/-- DLL window: PENDING shows a correction that waits, too (R286). -/
def viewDll (s : State) (n off : Nat) : List Part :=
  if off = 4 ∧ itemBusy s (.dll n) then [((Reg.DLL_STAT_PENDING n).lo, 1, 1)] else []

/-- The slot that SEL_STATUS shows as selected: in STANDBY the active's, as mirrored (R137, R158). -/
def shownSelected (s : State) : Option Nat := if s.mode = .standby then s.pair.mirror.bind (·.selected) else selected s

/-- SEL_STATUS (R137, R138): in STANDBY the selection state is the mirrored state of the active. -/
def viewSel (s : State) : List Part :=
  let forced := (12, 1, (forced s).isSome.toNat)
  if s.mode = .standby then
    match s.pair.mirror with
    | some f => [(15, 1, f.swTarget.isSome.toNat), (14, 1, f.committed.toNat), forced, (8, 4, f.swTarget.getD 15), (0, 4, f.selected.getD 15)]
    | none => [forced]
  else [forced]

/-- Slot window (R113, R118). -/
def viewSlot (s : State) (n off : Nat) : List Part :=
  if off = 4 then
    [(6, 1, (slotEligible s n).toNat), (3, 1, (decide (shownSelected s = some n)).toNat), (0, 1, (slotErr s n).toNat)]
  else []

/-- PTP globals (R94, R111). -/
def viewPtpg (s : State) (off : Nat) : List Part := if off = 0x100C then [(0, 32, (shownClass s).toNat)] else []

/-- Port window (R286). -/
def viewPort (s : State) (p off : Nat) : List Part := if off = 8 then [(2, 1, (corrPending s p).toNat)] else []

/-- rt, d_w and θ of link n as they read once their block boundary has come (R145). -/
def viewLoop (s : State) (n off : Nat) : List Part :=
  match loopDue s n with
  | none => []
  | some (rt, dw, th) =>
    let r := twos 48 (roundDiv rt 5)
    let d := if linkRole s n = 1 then twos 48 (roundDiv dw 5) else getHL s (Reg.LINK_DW_HI n) (Reg.LINK_DW_LO n)
    match off with
    | 0x10 => [(0, 16, r / 2 ^ 32)]
    | 0x14 => [(0, 32, r)]
    | 0x18 => [(0, 16, d / 2 ^ 32)]
    | 0x1C => [(0, 32, d)]
    | 0x20 => [(0, 18, th)]
    | _ => []

/-- Link window (R139, R145, R146). -/
def viewLink (s : State) (n off : Nat) : List Part :=
  if off = 4 then (8, 1, (decide (s.clk.rootFwd = some n)).toNat) :: (7, 1, (dlyStale s n).toNat) :: (if linkRole s n = 0 then [(0, 4, 0)] else [])
  else viewLoop s n off

/-- Jieth globals (R155). -/
def viewJg (s : State) (off : Nat) : List Part :=
  if off = 0x1000 then
    [(16, 3, s.clk.rootFwd.getD 7), (8, 6, if s.straps.jrole = 2 then s.jieth.workers.length else 0), (0, 2, s.straps.jrole.toNat)]
  else []

/-- PAIR (R162, R164, R168, R175). -/
def viewPair (s : State) (off : Nat) : List Part :=
  match off with
  | 0x04 => [(10, 3, (mirrorLink s).getD 7), (6, 1, (pairReady s).toNat), (2, 2, pairRole s), (1, 1, (roleAck s).toNat),
             (0, 1, s.straps.pairEn.toNat)]
  | 0x0C => [(0, 16, s.pair.epoch.toNat)]
  | _ => []

/-- FAB globals (R201). -/
def viewFab (s : State) (off : Nat) : List Part :=
  match off with
  | 0x0C => [(0, 18, polderFree s)]
  | 0x10 => [(0, 27, spillUsed s)]
  | 0x1C => [(0, 17, (s.fab.macs.filter (macLive s)).length)]
  | _ => []

/-- Fabric port window (R185, R186, R198). -/
def viewFport (s : State) (f off : Nat) : List Part :=
  if off = 8 then
    let g := gatesAt s f (todWholeNs s)
    let pend := (gateS s f).admin.isSome && !listBegun (gateS s f) (todWholeNs s)
    [(28, 1, (sluiceDegraded s f).toNat), (27, 1, pend.toNat), (8, 8, g.1), (0, 8, g.2)]
  else []

/-- Gauge window (R234, R240, R244). -/
def viewGa (s : State) (n off : Nat) : List Part :=
  let head := (gaugeS s n).fifo.headD [0, 0, 0, 0]
  match off with
  | 0x10 => [(12, 1, (gaugeCfgErr s n).toNat), (11, 1, (gaugeStale s n).toNat), (0, 11, (gaugeS s n).fifo.length)]
  | 0x14 => [(0, 32, (head.getD 0 0).toNat)]
  | 0x18 => [(0, 32, (head.getD 1 0).toNat)]
  | 0x1C => [(0, 32, (head.getD 2 0).toNat)]
  | 0x20 => [(0, 32, (head.getD 3 0).toNat)]
  | 0x24 => [(0, 32, gaugeLsb s n)]
  | 0x28 => [(0, 32, gaugeInDelay s n)]
  | 0x2C => [(0, 10, gaugeN0 s n)]
  | _ => []

/-- GNSS (R247, R258). -/
def viewGnss (s : State) (off : Nat) : List Part :=
  match off with
  | 0x20 => [(0, 32, feDelay s)]
  | 0x28 => [(12, 1, (notchNear s).toNat), (10, 1, (gnssStale s).toNat)]
  | _ => []

/-- Notch window (R247). -/
def viewNotch (s : State) (n off : Nat) : List Part :=
  if off = 4 then [(31, 1, (notchActive s n).toNat), (0, 24, twos 24 (notchFreq s n))] else []

/-- Engine window (R268, R284). -/
def viewUe (s : State) (e off : Nat) : List Part :=
  if off = 0x0C then
    match (engS s e).mboxOut with
    | [] => []
    | x :: _ => [(31, 1, 1), (0, 18, x.toNat)]
  else []

/-- PERF (R278, R285). -/
def viewPerf (s : State) (off : Nat) : List Part :=
  if off = 0x14 then [(31, 1, (decide (1024 ≤ s.engs.buf.length)).toNat), (0, 11, s.engs.buf.length)] else []

/-- CAL (R301). -/
def viewCal (s : State) (off : Nat) : List Part :=
  match off with
  | 0x04 => [(12, 2, bits (calWord s 1).toNat 16 2), (3, 1, s.cal.store.isSome.toNat), (2, 1, (decide (s.cal.run ≠ [])).toNat)]
  | 0x0C => [(0, 32, (calWord s 2).toNat)]
  | _ => []

/-- Burnt breach fuses (R355). -/
def breachCount (s : State) : Nat := (s.otp.breach.filter id).length

/-- Mask of the key slots `lo` to `lo + w - 1` that hold a key (R355). -/
def keyMask (s : State) (lo w : Nat) : Nat :=
  (List.range w).foldl (fun a i => a + (s.sec.keys.any (fun e => e.1 = lo + i)).toNat * 2 ^ i) 0

/-- SEC (R337, R348, R355). -/
def viewSec (s : State) (off : Nat) : List Part :=
  match off with
  | 0x00 => [(8, 6, breachCount s), (5, 1, (decide (breachCount s = 32) && !getB s Reg.SEC_STATUS_DEBUG_OPEN).toNat), (4, 1, s.pins.dbgEn.toNat)]
  | 0x08 => [(0, 32, keyMask s 0 32)]
  | 0x0C => [(0, 32, keyMask s 32 32)]
  | 0x10 => [(0, 2, keyMask s 64 2)]
  | 0x18 => [(8, 6, s.otp.svnFloor), (0, 4, s.otp.revoked.toNat)]
  | _ => if 0x40 ≤ off ∧ off < 0x80 ∧ s.sec.pub = true then [(0, 32, (Config.identityPub ((off - 0x40) / 4)).toNat)] else []

/-- AUDIT (R352 to R356), the export window with it. -/
def viewAud (s : State) (off : Nat) : List Part :=
  match off with
  | 0x04 => [(17, 1, (auditFull s).toNat), (16, 1, s.aud.block.isSome.toNat), (0, 14, s.aud.unack)]
  | 0x0C => [(0, 32, s.aud.seq.toNat)]
  | 0x10 => [(0, 32, (s.aud.seq - BitVec.ofNat 32 s.aud.unack).toNat)]
  | 0x14 => [(0, 32, s.aud.blockNo.toNat)]
  | _ =>
    if 0x1000 ≤ off ∧ off ≤ 0x307C then
      match s.aud.block with
      | some b => [(0, 32, (b.getD ((off - 0x1000) / 4) 0).toNat)]
      | none => []
    else []

/-- A packet has started and not completed. -/
def isRunning (s : State) (id : Nat) : Bool := s.cmd.running.any (fun r => r.id = id)

/-- Whether a waiting packet is held by a FENCE, a FENCE_ALL or a SYNC (R308): it itself or one ahead of it. -/
def fenceHolds (s : State) (p : Packet) : Bool :=
  (p.fence && s.cmd.running.any (fun r => r.queue = p.queue)) ||
  s.cmd.running.any (fun r => (r.opcode = 0xF0 && decide (r.id < p.id)) || (r.opcode = 0xF1 && decide (r.queue = p.queue))) ||
  s.cmd.waiting.any (fun r => r.opcode = 0xF0 && decide (r.id < p.id) && decide (r.queue ≠ p.queue))

/-- CMD (R318). -/
def viewCmd (s : State) (off : Nat) : List Part :=
  if off = 4 then [(0, 4, 8 - s.cmd.spi.length)]
  else if 0x10 ≤ off ∧ off < 0x20 then
    let q := (off - 0x10) / 4
    let head := s.cmd.waiting.find? (fun p => p.queue = q)
    [(16, 5, (s.cmd.slots.filter (fun e => e.1 = q)).length), (8, 1, (match head with | some p => fenceHolds s p | none => false).toNat)]
  else []

/-- The computed parts of the register at an address. -/
def overlay (s : State) (a : Nat) : List Part :=
  match locate (a / 65536) (a % 65536) with
  | some (.sys, _, o) => viewSys s o
  | some (.clk, _, o) => viewClk s o
  | some (.time, _, o) => viewTime s o
  | some (.outw, n, o) => viewOut s n o
  | some (.dll, n, o) => viewDll s n o
  | some (.ref, _, o) => if o = 0x14 then viewSel s else []
  | some (.slot, n, o) => viewSlot s n o
  | some (.ptpg, _, o) => viewPtpg s o
  | some (.port, n, o) => viewPort s n o
  | some (.link, n, o) => viewLink s n o
  | some (.jg, _, o) => viewJg s o
  | some (.pair, _, o) => viewPair s o
  | some (.fab, _, o) => viewFab s o
  | some (.fport, n, o) => viewFport s n o
  | some (.queue, n, o) => if o = 0xC then [(0, 17, queueOcc s n)] else []
  | some (.gauge, _, o) => if o = 0 then [(0, 16, s.coarse / 2 ^ 32)] else if o = 4 then [(0, 32, s.coarse)] else []
  | some (.ga, n, o) => viewGa s n o
  | some (.gnss, _, o) => viewGnss s o
  | some (.notch, n, o) => viewNotch s n o
  | some (.eng, _, o) => if o = 8 then [(1, 1, (decide (s.engs.ftrim ≠ 0) || decide (s.engs.ptrim ≠ 0)).toNat)] else []
  | some (.ue, n, o) => viewUe s n o
  | some (.perf, _, o) => viewPerf s o
  | some (.cnt, n, o) => if o = 0 then [(8, 1, (cntErr s n).toNat)] else []
  | some (.cal, _, o) => viewCal s o
  | some (.sec, _, o) => viewSec s o
  | some (.aud, _, o) => viewAud s o
  | some (.cmd, _, o) => viewCmd s o
  | _ => []

/-- A word with its sign-extended fields extended (R322). -/
def signExtend (a : Nat) (v : Word) : Word :=
  (fieldsAt a).foldl (fun w f =>
    if f.sx && decide (bits w.toNat (f.lo + f.w - 1) 1 = 1) then
      insField w (f.lo + f.w) (32 - f.lo - f.w) (2 ^ (32 - f.lo - f.w) - 1) else w) v

/-- What the register at an address reads as, its domain powered. -/
def viewWord (s : State) (a : Nat) : Word :=
  signExtend a ((overlay s a).foldl (fun w p => insField w p.1 p.2.1 p.2.2) (regWord s a))

/-- A field as read. -/
def viewF (s : State) (f : Fld) : Nat := fieldOf (viewWord s f.addr) f.lo f.w

/-- A two-word quantity as read. -/
def viewHL (s : State) (hi lo : Fld) : Nat := viewF s hi * 2 ^ lo.w + viewF s lo

end Sys2Proof.Machine
end

