-- ==== Sys2Proof/Machine/Calib.lean ====
section
/-! DEFINITION. Calibration (chapter 14): measurements and their solutions (R287 to R290), the store of three copies with its vote
(R297 to R300), load classes (R294 to R296), and the commands of the chapter. -/

namespace Sys2Proof.Machine

/-- The forwarded clock of link n runs (R55, R143): the link is neither OFF nor FAILED, and the device sends. -/
def fwdRuns (s : State) (n : Nat) : Bool :=
  powered s .jieth && s.mode ≠ .fault && s.mode ≠ .reset && linkState s n ≠ 0 && linkState s n ≠ 7

/-- PERIOD_BOUNDARY (R55, R57 to R59, R286). The boundary of a forwarded clock is the next CK_REF rising edge, to which time runs, and its
edge leaves with it. -/
def execPeriodBoundary (n : Nat) (s : State) : Host.Outcome State Fault Refusal :=
  if 20 ≤ n then .fault .noSuchResource
  else if !s.clk.started then ok s
  else if n < 14 then ok (outBoundary s n)
  else
    let t := openPeriod (advance (ticksToRef s) s) n
    ok (if fwdRuns t (n - 14) then fwdEdge t n else t)

/-! ### Solutions (R289, R290) -/

/-- Solution of R289: transmit and receive delay from the present values t', r', the mean round trip, delta, the mean offset and o. -/
def solveDelay (t r rt delta offset o : Int) : Int × Int :=
  let sum := (t + r) + (rt - 2 * delta)
  let diff := (r - t) + 2 * (offset - o)
  ((sum - diff) / 2, (sum + diff) / 2)

/-- Two values in 2^-16 ns agree within `ps`/10 picoseconds. -/
def within (a b : Int) (tenths : Nat) : Bool := decide ((a - b).natAbs * 10000 ≤ tenths * 65536)

/-- Mean of two results (R288). -/
def mean2 (a b : Int) : Int := roundDiv (a + b) 2

/-- The 32-bit pattern of an integer. -/
def word32 (x : Int) : Word := BitVec.ofNat 32 (twos 32 x)

/-- Residual of tap k in units of 2^-16 ns against the residual at tap 0. -/
def tapRel (l : List Int) (k : Nat) : Int := l.getD k 0 - l.getD 0 0

/-- A tap correction in 2^-4 ps, held to eight bits. -/
def tapByte (d : Int) : Nat := twos 8 (clampInt (-128) 127 (roundDiv (d * 16000) 65536))

/-- Four tap corrections from `k` as a record word, most significant byte first. -/
def tapWord (l : List Int) (k : Nat) : Word :=
  BitVec.ofNat 32 (tapByte (l.getD k 0) <<< 24 + tapByte (l.getD (k + 1) 0) <<< 16 + tapByte (l.getD (k + 2) 0) <<< 8 +
    tapByte (l.getD (k + 3) 0))

/-- Agreement and mean of two DLL results: 1 ps on the path, 0.5 ps on each tap; DLLs 14 to 19 have no path of their own. -/
def solveDll (n : Nat) (cable : Int) (a b : List Int) : Option (List Word) :=
  let path := fun (l : List Int) => l.getD 0 0 - cable
  let good := (decide (14 ≤ n) || within (path a) (path b) 10) && (List.range 16).all (fun k => within (tapRel a k) (tapRel b k) 5)
  if a.length = 16 ∧ b.length = 16 ∧ good = true then
    let m := (List.range 16).map (fun k => mean2 (tapRel a k) (tapRel b k))
    some ((if 14 ≤ n then 0 else word32 (mean2 (path a) (path b))) :: [0, 4, 8, 12].map (tapWord m))
  else none

/-- Gate of VERNIER in 2^-16 ps: 65,536 ticks of 1,600 ps. -/
def vernierGate : Nat := 104857600 * 65536

/-- LSB_CAL in 2^-16 ps from the cycles of the two rings (R290). -/
def vernierLsb (start stop : Nat) : Nat := (roundDiv ((vernierGate * (max start stop - min start stop) : Nat) : Int) (start * stop)).toNat

/-- N0 from the count of the 200 ps edge (R290). -/
def vernierN0 (lsb count : Nat) : Int := (count : Int) - roundDiv (200 * 65536) lsb

/-- Least-squares slope per degree of values against temperatures in 0.01 degrees (R290). -/
def slope (l : List (Int × Int)) : Int :=
  let n : Int := l.length
  let st := sumInt (l.map (·.1))
  let sv := sumInt (l.map (·.2))
  let stv := sumInt (l.map (fun e => e.1 * e.2))
  let stt := sumInt (l.map (fun e => e.1 * e.1))
  let den := n * stt - st * st
  if den ≤ 0 then 0 else roundDiv ((n * stv - st * sv) * 100) den.toNat

/-- Temperatures and values that TEMPCO fits: transmit or receive. -/
def tempcoData (s : State) (i : Nat) (jieth rx : Bool) : List (Int × Int) :=
  if jieth then (s.cal.jtemps.filter (fun e => e.1 = i)).map (fun e => (e.2.2.2, if rx then e.2.2.1 else e.2.1))
  else (portS s i).temps.map (fun e => (e.2.2, if rx then e.2.1 else e.1))

/-- Fewer than two accepted measurements that span 10 degrees (R287). -/
def tempcoShort (s : State) (i : Nat) (jieth : Bool) : Bool :=
  let l := (tempcoData s i jieth false).map (·.1)
  !l.any (fun a => l.any (fun b => decide (1000 ≤ a - b)))

/-- Mean of two phases as an 18-bit record word. -/
def meanPhase (a b : Nat) : Word := BitVec.ofNat 32 (((roundDiv (phaseMean2 a b) 2) % 2 ^ 18).toNat)

/-- A measurement of an item can be taken: the conditions that R290 names. -/
def measurable (s : State) (it : CalItem) : Bool :=
  match it with
  | .jiethDelay n => decide (getF s (Reg.LINK_ASYM n) = 0)
  | .dll n => decide (n < 14) || decide (linkRole s (n - 14) = 0)
  | .vernier n => !gaugeRuns s n
  | .gnssFe => s.gnss.posHeld
  | .bermRef p _ => match s.ports.bermWin with | some w => decide (w.port ≠ p) | none => true
  | _ => true

/-- Outcome of a pair of results for an item: none where the results are not of the item's kind, some none where they disagree, else
the words to accept. -/
def solveItem (s : State) (r : CalReq) (r1 r2 : CalResult) : Option (Option (List Word)) :=
  match r.item, r1, r2 with
  | .portDelay p _, .portDelay rt1 of1 o1, .portDelay rt2 of2 o2 =>
    let f := fun rt x o => solveDelay (portDelay s p 0) (portDelay s p 1) rt r.refDly x (o - r.cable)
    let a := f rt1 of1 o1
    let b := f rt2 of2 o2
    some (if within a.1 b.1 20 && within a.2 b.2 20 then some [word32 (mean2 a.1 b.1), word32 (mean2 a.2 b.2)] else none)
  | .jiethDelay n, .jiethDelay rt1 of1 o1, .jiethDelay rt2 of2 o2 =>
    let f := fun rt x o => solveDelay (linkDelay s n 0 / 5) (linkDelay s n 1 / 5) rt r.refDly x (o - r.cable)
    let a := f rt1 of1 o1
    let b := f rt2 of2 o2
    some (if within a.1 b.1 10 && within a.2 b.2 10 then some [word32 (mean2 a.1 b.1), word32 (mean2 a.2 b.2)] else none)
  | .dll n, .dll a, .dll b => some (solveDll n r.cable a b)
  | .vernier _, .vernier a1 b1 c1, .vernier a2 b2 c2 =>
    let l1 := vernierLsb a1 b1
    let l2 := vernierLsb a2 b2
    let n1 := vernierN0 l1 c1
    let n2 := vernierN0 l2 c2
    some (if decide (0 < l1) && decide (0 < l2) && decide ((max l1 l2 - min l1 l2) * 500 ≤ min l1 l2) && decide (n1 = n2) then
        some [word32 (mean2 l1 l2), word32 n1] else none)
  | .gaugeDelay _, .gaugeDelay t1 b1, .gaugeDelay t2 b2 =>
    let x := t1 - b1 - r.cable * 1000
    let y := t2 - b2 - r.cable * 1000
    some (if (x - y).natAbs ≤ 65536 then some [word32 (mean2 x y)] else none)
  | .gnssFe, .gnssFe x1, .gnssFe x2 =>
    let f := fun (x : Int) => (feDelay s : Int) - x + s.gnss.ant - r.refDly
    some (if within (f x1) (f x2) 5000 then some [word32 (mean2 (f x1) (f x2))] else none)
  | .tempco i j, .tempco, .tempco => some (some [word32 (slope (tempcoData s i j false)), word32 (slope (tempcoData s i j true))])
  | .bermRef _ _, .bermRef t1 l1, .bermRef t2 l2 =>
    some (if phaseAgree t1 t2 && phaseAgree l1 l2 then some [meanPhase t1 t2, meanPhase l1 l2] else none)
  | _, _, _ => none

/-- What an accepted item brings besides its values: BERM_REF follows PORT_DELAY, and its window gives the reference temperature and
class (R289, R290, R293, R295); DIE_TEMP of the record is that of the last port measurement; Jieth delays are kept for TEMPCO. -/
def afterAccept (s : State) (r : CalReq) : State :=
  let t := getS s Reg.CAL_DIE_TEMP
  match r.item with
  | .portDelay p rate =>
    { s with cal := { s.cal with work := memPut s.cal.work 5 (BitVec.ofNat 32 (twos 16 t)),
                                 run := s.cal.run.take 1 ++ [{ item := .bermRef p rate }] ++ s.cal.run.drop 1 } }
  | .jiethDelay n =>
    let v := fun (k : Nat) => ((memGet s.cal.work (288 + 4 * n + k)).toNat : Int)
    { s with cal := { s.cal with jtemps := (n, v 0, v 1, t) :: s.cal.jtemps } }
  | .bermRef p _ => takeClass (updPort s p (fun o => { o with bermPend := some (0, 0, t) })) p
  | _ => s

/-- CAL_MEASUREMENT_DONE (R288): the pair of results of the measurement at the head of the run list. -/
def execCalMeasurementDone (r1 r2 : CalResult) (s : State) : Host.Outcome State Fault Refusal :=
  match s.cal.run with
  | [] => ok s
  | r :: _ =>
    if !measurable s r.item then ok s
    else
      match solveItem s r r1 r2 with
      | none => ok s
      | some none => ok (headFail (raise s Reg.CAL_EVENTS_CAL_DISAGREE))
      | some (some vs) => ok (headDone (raise (afterAccept (acceptItem s r.item vs) r) Reg.CAL_EVENTS_ITEM_DONE))

/-- Domain of an item (R287). -/
def itemDomain : CalItem → Domain
  | .portDelay p _ => portDomain p
  | .jiethDelay _ => .jieth
  | .dll _ => .time
  | .vernier _ => .gauge
  | .gaugeDelay _ => .gauge
  | .gnssFe => .gnss
  | .tempco i j => if j then .jieth else portDomain i
  | .bermRef p _ => portDomain p

/-- A domain powers down: its measurements are abandoned (R287). -/
def calPowerDown (s : State) (d : Domain) : State :=
  let keep := s.cal.run.filter (fun r => decide (itemDomain r.item ≠ d))
  if keep.length = s.cal.run.length then s
  else
    let head := match s.cal.run, keep with | a :: _, b :: _ => decide (a = b) | _, _ => false
    let s1 := raise { s with cal := { s.cal with run := keep, tries := if head then s.cal.tries else 0 } } Reg.CAL_EVENTS_ABANDONED
    endCal (if head then s1 else startHead s1)

/-! ### CAL_RUN (R287) -/

/-- A standby is present to this active pair member: its mirror link is up (R25). -/
def standbyPresent (s : State) : Bool :=
  decide (pairRole s = 2) &&
  match mirrorLink s with
  | some n => linkCarries s n
  | none => false

/-- The item that CAL_RUN names, none for a BAD_PARAM. -/
def runItem (s : State) (w : Word) : Option CalItem :=
  let ix := fieldOf w 16 6
  let rate := fieldOf w 12 2
  let evA := fieldOf w 8 4
  let evB := fieldOf w 4 4
  let rateOk := decide (32 ≤ ix) || decide (rate = portRate s ix)
  let pair := decide (evA ≠ evB) && decide (evA < 12) && decide (evB < 12)
  match fieldOf w 28 4 with
  | 0 => if ix < 36 ∧ rateOk ∧ pair then some (.portDelay ix (portRate s ix)) else none
  | 1 => if ix < 6 ∧ pair then some (.jiethDelay ix) else none
  | 2 => if ix < 20 ∧ evA < 12 then some (.dll ix) else none
  | 3 => if ix < 12 then some (.vernier ix) else none
  | 4 => if ix < 12 then some (.gaugeDelay ix) else none
  | 5 => some .gnssFe
  | 6 => if ix < 36 then (if tempcoShort s ix false then none else some (.tempco ix false))
         else if ix < 42 then (if tempcoShort s (ix - 36) true then none else some (.tempco (ix - 36) true))
         else none
  | 7 => if ix < 36 ∧ rateOk then some (.bermRef ix (portRate s ix)) else none
  | _ => none

/-- CAL_RUN. -/
def cmdCalRun (s : State) (ws : List Word) : CmdOut :=
  if s.mode ≠ .calibrate ∧ standbyPresent s then deny s .wrongMode
  else
    match runItem s (par ws 0) with
    | none => deny s .badParam
    | some it =>
      if 8 ≤ s.cal.run.length then deny s .busy
      else
        let r : CalReq := { item := it, refDly := (par ws 1).toNat, cable := (par ws 2).toInt, evA := parF ws 0 8 4, evB := parF ws 0 4 4 }
        let s1 := if s.mode = .calibrate then s else enterMode { s with calEntry := s.mode } .calibrate
        let s2 := { s1 with cal := { s1.cal with run := s1.cal.run ++ [r] } }
        done (if s1.cal.run = [] then startHead s2 else s2)

/-! ### The record store (R297 to R300) -/

/-- Word `k` of a copy; blank flash reads as ones. -/
def copyWord (c : CalCopy) (k : Nat) : Word := c.words.getD k 0xFFFFFFFF

/-- MAGIC, VERSION, SERIAL and CRC of a record are correct (R298, R300). -/
def recordGood (l : List Word) : Bool :=
  let w := fun k => l.getD k 0xFFFFFFFF
  decide (w 0 = 0x43414C31) && decide (fieldOf (w 1) 0 16 = 1) && decide (w 6 = (Config.serial >>> 32).setWidth 32) &&
  decide (w 7 = Config.serial.setWidth 32) && decide (w 1007 = crcWords (l.take 1007))

/-- A signature verifies under the device's identity public key (R298): it is the one that the identity key gives, or passes the check. -/
def identityVerifies (digest sig : List Word) : Bool :=
  decide (sig = (List.range 16).map (Config.identitySign digest)) || ecdsaVerifies ((List.range 16).map Config.identityPub) digest sig

/-- A copy is intact (R298). -/
def intact (c : CalCopy) : Bool :=
  decide (c.words.length = 1024) && recordGood c.words && identityVerifies (sha256 (c.words.take 1008)) (c.words.drop 1008)

/-- Two copies agree (R298). -/
def copiesAgree (a b : CalCopy) : Bool := decide (a.words.take 1008 = b.words.take 1008)

/-- Copy `k` of the flash. -/
def flashCopy (s : State) (k : Nat) : CalCopy := s.flash.copies.getD k {}

/-- Outcome of the vote (R299): the copies used, none where no copy is. -/
def voteResult (s : State) : List Nat :=
  let good := [0, 1, 2].filter (fun k => intact (flashCopy s k))
  let agree := good.filter (fun a => good.any (fun b => decide (a ≠ b) && copiesAgree (flashCopy s a) (flashCopy s b)))
  if agree ≠ [] then agree
  else if good.length = 1 then good
  else if good = [0, 2] ∧ copyWord (flashCopy s 0) 2 = copyWord (flashCopy s 2) 2 + 1 then [0]
  else []

/-- Every calibrated item. -/
def allItems : List CalItem :=
  (List.range 36).flatMap (fun p => (List.range 3).flatMap (fun r => if r = 0 ∨ p < 32 then [.portDelay p r, .bermRef p r] else [])) ++
  (List.range 36).map (fun p => .tempco p false) ++ (List.range 6).flatMap (fun n => [.jiethDelay n, .tempco n true]) ++
  (List.range 20).map .dll ++ (List.range 12).flatMap (fun n => [.vernier n, .gaugeDelay n]) ++ [.gnssFe]

/-- A record as a sparse memory of its first 1,008 words. -/
def recordMem (l : List Word) : List (Nat × Word) := memPutList [] 0 (l.take 1008)

/-- Header words of a record: everything that is no item, and the CRC. -/
def headWords : List Nat := List.range 16 ++ [1007]

/-- A record becomes the record in use: at boot at once, later with every changed item pending its boundary (R291). -/
def adoptRecord (s : State) (l : List Word) (atOnce : Bool) : State :=
  let m := recordMem l
  let force := if atOnce then m else headWords.foldl (fun f k => memPut f k (memGet m k)) s.cal.force
  let pend := if atOnce then [] else allItems.filter (fun it => (itemWords it).any (fun k => decide (memGet m k ≠ memGet s.cal.force k)))
  let s1 := { s with cal := { s.cal with work := m, force := force, pend := pend }
                     ports := { s.ports with port := s.ports.port.map (fun o => { o with refTemp := none, refClass := none, temps := [] }) } }
  evalMismatch s1

/-- CAL_VOTE (R299), step 7 of R33. -/
def voteCal (s : State) : State :=
  let valid := [0, 1, 2].foldl (fun a k => a + (intact (flashCopy s k)).toNat * 2 ^ k) 0
  let used := voteResult s
  let s1 := setF (setF s Reg.CAL_STATUS_COPY_VALID valid) Reg.CAL_STATUS_COPY_USED (used.foldl (fun a k => a + 2 ^ k) 0)
  match used with
  | [] => evalMismatch (updCal (setF s1 Reg.CAL_STATUS_CAL_REQUIRED 1) (fun c => { c with work := [], force := [], pend := [] }))
  | u :: _ =>
    let c := flashCopy s u
    let bad := [0, 1, 2].filter (fun k => decide (k ∉ used))
    let s2 := bad.foldl (fun t k => setCopy t k c) (setF s1 Reg.CAL_STATUS_CAL_REQUIRED 0)
    adoptRecord (raiseIf (decide (bad ≠ [])) s2 Reg.CAL_EVENTS_COPY_REPAIRED) c.words true

/-- Bit i of ITEM_MASK: some value of item group i is held (R297). -/
def itemMask (m : List (Nat × Word)) : Nat :=
  let grp : CalItem → Nat
    | .portDelay _ _ => 0
    | .jiethDelay _ => 1
    | .dll _ => 2
    | .vernier _ => 3
    | .gaugeDelay _ => 4
    | .gnssFe => 5
    | .tempco _ _ => 6
    | .bermRef _ _ => 7
  (List.range 8).foldl (fun a i =>
    a + (allItems.any (fun it => decide (grp it = i) && (itemWords it).any (fun k => decide (memGet m k ≠ 0)))).toNat * 2 ^ i) 0

/-- CRC and signature of 1,007 record words (R297). -/
def sealRecord (l : List Word) : List Word :=
  let b := l ++ [crcWords l]
  b ++ (List.range 16).map (Config.identitySign (sha256 b))

/-- The record of FROM = 1, from the working set. -/
def workRecord (s : State) : List Word :=
  let head : List Word := [0x43414C31, BitVec.ofNat 32 (1 + getF s Reg.CAL_STATUS_PRESENT_CLASS <<< 16), calWord s 2 + 1,
    BitVec.ofNat 32 (todSec s / 2 ^ 32), BitVec.ofNat 32 (todSec s), memGet s.cal.work 5, (Config.serial >>> 32).setWidth 32,
    Config.serial.setWidth 32, BitVec.ofNat 32 (itemMask s.cal.work)]
  sealRecord (head ++ memGetList s.cal.work 9 998)

/-- The record of FROM = 0, from the staging buffer: SOURCE 1 and the next RECORD_ID. -/
def stagedRecord (s : State) : List Word :=
  let l := memGetList s.cal.staging 0 1007
  sealRecord (l.take 1 ++ [insField (l.getD 1 0) 20 1 1, calWord s 2 + 1] ++ l.drop 3)

/-- CAL_ACCEPT: the named copy is used, the other two are rewritten from it. -/
def cmdCalAccept (s : State) (p : Packet) : CmdOut :=
  let k := parF p.words 0 0 2
  if k = 3 then deny s .badParam
  else if s.cal.store.isSome then deny s .busy
  else if !intact (flashCopy s k) then deny s .badParam
  else
    let s1 := setF (setF s Reg.CAL_STATUS_COPY_USED (2 ^ k)) Reg.CAL_STATUS_CAL_REQUIRED 0
    let s2 := adoptRecord s1 (flashCopy s k).words false
    (updCal s2 (fun c => { c with store := some ⟨p.id, (flashCopy s k).words, some k⟩ }), none)

/-- CAL_LOAD. -/
def cmdCalLoad (s : State) (ws : List Word) : CmdOut :=
  let o := parF ws 0 0 10
  if 1024 < o + (ws.length - 1) then deny s .badParam
  else done { s with cal := { s.cal with staging := memPutList s.cal.staging o (ws.drop 1) } }

/-- CAL_COMMIT. -/
def cmdCalCommit (s : State) (p : Packet) : CmdOut :=
  let staged := parF p.words 0 0 1 = 0
  if staged ∧ !recordGood (memGetList s.cal.staging 0 1008) then deny s .badParam
  else if s.cal.store.isSome then deny s .busy
  else if !getB s Reg.SEC_STATUS_ID_VALID then deny s .denied
  else ({ s with cal := { s.cal with store := some ⟨p.id, if staged then stagedRecord s else workRecord s, none⟩ } }, none)

/-- CAL_READ. -/
def cmdCalRead (s : State) (ws : List Word) : CmdOut :=
  let c := parF ws 0 30 2
  let n := parF ws 0 21 9
  let o := parF ws 0 0 10
  if n = 0 ∨ 1024 < o + n then deny s .badParam
  else answer s ((List.range n).map (fun i => if c = 3 then memGet s.cal.work (o + i) else copyWord (flashCopy s c) (o + i)))

/-- Copies that a store operation has written when the read-back of `failed` fails, or all of them. -/
def writtenCopies (st : Store) (failed : Option Nat) : List Nat :=
  [0, 1, 2].filter (fun k => decide (st.skip ≠ some k) && (match failed with | some f => decide (k < f) | none => true))

/-- CAL_STORE_DONE (R300): the copies are written and read back; a failed read-back stops the operation with TIMEOUT. A committed record
is the record in use: of the staging buffer with its items pending, of the working set with its header alone new. -/
def execCalStoreDone (failed : Option Nat) (s : State) : Host.Outcome State Fault Refusal :=
  match s.cal.store with
  | none => ok s
  | some st =>
    if (match failed with | some f => decide (3 ≤ f) || decide (st.skip = some f) | none => false) then ok s
    else
      let s1 := (writtenCopies st failed).foldl (fun t k => setCopy t k ⟨st.words⟩) { s with cal := { s.cal with store := none } }
      match failed with
      | some f => let d := draw s1; ok (finishId (setCopy d.2 f (tornCopy d.1)) (some st.id) .timeout [])
      | none =>
        let s2 := raise (setF s1 Reg.CAL_STATUS_CAL_REQUIRED 0) Reg.CAL_EVENTS_STORE_DONE
        let s3 :=
          if st.skip.isSome then s2
          else if fieldOf (st.words.getD 1 0) 20 1 = 1 then adoptRecord s2 st.words false
          else
            let put := fun (m : List (Nat × Word)) => headWords.foldl (fun f k => memPut f k (st.words.getD k 0)) m
            evalMismatch { s2 with cal := { s2.cal with work := put s2.cal.work, force := put s2.cal.force } }
        ok (finishId s3 (some st.id) .ok [])

/-! ### Load classes (R294 to R296) -/

/-- Class of a load in 0.1 % (R294). -/
def classOf (load : Int) : Nat := if load < 100 then 0 else if load < 400 then 1 else if load ≤ 750 then 2 else 3

/-- The present class changes only when the load lies 2 percentage points beyond the boundary (R294). -/
def nextClass (cur : Nat) (load : Nat) : Nat :=
  let up := classOf ((load : Int) - 20)
  let dn := classOf ((load : Int) + 20)
  if cur < up then up else if dn < cur then dn else cur

/-- The cells of one more second enter the 60 s window (R294). -/
def loadSecond (s : State) : State :=
  { s with fab := { s.fab with cells := 0, load := (s.fab.cells :: s.fab.load).take 60 } }

/-- Fabric load in 0.1 % (R294): the cells of the last 60 s, each of 1,536 bits, against 2.56 Tb/s, rounded down. DEDUCED (log entry 145): a frame's
cells count once, as it enters the fabric. -/
def fabricLoad (s : State) : Nat := min 1000 (sumNat s.fab.load * 1536 * 1000 / (60 * 2560000000000))

/-- The die sensor's mean over the last second, where it has a new one (R293, R301). -/
def takeDieTemp (s : State) (t : Option Int) : State :=
  match t with
  | some x => setF s Reg.CAL_DIE_TEMP (twos 16 x)
  | none => s

/-- LOAD_CLASS_EVAL (R293 to R296, R301): each second, the die sensor's mean is taken and the fabric load of the last 60 s is evaluated. -/
def execLoadClassEval (dieTemp : Option Int) (s0 : State) : Host.Outcome State Fault Refusal :=
  if !powered s0 .time then ok s0
  else
    let s := takeDieTemp (loadSecond s0) dieTemp
    let c := nextClass (getF s Reg.CAL_STATUS_PRESENT_CLASS) (fabricLoad s)
    ok (autoRecal (evalMismatch (setF (setF s Reg.CAL_LOAD_PERMILLE (fabricLoad s)) Reg.CAL_STATUS_PRESENT_CLASS c)))

end Sys2Proof.Machine
end

