-- ==== Sys2Proof/Machine/Operands.lean ====
section
/-! DEFINITION. The operand forms of the Umide engines (R266, R267): the three instruction formats, their 18-bit words, the data address,
shifts, immediates. -/

namespace Sys2Proof.Machine

/-- Opcodes of format R (R267). -/
inductive ROp where
  | nop | add | sub | adds | subs | and | or | xor | shl | shr | sar | cmp | mul | mac | msu | mulu | macu | accx | accl | asra | acca | ld | st | ret | halt
  deriving DecidableEq, Repr

/-- Opcodes of format I. -/
inductive IOp where
  | ldi | lim | lit | addi | shli | sari | inp | outp | wait | mark
  deriving DecidableEq, Repr

/-- Opcodes of format J. -/
inductive JOp where
  | j | bz | bnz | blt | bge | call
  deriving DecidableEq, Repr

/-- OP of a format R opcode. -/
def ROp.code : ROp → BitVec 6
  | .nop => 0x00
  | .add => 0x01
  | .sub => 0x02
  | .adds => 0x03
  | .subs => 0x04
  | .and => 0x05
  | .or => 0x06
  | .xor => 0x07
  | .shl => 0x08
  | .shr => 0x09
  | .sar => 0x0A
  | .cmp => 0x0B
  | .mul => 0x10
  | .mac => 0x11
  | .msu => 0x12
  | .mulu => 0x13
  | .macu => 0x14
  | .accx => 0x15
  | .accl => 0x16
  | .asra => 0x17
  | .acca => 0x18
  | .ld => 0x20
  | .st => 0x21
  | .ret => 0x3E
  | .halt => 0x3F

/-- OP of a format I opcode. -/
def IOp.code : IOp → BitVec 6
  | .ldi => 0x28
  | .lim => 0x29
  | .lit => 0x2A
  | .addi => 0x2B
  | .shli => 0x2C
  | .sari => 0x2D
  | .inp => 0x30
  | .outp => 0x31
  | .wait => 0x32
  | .mark => 0x33

/-- OP of a format J opcode. -/
def JOp.code : JOp → BitVec 6
  | .j => 0x38
  | .bz => 0x39
  | .bnz => 0x3A
  | .blt => 0x3B
  | .bge => 0x3C
  | .call => 0x3D

/-- An engine instruction. -/
inductive UInstr where
  | r (op : ROp) (d a b : BitVec 4)
  | i (op : IOp) (d : BitVec 4) (imm : BitVec 8)
  | j (op : JOp) (target : BitVec 12)
  deriving DecidableEq, Repr

/-- The 18-bit word of an instruction (R266). -/
def UInstr.encode : UInstr → EWord
  | .r op d a b => op.code ++ d ++ a ++ b
  | .i op d imm => op.code ++ d ++ imm
  | .j op t => op.code ++ t

/-- Format R opcode of an OP value. -/
def rOpOf (c : BitVec 6) : Option ROp :=
  match c.toNat with
  | 0x00 => some .nop
  | 0x01 => some .add
  | 0x02 => some .sub
  | 0x03 => some .adds
  | 0x04 => some .subs
  | 0x05 => some .and
  | 0x06 => some .or
  | 0x07 => some .xor
  | 0x08 => some .shl
  | 0x09 => some .shr
  | 0x0A => some .sar
  | 0x0B => some .cmp
  | 0x10 => some .mul
  | 0x11 => some .mac
  | 0x12 => some .msu
  | 0x13 => some .mulu
  | 0x14 => some .macu
  | 0x15 => some .accx
  | 0x16 => some .accl
  | 0x17 => some .asra
  | 0x18 => some .acca
  | 0x20 => some .ld
  | 0x21 => some .st
  | 0x3E => some .ret
  | 0x3F => some .halt
  | _ => none

/-- Format I opcode of an OP value. -/
def iOpOf (c : BitVec 6) : Option IOp :=
  match c.toNat with
  | 0x28 => some .ldi
  | 0x29 => some .lim
  | 0x2A => some .lit
  | 0x2B => some .addi
  | 0x2C => some .shli
  | 0x2D => some .sari
  | 0x30 => some .inp
  | 0x31 => some .outp
  | 0x32 => some .wait
  | 0x33 => some .mark
  | _ => none

/-- Format J opcode of an OP value. -/
def jOpOf (c : BitVec 6) : Option JOp :=
  match c.toNat with
  | 0x38 => some .j
  | 0x39 => some .bz
  | 0x3A => some .bnz
  | 0x3B => some .blt
  | 0x3C => some .bge
  | 0x3D => some .call
  | _ => none

/-- The instruction of an 18-bit word; none where OP is illegal (R267). -/
def UInstr.decode (w : EWord) : Option UInstr :=
  let c : BitVec 6 := w.extractLsb' 12 6
  match rOpOf c, iOpOf c, jOpOf c with
  | some op, _, _ => some (.r op (w.extractLsb' 8 4) (w.extractLsb' 4 4) (w.extractLsb' 0 4))
  | none, some op, _ => some (.i op (w.extractLsb' 8 4) (w.extractLsb' 0 8))
  | none, none, some op => some (.j op (w.extractLsb' 0 12))
  | none, none, none => none

/-- Issue-to-retire latency in cycles (R264, R267). -/
def UInstr.latency : UInstr → Nat
  | .r op _ _ _ =>
    (match op with
    | .mul | .mac | .msu | .mulu | .macu | .accx | .accl | .asra | .acca | .ld | .st => 4
    | _ => 3)
  | .i op _ _ => (match op with | .inp => 4 | _ => 3)
  | .j _ _ => 3

/-- Class of R279: 0 ALU, 1 multiply and accumulator, 2 LD and ST, 3 IN and OUT, 4 branch and call, 5 WAIT, MARK, HALT. NOP counts as
ALU. -/
def UInstr.cls : UInstr → Nat
  | .r op _ _ _ =>
    (match op with
    | .mul | .mac | .msu | .mulu | .macu | .accx | .accl | .asra | .acca => 1
    | .ld | .st => 2
    | .ret => 4
    | .halt => 5
    | _ => 0)
  | .i op _ _ =>
    (match op with
    | .inp | .outp => 3
    | .wait | .mark => 5
    | _ => 0)
  | .j _ _ => 4

/-- Data address (Wa + b) mod 8,192 (R267). -/
def dataAddr (wa : EWord) (b : BitVec 4) : Nat := (wa.toNat + b.toNat) % 8192

/-- Shift left by `k`: 18 or more gives 0. -/
def shlW (x : EWord) (k : Nat) : EWord := x <<< k

/-- Logical shift right by `k`. -/
def shrW (x : EWord) (k : Nat) : EWord := x >>> k

/-- Arithmetic shift right by `k`: 18 or more gives the sign. -/
def sarW (x : EWord) (k : Nat) : EWord := x.sshiftRight k

/-- Shift count Wb[4:0]. -/
def shiftCount (wb : EWord) : Nat := wb.toNat % 32

/-- An immediate sign-extended to a word. -/
def immS (imm : BitVec 8) : EWord := imm.signExtend 18

/-- LIM: bits [15:8] replaced. -/
def limW (x : EWord) (imm : BitVec 8) : EWord := x.extractLsb' 16 2 ++ imm ++ x.extractLsb' 0 8

/-- LIT: bits [17:16] replaced. -/
def litW (x : EWord) (imm : BitVec 8) : EWord := imm.extractLsb' 0 2 ++ x.extractLsb' 0 16

end Sys2Proof.Machine
end

