-- ==== Sys2Proof/Machine/Flags.lean ====
section
/-! DEFINITION. The engines' arithmetic with its flags Z, N, C, V (R263, R267). Results are computed exactly in the integers and then
narrowed, modulo 2^18 or with saturation. -/

namespace Sys2Proof.Machine

/-- Flags of an engine. -/
structure UFlags where
  z : Bool
  n : Bool
  c : Bool
  v : Bool
  deriving DecidableEq, Repr

/-- Z and N of a result. -/
def zn (f : UFlags) (r : EWord) : UFlags := { f with z := r = 0, n := r.msb }

/-- A signed value outside 18 bits. -/
def outOf (w : Nat) (x : Int) : Bool := decide (x < -(2 ^ (w - 1) : Int)) || decide ((2 ^ (w - 1) : Int) ≤ x)

/-- A signed value saturated to `w` bits. -/
def satTo (w : Nat) (x : Int) : BitVec w := BitVec.ofInt w (clampInt (-(2 ^ (w - 1) : Int)) (2 ^ (w - 1) - 1) x)

/-- ADD and ADDI: ZNCV. -/
def addF (f : UFlags) (a b : EWord) : EWord × UFlags :=
  let r := a + b
  (r, { zn f r with c := 2 ^ 18 ≤ a.toNat + b.toNat, v := outOf 18 (a.toInt + b.toInt) })

/-- SUB and CMP: ZNCV, C a free value of the operands. -/
def subF (f : UFlags) (a b : EWord) : EWord × UFlags :=
  let r := a - b
  (r, { zn f r with c := Config.subCarry a b, v := outOf 18 (a.toInt - b.toInt) })

/-- ADDS: ZNV, V on saturation. -/
def addsF (f : UFlags) (a b : EWord) : EWord × UFlags :=
  let r := satTo 18 (a.toInt + b.toInt)
  (r, { zn f r with v := outOf 18 (a.toInt + b.toInt) })

/-- SUBS: ZNV, V on saturation. -/
def subsF (f : UFlags) (a b : EWord) : EWord × UFlags :=
  let r := satTo 18 (a.toInt - b.toInt)
  (r, { zn f r with v := outOf 18 (a.toInt - b.toInt) })

/-- A result that sets Z and N only. -/
def logicF (f : UFlags) (r : EWord) : EWord × UFlags := (r, zn f r)

/-- Accumulate an integer into an accumulator modulo 2^48: V on signed overflow. -/
def accF (f : UFlags) (a : Acc) (x : Int) : Acc × UFlags :=
  (BitVec.ofInt 48 (a.toInt + x), { f with v := outOf 48 (a.toInt + x) })

/-- ACCX: A[2b+17:2b] as a signed word, saturating on what lies above: V on saturation. -/
def accxF (f : UFlags) (a : Acc) (b : BitVec 4) : EWord × UFlags :=
  let x := (a.sshiftRight (2 * b.toNat)).toInt
  (satTo 18 x, { f with v := outOf 18 x })

/-- ACCL: the sign-extended 36-bit Wa, Wb. -/
def acclW (a b : EWord) : Acc := (a ++ b).signExtend 48

end Sys2Proof.Machine
end

