-- ==== Sys2Proof/Machine/Engine.lean ====
section
/-! DEFINITION. The Umide engines (chapter 13): retirement with its counters and samples, the instructions, ports, events, faults, steering
commits, the engine commands. -/

namespace Sys2Proof.Machine

/-! ### Small accessors -/

/-- Cycle count of CK_ENG (R268): half of the tick count. -/
def engCycle (s : State) : Nat := s.now / 2

/-- RUNNING of an engine. -/
def engRunning (s : State) (e : Nat) : Bool := getB s (Reg.UE_ENG_STATUS_RUNNING e)

/-- An engine issues: powered, running, not stalled in WAIT. -/
def engIssues (s : State) (e : Nat) : Bool := powered s .eng && engRunning s e && (engS s e).wait.isNone

/-- Word register r of engine e. -/
def uw (s : State) (e : Nat) (r : BitVec 4) : EWord := (engS s e).w.getD r.toNat 0

/-- Set word register r. -/
def setW (s : State) (e : Nat) (r : BitVec 4) (x : EWord) : State := updEng s e (fun o => { o with w := listUpd 0 o.w r.toNat (fun _ => x) })

/-- Accumulator named by bit 0 of a field. -/
def ua (s : State) (e : Nat) (r : BitVec 4) : Acc := if r.toNat % 2 = 0 then (engS s e).a0 else (engS s e).a1

/-- Set an accumulator. -/
def setA (s : State) (e : Nat) (r : BitVec 4) (x : Acc) : State :=
  updEng s e (fun o => if r.toNat % 2 = 0 then { o with a0 := x } else { o with a1 := x })

/-- Flags of an engine. -/
def uflags (s : State) (e : Nat) : UFlags := ⟨(engS s e).z, (engS s e).n, (engS s e).c, (engS s e).v⟩

/-- Set the flags. -/
def setFlags (s : State) (e : Nat) (f : UFlags) : State := updEng s e (fun o => { o with z := f.z, n := f.n, c := f.c, v := f.v })

/-- OWNER names engine e (R272, R284). -/
def steerOwner (s : State) (e : Nat) : Bool := decide (4 ≤ getF s Reg.ENG_STEER_CFG_OWNER) && decide (e = getF s Reg.ENG_STEER_CFG_OWNER + 8)

/-! ### Sampling (R276 to R278) -/

/-- One step of x^16 + x^14 + x^13 + x^11 + 1. -/
def lfsrStep (l : BitVec 16) : BitVec 16 :=
  let b := l ^^^ (l >>> 2) ^^^ (l >>> 3) ^^^ (l >>> 5)
  (l >>> 1) ||| (b <<< 15)

/-- `k` steps. -/
def lfsrRun (l : BitVec 16) : Nat → BitVec 16
  | 0 => l
  | k + 1 => lfsrRun (lfsrStep l) k

/-- Engines of ENG_MASK, ascending. -/
def sampleEngs (s : State) : List Nat := (List.range 16).filter (fun e => decide (bits (getF s Reg.PERF_SAMPLE_CFG_ENG_MASK) e 1 = 1))

/-- SAMPLE_INTERVAL. -/
def sampleInterval (s : State) : Nat := max 1 (getF s Reg.PERF_SAMPLE_INTERVAL)

/-- Engine `k` intervals after engine `e` in the rotation through a list. -/
def rotateEng (l : List Nat) (e k : Nat) : Nat :=
  match l.findIdx? (fun x => decide (x = e)) with
  | some i => l.getD ((i + k) % l.length) e
  | none => l.headD e

/-- Bring the interval of the random tagging up to the present cycle. -/
def tagAdvance (s : State) : State :=
  let g := s.engs
  let c := engCycle s
  if g.lfsr = 0 then
    { s with engs := { g with lfsr := BitVec.ofNat 16 (max 1 (getF s Reg.PERF_SAMPLE_SEED_SEED)), tagBase := c, tagOpen := true,
                              tagEng := (sampleEngs s).headD 0 } }
  else
    let k := (c - g.tagBase) / sampleInterval s
    if k = 0 then s
    else { s with engs := { g with lfsr := lfsrRun g.lfsr (k % 65535), tagBase := g.tagBase + k * sampleInterval s, tagOpen := true,
                                   tagEng := rotateEng (sampleEngs s) g.tagEng k } }

/-- An entry enters the buffer; SEQ advances whether it is kept or lost. -/
def samplePush (s : State) (kind e : Nat) (pc : BitVec 12) (w : EWord) (w3 : Word) : State :=
  let g := s.engs
  let entry : List Word := [BitVec.ofNat 32 (kind <<< 30 + e <<< 24 + pc.toNat <<< 12 + g.seq.toNat), BitVec.ofNat 32 (w.toNat <<< 14),
    BitVec.ofNat 32 (engCycle s), w3]
  let s1 := { s with engs := { g with seq := g.seq + 1 } }
  if g.buf.length < 1024 then { s1 with engs := { s1.engs with buf := g.buf ++ [entry] } }
  else if getB s Reg.PERF_SAMPLE_CFG_WRAP then { s1 with engs := { s1.engs with buf := g.buf.drop 1 ++ [entry], lost := true } }
  else incF { s1 with engs := { s1.engs with lost := true } } Reg.PERF_SAMPLE_LOST 1

/-- An instruction of engine e at address pc retires: it may be sampled. -/
def sampleTake (s : State) (e : Nat) (pc : BitVec 12) (i : UInstr) (lat : Nat) : State :=
  let inRange := decide (getF s Reg.PERF_SAMPLE_ADDR_LO ≤ pc.toNat) && decide (pc.toNat ≤ getF s Reg.PERF_SAMPLE_ADDR_HI)
  let inMask := decide (e ∈ sampleEngs s)
  match getF s Reg.PERF_SAMPLE_CFG_MODE with
  | 1 =>
    if !(inRange && inMask) then s
    else
      let c := (if s.engs.count = 0 then sampleInterval s else s.engs.count) - 1
      if c = 0 then
        let s1 := { s with engs := { s.engs with count := sampleInterval s } }
        if getF s Reg.PERF_SAMPLE_SEED_LAT_MIN ≤ lat then samplePush s1 1 e pc i.encode (BitVec.ofNat 32 (min lat 65535)) else s1
      else { s with engs := { s.engs with count := c } }
  | 2 =>
    let s1 := tagAdvance s
    let chosen := s1.engs.tagBase + s1.engs.lfsr.toNat % sampleInterval s1
    if s1.engs.tagOpen && inMask && decide (e = s1.engs.tagEng) && decide (chosen ≤ engCycle s1) then
      let s2 := { s1 with engs := { s1.engs with tagOpen := false } }
      if inRange then
        let d := draw s2
        samplePush d.2 2 e pc i.encode (BitVec.ofNat 32 ((Config.tagStages d.1).toNat <<< 4))
      else s2
    else s1
  | _ => s

/-- A write to the sampling configuration starts the countdown and the intervals afresh. -/
def sampleRestart (s : State) : State :=
  { s with engs := { s.engs with count := 0, lfsr := 0, tagBase := engCycle s, tagOpen := false } }

/-- SAMPLE_CFG.RESET (R285): the buffer empties and SEQ restarts at 0. -/
def sampleReset (s : State) : State := { s with engs := { s.engs with buf := [], seq := 0, lost := false } }

/-! ### Issue, retirement, halt -/

/-- What an instruction does. -/
inductive Act where
  | next (s : State)
  | jump (s : State) (pc : BitVec 12)
  | halt
  | fault (cause : Nat)
  | stall (s : State)
  | slow (s : State) (extra : Nat)

/-- An engine halts: cause 0 is HALT (R267), else a fault (R271); the owner's trims become zero (R274). -/
def engHalt (s : State) (e cause : Nat) : State :=
  let s1 := setF s (Reg.UE_ENG_STATUS_RUNNING e) 0
  let s2 := if cause = 0 then setF s1 (Reg.UE_ENG_STATUS_HALTED e) 1 else setF s1 (Reg.UE_ENG_STATUS_CAUSE e) cause
  let s3 := updEng s2 e (fun o => { o with wait := none })
  let s4 := if steerOwner s e then clearTrims s3 else s3
  raiseIf (decide (cause ≠ 0) && decide (12 ≤ e)) s4 Reg.ENG_EVENTS_USER_FAULT

/-- An instruction at address `pc` retires: counters, samples, ENG_STATUS.PC, and the next address. -/
def retire (s : State) (e : Nat) (i : UInstr) (lat : Nat) (nxt : BitVec 12) : State :=
  let pc := (engS s e).pc
  let s1 := sampleTake (perf s 0x01 e pc.toNat i.cls 1) e pc i lat
  setF (updEng s1 e (fun o => { o with pc := nxt, retired := o.retired + 1 })) (Reg.UE_ENG_STATUS_PC e) pc.toNat

/-- Engine e issues instruction `i` (R264 to R267, R271): an engine that does not issue does nothing; an illegal OP in the fetched word
halts it. -/
def engStep (e : Nat) (i : UInstr) (act : State → Act) (s : State) : Host.Outcome State Fault Refusal :=
  if 16 ≤ e then .fault .noSuchResource
  else if !engIssues s e then ok s
  else
    let pc := (engS s e).pc
    if (UInstr.decode (memGet (engS s e).iram pc.toNat)).isNone then ok (engHalt s e 1)
    else
      match act s with
      | .next t => ok (retire t e i i.latency (pc + 1))
      | .jump t p => ok (retire t e i i.latency p)
      | .halt => ok (engHalt (retire s e i i.latency (pc + 1)) e 0)
      | .fault c => ok (engHalt s e c)
      | .stall t => ok t
      | .slow t k => ok (retire t e i (i.latency + k) (pc + 1))

/-- Result and flags of a two-operand instruction. -/
def alu (e : Nat) (d a b : BitVec 4) (op : UFlags → EWord → EWord → EWord × UFlags) (s : State) : Act :=
  let r := op (uflags s e) (uw s e a) (uw s e b)
  .next (setFlags (setW s e d r.1) e r.2)

/-- ENGINE_NOP. -/
def execEngineNop (e : Nat) (s : State) : Host.Outcome State Fault Refusal := engStep e (.r .nop 0 0 0) .next s

/-- ADD. -/
def execUeAdd (e : Nat) (d a b : BitVec 4) (s : State) : Host.Outcome State Fault Refusal := engStep e (.r .add d a b) (alu e d a b addF) s

/-- SUB. -/
def execUeSub (e : Nat) (d a b : BitVec 4) (s : State) : Host.Outcome State Fault Refusal := engStep e (.r .sub d a b) (alu e d a b subF) s

/-- ADDS. -/
def execUeAdds (e : Nat) (d a b : BitVec 4) (s : State) : Host.Outcome State Fault Refusal := engStep e (.r .adds d a b) (alu e d a b addsF) s

/-- SUBS. -/
def execUeSubs (e : Nat) (d a b : BitVec 4) (s : State) : Host.Outcome State Fault Refusal := engStep e (.r .subs d a b) (alu e d a b subsF) s

/-- AND. -/
def execUeAnd (e : Nat) (d a b : BitVec 4) (s : State) : Host.Outcome State Fault Refusal :=
  engStep e (.r .and d a b) (alu e d a b (fun f x y => logicF f (x &&& y))) s

/-- OR. -/
def execUeOr (e : Nat) (d a b : BitVec 4) (s : State) : Host.Outcome State Fault Refusal :=
  engStep e (.r .or d a b) (alu e d a b (fun f x y => logicF f (x ||| y))) s

/-- XOR. -/
def execUeXor (e : Nat) (d a b : BitVec 4) (s : State) : Host.Outcome State Fault Refusal :=
  engStep e (.r .xor d a b) (alu e d a b (fun f x y => logicF f (x ^^^ y))) s

/-- SHL. -/
def execUeShl (e : Nat) (d a b : BitVec 4) (s : State) : Host.Outcome State Fault Refusal :=
  engStep e (.r .shl d a b) (alu e d a b (fun f x y => logicF f (shlW x (shiftCount y)))) s

/-- SHR. -/
def execUeShr (e : Nat) (d a b : BitVec 4) (s : State) : Host.Outcome State Fault Refusal :=
  engStep e (.r .shr d a b) (alu e d a b (fun f x y => logicF f (shrW x (shiftCount y)))) s

/-- SAR. -/
def execUeSar (e : Nat) (d a b : BitVec 4) (s : State) : Host.Outcome State Fault Refusal :=
  engStep e (.r .sar d a b) (alu e d a b (fun f x y => logicF f (sarW x (shiftCount y)))) s

/-- CMP: the flags of SUB, no register. -/
def execUeCmp (e : Nat) (d a b : BitVec 4) (s : State) : Host.Outcome State Fault Refusal :=
  engStep e (.r .cmp d a b) (fun t => .next (setFlags t e (subF (uflags t e) (uw t e a) (uw t e b)).2)) s

/-- Signed product of two words. -/
def prodS (s : State) (e : Nat) (a b : BitVec 4) : Int := (uw s e a).toInt * (uw s e b).toInt

/-- Unsigned product of two words. -/
def prodU (s : State) (e : Nat) (a b : BitVec 4) : Int := ((uw s e a).toNat * (uw s e b).toNat : Nat)

/-- Accumulate an integer, with V. -/
def accumulate (e : Nat) (d : BitVec 4) (x : State → Int) (s : State) : Act :=
  let r := accF (uflags s e) (ua s e d) (x s)
  .next (setFlags (setA s e d r.1) e r.2)

/-- MUL. -/
def execUeMul (e : Nat) (d a b : BitVec 4) (s : State) : Host.Outcome State Fault Refusal :=
  engStep e (.r .mul d a b) (fun t => .next (setA t e d (BitVec.ofInt 48 (prodS t e a b)))) s

/-- MAC. -/
def execUeMac (e : Nat) (d a b : BitVec 4) (s : State) : Host.Outcome State Fault Refusal :=
  engStep e (.r .mac d a b) (accumulate e d (fun t => prodS t e a b)) s

/-- MSU. -/
def execUeMsu (e : Nat) (d a b : BitVec 4) (s : State) : Host.Outcome State Fault Refusal :=
  engStep e (.r .msu d a b) (accumulate e d (fun t => -prodS t e a b)) s

/-- MULU. -/
def execUeMulu (e : Nat) (d a b : BitVec 4) (s : State) : Host.Outcome State Fault Refusal :=
  engStep e (.r .mulu d a b) (fun t => .next (setA t e d (BitVec.ofInt 48 (prodU t e a b)))) s

/-- MACU. -/
def execUeMacu (e : Nat) (d a b : BitVec 4) (s : State) : Host.Outcome State Fault Refusal :=
  engStep e (.r .macu d a b) (accumulate e d (fun t => prodU t e a b)) s

/-- ACCX. -/
def execUeAccx (e : Nat) (d a b : BitVec 4) (s : State) : Host.Outcome State Fault Refusal :=
  engStep e (.r .accx d a b) (fun t =>
    let r := accxF (uflags t e) (ua t e a) b
    .next (setFlags (setW t e d r.1) e r.2)) s

/-- ACCL. -/
def execUeAccl (e : Nat) (d a b : BitVec 4) (s : State) : Host.Outcome State Fault Refusal :=
  engStep e (.r .accl d a b) (fun t => .next (setA t e d (acclW (uw t e a) (uw t e b)))) s

/-- ASRA. -/
def execUeAsra (e : Nat) (d a b : BitVec 4) (s : State) : Host.Outcome State Fault Refusal :=
  engStep e (.r .asra d a b) (fun t => .next (setA t e d ((ua t e d).sshiftRight b.toNat))) s

/-- ACCA. -/
def execUeAcca (e : Nat) (d a b : BitVec 4) (s : State) : Host.Outcome State Fault Refusal :=
  engStep e (.r .acca d a b) (accumulate e d (fun t => (ua t e a).toInt)) s

/-- LD. -/
def execUeLd (e : Nat) (d a b : BitVec 4) (s : State) : Host.Outcome State Fault Refusal :=
  engStep e (.r .ld d a b) (fun t => .next (setW t e d (memGet (engS t e).dram (dataAddr (uw t e a) b)))) s

/-- ST. -/
def execUeSt (e : Nat) (d a b : BitVec 4) (s : State) : Host.Outcome State Fault Refusal :=
  engStep e (.r .st d a b) (fun t => .next (updEng t e (fun o => { o with dram := memPut o.dram (dataAddr (uw t e a) b) (uw t e d) }))) s

/-- LDI. -/
def execUeLdi (e : Nat) (d : BitVec 4) (imm : BitVec 8) (s : State) : Host.Outcome State Fault Refusal :=
  engStep e (.i .ldi d imm) (fun t => .next (setW t e d (immS imm))) s

/-- LIM. -/
def execUeLim (e : Nat) (d : BitVec 4) (imm : BitVec 8) (s : State) : Host.Outcome State Fault Refusal :=
  engStep e (.i .lim d imm) (fun t => .next (setW t e d (limW (uw t e d) imm))) s

/-- LIT. -/
def execUeLit (e : Nat) (d : BitVec 4) (imm : BitVec 8) (s : State) : Host.Outcome State Fault Refusal :=
  engStep e (.i .lit d imm) (fun t => .next (setW t e d (litW (uw t e d) imm))) s

/-- Result and flags of an instruction on Wd and its immediate. -/
def aluI (e : Nat) (d : BitVec 4) (op : UFlags → EWord → EWord × UFlags) (s : State) : Act :=
  let r := op (uflags s e) (uw s e d)
  .next (setFlags (setW s e d r.1) e r.2)

/-- ADDI. -/
def execUeAddi (e : Nat) (d : BitVec 4) (imm : BitVec 8) (s : State) : Host.Outcome State Fault Refusal :=
  engStep e (.i .addi d imm) (aluI e d (fun f x => addF f x (immS imm))) s

/-- SHLI. -/
def execUeShli (e : Nat) (d : BitVec 4) (imm : BitVec 8) (s : State) : Host.Outcome State Fault Refusal :=
  engStep e (.i .shli d imm) (aluI e d (fun f x => logicF f (shlW x imm.toNat))) s

/-- SARI. -/
def execUeSari (e : Nat) (d : BitVec 4) (imm : BitVec 8) (s : State) : Host.Outcome State Fault Refusal :=
  engStep e (.i .sari d imm) (aluI e d (fun f x => logicF f (sarW x imm.toNat))) s

/-! ### Ports (R268 to R270) -/

/-- A register word as a user engine sees it: zero in an unpowered domain. -/
def userWord (s : State) (f : Fld) : Nat := if powered s (addrDomain f.addr) then viewF s f else 0

/-- A two-word quantity as a user engine sees it. -/
def userHL (s : State) (hi lo : Fld) : Nat := userWord s hi * 2 ^ lo.w + userWord s lo

/-- Engine e may read counter n (R283). -/
def mayCounter (s : State) (e n : Nat) : Bool := decide (e < 12) || decide (bits (getF s (Reg.PERF_USER_READ (n / 32))) (n % 32) 1 = 1)

/-- Engine e may read histogram h (R283). -/
def mayHist (s : State) (e h : Nat) : Bool := decide (e < 12) || getB s (Reg.HIST_HIST_CFG_USER_READ h)

/-- The object that SEL names (R269), none where it is undefined or denied. -/
def selObject (s : State) (e kind ix : Nat) : Option Int :=
  match kind with
  | 0 => if ix = 0 then some (todSec s) else if ix = 1 then some ((engS s e).latchNs) else none
  | 1 => if ix < 8 then some (sext 48 (userHL s (Reg.SLOT_OFS_HI ix) (Reg.SLOT_OFS_LO ix))) else none
  | 2 => if ix < 8 then some (sext 54 (userHL s (Reg.SLOT_FREQ_HI ix) (Reg.SLOT_FREQ_LO ix))) else none
  | 3 =>
    if ix < 8 then some (userWord s ⟨0x30104 + 0x20 * ix, 0, 8⟩ : Nat) else if ix = 8 then some (userWord s ⟨0x30014, 0, 16⟩ : Nat) else none
  | 4 => if ix < 36 then some (userWord s ⟨portBase ix + 4, 0, 32⟩ : Nat) else none
  | 5 => if ix < 36 then some (sext 48 (userHL s (Reg.PORT_OFFSET_HI ix) (Reg.PORT_OFFSET_LO ix))) else none
  | 6 =>
    (match ix with
    | 0 => some (sext 54 (userHL s Reg.CLK_CW_APPLIED_HI Reg.CLK_CW_APPLIED_LO))
    | 1 => some (sext 54 (userHL s Reg.CLK_CW_REQ_HI Reg.CLK_CW_REQ_LO))
    | 2 => some (sext 54 (userHL s Reg.REF_HOLD_AVG_HI Reg.REF_HOLD_AVG_LO))
    | _ => none)
  | 7 => if ix < 128 && mayCounter s e ix then some (userHL s (Reg.CNT_VALUE_HI ix) (Reg.CNT_VALUE_LO ix) : Nat) else none
  | 8 =>
    if ix < 256 then (if mayHist s e (ix / 32) then some (userWord s (Reg.HIST_BIN (ix / 32) (ix % 32)) : Nat) else none)
    else if ix < 264 && mayHist s e (ix - 256) then some (userHL s (Reg.HIST_COUNT_HI (ix - 256)) (Reg.HIST_COUNT_LO (ix - 256)) : Nat)
    else none
  | 9 => if ix < 6 then some (userHL s (Reg.LINK_RT_HI ix) (Reg.LINK_RT_LO ix) : Nat) else none
  | _ => none

/-- Latch the selected object (R268, R269): a denied or undefined one is zero and counts. -/
def latchObject (s : State) (e : Nat) : State :=
  let sel := (engS s e).sel.toNat
  let k := sel / 4096
  let ix := sel % 4096
  let s1 := updEng s e (fun o => { o with latchNs := if k = 0 ∧ ix = 0 then todNs s * 65536 + todFrac s else o.latchNs })
  match selObject s e k ix with
  | some x => updEng s1 e (fun o => { o with latch := BitVec.ofInt 54 x })
  | none => incF (updEng s1 e (fun o => { o with latch := 0 })) (Reg.UE_DENIED_RD e) 1

/-- Read an input port: the state after it and the word, none for a bad port. -/
def inPort (s : State) (e : Nat) (port : Nat) : Option (State × EWord) :=
  let o := engS s e
  match port with
  | 0x00 => some (s, o.sel)
  | 0x01 => let t := latchObject s e; some (t, (engS t e).latch.extractLsb' 36 18)
  | 0x02 => some (s, o.latch.extractLsb' 18 18)
  | 0x03 => some (s, o.latch.extractLsb' 0 18)
  | 0x04 => some (s, BitVec.ofNat 18 o.ev.toNat)
  | 0x05 => some (updEng s e (fun o => { o with ev := o.ev &&& 0xFB, mboxNew := false }), BitVec.ofNat 18 (getF s (Reg.UE_MBOX_IN e)))
  | 0x06 => some (s, BitVec.ofNat 18 e)
  | 0x07 => some (s, BitVec.ofNat 18 (engCycle s))
  | 0x08 => some (s, BitVec.ofNat 18 ((steerOwner s e).toNat * 2 + getF s Reg.ENG_STEER_STATUS_ACCEPTED))
  | _ => none

/-- IN (R268): a bad port halts the engine; a latching read may take longer. -/
def execUeIn (e : Nat) (d : BitVec 4) (imm : BitVec 8) (s : State) : Host.Outcome State Fault Refusal :=
  engStep e (.i .inp d imm) (fun t =>
    match inPort t e imm.toNat with
    | some r =>
      if imm = 1 then
        let w := draw (setW r.1 e d r.2)
        .slow w.2 (Config.portWait w.1 % 9)
      else .next (setW r.1 e d r.2)
    | none => .fault 2) s

/-- Commit a trim (R272): only the owner's commit is stored. -/
def commitTrim (s : State) (e : Nat) (phase : Bool) (x : EWord) : State :=
  if steerOwner s e then
    let v : BitVec 54 := (if phase then (engS s e).ptStage else (engS s e).ftStage) ++ x
    if phase then { s with engs := { s.engs with ptrim := v.toInt, sinceCommit := 0 } }
    else { s with engs := { s.engs with ftrim := v.toInt, sinceCommit := 0 } }
  else raise s Reg.ENG_EVENTS_STEER_IGNORED

/-- A word into MBOX_OUT: dropped by a full FIFO. -/
def pushMbox (s : State) (e : Nat) (x : EWord) : State :=
  if 16 ≤ (engS s e).mboxOut.length then raise s Reg.ENG_EVENTS_MBOX_OUT_OVR else updEng s e (fun o => { o with mboxOut := o.mboxOut ++ [x] })

/-- Write an output port, none for a bad one. -/
def outPort (s : State) (e : Nat) (port : Nat) (x : EWord) : Option State :=
  match port with
  | 0x80 => some (updEng s e (fun o => { o with sel := x }))
  | 0x81 => some (pushMbox s e x)
  | 0x82 => some (updEng s e (fun o => { o with ftStage := x ++ o.ftStage.extractLsb' 0 18 }))
  | 0x83 => some (updEng s e (fun o => { o with ftStage := o.ftStage.extractLsb' 18 18 ++ x }))
  | 0x84 => some (commitTrim s e false x)
  | 0x85 => some (updEng s e (fun o => { o with ptStage := x ++ o.ptStage.extractLsb' 0 18 }))
  | 0x86 => some (updEng s e (fun o => { o with ptStage := o.ptStage.extractLsb' 18 18 ++ x }))
  | 0x87 => some (commitTrim s e true x)
  | 0x88 => some (updEng s e (fun o => { o with timer := x.toNat }))
  | 0x89 => some (raise (setF (setF s Reg.ENG_IRQ_CODE_ENGINE e) Reg.ENG_IRQ_CODE_CODE x.toNat) Reg.ENG_EVENTS_USER_IRQ)
  | _ => none

/-- OUT to a port. -/
def engOut (e : Nat) (d : BitVec 4) (imm : BitVec 8) (s : State) : Host.Outcome State Fault Refusal :=
  engStep e (.i .outp d imm) (fun t =>
    match outPort t e imm.toNat (uw t e d) with
    | some u => .next u
    | none => .fault 2) s

/-- OUT_SEL. -/
def execUeOutSel (e : Nat) (d : BitVec 4) (s : State) : Host.Outcome State Fault Refusal := engOut e d 0x80 s

/-- OUT_MBOX_OUT. -/
def execUeOutMboxOut (e : Nat) (d : BitVec 4) (s : State) : Host.Outcome State Fault Refusal := engOut e d 0x81 s

/-- OUT_TRIM_STAGE: ports 0x82, 0x83, 0x85 and 0x86; the port stands in the immediate, and a bad one halts. -/
def execUeOutTrimStage (e : Nat) (d : BitVec 4) (imm : BitVec 8) (s : State) : Host.Outcome State Fault Refusal := engOut e d imm s

/-- FTRIM_COMMIT. -/
def execUeFtrimCommit (e : Nat) (d : BitVec 4) (s : State) : Host.Outcome State Fault Refusal := engOut e d 0x84 s

/-- PTRIM_COMMIT. -/
def execUePtrimCommit (e : Nat) (d : BitVec 4) (s : State) : Host.Outcome State Fault Refusal := engOut e d 0x87 s

/-- OUT_TIMER. -/
def execUeOutTimer (e : Nat) (d : BitVec 4) (s : State) : Host.Outcome State Fault Refusal := engOut e d 0x88 s

/-- OUT_IRQ. -/
def execUeOutIrq (e : Nat) (d : BitVec 4) (s : State) : Host.Outcome State Fault Refusal := engOut e d 0x89 s

/-! ### WAIT, MARK, branches -/

/-- WAIT (R267, R270): passes at once when an event of the mask is pending, and clears those events; else it stalls. -/
def execUeWait (e : Nat) (imm : BitVec 8) (s : State) : Host.Outcome State Fault Refusal :=
  engStep e (.i .wait 0 imm) (fun t =>
    if (engS t e).ev &&& imm = 0 then .stall (updEng t e (fun o => { o with wait := some imm, waitAt := engCycle t }))
    else .next (updEng t e (fun o => { o with ev := o.ev &&& ~~~imm }))) s

/-- WAIT_WAKE: an event of the mask is pending; the events clear and WAIT retires. -/
def execWaitWake (e : Nat) (s : State) : Host.Outcome State Fault Refusal :=
  if 16 ≤ e then .fault .noSuchResource
  else
    match (engS s e).wait with
    | none => ok s
    | some m =>
      if !powered s .eng || !engRunning s e || decide ((engS s e).ev &&& m = 0) then ok s
      else
        let k := engCycle s - (engS s e).waitAt
        let pc := (engS s e).pc
        let s1 := perf (perf s 0x02 e pc.toNat 5 k) 0x03 e pc.toNat 0 k
        let s2 := updEng s1 e (fun o => { o with ev := o.ev &&& ~~~m, wait := none })
        ok (retire s2 e (.i .wait 0 m) (3 + k) (pc + 1))

/-- MARK (R271, R281): feeds the watchdog; the time since the same mark goes to the histograms of source ENGINE_LOOP. -/
def execUeMark (e : Nat) (imm : BitVec 8) (s : State) : Host.Outcome State Fault Refusal :=
  engStep e (.i .mark 0 imm) (fun t =>
    let c := engCycle t
    let t1 := match spGet? (engS t e).marks imm.toNat with
      | some m => histOffer t 4 (fun h => decide (getF t (Reg.HIST_HIST_CFG_ENG h) = e) &&
          decide (getF t (Reg.HIST_HIST_CFG_MARK_ID h) = imm.toNat)) ((c - m) * 32)
      | none => t
    .next (updEng t1 e (fun o => { o with marks := spIns o.marks imm.toNat c, sinceMark := 0 }))) s

/-- A branch on a condition over the flags. -/
def branch (e : Nat) (op : JOp) (target : BitVec 12) (cond : UFlags → Bool) (s : State) : Host.Outcome State Fault Refusal :=
  engStep e (.j op target) (fun t => if cond (uflags t e) then .jump t target else .next t) s

/-- J. -/
def execUeJ (e : Nat) (target : BitVec 12) (s : State) : Host.Outcome State Fault Refusal := branch e .j target (fun _ => true) s

/-- BZ. -/
def execUeBz (e : Nat) (target : BitVec 12) (s : State) : Host.Outcome State Fault Refusal := branch e .bz target (fun f => f.z) s

/-- BNZ. -/
def execUeBnz (e : Nat) (target : BitVec 12) (s : State) : Host.Outcome State Fault Refusal := branch e .bnz target (fun f => !f.z) s

/-- BLT. -/
def execUeBlt (e : Nat) (target : BitVec 12) (s : State) : Host.Outcome State Fault Refusal := branch e .blt target (fun f => f.n != f.v) s

/-- BGE. -/
def execUeBge (e : Nat) (target : BitVec 12) (s : State) : Host.Outcome State Fault Refusal := branch e .bge target (fun f => f.n == f.v) s

/-- CALL: with 16 addresses stacked the engine halts with STACK. -/
def execUeCall (e : Nat) (target : BitVec 12) (s : State) : Host.Outcome State Fault Refusal :=
  engStep e (.j .call target) (fun t =>
    if 16 ≤ (engS t e).stack.length then .fault 3
    else .jump (updEng t e (fun o => { o with stack := (o.pc + 1) :: o.stack })) target) s

/-- RET: with no address stacked the engine halts with STACK. -/
def execUeRet (e : Nat) (s : State) : Host.Outcome State Fault Refusal :=
  engStep e (.r .ret 0 0 0) (fun t =>
    match (engS t e).stack with
    | [] => .fault 3
    | p :: _ => .jump (updEng t e (fun o => { o with stack := o.stack.drop 1 })) p) s

/-- HALT. -/
def execUeHalt (e : Nat) (s : State) : Host.Outcome State Fault Refusal := engStep e (.r .halt 0 0 0) (fun _ => .halt) s

/-! ### Timers and time-outs -/

/-- ENGINE_TIMER_EXPIRY (R268, R270): in the last millisecond of the timer, which the millisecond boundaries count down. -/
def execEngineTimerExpiry (e : Nat) (s : State) : Host.Outcome State Fault Refusal :=
  if 16 ≤ e then .fault .noSuchResource
  else if (engS s e).timer ≠ 1 then ok s
  else ok (updEng s e (fun o => { o with timer := 0, ev := o.ev ||| 0x10 }))

/-- USER_WATCHDOG_EXPIRY (R271): WDT_MS millisecond boundaries without a MARK. -/
def execUserWatchdogExpiry (e : Nat) (s : State) : Host.Outcome State Fault Refusal :=
  if e < 12 ∨ 16 ≤ e then .fault .noSuchResource
  else if engRunning s e && decide (getF s (Reg.UE_ENG_CFG_WDT_MS e) ≠ 0) && decide (getF s (Reg.UE_ENG_CFG_WDT_MS e) ≤ (engS s e).sinceMark) then
    ok (engHalt s e 4)
  else ok s

/-- STEER_TIMEOUT (R274): TMO_MS millisecond boundaries without a commit of the owner; the count starts afresh. -/
def execSteerTimeout (s : State) : Host.Outcome State Fault Refusal :=
  if powered s .eng && decide (4 ≤ getF s Reg.ENG_STEER_CFG_OWNER) && decide (getF s Reg.ENG_STEER_CFG_TMO_MS ≤ s.engs.sinceCommit) then
    ok (raise { clearTrims s with engs := { (clearTrims s).engs with sinceCommit := 0 } } Reg.ENG_EVENTS_STEER_TIMEOUT)
  else ok s

/-- COUNTER_WRAP (R280): counter n counts the events up to its wrap. -/
def execCounterWrap (n : Nat) (s : State) : Host.Outcome State Fault Refusal :=
  if 128 ≤ n then .fault .noSuchResource
  else if getB s Reg.PERF_PERF_CTRL_FREEZE || cntErr s n || decide (getF s (Reg.CNT_CNT_CFG_EVENT n) = 0) || !powered s .eng then ok s
  else ok (cntAdd s n (2 ^ 48 - getHL s (Reg.CNT_VALUE_HI n) (Reg.CNT_VALUE_LO n)))

/-- A host write to MBOX_IN (R270): event bit 2; a second write before the engine reads sets MBOX_IN_OVR. -/
def mboxWrite (s : State) (e : Nat) : State :=
  if e < 12 then s
  else raiseIf (engS s e).mboxNew (updEng s e (fun o => { o with ev := o.ev ||| 4, mboxNew := true })) Reg.ENG_EVENTS_MBOX_IN_OVR

/-- A read of MBOX_OUT pops its head (R268). -/
def mboxPop (s : State) (e : Nat) : State := updEng s e (fun o => { o with mboxOut := o.mboxOut.drop 1 })

/-- UE1 to UE15 lose power in KEEP (R265, R335): stopped, RAMs zero; user engines show LOST. -/
def engsOff (s : State) : State :=
  let s1 := { s with engs := { s.engs with eng := (List.range 16).map (fun e => if e = 0 then engS s e else {}) } }
  (List.range 16).foldl (fun t e =>
    if e = 0 then t
    else
      let t1 := setF (setF (setF t (Reg.UE_ENG_STATUS_RUNNING e) 0) (Reg.UE_ENG_STATUS_HALTED e) 0) (Reg.UE_ENG_STATUS_CAUSE e) 0
      if 12 ≤ e then setF t1 (Reg.UE_ENG_STATUS_LOST e) 1 else t1)
    (if decide (4 ≤ getF s Reg.ENG_STEER_CFG_OWNER) then clearTrims s1 else s1)

/-- An instruction by its opcode: what the fetched word of an engine makes it do (R266, R267). -/
def engExec (e : Nat) (i : UInstr) (s : State) : Host.Outcome State Fault Refusal :=
  match i with
  | .r .nop _ _ _ => execEngineNop e s
  | .r .add d a b => execUeAdd e d a b s
  | .r .sub d a b => execUeSub e d a b s
  | .r .adds d a b => execUeAdds e d a b s
  | .r .subs d a b => execUeSubs e d a b s
  | .r .and d a b => execUeAnd e d a b s
  | .r .or d a b => execUeOr e d a b s
  | .r .xor d a b => execUeXor e d a b s
  | .r .shl d a b => execUeShl e d a b s
  | .r .shr d a b => execUeShr e d a b s
  | .r .sar d a b => execUeSar e d a b s
  | .r .cmp d a b => execUeCmp e d a b s
  | .r .mul d a b => execUeMul e d a b s
  | .r .mac d a b => execUeMac e d a b s
  | .r .msu d a b => execUeMsu e d a b s
  | .r .mulu d a b => execUeMulu e d a b s
  | .r .macu d a b => execUeMacu e d a b s
  | .r .accx d a b => execUeAccx e d a b s
  | .r .accl d a b => execUeAccl e d a b s
  | .r .asra d a b => execUeAsra e d a b s
  | .r .acca d a b => execUeAcca e d a b s
  | .r .ld d a b => execUeLd e d a b s
  | .r .st d a b => execUeSt e d a b s
  | .r .ret _ _ _ => execUeRet e s
  | .r .halt _ _ _ => execUeHalt e s
  | .i .ldi d k => execUeLdi e d k s
  | .i .lim d k => execUeLim e d k s
  | .i .lit d k => execUeLit e d k s
  | .i .addi d k => execUeAddi e d k s
  | .i .shli d k => execUeShli e d k s
  | .i .sari d k => execUeSari e d k s
  | .i .inp d k => execUeIn e d k s
  | .i .outp d k => engOut e d k s
  | .i .wait _ k => execUeWait e k s
  | .i .mark _ k => execUeMark e k s
  | .j .j t => execUeJ e t s
  | .j .bz t => execUeBz e t s
  | .j .bnz t => execUeBnz e t s
  | .j .blt t => execUeBlt e t s
  | .j .bge t => execUeBge e t s
  | .j .call t => execUeCall e t s

/-! ### Commands (R275, R278) -/

/-- ENG_LOAD. -/
def cmdEngLoad (s : State) (ws : List Word) : CmdOut :=
  let e := parF ws 0 16 4
  let start := parF ws 0 0 13
  let data := parF ws 0 31 1 = 1
  let vs := (ws.drop 1).map (fun w => w.setWidth 18)
  if e < 12 then deny s .denied
  else if (if data then 8192 else 4096) < start + vs.length then deny s .badParam
  else if engRunning s e then deny s .busy
  else
    done (setF (updEng s e (fun o => if data then { o with dram := memPutList o.dram start vs } else { o with iram := memPutList o.iram start vs }))
      (Reg.UE_ENG_STATUS_LOST e) 0)

/-- Engines of a mask in [15:12]. -/
def maskEngs (w : Word) : List Nat := [12, 13, 14, 15].filter (fun e => decide (fieldOf w e 1 = 1))

/-- An engine starts at an address: W, A, flags, stack, events and trims cleared, data RAM kept. -/
def startEng (start : BitVec 12) (s : State) (e : Nat) : State :=
  let s1 := if steerOwner s e then clearTrims s else s
  let s2 := updEng s1 e (fun o => { o with
    w := List.replicate 16 0, a0 := 0, a1 := 0, z := false, n := false, c := false, v := false, stack := [], ev := 0, ftStage := 0, ptStage := 0
    pc := start, wait := none, sinceMark := 0, marks := [] })
  setF (setF (setF (setF s2 (Reg.UE_ENG_STATUS_RUNNING e) 1) (Reg.UE_ENG_STATUS_HALTED e) 0) (Reg.UE_ENG_STATUS_CAUSE e) 0) (Reg.UE_ENG_STATUS_LOST e) 0

/-- ENG_START. -/
def cmdEngStart (s : State) (ws : List Word) : CmdOut :=
  let l := maskEngs (par ws 0)
  if l = [] then deny s .badParam
  else if l.any (engRunning s) then deny s .busy
  else done (l.foldl (startEng ((par ws 0).setWidth 12)) s)

/-- An engine stops: a WAIT is abandoned; the owner's trims become zero. -/
def stopEng (s : State) (e : Nat) : State :=
  if engRunning s e then
    let s1 := setF (updEng s e (fun o => { o with wait := none })) (Reg.UE_ENG_STATUS_RUNNING e) 0
    if steerOwner s e then clearTrims s1 else s1
  else s

/-- ENG_STOP. -/
def cmdEngStop (s : State) (ws : List Word) : CmdOut :=
  if parF ws 0 0 12 ≠ 0 then deny s .denied
  else if maskEngs (par ws 0) = [] then deny s .badParam
  else done ((maskEngs (par ws 0)).foldl stopEng s)

/-- ENG_READ. -/
def cmdEngRead (s : State) (ws : List Word) : CmdOut :=
  let e := parF ws 0 16 4
  let start := parF ws 0 0 13
  let n := parF ws 0 21 9
  let data := parF ws 0 31 1 = 1
  if e < 12 then deny s .denied
  else if n = 0 ∨ (if data then 8192 else 4096) < start + n then deny s .badParam
  else answer s ((memGetList (if data then (engS s e).dram else (engS s e).iram) start n).map (fun w => w.setWidth 32))

/-- SAMPLE_READ: the first entry read carries LOST if entries were lost since the previous one. -/
def cmdSampleRead (s : State) (ws : List Word) : CmdOut :=
  let n := parF ws 0 0 8
  if n = 0 ∨ 128 < n then deny s .badParam
  else
    let l := s.engs.buf.take n
    let mark := if s.engs.lost then (match l with
      | [] => l
      | x :: r => (match x with | w :: ws => ((w ||| 0x20000000) :: ws) :: r | [] => l)) else l
    answer { s with engs := { s.engs with buf := s.engs.buf.drop n, lost := s.engs.lost && decide (l = []) } } mark.flatten

end Sys2Proof.Machine
end

