-- ==== Sys2Proof/Machine/Bus.lean ====
section
/-! DEFINITION. The register bus (chapter 16): decoding and aliasing (R319 to R321), reads and writes by field class (R322 to R330),
what a write to a register starts, and the commands that access registers, the debug ports among them (R342). -/

namespace Sys2Proof.Machine

/-! ### Decoding (R319 to R321) -/

/-- Address as issued: 24 bits, whole words. -/
def issuedAddr (a : Nat) : Nat := a % 2 ^ 24 / 4 * 4

/-- Block and offset in its image (R320), none for an unassigned block. -/
def decodeAddr (a : Nat) : Option (Nat × Nat) :=
  let b := bits a 16 5
  if 0x10 < b then none else some (b, 4 * bits a 2 (if b = 0x0C then 13 else 12))

/-- The offset is listed as a register (R321). -/
def isListed (b off : Nat) : Bool :=
  decide (fieldsAt (b * 65536 + off) ≠ []) || (decide (b = 15) && decide (0x1000 ≤ off) && decide (off ≤ 0x307C))

/-- The offset is listed as reserved (R321). -/
def isReserved (b off : Nat) : Bool :=
  match locate b off with
  | none => false
  | some (g, n, o) =>
    decide (o ∈ g.reserved) ||
    match g with
    | .sys => decide (0x4C ≤ off)
    | .outw => decide (0x44 ≤ o)
    | .port => (decide (0x48 ≤ o) && decide (o ≤ 0x7C)) || decide (0xA0 ≤ o) || (decide (n < 32) && decide (o = 0x9C))
    | .link => (decide (0x30 ≤ o) && decide (o ≤ 0x7C)) || decide (0xC0 ≤ o)
    | .aud => decide (0x3080 ≤ off)
    | _ => false

/-- The register an access to offset `off` of block `b` reaches (R321): none is a reserved or unlisted offset. -/
def reached (b off : Nat) : Option Nat :=
  if isListed b off then some (b * 65536 + off)
  else if isReserved b off then none
  else if isListed b (off % 256) then some (b * 65536 + off % 256)
  else none

/-- An access to an unassigned block, or a write with incomplete byte enables (R321). -/
def badAddr (s : State) : State := raise (incF s Reg.SYS_BAD_ADDR 1) Reg.SYS_EVENTS_BAD_ADDR_SEEN

/-! ### Reads -/

/-- Clear every COR field of the register at an address (R322). -/
def corClear (s : State) (a : Nat) : State :=
  let cor := (fieldsAt a).filter (fun f => f.cls = .cor)
  if cor = [] then s else setWord s a (cor.foldl (fun w f => insField w f.lo f.w 0) (regWord s a))

/-- Side effects of reading the register at an address: COR fields clear; RESULT_3 pops its result (R244), MBOX_OUT its word (R268). -/
def readEffect (s : State) (a : Nat) : State :=
  let s1 := corClear s a
  match locate (a / 65536) (a % 65536) with
  | some (.ga, n, 0x20) => (popResult s1 n).1
  | some (.ue, n, 0x0C) => mboxPop s1 n
  | _ => s1

/-- What a read of the register at an address returns: MASKED masks read zero, an unpowered block reads zero (R323, R330). -/
def readWord (s : State) (a : Nat) : Word :=
  if !powered s (addrDomain a) then 0 else if a = 0x24 then viewWord s a &&& 0xFFFF else viewWord s a

/-- A register read by requester `req` (R319 to R322, R330). -/
def busRead (s : State) (req a : Nat) : State × Word :=
  match decodeAddr a with
  | none => (badAddr (perf s 0x20 req (issuedAddr a) 0 1), 0)
  | some (b, off) =>
    match reached b off with
    | none => (perf s 0x20 req (issuedAddr a) 0 1, 0)
    | some r =>
      let s1 := perf s 0x20 req r 0 1
      if powered s (addrDomain r) then (readEffect s1 r, readWord s1 r) else (s1, 0)

/-! ### Values wider than a word (R327) -/

/-- Offsets of the words of a value wider than a word, most significant first. -/
def wideOffsets (g : Grp) (o : Nat) : List Nat :=
  let sets : List (List Nat) := match g with
    | .clk => [[0x20, 0x24]]
    | .time => [[0x10, 0x14]]
    | .outw => [[0x08, 0x0C, 0x10, 0x14], [0x18, 0x1C, 0x20], [0x24, 0x28], [0x2C, 0x30]]
    | .cnt => [[0x0C, 0x10]]
    | .hist => [[0x18, 0x1C]]
    | .fport => if 0x10 ≤ o then [[o / 8 * 8, o / 8 * 8 + 4]] else []
    | _ => []
  (sets.find? (fun l => o ∈ l)).getD []

/-- The upper words of the wide value whose least significant word lies at an address. -/
def upperAddrs (a : Nat) : List Nat :=
  match locate (a / 65536) (a % 65536) with
  | none => []
  | some (g, _, o) => let l := wideOffsets g o; if l.getLast? = some o then l.dropLast.map (fun x => a + x - o) else []

/-- The address holds an upper word, which a write only stages. -/
def isUpper (a : Nat) : Bool :=
  match locate (a / 65536) (a % 65536) with
  | none => false
  | some (g, _, o) => let l := wideOffsets g o; decide (l ≠ []) && decide (l.getLast? ≠ some o)

/-! ### Fields -/

/-- A field's value as stored for a written one. -/
def normField (f : FieldDef) (x : Nat) : Nat :=
  match f.norm with
  | .any => x
  | .min1 => max 1 x
  | .clamp lo hi => clampNat lo hi x
  | .sclamp lo hi => twos f.w (clampInt lo hi (sext f.w x))

/-- Whether a write stores into a field, the unlock or the one write allowing it. A host write leaves an HWV field as it is, FROM_TABLE of an EQ
register among them (DESIGN CHOICE, log entry 141: the manual does not say that it clears). -/
def storesField (c : Cls) (allowed : Bool) : Bool :=
  match c with
  | .ctrl | .cnt => true
  | .guard | .once => allowed
  | _ => false

/-- The word of a register after a write of `v` to its bank word `w` (R322, R323, R325). -/
def writtenWord (fs : List FieldDef) (allowed : Bool) (w v : Word) : Word :=
  fs.foldl (fun acc f =>
    if f.cls = .masked then
      if f.lo = 0 then
        let m := fieldOf v 16 16
        insField acc 0 16 (Nat.lor (Nat.land (fieldOf v 0 16) m) (Nat.land (fieldOf w 0 16) (65535 - m)))
      else acc
    else if storesField f.cls allowed then insField acc f.lo f.w (normField f (fieldOf v f.lo f.w))
    else acc) w

/-- Has the register a field of a class. -/
def hasCls (fs : List FieldDef) (c : Cls) : Bool := fs.any (fun f => f.cls = c)

/-- A write to it is audited (R330). -/
def auditedFields (fs : List FieldDef) : Bool :=
  fs.any (fun f => match f.cls with | .ctrl | .masked | .guard | .once | .cnt | .go => true | _ => false)

/-- Limits that span words: taps of OUT_ALIGN_OFS and OUT_PSTEP, the least period (R72, R74, R75); FB_LO not above FB_HI (R191). -/
def normWide (s : State) (g : Grp) (n o : Nat) : State :=
  let lim : Int := 640000000000
  let taps := fun (hi lo : Fld) => let x := sext 41 (getHL s hi lo); setHL s hi lo (clampInt (-lim) lim x)
  match g, o with
  | .outw, 0x28 => taps (Reg.OUT_OUT_ALIGN_OFS_HI n) (Reg.OUT_OUT_ALIGN_OFS_LO n)
  | .outw, 0x30 => taps (Reg.OUT_OUT_PSTEP_HI n) (Reg.OUT_OUT_PSTEP_LO n)
  | .outw, 0x20 => normPer s n
  | .queue, 0x4 => setF s (Reg.Q_Q_FB_LO n) (min (getF s (Reg.Q_Q_FB_LO n)) (getF s (Reg.Q_Q_FB_HI n)))
  | _, _ => s

/-- Store a write into the bank: an upper word is staged, a least significant word applies the whole value at once (R327). -/
def storeWrite (s : State) (a : Nat) (allowed : Bool) (v : Word) : State :=
  let fs := fieldsAt a
  if isUpper a then
    if hasCls fs .guard && !allowed then s
    else { s with staged := spIns s.staged a v }
  else if hasCls fs .guard && !allowed then setWord s a (writtenWord fs allowed (regWord s a) v)
  else
    let up := upperAddrs a
    let s1 := up.foldl (fun t u => match spGet? t.staged u with
      | some x => { setWord t u (writtenWord (fieldsAt u) allowed (regWord t u) x) with staged := spDel t.staged u }
      | none => t) s
    let s2 := setWord s1 a (writtenWord fs allowed (regWord s1 a) v)
    match locate (a / 65536) (a % 65536) with
    | some (g, n, o) => normWide s2 g n o
    | none => s2

/-! ### What a write starts -/

/-- APPLY of a spreadable PLL (R51, R53): a relock with the staged settings; in an unpowered domain it is held. -/
def pllApply (s : State) (hbm : Bool) : State :=
  let s1 := setF s (pllFlds hbm).1 1
  if powered s (if hbm then .hbm else .fab) then pllStart s1 hbm else s1

/-- RETURN of DLL n (R57): held in bypass, nothing otherwise. -/
def dllReturn (s : State) (n : Nat) : State :=
  if getB s (Reg.DLL_STAT_BYPASS n) then setF s (Reg.DLL_CFG_RETURN n) 1 else s

/-- EN = 1 resumes an output at its first scheduled edge at least 256 ns ahead; a ONCE target nearer than that is missed (R72, R68). -/
def outEnable (s : State) (n : Nat) : State :=
  let o := outS s n
  let vis5 : Int := 5 * (todVis s : Int)
  let d := cmpDiff o.next (todVis s)
  if !outScheduled s n || decide (leadFifths ≤ d) then s
  else if n < 6 || o.periodic then
    updOut s n (fun o => { o with next := wrapNext (gridFrom (vis5 + d) (outPeriod s n) (vis5 + leadFifths)), fired := false, opened := none })
  else outMiss s n

/-- A write of OUT_CTRL (R72): EN, then ARM for a timed output. -/
def outCtrl (s0 s : State) (n : Nat) (v : Word) : State :=
  let s1 := if !getB s0 (Reg.OUT_OUT_CTRL_EN n) && getB s (Reg.OUT_OUT_CTRL_EN n) then outEnable s n else s
  if fieldOf v 4 1 = 1 ∧ 6 ≤ n then outArm s1 n else s1

/-- A write of NOMINAL_LO (R45, R47, R65): under NUMERIC the root's own word ramps from where it is; in the modes that hold NOMINAL it is
the new request. -/
def nominalWrite (s0 s : State) (allowed : Bool) : State :=
  if !allowed then s
  else
    let s1 := { s with clk := { s.clk with rootPos := cwRound s.clk.rootPos (rootTarget s0) * cwUnit } }
    if holdsNominal s1 then requestWord s1 (nominal s1) else s1

/-- Taps of OUT_PSTEP (R75). -/
def pstepTaps (s : State) (n : Nat) : Int := sext 41 (getHL s (Reg.OUT_OUT_PSTEP_HI n) (Reg.OUT_OUT_PSTEP_LO n))

/-- A write of OUT_ALIGN_OFS: the provisional grid moves at the output's period boundary (R74, R59). -/
def alignOfsWrite (s : State) (n : Nat) : State :=
  if n < 6 ∧ outScheduled s n = true ∧ !getB s Reg.TIME_STATUS_FIRST_ALIGNED then holdChange s n .grid else s

/-- A write of SLOT_CFG (R113, R121): a changed source restarts the slot; slots that come into error lose qualification; a changed
LOCKOUT is evaluated at once. -/
def slotWrite (s0 s : State) (n : Nat) : State :=
  if slotEn s0 n = slotEn s n ∧ slotType s0 n = slotType s n ∧ slotIndex s0 n = slotIndex s n then
    (if getF s0 (Reg.SLOT_SLOT_CFG_LOCKOUT n) = getF s (Reg.SLOT_SLOT_CFG_LOCKOUT n) then slopeWatch s else reselect s)
  else
    let s1 := loseSlots s (slotNos.filter (fun m => decide (m ≠ n) && slotErr s m && slotQual s m))
    slotRestart s1 n

/-- A write of PHY_CFG (R206, R207, R209, R226): a changed rate or FEC, or EN cleared, takes the port down and its lane out of lock, a changed rate
also starts the lane, with the equalisation written; TX_SQUELCH takes the port down. -/
def phyWrite (s0 s : State) (p : Nat) : State :=
  let ch := fun (f : Fld) => decide (p < 32) && decide (getF s0 f ≠ getF s f)
  let en := getB s0 (Reg.PORT_PHY_CFG_EN p) && !getB s (Reg.PORT_PHY_CFG_EN p)
  let s1 := if ch (Reg.PORT_PHY_CFG_RATE p) then updPort s p (fun o => { o with eq0 := regWord s (portBase p + 0x98) }) else s
  if en || ch (Reg.PORT_PHY_CFG_RATE p) || ch (Reg.PORT_PHY_CFG_FEC p) then cdrLose (portDown s1 p false) p
  else if getB s (Reg.PORT_PHY_CFG_TX_SQUELCH p) then portDown s1 p false
  else s1

/-- A write of TT_CTRL (R86, R93, R110): DDMTD_EN stops the phase words, or starts them with a fresh group of beats; a cleared L1SYNC_EN ends the
L1Sync exchange. -/
def ttWrite (s0 s : State) (p : Nat) : State :=
  let on := getB s (Reg.PORT_TT_CTRL_DDMTD_EN p)
  let s1 := if on = getB s0 (Reg.PORT_TT_CTRL_DDMTD_EN p) then s
    else if on then updPort (phaseClean s p) p (fun o => { o with groupAt := s.now })
    else phaseLose s p
  if getB s (Reg.PORT_TT_CTRL_L1SYNC_EN p) then s1 else setF s1 (Reg.PORT_TT_STATUS_L1SYNC_UP p) 0

/-- A write of READY_PS (R162): MIRROR_OFS is in range from now on, or no longer. -/
def readyRange (s : State) : State :=
  let far := decide (getF s Reg.PAIR_PAIR_CFG_READY_PS * 65536 < (getS s Reg.PAIR_MIRROR_OFS).natAbs * 1000)
  { s with pair := { s.pair with okSince := if far || s.mode ≠ .standby then none else some (s.pair.okSince.getD s.now) } }

/-- A write of LINK_CFG (R139, R155). -/
def linkWrite (s0 s : State) (n : Nat) (v : Word) : State :=
  let role := getF s (Reg.LINK_LINK_CFG_ROLE n)
  let s1 := setLinkRole (setF s (Reg.LINK_LINK_CFG_ROLE n) (getF s0 (Reg.LINK_LINK_CFG_ROLE n))) n role
  if fieldOf v 2 1 = 1 then retrainLink (setF s1 (Reg.LINK_LINK_CFG_RETRAIN n) 1) n else s1

/-- Engine that STEER_CFG.OWNER names; 0 is none (R284). -/
def ownerOf (s : State) : Nat := if 4 ≤ getF s Reg.ENG_STEER_CFG_OWNER then getF s Reg.ENG_STEER_CFG_OWNER else 0

/-- CLR of histogram h (R282). -/
def histClear (s : State) (h : Nat) : State :=
  let s1 := (List.range 32).foldl (fun t k => setF t (Reg.HIST_BIN h k) 0) s
  setF (setF (setHL s1 (Reg.HIST_COUNT_HI h) (Reg.HIST_COUNT_LO h) 0) (Reg.HIST_MIN h) (2 ^ 32 - 1)) (Reg.HIST_MAX h) 0

/-- SVN_SET (R348): a value above the floor and not above the running image's raises the floor. -/
def svnWrite (s : State) (x : Nat) : State :=
  if s.otp.svnFloor < x ∧ x ≤ getF s Reg.SEC_BOOT_INFO_SVN_RUN then { s with otp := { s.otp with svnFloor := x } } else s

/-- KEY_REVOKE of slot k (R348): not the running slot, not the last unrevoked one. -/
def revokeSlot (s : State) (k : Nat) : State :=
  let left := (List.range 4).filter (fun j => decide (bits s.otp.revoked.toNat j 1 = 0))
  if k = getF s Reg.SEC_BOOT_INFO_KEY_SLOT_RUN ∨ left = [k] then s
  else { s with otp := { s.otp with revoked := s.otp.revoked ||| BitVec.ofNat 4 (2 ^ k) } }

/-- What a write of `v` to the register of window `n` at offset `o` of group `g` starts; `s0` is the state before, `s` after the store;
`allowed` tells that GUARD fields took the write. -/
def writeEffect (s0 s : State) (g : Grp) (n o : Nat) (allowed : Bool) (v : Word) : State :=
  match g, o with
  | .sys, 0x18 => setB s Reg.SYS_UNLOCK_ARMED (decide (fieldOf v 0 16 = 0x7A3C))
  | .sys, 0x24 => msixEdges (intActive s0) s
  | .sys, 0x34 => { s with boardSet := true }
  | .clk, 0x24 => nominalWrite s0 s allowed
  | .clk, 0x40 => if fieldOf v 7 1 = 1 then pllApply s false else s
  | .clk, 0x44 => if fieldOf v 7 1 = 1 then pllApply s true else s
  | .dll, 0x0 => if fieldOf v 1 1 = 1 then dllReturn s n else s
  | .time, 0x2C => if getF s0 Reg.TIME_WEIR_RATE = getF s Reg.TIME_WEIR_RATE then s else { s with tim := { s.tim with weirAcc := 0 } }
  | .outw, 0x0 => outCtrl s0 s n v
  | .outw, 0x28 => alignOfsWrite s n
  | .outw, 0x30 => holdChange s n (.pstep (pstepTaps s n))
  | .slot, 0x0 => slotWrite s0 s n
  | .port, 0x0 => ttWrite s0 s n
  | .port, 0x80 => phyWrite s0 s n
  | .link, 0x0 => linkWrite s0 s n v
  | .pair, 0x0 => readyRange s
  | .fport, 0x0 => if getB s (Reg.FP_SW_CFG_PREEMPT_EN n) then s else setF s (Reg.FP_SW_STATUS_PREEMPT_ACTIVE n) 0
  | .eng, 0x0 => if ownerOf s0 = ownerOf s then s else { clearTrims s with engs := { (clearTrims s).engs with sinceCommit := 0 } }
  | .ue, 0x08 => mboxWrite s n
  | .perf, 0x4 => sampleRestart (if fieldOf v 28 1 = 1 then sampleReset s else s)
  | .perf, 0x8 => sampleRestart s
  | .perf, 0xC => sampleRestart s
  | .perf, 0x10 => sampleRestart s
  | .hist, 0x14 => if fieldOf v 0 1 = 1 then histClear s n else s
  | .sec, 0x1C => if allowed then svnWrite s (fieldOf v 0 6) else s
  | .sec, 0x20 => if allowed then (List.range 4).foldl (fun t k => if fieldOf v k 1 = 1 then revokeSlot t k else t) s else s
  | .aud, 0x0 => raiseIf (auditFull s && !auditFull s0) s Reg.AUD_EVENTS_HOLD_FULL
  | _, _ => s

/-! ### Writes -/

/-- How a register write ends (R315). -/
inductive WrEnd where
  | done | dropped | locked
  deriving DecidableEq, Repr

/-- A write is dropped (R330, R352). -/
def dropWrite (s : State) (full : Bool) : State :=
  raise (incF (if full then incF s Reg.AUD_REFUSED 1 else s) Reg.SYS_WR_DROP 1) Reg.SYS_EVENTS_WR_DROPPED

/-- The audit entry of a write: of kind register write, or of kind debug write through the internal access port (R342, R350). -/
def auditWrite (s : State) (dbg rej : Bool) (req a iss : Nat) (old new : Word) : State :=
  if dbg then audit s 3 rej (a ≠ iss) 0x22 1 (BitVec.ofNat 32 a) old new
  else audit s 0 rej (a ≠ iss) req (BitVec.ofNat 32 a) (BitVec.ofNat 32 iss) old new

/-- A write that reaches the register at `a` (R322 to R327, R330): the unlock is consumed, fields take the write by their class, a
rejection is recorded, the entry is made, and what the write starts happens. -/
def writeReg (s : State) (dbg : Bool) (req a iss : Nat) (v : Word) : State × WrEnd :=
  let fs := fieldsAt a
  if hasCls fs .masked && decide (fieldOf v 16 16 = 0) then (s, .done)
  else
    let guarded := hasCls fs .guard
    let armed := getB s Reg.SYS_UNLOCK_ARMED
    let onceBad := hasCls fs .once && s.boardSet
    let bad := (guarded && !armed) || onceBad
    let s1 := if guarded then setF s Reg.SYS_UNLOCK_ARMED 0 else s
    let old := readWord s1 a
    let new := if bad || isUpper a then v else readWord (storeWrite s1 a true v) a
    let s2 := if auditedFields fs || dbg then auditWrite s1 dbg bad req a iss old new else s1
    let s3 := storeWrite s2 a (!bad) v
    let s4 := if isUpper a || onceBad then s3
      else match locate (a / 65536) (a % 65536) with
        | some (g, n, o) => writeEffect s2 s3 g n o (!bad) v
        | none => s3
    if bad then
      (raise (setF s4 Reg.SYS_VIOL_ADDR a) (if onceBad then Reg.SYS_EVENTS_ONCE_VIOL else Reg.SYS_EVENTS_GUARD_VIOL), .locked)
    else (s4, .done)

/-- A register write by requester `req` (R321, R330): decoding and byte enables first, then the drops, then the register. `bar0` tells
a BAR0 write, `dbg` one through the internal access port. -/
def busWrite (s00 : State) (bar0 dbg : Bool) (req a be : Nat) (v : Word) : State × WrEnd :=
  match decodeAddr a with
  | none => (badAddr (perf (perf s00 0x21 req (issuedAddr a) 0 1) 0x22 req (issuedAddr a) 0 1), .done)
  | some (b, off) =>
    let r := reached b off
    let at_ := r.getD (issuedAddr a)
    let s := perf s00 0x21 req at_ 0 1
    let ign := perf s 0x22 req at_ 0 1
    let full := auditFull s && (bar0 || dbg)
    if be ≠ 15 then (badAddr ign, .done)
    else if (bar0 && (decide (s.mode = .boot) || decide (s.mode = .fault))) || full || !powered s (addrDomain (b * 65536 + off)) then
      (dropWrite ign full, .dropped)
    else
      match r with
      | none => (ign, .done)
      | some k =>
        if auditedFields (fieldsAt k) then writeReg s dbg req k (issuedAddr a) v
        else if dbg then writeReg ign dbg req k (issuedAddr a) v
        else (ign, .done)

/-- A BAR0 write (R319, R329, R37): with the PCI Express endpoint down there is none. -/
def bar0Write (addr be : Nat) (v : Word) (s : State) : Host.Outcome State Fault Refusal :=
  if s.pcieUp then ok (busWrite s true false 0x14 addr be v).1 else ok s

/-- A BAR0 read (R319, R328): the word is returned at the boundary. -/
def bar0Read (addr : Nat) (s : State) : Host.Outcome State Fault Refusal :=
  if s.pcieUp then ok (emit (busRead s 0x14 addr).1 (.read (issuedAddr addr) (busRead s 0x14 addr).2)) else ok s

/-! ### Commands -/

/-- REGISTER_WRITE (R322): any BAR0 write. -/
def execRegisterWrite (addr be : Nat) (v : Word) (s : State) : Host.Outcome State Fault Refusal := bar0Write addr be v s

/-- COR_READ (R322): any BAR0 read. -/
def execCorRead (addr : Nat) (s : State) : Host.Outcome State Fault Refusal := bar0Read addr s

/-- UNLOCK (R324). -/
def execUnlock (v : Word) (s : State) : Host.Outcome State Fault Refusal := bar0Write Reg.SYS_UNLOCK_KEY.addr 15 v s

/-- NOMINAL_LO_WRITE (R45, R327). -/
def execNominalLoWrite (v : Word) (s : State) : Host.Outcome State Fault Refusal := bar0Write Reg.CLK_NOMINAL_LO.addr 15 v s

/-- INC_LO_WRITE (R64). -/
def execIncLoWrite (v : Word) (s : State) : Host.Outcome State Fault Refusal := bar0Write Reg.TIME_INC_LO.addr 15 v s

/-- OUT_PSTEP_LO_WRITE (R75). -/
def execOutPstepLoWrite (n : Nat) (v : Word) (s : State) : Host.Outcome State Fault Refusal :=
  if 14 ≤ n then .fault .noSuchResource else bar0Write (Reg.OUT_OUT_PSTEP_LO n).addr 15 v s

/-- APPLY (R51). -/
def execApplyWrite (hbm : Bool) (v : Word) (s : State) : Host.Outcome State Fault Refusal := bar0Write (pllFlds hbm).1.addr 15 v s

/-- RETURN (R57). -/
def execReturnWrite (n : Nat) (v : Word) (s : State) : Host.Outcome State Fault Refusal :=
  if 20 ≤ n then .fault .noSuchResource else bar0Write (Reg.DLL_CFG_RETURN n).addr 15 v s

/-- ARM (R72). -/
def execArmWrite (n : Nat) (v : Word) (s : State) : Host.Outcome State Fault Refusal :=
  if 14 ≤ n then .fault .noSuchResource else bar0Write (Reg.OUT_OUT_CTRL_ARM n).addr 15 v s

/-- OUT_EN_WRITE (R72). -/
def execOutEnWrite (n : Nat) (v : Word) (s : State) : Host.Outcome State Fault Refusal :=
  if 14 ≤ n then .fault .noSuchResource else bar0Write (Reg.OUT_OUT_CTRL_EN n).addr 15 v s

/-- RETRAIN (R155). -/
def execRetrain (n : Nat) (v : Word) (s : State) : Host.Outcome State Fault Refusal :=
  if 6 ≤ n then .fault .noSuchResource else bar0Write (Reg.LINK_LINK_CFG_RETRAIN n).addr 15 v s

/-- LINK_ROLE_WRITE (R139). -/
def execLinkRoleWrite (n : Nat) (v : Word) (s : State) : Host.Outcome State Fault Refusal :=
  if 6 ≤ n then .fault .noSuchResource else bar0Write (Reg.LINK_LINK_CFG_ROLE n).addr 15 v s

/-- SLOT_CFG_WRITE (R113). -/
def execSlotCfgWrite (n : Nat) (v : Word) (s : State) : Host.Outcome State Fault Refusal :=
  if 8 ≤ n then .fault .noSuchResource else bar0Write (Reg.SLOT_SLOT_CFG_EN n).addr 15 v s

/-- PHY_CFG_WRITE (R206). -/
def execPhyCfgWrite (p : Nat) (v : Word) (s : State) : Host.Outcome State Fault Refusal :=
  if 36 ≤ p then .fault .noSuchResource else bar0Write (Reg.PORT_PHY_CFG_EN p).addr 15 v s

/-- MBOX_IN_WRITE (R270). -/
def execMboxInWrite (e : Nat) (v : Word) (s : State) : Host.Outcome State Fault Refusal :=
  if 16 ≤ e then .fault .noSuchResource else bar0Write (0xB0108 + 0x20 * e) 15 v s

/-- MBOX_OUT_READ (R268). -/
def execMboxOutRead (e : Nat) (s : State) : Host.Outcome State Fault Refusal :=
  if 16 ≤ e then .fault .noSuchResource else bar0Read (0xB010C + 0x20 * e) s

/-- RESULT_3_READ (R244). -/
def execResult3Read (n : Nat) (s : State) : Host.Outcome State Fault Refusal :=
  if 12 ≤ n then .fault .noSuchResource else bar0Read (0x90120 + 0x40 * n) s

/-- SVN_SET (R348). -/
def execSvnSet (v : Word) (s : State) : Host.Outcome State Fault Refusal := bar0Write Reg.SEC_SVN_SET.addr 15 v s

/-- KEY_REVOKE (R348). -/
def execKeyRevoke (v : Word) (s : State) : Host.Outcome State Fault Refusal := bar0Write Reg.SEC_KEY_REVOKE.addr 15 v s

/-- FREEZE (R280). -/
def execFreeze (v : Word) (s : State) : Host.Outcome State Fault Refusal := bar0Write Reg.PERF_PERF_CTRL_FREEZE.addr 15 v s

/-- RESET of the sampling buffer (R285). -/
def execSampleReset (v : Word) (s : State) : Host.Outcome State Fault Refusal := bar0Write Reg.PERF_SAMPLE_CFG_RESET.addr 15 v s

/-- CLR of a histogram (R282). -/
def execClrWrite (h : Nat) (v : Word) (s : State) : Host.Outcome State Fault Refusal :=
  if 8 ≤ h then .fault .noSuchResource else bar0Write (Reg.HIST_CLR h).addr 15 v s

/-- STEER_CFG_WRITE (R274). -/
def execSteerCfgWrite (v : Word) (s : State) : Host.Outcome State Fault Refusal := bar0Write Reg.ENG_STEER_CFG_OWNER.addr 15 v s

/-- Halt of an engine through the debug port: it acts as HALT. -/
def debugHalt (s : State) (e : Nat) : State := if engRunning s e then engHalt s e 0 else s

/-- One instruction of a halted engine through the debug port. -/
def debugStep (s : State) (e : Nat) : State :=
  if engRunning s e then s
  else
    match UInstr.decode (memGet (engS s e).iram (engS s e).pc.toNat) with
    | none => s
    | some i => setF (outcomeOr s (engExec e i (setF s (Reg.UE_ENG_STATUS_RUNNING e) 1))) (Reg.UE_ENG_STATUS_RUNNING e) 0

/-- Way `way` of bucket `b` of the MAC table takes an entry in the place of the one it held (R180, R342). The ways of a bucket are its entries in the
order of the model's list (DESIGN CHOICE, log entry 138); an entry that does not hash to the bucket is one that no lookup finds there. -/
def debugMac (s : State) (b way : Nat) (e : MacEntry) : State :=
  let s1 := match (bucketOf s b)[way]? with
    | some x => { s with fab := { s.fab with macs := s.fab.macs.filter (fun y => decide (y ≠ x)) } }
    | none => s
  if way < 4 ∧ (Config.macHash e.vid e.mac).toNat = b then macSet s1 e else s1

/-- What a debug write does besides its entry, with the old value, of the MAC table and the queue descriptors a free value: the manual gives no layout
of either, so a queue descriptor's write changes nothing that the model holds. -/
def debugEffect (s : State) (t : DebugTarget) (v : Word) : State × Word :=
  let free := draw s
  match t with
  | .reg _ => (s, 0)
  | .macWay b w vid mac mask st => (debugMac free.2 b w ⟨vid % 4096, mac % 2 ^ 48, mask % 2 ^ 42, st, s.now⟩, Config.freeWord free.1)
  | .queueDesc _ => (free.2, Config.freeWord free.1)
  | .engIram e a => (updEng s e (fun o => { o with iram := memPut o.iram (a % 4096) (v.setWidth 18) }), (memGet (engS s e).iram (a % 4096)).setWidth 32)
  | .engDram e a => (updEng s e (fun o => { o with dram := memPut o.dram (a % 8192) (v.setWidth 18) }), (memGet (engS s e).dram (a % 8192)).setWidth 32)
  | .engWord e r => (setW s e (BitVec.ofNat 4 r) (v.setWidth 18), (uw s e (BitVec.ofNat 4 r)).setWidth 32)
  | .engPc e => (updEng s e (fun o => { o with pc := v.setWidth 12 }), (engS s e).pc.setWidth 32)
  | .engHalt e => (debugHalt s e, 0)
  | .engStep e => (debugStep s e, 0)

/-- Domain, port and engine of a debug target: port 0 engine debug, 1 internal access. -/
def debugPort : DebugTarget → Domain × Nat × Nat
  | .reg _ => (.time, 1, 0)
  | .macWay _ _ _ _ _ _ => (.fab, 1, 0)
  | .queueDesc _ => (.fab, 1, 0)
  | .engIram e _ => (.eng, 0, e)
  | .engDram e _ => (.eng, 0, e)
  | .engWord e _ => (.eng, 0, e)
  | .engPc e => (.eng, 0, e)
  | .engHalt e => (.eng, 0, e)
  | .engStep e => (.eng, 0, e)

/-- DEBUG_WRITE (R342, R349, R352): with debug closed there is none; while the log is full under HOLD it is dropped. The internal
address of the entry is a free value but for a register's. -/
def execDebugWrite (t : DebugTarget) (v : Word) (s : State) : Host.Outcome State Fault Refusal :=
  let d := debugPort t
  if 16 ≤ d.2.2 then .fault .noSuchResource
  else if !getB s Reg.SEC_STATUS_DEBUG_OPEN then ok s
  else
    match t with
    | .reg a => ok (busWrite s false true 0x22 a 15 v).1
    | _ =>
      if auditFull s then ok (dropWrite s true)
      else if !powered s d.1 then ok (dropWrite s false)
      else
        let k := draw s
        let e := debugEffect k.2 t v
        ok (audit e.1 3 false false (if d.2.1 = 0 then 0x21 else 0x22) (BitVec.ofNat 32 d.2.1) (Config.freeWord k.1) e.2 v)

end Sys2Proof.Machine
end

