-- ==== Sys2Proof/Machine/Power.lean ====
section
/-! DEFINITION. Power domains going off and coming on (R330, R333 to R335, R211), resets (R31, R371), the boot sequence (R33, R338,
R346, R347), FAULT and its causes (R35), TIMEKEEP and its wake (R34, R336), mode transitions by command (R25). -/

namespace Sys2Proof.Machine

/-! ### Domains off -/

/-- The registers of some domains go to their reset values (R330): nothing of them is listed. -/
def regsOff (s : State) (ds : List Domain) : State :=
  let keep := fun (e : Nat × Word) => decide (addrDomain e.1 ∉ ds)
  { s with regs := s.regs.filter keep, staged := s.staged.filter keep }

/-- Ports of a line domain. -/
def portsOf (d : Domain) : List Nat := (List.range 36).filter (fun p => decide (portDomain p = d))

/-- The Berm requests and window of a port are gone. -/
def bermGone (s : State) (p : Nat) : State :=
  let win := match s.ports.bermWin with | some w => if w.port = p then none else some w | none => none
  { s with ports := { s.ports with bermQ := s.ports.bermQ.filter (fun q => decide (q.port ≠ p)), bermWin := win } }

/-- A port goes with its domain: link down with its queues flushed, no phase words, its Berm requests gone. -/
def portOff (s : State) (p : Nat) : State :=
  updPort (bermGone (loseSource (phaseLose (portDown s p false) p) 0 p) p) p (fun _ => {})

/-- A PLL in an unpowered domain neither locks nor is locked; a held APPLY stays (R53). -/
def pllOff (s : State) (hbm : Bool) : State := setF (setF s (pllFlds hbm).2.1 0) (pllFlds hbm).2.2 0

/-- A link goes with its domain. -/
def linkOff (s : State) (n : Nat) : State := linkLost (linkDrop s n) n

/-- The PTP engine goes with PD_LINE_B. -/
def ptpOff (s : State) : State :=
  { s with ports := { s.ports with ptpRx := [], utcAuto := none, residues := [], unicast := 0 } }

/-- The switch core's contents go with PD_FAB. -/
def fabOff (s : State) : State := { s with fab := {} }

/-- What the links hold goes with PD_JIETH. -/
def jiethOff (s : State) : State := { s with jieth := { s.jieth with link := List.replicate 6 {}, workers := [], back := [] } }

/-- What goes with a domain beside its registers (R22, R334). -/
def domainOff (s : State) (d : Domain) : State :=
  match d with
  | .lineA => (portsOf .lineA).foldl portOff s
  | .lineB => ptpOff ((portsOf .lineB).foldl portOff s)
  | .fab => pllOff (fabOff ((List.range 42).foldl fabricDown s)) false
  | .hbm => pllOff s true
  | .jieth => jiethOff ((List.range 6).foldl linkOff s)
  | .gauge => { gaugesOff s with gauges := List.replicate 12 {} }
  | .gnss => gnssOff (loseSource s 2 0)
  | .host => { s with pcieUp := false, cmd := { s.cmd with waiting := [], slots := [], spi := [] } }
  | _ => s

/-- Domains are no longer powered. -/
def unpower (s : State) (ds : List Domain) : State := { s with domains := s.domains.filter (fun d => decide (d ∉ ds)) }

/-- Domains are switched off: calibration measurements on them are abandoned (R287), their contents are lost (R334). -/
def domainsOff (s : State) (ds : List Domain) : State := regsOff (unpower (ds.foldl domainOff (ds.foldl calPowerDown s)) ds) ds

/-! ### The board equalisation table (R210, R211, R228) -/

/-- Byte `k` of the flash sector; blank flash reads as ones. -/
def eqByte (l : List Byte) (k : Nat) : Nat := (l.getD k 0xFF).toNat

/-- COUNT of the table, its most significant byte first, as those of VERSION and CRC: the manual gives the order for MAGIC alone (DESIGN CHOICE,
log entry 139). -/
def eqCount (l : List Byte) : Nat := eqByte l 6 * 256 + eqByte l 7

/-- The table is valid (R211): its header's numbers have their most significant byte first (DESIGN CHOICE, log entry 139). -/
def eqValid (l : List Byte) : Bool :=
  let be := fun k => (eqByte l k * 256 + eqByte l (k + 1)) * 65536 + eqByte l (k + 2) * 256 + eqByte l (k + 3)
  decide (be 0 = 0x45515431) && decide (eqByte l 4 * 256 + eqByte l 5 = 1) && decide (eqCount l ≤ 70) &&
    decide (be 8 = crc32 ((List.range (8 * eqCount l)).map (fun k => eqByte l (16 + k))))

/-- Indices of the entries with a lane number that exists. -/
def eqEntries (l : List Byte) : List Nat := (List.range (eqCount l)).filter (fun i => decide (eqByte l (16 + 8 * i) < 70))

/-- First entry of a lane. -/
def eqFirst (l : List Byte) (lane : Nat) : Option Nat := (eqEntries l).find? (fun i => decide (eqByte l (16 + 8 * i) = lane))

/-- Register word of entry i: C_MAIN is lowered until the cursors sum to 63, but on a forwarded-clock lane, which ignores the others. The limit is
the table entry's; an EQ register that the host writes keeps the cursors as written (DESIGN CHOICE, log entry 140). -/
def eqWord (l : List Byte) (lane i : Nat) : Word :=
  let b := fun k => eqByte l (16 + 8 * i + k)
  let side := if 40 ≤ lane ∧ (lane - 40) % 5 = 4 then 0 else (sext 5 (b 1)).natAbs + (sext 6 (b 3)).natAbs
  let main := min (b 2 % 64) (63 - side)
  BitVec.ofNat 32 ((b 5 % 32) <<< 25 + (b 4 % 16) <<< 21 + (b 3 % 64) <<< 15 + main <<< 9 + (b 1 % 32) <<< 4 + 1)

/-- Register address of an equalisation lane (R209). -/
def eqAddr (lane : Nat) : Nat :=
  if lane < 32 then portBase lane + 0x98
  else if lane < 40 then portBase (32 + (lane - 32) / 2) + 0x98 + 4 * (lane % 2)
  else 0x600AC + 0x200 * ((lane - 40) / 5) + 4 * ((lane - 40) % 5)

/-- The EQ registers of some domains are loaded from the table, and EQ_STATUS with the domain that holds it (R211, R330). -/
def eqLoad (s : State) (ds : List Domain) : State :=
  let l := s.flash.eq
  let good := eqValid l
  let lanes := (List.range 70).filter (fun k => decide (addrDomain (eqAddr k) ∈ ds))
  let s1 := if good then lanes.foldl (fun t k => match eqFirst l k with | some i => setWord t (eqAddr k) (eqWord l k i) | none => t) s else s
  if decide (Domain.lineB ∈ ds) then
    let used := ((List.range 70).filter (fun k => (eqFirst l k).isSome)).length
    let s2 := setB (setB s1 Reg.PTPG_EQ_STATUS_LOADED good) Reg.PTPG_EQ_STATUS_DEFAULTS (!good)
    if good then setB (setF s2 Reg.PTPG_EQ_STATUS_ENTRIES used) Reg.PTPG_EQ_STATUS_DUP (decide (used < (eqEntries l).length)) else s2
  else s1

/-! ### Domains on -/

/-- Domains come on. -/
def powerDomains (s : State) (ds : List Domain) : State := { s with domains := s.domains ++ ds }

/-- The switch core starts from reset (R334): what was edited while it was off is gone. -/
def fabFresh (s : State) : State := { s with fab := {} }

/-- The spreadable PLL of a domain that is switched on starts to lock (R53). -/
def pllOn (s : State) (ds : List Domain) (hbm : Bool) : State :=
  if decide ((if hbm then Domain.hbm else Domain.fab) ∈ ds) then pllStart s hbm else s

/-- Domains that were off come on: registers at their reset values with EQ reloaded (R330), contents from reset (R334), the spreadable PLLs
starting to lock (R53), the coarse counter restarted (R232), the stated uncertainties computed afresh. -/
def domainsOn (s : State) (l : List Domain) : State :=
  let ds := l.filter (fun d => decide (d ∉ s.domains))
  let s1 := evalMismatch (eqLoad (regsOff (powerDomains s ds) ds) ds)
  let s2 := if decide (Domain.fab ∈ ds) then fabFresh s1 else s1
  let s3 := pllOn (pllOn s2 ds false) ds true
  if decide (Domain.gauge ∈ ds) then coarseRestart s3 else s3

/-- Every domain but PD_AON. -/
def mainDomains : List Domain := [.time, .host, .eng, .gauge, .gnss, .fab, .hbm, .lineA, .lineB, .jieth]

/-- Domains off in QUIET (R335). -/
def quietOff : List Domain := [.hbm, .fab, .lineA, .lineB]

/-- Domains off in KEEP (R335). -/
def keepOff : List Domain := [.host, .gauge, .gnss, .fab, .hbm, .lineA, .lineB, .jieth]

/-! ### Resets (R31, R371) -/

/-- What RESET leaves of the state: the registers of PD_AON, the power state (R24), OTP, flash, pins, the audit log, the epochs. -/
def resetParts (s : State) : State :=
  { s with
    regs := s.regs.filter (fun e => decide (addrDomain e.1 = .aon))
    staged := s.staged.filter (fun e => decide (addrDomain e.1 = .aon))
    mode := .reset, powerTo := none, domains := [.aon], calEntry := .config, boot := .idle, image := [], cpUp := false, wakeS := 0,
    waking := false, pcieUp := false, hb := false, hbAt := 0, clk := {}, tim := {}, sel := {}, ports := {}, jieth := {},
    pair := { epoch := s.pair.epoch, peerEpoch := s.pair.peerEpoch },
    fab := {}, coarse := 0, gauges := List.replicate 12 {}, gnss := {}, engs := {}, cal := {}, cmd := { nextId := s.cmd.nextId },
    sec := { s.sec with idKey := false } }

/-- Entry to RESET from any mode: debug closes (R344), every domain but PD_AON is held in reset, the identity key is gone (R338),
waiting and running commands are lost (R310). -/
def resetCore (s : State) : State := resetParts (setF (closeDebug (cutStore s)) Reg.SEC_STATUS_ID_VALID 0)

/-- The SYS block goes to its reset values. -/
def sysRegs (s : State) : State := { s with regs := s.regs.filter (fun e => decide (65536 ≤ e.1)), idLoaded := false, boardSet := false }

/-- What R371 does to the registers of PD_AON: the SYS block takes its reset values but for FAULT_CAUSE, which keeps CODE and records
LAST_RESET; SVN_SET and KEY_REVOKE read zero; SEC and AUDIT keep the rest. -/
def sysReset (s : State) (code : Nat) : State :=
  let s1 := setWord (sysRegs s) Reg.SYS_FAULT_CAUSE_CODE.addr (regWord s Reg.SYS_FAULT_CAUSE_CODE.addr)
  setF (setF (setF s1 Reg.SYS_FAULT_CAUSE_LAST_RESET code) Reg.SEC_SVN_SET 0) Reg.SEC_KEY_REVOKE 0

/-- A reset by RESET_N (code 1) or DEVICE_RESET (code 2). -/
def resetDevice (s : State) (code : Nat) : State := sysReset (resetCore s) code

/-- A part of the state that no loss of supply touches: OTP, flash, board levels, and the model's own records. -/
def afterPower (s : State) : State :=
  { pending := s.pending, otp := s.otp, flash := s.flash, pins := s.pins, now := s.now, out := s.out, freeCtr := s.freeCtr }

/-- RESET_N_LOW (R31). -/
def execResetNLow (s : State) : Host.Outcome State Fault Refusal :=
  let s1 := { s with pins := { s.pins with resetN := false } }
  if s.power = .off then ok s1 else ok (resetDevice s1 1)

/-- POWER_ON (R31, R335): from OFF; everything in PD_AON is cleared. -/
def execPowerOn (s : State) : Host.Outcome State Fault Refusal :=
  if s.power = .off then ok (afterPower s) else ok s

/-- AON_SUPPLY_LOSS (R335): all volatile state is lost. -/
def execAonSupplyLoss (s : State) : Host.Outcome State Fault Refusal :=
  ok { afterPower (cutStore s) with power := .off, domains := [] }

/-- Domains that a rail feeds (R333). -/
def railFeeds : Rail → List Domain
  | .vddAon => [.aon]
  | .vddioAon => [.aon]
  | .vddCore => [.time, .eng, .gauge, .gnss, .fab, .host, .lineA, .lineB, .jieth]
  | .vddaClk => [.time, .fab, .hbm, .gauge]
  | .vddSrds => [.lineA, .lineB, .jieth, .host]
  | .vddhSrds => [.lineA, .lineB, .jieth]
  | .vddHbm => [.hbm]
  | .vppHbm => [.hbm]
  | .vddio => [.time, .gnss, .host]

/-- RAIL_OUT_OF_WINDOW (R334): POWER_FAIL if the rail feeds a powered domain; behind a low RESET_N only the always-on rails are
watched. -/
def execRailOutOfWindow (r : Rail) (s : State) : Host.Outcome State Fault Refusal :=
  let watched := s.pins.resetN || decide (r = .vddAon) || decide (r = .vddioAon)
  if watched && (railFeeds r).any (powered s) then ok (enterFault s .powerFail) else ok s

/-- SUPPLY_COLLAPSE (R334): VDD_CORE or VDDA_CLK below 60 % takes the device to RESET and AON; behind a low RESET_N with no collapse
recorded. -/
def execSupplyCollapse (r : Rail) (s : State) : Host.Outcome State Fault Refusal :=
  if (r = .vddCore ∨ r = .vddaClk) ∧ s.power ≠ .off ∧ s.power ≠ .aon then
    ok { resetCore s with power := .aon, collapsed := s.pins.resetN }
  else ok s

/-- PERST_N_LOW (R31): the PCI Express endpoint is in reset; its packets not yet started are discarded, the started ones complete
without reply. -/
def execPerstNLow (s : State) : Host.Outcome State Fault Refusal :=
  let pcie := fun (p : Packet) => decide (p.iface = .pcie)
  ok { s with
    pins := { s.pins with perstN := false }
    pcieUp := false
    cmd := { s.cmd with waiting := s.cmd.waiting.filter (fun p => !pcie p), slots := [],
                        running := s.cmd.running.map (fun p => if pcie p then { p with mute := true } else p) } }

/-- TRST_N_LOW (R31): the JTAG TAP only, which holds nothing of this state. -/
def execTrstNLow (s : State) : Host.Outcome State Fault Refusal := ok s

/-- DEBUG_CLOSE (R344): DBG_EN falls. -/
def execDebugClose (s : State) : Host.Outcome State Fault Refusal :=
  ok (closeDebug { s with pins := { s.pins with dbgEn := false } })

/-- FAULT_ENTRY (R35). -/
def execFaultEntry (c : FaultCause) (s : State) : Host.Outcome State Fault Refusal := ok (enterFault s c)

/-! ### Boot (R33) -/

/-- Word `k` of an image; blank flash reads as ones. -/
def imgWord (f : FwImage) (k : Nat) : Word := f.words.getD k 0xFFFFFFFF

/-- `n` words of an image from word `k`. -/
def imgWords (f : FwImage) (k n : Nat) : List Word := (f.words.drop k).take n ++ List.replicate (n - (f.words.length - k)) 0xFFFFFFFF

/-- SIZE of an image: words of its body (R346). -/
def imgSize (f : FwImage) : Nat := (imgWord f 2).toNat

/-- KEY_SLOT of an image (R346). -/
def imgKeySlot (f : FwImage) : Nat := fieldOf (imgWord f 3) 0 2

/-- SVN of an image (R346). -/
def imgSvn (f : FwImage) : Nat := fieldOf (imgWord f 1) 0 6

/-- FW_VERSION of an image (R346). -/
def imgVersion (f : FwImage) : Nat := fieldOf (imgWord f 1) 16 16

/-- Result code of an image's check (R347): the first failure in the order of the codes, 1 for a pass. -/
def imageCheck (s : State) (f : FwImage) : Nat :=
  if !f.readOk || decide (imgSize f = 0) || decide (1048512 < imgSize f) then 2
  else if imgWord f 0 ≠ 0x494D4731 then 3
  else if bits s.otp.revoked.toNat (imgKeySlot f) 1 = 1 then 4
  else if sha256 (imgWords f 4 16) ≠ s.otp.keyHash.getD (imgKeySlot f) [] then 5
  else if !ecdsaVerifies (imgWords f 4 16) (sha256 (imgWords f 0 28)) (imgWords f 28 16) then 6
  else if sha256 (imgWords f 64 (imgSize f)) ≠ imgWords f 20 8 then 7
  else if imgSvn f < s.otp.svnFloor then 8
  else 1

/-- The host-written image of `size` words, header included (R346); a body beyond them is out of range (R347). -/
def hostImage (s : State) (size : Nat) : FwImage :=
  { words := memGetList s.image 0 size, readOk := decide (64 + (memGet s.image 2).toNat ≤ size) }

/-- UE0 to UE11 run (R265). -/
def firmwareEngines (s : State) : State := (List.range 12).foldl (fun t e => setF t (Reg.UE_ENG_STATUS_RUNNING e) 1) s

/-- BOOT_STATUS and BOOT_INFO of the image that runs (R33, R347). -/
def imageInfo (s : State) (img : Nat) (f : FwImage) : State :=
  setF (setF (setF (setF s Reg.SYS_BOOT_STATUS_IMAGE img) Reg.SYS_BOOT_STATUS_FW_VERSION (imgVersion f)) Reg.SEC_BOOT_INFO_SVN_RUN (imgSvn f))
    Reg.SEC_BOOT_INFO_KEY_SLOT_RUN (imgKeySlot f)

/-- The command processor starts, the boot sequence is over. -/
def cpStart (s : State) : State := { s with boot := .idle, cpUp := true }

/-- CONFIG is entered with HB_OUT running (R33, R165) and the boot is logged. -/
def bootEnd (s : State) (f : FwImage) : State :=
  auditEvent { s with mode := .config, hb := true, hbAt := s.now } .boot 0x23
    ((viewWord s Reg.SYS_BOOT_STATUS_IMAGE.addr).toNat % 65536) (BitVec.ofNat 32 (imgVersion f))

/-- Steps 5 to 8 of R33 with an image that passed: UE0 to UE11 run its firmware, the command processor starts, the calibration copies
are voted, the remaining domains come on with the equalisation table, and CONFIG is entered. -/
def bootFinish (s : State) (img : Nat) (f : FwImage) : State :=
  let s1 := firmwareEngines (domainsOn (cpStart (imageInfo s img f)) [.eng])
  bootEnd (domainsOn (voteCal s1) mainDomains) f

/-- Step 4 of R33 from flash: image A and then B, or B alone (R32, R347). -/
def bootFlash (s : State) : State :=
  let ra := if s.straps.bootSrc = 0 then imageCheck s s.flash.imageA else 0
  let rb := if ra = 1 then 0 else imageCheck s s.flash.imageB
  let s1 := setF (setF s Reg.SEC_BOOT_INFO_RESULT_A ra) Reg.SEC_BOOT_INFO_RESULT_B rb
  let s2 := raiseIf (decide (2 ≤ ra) && decide (rb = 1)) s1 Reg.SEC_EVENTS_IMAGE_FALLBACK
  if ra = 1 then bootFinish s2 1 s.flash.imageA
  else if rb = 1 then bootFinish s2 2 s.flash.imageB
  else enterFault s2 .noValidImage

/-- The endpoint comes up where PERST_N is high (R33, R34). -/
def hostUp (s : State) : State := { s with pcieUp := s.pins.perstN }

/-- The dividers and the warm-up timer start (R43, R48). -/
def dividersStart (s : State) : State := { s with clk := { s.clk with started := true, divAt := s.now, warmAt := some s.now } }

/-- The root has locked: the dividers start, PD_HOST comes on and with it the endpoint (R33, R48). -/
def rootStarts (s : State) : State := hostUp (domainsOn (dividersStart (setF s Reg.CLK_ROOT_STATUS_ROOT_LOCK 1)) [.host])

/-- The root has locked in step 2 (R33, R38, R40): then step 4, or the wait for a host-written image. -/
def bootRooted (s : State) (b : BootEnv) : State :=
  let s1 := rootStarts s
  if s1.straps.bootSrc = 1 ∨ s1.straps.bootSrc = 2 then { s1 with boot := .hostImage b } else bootFlash s1

/-- Leaving RESET (R32): the straps are read, the power state is FULL. The board may have replaced the flash contents, and the part's maker may have
programmed its key-hash slots, before this boot (DESIGN CHOICE, log entry 8). -/
def bootEnter (s : State) (b : BootEnv) : State :=
  { s with
    mode := .boot, power := .full, powerTo := none, domains := [.aon], collapsed := false, idLoaded := true
    straps := { bootSrc := b.bootSrc, jrole := b.jrole, pairEn := b.pairEn, ovenUse := b.ovenUse }
    flash := b.flash.getD s.flash, otp := { s.otp with keyHash := b.keyHash.getD s.otp.keyHash } }

/-- The identity (R338): the key is regenerated unless BREACH is set. -/
def bootIdentity (s : State) (pufOk : Bool) : State :=
  let keep := pufOk && !getB s Reg.SEC_STATUS_BREACH
  let s1 := if pufOk then { s with sec := { s.sec with pub := true, idKey := keep } } else raise s Reg.SEC_EVENTS_ID_FAIL
  setB s1 Reg.SEC_STATUS_ID_VALID keep

/-- Step 2 of R33: OSC_IN is measured and the multiplier selected, which OSC_100M reports (R38); the root locks, or is waited for. -/
def bootRoot (s : State) (b : BootEnv) : State :=
  let s1 := setB s Reg.CLK_ROOT_STATUS_OSC_100M (decide (b.osc = .mhz100))
  if b.rootLocks ∧ b.osc ≠ .absent then bootRooted s1 b else { s1 with boot := .root b }

/-- Steps 1 and 2 of R33 (R32, R338): straps, OTP, identity, root. -/
def bootStart (s : State) (b : BootEnv) : State :=
  let s1 := bootIdentity (bootEnter s b) b.pufOk
  if b.jrole = 3 ∨ (b.pairEn = true ∧ b.jrole ≠ 2) then enterFault s1 .strapInvalid else bootRoot (domainsOn s1 [.time]) b

/-- AON_EXIT (R334, R335): the rails have stayed in window for 10 ms with RESET_N high. -/
def execAonExit (b : BootEnv) (s : State) : Host.Outcome State Fault Refusal :=
  if s.power = .aon ∧ s.mode = .reset ∧ s.pins.resetN = true then ok (bootStart (if s.collapsed then sysReset s 3 else s) b) else ok s

/-- RESET_RELEASE (R31 to R33): the rise of RESET_N, or the end of a DEVICE_RESET. In AON the boot waits for AON_EXIT. -/
def execResetRelease (b : BootEnv) (s : State) : Host.Outcome State Fault Refusal :=
  let s1 := { s with pins := { s.pins with resetN := true } }
  if s.mode = .reset ∧ s.power ≠ .aon ∧ s.power ≠ .off then ok (bootStart s1 b) else ok s1

/-- BOOT_ROOT_TIMEOUT (R33). -/
def execBootRootTimeout (s : State) : Host.Outcome State Fault Refusal :=
  match s.boot with
  | .root _ => ok (enterFault s .rootNoLock)
  | _ => ok s

/-- ROOT_LOCK (R40): in BOOT it ends step 2, unless OSC_IN is not there to lock to (R38); later it clears OSC_LOS. -/
def execRootLock (s : State) : Host.Outcome State Fault Refusal :=
  match s.boot with
  | .root b => if b.osc = .absent then ok s else ok (bootRooted s b)
  | _ =>
    if s.clk.started then ok (setF (setF s Reg.CLK_ROOT_STATUS_ROOT_LOCK 1) Reg.CLK_ROOT_STATUS_OSC_LOS 0)
    else ok s

/-! ### TIMEKEEP (R34, R335, R336) -/

/-- A wake begins (R34, R336). -/
def beginWake (s : State) : State :=
  if s.mode = .timekeep ∧ s.waking = false then { s with waking := true, powerTo := some .full } else s

/-- WAKE_EVENT (R34). -/
def execWakeEvent (src : WakeSrc) (s : State) : Host.Outcome State Fault Refusal :=
  match src with
  | .perst => ok (beginWake { s with pins := { s.pins with perstN := true } })
  | .spiCs => ok (beginWake s)
  | .timer => if s.wakeS = 0 then ok s else ok (beginWake s)

/-- PERST_N_DEASSERTION (R31, R33, R34, R35): the endpoint comes out of reset where PD_HOST is on; in TIMEKEEP it wakes the device. -/
def execPerstNDeassertion (s : State) : Host.Outcome State Fault Refusal :=
  let s1 := { s with pins := { s.pins with perstN := true } }
  if s.mode = .timekeep then ok (beginWake s1) else if powered s .host then ok { s1 with pcieUp := true } else ok s1

/-- The power state is KEEP (R335). -/
def inKeep (s : State) : State := { s with power := .keep, powerTo := none }

/-- KEEP_POWER_DOWN (R335, R242, R265, R344): the domains outside KEEP and UE1 to UE15 go off. -/
def execKeepPowerDown (s : State) : Host.Outcome State Fault Refusal :=
  if s.mode = .timekeep ∧ s.powerTo = some .keep then
    ok (inKeep (engsOff (domainsOff (closeDebug s) keepOff)))
  else ok s

/-- A counter's value, or what a histogram has taken. -/
def perfData (a : Nat) : Bool :=
  (decide (0xC1000 ≤ a) && decide (a < 0xC2000) && (decide (a % 0x20 = 0xC) || decide (a % 0x20 = 0x10))) ||
  (decide (0xC4000 ≤ a) && decide (a < 0xC5000) && decide (0x18 ≤ a % 0x200))

/-- The wake is over: FULL (R336), where every counter and histogram reads zero (R280). -/
def wakeEnds (s : State) : State :=
  { s with waking := false, wakeS := 0, powerTo := none, power := .full, regs := s.regs.filter (fun e => !perfData e.1) }

/-- The image that ran (R336, R347): of the flash, or the host-written one kept in PD_TIME. -/
def imageRan (s : State) : FwImage :=
  match getF s Reg.SYS_BOOT_STATUS_IMAGE with
  | 1 => s.flash.imageA
  | 2 => s.flash.imageB
  | _ => hostImage s (64 + (memGet s.image 2).toNat)

/-- WAKE_COMPLETE (R336, R347): the image that ran is reloaded, which the chip may fail to read, and checked again; ACQUIRE is entered and the host interfaces come up, or FAULT. -/
def execWakeComplete (readOk : Bool) (s : State) : Host.Outcome State Fault Refusal :=
  if !s.waking then ok s
  else
    let f := imageRan s
    let result := imageCheck s { f with readOk := f.readOk && readOk }
    let s1 := setF s (if getF s Reg.SYS_BOOT_STATUS_IMAGE = 2 then Reg.SEC_BOOT_INFO_RESULT_B else Reg.SEC_BOOT_INFO_RESULT_A) result
    if result ≠ 1 then ok (enterFault s1 .noValidImage)
    else
      let s2 := gnssWake (firmwareEngines (domainsOn (wakeEnds s1) mainDomains))
      ok (auditEvent (hostUp (enterMode s2 .acquire)) .wake 0x23 0 0)

/-- POWER_SEQUENCE_DONE (R335, R53): the sequence into QUIET or FULL ends with its domains switched on. In a wake it is the first step of
R336: the domains of FULL are switched on but for the host interfaces, which the last step enables; POWER changes when the wake ends. -/
def execPowerSequenceDone (s : State) : Host.Outcome State Fault Refusal :=
  match s.powerTo with
  | some .quiet => ok { s with power := .quiet, powerTo := none }
  | some .full => if s.waking then ok (domainsOn s (mainDomains.filter (fun d => decide (d ≠ .host)))) else ok { domainsOn s mainDomains with power := .full, powerTo := none }
  | _ => ok s

/-! ### MODE_SET (R25, R315) -/

/-- Entry to BENCH (R24, R199, R335): queues flushed, the four domains off. -/
def enterBench (s : State) : State :=
  let s1 := domainsOff (enterMode s .bench) quietOff
  { s1 with powerTo := some .quiet }

/-- No followed clock and nothing pending: the loops are open. -/
def openLoops (s : State) : State :=
  let s1 := rootInput s none
  { s1 with tim := { s1.tim with pend := none } }

/-- No coast runs. -/
def endCoast (s : State) : State := { s with sel := { s.sel with coast := none } }

/-- A power sequence into FULL begins (R335). -/
def towardFull (s : State) : State := { s with powerTo := some .full }

/-- BENCH to CONFIG (R24, R335): loops open at NOMINAL; the power sequence into FULL begins. -/
def leaveBench (s : State) : State :=
  let s1 := endCoast (openLoops (enterMode (dropSelection s) .config))
  towardFull (evalTrims (requestWord s1 (nominal s1)))

/-- Slot n is cleared with no counted loss: its next qualification carries no wait (R117). -/
def slotQuiet (s : State) (n : Nat) : State :=
  setF (updSlot (loseSlot s n false) n (fun o => { o with lostOnce := false })) (Reg.SLOT_SLOT_STATUS_SRC_VALID n) 0

/-- Slots lose qualification and source with no counted loss (R117). -/
def slotsQuiet (s : State) : State := slotNos.foldl slotQuiet s

/-- The wake timer and the power sequence into KEEP (R34, R335); the device's own word is `cw`. -/
def keepStarts (s : State) (wake : Nat) (cw : Int) : State :=
  { s with sel := { s.sel with ownCw := cw }, wakeS := wake, powerTo := some .keep }

/-- The coast of TIMEKEEP begins at its entry, unless one runs already (R132). -/
def timekeepCoast (s : State) : State := if s.sel.coast.isNone then beginCoast s none else s

/-- Entry to TIMEKEEP (R34): the request goes to the holdover average, or stays at the applied word; qualification is cleared without
a counted loss (R117). -/
def enterTimekeep (s : State) (wake : Nat) : State :=
  let cw := (holdAverage s).1.getD (cwRoot s)
  let s1 := evalTrims (enterMode (dropSelection (slotsQuiet (timekeepCoast (publishHold s)))) .timekeep)
  setRequest (keepStarts (openLoops s1) wake cw) cw

/-- A pair member becomes active other than by takeover (R25, R164, R168, R169): its epoch rises, the change is logged. -/
def becomeActive (s : State) : State :=
  if s.straps.pairEn then
    sendTimingAll (auditRole (incF { s with pair := { s.pair with epoch := nextEpoch s } } Reg.PAIR_TAKEOVER_CNT 1))
  else s

/-- ACQUIRE with nothing selected requests NOMINAL, or keeps the holdover average (R120, R129). -/
def acquireIdle (s : State) : State :=
  if s.mode = .acquire ∧ (selected s).isNone ∧ s.sel.sw.isNone ∧ s.sel.keepAvg = false then requestWord s (nominal s) else s

/-- Entry to ACQUIRE by command; within the recovery window it opens it anew (R28). -/
def enterAcquire (s : State) : State :=
  let again := getB s Reg.REF_LOSS_CTRL_WINDOW_OPEN
  let s1 := enterMode s .acquire
  acquireIdle (evalTrims (reselect (if again then openWindow s1 else s1)))

/-- A pair member leaves CONFIG for FREERUN, where ROLE_IN applies at once (R25, R26, R174): active on 0b10, STANDBY on 0b01, and back in
CONFIG on an isolating value. -/
def rolePlaced (s : State) : State :=
  match roleIn s with
  | 2 => becomeActive (enterFreerun s)
  | 1 => toStandby (enterFreerun s)
  | _ => isolate (enterFreerun s)

/-- The transition that MODE_SET to a mode makes, none where R25 has none or its guard is false. -/
def modeTransition (s : State) (target : Mode) (wake : Nat) : Option State :=
  let cal := getB s Reg.CAL_STATUS_CAL_REQUIRED
  let pair := s.straps.pairEn
  match s.mode, target with
  | .config, .acquire =>
    if cal then none
    else if !pair then some (enterAcquire s)
    else if roleIn s = 2 then some (becomeActive (enterAcquire s))
    else if roleIn s = 1 then some (enterStandbyRole s)
    else none
  | .config, .freerun => if cal then none else some (if pair then rolePlaced s else enterFreerun s)
  | .config, .bench => if cal ∨ pair then none else some (enterBench s)
  | .freerun, .bench => if cal ∨ pair then none else some (enterBench s)
  | .locked, .bench => if cal ∨ pair then none else some (enterBench s)
  | .freerun, .acquire => some (enterAcquire s)
  | .holdover, .acquire => some (enterAcquire s)
  | .holdover, .freerun => some (enterFreerun s)
  | .locked, .timekeep => if pair then none else some (enterTimekeep s wake)
  | .holdover, .timekeep => if pair then none else some (enterTimekeep s wake)
  | .freerun, .timekeep => if pair then none else some (enterTimekeep s wake)
  | .bench, .config => some (leaveBench s)
  | _, _ => none

end Sys2Proof.Machine
end

