-- ==== Sys2Proof/Machine/Cmds.lean ====
section
/-! DEFINITION. What the system, time, selector, key, identity, debug and audit commands do once they have started and passed the checks of
R309 (R70, R71, R79, R137, R315, R317, R339, R343, R353, R354). Each answers its final status with its reply words, or none while it
runs on. -/

namespace Sys2Proof.Machine

/-! ### System commands (R315) -/

/-- MODE_SET: an undefined code, another MODE_SET that runs (R310), a transition that R25 has not or bars; else the mode changes now. -/
def cmdModeSet (s : State) (p : Packet) : CmdOut :=
  match modeOfCode (parF p.words 0 0 4) with
  | none => deny s .badParam
  | some m =>
    if s.cmd.running.any (fun r => decide (r.opcode = 1) && decide (r.id ≠ p.id)) then deny s .busy
    else
      match modeTransition s m (par p.words 1).toNat with
      | none => deny s .wrongMode
      | some t => done t

/-- DEVICE_RESET: its final reply is written, then the reset acts (R31, R313, R314). -/
def cmdDeviceReset (s : State) (p : Packet) : CmdOut := (resetDevice (finish s p .ok []) 2, none)

/-- Byte address of REG_READ, REG_WRITE and SNAPSHOT: word 0 with [31:24] and [1:0] taken as zero. -/
def parAddr (ws : List Word) : Nat := issuedAddr (par ws 0).toNat

/-- SNAPSHOT: the ToD and `count` registers read on one tick, with the side effects of a BAR0 read. -/
def cmdSnapshot (s : State) (p : Packet) : CmdOut :=
  let n := parF p.words 0 24 8
  let a := parAddr p.words
  let req := reqCode p.iface p.queue
  if n = 0 ∨ 128 < n ∨ 2 ^ 24 < a + 4 * n then deny s .badParam
  else
    answer ((List.range n).foldl (fun t i => (busRead t req (a + 4 * i)).1) s)
      (todWords (todVis s) ++ (List.range n).map (fun i => (busRead s req (a + 4 * i)).2))

/-- The boot-image commands are legal only through the interface that BOOT_SRC names (R32, R315). -/
def bootIface (s : State) (p : Packet) : Bool :=
  match p.iface with
  | .pcie => decide (s.straps.bootSrc = 1)
  | .spi => decide (s.straps.bootSrc = 2)
  | .jieth _ => false

/-- A BOOT_GO other than this packet is running. -/
def bootBusy (s : State) (p : Packet) : Bool := s.cmd.running.any (fun r => decide (r.opcode = 5) && decide (r.id ≠ p.id))

/-- BOOT_WRITE. -/
def cmdBootWrite (s : State) (p : Packet) : CmdOut :=
  let o := parF p.words 0 0 20
  if !bootIface s p then deny s .denied
  else if bootBusy s p then deny s .busy
  else if 1048576 < o + (p.words.length - 1) then deny s .badParam
  else done { s with image := memPutList s.image o (p.words.drop 1) }

/-- BOOT_GO: steps 4 to 8 of R33 on the host-written image; its result stands in RESULT_A (R347). A rejected image completes the
command with DENIED and the device enters FAULT. -/
def cmdBootGo (s : State) (p : Packet) : CmdOut :=
  let size := parF p.words 0 0 21
  if !bootIface s p then deny s .denied
  else if bootBusy s p then deny s .busy
  else if size = 0 ∨ 1048576 < size then deny s .badParam
  else
    let f := hostImage s size
    let r := imageCheck s f
    let s1 := setF (setF s Reg.SEC_BOOT_INFO_RESULT_A r) Reg.SEC_BOOT_INFO_RESULT_B 0
    if r = 1 then done (bootFinish s1 3 f)
    else (enterFault (finish (setF s1 Reg.SYS_BOOT_STATUS_IMAGE 3) p .denied []) .noValidImage, none)

/-- QUEUE_ABORT: the packets of the named queues that have not started complete with FENCE_ABORTED. -/
def cmdQueueAbort (s : State) (p : Packet) : CmdOut :=
  let mask := parF p.words 0 0 4
  if mask = 0 then deny s .badParam
  else
    let hit := fun (r : Packet) => decide (bits mask r.queue 1 = 1)
    let gone := s.cmd.waiting.filter hit
    done (gone.foldl (fun t r => finish t r .fenceAborted []) { s with cmd := { s.cmd with waiting := s.cmd.waiting.filter (fun r => !hit r) } })

/-- REG_READ. -/
def cmdRegRead (s : State) (p : Packet) : CmdOut :=
  let r := busRead s (reqCode p.iface p.queue) (parAddr p.words)
  answer r.1 [r.2]

/-- Final status of a register write (R315). -/
def wrStatus : WrEnd → Status
  | .done => .ok
  | .dropped => .denied
  | .locked => .locked

/-- REG_WRITE. -/
def cmdRegWrite (s : State) (p : Packet) : CmdOut :=
  let r := busWrite s false false (reqCode p.iface p.queue) (parAddr p.words) 15 (par p.words 1)
  (r.1, some (wrStatus r.2, []))

/-! ### Time commands (R70, R71, R74, R79) -/

/-- The counter after a step by `d` of 2^-56 ns: no slew goes on and nothing is pending. -/
def stepTod (s : State) (d : Int) : State :=
  { s with tim := { s.tim with tod := (((s.tim.tod : Int) + d) % (todWrap : Int)).toNat, weirRem := 0, weirAcc := 0, pend := none } }

/-- What is held as an offset moves with the counter, by `d16` of 2^-16 ns; the receiver is told. -/
def stepHeld (s : State) (d d16 : Int) : State :=
  { s with
    sel := { s.sel with
      slewing := false
      coast := s.sel.coast.map (fun c => { c with w := c.w + d })
      slots := s.sel.slots.zipIdx.map (fun e => { e.1 with meas := e.1.meas.map (fun m =>
        { m with ofs := wrapOfs s e.2 (m.ofs - d16), ofs10 := wrapOfs s e.2 (m.ofs10 - d16) }) })
      sw := s.sel.sw.map (fun w => { w with xFrom := w.xFrom - d16 }) }
    gnss := { s.gnss with stepped := true } }

/-- The counter takes a stepped value (R70, R73, R77, R78, R135, R195): `d` is the change in 2^-56 ns on top of this tick's value. The
pending offset, the suspects and WEIR_REMAIN clear, measurements are taken afresh, physical phases of running outputs stay. A gate list that has
taken effect stays in effect, counted from its base (R187). -/
def stepTo (s : State) (d : Int) : State :=
  let d16 := ((s.tim.tod : Int) + d) / 2 ^ 40 - (todVis s : Int)
  let t := stepSluice (moveOutputs (stepHeld (stepTod (takeLists s) d) d d16) d16)
  evalTrims (reselect (raise (clearSuspect t slotNos) Reg.TIME_EVENTS_STEPPED))

/-- Seconds, nanoseconds and fraction of STEP's words 1 to 4 in 2^-56 ns; relative seconds are signed (R79). -/
def stepAmount (ws : List Word) (relative : Bool) : Int :=
  let sec := parF ws 1 0 16 * 2 ^ 32 + (par ws 2).toNat
  let sec' : Int := if relative then sext 48 sec else sec
  ((sec' * 10 ^ 9 + parF ws 3 0 30) * 2 ^ 16 + parF ws 4 0 16) * 2 ^ 40

/-- STEP (R70, R79): on the first tick after its start. -/
def cmdStep (s : State) (ws : List Word) : CmdOut :=
  let kind := parF ws 0 30 2
  if s.mode = .standby ∧ kind ≠ 2 then deny s .wrongMode
  else if kind = 3 ∨ (kind ≠ 2 ∧ 10 ^ 9 ≤ parF ws 3 0 30) then deny s .badParam
  else
    let t := tick s
    match kind with
    | 0 =>
      let u := stepTo t (stepAmount ws true)
      done (if parF ws 1 0 16 = 0 ∧ par ws 2 = 0 then u else setF u Reg.TIME_STATUS_SEC_KNOWN 0)
    | 1 => done (setF (stepTo t (stepAmount ws false - t.tim.tod)) Reg.TIME_STATUS_SEC_KNOWN 1)
    | _ =>
      match t.tim.pend with
      | none => deny s .badParam
      | some x =>
        let u := stepTo t (x * 2 ^ 40)
        done (if u.mode = .standby then firstAlign u 0 1 0 false else u)

/-- SLEW_ACCEPT (R71, R135): a pending offset below 1 s goes to the Weir; with none pending, the selected suspect slot's present
offset. Every suspect clears. -/
def cmdSlewAccept (s : State) : CmdOut :=
  let sus := slotNos.filter (slotSuspect s)
  let fin := fun (t : State) => done (evalTrims (reselect (clearSuspect t sus)))
  match s.tim.pend with
  | some x =>
    if 65536 * 10 ^ 9 ≤ x.natAbs then deny s .badParam
    else
      let t := { s with tim := { s.tim with pend := none }, sel := { s.sel with slewing := true } }
      fin (giveWeir t x (match selected s with | some n => slotSeconds s n | none => false))
  | none =>
    if sus = [] then deny s .badParam
    else
      match selected s with
      | some n =>
        if slotSuspect s n && s.sel.sw.isNone then
          fin (giveWeir { s with sel := { s.sel with slewing := true } } (slotOfs s n) (slotSeconds s n))
        else fin s
      | none => fin s

/-- ALIGN_OUTPUTS (R74, R79): the first alignment, or a re-alignment of the outputs of the mask; the reply names the source. -/
def cmdAlignOutputs (s : State) (ws : List Word) : CmdOut :=
  let mask := parF ws 0 0 14
  let slew := parF ws 0 16 1 = 1
  if mask = 0 then deny s .badParam
  else
    let src := if (selected s).isSome then 0 else 1
    let marker : Int := match selected s with | some n => -slotOfs s n | none => 0
    answer (realign s marker src mask slew) [BitVec.ofNat 32 src]

/-! ### REF_SELECT (R137) -/

/-- REF_SELECT; forcing and lockout are evaluated at once (R121). -/
def cmdRefSelect (s : State) (ws : List Word) : CmdOut :=
  let n := parF ws 0 0 3
  let go := fun (t : State) => done (evalTrims (reselect t))
  match parF ws 0 28 4 with
  | 0 => go (setF s Reg.REF_SEL_STATUS_FORCE_SLOT 0xF)
  | 1 => if !slotEn s n || slotErr s n then deny s .badParam else go (setF s Reg.REF_SEL_STATUS_FORCE_SLOT n)
  | 2 => go (setF s (Reg.SLOT_SLOT_CFG_LOCKOUT n) 1)
  | 3 => go (setF s (Reg.SLOT_SLOT_CFG_LOCKOUT n) 0)
  | 4 =>
    if getB s (Reg.SLOT_SLOT_STATUS_WTR_RUN n) then
      go (setF (setF s (Reg.SLOT_SLOT_STATUS_WTR_RUN n) 0) (Reg.SLOT_SLOT_STATUS_TIMER_S n) 0)
    else done s
  | _ => deny s .badParam

/-! ### Keys and identity (R338, R339) -/

/-- KEY_LOAD. -/
def cmdKeyLoad (s : State) (ws : List Word) : CmdOut :=
  let k := parF ws 0 0 7
  if 65 < k then deny s .badParam
  else if getB s Reg.SEC_STATUS_BREACH || getB s Reg.SEC_STATUS_KEYS_LOCKED then deny s .denied
  else done { s with sec := { s.sec with keys := spIns s.sec.keys k (ws.drop 1) } }

/-- KEY_ZERO. -/
def cmdKeyZero (s : State) (ws : List Word) : CmdOut :=
  let k := parF ws 0 0 7
  if parF ws 0 31 1 = 1 then done (raise { s with sec := { s.sec with keys := [] } } Reg.SEC_EVENTS_KEY_ZEROED)
  else if 65 < k then deny s .badParam
  else done (raise { s with sec := { s.sec with keys := spDel s.sec.keys k } } Reg.SEC_EVENTS_KEY_ZEROED)

/-- ID_READ: SERIAL, PUBKEY_X, PUBKEY_Y, SEC.STATUS. -/
def cmdIdRead (s : State) : CmdOut :=
  answer s ([(Config.serial >>> 32).setWidth 32, Config.serial.setWidth 32] ++
    (List.range 16).map (fun k => viewWord s (0xE0040 + 4 * k)) ++ [viewWord s 0xE0000])

/-! ### DEBUG_OPEN (R317, R343) -/

/-- Up to `k` attempts to zeroise the secrets and read them back. -/
def zeroise : Nat → State → Bool × State
  | 0, s => (false, s)
  | k + 1, s =>
    let d := draw s
    if Config.zeroiseReadsBack d.1 then (true, d.2) else zeroise k d.2

/-- Burn the first of a list of fuses that takes: the fuse burnt, if any. -/
def burnFuse : List Nat → State → Option Nat × State
  | [], s => (none, s)
  | i :: r, s =>
    let d := draw s
    if Config.fuseBurns d.1 then (some i, { d.2 with otp := { d.2.otp with breach := listUpd false d.2.otp.breach i (fun _ => true) } })
    else burnFuse r d.2

/-- The steps of R343 after the checks. -/
def debugOpen (s : State) : CmdOut :=
  let s1 := setF { s with sec := { s.sec with keys := [], idKey := false } } Reg.SEC_STATUS_KEYS_LOCKED 1
  let z := zeroise 3 s1
  if !z.1 then (enterFault z.2 .eccUncorrectable, none)
  else
    let s2 := raise (setF (setF z.2 Reg.SEC_STATUS_BREACH 1) Reg.SEC_STATUS_ID_VALID 0) Reg.SEC_EVENTS_BREACH_SET
    let b := burnFuse ((List.range 32).filter (fun i => !s2.otp.breach.getD i false)) s2
    match b.1 with
    | none => deny b.2 .timeout
    | some i => done (setF (auditEvent b.2 .breach 0x23 i 0) Reg.SEC_STATUS_DEBUG_OPEN 1)

/-- DEBUG_OPEN: the checks of R317 in their order; the unlock is consumed whatever the status. -/
def cmdDebugOpen (s : State) (ws : List Word) : CmdOut :=
  let s1 := setF s Reg.SYS_UNLOCK_ARMED 0
  if !s.pins.dbgEn then deny s1 .denied
  else if breachCount s = 32 then deny s1 .denied
  else if !getB s Reg.SYS_UNLOCK_ARMED then deny s1 .locked
  else if parF ws 0 0 16 ≠ 0xB4EA then deny s1 .badParam
  else debugOpen s1

/-! ### The audit log (R353, R354) -/

/-- Words 0 to 2,063 of the export block that would be built now, with its number of entries. -/
def exportBody (s : State) : List Word × Nat :=
  let n := min s.aud.unack 256
  let lost := (getF s Reg.AUD_LOST + 2 ^ 32 - s.aud.lostBase) % 2 ^ 32
  let flags := (auditFull s).toNat <<< 4 + getF s Reg.AUD_CFG_POLICY <<< 3 + getF s Reg.SEC_STATUS_BREACH <<< 2 +
    (!getB s Reg.SEC_STATUS_ID_VALID).toNat <<< 1 + (decide (lost ≠ 0)).toNat
  let entries := ((s.aud.ring.drop (s.aud.ring.length - s.aud.unack)).take n).flatten
  let head : List Word := [0x41554431, BitVec.ofNat 32 (getF s Reg.SYS_BOARD_ID <<< 16 + 1), (Config.serial >>> 32).setWidth 32,
    Config.serial.setWidth 32, s.aud.blockNo, s.aud.seq - BitVec.ofNat 32 s.aud.unack, BitVec.ofNat 32 (n <<< 23 + flags), BitVec.ofNat 32 lost]
  (head ++ s.aud.prevHash ++ entries ++ List.replicate (2048 - entries.length) 0, n)

/-- The block is built and signed; it becomes the pending block. -/
def buildBlock (s : State) : State :=
  let b := exportBody s
  let sign : List Word := if getB s Reg.SEC_STATUS_ID_VALID then (List.range 16).map (Config.identitySign (sha256 b.1)) else List.replicate 16 0
  { s with aud := { s.aud with block := some (b.1 ++ sign), blockCount := b.2, lostBase := getF s Reg.AUD_LOST } }

/-- AUDIT_EXPORT. -/
def cmdAuditExport (s : State) (ws : List Word) : CmdOut :=
  let part := parF ws 0 0 3
  if 4 < part ∨ (part ≠ 0 ∧ s.aud.block.isNone) then deny s .badParam
  else
    let s1 := if s.aud.block.isNone then buildBlock s else s
    answer s1 (((s1.aud.block.getD []).drop (512 * part)).take 512)

/-- AUDIT_ACK: the block's entries that the ring still counts are freed, EXPORT_PENDING clears; its own entry comes after. -/
def cmdAuditAck (s : State) (ws : List Word) : CmdOut :=
  match s.aud.block with
  | none => deny s .badParam
  | some b =>
    if par ws 0 ≠ s.aud.blockNo then deny s .badParam
    else
      let left := (b.getD 5 0 + BitVec.ofNat 32 s.aud.blockCount - (s.aud.seq - BitVec.ofNat 32 s.aud.unack)).toNat
      let freed := if left ≤ s.aud.blockCount then left else 0
      done { s with aud := { s.aud with unack := s.aud.unack - freed, block := none, blockNo := s.aud.blockNo + 1, prevHash := sha256 b } }

end Sys2Proof.Machine
end

