-- ==== Sys2Proof/Machine/CmdsNet.lean ====
section
/-! DEFINITION. What the commands of ports, switch core, Jieth links, gauges and GNSS do once they have started and passed the checks of
R309 (R106, R152 to R154, R204, R222, R243, R260, R316, R341). -/

namespace Sys2Proof.Machine

/-! ### PTP messages of the host (R316) -/

/-- PTP_SEND: a frame of up to 256 bytes joins the Sluice lane of its port, released as soon as the egress permits, a longer one TC7 (R194); with TS
the command runs until the frame leaves. A port whose key is missing sends nothing (R340); a queue that takes no frame gives BUSY. -/
def cmdPtpSend (s : State) (p : Packet) : CmdOut :=
  let ws := p.words
  let bytes := parF ws 0 16 12
  let f := parF ws 0 0 6
  if !hostAt s f then deny s .denied
  else if bytes < 60 ∨ 1514 < bytes ∨ ws.length ≠ 1 + (bytes + 3) / 4 ∨ 36 ≤ f then deny s .badParam
  else if !fabUp s f then deny s .badParam
  else if authMissing s f then
    deny (raise s Reg.SEC_EVENTS_AUTH_KEY_MISSING) .denied
  else
    let len := bytes + 4
    let h := hostHdr s f (ws.drop 1)
    let origin := if parF ws 0 8 1 = 1 then some p.id else none
    let s1 :=
      if len ≤ 256 then
        admitSluice s { f := f, len := len, src := ownSource, ingTs := todVis s, release := todVis s, hdr := h, body := ws.drop 1, origin := origin }
      else enqueue s { q := 8 * f + 7, len := len, src := ownSource, ingTs := todVis s, ptp := some h, body := ws.drop 1, origin := origin }
    if s1.fab.sluice.length = s.fab.sluice.length ∧ s1.fab.frames.length = s.fab.frames.length then deny s1 .busy
    else if origin.isSome then (s1, none)
    else done s1

/-- Reply words of a received message (R316). -/
def ptpWords (m : PtpMsg) : List Word := BitVec.ofNat 32 ((m.bytes % 4096) <<< 16 + m.port) :: (todWords m.ts ++ m.words)

/-- Messages from the front of the FIFO, up to `k` and to `room` reply words: their words and how many. -/
def ptpTake : Nat → Nat → List PtpMsg → List Word × Nat
  | 0, _, _ => ([], 0)
  | _, _, [] => ([], 0)
  | k + 1, room, m :: r =>
    let w := ptpWords m
    if w.length ≤ room then
      let t := ptpTake k (room - w.length) r
      (w ++ t.1, t.2 + 1)
    else ([], 0)

/-- The host handles PTP messages of some port (R96, R111): HOST_HANDLED is written, or in force on a port. -/
def hostSome (s : State) : Bool := getB s Reg.PTPG_PTP_MODE_HOST_HANDLED || s.ports.port.any (·.hostHandled)

/-- PTP_RECV. -/
def cmdPtpRecv (s : State) (ws : List Word) : CmdOut :=
  let n := parF ws 0 0 6
  if !hostSome s then deny s .denied
  else if n = 0 then deny s .badParam
  else
    let t := ptpTake n 512 s.ports.ptpRx
    answer { s with ports := { s.ports with ptpRx := s.ports.ptpRx.drop t.2 } } t.1

/-- BERM_RUN (R106). -/
def cmdBermRun (s : State) (ws : List Word) : CmdOut :=
  let p := parF ws 0 0 6
  if 36 ≤ p then deny s .badParam
  else if !fabUp s p then deny s .badParam
  else done (bermAsk s { port := p, lossy := decide (parF ws 0 8 1 = 1) })

/-! ### Switch tables (R204) -/

/-- Port mask of two words, low ports first. -/
def maskWords (lo hi : Word) : Nat := fieldOf hi 0 10 * 2 ^ 32 + lo.toNat

/-- MAC_EDIT. -/
def cmdMacEdit (s : State) (ws : List Word) : CmdOut :=
  let act := parF ws 0 28 4
  let vid := parF ws 0 0 12
  let mac := parF ws 1 0 16 * 2 ^ 32 + (par ws 2).toNat
  let mask := maskWords (par ws 3) (par ws 4)
  if 3 < act ∨ vid = 4095 ∨ (vid = 0 ∧ act ≠ 2) ∨ parF ws 4 10 22 ≠ 0 then deny s .badParam
  else
    match act with
    | 0 => if (macFind s vid mac).isNone && !bucketFree s vid mac then deny s .busy else done (macSet s { vid := vid, mac := mac, mask := mask, isStatic := true, seen := s.now })
    | 1 => done { s with fab := { s.fab with macs := s.fab.macs.filter (fun e => !(decide (e.vid = vid) && decide (e.mac = mac))) } }
    | 2 => done { s with fab := { s.fab with macs := s.fab.macs.filter (fun e =>
        e.isStatic || decide (Nat.land e.mask mask = 0) || (decide (vid ≠ 0) && decide (e.vid ≠ vid))) } }
    | _ =>
      match macFind s vid mac with
      | some e => answer s [BitVec.ofNat 32 e.mask, BitVec.ofNat 32 (e.mask / 2 ^ 32), BitVec.ofNat 32 (2 + e.isStatic.toNat)]
      | none => answer s [0, 0, 0]

/-- VLAN_EDIT. -/
def cmdVlanEdit (s : State) (ws : List Word) : CmdOut :=
  let vid := parF ws 0 0 12
  let member := maskWords (par ws 1) (par ws 2)
  let rest := s.fab.vlans.filter (fun v => decide (v.vid ≠ vid))
  if 1 < parF ws 0 28 4 ∨ vid = 0 ∨ vid = 4095 ∨ parF ws 2 10 22 ≠ 0 ∨ parF ws 4 10 22 ≠ 0 then deny s .badParam
  else if parF ws 0 28 4 = 0 then
    done { s with fab := { s.fab with vlans := rest ++ [⟨vid, member, Nat.land member (maskWords (par ws 3) (par ws 4))⟩] } }
  else done { s with fab := { s.fab with vlans := rest } }

/-- The gate list that GATE_LOAD's words give. -/
def gateListOf (ws : List Word) : GateList :=
  { base := (parF ws 1 0 16 * 2 ^ 32 + (par ws 2).toNat) * 10 ^ 9 + parF ws 3 0 30
    cycle := (par ws 4).toNat
    ext := (par ws 5).toNat
    entries := (ws.drop 6).map (fun w => (fieldOf w 24 8, fieldOf w 0 24)) }

/-- GATE_LOAD (R186, R204): the list becomes the pending one of its port. -/
def cmdGateLoad (s : State) (ws : List Word) : CmdOut :=
  let n := parF ws 0 16 9
  let f := parF ws 0 0 6
  let l := gateListOf ws
  if 36 ≤ f ∨ n = 0 ∨ 256 < n ∨ ws.length ≠ 6 + n ∨ 10 ^ 9 ≤ parF ws 3 0 30 ∨ l.cycle < 16 then deny s .badParam
  else if l.entries.any (fun e => decide (e.2 < 16)) then deny s .badParam
  else done (updGate (takeList s f) f (fun g => { g with admin := some l, start := listStart l (todCeilNs s) }))

/-! ### Jieth (R152 to R154, R222, R341) -/

/-- A valid worker address (R152). -/
def addrValid (addr : Nat) : Bool :=
  let depth := bits addr 12 3
  decide (1 ≤ depth) && decide (depth ≤ 4) && decide (bits addr 15 1 = 0) &&
    [1, 2, 3, 4].all (fun k => if k ≤ depth then decide (addrHop addr k ≤ 5) else decide (addrHop addr k = 0))

/-- Tag words over a command frame's header and packet under JIETH_AUTH (R341, R370), none without it. -/
def ctlTag (s : State) (words : List Word) (h : Word) : List Word :=
  if getB s Reg.SEC_CFG_JIETH_AUTH then (hmac ((spGet? s.sec.keys 64).getD []) (h :: words)).take 4 else []

/-- JIETH_RELAY (R154): the frame leaves on the first link of the path; the command runs until a reply or a failed link ends it. -/
def cmdJiethRelay (s : State) (p : Packet) : CmdOut :=
  let ws := p.words
  let inner := par ws 1
  let addr := parF ws 0 0 16
  let n := addrHop addr 1
  if 510 < fieldOf inner 6 10 then deny s .lenExceeds
  else if ws.length ≠ 2 + fieldOf inner 6 10 then deny s .badParam
  else if s.straps.jrole = 0 then deny s .denied
  else if !addrValid addr then deny s .badParam
  else if getB s Reg.SEC_CFG_JIETH_AUTH && !keyUsable s 64 then deny s .denied
  else if !(decide (linkRole s n = 2) && linkCarries s n) then (s, some (.timeout, [1]))
  else
    let s1 := ctlSend s n 0 (bits addr 12 3) (addr % 512 * 8) (ws.drop 1) (ctlTag s (ws.drop 1))
    ({ s1 with jieth := { s1.jieth with relays := s1.jieth.relays ++ [⟨p.id, n, fieldOf inner 16 8⟩] } }, none)

/-- What lane k of link n finds at its boundary after 4 markers (R221, R222): an alignment word or none, and whether the lane is aligned, which
only its own word makes it; free values. Another lane's word sets LANE_ORDER. -/
def laneSearch (s : State) (n k : Nat) : State :=
  let d := draw s
  let a := if (Config.laneAwFound d.1).toNat < 4 then (Config.laneAwFound d.1).toNat else 7
  let s1 := setF (setB d.2 (Reg.LINK_JPHY_LANE_ALIGNED n k) (decide (a = k) && Config.laneAligned d.1)) (Reg.LINK_JPHY_LANE_AW_FOUND n k) a
  raiseIf (decide (a < 4) && decide (a ≠ k)) s1 (Reg.LINK_JPHY_EVENTS_LANE_ORDER n)

/-- LANE_SLIP (R222): the boundary moves by COUNT positions modulo 33, and the lane searches there. -/
def cmdLaneSlip (s : State) (ws : List Word) : CmdOut :=
  let k := parF ws 0 16 5
  let n := parF ws 0 8 3
  let lane := parF ws 0 0 3
  if 5 < n ∨ 3 < lane then deny s .badParam
  else if linkState s n ≠ 2 ∧ !(decide (linkState s n = 6) && getB s (Reg.LINK_JPHY_LANE_LOST n lane)) then deny s .badParam
  else if getB s (Reg.LINK_LINK_CFG_AUTO_ALIGN n) then deny s .denied
  else
    let s1 := if k = 0 then s else
      setF (laneSearch s n lane) (Reg.LINK_JPHY_LANE_SLIP_POS n lane) ((getF s (Reg.LINK_JPHY_LANE_SLIP_POS n lane) + k) % 33)
    answer s1 [BitVec.ofNat 32 (getF s1 (Reg.LINK_JPHY_LANE_ALIGNED n lane) <<< 15 + getF s1 (Reg.LINK_JPHY_LANE_AW_FOUND n lane) <<< 12 +
      getF s1 (Reg.LINK_JPHY_LANE_SLIP_POS n lane))]

/-! ### Gauges (R243) -/

/-- GAUGE_CTRL. -/
def cmdGaugeCtrl (s : State) (ws : List Word) : CmdOut :=
  let l := gaugeNos.filter (fun n => decide (parF ws 0 n 1 = 1))
  if l = [] then deny s .badParam
  else if parF ws 0 31 1 = 1 then done (l.foldl gaugeStop s)
  else if l.any (gaugeCfgErr s) then deny s .badParam
  else done (l.foldl gaugeStart s)

/-- GAUGE_READ. -/
def cmdGaugeRead (s : State) (ws : List Word) : CmdOut :=
  let k := parF ws 0 8 8
  let n := parF ws 0 0 4
  if k = 0 ∨ 128 < k ∨ 11 < n then deny s .badParam
  else answer (updGauge s n (fun g => { g with fifo := g.fifo.drop k })) ((gaugeS s n).fifo.take k).flatten

/-! ### GNSS (R260) -/

/-- GNSS_CTRL. -/
def cmdGnssCtrl (s : State) (ws : List Word) : CmdOut :=
  match parF ws 0 28 4 with
  | 0 => done (gnssStop s)
  | 1 => done (gnssStart s false)
  | 2 => done (gnssStart s true)
  | 3 => done (gnssSurvey s)
  | 4 => done (updGnss s (fun g => { g with baseRun := true }))
  | _ => deny s .badParam

/-- GNSS_RAW_READ. -/
def cmdGnssRawRead (s : State) (ws : List Word) : CmdOut :=
  let n := parF ws 0 0 6
  if n = 0 then deny s .badParam
  else
    let r := popRaw n s.gnss.raw
    answer (updGnss s (fun g => { g with raw := r.2 })) r.1.flatten

/-- Signed 64-bit coordinate of two parameter words. -/
def coord (ws : List Word) (k : Nat) : Int := sext 64 ((par ws k).toNat * 2 ^ 32 + (par ws (k + 1)).toNat)

/-- A position between 6,340 km and 6,400 km from the Earth's centre, in mm (R260). -/
def nearEarth (x y z : Int) : Bool :=
  let r2 := x * x + y * y + z * z
  decide (6340000000 ^ 2 ≤ r2) && decide (r2 ≤ 6400000000 ^ 2)

/-- A position is held, unless its radius cannot be. -/
def posSet (s : State) (x y z : Int) : CmdOut := if nearEarth x y z then done (holdPosition s x y z) else deny s .badParam

/-- GNSS_POS_SET: the radius lies between 6,340 and 6,400 km. -/
def cmdGnssPosSet (s : State) (ws : List Word) : CmdOut := posSet s (coord ws 0) (coord ws 2) (coord ws 4)

end Sys2Proof.Machine
end

