-- ==== Sys2Proof/Machine/Packet.lean ====
section
/-! DEFINITION. Command packets (chapter 15): the opcode table (R314), how a packet reaches its queue (R302 to R307), when it starts (R308,
R310, R311), the checks at its start (R309), its replies (R303, R305, R306, R312), and the commands of the table that are packets or act
on queues. -/

namespace Sys2Proof.Machine

/-! ### The opcode table (R314) -/

/-- RUN: CONFIG, FREERUN, ACQUIRE, LOCKED, HOLDOVER, STANDBY, CALIBRATE, BENCH. -/
def modeRun : Mode → Bool
  | .reset | .boot | .timekeep | .fault => false
  | _ => true

/-- What the opcode table says of an opcode: whether it is audited, the modes it is legal in, the LEN it takes. -/
structure OpInfo where
  audited : Bool
  legal : Mode → Bool
  len : Nat → Bool

/-- The opcode table; none for an unassigned opcode. -/
def opInfo (op : Nat) : Option OpInfo :=
  let run := modeRun
  let fab := fun m => modeRun m && decide (m ≠ .bench)
  let act := fun m => modeRun m && decide (m ≠ .standby)
  let ex := fun k (n : Nat) => decide (n = k)
  let rg := fun a b (n : Nat) => decide (a ≤ n) && decide (n ≤ b)
  match op with
  | 0x01 => some ⟨true, run, ex 2⟩
  | 0x02 => some ⟨true, fun m => run m || decide (m = .fault), ex 0⟩
  | 0x03 => some ⟨false, run, ex 1⟩
  | 0x04 => some ⟨false, fun m => decide (m = .boot), rg 2 512⟩
  | 0x05 => some ⟨true, fun m => decide (m = .boot), ex 1⟩
  | 0x06 => some ⟨false, run, ex 1⟩
  | 0x07 => some ⟨false, fun m => run m || decide (m = .boot) || decide (m = .fault), ex 1⟩
  | 0x08 => some ⟨true, run, ex 2⟩
  | 0x10 => some ⟨true, run, ex 5⟩
  | 0x11 => some ⟨true, fun m => act m && decide (m ≠ .config) && decide (m ≠ .calibrate), ex 0⟩
  | 0x13 => some ⟨true, act, ex 1⟩
  | 0x20 => some ⟨true, act, ex 1⟩
  | 0x30 => some ⟨false, fab, rg 16 380⟩
  | 0x31 => some ⟨false, fab, ex 1⟩
  | 0x38 => some ⟨true, fab, ex 1⟩
  | 0x40 => some ⟨true, fab, ex 5⟩
  | 0x41 => some ⟨true, fab, ex 5⟩
  | 0x42 => some ⟨true, fab, rg 7 262⟩
  | 0x50 => some ⟨true, fab, rg 2 512⟩
  | 0x53 => some ⟨false, run, ex 1⟩
  | 0x60 => some ⟨true, run, ex 1⟩
  | 0x61 => some ⟨false, run, ex 1⟩
  | 0x70 => some ⟨true, run, ex 1⟩
  | 0x71 => some ⟨false, run, ex 1⟩
  | 0x72 => some ⟨true, run, ex 6⟩
  | 0x80 => some ⟨true, run, rg 2 512⟩
  | 0x81 => some ⟨true, run, ex 1⟩
  | 0x82 => some ⟨true, run, ex 1⟩
  | 0x83 => some ⟨false, run, ex 1⟩
  | 0x90 => some ⟨true, fun m => decide (m ∈ [.config, .freerun, .locked, .calibrate]), ex 3⟩
  | 0x91 => some ⟨true, fun m => decide (m = .config), ex 1⟩
  | 0x92 => some ⟨true, fun m => decide (m ∈ [.config, .calibrate]), rg 2 512⟩
  | 0x93 => some ⟨true, fun m => decide (m ∈ [.config, .freerun, .locked, .calibrate]), ex 1⟩
  | 0x94 => some ⟨false, fun m => run m || decide (m = .fault), ex 1⟩
  | 0xA0 => some ⟨true, fun m => decide (m = .config), ex 1⟩
  | 0xA1 => some ⟨false, fun m => run m || decide (m = .fault), ex 1⟩
  | 0xA2 => some ⟨true, fun m => run m || decide (m = .fault), ex 1⟩
  | 0xA3 => some ⟨true, run, ex 9⟩
  | 0xA4 => some ⟨true, run, ex 1⟩
  | 0xA5 => some ⟨false, run, ex 0⟩
  | 0xB0 => some ⟨false, run, ex 1⟩
  | 0xF0 => some ⟨false, run, ex 0⟩
  | 0xF1 => some ⟨false, run, ex 0⟩
  | 0xFF => some ⟨false, run, ex 0⟩
  | _ => none

/-! ### Start (R308 to R310) -/

/-- A packet that arrived before packet `id` has not completed (R308). -/
def earlierOpen (s : State) (id : Nat) : Bool :=
  s.cmd.running.any (fun r => decide (r.id < id)) || s.cmd.waiting.any (fun r => decide (r.id < id))

/-- The checks of R309 before those of the owning chapter; AUDIT_EXPORT and AUDIT_ACK pass a full log. -/
def startCheck (s : State) (p : Packet) : Option Status :=
  match opInfo p.opcode with
  | none => some .badOpcode
  | some i =>
    if !i.legal s.mode then some .wrongMode
    else if i.audited && auditFull s && decide (p.opcode ≠ 0xA1) && decide (p.opcode ≠ 0xA2) then some .auditFull
    else if !i.len p.words.length then some .badParam
    else none

/-- What a started packet's opcode does. -/
def runOpcode (s : State) (p : Packet) : CmdOut :=
  match p.opcode with
  | 0x01 => cmdModeSet s p
  | 0x02 => cmdDeviceReset s p
  | 0x03 => cmdSnapshot s p
  | 0x04 => cmdBootWrite s p
  | 0x05 => cmdBootGo s p
  | 0x06 => cmdQueueAbort s p
  | 0x07 => cmdRegRead s p
  | 0x08 => cmdRegWrite s p
  | 0x10 => cmdStep s p.words
  | 0x11 => cmdSlewAccept s
  | 0x13 => cmdAlignOutputs s p.words
  | 0x20 => cmdRefSelect s p.words
  | 0x30 => cmdPtpSend s p
  | 0x31 => cmdPtpRecv s p.words
  | 0x38 => cmdBermRun s p.words
  | 0x40 => cmdMacEdit s p.words
  | 0x41 => cmdVlanEdit s p.words
  | 0x42 => cmdGateLoad s p.words
  | 0x50 => cmdJiethRelay s p
  | 0x53 => cmdLaneSlip s p.words
  | 0x60 => cmdGaugeCtrl s p.words
  | 0x61 => cmdGaugeRead s p.words
  | 0x70 => cmdGnssCtrl s p.words
  | 0x71 => cmdGnssRawRead s p.words
  | 0x72 => cmdGnssPosSet s p.words
  | 0x80 => cmdEngLoad s p.words
  | 0x81 => cmdEngStart s p.words
  | 0x82 => cmdEngStop s p.words
  | 0x83 => cmdEngRead s p.words
  | 0x90 => cmdCalRun s p.words
  | 0x91 => cmdCalAccept s p
  | 0x92 => cmdCalLoad s p.words
  | 0x93 => cmdCalCommit s p
  | 0x94 => cmdCalRead s p.words
  | 0xA0 => cmdDebugOpen s p.words
  | 0xA1 => cmdAuditExport s p.words
  | 0xA2 => cmdAuditAck s p.words
  | 0xA3 => cmdKeyLoad s p.words
  | 0xA4 => cmdKeyZero s p.words
  | 0xA5 => cmdIdRead s
  | 0xB0 => cmdSampleRead s p.words
  | 0xF0 => if earlierOpen s p.id then (s, none) else done s
  | 0xF1 => (s, none)
  | _ => done s

/-- A waiting packet becomes a started one (R308, R310); the queue that last started is noted. -/
def takeUp (s : State) (p : Packet) : State :=
  perf { s with cmd := { s.cmd with
    waiting := s.cmd.waiting.filter (fun r => decide (r.id ≠ p.id)), running := s.cmd.running ++ [{ p with startAt := s.now }], lastQ := p.queue } }
    0x10 (reqCode p.iface p.queue) p.opcode 0 1

/-- A packet starts: a rejection of R309 is its final reply and its only effect, counted in AUDIT.REFUSED where the log is full (R352); an
accepted one does what its opcode says and completes, or runs on. -/
def startPacket (s : State) (p : Packet) : State :=
  let s1 := takeUp s p
  match startCheck s1 p with
  | some st => finish (if st = .auditFull then incF s1 Reg.AUD_REFUSED 1 else s1) p st []
  | none =>
    let r := runOpcode s1 p
    match r.2 with
    | some f => finish r.1 p f.1 f.2
    | none => r.1

/-- The first packet of queue q that has not started, if nothing holds it (R308). -/
def readyHead (s : State) (q : Nat) : Option Packet :=
  match s.cmd.waiting.find? (fun p => decide (p.queue = q)) with
  | some p => if fenceHolds s p then none else some p
  | none => none

/-- The packet that starts next: queues in rotation from the one after the queue that last started (R308). -/
def nextPacket (s : State) : Option Packet := ([1, 2, 3, 4].map (fun k => readyHead s ((s.cmd.lastQ + k) % 4))).findSome? id

/-! ### Arrival (R302, R305 to R307, R312) -/

/-- Header word of a packet (R302). -/
def packetHeader (opcode tag len : Nat) (fence reply : Bool) (queue : Nat) : Word :=
  BitVec.ofNat 32 ((opcode % 256) <<< 24 + (tag % 256) <<< 16 + (len % 1024) <<< 6 + fence.toNat <<< 5 + reply.toNat <<< 4 + (queue % 4) <<< 2)

/-- The interface takes packets (R22, R33, R37, R151). -/
def ifaceUp (s : State) (i : Iface) : Bool :=
  match i with
  | .pcie => s.pcieUp && decide (s.mode ≠ .timekeep)
  | .spi => powered s .host && decide (s.mode ≠ .reset) && decide (s.mode ≠ .timekeep)
  | .jieth n => linkCarries s n

/-- A command processor serves packets: in BOOT from the end of step 3 of R33; in FAULT under the three conditions of R35. -/
def cpServes (s : State) : Bool :=
  match s.mode with
  | .reset | .timekeep => false
  | .boot => powered s .host
  | .fault => s.cpUp && s.clk.started && decide (getF s Reg.SYS_FAULT_CAUSE_CODE ≠ 7)
  | _ => true

/-- The checks of R307 on a packet of `words` words delivered whose first is `h`. -/
def arrivalCheck (h : Word) (words : Nat) : Option Status :=
  let len := fieldOf h 6 10
  if words = 0 then some .truncated
  else if 512 < len then some .lenExceeds
  else if words < 1 + len then some .truncated
  else if (opInfo (fieldOf h 24 8)).isNone then some .badOpcode
  else none

/-- The packet that arrives with a header and words, `words` of them delivered; the queue over SPI and for relayed packets is the
header's, over PCI Express the ring's (R302). -/
def packetOf (s : State) (i : Iface) (queue slot words : Nat) (pkt : List Word) : Packet :=
  let h := if words = 0 then 0 else pkt.getD 0 0
  let op := fieldOf h 24 8
  { id := s.cmd.nextId
    iface := i
    queue := match i with | .pcie => queue | _ => fieldOf h 2 2
    slot := slot
    tag := fieldOf h 16 8
    opcode := op
    fence := decide (fieldOf h 5 1 = 1) || decide (op = 0xF1)
    reply := decide (fieldOf h 4 1 = 1)
    words := (List.range (fieldOf h 6 10)).map (fun k => pkt.getD (k + 1) 0)
    header := h
    bell := s.now
    aud := match opInfo op with | some x => x.audited | none => false }

/-- The place that a packet occupies from its doorbell: a PCI Express slot, whose reply slot the host has zeroed (R305), or an SPI buffer
(R306). -/
def occupy (s : State) (p : Packet) : State :=
  let s1 := { s with cmd := { s.cmd with nextId := s.cmd.nextId + 1 } }
  match p.iface with
  | .pcie => setReplySlot { s1 with cmd := { s1.cmd with slots := s1.cmd.slots ++ [(p.queue, p.slot)] } } p.queue p.slot [0]
  | .spi => { s1 with cmd := { s1.cmd with spi := s1.cmd.spi ++ [{ id := p.id, reply := p.reply }] } }
  | .jieth _ => s1

/-- A packet's doorbell: the packet that waits now, none where it creates no command. An occupied slot gives DB_REJECT, a full set of SPI
buffers SPI_REJECT, a failing check of R307 its final reply. -/
def arrive (s : State) (i : Iface) (queue slot words : Nat) (pkt : List Word) : State × Option Packet :=
  if !ifaceUp s i || !cpServes s then (s, none)
  else if i = .pcie ∧ (queue, slot) ∈ s.cmd.slots then (raise (incF s Reg.CMD_DB_REJECT 1) Reg.CMD_EVENTS_DB_BUSY, none)
  else if i = .spi ∧ 8 ≤ s.cmd.spi.length then (raise (incF s Reg.CMD_SPI_REJECT 1) Reg.CMD_EVENTS_SPI_REJECT, none)
  else
    let p := packetOf s i queue slot words pkt
    let s1 := occupy s p
    match arrivalCheck p.header words with
    | some st => (writeReply s1 p true st [], none)
    | none => ({ s1 with cmd := { s1.cmd with waiting := s1.cmd.waiting ++ [p] } }, some p)

/-- The acknowledgement QUEUED, for a packet that has not completed (R312). -/
def acknowledge (s : State) (p : Packet) : State :=
  if s.cmd.waiting.any (fun r => decide (r.id = p.id)) || isRunning s p.id then writeReply s p false .queued [] else s

/-- A packet arrives and waits to be started. -/
def doorbell (s : State) (i : Iface) (queue slot words : Nat) (pkt : List Word) (late : Bool) : State :=
  let a := arrive s i queue slot words pkt
  match a.2 with
  | none => a.1
  | some p => acknowledge (cpLate a.1 late p) p

/-- PCIE_DOORBELL (R305, R307): the doorbell of Q`queue` names a slot and WORDS; `pkt` is what the command slot holds. -/
def execPcieDoorbell (queue slot words : Nat) (pkt : List Word) (late : Bool) (s : State) : Host.Outcome State Fault Refusal :=
  if 4 ≤ queue ∨ 16 ≤ slot then .fault .noSuchResource else ok (doorbell s .pcie queue slot (words % 1024) pkt late)

/-- SPI_PACKET_WRITE (R306, R307). -/
def execSpiPacketWrite (pkt : List Word) (late : Bool) (s : State) : Host.Outcome State Fault Refusal :=
  ok (doorbell s .spi 0 0 pkt.length pkt late)

/-- PACKET_START (R308): the next packet whose conditions hold starts. -/
def execPacketStart (late : Bool) (s : State) : Host.Outcome State Fault Refusal :=
  if !cpServes s then ok s
  else
    match nextPacket s with
    | some p => ok (startPacket (cpLate s late p) p)
    | none => ok s

/-- SPI_REPLY_READ (R306): a status word, then the oldest reply entry; an entry read to its last word is consumed, and with a final reply
its buffer. -/
def execSpiReplyRead (complete : Bool) (s : State) : Host.Outcome State Fault Refusal :=
  if !ifaceUp s .spi then ok s
  else
    let l := s.cmd.spi.filter (fun b => b.words.isSome)
    match l with
    | [] => ok (emit s (.spi [0]))
    | b :: _ =>
      let s1 := emit s (.spi (BitVec.ofNat 32 (2 ^ 31 + l.length) :: b.words.getD []))
      if !complete then ok s1
      else
        let spi := if b.final then s.cmd.spi.filter (fun x => decide (x.id ≠ b.id))
          else s.cmd.spi.map (fun x => if x.id = b.id then { x with words := none } else x)
        ok (msixEdges (intActive s) { s1 with cmd := { s1.cmd with spi := spi } })

/-- FENCE_ALL_COMPLETE (R308): every packet with an earlier doorbell has completed. -/
def execFenceAllComplete (queue : Nat) (s : State) : Host.Outcome State Fault Refusal :=
  if 4 ≤ queue then .fault .noSuchResource
  else
    match s.cmd.running.find? (fun p => decide (p.queue = queue) && decide (p.opcode = 0xF0)) with
    | some p => if earlierOpen s p.id then ok s else ok (finish s p .ok [])
    | none => ok s

/-- SYNC_COMPLETE (R311): the BAR0 writes accepted before its doorbell have taken effect. -/
def execSyncComplete (queue : Nat) (s : State) : Host.Outcome State Fault Refusal :=
  if 4 ≤ queue then .fault .noSuchResource
  else
    match s.cmd.running.find? (fun p => decide (p.queue = queue) && decide (p.opcode = 0xF1)) with
    | some p => ok (finish s p .ok [])
    | none => ok s

/-! ### The opcodes as commands of the model -/

/-- The doorbell of a packet with an opcode and its parameter words: it starts at once where R308 lets it, and is acknowledged otherwise. -/
def opPacket (op : Nat) (c : CmdCtx) (ws : List Word) (s : State) : Host.Outcome State Fault Refusal :=
  let there := match c.iface with | .jieth n => decide (n < 6) | _ => true
  if 4 ≤ c.queue ∨ 16 ≤ c.slot ∨ there = false then .fault .noSuchResource
  else
    let a := arrive s c.iface c.queue c.slot (1 + ws.length) (packetHeader op c.tag ws.length false c.reply c.queue :: ws)
    match a.2 with
    | none => ok a.1
    | some p =>
      ok (acknowledge (match readyHead a.1 p.queue with | some h => if h.id = p.id then startPacket a.1 p else a.1 | none => a.1) p)

/-- MODE_SET (R25, R315). -/
def execModeSet (c : CmdCtx) (ws : List Word) (s : State) : Host.Outcome State Fault Refusal := opPacket 0x01 c ws s

/-- DEVICE_RESET (R31). -/
def execDeviceReset (c : CmdCtx) (ws : List Word) (s : State) : Host.Outcome State Fault Refusal := opPacket 0x02 c ws s

/-- SNAPSHOT (R315). -/
def execSnapshot (c : CmdCtx) (ws : List Word) (s : State) : Host.Outcome State Fault Refusal := opPacket 0x03 c ws s

/-- BOOT_WRITE (R315). -/
def execBootWrite (c : CmdCtx) (ws : List Word) (s : State) : Host.Outcome State Fault Refusal := opPacket 0x04 c ws s

/-- BOOT_GO (R33, R315). -/
def execBootGo (c : CmdCtx) (ws : List Word) (s : State) : Host.Outcome State Fault Refusal := opPacket 0x05 c ws s

/-- QUEUE_ABORT (R315). -/
def execQueueAbort (c : CmdCtx) (ws : List Word) (s : State) : Host.Outcome State Fault Refusal := opPacket 0x06 c ws s

/-- REG_READ (R315). -/
def execRegRead (c : CmdCtx) (ws : List Word) (s : State) : Host.Outcome State Fault Refusal := opPacket 0x07 c ws s

/-- REG_WRITE (R315). -/
def execRegWrite (c : CmdCtx) (ws : List Word) (s : State) : Host.Outcome State Fault Refusal := opPacket 0x08 c ws s

/-- STEP (R70, R79). -/
def execStep (c : CmdCtx) (ws : List Word) (s : State) : Host.Outcome State Fault Refusal := opPacket 0x10 c ws s

/-- SLEW_ACCEPT (R71). -/
def execSlewAccept (c : CmdCtx) (ws : List Word) (s : State) : Host.Outcome State Fault Refusal := opPacket 0x11 c ws s

/-- ALIGN_OUTPUTS (R74, R79). -/
def execAlignOutputs (c : CmdCtx) (ws : List Word) (s : State) : Host.Outcome State Fault Refusal := opPacket 0x13 c ws s

/-- REF_SELECT (R137). -/
def execRefSelect (c : CmdCtx) (ws : List Word) (s : State) : Host.Outcome State Fault Refusal := opPacket 0x20 c ws s

/-- PTP_SEND (R316). -/
def execPtpSend (c : CmdCtx) (ws : List Word) (s : State) : Host.Outcome State Fault Refusal := opPacket 0x30 c ws s

/-- PTP_RECV (R316). -/
def execPtpRecv (c : CmdCtx) (ws : List Word) (s : State) : Host.Outcome State Fault Refusal := opPacket 0x31 c ws s

/-- BERM_RUN (R106). -/
def execBermRun (c : CmdCtx) (ws : List Word) (s : State) : Host.Outcome State Fault Refusal := opPacket 0x38 c ws s

/-- MAC_EDIT (R204). -/
def execMacEdit (c : CmdCtx) (ws : List Word) (s : State) : Host.Outcome State Fault Refusal := opPacket 0x40 c ws s

/-- VLAN_EDIT (R204). -/
def execVlanEdit (c : CmdCtx) (ws : List Word) (s : State) : Host.Outcome State Fault Refusal := opPacket 0x41 c ws s

/-- GATE_LOAD (R186, R204). -/
def execGateLoad (c : CmdCtx) (ws : List Word) (s : State) : Host.Outcome State Fault Refusal := opPacket 0x42 c ws s

/-- JIETH_RELAY (R154). -/
def execJiethRelay (c : CmdCtx) (ws : List Word) (s : State) : Host.Outcome State Fault Refusal := opPacket 0x50 c ws s

/-- LANE_SLIP (R222). -/
def execLaneSlip (c : CmdCtx) (ws : List Word) (s : State) : Host.Outcome State Fault Refusal := opPacket 0x53 c ws s

/-- GAUGE_CTRL (R243). -/
def execGaugeCtrl (c : CmdCtx) (ws : List Word) (s : State) : Host.Outcome State Fault Refusal := opPacket 0x60 c ws s

/-- GAUGE_READ (R243). -/
def execGaugeRead (c : CmdCtx) (ws : List Word) (s : State) : Host.Outcome State Fault Refusal := opPacket 0x61 c ws s

/-- GNSS_CTRL (R260). -/
def execGnssCtrl (c : CmdCtx) (ws : List Word) (s : State) : Host.Outcome State Fault Refusal := opPacket 0x70 c ws s

/-- GNSS_RAW_READ (R260). -/
def execGnssRawRead (c : CmdCtx) (ws : List Word) (s : State) : Host.Outcome State Fault Refusal := opPacket 0x71 c ws s

/-- GNSS_POS_SET (R255, R260). -/
def execGnssPosSet (c : CmdCtx) (ws : List Word) (s : State) : Host.Outcome State Fault Refusal := opPacket 0x72 c ws s

/-- ENG_LOAD (R275). -/
def execEngLoad (c : CmdCtx) (ws : List Word) (s : State) : Host.Outcome State Fault Refusal := opPacket 0x80 c ws s

/-- ENG_START (R275). -/
def execEngStart (c : CmdCtx) (ws : List Word) (s : State) : Host.Outcome State Fault Refusal := opPacket 0x81 c ws s

/-- ENG_STOP (R275). -/
def execEngStop (c : CmdCtx) (ws : List Word) (s : State) : Host.Outcome State Fault Refusal := opPacket 0x82 c ws s

/-- ENG_READ (R275). -/
def execEngRead (c : CmdCtx) (ws : List Word) (s : State) : Host.Outcome State Fault Refusal := opPacket 0x83 c ws s

/-- CAL_RUN (R287). -/
def execCalRun (c : CmdCtx) (ws : List Word) (s : State) : Host.Outcome State Fault Refusal := opPacket 0x90 c ws s

/-- CAL_ACCEPT (R300). -/
def execCalAccept (c : CmdCtx) (ws : List Word) (s : State) : Host.Outcome State Fault Refusal := opPacket 0x91 c ws s

/-- CAL_LOAD (R300). -/
def execCalLoad (c : CmdCtx) (ws : List Word) (s : State) : Host.Outcome State Fault Refusal := opPacket 0x92 c ws s

/-- CAL_COMMIT (R300). -/
def execCalCommit (c : CmdCtx) (ws : List Word) (s : State) : Host.Outcome State Fault Refusal := opPacket 0x93 c ws s

/-- CAL_READ (R300). -/
def execCalRead (c : CmdCtx) (ws : List Word) (s : State) : Host.Outcome State Fault Refusal := opPacket 0x94 c ws s

/-- DEBUG_OPEN (R317, R343). -/
def execDebugOpen (c : CmdCtx) (ws : List Word) (s : State) : Host.Outcome State Fault Refusal := opPacket 0xA0 c ws s

/-- AUDIT_EXPORT (R354). -/
def execAuditExport (c : CmdCtx) (ws : List Word) (s : State) : Host.Outcome State Fault Refusal := opPacket 0xA1 c ws s

/-- AUDIT_ACK (R354). -/
def execAuditAck (c : CmdCtx) (ws : List Word) (s : State) : Host.Outcome State Fault Refusal := opPacket 0xA2 c ws s

/-- KEY_LOAD (R339). -/
def execKeyLoad (c : CmdCtx) (ws : List Word) (s : State) : Host.Outcome State Fault Refusal := opPacket 0xA3 c ws s

/-- KEY_ZERO (R339). -/
def execKeyZero (c : CmdCtx) (ws : List Word) (s : State) : Host.Outcome State Fault Refusal := opPacket 0xA4 c ws s

/-- ID_READ (R339). -/
def execIdRead (c : CmdCtx) (ws : List Word) (s : State) : Host.Outcome State Fault Refusal := opPacket 0xA5 c ws s

/-- SAMPLE_READ (R278). -/
def execSampleRead (c : CmdCtx) (ws : List Word) (s : State) : Host.Outcome State Fault Refusal := opPacket 0xB0 c ws s

/-- FENCE_ALL (R308). -/
def execFenceAll (c : CmdCtx) (ws : List Word) (s : State) : Host.Outcome State Fault Refusal := opPacket 0xF0 c ws s

/-- SYNC (R311). -/
def execSync (c : CmdCtx) (ws : List Word) (s : State) : Host.Outcome State Fault Refusal := opPacket 0xF1 c ws s

/-- NOP (R314). -/
def execNop (c : CmdCtx) (ws : List Word) (s : State) : Host.Outcome State Fault Refusal := opPacket 0xFF c ws s

end Sys2Proof.Machine
end

