-- ==== Sys2Proof/Machine/JiethCtl.lean ====
section
/-! DEFINITION. Control frames between devices of a tree (R151 to R154, R341): acknowledgement, forwarding along the path, delivery of a
relayed packet at the final device, replies on their way back, and the retry. -/

namespace Sys2Proof.Machine

/-- HOPS_LEFT of a control frame header (R151). -/
def ctlHops (h : Word) : Nat := fieldOf h 19 3

/-- PATH of a control frame header (R151). -/
def ctlPath (h : Word) : Nat := fieldOf h 7 12

/-- SEQ of a control frame header (R151). -/
def ctlSeq (h : Word) : BitVec 8 := BitVec.ofNat 8 (fieldOf h 22 8)

/-- TAG of a packet's or a reply's header word: [23:16] of a packet, [7:0] of a reply (R302, R303). -/
def innerTag (f : CtlFrame) (isReply : Bool) : Nat := fieldOf (f.words.getD 0 0) (if isReply then 0 else 16) 8

/-- A command frame is forwarded to the next link of its path, its tag unchecked; one that names a link not UP is answered (R153). -/
def ctlForward (s : State) (n : Nat) (f : CtlFrame) : State :=
  let m := ctlPath f.header / 512
  if decide (m < 6) && linkCarries s m then
    let s1 := ctlSend s m 0 (ctlHops f.header - 1) (ctlPath f.header * 8 % 4096) f.words (fun _ => f.tag)
    { s1 with jieth := { s1.jieth with back := s1.jieth.back ++ [(m, n, innerTag f false)] } }
  else hopTimeout s n (innerTag f false)

/-- The tag of a command frame passes at its final device (R341): it covers the header as it arrived, or, where hops of a path have rewritten SEQ,
HOPS_LEFT and PATH, the header as it was issued, which the arrived one does not tell (a free value, log entry 67). -/
def ctlTagOk (s : State) (f : CtlFrame) : Bool :=
  decide (f.tag = ctlTag s f.words f.header) || (decide (1 < ownDepth s) && decide (f.tag = ctlTag s f.words (Config.tagHeader f.header)))

/-- A command frame at its final device: the tag is checked under JIETH_AUTH (R341), then the packet enters the queue its header
names. -/
def ctlDeliver (s : State) (n : Nat) (f : CtlFrame) : State :=
  if getB s Reg.SEC_CFG_JIETH_AUTH && (!keyUsable s 64 || !ctlTagOk s f) then
    ctlReply s n [replyHeader s true 0 .denied (innerTag f false)]
  else doorbell s (.jieth n) 0 0 f.words.length f.words false

/-- A reply frame: back along the link its command came by, or the end of a relay (R153, R154): a hop's TIMEOUT has one word, which names
the hop by its depth in the tree, so from the issuing device it is that less the device's own depth (log entry 66); any other reply is the
inner reply. -/
def ctlTakeReply (s : State) (n : Nat) (f : CtlFrame) : State :=
  let tag := innerTag f true
  match s.jieth.back.find? (fun b => decide (b.1 = n) && decide (b.2.2 = tag)) with
  | some b => ctlReply { s with jieth := { s.jieth with back := s.jieth.back.erase b } } b.2.1 f.words
  | none =>
    match s.jieth.relays.find? (fun r => decide (r.link = n) && decide (r.tag = tag)) with
    | none => s
    | some r =>
      let s1 := { s with jieth := { s.jieth with relays := s.jieth.relays.erase r } }
      let h := f.words.getD 0 0
      if fieldOf h 8 8 = 0x1A ∧ fieldOf h 16 10 = 1 then finishId s1 (some r.id) .timeout [BitVec.ofNat 32 (fieldOf (f.words.getD 1 0) 0 3 - ownDepth s)]
      else finishId s1 (some r.id) .ok f.words

/-- CONTROL_FRAME_RX (R151 to R154): a link that carries acknowledges a command or a reply in hardware; a repeated SEQ is not delivered
again. -/
def execControlFrameRx (n : Nat) (f : CtlFrame) (s : State) : Host.Outcome State Fault Refusal :=
  if 6 ≤ n then .fault .noSuchResource
  else if !linkCarries s n then ok s
  else
    let kind := fieldOf f.header 30 2
    let seq := ctlSeq f.header
    if kind = 3 then ok s
    else if kind = 2 then
      ok (updLink s n (fun l => { l with ctlWait := l.ctlWait.filter (fun w => decide (ctlSeq w.frame.header ≠ seq)) }))
    else
      let s1 := ctlOut s n (ctlHeader 2 seq 0 0) []
      if (linkS s n).ctlRx = some seq then ok s1
      else
        let s2 := updLink s1 n (fun l => { l with ctlRx := some seq })
        if kind = 1 then ok (ctlTakeReply s2 n f)
        else if 1 < ctlHops f.header then ok (ctlForward s2 n f)
        else ok (ctlDeliver s2 n f)

/-- CONTROL_ACK_TIMEOUT (R151): the oldest unacknowledged frame is sent once more; the second time the link fails (R148). -/
def execControlAckTimeout (n : Nat) (s : State) : Host.Outcome State Fault Refusal :=
  if 6 ≤ n then .fault .noSuchResource
  else
    match (linkS s n).ctlWait with
    | [] => ok s
    | w :: r =>
      if w.retried then ok (failLink s n)
      else
        let s1 := updLink s n (fun l => { l with ctlWait := { w with retried := true } :: r })
        ok (ctlOut (raise (incF s1 (Reg.LINK_RETRY_CNT n) 1) (Reg.LINK_LINK_EVENTS_RETRY n)) n w.frame.header (w.frame.words ++ w.frame.tag))

end Sys2Proof.Machine
end

