-- ==== Sys2Proof/Machine/Dispatch.lean ====
section
/-! DEFINITION. The meaning of every command: one arm per constructor of `Instr`, in the operation table's order. -/

namespace Sys2Proof.Machine

def exec (i : Instr) (s : State) : Host.Outcome State Fault Refusal :=
  match i with
  | .modeSet c ws => Sys2Proof.Machine.execModeSet c ws s
  | .deviceReset c ws => Sys2Proof.Machine.execDeviceReset c ws s
  | .snapshot c ws => Sys2Proof.Machine.execSnapshot c ws s
  | .bootWrite c ws => Sys2Proof.Machine.execBootWrite c ws s
  | .bootGo c ws => Sys2Proof.Machine.execBootGo c ws s
  | .queueAbort c ws => Sys2Proof.Machine.execQueueAbort c ws s
  | .regRead c ws => Sys2Proof.Machine.execRegRead c ws s
  | .regWrite c ws => Sys2Proof.Machine.execRegWrite c ws s
  | .stepTod c ws => Sys2Proof.Machine.execStep c ws s
  | .slewAccept c ws => Sys2Proof.Machine.execSlewAccept c ws s
  | .alignOutputs c ws => Sys2Proof.Machine.execAlignOutputs c ws s
  | .refSelect c ws => Sys2Proof.Machine.execRefSelect c ws s
  | .ptpSend c ws => Sys2Proof.Machine.execPtpSend c ws s
  | .ptpRecv c ws => Sys2Proof.Machine.execPtpRecv c ws s
  | .bermRun c ws => Sys2Proof.Machine.execBermRun c ws s
  | .macEdit c ws => Sys2Proof.Machine.execMacEdit c ws s
  | .vlanEdit c ws => Sys2Proof.Machine.execVlanEdit c ws s
  | .gateLoad c ws => Sys2Proof.Machine.execGateLoad c ws s
  | .jiethRelay c ws => Sys2Proof.Machine.execJiethRelay c ws s
  | .laneSlip c ws => Sys2Proof.Machine.execLaneSlip c ws s
  | .gaugeCtrl c ws => Sys2Proof.Machine.execGaugeCtrl c ws s
  | .gaugeRead c ws => Sys2Proof.Machine.execGaugeRead c ws s
  | .gnssCtrl c ws => Sys2Proof.Machine.execGnssCtrl c ws s
  | .gnssRawRead c ws => Sys2Proof.Machine.execGnssRawRead c ws s
  | .gnssPosSet c ws => Sys2Proof.Machine.execGnssPosSet c ws s
  | .engLoad c ws => Sys2Proof.Machine.execEngLoad c ws s
  | .engStart c ws => Sys2Proof.Machine.execEngStart c ws s
  | .engStop c ws => Sys2Proof.Machine.execEngStop c ws s
  | .engRead c ws => Sys2Proof.Machine.execEngRead c ws s
  | .calRun c ws => Sys2Proof.Machine.execCalRun c ws s
  | .calAccept c ws => Sys2Proof.Machine.execCalAccept c ws s
  | .calLoad c ws => Sys2Proof.Machine.execCalLoad c ws s
  | .calCommit c ws => Sys2Proof.Machine.execCalCommit c ws s
  | .calRead c ws => Sys2Proof.Machine.execCalRead c ws s
  | .debugOpen c ws => Sys2Proof.Machine.execDebugOpen c ws s
  | .auditExport c ws => Sys2Proof.Machine.execAuditExport c ws s
  | .auditAck c ws => Sys2Proof.Machine.execAuditAck c ws s
  | .keyLoad c ws => Sys2Proof.Machine.execKeyLoad c ws s
  | .keyZero c ws => Sys2Proof.Machine.execKeyZero c ws s
  | .idRead c ws => Sys2Proof.Machine.execIdRead c ws s
  | .sampleRead c ws => Sys2Proof.Machine.execSampleRead c ws s
  | .fenceAll c ws => Sys2Proof.Machine.execFenceAll c ws s
  | .sync c ws => Sys2Proof.Machine.execSync c ws s
  | .nop c ws => Sys2Proof.Machine.execNop c ws s
  | .fenceAllComplete queue => Sys2Proof.Machine.execFenceAllComplete queue s
  | .syncComplete queue => Sys2Proof.Machine.execSyncComplete queue s
  | .pcieDoorbell queue slot words pkt late => Sys2Proof.Machine.execPcieDoorbell queue slot words pkt late s
  | .spiPacketWrite pkt late => Sys2Proof.Machine.execSpiPacketWrite pkt late s
  | .spiReplyRead complete => Sys2Proof.Machine.execSpiReplyRead complete s
  | .packetStart late => Sys2Proof.Machine.execPacketStart late s
  | .registerWrite addr be v => Sys2Proof.Machine.execRegisterWrite addr be v s
  | .corRead addr => Sys2Proof.Machine.execCorRead addr s
  | .unlock v => Sys2Proof.Machine.execUnlock v s
  | .nominalLoWrite v => Sys2Proof.Machine.execNominalLoWrite v s
  | .incLoWrite v => Sys2Proof.Machine.execIncLoWrite v s
  | .outPstepLoWrite n v => Sys2Proof.Machine.execOutPstepLoWrite n v s
  | .applyWrite hbm v => Sys2Proof.Machine.execApplyWrite hbm v s
  | .returnWrite n v => Sys2Proof.Machine.execReturnWrite n v s
  | .armWrite n v => Sys2Proof.Machine.execArmWrite n v s
  | .outEnWrite n v => Sys2Proof.Machine.execOutEnWrite n v s
  | .retrain n v => Sys2Proof.Machine.execRetrain n v s
  | .linkRoleWrite n v => Sys2Proof.Machine.execLinkRoleWrite n v s
  | .slotCfgWrite n v => Sys2Proof.Machine.execSlotCfgWrite n v s
  | .phyCfgWrite p v => Sys2Proof.Machine.execPhyCfgWrite p v s
  | .mboxInWrite e v => Sys2Proof.Machine.execMboxInWrite e v s
  | .mboxOutRead e => Sys2Proof.Machine.execMboxOutRead e s
  | .result3Read n => Sys2Proof.Machine.execResult3Read n s
  | .svnSet v => Sys2Proof.Machine.execSvnSet v s
  | .keyRevoke v => Sys2Proof.Machine.execKeyRevoke v s
  | .freeze v => Sys2Proof.Machine.execFreeze v s
  | .sampleReset v => Sys2Proof.Machine.execSampleReset v s
  | .clrWrite h v => Sys2Proof.Machine.execClrWrite h v s
  | .steerCfgWrite v => Sys2Proof.Machine.execSteerCfgWrite v s
  | .debugWrite t v => Sys2Proof.Machine.execDebugWrite t v s
  | .powerOn => Sys2Proof.Machine.execPowerOn s
  | .aonSupplyLoss => Sys2Proof.Machine.execAonSupplyLoss s
  | .railOutOfWindow r => Sys2Proof.Machine.execRailOutOfWindow r s
  | .supplyCollapse r => Sys2Proof.Machine.execSupplyCollapse r s
  | .aonExit b => Sys2Proof.Machine.execAonExit b s
  | .resetNLow => Sys2Proof.Machine.execResetNLow s
  | .resetRelease b => Sys2Proof.Machine.execResetRelease b s
  | .perstNLow => Sys2Proof.Machine.execPerstNLow s
  | .trstNLow => Sys2Proof.Machine.execTrstNLow s
  | .bootRootTimeout => Sys2Proof.Machine.execBootRootTimeout s
  | .faultEntry cause => Sys2Proof.Machine.execFaultEntry cause s
  | .powerSequenceDone => Sys2Proof.Machine.execPowerSequenceDone s
  | .keepPowerDown => Sys2Proof.Machine.execKeepPowerDown s
  | .wakeEvent src => Sys2Proof.Machine.execWakeEvent src s
  | .wakeComplete r => Sys2Proof.Machine.execWakeComplete r s
  | .debugClose => Sys2Proof.Machine.execDebugClose s
  | .oscLos => Sys2Proof.Machine.execOscLos s
  | .oscLosTimeout => Sys2Proof.Machine.execOscLosTimeout s
  | .rootLock => Sys2Proof.Machine.execRootLock s
  | .ovenOkChange level => Sys2Proof.Machine.execOvenOkChange level s
  | .ovenLowTimeout => Sys2Proof.Machine.execOvenLowTimeout s
  | .slopeEvaluation n d => Sys2Proof.Machine.execSlopeEvaluation n d s
  | .tbWarmRise x => Sys2Proof.Machine.execTbWarmRise x s
  | .helperLock locked => Sys2Proof.Machine.execHelperLock locked s
  | .pllLock hbm => Sys2Proof.Machine.execPllLock hbm s
  | .pllLockTimeout hbm => Sys2Proof.Machine.execPllLockTimeout hbm s
  | .dllLock n => Sys2Proof.Machine.execDllLock n s
  | .dllUnlock n => Sys2Proof.Machine.execDllUnlock n s
  | .periodBoundary n => Sys2Proof.Machine.execPeriodBoundary n s
  | .compareFire n => Sys2Proof.Machine.execCompareFire n s
  | .todSecondBoundary => Sys2Proof.Machine.execTodSecondBoundary s
  | .weirSlewEnd => Sys2Proof.Machine.execWeirSlewEnd s
  | .rampEnd => Sys2Proof.Machine.execRampEnd s
  | .recoveryWindowClose => Sys2Proof.Machine.execRecoveryWindowClose s
  | .slotQualified n m => Sys2Proof.Machine.execSlotQualified n m s
  | .slotQualLost n cause => Sys2Proof.Machine.execSlotQualLost n cause s
  | .gnssIncons n => Sys2Proof.Machine.execGnssIncons n s
  | .wtrExpiry n => Sys2Proof.Machine.execWtrExpiry n s
  | .selectorEvaluation meas => Sys2Proof.Machine.execSelectorEvaluation meas s
  | .switchCommit => Sys2Proof.Machine.execSwitchCommit s
  | .switchWindowEnd m => Sys2Proof.Machine.execSwitchWindowEnd m s
  | .holdOffEnd => Sys2Proof.Machine.execHoldOffEnd s
  | .historyRecord wholeSecond => Sys2Proof.Machine.execHistoryRecord wholeSecond s
  | .holdSpecExpiry => Sys2Proof.Machine.execHoldSpecExpiry s
  | .phaseWord p beats => Sys2Proof.Machine.execPhaseWord p beats s
  | .portSignalLoss p => Sys2Proof.Machine.execPortSignalLoss p s
  | .ptpEventRx p m => Sys2Proof.Machine.execPtpEventRx p m s
  | .linkDelayUpdate p a b c d => Sys2Proof.Machine.execLinkDelayUpdate p a b c d s
  | .syncIntervalBoundary p => Sys2Proof.Machine.execSyncIntervalBoundary p s
  | .bermRequest p t => Sys2Proof.Machine.execBermRequest p t s
  | .bermGapRequest p a => Sys2Proof.Machine.execBermGapRequest p a s
  | .bermWindowStart p => Sys2Proof.Machine.execBermWindowStart p s
  | .bermWindowEnd txA loopA txB loopB dieTemp => Sys2Proof.Machine.execBermWindowEnd txA loopA txB loopB dieTemp s
  | .frameRx f fr => Sys2Proof.Machine.execFrameRx f fr s
  | .spillStagedWrite q => Sys2Proof.Machine.execSpillStagedWrite q s
  | .spillReadback q => Sys2Proof.Machine.execSpillReadback q s
  | .frameTx x => Sys2Proof.Machine.execFrameTx x s
  | .macAgeOut vid mac => Sys2Proof.Machine.execMacAgeOut vid mac s
  | .gateChange f => Sys2Proof.Machine.execGateChange f s
  | .gateListTakeEffect f => Sys2Proof.Machine.execGateListTakeEffect f s
  | .sluiceRelease f c => Sys2Proof.Machine.execSluiceRelease f c s
  | .linkUp p x => Sys2Proof.Machine.execLinkUp p x s
  | .portDown f laneLost => Sys2Proof.Machine.execPortDown f laneLost s
  | .flushDone f => Sys2Proof.Machine.execFlushDone f s
  | .jiethClockLock n => Sys2Proof.Machine.execJiethClockLock n s
  | .jiethAlignDone n words skew => Sys2Proof.Machine.execJiethAlignDone n words skew s
  | .jiethHello n h => Sys2Proof.Machine.execJiethHello n h s
  | .jiethDelayDone n r1 r2 => Sys2Proof.Machine.execJiethDelayDone n r1 r2 s
  | .jiethTrainingTimeout n => Sys2Proof.Machine.execJiethTrainingTimeout n s
  | .failedTimeout n => Sys2Proof.Machine.execFailedTimeout n s
  | .markerRx n m => Sys2Proof.Machine.execMarkerRx n m s
  | .timingFrameTx n => Sys2Proof.Machine.execTimingFrameTx n s
  | .timingFrameRx n a b => Sys2Proof.Machine.execTimingFrameRx n a b s
  | .rtUpdate n m => Sys2Proof.Machine.execRtUpdate n m s
  | .fwdClkLost n => Sys2Proof.Machine.execFwdClkLost n s
  | .controlFrameRx n f => Sys2Proof.Machine.execControlFrameRx n f s
  | .controlAckTimeout n => Sys2Proof.Machine.execControlAckTimeout n s
  | .jiethFrameRx n f => Sys2Proof.Machine.execJiethFrameRx n f s
  | .flowRx n f => Sys2Proof.Machine.execFlowRx n f s
  | .laneLost n k => Sys2Proof.Machine.execLaneLost n k s
  | .pairSwitch n => Sys2Proof.Machine.execPairSwitch n s
  | .laneRejoined n k => Sys2Proof.Machine.execLaneRejoined n k s
  | .roleInTaken v => Sys2Proof.Machine.execRoleInTaken v s
  | .yieldTimerExpiry => Sys2Proof.Machine.execYieldTimerExpiry s
  | .dualActiveClear => Sys2Proof.Machine.execDualActiveClear s
  | .mirrorStateFrameTx => Sys2Proof.Machine.execMirrorStateFrameTx s
  | .mirrorStateFrameRx f => Sys2Proof.Machine.execMirrorStateFrameRx f s
  | .mirrorLost => Sys2Proof.Machine.execMirrorLost s
  | .gaugeEdge n ps => Sys2Proof.Machine.execGaugeEdge n ps s
  | .gaugeConversionDone n coarse sub count => Sys2Proof.Machine.execGaugeConversionDone n coarse sub count s
  | .freqGateEnd n => Sys2Proof.Machine.execFreqGateEnd n s
  | .coarseWrap => Sys2Proof.Machine.execCoarseWrap s
  | .gaugeCorrectionApply n => Sys2Proof.Machine.execGaugeCorrectionApply n s
  | .spectralScan lines => Sys2Proof.Machine.execSpectralScan lines s
  | .jamUpdate x b => Sys2Proof.Machine.execJamUpdate x b s
  | .noiseRefDone power => Sys2Proof.Machine.execNoiseRefDone power s
  | .acquisitionDone p c k n => Sys2Proof.Machine.execAcquisitionDone p c k n s
  | .channelTrack ch => Sys2Proof.Machine.execChannelTrack ch s
  | .channelLost ch => Sys2Proof.Machine.execChannelLost ch s
  | .navDataDecode d => Sys2Proof.Machine.execNavDataDecode d s
  | .codeEpoch meas => Sys2Proof.Machine.execCodeEpoch meas s
  | .gnssSolution fits => Sys2Proof.Machine.execGnssSolution fits s
  | .surveyDone x y z => Sys2Proof.Machine.execSurveyDone x y z s
  | .rawEpoch recs => Sys2Proof.Machine.execRawEpoch recs s
  | .ueAdd e d a b => Sys2Proof.Machine.execUeAdd e d a b s
  | .ueSub e d a b => Sys2Proof.Machine.execUeSub e d a b s
  | .ueAdds e d a b => Sys2Proof.Machine.execUeAdds e d a b s
  | .ueSubs e d a b => Sys2Proof.Machine.execUeSubs e d a b s
  | .ueAnd e d a b => Sys2Proof.Machine.execUeAnd e d a b s
  | .ueOr e d a b => Sys2Proof.Machine.execUeOr e d a b s
  | .ueXor e d a b => Sys2Proof.Machine.execUeXor e d a b s
  | .ueShl e d a b => Sys2Proof.Machine.execUeShl e d a b s
  | .ueShr e d a b => Sys2Proof.Machine.execUeShr e d a b s
  | .ueSar e d a b => Sys2Proof.Machine.execUeSar e d a b s
  | .ueCmp e d a b => Sys2Proof.Machine.execUeCmp e d a b s
  | .ueMul e d a b => Sys2Proof.Machine.execUeMul e d a b s
  | .ueMac e d a b => Sys2Proof.Machine.execUeMac e d a b s
  | .ueMsu e d a b => Sys2Proof.Machine.execUeMsu e d a b s
  | .ueMulu e d a b => Sys2Proof.Machine.execUeMulu e d a b s
  | .ueMacu e d a b => Sys2Proof.Machine.execUeMacu e d a b s
  | .ueAccx e d a b => Sys2Proof.Machine.execUeAccx e d a b s
  | .ueAccl e d a b => Sys2Proof.Machine.execUeAccl e d a b s
  | .ueAsra e d a b => Sys2Proof.Machine.execUeAsra e d a b s
  | .ueAcca e d a b => Sys2Proof.Machine.execUeAcca e d a b s
  | .ueLd e d a b => Sys2Proof.Machine.execUeLd e d a b s
  | .ueSt e d a b => Sys2Proof.Machine.execUeSt e d a b s
  | .ueLdi e d imm => Sys2Proof.Machine.execUeLdi e d imm s
  | .ueLim e d imm => Sys2Proof.Machine.execUeLim e d imm s
  | .ueLit e d imm => Sys2Proof.Machine.execUeLit e d imm s
  | .ueAddi e d imm => Sys2Proof.Machine.execUeAddi e d imm s
  | .ueShli e d imm => Sys2Proof.Machine.execUeShli e d imm s
  | .ueSari e d imm => Sys2Proof.Machine.execUeSari e d imm s
  | .ueIn e d imm => Sys2Proof.Machine.execUeIn e d imm s
  | .ueOutSel e d => Sys2Proof.Machine.execUeOutSel e d s
  | .ueOutMboxOut e d => Sys2Proof.Machine.execUeOutMboxOut e d s
  | .ueOutTrimStage e d imm => Sys2Proof.Machine.execUeOutTrimStage e d imm s
  | .ueFtrimCommit e d => Sys2Proof.Machine.execUeFtrimCommit e d s
  | .uePtrimCommit e d => Sys2Proof.Machine.execUePtrimCommit e d s
  | .ueOutTimer e d => Sys2Proof.Machine.execUeOutTimer e d s
  | .ueOutIrq e d => Sys2Proof.Machine.execUeOutIrq e d s
  | .ueWait e imm => Sys2Proof.Machine.execUeWait e imm s
  | .waitWake e => Sys2Proof.Machine.execWaitWake e s
  | .ueMark e imm => Sys2Proof.Machine.execUeMark e imm s
  | .ueJ e target => Sys2Proof.Machine.execUeJ e target s
  | .ueBz e target => Sys2Proof.Machine.execUeBz e target s
  | .ueBnz e target => Sys2Proof.Machine.execUeBnz e target s
  | .ueBlt e target => Sys2Proof.Machine.execUeBlt e target s
  | .ueBge e target => Sys2Proof.Machine.execUeBge e target s
  | .ueCall e target => Sys2Proof.Machine.execUeCall e target s
  | .ueRet e => Sys2Proof.Machine.execUeRet e s
  | .ueHalt e => Sys2Proof.Machine.execUeHalt e s
  | .engineTimerExpiry e => Sys2Proof.Machine.execEngineTimerExpiry e s
  | .userWatchdogExpiry e => Sys2Proof.Machine.execUserWatchdogExpiry e s
  | .steerTimeout => Sys2Proof.Machine.execSteerTimeout s
  | .counterWrap n => Sys2Proof.Machine.execCounterWrap n s
  | .calMeasurementDone r1 r2 => Sys2Proof.Machine.execCalMeasurementDone r1 r2 s
  | .calStoreDone failed => Sys2Proof.Machine.execCalStoreDone failed s
  | .loadClassEval d => Sys2Proof.Machine.execLoadClassEval d s
  | .engineNop e => Sys2Proof.Machine.execEngineNop e s
  | .perstNDeassertion => Sys2Proof.Machine.execPerstNDeassertion s
  | .signedPairWindowEnd n => Sys2Proof.Machine.execSignedPairWindowEnd n s
  | .todMillisecondBoundary => Sys2Proof.Machine.execTodMillisecondBoundary s

end Sys2Proof.Machine
end

