-- ==== Sys2Proof/Machine/Step.lean ====
section
/-! DEFINITION. One step of the block: the command at the front of the queue, or, with none waiting, one tick of CK_TICK. -/

namespace Sys2Proof.Machine

/-- One step: the command at the front acts on the state with the queue's rest; on an empty queue one tick of CK_TICK passes, on which the
ToD, the Weir, the ramp and the coarse counter move (DESIGN CHOICE, in place of idling). -/
def step (s : State) : Host.Outcome State Fault Refusal :=
  match s.pending with
  | [] => .next (tick s)
  | c :: r => exec c { s with pending := r }

/-- The state with the command that a table word spells at the front of its queue: no word spells one. -/
def State.withFetchWord (s : State) (nbits w : Nat) : State :=
  match decodeTableWord nbits w with
  | some c => { s with pending := c :: s.pending }
  | none => s

end Sys2Proof.Machine
end

