-- ==== Sys2Proof/WellFormed.lean ====
section
/-! DEFINITION. Well-formed commands: what they name exists (queue, slot, link, port, output, engine, gauge, channel, counter), and a packet
has at most the 1,023 parameter words that its LEN field can name. -/

namespace Sys2Proof

/-- An interface names an existing link. -/
def Iface.wf : Iface → Bool
  | .jieth n => decide (n < 6)
  | _ => true

/-- A packet's context and words: queue Q0 to Q3, slot 0 to 15, LEN 0 to 1,023 (R302, R305). -/
def CmdCtx.wf (c : CmdCtx) (ws : List Word) : Bool :=
  decide (c.queue < 4) && decide (c.slot < 16) && c.iface.wf && decide (ws.length ≤ 1023)

/-- A debug target names an existing engine (R342). -/
def DebugTarget.wf : DebugTarget → Bool
  | .engIram e _ => decide (e < 16)
  | .engDram e _ => decide (e < 16)
  | .engWord e r => decide (e < 16) && decide (r < 16)
  | .engPc e => decide (e < 16)
  | .engHalt e => decide (e < 16)
  | .engStep e => decide (e < 16)
  | _ => true

/-- Well-formed commands. -/
def Instr.wf : Instr → Bool
  | .modeSet c ws => c.wf ws
  | .deviceReset c ws => c.wf ws
  | .snapshot c ws => c.wf ws
  | .bootWrite c ws => c.wf ws
  | .bootGo c ws => c.wf ws
  | .queueAbort c ws => c.wf ws
  | .regRead c ws => c.wf ws
  | .regWrite c ws => c.wf ws
  | .stepTod c ws => c.wf ws
  | .slewAccept c ws => c.wf ws
  | .alignOutputs c ws => c.wf ws
  | .refSelect c ws => c.wf ws
  | .ptpSend c ws => c.wf ws
  | .ptpRecv c ws => c.wf ws
  | .bermRun c ws => c.wf ws
  | .macEdit c ws => c.wf ws
  | .vlanEdit c ws => c.wf ws
  | .gateLoad c ws => c.wf ws
  | .jiethRelay c ws => c.wf ws
  | .laneSlip c ws => c.wf ws
  | .gaugeCtrl c ws => c.wf ws
  | .gaugeRead c ws => c.wf ws
  | .gnssCtrl c ws => c.wf ws
  | .gnssRawRead c ws => c.wf ws
  | .gnssPosSet c ws => c.wf ws
  | .engLoad c ws => c.wf ws
  | .engStart c ws => c.wf ws
  | .engStop c ws => c.wf ws
  | .engRead c ws => c.wf ws
  | .calRun c ws => c.wf ws
  | .calAccept c ws => c.wf ws
  | .calLoad c ws => c.wf ws
  | .calCommit c ws => c.wf ws
  | .calRead c ws => c.wf ws
  | .debugOpen c ws => c.wf ws
  | .auditExport c ws => c.wf ws
  | .auditAck c ws => c.wf ws
  | .keyLoad c ws => c.wf ws
  | .keyZero c ws => c.wf ws
  | .idRead c ws => c.wf ws
  | .sampleRead c ws => c.wf ws
  | .fenceAll c ws => c.wf ws
  | .sync c ws => c.wf ws
  | .nop c ws => c.wf ws
  | .fenceAllComplete queue => decide (queue < 4)
  | .syncComplete queue => decide (queue < 4)
  | .pcieDoorbell queue slot words _ _ => decide (queue < 4) && decide (slot < 16) && decide (words < 1024)
  | .spiPacketWrite _ _ => true
  | .spiReplyRead _ => true
  | .packetStart _ => true
  | .registerWrite _ be _ => decide (be < 16)
  | .corRead _ => true
  | .unlock _ => true
  | .nominalLoWrite _ => true
  | .incLoWrite _ => true
  | .outPstepLoWrite n _ => decide (n < 14)
  | .applyWrite _ _ => true
  | .returnWrite n _ => decide (n < 20)
  | .armWrite n _ => decide (n < 14)
  | .outEnWrite n _ => decide (n < 14)
  | .retrain n _ => decide (n < 6)
  | .linkRoleWrite n _ => decide (n < 6)
  | .slotCfgWrite n _ => decide (n < 8)
  | .phyCfgWrite p _ => decide (p < 36)
  | .mboxInWrite e _ => decide (e < 16)
  | .mboxOutRead e => decide (e < 16)
  | .result3Read n => decide (n < 12)
  | .svnSet _ => true
  | .keyRevoke _ => true
  | .freeze _ => true
  | .sampleReset _ => true
  | .clrWrite h _ => decide (h < 8)
  | .steerCfgWrite _ => true
  | .debugWrite t _ => t.wf
  | .powerOn => true
  | .aonSupplyLoss => true
  | .railOutOfWindow _ => true
  | .supplyCollapse _ => true
  | .aonExit _ => true
  | .resetNLow => true
  | .resetRelease _ => true
  | .perstNLow => true
  | .trstNLow => true
  | .bootRootTimeout => true
  | .faultEntry _ => true
  | .powerSequenceDone => true
  | .keepPowerDown => true
  | .wakeEvent _ => true
  | .wakeComplete _ => true
  | .debugClose => true
  | .oscLos => true
  | .oscLosTimeout => true
  | .rootLock => true
  | .ovenOkChange _ => true
  | .ovenLowTimeout => true
  | .slopeEvaluation _ _ => true
  | .tbWarmRise _ => true
  | .helperLock _ => true
  | .pllLock _ => true
  | .pllLockTimeout _ => true
  | .dllLock n => decide (n < 20)
  | .dllUnlock n => decide (n < 20)
  | .periodBoundary n => decide (n < 20)
  | .compareFire n => decide (n < 14)
  | .todSecondBoundary => true
  | .weirSlewEnd => true
  | .rampEnd => true
  | .recoveryWindowClose => true
  | .slotQualified n _ => decide (n < 8)
  | .slotQualLost n _ => decide (n < 8)
  | .gnssIncons n => decide (n < 8)
  | .wtrExpiry n => decide (n < 8)
  | .selectorEvaluation _ => true
  | .switchCommit => true
  | .switchWindowEnd _ => true
  | .holdOffEnd => true
  | .historyRecord _ => true
  | .holdSpecExpiry => true
  | .phaseWord p _ => decide (p < 36)
  | .portSignalLoss p => decide (p < 36)
  | .ptpEventRx p _ => decide (p < 36)
  | .linkDelayUpdate p _ _ _ _ => decide (p < 36)
  | .syncIntervalBoundary p => decide (p < 36)
  | .bermRequest p _ => decide (p < 36)
  | .bermGapRequest p _ => decide (p < 36)
  | .bermWindowStart p => decide (p < 36)
  | .bermWindowEnd _ _ _ _ _ => true
  | .frameRx f _ => decide (f < 42)
  | .spillStagedWrite q => decide (q < 336)
  | .spillReadback q => decide (q < 336)
  | .frameTx x => decide (x.f < 42)
  | .macAgeOut _ _ => true
  | .gateChange f => decide (f < 36)
  | .gateListTakeEffect f => decide (f < 36)
  | .sluiceRelease f _ => decide (f < 42)
  | .linkUp p _ => decide (p < 36)
  | .portDown f _ => decide (f < 42)
  | .flushDone f => decide (f < 42)
  | .jiethClockLock n => decide (n < 6)
  | .jiethAlignDone n _ _ => decide (n < 6)
  | .jiethHello n _ => decide (n < 6)
  | .jiethDelayDone n _ _ => decide (n < 6)
  | .jiethTrainingTimeout n => decide (n < 6)
  | .failedTimeout n => decide (n < 6)
  | .markerRx n _ => decide (n < 6)
  | .timingFrameTx n => decide (n < 6)
  | .timingFrameRx n a b => decide (n < 6) && decide (a.length = 12) && decide (b.length = 12)
  | .rtUpdate n _ => decide (n < 6)
  | .fwdClkLost n => decide (n < 6)
  | .controlFrameRx n _ => decide (n < 6)
  | .controlAckTimeout n => decide (n < 6)
  | .jiethFrameRx n _ => decide (n < 6)
  | .flowRx n _ => decide (n < 6)
  | .laneLost n k => decide (n < 6) && decide (k < 4)
  | .pairSwitch n => decide (n < 6)
  | .laneRejoined n k => decide (n < 6) && decide (k < 4)
  | .roleInTaken _ => true
  | .yieldTimerExpiry => true
  | .dualActiveClear => true
  | .mirrorStateFrameTx => true
  | .mirrorStateFrameRx _ => true
  | .mirrorLost => true
  | .gaugeEdge n _ => decide (n < 12)
  | .gaugeConversionDone n _ _ _ => decide (n < 12)
  | .freqGateEnd n => decide (n < 12)
  | .coarseWrap => true
  | .gaugeCorrectionApply n => decide (n < 12)
  | .spectralScan _ => true
  | .jamUpdate _ _ => true
  | .noiseRefDone _ => true
  | .acquisitionDone prn c _ _ => decide (1 ≤ prn) && decide (prn ≤ 32) && decide (c.bin.natAbs ≤ 20) && decide (c.code < 32768)
  | .channelTrack ch => decide (ch < 24)
  | .channelLost ch => decide (ch < 24)
  | .navDataDecode _ => true
  | .codeEpoch _ => true
  | .gnssSolution _ => true
  | .surveyDone _ _ _ => true
  | .rawEpoch _ => true
  | .ueAdd e _ _ _ => decide (e < 16)
  | .ueSub e _ _ _ => decide (e < 16)
  | .ueAdds e _ _ _ => decide (e < 16)
  | .ueSubs e _ _ _ => decide (e < 16)
  | .ueAnd e _ _ _ => decide (e < 16)
  | .ueOr e _ _ _ => decide (e < 16)
  | .ueXor e _ _ _ => decide (e < 16)
  | .ueShl e _ _ _ => decide (e < 16)
  | .ueShr e _ _ _ => decide (e < 16)
  | .ueSar e _ _ _ => decide (e < 16)
  | .ueCmp e _ _ _ => decide (e < 16)
  | .ueMul e _ _ _ => decide (e < 16)
  | .ueMac e _ _ _ => decide (e < 16)
  | .ueMsu e _ _ _ => decide (e < 16)
  | .ueMulu e _ _ _ => decide (e < 16)
  | .ueMacu e _ _ _ => decide (e < 16)
  | .ueAccx e _ _ _ => decide (e < 16)
  | .ueAccl e _ _ _ => decide (e < 16)
  | .ueAsra e _ _ _ => decide (e < 16)
  | .ueAcca e _ _ _ => decide (e < 16)
  | .ueLd e _ _ _ => decide (e < 16)
  | .ueSt e _ _ _ => decide (e < 16)
  | .ueLdi e _ _ => decide (e < 16)
  | .ueLim e _ _ => decide (e < 16)
  | .ueLit e _ _ => decide (e < 16)
  | .ueAddi e _ _ => decide (e < 16)
  | .ueShli e _ _ => decide (e < 16)
  | .ueSari e _ _ => decide (e < 16)
  | .ueIn e _ _ => decide (e < 16)
  | .ueOutSel e _ => decide (e < 16)
  | .ueOutMboxOut e _ => decide (e < 16)
  | .ueOutTrimStage e _ _ => decide (e < 16)
  | .ueFtrimCommit e _ => decide (e < 16)
  | .uePtrimCommit e _ => decide (e < 16)
  | .ueOutTimer e _ => decide (e < 16)
  | .ueOutIrq e _ => decide (e < 16)
  | .ueWait e _ => decide (e < 16)
  | .waitWake e => decide (e < 16)
  | .ueMark e _ => decide (e < 16)
  | .ueJ e _ => decide (e < 16)
  | .ueBz e _ => decide (e < 16)
  | .ueBnz e _ => decide (e < 16)
  | .ueBlt e _ => decide (e < 16)
  | .ueBge e _ => decide (e < 16)
  | .ueCall e _ => decide (e < 16)
  | .ueRet e => decide (e < 16)
  | .ueHalt e => decide (e < 16)
  | .engineTimerExpiry e => decide (e < 16)
  | .userWatchdogExpiry e => decide (12 ≤ e) && decide (e < 16)
  | .steerTimeout => true
  | .counterWrap n => decide (n < 128)
  | .calMeasurementDone _ _ => true
  | .calStoreDone _ => true
  | .loadClassEval _ => true
  | .engineNop e => decide (e < 16)
  | .perstNDeassertion => true
  | .signedPairWindowEnd n => decide (n < 12)
  | .todMillisecondBoundary => true

end Sys2Proof
end

