-- ==== Sys2Proof/Safety.lean ====
section
/-! DEFINITION. What the claims mean by a safe step and a sound state: a step that ends in a next state; sparse memories in their one
canonical form; a time of day below its wrap; lists as long as the things they hold are many. -/

namespace Sys2Proof.Machine

/-- An outcome that is a next state. -/
def Runs (o : Host.Outcome State Fault Refusal) : Prop := ∃ t, o = .next t

/-- The register bank in its canonical form: addresses strictly rising, no word equal to its reset value (R319, R322). -/
def BankWf (s : State) : Prop := spWf wordReset s.regs = true

/-- The time of day lies below 2^48 s (R61). -/
def TodBelow (s : State) : Prop := s.tim.tod < todWrap

/-- The audit ring holds no more than it can, and counts no more entries than it holds (R351). -/
def AuditOk (s : State) : Prop := s.aud.ring.length ≤ auditCap ∧ s.aud.unack ≤ s.aud.ring.length

/-- A command ends in a next state, and what that state holds. -/
def Completes (o : Host.Outcome State Fault Refusal) (P : State → Prop) : Prop := ∃ t, o = .next t ∧ P t

/-! ### Packets -/

/-- The place a packet needs is free, and its interface takes packets (R22, R37, R151, R305, R306). -/
def PlaceFree (c : CmdCtx) (s : State) : Prop :=
  c.queue < 4 ∧ c.slot < 16 ∧
  match c.iface with
  | .pcie => s.pcieUp = true ∧ (c.queue, c.slot) ∉ s.cmd.slots
  | .spi => powered s .host = true ∧ s.cmd.spi.length < 8
  | .jieth n => n < 6 ∧ linkCarries s n = true

/-- Nothing holds a packet of queue `q` (R308): none of its queue waits, no FENCE_ALL is outstanding, no SYNC of its queue runs; `fence`
tells a packet that waits for its own queue. -/
def NothingHolds (q : Nat) (fence : Bool) (s : State) : Prop :=
  (∀ r ∈ s.cmd.waiting, r.queue ≠ q ∧ r.opcode ≠ 0xF0) ∧
  (∀ r ∈ s.cmd.running, r.opcode ≠ 0xF0 ∧ (r.queue = q → r.opcode ≠ 0xF1 ∧ fence = false))

/-- A packet of an opcode can be started at its doorbell: the command processor serves it, its place is free, nothing holds it. -/
def CanStart (op : Nat) (c : CmdCtx) (s : State) : Prop :=
  PlaceFree c s ∧ cpServes s = true ∧ NothingHolds c.queue (decide (op = 0xF1)) s

/-- It also passes the checks of R309: a legal mode, a log that is not full for an audited one, a LEN that the opcode takes. -/
def Ready (op : Nat) (c : CmdCtx) (ws : List Word) (s : State) : Prop :=
  CanStart op c s ∧ ∃ i, opInfo op = some i ∧ i.legal s.mode = true ∧ (i.audited = true → auditFull s = false) ∧ i.len ws.length = true

/-- The opcode, context and parameter words of the commands that are packets (R314). -/
def packetOp : Instr → Option (Nat × CmdCtx × List Word)
  | .modeSet c ws => some (0x01, c, ws)
  | .deviceReset c ws => some (0x02, c, ws)
  | .snapshot c ws => some (0x03, c, ws)
  | .bootWrite c ws => some (0x04, c, ws)
  | .bootGo c ws => some (0x05, c, ws)
  | .queueAbort c ws => some (0x06, c, ws)
  | .regRead c ws => some (0x07, c, ws)
  | .regWrite c ws => some (0x08, c, ws)
  | .stepTod c ws => some (0x10, c, ws)
  | .slewAccept c ws => some (0x11, c, ws)
  | .alignOutputs c ws => some (0x13, c, ws)
  | .refSelect c ws => some (0x20, c, ws)
  | .ptpSend c ws => some (0x30, c, ws)
  | .ptpRecv c ws => some (0x31, c, ws)
  | .bermRun c ws => some (0x38, c, ws)
  | .macEdit c ws => some (0x40, c, ws)
  | .vlanEdit c ws => some (0x41, c, ws)
  | .gateLoad c ws => some (0x42, c, ws)
  | .jiethRelay c ws => some (0x50, c, ws)
  | .laneSlip c ws => some (0x53, c, ws)
  | .gaugeCtrl c ws => some (0x60, c, ws)
  | .gaugeRead c ws => some (0x61, c, ws)
  | .gnssCtrl c ws => some (0x70, c, ws)
  | .gnssRawRead c ws => some (0x71, c, ws)
  | .gnssPosSet c ws => some (0x72, c, ws)
  | .engLoad c ws => some (0x80, c, ws)
  | .engStart c ws => some (0x81, c, ws)
  | .engStop c ws => some (0x82, c, ws)
  | .engRead c ws => some (0x83, c, ws)
  | .calRun c ws => some (0x90, c, ws)
  | .calAccept c ws => some (0x91, c, ws)
  | .calLoad c ws => some (0x92, c, ws)
  | .calCommit c ws => some (0x93, c, ws)
  | .calRead c ws => some (0x94, c, ws)
  | .debugOpen c ws => some (0xa0, c, ws)
  | .auditExport c ws => some (0xa1, c, ws)
  | .auditAck c ws => some (0xa2, c, ws)
  | .keyLoad c ws => some (0xa3, c, ws)
  | .keyZero c ws => some (0xa4, c, ws)
  | .idRead c ws => some (0xa5, c, ws)
  | .sampleRead c ws => some (0xb0, c, ws)
  | .fenceAll c ws => some (0xf0, c, ws)
  | .sync c ws => some (0xf1, c, ws)
  | .nop c ws => some (0xff, c, ws)
  | _ => none

/-- The packet that a command packet's doorbell makes. -/
def packetAt (op : Nat) (c : CmdCtx) (ws : List Word) (s : State) : Packet :=
  packetOf s c.iface c.queue c.slot (1 + ws.length) (packetHeader op c.tag ws.length false c.reply c.queue :: ws)

/-- The state in which a command packet starts: it has arrived and runs. -/
def startState (op : Nat) (c : CmdCtx) (ws : List Word) (s : State) : State :=
  takeUp (arrive s c.iface c.queue c.slot (1 + ws.length) (packetHeader op c.tag ws.length false c.reply c.queue :: ws)).1 (packetAt op c ws s)

/-- A packet has its final reply: FINAL, RLEN, the status, the TAG, the mode, and the words (R303), where its interface keeps it. An
endpoint in reset and a link that carries no frames take none (R31, R153). -/
def Answered (c : CmdCtx) (t : State) (st : Status) (ws : List Word) : Prop :=
  let words := replyHeader t true ws.length st c.tag :: ws
  match c.iface with
  | .pcie => t.pcieUp = true → (c.queue, c.slot, words) ∈ t.cmd.replies
  | .spi => ∃ b ∈ t.cmd.spi, b.words = some words ∧ b.final = true
  | .jieth n => linkCarries t n = true → .jiethReply n words ∈ t.out

/-! ### Frames: what a command leaves alone -/

/-- The parts of the state; `tod` is the counter inside `tim`, and a register bank address lies in an `Area`. -/
inductive StatePart where
  | pending | regs | staged | mode | power | powerTo | domains | calEntry | boot | image | cpUp | wakeS | idLoaded | boardSet | waking | collapsed | straps | otp | flash | pins | pcieUp | hb | hbAt | clk | tim | sel | ports | jieth | pair | fab | coarse | gauges | gnss | engs | cal | cmd | sec | aud | now | out | freeCtr | tod
  deriving DecidableEq, Repr

/-- A part is the same in two states. -/
def SamePart : StatePart → State → State → Prop
  | .pending, s, t => t.pending = s.pending
  | .regs, s, t => t.regs = s.regs
  | .staged, s, t => t.staged = s.staged
  | .mode, s, t => t.mode = s.mode
  | .power, s, t => t.power = s.power
  | .powerTo, s, t => t.powerTo = s.powerTo
  | .domains, s, t => t.domains = s.domains
  | .calEntry, s, t => t.calEntry = s.calEntry
  | .boot, s, t => t.boot = s.boot
  | .image, s, t => t.image = s.image
  | .cpUp, s, t => t.cpUp = s.cpUp
  | .wakeS, s, t => t.wakeS = s.wakeS
  | .idLoaded, s, t => t.idLoaded = s.idLoaded
  | .boardSet, s, t => t.boardSet = s.boardSet
  | .waking, s, t => t.waking = s.waking
  | .collapsed, s, t => t.collapsed = s.collapsed
  | .straps, s, t => t.straps = s.straps
  | .otp, s, t => t.otp = s.otp
  | .flash, s, t => t.flash = s.flash
  | .pins, s, t => t.pins = s.pins
  | .pcieUp, s, t => t.pcieUp = s.pcieUp
  | .hb, s, t => t.hb = s.hb
  | .hbAt, s, t => t.hbAt = s.hbAt
  | .clk, s, t => t.clk = s.clk
  | .tim, s, t => t.tim = s.tim
  | .sel, s, t => t.sel = s.sel
  | .ports, s, t => t.ports = s.ports
  | .jieth, s, t => t.jieth = s.jieth
  | .pair, s, t => t.pair = s.pair
  | .fab, s, t => t.fab = s.fab
  | .coarse, s, t => t.coarse = s.coarse
  | .gauges, s, t => t.gauges = s.gauges
  | .gnss, s, t => t.gnss = s.gnss
  | .engs, s, t => t.engs = s.engs
  | .cal, s, t => t.cal = s.cal
  | .cmd, s, t => t.cmd = s.cmd
  | .sec, s, t => t.sec = s.sec
  | .aud, s, t => t.aud = s.aud
  | .now, s, t => t.now = s.now
  | .out, s, t => t.out = s.out
  | .freeCtr, s, t => t.freeCtr = s.freeCtr
  | .tod, s, t => t.tim.tod = s.tim.tod

/-- No part of the state changes but those listed. -/
def Only (l : List StatePart) (s t : State) : Prop := ∀ p, p ∉ l → SamePart p s t

/-- The register groups of the address map (R319), each with its windows; `any` is all of them. -/
inductive Area where
  | sys | clk | dll | time | outw | ref | slot | port | ptpg | link | jg | pair | fab | fport | queue | gauge | ga | gnss | chan | eng | ue | perf | cal | sec | aud | cmd | any
  deriving DecidableEq, Repr

/-- The addresses of a group. -/
def Area.has : Area → Nat → Prop
  | .sys, a => 0x0 ≤ a ∧ a < 0x10000
  | .clk, a => 0x10000 ≤ a ∧ a < 0x10100
  | .dll, a => 0x10100 ≤ a ∧ a < 0x101A0
  | .time, a => 0x20000 ≤ a ∧ a < 0x20100
  | .outw, a => 0x20100 ≤ a ∧ a < 0x20800
  | .ref, a => 0x30000 ≤ a ∧ a < 0x30100
  | .slot, a => 0x30100 ≤ a ∧ a < 0x30200
  | .port, a => (0x40000 ≤ a ∧ a < 0x44000) ∨ (0x50000 ≤ a ∧ a < 0x50800)
  | .ptpg, a => 0x51000 ≤ a ∧ a < 0x52000
  | .link, a => 0x60000 ≤ a ∧ a < 0x60C00
  | .jg, a => 0x61000 ≤ a ∧ a < 0x62000
  | .pair, a => 0x70000 ≤ a ∧ a < 0x71000
  | .fab, a => 0x80000 ≤ a ∧ a < 0x81000
  | .fport, a => 0x81000 ≤ a ∧ a < 0x82500
  | .queue, a => 0x82800 ≤ a ∧ a < 0x83D00
  | .gauge, a => 0x90000 ≤ a ∧ a < 0x90100
  | .ga, a => 0x90100 ≤ a ∧ a < 0x90400
  | .gnss, a => 0xA0000 ≤ a ∧ a < 0xA0100
  | .chan, a => 0xA0100 ≤ a ∧ a < 0xA0400
  | .eng, a => 0xB0000 ≤ a ∧ a < 0xB0100
  | .ue, a => 0xB0100 ≤ a ∧ a < 0xB0300
  | .perf, a => 0xC0000 ≤ a ∧ a < 0xD0000
  | .cal, a => 0xD0000 ≤ a ∧ a < 0xE0000
  | .sec, a => 0xE0000 ≤ a ∧ a < 0xF0000
  | .aud, a => 0xF0000 ≤ a ∧ a < 0x100000
  | .cmd, a => 0x100000 ≤ a ∧ a < 0x110000
  | .any, _ => True

/-- No register changes but those of the groups listed. -/
def RegsIn (l : List Area) (s t : State) : Prop := ∀ a, (∀ g ∈ l, ¬ g.has a) → regWord t a = regWord s a

/-- No part changes but those listed, no register but those of the groups listed. -/
def Frame (l : List StatePart) (g : List Area) (s t : State) : Prop := Only l s t ∧ RegsIn g s t

/-- The frame of a packet: beside what its opcode does, packets, replies and their counts, the audit log, the counters and
the control frames of links. -/
def PacketFrame (l : List StatePart) (g : List Area) (s t : State) : Prop :=
  Frame ([.regs, .jieth, .cmd, .aud, .out] ++ l) ([.perf, .aud, .cmd] ++ g) s t

/-- The frame of a command on which time runs: beside what it does, the clocks and counters that move with time. -/
def TimeFrame (l : List StatePart) (g : List Area) (s t : State) : Prop :=
  Frame ([.regs, .clk, .tim, .sel, .coarse, .now, .out, .tod] ++ l) ([.gauge, .perf] ++ g) s t

/-- The frame of an entry to FAULT (R35, R300, R310): the mode, what it stops, its cause, its log entry and the packets it ends. -/
def FaultFrame (s t : State) : Prop :=
  Frame [.regs, .mode, .powerTo, .domains, .boot, .waking, .flash, .pcieUp, .hb, .ports, .jieth, .cal, .cmd, .aud, .out, .freeCtr]
    [.sys, .link, .perf, .aud, .cmd] s t

/-- The frame of a change in the references (R58, R77, R121, R129): beside the selector, the clocks and the time steered from it, the mode it may take
and what a mode's entry moves. -/
def SelFrame (s t : State) : Prop :=
  Frame [.regs, .mode, .clk, .tim, .sel, .ports, .gauges, .cal, .out, .freeCtr] [.clk, .dll, .time, .ref, .slot, .port, .eng, .cal] s t

/-- The frame of a Jieth link that fails or is trained again (R148 to R150, R154, R199): beside the link, its fabric port, its registrations, relays and
slots, and what the loss of a reference moves. -/
def LinkFrame (s t : State) : Prop :=
  Frame [.regs, .mode, .clk, .tim, .sel, .ports, .jieth, .fab, .gauges, .cal, .cmd, .aud, .out, .freeCtr]
    [.clk, .dll, .time, .ref, .slot, .port, .link, .jg, .pair, .fport, .queue, .eng, .perf, .cal, .aud, .cmd] s t

/-- The flash keeps what it held but for what a store operation cut off leaves (R300): without one, all of it, and always its images. -/
def FlashKept (s t : State) : Prop :=
  t.flash.imageA = s.flash.imageA ∧ t.flash.imageB = s.flash.imageB ∧ t.flash.eq = s.flash.eq ∧ (s.cal.store = none → t.flash = s.flash)

/-- A BAR0 write to a register of a domain takes effect (R330, R352): the endpoint is up, the mode takes writes, the log is not full, the
block is powered. -/
def BarWrites (d : Domain) (s : State) : Prop :=
  s.pcieUp = true ∧ s.mode ≠ .boot ∧ s.mode ≠ .fault ∧ auditFull s = false ∧ powered s d = true

/-- The frame of an audited BAR0 write: beside what it does, its entry and the counters. -/
def BarFrame (l : List StatePart) (g : List Area) (s t : State) : Prop := Frame ([.regs, .aud, .out] ++ l) ([.perf, .aud] ++ g) s t

/-- No register changes but the one at an address, the counters and the log's. -/
def OnlyWord (a : Nat) (s t : State) : Prop := ∀ b, b ≠ a → ¬ Area.perf.has b → ¬ Area.aud.has b → regWord t b = regWord s b

/-! ### Frames of the switch core -/

/-- The fabric takes a frame at port `f` as it comes (R104, R193): its link is up, it is in no Berm window, the fabric is not throttled and holds
nothing back. -/
def Admits (f : Nat) (s : State) : Prop :=
  powered s .fab = true ∧ fabUp s f = true ∧ inWindow s f = false ∧ throttled s = false ∧ s.fab.ingress = []

/-- A good frame at port `f` inside its VLAN `v` (R177, R179). -/
def GoodFrame (f : Nat) (fr : FrameIn) (v : Vlan) (s : State) : Prop :=
  fr.fcsOk = true ∧ 64 ≤ fr.len ∧ fr.len ≤ 9216 ∧ ingressVid s f fr ≠ 4095 ∧ vlanOf s (ingressVid s f fr) = some v ∧ bits v.member f 1 = 1

/-- A 64-bit counter in a pair of registers has counted `k` (R203, R321). -/
def Counted (hi lo : Fld) (k : Nat) (s t : State) : Prop := getHL t hi lo = (getHL s hi lo + k) % 2 ^ 64

/-! ### Engines -/

/-- Engine `e` can run an instruction: it issues, and the word it has fetched is a legal one (R264, R267). -/
def EngReady (e : Nat) (s : State) : Prop :=
  e < 16 ∧ engIssues s e = true ∧ (UInstr.decode (memGet (engS s e).iram (engS s e).pc.toNat)).isSome = true

/-- Engine `e` retires its instruction and goes on at `nxt`; no other engine changes. -/
def Retires (e : Nat) (nxt : BitVec 12) (s t : State) : Prop :=
  Frame [.regs, .engs, .out, .freeCtr] [.eng, .ue, .perf] s t ∧ (engS t e).pc = nxt ∧ (engS t e).retired = (engS s e).retired + 1 ∧
  getF t (Reg.UE_ENG_STATUS_PC e) = (engS s e).pc.toNat ∧ ∀ k, k ≠ e → engS t k = engS s k

/-- Engine `e` halts on a fault (R271, R274): a user engine shows it, and the steering owner's trims become zero. -/
def HaltsOn (e cause : Nat) (s t : State) : Prop :=
  Frame [.regs, .clk, .tim, .engs, .out] [.clk, .eng, .ue] s t ∧ t.mode = s.mode ∧ engRunning t e = false ∧
  getF t (Reg.UE_ENG_STATUS_CAUSE e) = cause ∧ (12 ≤ e → getB t Reg.ENG_EVENTS_USER_FAULT = true) ∧
  (steerOwner s e = true → t.engs.ftrim = 0 ∧ t.engs.ptrim = 0)

/-- The word registers, accumulators and flags of an engine are the same in two states, but for word register `d`. -/
def OnlyW (e : Nat) (d : Option (BitVec 4)) (s t : State) : Prop :=
  (∀ k, some k ≠ d → uw t e k = uw s e k) ∧ ∀ k, ua t e k = ua s e k

end Sys2Proof.Machine
end

