-- ==== Sys2Proof/Certificates/Slice0/Obligations.lean ====
section
/-! DEFINITION. The statements for the provers, one per group of commands: what each command does, where it completes, what it leaves
alone; the queue, reset and the invariant that every step keeps. -/

open Sys2Proof Sys2Proof.Machine

/-- A step runs the command at the front of the queue, on the state with the queue's rest. -/
def Obligations.StepRunsFront : Prop :=
∀ (c : Instr) (r : List Instr) (s : State), s.pending = c :: r → step s = exec c { s with pending := r }

/-- The model's choice for an empty queue (log entry 1): the step lets one tick of CK_TICK pass, on which only what counts ticks moves. -/
def Obligations.EmptyQueueTicks : Prop :=
  ∀ s : State, s.pending = [] →
    Completes (step s) fun t =>
      TimeFrame [] [] s t ∧ t.now = s.now + 1 ∧ (s.clk.started = false → t = { s with now := s.now + 1 }) ∧
      (s.clk.started = true → powered s .gauge = true → t.coarse = s.coarse + 1)

/-- Every well-formed command runs: it ends in a next state, in every state. A command acts on everything but the queue. -/
def Obligations.CommandsRun : Prop :=
  (∀ (c : Instr) (s : State), c.wf = true → Runs (exec c s)) ∧
  (∀ (c : Instr) (s t : State), exec c s = .next t → t.pending = s.pending)

/-- The state after reset: no command waits, the mode is RESET, and every register word is the one its field map gives for reset; so the
increment is 0x0199_9999_9999_999A, the Polder reserve 4,096 cells, a deglitcher window 32, a lock count 64, a Berm period 600 s. The
register bank is in its canonical form, the time of day below its wrap, the audit ring within its size, at reset. -/
def Obligations.ResetState : Prop :=
  (State.reset.pending = [] ∧ State.reset.mode = .reset ∧ (∀ a, regWord State.reset a = wordReset a) ∧ State.reset.fab.macs = [] ∧
    State.reset.cal.work = [] ∧ incVal State.reset = 0x019999999999999A ∧ getF State.reset Reg.FAB_POLDER_RSV = 4096 ∧
    (∀ p, p < 36 → getF State.reset (Reg.PORT_TT_CTRL_DGW p) = 32 ∧ getF State.reset (Reg.PORT_BERM_CFG_PERIOD_S p) = 600) ∧
    (∀ n, n < 20 → getF State.reset (Reg.DLL_CFG_N n) = 64) ∧ getB State.reset Reg.TIME_TOD_CTRL_INC_EXACT = true) ∧
  (BankWf State.reset ∧ TodBelow State.reset ∧ AuditOk State.reset)

/-- Every step keeps the register bank canonical (no word listed at its reset value, addresses rising), the time of day below 2^48 s, and the
audit ring at most 8,192 entries, of which it counts no more unacknowledged than it holds (R61, R319, R322, R351). -/
def Obligations.StepKeepsSound : Prop :=
∀ s t : State, BankWf s → TodBelow s → AuditOk s → step s = .next t → BankWf t ∧ TodBelow t ∧ AuditOk t

/-- An engine's instruction word (R266, R267): every instruction of the three formats, with every operand, decodes from its own word. -/
def Obligations.EngineWordsRoundTrip : Prop := ∀ u : UInstr, UInstr.decode u.encode = some u

/-- R63: with INC_EXACT = 1, its reset value, a tick adds the pattern's units of its phase and no hidden bit; every fifth tick lands exactly 8
ns after the one five ticks before; the pattern strays from 1.6 ns per tick by 0.4 units at most. -/
def Obligations.ExactIncrement : Prop :=
  getB State.reset Reg.TIME_TOD_CTRL_INC_EXACT = true ∧
  (∀ j, j ≤ 5 → ((5 * patCum j : Nat) - (524288 * j : Nat) : Int).natAbs ≤ 2) ∧
  ∀ s : State, s.clk.started = true → s.tim.numeric = false → getB s Reg.TIME_TOD_CTRL_INC_EXACT = true → s.tim.weirRem = 0 → s.tim.phase < 5 →
    let t := tick s
    t.tim.tod = (s.tim.tod + [104858, 104857, 104858, 104857, 104858].getD s.tim.phase 0 * 2 ^ 40) % todWrap ∧
    t.tim.phase = (s.tim.phase + 1) % 5 ∧ t.tim.tod % 2 ^ 40 = s.tim.tod % 2 ^ 40 ∧
    (tick (tick (tick (tick t)))).tim.tod = (s.tim.tod + 8 * 2 ^ 56) % todWrap

/-- R190: the Polder holds 131,072 cells, 24 MiB; a frame takes a cell for each 192 bytes begun, 48 for 9,216; POLDER_RSV is 4,096 at reset, and
no cell that a queue's admission adds leaves fewer free cells than that reserve. -/
def Obligations.PolderReserve : Prop :=
  polderCells * 192 = 24 * 2 ^ 20 ∧ cellsOf 9216 = 48 ∧ (∀ len, cellsOf len * 192 < len + 192 ∧ len ≤ cellsOf len * 192) ∧
  getF State.reset Reg.FAB_POLDER_RSV = 4096 ∧
  ∀ (fr : QFrame) (s : State), fr.pre = 0 → polderUsed s < polderUsed (enqueue s fr) → getF s Reg.FAB_POLDER_RSV ≤ polderFree (enqueue s fr)

/-- R159: a mirror state frame alters no calibration record of the standby; identifiers or CRCs that differ clear CAL_MATCH, and READY cannot be
set while CAL_MATCH is clear. -/
def Obligations.MirrorKeepsCalibration : Prop :=
  ∀ (f : MirrorFrame) (s : State),
    (Completes (exec (.mirrorStateFrameRx f) s) fun t => t.cal = s.cal ∧ t.flash = s.flash) ∧
    (∀ n, mirrorLink s = some n → linkCarries s n = true → s.mode = .standby → keyUsable s 65 = true → f.tag = mirrorTag s f →
      f.calIds ≠ calIdents s →
      Completes (exec (.mirrorStateFrameRx f) s) fun t => getB t Reg.PAIR_PAIR_STATUS_CAL_MATCH = false) ∧
    (getB s Reg.PAIR_PAIR_STATUS_CAL_MATCH = false → pairReady s = false)

/-- R272: only the owner steers; a commit takes the staged 36 upper bits with the committing word as a signed 54-bit trim; a commit by any other
engine is ignored and sets STEER_IGNORED. -/
def Obligations.SteeringCommits : Prop :=
  ∀ (e : Nat) (d : BitVec 4) (s : State), EngReady e s →
    (steerOwner s e = true →
      (Completes (exec (.ueFtrimCommit e d) s) fun t => t.engs.ftrim = ((engS s e).ftStage ++ uw s e d : BitVec 54).toInt ∧ t.engs.ptrim = s.engs.ptrim) ∧
      (Completes (exec (.uePtrimCommit e d) s) fun t => t.engs.ptrim = ((engS s e).ptStage ++ uw s e d : BitVec 54).toInt ∧ t.engs.ftrim = s.engs.ftrim)) ∧
    (steerOwner s e = false →
      (Completes (exec (.ueFtrimCommit e d) s) fun t =>
        t.engs.ftrim = s.engs.ftrim ∧ t.engs.ptrim = s.engs.ptrim ∧ getB t Reg.ENG_EVENTS_STEER_IGNORED = true) ∧
      (Completes (exec (.uePtrimCommit e d) s) fun t =>
        t.engs.ftrim = s.engs.ftrim ∧ t.engs.ptrim = s.engs.ptrim ∧ getB t Reg.ENG_EVENTS_STEER_IGNORED = true)) ∧
    (steerOwner s e = true ↔ 4 ≤ getF s Reg.ENG_STEER_CFG_OWNER ∧ e = getF s Reg.ENG_STEER_CFG_OWNER + 8)

/-- R323: in a MASKED register (SYS.INT_EN is the only one) bit n takes the written value where bit n + 16 is 1 and keeps its value elsewhere; a
write whose mask is zero changes nothing and is not audited. -/
def Obligations.MaskedWrites : Prop :=
  ∀ (v : Word) (s : State), BarWrites .aon s →
    (fieldOf v 16 16 ≠ 0 →
      Completes (exec (.registerWrite 0x24 15 v) s) fun t =>
        Only [.regs, .aud, .out] s t ∧ OnlyWord 0x24 s t ∧
        ∀ k, k < 16 → bits (getF t Reg.SYS_INT_EN) k 1 = if fieldOf v (k + 16) 1 = 1 then fieldOf v k 1 else bits (getF s Reg.SYS_INT_EN) k 1) ∧
    (fieldOf v 16 16 = 0 → Completes (exec (.registerWrite 0x24 15 v) s) fun t => Frame [.regs, .out] [.perf] s t) ∧
    (v = 0x00800000 →
      Completes (exec (.registerWrite 0x24 15 v) s) fun t =>
        ∀ k, k < 16 → bits (getF t Reg.SYS_INT_EN) k 1 = if k = 7 then 0 else bits (getF s Reg.SYS_INT_EN) k 1)

/-- R309, R303, R312: at its start a packet is checked for its mode, for a full log and for its LEN, in that order; the first check that fails
gives the final status, and beside replies, counters and the count of refusals nothing changes. -/
def Obligations.PacketStartChecks : Prop :=
  ∀ (x : Instr) (op : Nat) (c : CmdCtx) (ws : List Word) (s : State),
    packetOp x = some (op, c, ws) → ws.length ≤ 512 → CanStart op c s → ∀ i, opInfo op = some i →
    Completes (exec x s) fun t =>
      (i.legal s.mode = false → Answered c t .wrongMode [] ∧ PacketFrame [] [] s t) ∧
      (i.legal s.mode = true → i.audited = true → auditFull s = true → op ≠ 0xA1 → op ≠ 0xA2 →
        Answered c t .auditFull [] ∧ PacketFrame [] [] s t) ∧
      (i.legal s.mode = true → (i.audited = true → auditFull s = false) → i.len ws.length = false →
        Answered c t .badParam [] ∧ PacketFrame [] [] s t)

/-- MODE_SET (R25, R315): outside a pair each transition of R25 by command, its guards met, leaves the device in the mode named. Into ACQUIRE
the statement asks that nothing is selected, since a selection lost before then would be evaluated on entry. MODE_SET to a mode that R25
gives no transition to, or whose guard is false, completes with WRONG_MODE and the mode stays. -/
def Obligations.ModeSet : Prop :=
  (∀ (c : CmdCtx) (ws : List Word) (s : State) (m : Mode),
      Ready 0x01 c ws s → modeOfCode (parF ws 0 0 4) = some m → s.straps.pairEn = false → (∀ r ∈ s.cmd.running, r.opcode ≠ 1) →
      ((s.mode = .config ∧ m ∈ [.freerun, .bench] ∧ getB s Reg.CAL_STATUS_CAL_REQUIRED = false) ∨
       (s.mode = .config ∧ m = .acquire ∧ getB s Reg.CAL_STATUS_CAL_REQUIRED = false ∧ selected s = none ∧ s.sel.sw = none) ∨
       (s.mode ∈ [.freerun, .locked] ∧ m = .bench ∧ getB s Reg.CAL_STATUS_CAL_REQUIRED = false) ∨
       (s.mode ∈ [.freerun, .holdover] ∧ m = .acquire ∧ selected s = none ∧ s.sel.sw = none) ∨
       (s.mode = .holdover ∧ m = .freerun) ∨
       (s.mode ∈ [.locked, .holdover, .freerun] ∧ m = .timekeep) ∨
       (s.mode = .bench ∧ m = .config)) →
      Completes (exec (.modeSet c ws) s) fun t => t.mode = m ∧ Answered c t .ok []) ∧
  (∀ (c : CmdCtx) (ws : List Word) (s : State) (m : Mode),
      Ready 0x01 c ws s → modeOfCode (parF ws 0 0 4) = some m → (∀ r ∈ s.cmd.running, r.opcode ≠ 1) →
      (m ∈ [.reset, .boot, .locked, .holdover, .standby, .calibrate, .fault] ∨
       (m ∈ [.acquire, .freerun, .bench] ∧ s.mode = .config ∧ getB s Reg.CAL_STATUS_CAL_REQUIRED = true) ∨
       (m ∈ [.bench, .timekeep] ∧ s.straps.pairEn = true)) →
      Completes (exec (.modeSet c ws) s) fun t => t.mode = s.mode ∧ Answered c t .wrongMode [] ∧ PacketFrame [] [] s t)

/-- DEVICE_RESET (R31, R314, R371): it is answered, and then the device is in RESET with LAST_RESET 2, its commands, its switch core and its
time gone, its log, its fuses and its flash kept but for what a store cut off leaves (R300). FAULT_ENTRY (R35, R310): HB_OUT stops, no output runs, INT_N is asserted, the cause is
written and logged, PD_HOST is on, every command that was running has ended; the ToD and what the host wrote stay. -/
def Obligations.ResetsAndFaults : Prop :=
  (∀ (c : CmdCtx) (ws : List Word) (s : State), Ready 0x02 c ws s →
      Completes (exec (.deviceReset c ws) s) fun t =>
        t.mode = .reset ∧ getF t Reg.SYS_FAULT_CAUSE_LAST_RESET = 2 ∧ t.domains = [.aon] ∧ t.power = s.power ∧ t.cmd.waiting = [] ∧
        t.cmd.running = [] ∧ t.clk = {} ∧ t.tim = {} ∧ t.sel = {} ∧ t.fab = {} ∧ t.otp = s.otp ∧ FlashKept s t ∧
        s.aud.ring.length ≤ t.aud.ring.length ∧
        (c.iface = .pcie → ∃ h, .pcieReply c.queue c.slot [h] ∈ t.out ∧ fieldOf h 31 1 = 1 ∧ fieldOf h 8 8 = Status.ok.code)) ∧
  (∀ (c : FaultCause) (s : State), s.mode ≠ .reset → s.mode ≠ .fault →
      Completes (exec (.faultEntry c) s) fun t =>
        t.mode = .fault ∧ t.hb = false ∧ (∀ n, outRunning t n = false) ∧ intN t = true ∧ getF t Reg.SYS_FAULT_CAUSE_CODE = FaultCause.code c ∧
        powered t .host = true ∧ t.cmd.running = [] ∧ (∀ n, n < 6 → linkState s n ≠ 0 → linkState t n = 7) ∧
        (s.cmd.running.length < 8192 → ∃ e ∈ t.aud.ring, e.getD 4 0 = BitVec.ofNat 32 (4 * 2 ^ 24 + FaultCause.code c)) ∧
        FaultFrame s t)

/-- SNAPSHOT, REG_READ, REG_WRITE (R315, R320, R322): SNAPSHOT answers the ToD and COUNT register words of one instant, REG_READ one word, each
as the packet finds them when it starts; REG_WRITE does what the write does and ends as it does: OK, DENIED where it was dropped, LOCKED
where R323 or R325 rejected it. QUEUE_ABORT (R315): the packets of the queues named that have not started wait no longer, those of other
queues do; with no queue named it is BAD_PARAM. -/
def Obligations.RegisterAndAbortPackets : Prop :=
  (∀ (c : CmdCtx) (ws : List Word) (s : State),
      let req := reqCode c.iface c.queue
      let n := parF ws 0 24 8
      (Ready 0x07 c ws s → Completes (exec (.regRead c ws) s) fun t => Answered c t .ok [(busRead (startState 0x07 c ws s) req (parAddr ws)).2]) ∧
      (Ready 0x08 c ws s →
        let w := busWrite (startState 0x08 c ws s) false false req (parAddr ws) 15 (par ws 1)
        Completes (exec (.regWrite c ws) s) fun t =>
          Answered c t (wrStatus w.2) [] ∧ ∀ a, ¬ Area.perf.has a → ¬ Area.aud.has a → regWord t a = regWord w.1 a) ∧
      (Ready 0x03 c ws s → 1 ≤ n → n ≤ 128 → parAddr ws + 4 * n ≤ 2 ^ 24 →
        Completes (exec (.snapshot c ws) s) fun t =>
          Answered c t .ok (todWords (todVis s) ++ (List.range n).map (fun i => (busRead (startState 0x03 c ws s) req (parAddr ws + 4 * i)).2))) ∧
      (Ready 0x03 c ws s → (n = 0 ∨ 128 < n ∨ 2 ^ 24 < parAddr ws + 4 * n) →
        Completes (exec (.snapshot c ws) s) fun t => Answered c t .badParam [] ∧ PacketFrame [] [] s t)) ∧
  (∀ (c : CmdCtx) (ws : List Word) (s : State), Ready 0x06 c ws s →
      (parF ws 0 0 4 ≠ 0 → (∀ r ∈ s.cmd.waiting, r.id < s.cmd.nextId) →
        Completes (exec (.queueAbort c ws) s) fun t =>
          Answered c t .ok [] ∧ PacketFrame [] [] s t ∧ t.cmd.waiting = s.cmd.waiting.filter (fun r => !decide (bits (parF ws 0 0 4) r.queue 1 = 1))) ∧
      (parF ws 0 0 4 = 0 → Completes (exec (.queueAbort c ws) s) fun t => Answered c t .badParam [] ∧ PacketFrame [] [] s t))

/-- BOOT_WRITE (R315): through the interface that BOOT_SRC names, the words go into the image at OFFSET and no other word of it changes; through
another interface it is DENIED, outside the image it is BAD_PARAM; so for BOOT_GO. BOOT_GO (R33, R35, R315, R347): an image that passes R347 boots into
CONFIG with HB_OUT running and the command answered OK; one that fails gives DENIED and FAULT with cause NO_VALID_IMAGE; RESULT_A tells
which. -/
def Obligations.BootPackets : Prop :=
  (∀ (c : CmdCtx) (ws : List Word) (s : State), Ready 0x04 c ws s → (∀ r ∈ s.cmd.running, r.opcode ≠ 5) →
      let here := (c.iface = .pcie ∧ s.straps.bootSrc = 1) ∨ (c.iface = .spi ∧ s.straps.bootSrc = 2)
      let o := parF ws 0 0 20
      (here → o + (ws.length - 1) ≤ 1048576 →
        Completes (exec (.bootWrite c ws) s) fun t =>
          Answered c t .ok [] ∧ PacketFrame [.image] [] s t ∧ (∀ i, i + 1 < ws.length → memGet t.image (o + i) = ws.getD (i + 1) 0) ∧
          (∀ k, k < o ∨ o + (ws.length - 1) ≤ k → memGet t.image k = memGet s.image k)) ∧
      (here → 1048576 < o + (ws.length - 1) →
        Completes (exec (.bootWrite c ws) s) fun t => Answered c t .badParam [] ∧ PacketFrame [] [] s t) ∧
      (¬ here → Completes (exec (.bootWrite c ws) s) fun t => Answered c t .denied [] ∧ PacketFrame [] [] s t)) ∧
  (∀ (c : CmdCtx) (ws : List Word) (s : State), Ready 0x05 c ws s → (∀ r ∈ s.cmd.running, r.opcode ≠ 5) →
      ((c.iface = .pcie ∧ s.straps.bootSrc = 1) ∨ (c.iface = .spi ∧ s.straps.bootSrc = 2)) →
      1 ≤ parF ws 0 0 21 → parF ws 0 0 21 ≤ 1048576 →
      let r := imageCheck s (hostImage s (parF ws 0 0 21))
      Completes (exec (.bootGo c ws) s) fun t =>
        getF t Reg.SEC_BOOT_INFO_RESULT_A = r ∧ (r = 1 → t.mode = .config ∧ t.hb = true ∧ t.cpUp = true ∧ Answered c t .ok []) ∧
        (r ≠ 1 → t.mode = .fault ∧ t.hb = false ∧ getF t Reg.SYS_FAULT_CAUSE_CODE = 1 ∧
          (c.iface = .pcie → ∃ h, .pcieReply c.queue c.slot [h] ∈ t.out ∧ fieldOf h 31 1 = 1 ∧ fieldOf h 8 8 = Status.denied.code))) ∧
  (∀ (c : CmdCtx) (ws : List Word) (s : State), Ready 0x05 c ws s → (∀ r ∈ s.cmd.running, r.opcode ≠ 5) →
      let here := (c.iface = .pcie ∧ s.straps.bootSrc = 1) ∨ (c.iface = .spi ∧ s.straps.bootSrc = 2)
      (¬ here → Completes (exec (.bootGo c ws) s) fun t => Answered c t .denied [] ∧ PacketFrame [] [] s t) ∧
      (here → (parF ws 0 0 21 = 0 ∨ 1048576 < parF ws 0 0 21) →
        Completes (exec (.bootGo c ws) s) fun t => Answered c t .badParam [] ∧ PacketFrame [] [] s t))

/-- PCIE_DOORBELL, SPI_PACKET_WRITE (R302, R305, R306, R307): a packet that passes R307 waits in the queue named, by the ring over PCI Express
and by its header over SPI; one that arrives in an occupied slot, or with the eight SPI buffers taken, is rejected and counted and creates
no command. PACKET_START, SPI_REPLY_READ (R306, R308): the queues are served in rotation, so that the head of the next queue not held runs
or completes and waits no longer; a whole SPI read takes the oldest reply entry, and its buffer with a final reply. FENCE_ALL, SYNC, NOP
(R308, R311, R314): NOP completes at once; FENCE_ALL where nothing earlier is outstanding; SYNC runs on until the BAR0 writes before its
doorbell have taken effect, which SYNC_COMPLETE says, and FENCE_ALL likewise until FENCE_ALL_COMPLETE. -/
def Obligations.PacketQueues : Prop :=
  (∀ (q slot n : Nat) (pkt : List Word) (s : State), cpServes s = true → pkt.length < 1024 →
      let h := pkt.getD 0 0
      let good := 1 ≤ pkt.length ∧ fieldOf h 6 10 ≤ 512 ∧ (opInfo (fieldOf h 24 8)).isSome = true
      (q < 4 → slot < 16 → s.pcieUp = true → (q, slot) ∉ s.cmd.slots → good → n < 1024 → 1 + fieldOf h 6 10 ≤ n →
        Completes (exec (.pcieDoorbell q slot n pkt false) s) fun t =>
          Frame [.cmd, .out] [] s t ∧ (q, slot) ∈ t.cmd.slots ∧ ∃ p, t.cmd.waiting = s.cmd.waiting ++ [p] ∧ p.queue = q ∧
            p.slot = slot ∧ p.opcode = fieldOf h 24 8 ∧ p.tag = fieldOf h 16 8 ∧ p.words.length = fieldOf h 6 10) ∧
      (q < 4 → slot < 16 → s.pcieUp = true → (q, slot) ∈ s.cmd.slots →
        Completes (exec (.pcieDoorbell q slot n pkt false) s) fun t =>
          Frame [.regs, .out] [.cmd] s t ∧ getB t Reg.CMD_EVENTS_DB_BUSY = true ∧
            getF t Reg.CMD_DB_REJECT = (getF s Reg.CMD_DB_REJECT + 1) % 2 ^ 32) ∧
      (powered s .host = true → s.cmd.spi.length < 8 → good → 1 + fieldOf h 6 10 ≤ pkt.length →
        Completes (exec (.spiPacketWrite pkt false) s) fun t =>
          Frame [.cmd, .out] [] s t ∧ ∃ p, t.cmd.waiting = s.cmd.waiting ++ [p] ∧ p.queue = fieldOf h 2 2 ∧ p.opcode = fieldOf h 24 8) ∧
      (powered s .host = true → 8 ≤ s.cmd.spi.length →
        Completes (exec (.spiPacketWrite pkt false) s) fun t =>
          Frame [.regs, .out] [.cmd] s t ∧ getB t Reg.CMD_EVENTS_SPI_REJECT = true)) ∧
  (∀ (s : State),
      (∀ p, p.opcode = 0xFF → p.words = [] → p.aud = false → modeRun s.mode = true → cpServes s = true → nextPacket s = some p →
        Completes (exec (.packetStart false) s) fun t =>
          PacketFrame [] [] s t ∧ p ∉ t.cmd.waiting ∧ isRunning t p.id = false ∧ t.cmd.lastQ = p.queue) ∧
      (∀ b r, ifaceUp s .spi = true → s.cmd.spi.filter (fun x => x.words.isSome) = b :: r →
        (Completes (exec (.spiReplyRead true) s) fun t =>
          Frame [.cmd, .out] [] s t ∧
          (b.final = true → t.cmd.spi = s.cmd.spi.filter (fun x => decide (x.id ≠ b.id))) ∧
          .spi (BitVec.ofNat 32 (2 ^ 31 + r.length + 1) :: b.words.getD []) ∈ t.out) ∧
        (Completes (exec (.spiReplyRead false) s) fun t => Frame [.out] [] s t ∧ t.cmd.spi = s.cmd.spi)) ∧
      (ifaceUp s .spi = true → s.cmd.spi.filter (fun x => x.words.isSome) = [] →
        ∀ b, Completes (exec (.spiReplyRead b) s) fun t => Frame [.out] [] s t ∧ .spi [0] ∈ t.out)) ∧
  (∀ (c : CmdCtx) (s : State),
      (Ready 0xFF c [] s → Completes (exec (.nop c []) s) fun t => Answered c t .ok [] ∧ PacketFrame [] [] s t) ∧
      (Ready 0xF0 c [] s → s.cmd.waiting = [] → s.cmd.running = [] →
        Completes (exec (.fenceAll c []) s) fun t => Answered c t .ok [] ∧ PacketFrame [] [] s t) ∧
      (Ready 0xF1 c [] s →
        Completes (exec (.sync c []) s) fun t => isRunning t s.cmd.nextId = true ∧ PacketFrame [] [] s t) ∧
      (∀ q p, q < 4 → s.cmd.running.find? (fun r => decide (r.queue = q) && decide (r.opcode = 0xF1)) = some p →
        Completes (exec (.syncComplete q) s) fun t => isRunning t p.id = false ∧ PacketFrame [] [] s t) ∧
      (∀ q p, q < 4 → s.cmd.running.find? (fun r => decide (r.queue = q) && decide (r.opcode = 0xF0)) = some p → earlierOpen s p.id = false →
        Completes (exec (.fenceAllComplete q) s) fun t => isRunning t p.id = false ∧ PacketFrame [] [] s t))

/-- STEP (R70, R79): on the tick after its start a relative step adds its amount to the counter modulo the wrap, an absolute one loads it, a
step to the pending offset adds that; no slew goes on, nothing is pending, no slot is suspect, STEPPED is recorded, and SEC_KNOWN follows
what the step did to the seconds; a standby takes only the last kind, and with nothing pending that one is BAD_PARAM. SLEW_ACCEPT (R71,
R135): a pending offset of less than 1 s becomes the Weir's target, with the accepted phase trim; nothing is pending and no slot is suspect
any more, and a suspect is also cleared with nothing pending; with nothing pending and no slot suspect, or an offset of 1 s or more, it is
BAD_PARAM. ALIGN_OUTPUTS (R74, R79): the reply names the source, 0 for the selected slot and 1 for the ToD; beside outputs and time
registers nothing changes, and the ToD does not; the first alignment is recorded; an empty mask is BAD_PARAM. REF_SELECT (R137): forcing,
release, lockout and its end, and the end of a wait to restore act on the slot named, and the choice is made at once; forcing a slot that is
not enabled, or an undefined ACTION, is BAD_PARAM. -/
def Obligations.TimePackets : Prop :=
  (∀ (c : CmdCtx) (ws : List Word) (s : State), Ready 0x10 c ws s →
      let u := tick (startState 0x10 c ws s)
      let stepped := fun (t : State) => t.tim.pend = none ∧ t.tim.weirRem = 0 ∧ (∀ n, n < 8 → slotSuspect t n = false) ∧
        getB t Reg.TIME_EVENTS_STEPPED = true ∧
        PacketFrame [.mode, .clk, .tim, .sel, .ports, .fab, .coarse, .gauges, .gnss, .cal, .now, .freeCtr, .tod]
          [.clk, .dll, .time, .ref, .slot, .port, .fport, .gauge, .eng, .cal] s t
      (parF ws 0 30 2 = 0 → s.mode ≠ .standby → parF ws 3 0 30 < 10 ^ 9 →
        Completes (exec (.stepTod c ws) s) fun t =>
          Answered c t .ok [] ∧ stepped t ∧ (t.tim.tod : Int) = (u.tim.tod + stepAmount ws true) % (todWrap : Int) ∧
          (parF ws 1 0 16 = 0 ∧ par ws 2 = 0 → getB t Reg.TIME_STATUS_SEC_KNOWN = getB s Reg.TIME_STATUS_SEC_KNOWN) ∧
          (¬(parF ws 1 0 16 = 0 ∧ par ws 2 = 0) → getB t Reg.TIME_STATUS_SEC_KNOWN = false)) ∧
      (parF ws 0 30 2 = 1 → s.mode ≠ .standby → parF ws 3 0 30 < 10 ^ 9 →
        Completes (exec (.stepTod c ws) s) fun t =>
          Answered c t .ok [] ∧ stepped t ∧ (t.tim.tod : Int) = stepAmount ws false % (todWrap : Int) ∧ getB t Reg.TIME_STATUS_SEC_KNOWN = true) ∧
      (parF ws 0 30 2 = 2 → ∀ x, s.tim.pend = some x →
        Completes (exec (.stepTod c ws) s) fun t =>
          Answered c t .ok [] ∧ stepped t ∧ (t.tim.tod : Int) = (u.tim.tod + x * 2 ^ 40) % (todWrap : Int)) ∧
      (s.mode = .standby → parF ws 0 30 2 ≠ 2 →
        Completes (exec (.stepTod c ws) s) fun t => Answered c t .wrongMode [] ∧ PacketFrame [] [] s t) ∧
      (s.mode ≠ .standby → (parF ws 0 30 2 = 3 ∨ (parF ws 0 30 2 ≠ 2 ∧ 10 ^ 9 ≤ parF ws 3 0 30)) →
        Completes (exec (.stepTod c ws) s) fun t => Answered c t .badParam [] ∧ PacketFrame [] [] s t) ∧
      (parF ws 0 30 2 = 2 → s.tim.pend = none →
        Completes (exec (.stepTod c ws) s) fun t => Answered c t .badParam [] ∧ PacketFrame [] [] s t)) ∧
  (∀ (c : CmdCtx) (s : State), Ready 0x11 c [] s →
      let accepted := fun (t : State) =>
        Answered c t .ok [] ∧ t.tim.pend = none ∧ (∀ n, n < 8 → slotSuspect t n = false) ∧
        PacketFrame [.mode, .clk, .tim, .sel, .ports, .gauges, .cal, .freeCtr] [.clk, .dll, .time, .ref, .slot, .port, .eng, .cal] s t ∧
        t.tim.tod = s.tim.tod
      (∀ x, s.tim.pend = some x → x.natAbs < 65536 * 10 ^ 9 →
        Completes (exec (.slewAccept c []) s) fun t =>
          accepted t ∧ (getB s Reg.ENG_STEER_STATUS_ACCEPTED = false → t.tim.weirRem = x * 2 ^ 40)) ∧
      (∀ n, n < 8 → s.tim.pend = none → slotSuspect s n = true → Completes (exec (.slewAccept c []) s) accepted) ∧
      (∀ x, s.tim.pend = some x → 65536 * 10 ^ 9 ≤ x.natAbs →
        Completes (exec (.slewAccept c []) s) fun t => Answered c t .badParam [] ∧ PacketFrame [] [] s t) ∧
      (s.tim.pend = none → (∀ n, n < 8 → slotSuspect s n = false) →
        Completes (exec (.slewAccept c []) s) fun t => Answered c t .badParam [] ∧ PacketFrame [] [] s t)) ∧
  (∀ (c : CmdCtx) (ws : List Word) (s : State), Ready 0x13 c ws s →
      (parF ws 0 0 14 ≠ 0 →
        Completes (exec (.alignOutputs c ws) s) fun t =>
          Answered c t .ok [if (selected s).isSome then 0 else 1] ∧ PacketFrame [.tim] [.dll, .time] s t ∧ t.tim.tod = s.tim.tod ∧
          (getB s Reg.TIME_STATUS_FIRST_ALIGNED = false → getB t Reg.TIME_STATUS_FIRST_ALIGNED = true)) ∧
      (parF ws 0 0 14 = 0 → Completes (exec (.alignOutputs c ws) s) fun t => Answered c t .badParam [] ∧ PacketFrame [] [] s t)) ∧
  (∀ (c : CmdCtx) (ws : List Word) (s : State), Ready 0x20 c ws s →
      let n := parF ws 0 0 3
      let frame := fun (t : State) => Answered c t .ok [] ∧
        PacketFrame [.mode, .clk, .tim, .sel, .ports, .gauges, .cal, .freeCtr] [.clk, .dll, .time, .ref, .slot, .port, .eng, .cal] s t ∧
        t.tim.tod = s.tim.tod
      (parF ws 0 28 4 = 0 → Completes (exec (.refSelect c ws) s) fun t => frame t ∧ forced t = none) ∧
      (parF ws 0 28 4 = 1 → slotEn s n = true → slotErr s n = false →
        Completes (exec (.refSelect c ws) s) fun t => frame t ∧ forced t = some n) ∧
      (parF ws 0 28 4 = 1 → slotEn s n = false ∨ slotErr s n = true →
        Completes (exec (.refSelect c ws) s) fun t => Answered c t .badParam [] ∧ PacketFrame [] [] s t) ∧
      (parF ws 0 28 4 = 2 → Completes (exec (.refSelect c ws) s) fun t => frame t ∧ getB t (Reg.SLOT_SLOT_CFG_LOCKOUT n) = true) ∧
      (parF ws 0 28 4 = 3 → Completes (exec (.refSelect c ws) s) fun t => frame t ∧ getB t (Reg.SLOT_SLOT_CFG_LOCKOUT n) = false) ∧
      (parF ws 0 28 4 = 4 → getB s (Reg.SLOT_SLOT_STATUS_WTR_RUN n) = true →
        Completes (exec (.refSelect c ws) s) fun t => frame t ∧ getB t (Reg.SLOT_SLOT_STATUS_WTR_RUN n) = false) ∧
      (parF ws 0 28 4 = 4 → getB s (Reg.SLOT_SLOT_STATUS_WTR_RUN n) = false →
        Completes (exec (.refSelect c ws) s) fun t => Answered c t .ok [] ∧ PacketFrame [] [] s t) ∧
      (5 ≤ parF ws 0 28 4 → Completes (exec (.refSelect c ws) s) fun t => Answered c t .badParam [] ∧ PacketFrame [] [] s t))

/-- PTP_RECV, BERM_RUN (R106, R316): PTP_RECV takes messages from the front of the receive FIFO, at most COUNT of them, and leaves the rest in
order; BERM_RUN queues a request for a port that has none, which then shows BERM_WAIT; a port with no link is BAD_PARAM. PTP_SEND (R194,
R316): through an UP port with the host's stack chosen, a frame of at most 256 bytes goes into the Sluice buffer of its port, to leave at
the ToD of admission, a longer one into the port's TC7 queue; without TS the command completes at once, with it when the frame leaves; a
full Sluice buffer is BUSY. -/
def Obligations.PtpPackets : Prop :=
  (∀ (c : CmdCtx) (ws : List Word) (s : State),
      (Ready 0x31 c ws s → hostSome s = true → 1 ≤ parF ws 0 0 6 →
        ∃ k, k ≤ parF ws 0 0 6 ∧ k ≤ s.ports.ptpRx.length ∧
          Completes (exec (.ptpRecv c ws) s) fun t =>
            Answered c t .ok ((s.ports.ptpRx.take k).map ptpWords).flatten ∧ PacketFrame [.ports] [] s t ∧ t.ports.ptpRx = s.ports.ptpRx.drop k) ∧
      (Ready 0x31 c ws s → hostSome s = false →
        Completes (exec (.ptpRecv c ws) s) fun t => Answered c t .denied [] ∧ PacketFrame [] [] s t) ∧
      (Ready 0x31 c ws s → hostSome s = true → parF ws 0 0 6 = 0 →
        Completes (exec (.ptpRecv c ws) s) fun t => Answered c t .badParam [] ∧ PacketFrame [] [] s t) ∧
      (Ready 0x38 c ws s → parF ws 0 0 6 < 36 → fabUp s (parF ws 0 0 6) = true →
        Completes (exec (.bermRun c ws) s) fun t =>
          Answered c t .ok [] ∧ PacketFrame [.ports] [.port] s t ∧
          ((∀ q ∈ s.ports.bermQ, q.port ≠ parF ws 0 0 6) → (∀ w, s.ports.bermWin = some w → w.port ≠ parF ws 0 0 6) →
            t.ports.bermQ = s.ports.bermQ ++ [{ port := parF ws 0 0 6, lossy := decide (parF ws 0 8 1 = 1) }] ∧
            getB t (Reg.PORT_TT_STATUS_BERM_WAIT (parF ws 0 0 6)) = true)) ∧
      (Ready 0x38 c ws s → (36 ≤ parF ws 0 0 6 ∨ fabUp s (parF ws 0 0 6) = false) →
        Completes (exec (.bermRun c ws) s) fun t => Answered c t .badParam [] ∧ PacketFrame [] [] s t)) ∧
  (∀ (c : CmdCtx) (ws : List Word) (s : State), Ready 0x30 c ws s →
      let f := parF ws 0 0 6
      let bytes := parF ws 0 16 12
      let sends := hostAt s f = true ∧ ws.length = 1 + (bytes + 3) / 4 ∧ f < 36 ∧ fabUp s f = true ∧ authMissing s f = false
      let held := fun (t : State) =>
        (parF ws 0 8 1 = 0 → Answered c t .ok []) ∧ (parF ws 0 8 1 = 1 → isRunning t s.cmd.nextId = true)
      (60 ≤ bytes → bytes ≤ 252 → sends → (s.fab.sluice.filter (fun x => x.f = f)).length < 32 →
        sluiceCells s + sumNat (s.fab.frames.map (·.pre)) + cellsOf (bytes + 4) ≤ getF s Reg.FAB_POLDER_RSV →
        Completes (exec (.ptpSend c ws) s) fun t =>
          PacketFrame [.fab] [.fab, .fport, .queue] s t ∧ held t ∧
          ∃ x, t.fab.sluice = s.fab.sluice ++ [x] ∧ x.f = f ∧ x.len = bytes + 4 ∧ x.release = todVis s ∧ x.body = ws.drop 1 ∧
            (x.origin = if parF ws 0 8 1 = 1 then some s.cmd.nextId else none)) ∧
      (252 < bytes → bytes ≤ 1514 → sends → getB s (Reg.Q_Q_CFG_SPILLING (8 * f + 7)) = false →
        queueOcc s (8 * f + 7) + cellsOf (bytes + 4) ≤ getF s (Reg.Q_Q_FB_HI (8 * f + 7)) + 1 →
        getF s Reg.FAB_POLDER_RSV + cellsOf (bytes + 4) ≤ polderFree s →
        Completes (exec (.ptpSend c ws) s) fun t =>
          PacketFrame [.fab] [.fab, .fport, .queue] s t ∧ held t ∧
          ∃ x, t.fab.frames = s.fab.frames ++ [x] ∧ x.q = 8 * f + 7 ∧ x.len = bytes + 4 ∧ x.body = ws.drop 1) ∧
      (60 ≤ bytes → bytes ≤ 252 → sends → 32 ≤ (s.fab.sluice.filter (fun x => x.f = f)).length →
        Completes (exec (.ptpSend c ws) s) fun t => Answered c t .busy [] ∧ PacketFrame [] [.fab, .fport] s t) ∧
      (hostAt s f = false →
        Completes (exec (.ptpSend c ws) s) fun t => Answered c t .denied [] ∧ PacketFrame [] [] s t) ∧
      (hostAt s f = true → (bytes < 60 ∨ 1514 < bytes ∨ 36 ≤ f ∨ fabUp s f = false) →
        Completes (exec (.ptpSend c ws) s) fun t => Answered c t .badParam [] ∧ PacketFrame [] [] s t))

/-- MAC_EDIT (R180, R204): ADD makes a static entry of the VID and address with the mask, REMOVE takes an entry out, and no other entry changes;
FLUSH takes out the dynamic entries whose mask meets the ports named, in the VID named or in all; LOOKUP answers mask and kind; ADD of a new
entry in a full bucket is BUSY. VLAN_EDIT, GATE_LOAD (R179, R186, R204): a VLAN is set with its members and its untagged members among them,
or taken out, and no other VLAN changes; a gate list becomes the pending one of its port, and no other port's gates change. -/
def Obligations.SwitchTables : Prop :=
  (∀ (c : CmdCtx) (ws : List Word) (s : State), Ready 0x40 c ws s →
      let act := parF ws 0 28 4
      let vid := parF ws 0 0 12
      let mac := parF ws 1 0 16 * 2 ^ 32 + (par ws 2).toNat
      let mask := maskWords (par ws 3) (par ws 4)
      let others := fun (t : State) => PacketFrame [.fab] [] s t ∧ ∀ v m, (v, m) ≠ (vid, mac) → macFind t v m = macFind s v m
      vid ≠ 4095 → (vid = 0 → act = 2) → parF ws 4 10 22 = 0 →
      (act = 0 → ((macFind s vid mac).isSome = true ∨ bucketFree s vid mac = true) →
        Completes (exec (.macEdit c ws) s) fun t => Answered c t .ok [] ∧ others t ∧ macFind t vid mac = some ⟨vid, mac, mask, true, s.now⟩) ∧
      (act = 0 → macFind s vid mac = none → bucketFree s vid mac = false →
        Completes (exec (.macEdit c ws) s) fun t => Answered c t .busy [] ∧ PacketFrame [] [] s t) ∧
      (act = 1 → Completes (exec (.macEdit c ws) s) fun t => Answered c t .ok [] ∧ others t ∧ macFind t vid mac = none) ∧
      (act = 2 → Completes (exec (.macEdit c ws) s) fun t =>
        Answered c t .ok [] ∧ PacketFrame [.fab] [] s t ∧
        ∀ e, e ∈ t.fab.macs ↔ e ∈ s.fab.macs ∧ (e.isStatic = true ∨ Nat.land e.mask mask = 0 ∨ (vid ≠ 0 ∧ e.vid ≠ vid))) ∧
      (act = 3 → ∀ e, macFind s vid mac = some e →
        Completes (exec (.macEdit c ws) s) fun t =>
          Answered c t .ok [BitVec.ofNat 32 e.mask, BitVec.ofNat 32 (e.mask / 2 ^ 32), if e.isStatic then 3 else 2] ∧ PacketFrame [] [] s t) ∧
      (act = 3 → macFind s vid mac = none →
        Completes (exec (.macEdit c ws) s) fun t => Answered c t .ok [0, 0, 0] ∧ PacketFrame [] [] s t) ∧
      (3 < act → Completes (exec (.macEdit c ws) s) fun t => Answered c t .badParam [] ∧ PacketFrame [] [] s t)) ∧
  (∀ (c : CmdCtx) (ws : List Word) (s : State),
      let vid := parF ws 0 0 12
      let member := maskWords (par ws 1) (par ws 2)
      let others := fun (t : State) => PacketFrame [.fab] [] s t ∧ ∀ v, v ≠ vid → vlanOf t v = vlanOf s v
      let f := parF ws 0 0 6
      let n := parF ws 0 16 9
      (Ready 0x41 c ws s → 1 ≤ vid → vid ≤ 4094 → parF ws 2 10 22 = 0 → parF ws 4 10 22 = 0 →
        (parF ws 0 28 4 = 0 →
          Completes (exec (.vlanEdit c ws) s) fun t =>
            Answered c t .ok [] ∧ others t ∧ vlanOf t vid = some ⟨vid, member, Nat.land member (maskWords (par ws 3) (par ws 4))⟩) ∧
        (parF ws 0 28 4 = 1 → Completes (exec (.vlanEdit c ws) s) fun t => Answered c t .ok [] ∧ others t ∧ vlanOf t vid = none)) ∧
      (Ready 0x41 c ws s → (vid = 0 ∨ vid = 4095 ∨ 1 < parF ws 0 28 4) →
        Completes (exec (.vlanEdit c ws) s) fun t => Answered c t .badParam [] ∧ PacketFrame [] [] s t) ∧
      (f < 36 → 1 ≤ n → n ≤ 256 → ws.length = 6 + n → Ready 0x42 c ws s → parF ws 3 0 30 < 10 ^ 9 → 16 ≤ (par ws 4).toNat →
        (∀ e ∈ (gateListOf ws).entries, 16 ≤ e.2) →
        Completes (exec (.gateLoad c ws) s) fun t =>
          Answered c t .ok [] ∧ PacketFrame [.fab] [] s t ∧ (gateS t f).admin = some (gateListOf ws) ∧
          (gateS t f).start = listStart (gateListOf ws) (todCeilNs s) ∧ (∀ g, g ≠ f → gateS t g = gateS s g)) ∧
      (Ready 0x42 c ws s → (36 ≤ f ∨ n = 0 ∨ 256 < n) →
        Completes (exec (.gateLoad c ws) s) fun t => Answered c t .badParam [] ∧ PacketFrame [] [] s t))

/-- JIETH_RELAY, LANE_SLIP (R152, R154, R222): a manager sends the inner packet on the first link of the path and the command runs until its
reply; a standalone device refuses it, a first link that is not UP times out at hop 1; a slip moves the lane's position modulo 33 on a link
in ALIGN, or on a lost lane, without automatic alignment. CONTROL_FRAME_RX, CONTROL_ACK_TIMEOUT (R151 to R154, R341): a link acknowledges
each command and reply in hardware and delivers a SEQ once; a command goes on along its path or, its tag checked, to this device's command
processor, a hop not UP is answered; an unacknowledged frame is sent once more, then the link fails. Frames leave while the link's replay
buffer has room. -/
def Obligations.RelayAndControlFrames : Prop :=
  (∀ (c : CmdCtx) (ws : List Word) (s : State),
      let addr := parF ws 0 0 16
      let n := addrHop addr 1
      let link := parF ws 0 8 3
      let lane := parF ws 0 0 3
      let k := parF ws 0 16 5
      let inner := fieldOf (par ws 1) 6 10
      let slips := (linkState s link = 2 ∨ (linkState s link = 6 ∧ getB s (Reg.LINK_JPHY_LANE_LOST link lane) = true))
      let relayed := fun (t : State) => PacketFrame [] [] s t
      (inner ≤ 510 → ws.length = 2 + inner → Ready 0x50 c ws s →
        (s.straps.jrole ≠ 0 → addrValid addr = true → (getB s Reg.SEC_CFG_JIETH_AUTH = true → keyUsable s 64 = true) →
          (linkRole s n = 2 → linkCarries s n = true → replayBytes s n + 4 * ws.length + 16 ≤ 131072 →
            Completes (exec (.jiethRelay c ws) s) fun t =>
              relayed t ∧ isRunning t s.cmd.nextId = true ∧ (∃ h, .ctl n h (ws.drop 1 ++ ctlTag s (ws.drop 1) h) ∈ t.out) ∧
              (linkS t n).ctlTx = (linkS s n).ctlTx + 1) ∧
          ((linkRole s n ≠ 2 ∨ linkCarries s n = false) →
            Completes (exec (.jiethRelay c ws) s) fun t => Answered c t .timeout [1] ∧ relayed t)) ∧
        (s.straps.jrole = 0 → Completes (exec (.jiethRelay c ws) s) fun t => Answered c t .denied [] ∧ relayed t) ∧
        (s.straps.jrole ≠ 0 → addrValid addr = false → Completes (exec (.jiethRelay c ws) s) fun t => Answered c t .badParam [] ∧ relayed t)) ∧
      (510 < inner → Ready 0x50 c ws s → Completes (exec (.jiethRelay c ws) s) fun t => Answered c t .lenExceeds [] ∧ relayed t) ∧
      (link ≤ 5 → lane ≤ 3 → Ready 0x53 c ws s → slips →
        (getB s (Reg.LINK_LINK_CFG_AUTO_ALIGN link) = false →
          Completes (exec (.laneSlip c ws) s) fun t =>
            getF t (Reg.LINK_JPHY_LANE_SLIP_POS link lane) = (if k = 0 then getF s (Reg.LINK_JPHY_LANE_SLIP_POS link lane) else (getF s (Reg.LINK_JPHY_LANE_SLIP_POS link lane) + k) % 33) ∧
            (∃ w : Word, Answered c t .ok [w]) ∧ PacketFrame [.freeCtr] [.link] s t) ∧
        (getB s (Reg.LINK_LINK_CFG_AUTO_ALIGN link) = true →
          Completes (exec (.laneSlip c ws) s) fun t => Answered c t .denied [] ∧ PacketFrame [] [] s t)) ∧
      (Ready 0x53 c ws s → (5 < link ∨ 3 < lane ∨ ¬ slips) →
        Completes (exec (.laneSlip c ws) s) fun t => Answered c t .badParam [] ∧ PacketFrame [] [] s t)) ∧
  (∀ (n : Nat) (s : State), n < 6 →
      let frame := Frame [.regs, .jieth, .cmd, .aud, .out] [.perf, .aud, .cmd] s
      let ack := fun (f : CtlFrame) => Output.ctl n (ctlHeader 2 (ctlSeq f.header) 0 0) []
      let room := fun (m k : Nat) => replayBytes s m + 4 * k ≤ 131072
      let fresh := fun (f : CtlFrame) => linkCarries s n = true ∧ (linkS s n).ctlRx ≠ some (ctlSeq f.header)
      let h := fun (f : CtlFrame) => f.words.getD 0 0
      (∀ f, linkCarries s n = true → fieldOf f.header 30 2 = 2 →
        Completes (exec (.controlFrameRx n f) s) fun t =>
          Frame [.jieth] [] s t ∧ ∀ w, w ∈ (linkS t n).ctlWait ↔ w ∈ (linkS s n).ctlWait ∧ ctlSeq w.frame.header ≠ ctlSeq f.header) ∧
      (∀ f, linkCarries s n = true → fieldOf f.header 30 2 < 2 → (linkS s n).ctlRx = some (ctlSeq f.header) → room n 1 →
        Completes (exec (.controlFrameRx n f) s) fun t => Frame [.jieth, .out] [] s t ∧ t.out = s.out ++ [ack f]) ∧
      (∀ f, fresh f → fieldOf f.header 30 2 < 2 →
        Completes (exec (.controlFrameRx n f) s) fun t =>
          frame t ∧ (linkS t n).ctlRx = some (ctlSeq f.header) ∧ (room n 1 → ack f ∈ t.out)) ∧
      (∀ f, fresh f → fieldOf f.header 30 2 = 0 → 1 < ctlHops f.header →
        let m := ctlPath f.header / 512
        (m < 6 → linkCarries s m = true → room m (2 + f.words.length + f.tag.length) →
          Completes (exec (.controlFrameRx n f) s) fun t =>
            (∃ h, .ctl m h (f.words ++ f.tag) ∈ t.out ∧ fieldOf h 19 3 = ctlHops f.header - 1 ∧ fieldOf h 7 12 = ctlPath f.header * 8 % 4096) ∧
            t.jieth.back = s.jieth.back ++ [(m, n, innerTag f false)]) ∧
        ((6 ≤ m ∨ linkCarries s m = false) →
          Completes (exec (.controlFrameRx n f) s) fun t =>
            .jiethReply n [replyHeader s true 1 .timeout (innerTag f false), BitVec.ofNat 32 (ownDepth s + 1)] ∈ t.out)) ∧
      (∀ f, fresh f → fieldOf f.header 30 2 = 0 → ctlHops f.header ≤ 1 → getB s Reg.SEC_CFG_JIETH_AUTH = false → cpServes s = true →
        1 ≤ f.words.length → f.words.length < 1024 → fieldOf (h f) 6 10 ≤ 512 → (opInfo (fieldOf (h f) 24 8)).isSome = true →
        1 + fieldOf (h f) 6 10 ≤ f.words.length →
        Completes (exec (.controlFrameRx n f) s) fun t =>
          frame t ∧ ∃ p, t.cmd.waiting = s.cmd.waiting ++ [p] ∧ p.iface = .jieth n ∧ p.queue = fieldOf (h f) 2 2 ∧ p.opcode = fieldOf (h f) 24 8 ∧
            p.tag = fieldOf (h f) 16 8 ∧ p.words = (f.words.drop 1).take (fieldOf (h f) 6 10)) ∧
      (∀ f, fresh f → fieldOf f.header 30 2 = 0 → ctlHops f.header ≤ 1 → getB s Reg.SEC_CFG_JIETH_AUTH = true →
        (keyUsable s 64 = false ∨ ctlTagOk s f = false) →
        Completes (exec (.controlFrameRx n f) s) fun t =>
          .jiethReply n [replyHeader s true 0 .denied (innerTag f false)] ∈ t.out ∧ t.cmd = s.cmd ∧ t.regs = s.regs) ∧
      (∀ f r, fresh f → fieldOf f.header 30 2 = 1 →
        s.jieth.back.find? (fun b => decide (b.1 = n) && decide (b.2.2 = innerTag f true)) = none →
        s.jieth.relays.find? (fun r => decide (r.link = n) && decide (r.tag = innerTag f true)) = some r →
        Completes (exec (.controlFrameRx n f) s) fun t => isRunning t r.id = false ∧ t.jieth.relays = s.jieth.relays.erase r) ∧
      ((linkS s n).ctlWait = [] → Completes (exec (.controlAckTimeout n) s) fun t => t = s) ∧
      (∀ w r, (linkS s n).ctlWait = w :: r → w.retried = false →
        Completes (exec (.controlAckTimeout n) s) fun t =>
          Frame [.regs, .jieth, .out] [.link] s t ∧ (linkS t n).ctlWait = { w with retried := true } :: r ∧
          (linkCarries s n = true → room n (1 + w.frame.words.length + w.frame.tag.length) →
            .ctl n w.frame.header (w.frame.words ++ w.frame.tag) ∈ t.out) ∧
          getF t (Reg.LINK_RETRY_CNT n) = (getF s (Reg.LINK_RETRY_CNT n) + 1) % 2 ^ 32 ∧ getB t (Reg.LINK_LINK_EVENTS_RETRY n) = true) ∧
      (∀ w r, (linkS s n).ctlWait = w :: r → w.retried = true → linkState s n ≠ 0 → linkState s n ≠ 7 →
        Completes (exec (.controlAckTimeout n) s) fun t => linkState t n = 7 ∧ getB t (Reg.LINK_LINK_EVENTS_LINK_FAILED n) = true))

/-- GAUGE_CTRL, GAUGE_READ (R237, R243): the gauges of the mask run, or stop and keep their results, and no other gauge's RUNNING changes; an
empty mask, or a start of a gauge whose configuration is in error, is BAD_PARAM; GAUGE_READ takes results from the front of a FIFO.
GNSS_CTRL, GNSS_RAW_READ, GNSS_POS_SET (R255, R260): START and STOP set RUNNING, a cold START drops the ephemerides, SURVEY the held
position; raw records leave the FIFO by whole epochs, at least one where any is queued; a plausible position is held and survives, another
is BAD_PARAM. -/
def Obligations.InstrumentPackets : Prop :=
  (∀ (c : CmdCtx) (ws : List Word) (s : State),
      let inMask := fun (n : Nat) => parF ws 0 n 1 = 1
      let others := fun (t : State) => PacketFrame [.gauges] [.ga] s t ∧
        ∀ n, n < 12 → ¬ inMask n → getB t (Reg.GA_STATUS_RUNNING n) = getB s (Reg.GA_STATUS_RUNNING n)
      let k := parF ws 0 8 8
      let g := parF ws 0 0 4
      (Ready 0x60 c ws s → (∃ n, n < 12 ∧ inMask n) → parF ws 0 31 1 = 1 →
        Completes (exec (.gaugeCtrl c ws) s) fun t =>
          Answered c t .ok [] ∧ others t ∧
          ∀ n, n < 12 → inMask n → getB t (Reg.GA_STATUS_RUNNING n) = false ∧ (gaugeS t n).fifo = (gaugeS s n).fifo) ∧
      (Ready 0x60 c ws s → (∃ n, n < 12 ∧ inMask n) → parF ws 0 31 1 = 0 → (∀ n, n < 12 → inMask n → gaugeCfgErr s n = false) →
        Completes (exec (.gaugeCtrl c ws) s) fun t =>
          Answered c t .ok [] ∧ others t ∧ ∀ n, n < 12 → inMask n → getB t (Reg.GA_STATUS_RUNNING n) = true ∧ (gaugeS t n).cfg = gaugeCfg s n) ∧
      (Ready 0x60 c ws s → ((∀ n, n < 12 → ¬ inMask n) ∨ (parF ws 0 31 1 = 0 ∧ ∃ n, n < 12 ∧ inMask n ∧ gaugeCfgErr s n = true)) →
        Completes (exec (.gaugeCtrl c ws) s) fun t => Answered c t .badParam [] ∧ PacketFrame [] [] s t) ∧
      (Ready 0x61 c ws s → 1 ≤ k → k ≤ 128 → g ≤ 11 →
        Completes (exec (.gaugeRead c ws) s) fun t =>
          Answered c t .ok ((gaugeS s g).fifo.take k).flatten ∧ PacketFrame [.gauges] [] s t ∧ (gaugeS t g).fifo = (gaugeS s g).fifo.drop k ∧
          (∀ m, m ≠ g → gaugeS t m = gaugeS s m)) ∧
      (Ready 0x61 c ws s → (k = 0 ∨ 128 < k ∨ 11 < g) →
        Completes (exec (.gaugeRead c ws) s) fun t => Answered c t .badParam [] ∧ PacketFrame [] [] s t)) ∧
  (∀ (c : CmdCtx) (ws : List Word) (s : State),
      let act := parF ws 0 28 4
      let frame := fun (t : State) => Answered c t .ok [] ∧
        PacketFrame [.mode, .clk, .tim, .sel, .ports, .gauges, .gnss, .cal, .freeCtr] [.clk, .dll, .time, .ref, .slot, .port, .gnss, .chan, .eng, .cal] s t
      (Ready 0x70 c ws s → act = 0 → Completes (exec (.gnssCtrl c ws) s) fun t => frame t ∧ getB t Reg.GNSS_STATUS_RUNNING = false) ∧
      (Ready 0x70 c ws s → act = 1 → Completes (exec (.gnssCtrl c ws) s) fun t =>
        frame t ∧ getB t Reg.GNSS_STATUS_RUNNING = true ∧ t.gnss.eph = [] ∧ t.gnss.almanac = false) ∧
      (Ready 0x70 c ws s → act = 2 → Completes (exec (.gnssCtrl c ws) s) fun t => frame t ∧ getB t Reg.GNSS_STATUS_RUNNING = true) ∧
      (Ready 0x70 c ws s → act = 3 → Completes (exec (.gnssCtrl c ws) s) fun t => frame t ∧ t.gnss.posHeld = false) ∧
      (Ready 0x70 c ws s → act = 4 → Completes (exec (.gnssCtrl c ws) s) fun t =>
        Answered c t .ok [] ∧ PacketFrame [.gnss] [] s t ∧ t.gnss = { s.gnss with baseRun := true }) ∧
      (Ready 0x70 c ws s → 4 < act → Completes (exec (.gnssCtrl c ws) s) fun t => Answered c t .badParam [] ∧ PacketFrame [] [] s t) ∧
      (Ready 0x71 c ws s → 1 ≤ parF ws 0 0 6 →
        Completes (exec (.gnssRawRead c ws) s) fun t =>
          Answered c t .ok (popRaw (parF ws 0 0 6) s.gnss.raw).1.flatten ∧ PacketFrame [.gnss] [] s t ∧
          (∃ k, t.gnss.raw = s.gnss.raw.drop k ∧ (s.gnss.raw ≠ [] → 1 ≤ k))) ∧
      (Ready 0x72 c ws s → nearEarth (coord ws 0) (coord ws 2) (coord ws 4) = true →
        Completes (exec (.gnssPosSet c ws) s) fun t => frame t ∧ t.gnss.posHeld = true ∧ getF t Reg.GNSS_STATUS_POS_MODE = 2 ∧
          getF t Reg.GNSS_SURVEY_LEFT = 0 ∧ t.gnss.pos = (coord ws 0, coord ws 2, coord ws 4) ∧
          (getHL t Reg.GNSS_POS_X_HI Reg.GNSS_POS_X_LO : Int) = coord ws 0 % 2 ^ 64 ∧
          (getHL t Reg.GNSS_POS_Y_HI Reg.GNSS_POS_Y_LO : Int) = coord ws 2 % 2 ^ 64 ∧
          (getHL t Reg.GNSS_POS_Z_HI Reg.GNSS_POS_Z_LO : Int) = coord ws 4 % 2 ^ 64) ∧
      (Ready 0x72 c ws s → nearEarth (coord ws 0) (coord ws 2) (coord ws 4) = false →
        Completes (exec (.gnssPosSet c ws) s) fun t => Answered c t .badParam [] ∧ PacketFrame [] [] s t))

/-- ENG_LOAD, ENG_START, ENG_STOP, ENG_READ (R275): a stopped user engine takes words into the RAM named and no other word of it changes; a
firmware engine is DENIED, a running one BUSY; the engines of a mask start at an address with cleared words, flags and stack, or stop;
ENG_READ answers the words. -/
def Obligations.EnginePackets : Prop :=
  ∀ (c : CmdCtx) (ws : List Word) (s : State),
    let e := parF ws 0 16 4
    let o := parF ws 0 0 13
    let data := parF ws 0 31 1 = 1
    let size := if data then 8192 else 4096
    let ram := fun (t : State) => if data then (engS t e).dram else (engS t e).iram
    let m := maskEngs (par ws 0)
    (Ready 0x80 c ws s → 12 ≤ e → engRunning s e = false → o + (ws.length - 1) ≤ size →
      Completes (exec (.engLoad c ws) s) fun t =>
        Answered c t .ok [] ∧ PacketFrame [.engs] [.ue] s t ∧
        (∀ k, k + 1 < ws.length → memGet (ram t) (o + k) = (ws.getD (k + 1) 0).setWidth 18) ∧
        (∀ a, a < o ∨ o + (ws.length - 1) ≤ a → memGet (ram t) a = memGet (ram s) a)) ∧
    (Ready 0x80 c ws s → e < 12 → Completes (exec (.engLoad c ws) s) fun t => Answered c t .denied [] ∧ PacketFrame [] [] s t) ∧
    (Ready 0x80 c ws s → 12 ≤ e → o + (ws.length - 1) ≤ size → engRunning s e = true →
      Completes (exec (.engLoad c ws) s) fun t => Answered c t .busy [] ∧ PacketFrame [] [] s t) ∧
    (Ready 0x81 c ws s → m ≠ [] → (∀ x ∈ m, engRunning s x = false) →
      Completes (exec (.engStart c ws) s) fun t =>
        Answered c t .ok [] ∧ PacketFrame [.clk, .tim, .engs] [.clk, .ue] s t ∧
        (∀ x ∈ m, engRunning t x = true ∧ (engS t x).pc = (par ws 0).setWidth 12 ∧ (engS t x).stack = [] ∧ (∀ r, uw t x r = 0) ∧
          (engS t x).dram = (engS s x).dram) ∧
        (∀ x, x ∉ m → engS t x = engS s x)) ∧
    (Ready 0x82 c ws s → parF ws 0 0 12 = 0 → m ≠ [] →
      Completes (exec (.engStop c ws) s) fun t =>
        Answered c t .ok [] ∧ PacketFrame [.clk, .tim, .engs] [.clk, .ue] s t ∧ (∀ x ∈ m, engRunning t x = false)) ∧
    (Ready 0x83 c ws s → 12 ≤ e → 1 ≤ parF ws 0 21 9 → o + parF ws 0 21 9 ≤ size →
      Completes (exec (.engRead c ws) s) fun t =>
        Answered c t .ok ((memGetList (ram s) o (parF ws 0 21 9)).map (fun w => w.setWidth 32)) ∧ PacketFrame [] [] s t) ∧
    (Ready 0x83 c ws s → e < 12 → Completes (exec (.engRead c ws) s) fun t => Answered c t .denied [] ∧ PacketFrame [] [] s t)

/-- CAL_RUN (R25, R287): an item that can be measured joins the end of the run list and the device is in CALIBRATE; one that cannot is
BAD_PARAM, a ninth is BUSY, and an active pair member with its standby present stays in its mode. CAL_LOAD, CAL_READ (R300): words go into
the staging buffer and nowhere else in it; CAL_READ answers words of a flash copy or of the working set; outside the 1,024 words both are
BAD_PARAM. -/
def Obligations.CalibrationRuns : Prop :=
  (∀ (c : CmdCtx) (ws : List Word) (s : State), Ready 0x90 c ws s →
      let w := par ws 0
      let free := s.mode = .calibrate ∨ standbyPresent s = false
      (∀ it, free → runItem s w = some it → s.cal.run.length < 8 →
        Completes (exec (.calRun c ws) s) fun t =>
          Answered c t .ok [] ∧ t.mode = .calibrate ∧ (s.mode ≠ .calibrate → t.calEntry = s.mode) ∧
          t.cal.run = s.cal.run ++ [{ item := it, refDly := (par ws 1).toNat, cable := (par ws 2).toInt, evA := fieldOf w 8 4, evB := fieldOf w 4 4 }] ∧
          PacketFrame [.mode, .calEntry, .clk, .tim, .sel, .ports, .cal] [.ref, .port, .eng] s t) ∧
      (free → runItem s w = none →
        Completes (exec (.calRun c ws) s) fun t => Answered c t .badParam [] ∧ PacketFrame [] [] s t) ∧
      (free → (runItem s w).isSome = true → 8 ≤ s.cal.run.length →
        Completes (exec (.calRun c ws) s) fun t => Answered c t .busy [] ∧ PacketFrame [] [] s t) ∧
      (¬ free → Completes (exec (.calRun c ws) s) fun t => Answered c t .wrongMode [] ∧ PacketFrame [] [] s t)) ∧
  (∀ (c : CmdCtx) (ws : List Word) (s : State),
      let o := parF ws 0 0 10
      let n := parF ws 0 21 9
      let k := parF ws 0 30 2
      (Ready 0x92 c ws s → o + (ws.length - 1) ≤ 1024 →
        Completes (exec (.calLoad c ws) s) fun t =>
          Answered c t .ok [] ∧ PacketFrame [.cal] [] s t ∧ t.cal = { s.cal with staging := t.cal.staging } ∧
          (∀ i, i + 1 < ws.length → memGet t.cal.staging (o + i) = ws.getD (i + 1) 0) ∧
          (∀ a, a < o ∨ o + (ws.length - 1) ≤ a → memGet t.cal.staging a = memGet s.cal.staging a)) ∧
      (Ready 0x92 c ws s → 1024 < o + (ws.length - 1) →
        Completes (exec (.calLoad c ws) s) fun t => Answered c t .badParam [] ∧ PacketFrame [] [] s t) ∧
      (Ready 0x94 c ws s → 1 ≤ n → o + n ≤ 1024 →
        Completes (exec (.calRead c ws) s) fun t =>
          Answered c t .ok ((List.range n).map (fun i => if k = 3 then memGet s.cal.work (o + i) else copyWord (flashCopy s k) (o + i))) ∧
          PacketFrame [] [] s t) ∧
      (Ready 0x94 c ws s → (n = 0 ∨ 1024 < o + n) →
        Completes (exec (.calRead c ws) s) fun t => Answered c t .badParam [] ∧ PacketFrame [] [] s t))

/-- CAL_ACCEPT, CAL_COMMIT (R298, R299, R300): an intact copy named by CAL_ACCEPT is the record used from its start; a commit builds its record,
of the staging buffer or of the working set; both run until their store operation ends, and while one runs another is BUSY. CAL_STORE_DONE
(R300): with every read-back good the copies written hold the record and are intact in the store, STORE_DONE is raised and the command ends
OK; a failed read-back ends it with TIMEOUT, later copies untouched. -/
def Obligations.CalibrationCommits : Prop :=
  (∀ (c : CmdCtx) (ws : List Word) (s : State),
      let k := parF ws 0 0 2
      let staged := parF ws 0 0 1 = 0
      (Ready 0x91 c ws s → k < 3 → s.cal.store = none → intact (flashCopy s k) = true →
        Completes (exec (.calAccept c ws) s) fun t =>
          PacketFrame [.ports, .cal] [.port, .cal] s t ∧ isRunning t s.cmd.nextId = true ∧ getF t Reg.CAL_STATUS_COPY_USED = 2 ^ k ∧
          getB t Reg.CAL_STATUS_CAL_REQUIRED = false ∧ t.cal.store = some ⟨s.cmd.nextId, (flashCopy s k).words, some k⟩ ∧ t.flash = s.flash) ∧
      (Ready 0x91 c ws s → k < 3 → s.cal.store = none → intact (flashCopy s k) = false →
        Completes (exec (.calAccept c ws) s) fun t => Answered c t .badParam [] ∧ PacketFrame [] [] s t) ∧
      (Ready 0x91 c ws s → k < 3 → s.cal.store.isSome = true →
        Completes (exec (.calAccept c ws) s) fun t => Answered c t .busy [] ∧ PacketFrame [] [] s t) ∧
      (Ready 0x93 c ws s → (staged → recordGood (memGetList s.cal.staging 0 1008) = true) → s.cal.store = none →
        getB s Reg.SEC_STATUS_ID_VALID = true →
        Completes (exec (.calCommit c ws) s) fun t =>
          PacketFrame [.cal] [] s t ∧ isRunning t s.cmd.nextId = true ∧ t.cal.work = s.cal.work ∧ t.cal.force = s.cal.force ∧
          t.cal.store = some ⟨s.cmd.nextId, if staged then stagedRecord s else workRecord s, none⟩) ∧
      (Ready 0x93 c ws s → staged → recordGood (memGetList s.cal.staging 0 1008) = false →
        Completes (exec (.calCommit c ws) s) fun t => Answered c t .badParam [] ∧ PacketFrame [] [] s t) ∧
      (Ready 0x93 c ws s → ¬ staged → s.cal.store.isSome = true →
        Completes (exec (.calCommit c ws) s) fun t => Answered c t .busy [] ∧ PacketFrame [] [] s t) ∧
      (Ready 0x93 c ws s → ¬ staged → s.cal.store = none → getB s Reg.SEC_STATUS_ID_VALID = false →
        Completes (exec (.calCommit c ws) s) fun t => Answered c t .denied [] ∧ PacketFrame [] [] s t)) ∧
  (∀ (s : State) (st : Store), s.cal.store = some st →
      let ends := fun (t : State) (id : Nat) (x : Status) =>
        ∀ p, s.cmd.running.find? (fun p => p.id = id) = some p → p.iface = .pcie → s.pcieUp = true → p.mute = false →
          ∃ h, .pcieReply p.queue p.slot [h] ∈ t.out ∧ fieldOf h 31 1 = 1 ∧ fieldOf h 8 8 = x.code
      (Completes (exec (.calStoreDone none) s) fun t =>
        Frame [.regs, .ports, .jieth, .cmd, .cal, .flash, .aud, .out] [.port, .perf, .cal, .aud, .cmd] s t ∧ t.cal.store = none ∧
        isRunning t st.id = false ∧ ends t st.id .ok ∧ getB t Reg.CAL_EVENTS_STORE_DONE = true ∧ getB t Reg.CAL_STATUS_CAL_REQUIRED = false ∧
        ∀ k, k < 3 → flashCopy t k = if st.skip = some k then flashCopy s k else ⟨st.words⟩) ∧
      (∀ f, f < 3 → st.skip ≠ some f →
        Completes (exec (.calStoreDone (some f)) s) fun t =>
          Frame [.regs, .jieth, .cmd, .cal, .flash, .aud, .out, .freeCtr] [.perf, .aud, .cmd] s t ∧ t.cal.store = none ∧
          isRunning t st.id = false ∧ ends t st.id .timeout ∧ (∀ k, k < f → st.skip ≠ some k → flashCopy t k = ⟨st.words⟩) ∧
          ∀ k, k < 3 → f < k → flashCopy t k = flashCopy s k)) ∧
  (∀ f (s : State), s.cal.store = none → Completes (exec (.calStoreDone f) s) fun t => t = s)

/-- CAL_MEASUREMENT_DONE (R288, R291): results that agree give the item its values in the working set, pending their boundary, not yet in force;
results that disagree set CAL_DISAGREE and the item is measured again, at most three times. PERIOD_BOUNDARY, LOAD_CLASS_EVAL (R55, R59,
R291, R294, R295): a DLL's pending values come into force at its period boundary and no other item's do; the load of the last 60 s is shown,
the load class moves only with a load 2 percentage points beyond a boundary, and U_STATED of every port follows. -/
def Obligations.CalibrationMeasures : Prop :=
  (∀ (r1 r2 : CalResult) (s : State) (r : CalReq) (rest : List CalReq), s.cal.run = r :: rest → measurable s r.item = true →
      (∀ vs, solveItem s r r1 r2 = some (some vs) →
        Completes (exec (.calMeasurementDone r1 r2) s) fun t =>
          Frame [.regs, .mode, .clk, .tim, .sel, .ports, .cal, .out] [.ref, .port, .eng, .cal] s t ∧ r.item ∈ t.cal.pend ∧
          t.cal.force = s.cal.force ∧ getB t Reg.CAL_EVENTS_ITEM_DONE = true ∧
          (∀ p q, r.item = .portDelay p q → t.cal.run = { item := .bermRef p q } :: rest) ∧
          ((∀ p q, r.item ≠ .portDelay p q) → t.cal.run = rest)) ∧
      (solveItem s r r1 r2 = some none → s.cal.tries < 2 →
        Completes (exec (.calMeasurementDone r1 r2) s) fun t =>
          Frame [.regs, .ports, .cal, .out] [.port, .cal] s t ∧ getB t Reg.CAL_EVENTS_CAL_DISAGREE = true ∧
          t.cal = { s.cal with tries := s.cal.tries + 1 }) ∧
      (solveItem s r r1 r2 = some none → 2 ≤ s.cal.tries →
        Completes (exec (.calMeasurementDone r1 r2) s) fun t =>
          Frame [.regs, .mode, .clk, .tim, .sel, .ports, .cal, .out] [.ref, .port, .eng, .cal] s t ∧ getB t Reg.CAL_EVENTS_ITEM_FAIL = true ∧
          t.cal.run = rest ∧ t.cal.work = s.cal.work ∧ t.cal.tries = 0)) ∧
  (∀ (s : State),
      (∀ n, n < 20 → s.clk.started = true →
        Completes (exec (.periodBoundary n) s) fun t =>
          (if n < 14 then Frame [.regs, .tim, .cal, .out] [.dll, .time] s t else TimeFrame [.cal] [.dll, .time] s t) ∧
          (∀ it, it ≠ .dll n → (it ∈ t.cal.pend ↔ it ∈ s.cal.pend)) ∧ t.cal.work = s.cal.work ∧
          ((outS s n).fired = false → (outS s n).opened ≠ some (outS s n).next →
            getB s (Reg.DLL_STAT_BYPASS n) = false → getB s (Reg.DLL_STAT_GATED n) = false → getB s (Reg.DLL_STAT_LOCK n) = true →
            CalItem.dll n ∈ s.cal.pend → ∀ k, k ∈ itemWords (.dll n) → memGet t.cal.force k = memGet s.cal.work k)) ∧
      (∀ n, n < 20 → s.clk.started = false → Completes (exec (.periodBoundary n) s) fun t => t = s) ∧
      (powered s .time = true →
        let load := fabricLoad (loadSecond s)
        ∀ dt, Completes (exec (.loadClassEval dt) s) fun t =>
          Frame [.regs, .ports, .fab] [.port, .cal] s t ∧ t.fab = { s.fab with cells := 0, load := (s.fab.cells :: s.fab.load).take 60 } ∧
          getF t Reg.CAL_DIE_TEMP = (dt.map (twos 16)).getD (getF s Reg.CAL_DIE_TEMP) ∧
          getF t Reg.CAL_LOAD_PERMILLE = load ∧
          getF t Reg.CAL_STATUS_PRESENT_CLASS = nextClass (getF s Reg.CAL_STATUS_PRESENT_CLASS) load ∧
          ∀ p, p < 36 → getF t (Reg.PORT_U_STATED p) = uStated t p % 2 ^ 16) ∧
      (powered s .time = false → ∀ dt, Completes (exec (.loadClassEval dt) s) fun t => t = s))

/-- KEY_LOAD, KEY_ZERO, ID_READ (R338, R339): a key slot takes a key where no breach and no lock stands, and loses it, the other slots
untouched; the identity words answer serial, public key and status. DEBUG_OPEN (R317, R343): the checks in their order, DBG_EN, a fuse left,
the unlock, the word; the unlock is consumed whatever the status; one that opens has taken every key, the identity and one breach fuse
first, and logged the breach. AUDIT_EXPORT, AUDIT_ACK (R353, R354): part 0 builds the block where none is pending, the same block is
answered again until it is acknowledged; the right number frees its entries and a block after it carries its hash; a wrong part or number is
BAD_PARAM. A full log bars neither (R352). -/
def Obligations.KeysDebugAudit : Prop :=
  (∀ (c : CmdCtx) (ws : List Word) (s : State),
      let k := parF ws 0 0 7
      let keyOf := fun (t : State) (j : Nat) => spGet? t.sec.keys j
      let barred := getB s Reg.SEC_STATUS_BREACH = true ∨ getB s Reg.SEC_STATUS_KEYS_LOCKED = true
      (Ready 0xA3 c ws s → k ≤ 65 → ¬ barred →
        Completes (exec (.keyLoad c ws) s) fun t =>
          Answered c t .ok [] ∧ PacketFrame [.sec] [] s t ∧ keyOf t k = some (ws.drop 1) ∧ ∀ j, j ≠ k → keyOf t j = keyOf s j) ∧
      (Ready 0xA3 c ws s → k ≤ 65 → barred →
        Completes (exec (.keyLoad c ws) s) fun t => Answered c t .denied [] ∧ PacketFrame [] [] s t) ∧
      (Ready 0xA3 c ws s → 65 < k → Completes (exec (.keyLoad c ws) s) fun t => Answered c t .badParam [] ∧ PacketFrame [] [] s t) ∧
      (Ready 0xA4 c ws s → parF ws 0 31 1 = 1 →
        Completes (exec (.keyZero c ws) s) fun t =>
          Answered c t .ok [] ∧ PacketFrame [.sec] [.sec] s t ∧ t.sec.keys = [] ∧ getB t Reg.SEC_EVENTS_KEY_ZEROED = true) ∧
      (Ready 0xA4 c ws s → parF ws 0 31 1 = 0 → k ≤ 65 →
        Completes (exec (.keyZero c ws) s) fun t =>
          Answered c t .ok [] ∧ PacketFrame [.sec] [.sec] s t ∧ keyOf t k = none ∧ (∀ j, j ≠ k → keyOf t j = keyOf s j) ∧
          getB t Reg.SEC_EVENTS_KEY_ZEROED = true) ∧
      (Ready 0xA4 c ws s → parF ws 0 31 1 = 0 → 65 < k →
        Completes (exec (.keyZero c ws) s) fun t => Answered c t .badParam [] ∧ PacketFrame [] [] s t) ∧
      (Ready 0xA5 c ws s →
        Completes (exec (.idRead c ws) s) fun t =>
          PacketFrame [] [] s t ∧
          Answered c t .ok ([(Config.serial >>> 32).setWidth 32, Config.serial.setWidth 32] ++
            (List.range 16).map (fun k => viewWord s (0xE0040 + 4 * k)) ++ [viewWord s 0xE0000]))) ∧
  (∀ (c : CmdCtx) (ws : List Word) (s : State), Ready 0xA0 c ws s →
      let armed := getB s Reg.SYS_UNLOCK_ARMED = true
      let word := parF ws 0 0 16 = 0xB4EA
      let end_ := fun (st : Status) =>
        Completes (exec (.debugOpen c ws) s) fun t => Answered c t st [] ∧ PacketFrame [] [.sys] s t ∧ getB t Reg.SYS_UNLOCK_ARMED = false
      ((s.pins.dbgEn = false ∨ breachCount s = 32) → end_ .denied) ∧
      (s.pins.dbgEn = true → breachCount s ≠ 32 → ¬ armed → end_ .locked) ∧
      (s.pins.dbgEn = true → breachCount s ≠ 32 → armed → ¬ word → end_ .badParam) ∧
      (s.pins.dbgEn = true → breachCount s ≠ 32 → armed → word →
        Completes (exec (.debugOpen c ws) s) fun t =>
          getB t Reg.SYS_UNLOCK_ARMED = false ∧ t.sec.keys = [] ∧ t.sec.idKey = false ∧ getB t Reg.SEC_STATUS_KEYS_LOCKED = true ∧
          (t.mode = .fault ∨ (t.mode = s.mode ∧ getB t Reg.SEC_STATUS_BREACH = true ∧ getB t Reg.SEC_STATUS_ID_VALID = false)) ∧
          (getB s Reg.SEC_STATUS_DEBUG_OPEN = false → getB t Reg.SEC_STATUS_DEBUG_OPEN = true → breachCount t = breachCount s + 1 ∧ Answered c t .ok []))) ∧
  (∀ (c : CmdCtx) (ws : List Word) (s : State),
      let part := parF ws 0 0 3
      let ready := fun (op : Nat) => CanStart op c s ∧ (modeRun s.mode = true ∨ s.mode = .fault) ∧ ws.length = 1
      (ready 0xA1 → part ≤ 4 → ∀ b, s.aud.block = some b →
        Completes (exec (.auditExport c ws) s) fun t =>
          Answered c t .ok ((b.drop (512 * part)).take 512) ∧ PacketFrame [] [] s t ∧ t.aud.block = some b ∧ t.aud.blockNo = s.aud.blockNo) ∧
      (ready 0xA1 → part = 0 → s.aud.block = none →
        Completes (exec (.auditExport c ws) s) fun t =>
          PacketFrame [] [] s t ∧ t.aud.blockNo = s.aud.blockNo ∧ t.aud.prevHash = s.aud.prevHash ∧
          t.aud.blockCount = min s.aud.unack 256 ∧ (∃ b, t.aud.block = some b ∧ Answered c t .ok (b.take 512))) ∧
      (ready 0xA1 → (4 < part ∨ (part ≠ 0 ∧ s.aud.block = none)) →
        Completes (exec (.auditExport c ws) s) fun t => Answered c t .badParam [] ∧ PacketFrame [] [] s t) ∧
      (ready 0xA2 → ∀ b, s.aud.block = some b → par ws 0 = s.aud.blockNo →
        Completes (exec (.auditAck c ws) s) fun t =>
          Answered c t .ok [] ∧ PacketFrame [] [] s t ∧ t.aud.block = none ∧ t.aud.blockNo = s.aud.blockNo + 1 ∧ t.aud.prevHash = sha256 b) ∧
      (ready 0xA2 → (s.aud.block = none ∨ par ws 0 ≠ s.aud.blockNo) →
        Completes (exec (.auditAck c ws) s) fun t => Answered c t .badParam [] ∧ PacketFrame [] [] s t ∧ t.aud.block = s.aud.block))

/-- REGISTER_WRITE of a CTRL register (R321, R322, R349, R350): each field takes the written value, held to its limits; no other register
changes; the audit entry carries the address, the value before and the value after. REGISTER_WRITE that no register takes (R319, R321,
R330): in BOOT, in FAULT, under a full log or to a block without power it is dropped and counted; at an unassigned block, or with byte
enables missing, it is counted as a bad address. -/
def Obligations.RegisterWrites : Prop :=
  (∀ (a : Nat) (v : Word) (s : State),
      a ∈ [0x28, 0x38, 0x10028, 0x10030, 0x20030, 0x30000, 0x30004, 0x30008, 0x3000C, 0x30010, 0x30028, 0x100020] → BarWrites (addrDomain a) s →
      Completes (exec (.registerWrite a 15 v) s) fun t =>
        (∀ f ∈ fieldsAt a, fieldOf (regWord t a) f.lo f.w = normField f (fieldOf v f.lo f.w)) ∧ Only [.regs, .aud, .out] s t ∧ OnlyWord a s t ∧
        ∃ e, t.aud.ring.getLast? = some e ∧ e.getD 0 0 = s.aud.seq ∧ e.getD 4 0 = BitVec.ofNat 32 a ∧ e.getD 5 0 = BitVec.ofNat 32 a ∧
          e.getD 6 0 = viewWord s a ∧ e.getD 7 0 = viewWord t a) ∧
  (∀ (addr be : Nat) (v : Word) (s : State), s.pcieUp = true →
      (∀ b off, be = 15 → decodeAddr addr = some (b, off) →
        (s.mode = .boot ∨ s.mode = .fault ∨ auditFull s = true ∨ powered s (addrDomain (b * 65536 + off)) = false) →
        Completes (exec (.registerWrite addr be v) s) fun t =>
          Frame [.regs, .out] [.sys, .perf, .aud] s t ∧ getB t Reg.SYS_EVENTS_WR_DROPPED = true ∧
          getF t Reg.SYS_WR_DROP = (getF s Reg.SYS_WR_DROP + 1) % 2 ^ 32) ∧
      ((decodeAddr addr = none ∨ be ≠ 15) →
        Completes (exec (.registerWrite addr be v) s) fun t =>
          Frame [.regs, .out] [.sys, .perf] s t ∧ getB t Reg.SYS_EVENTS_BAD_ADDR_SEEN = true ∧
          getF t Reg.SYS_BAD_ADDR = (getF s Reg.SYS_BAD_ADDR + 1) % 2 ^ 32) ∧
      (∀ b off, BarWrites (addrDomain (b * 65536 + off)) s → be = 15 → decodeAddr addr = some (b, off) → reached b off = none →
        Completes (exec (.registerWrite addr be v) s) fun t => Frame [.regs, .out] [.perf] s t))

/-- UNLOCK and GUARD registers (R324, R325): 0x7A3C arms the unlock, any other value disarms it; a write to a register with GUARD fields while
it is disarmed leaves those fields, sets GUARD_VIOL, and VIOL_ADDR tells the address. A ONCE register (R325, R326): BOARD_ID takes the first
write after a reset; a later one is dropped and sets ONCE_VIOL. -/
def Obligations.GuardedAndOnceWrites : Prop :=
  (∀ (v : Word) (s : State),
      (BarWrites .aon s →
        Completes (exec (.unlock v) s) fun t =>
          (getB t Reg.SYS_UNLOCK_ARMED = decide (fieldOf v 0 16 = 0x7A3C)) ∧ Only [.regs, .aud, .out] s t ∧ OnlyWord Reg.SYS_UNLOCK_ARMED.addr s t) ∧
      (∀ addr b off r, decodeAddr addr = some (b, off) → reached b off = some r → BarWrites (addrDomain (b * 65536 + off)) s →
        hasCls (fieldsAt r) .guard = true → getB s Reg.SYS_UNLOCK_ARMED = false →
        Completes (exec (.registerWrite addr 15 v) s) fun t =>
          Frame [.regs, .aud, .out] [.sys, .perf, .aud] s t ∧ (∀ f ∈ fieldsAt r, f.cls = .guard → fieldOf (regWord t r) f.lo f.w = fieldOf (regWord s r) f.lo f.w) ∧
          getB t Reg.SYS_EVENTS_GUARD_VIOL = true ∧ getF t Reg.SYS_VIOL_ADDR = r ∧ getB t Reg.SYS_UNLOCK_ARMED = false)) ∧
  (∀ (v : Word) (s : State), BarWrites .aon s →
      (s.boardSet = false →
        Completes (exec (.registerWrite 0x34 15 v) s) fun t =>
          Only [.regs, .boardSet, .aud, .out] s t ∧ OnlyWord 0x34 s t ∧ t.boardSet = true ∧ getF t Reg.SYS_BOARD_ID = fieldOf v 0 16) ∧
      (s.boardSet = true →
        Completes (exec (.registerWrite 0x34 15 v) s) fun t =>
          Frame [.regs, .aud, .out] [.sys, .perf, .aud] s t ∧ getF t Reg.SYS_BOARD_ID = getF s Reg.SYS_BOARD_ID ∧
          getB t Reg.SYS_EVENTS_ONCE_VIOL = true ∧ getF t Reg.SYS_VIOL_ADDR = 0x34))

/-- COR_READ and other reads (R319, R321, R322, R330): a read returns the register's value and clears the status bits of a COR register, nothing
else; where no register is reached, and in a block without power, it returns zero. NOMINAL_LO_WRITE, INC_LO_WRITE, OUT_PSTEP_LO_WRITE (R45,
R59, R64, R75, R327): the write of the least significant word applies the whole value, its upper word staged before or standing; a phase
step waits for its output's period boundary. -/
def Obligations.ReadsAndWideWrites : Prop :=
  (∀ (addr : Nat) (s : State), s.pcieUp = true →
      (∀ b off r, decodeAddr addr = some (b, off) → reached b off = some r → powered s (addrDomain r) = true → hasCls (fieldsAt r) .cor = true →
        Completes (exec (.corRead addr) s) fun t =>
          Only [.regs, .out] s t ∧ (∀ a, a ≠ r → ¬ Area.perf.has a → regWord t a = regWord s a) ∧
          (∀ f ∈ fieldsAt r, f.cls = .cor → fieldOf (regWord t r) f.lo f.w = 0) ∧
          (¬ Area.perf.has r → t.out.getLast? = some (.read (issuedAddr addr) (viewWord s r)))) ∧
      (∀ b off, decodeAddr addr = some (b, off) → reached b off = none →
        Completes (exec (.corRead addr) s) fun t => Frame [.regs, .out] [.perf] s t ∧ t.out.getLast? = some (.read (issuedAddr addr) 0)) ∧
      (∀ b off r, decodeAddr addr = some (b, off) → reached b off = some r → powered s (addrDomain r) = false →
        Completes (exec (.corRead addr) s) fun t => Frame [.regs, .out] [.perf] s t ∧ t.out.getLast? = some (.read (issuedAddr addr) 0)) ∧
      (decodeAddr addr = none →
        Completes (exec (.corRead addr) s) fun t =>
          Frame [.regs, .out] [.sys, .perf] s t ∧ t.out.getLast? = some (.read (issuedAddr addr) 0) ∧ getF t Reg.SYS_BAD_ADDR = (getF s Reg.SYS_BAD_ADDR + 1) % 2 ^ 32)) ∧
  (∀ (v : Word) (s : State), BarWrites .time s →
      let upper := fun (a : Nat) => (spGet? s.staged a).getD (regWord s a)
      (getB s Reg.SYS_UNLOCK_ARMED = true →
        Completes (exec (.nominalLoWrite v) s) fun t =>
          BarFrame [.staged, .clk, .sel] [.sys, .clk] s t ∧ getB t Reg.SYS_UNLOCK_ARMED = false ∧ spGet? t.staged Reg.CLK_NOMINAL_HI.addr = none ∧
          nominal t = sext 54 (fieldOf (upper Reg.CLK_NOMINAL_HI.addr) 0 22 * 2 ^ 32 + v.toNat) ∧
          (holdsNominal s = true → getB s Reg.ENG_STEER_STATUS_ACCEPTED = false → t.clk.cwReq = nominal t) ∧
          (holdsNominal s = false → t.clk = { s.clk with rootPos := t.clk.rootPos })) ∧
      (Completes (exec (.incLoWrite v) s) fun t =>
        BarFrame [.staged] [.time] s t ∧
        incVal t = fieldOf (upper 0x20010) 24 8 * 2 ^ 56 + fieldOf (upper 0x20010) 0 24 * 2 ^ 32 + v.toNat) ∧
      (∀ n, n < 14 →
        Completes (exec (.outPstepLoWrite n v) s) fun t =>
          BarFrame [.staged, .tim] [.dll, .outw] s t ∧ (∀ m, m ≠ n → outS t m = outS s m) ∧ t.tim.tod = s.tim.tod ∧
          outS t n = { outS s n with pend := some (.pstep (clampInt (-640000000000) 640000000000
            (sext 41 (fieldOf (upper (Reg.OUT_OUT_PSTEP_HI n).addr) 0 9 * 2 ^ 32 + v.toNat)))) }))

/-- ARM, OUT_EN_WRITE (R68, R72): ARM loads the staged schedule of a timed output, its words that wait in staging included (the model's reading
of R327, log entry 111); a ONCE target less than 256 ns ahead is missed; EN alone takes effect, and clearing it keeps the schedule. APPLY, RETURN (R51, R53, R57): APPLY starts a relock with the settings written where the
PLL's domain is powered, and is held where it is not; RETURN is held while its DLL is in bypass and does nothing otherwise. -/
def Obligations.OutputWrites : Prop :=
  (∀ (n : Nat) (v : Word) (s : State), BarWrites .time s →
      let periodic := fieldOf v 1 2 = 1
      let lead := cmpDiff (5 * (stagedTgt s n : Int)) (todVis s)
      let rest := fun (t : State) => (∀ m, m ≠ n → outS t m = outS s m) ∧ t.tim.tod = s.tim.tod
      let others := fun (t : State) => BarFrame [.staged, .tim] [.time, .outw] s t ∧ rest t
      (6 ≤ n → n < 14 → fieldOf v 4 1 = 1 → (periodic ∨ leadFifths ≤ lead) →
        Completes (exec (.armWrite n v) s) fun t =>
          others t ∧ (outS t n).armed = true ∧ (outS t n).periodic = decide periodic ∧ (outS t n).tgt = stagedTgt s n ∧
          (outS t n).per = stagedPer s n ∧ getB t (Reg.OUT_OUT_CTRL_ARM n) = true ∧ getB t (Reg.OUT_OUT_CTRL_MISSED n) = false) ∧
      (6 ≤ n → n < 14 → fieldOf v 4 1 = 1 → ¬ periodic → lead < leadFifths →
        Completes (exec (.armWrite n v) s) fun t =>
          others t ∧ (outS t n).armed = false ∧ getB t (Reg.OUT_OUT_CTRL_MISSED n) = true ∧ getB t Reg.TIME_EVENTS_TO_MISSED = true) ∧
      (n < 14 → fieldOf v 4 1 = 0 →
        Completes (exec (.outEnWrite n v) s) fun t =>
          BarFrame [.tim] [.time, .outw] s t ∧ rest t ∧ (getB t (Reg.OUT_OUT_CTRL_EN n) = decide (fieldOf v 0 1 = 1)) ∧ (fieldOf v 0 1 = 0 → outS t n = outS s n))) ∧
  (∀ (v : Word) (s : State), BarWrites .time s →
      (∀ hbm, fieldOf v 7 1 = 1 →
        let force := fun (t : State) => if hbm then t.clk.hbm else t.clk.fab
        Completes (exec (.applyWrite hbm v) s) fun t =>
          BarFrame [.clk] [.clk] s t ∧ getB t (pllFlds hbm).1 = true ∧ force t = (if powered s (if hbm then .hbm else .fab) then stagedPll t hbm else force s) ∧
          (powered s (if hbm then .hbm else .fab) = true → getB t (pllFlds hbm).2.1 = true ∧ getB t (pllFlds hbm).2.2 = false)) ∧
      (∀ hbm, fieldOf v 7 1 = 0 →
        Completes (exec (.applyWrite hbm v) s) fun t => BarFrame [] [.clk] s t ∧ getB t (pllFlds hbm).2.1 = getB s (pllFlds hbm).2.1) ∧
      (∀ n, n < 20 → fieldOf v 1 1 = 1 →
        Completes (exec (.returnWrite n v) s) fun t =>
          BarFrame [] [.dll] s t ∧ (getB t (Reg.DLL_CFG_RETURN n) = (getB s (Reg.DLL_STAT_BYPASS n) || getB s (Reg.DLL_CFG_RETURN n))) ∧
          getB t (Reg.DLL_STAT_BYPASS n) = getB s (Reg.DLL_STAT_BYPASS n)))

/-- LINK_ROLE_WRITE, RETRAIN (R139, R143, R155): a link takes the role written where the limits leave a place, and acts as OFF where they do
not; RETRAIN takes a link that holds a role back to CLOCK, one in FAILED stays. SLOT_CFG_WRITE, PHY_CFG_WRITE (R113, R206): the fields take
the written value; a slot whose source changes is not qualified; a port whose EN falls leaves lock and loses its phase words. -/
def Obligations.LinkSlotPhyWrites : Prop :=
  (∀ (n : Nat) (v : Word) (s : State), n < 6 → BarWrites .jieth s →
      let r := fieldOf v 0 2
      let frame := BarFrame [.mode, .clk, .tim, .sel, .ports, .jieth, .fab, .gauges, .cal, .cmd, .freeCtr] [.clk, .dll, .time, .ref, .slot, .port, .link, .jg, .pair, .fport, .queue, .eng, .cal, .cmd] s
      (fieldOf v 2 1 = 0 →
        Completes (exec (.linkRoleWrite n v) s) fun t =>
          frame t ∧ linkRoleCfg t n = r ∧
          (r ≠ linkRoleCfg s n → r ≠ 0 → ((List.range 6).filter (fun m => decide (m ≠ n) && decide (linkRole s m = r))).length < roleLimit s r →
            linkRole t n = r) ∧
          (r ≠ linkRoleCfg s n → r ≠ 0 → roleLimit s r = 0 → linkRole t n = 0)) ∧
      (fieldOf v 2 1 = 1 → r = linkRoleCfg s n → linkRole s n ≠ 0 →
        Completes (exec (.retrain n v) s) fun t =>
          frame t ∧ (linkState s n ≠ 7 → linkState t n = 1 ∧ getB t (Reg.LINK_LINK_CFG_RETRAIN n) = false) ∧ (linkState s n = 7 → linkState t n = 7))) ∧
  (∀ (n : Nat) (v : Word) (s : State),
      (n < 8 → BarWrites .eng s →
        Completes (exec (.slotCfgWrite n v) s) fun t =>
          BarFrame [.mode, .clk, .tim, .sel, .ports, .gauges, .cal, .freeCtr] [.clk, .dll, .time, .ref, .slot, .port, .eng, .cal] s t ∧
          slotType t n = fieldOf v 6 2 ∧ slotIndex t n = fieldOf v 0 6 ∧ slotRank t n = max 1 (fieldOf v 8 4) ∧ slotEn t n = decide (fieldOf v 15 1 = 1) ∧
          ((slotType t n ≠ slotType s n ∨ slotIndex t n ≠ slotIndex s n ∨ slotEn t n ≠ slotEn s n) → slotQual t n = false) ∧
          ((slotType t n = slotType s n ∧ slotIndex t n = slotIndex s n ∧ slotEn t n = slotEn s n) → slotQual t n = slotQual s n)) ∧
      (n < 36 → BarWrites (portDomain n) s →
        Completes (exec (.phyCfgWrite n v) s) fun t =>
          BarFrame [.mode, .clk, .tim, .sel, .ports, .jieth, .fab, .gauges, .cal, .cmd, .freeCtr] [.clk, .dll, .time, .ref, .slot, .port, .fport, .queue, .eng, .cal, .cmd] s t ∧
          (getB t (Reg.PORT_PHY_CFG_EN n) = decide (fieldOf v 6 1 = 1)) ∧
          (getB s (Reg.PORT_PHY_CFG_EN n) = true → fieldOf v 6 1 = 0 →
            getB t (Reg.PORT_TT_STATUS_CDR_LOCK n) = false ∧ getB t (Reg.PORT_PHASE_VALID n) = false)))

/-- MBOX_IN_WRITE, MBOX_OUT_READ, RESULT_3_READ, SAMPLE_READ (R244, R268, R270, R278): a mailbox word raises event bit 2 of a user engine, a
second one before it is read sets MBOX_IN_OVR; reads pop the mailbox, the gauge's result and the samples. FREEZE, RESET of the sampling
buffer, CLR of a histogram, STEER_CFG_WRITE (R274, R280, R282, R285): FREEZE takes the written bit; RESET empties the buffer; CLR clears
bins, count and extremes; a change of OWNER clears the trims. -/
def Obligations.EngineRegisterWrites : Prop :=
  (∀ (s : State),
      (∀ e v, 12 ≤ e → e < 16 → BarWrites .eng s →
        Completes (exec (.mboxInWrite e v) s) fun t =>
          BarFrame [.engs] [.eng, .ue] s t ∧ getF t (Reg.UE_MBOX_IN e) = fieldOf v 0 18 ∧ (engS t e).mboxNew = true ∧
          (engS t e).ev = (engS s e).ev ||| 4 ∧ (∀ x, x ≠ e → engS t x = engS s x) ∧
          ((engS s e).mboxNew = true → getB t Reg.ENG_EVENTS_MBOX_IN_OVR = true)) ∧
      (∀ e, e < 16 → s.pcieUp = true → powered s .eng = true →
        Completes (exec (.mboxOutRead e) s) fun t =>
          Frame [.regs, .engs, .out] [.perf] s t ∧ (engS t e).mboxOut = (engS s e).mboxOut.drop 1 ∧ (∀ x, x ≠ e → engS t x = engS s x) ∧
          ∃ w, t.out.getLast? = some (.read (0xB010C + 0x20 * e) w) ∧
            ∀ x l, (engS s e).mboxOut = x :: l → fieldOf w 31 1 = 1 ∧ fieldOf w 0 18 = x.toNat) ∧
      (∀ n, n < 12 → s.pcieUp = true → powered s .gauge = true →
        Completes (exec (.result3Read n) s) fun t =>
          Frame [.regs, .gauges, .out] [.perf] s t ∧ (gaugeS t n).fifo = (gaugeS s n).fifo.drop 1 ∧ (∀ x, x ≠ n → gaugeS t x = gaugeS s x) ∧
          ∀ r l, (gaugeS s n).fifo = r :: l → t.out.getLast? = some (.read (0x90120 + 0x40 * n) (r.getD 3 0))) ∧
      (∀ c ws, Ready 0xB0 c ws s → 1 ≤ parF ws 0 0 8 → parF ws 0 0 8 ≤ 128 → s.engs.lost = false →
        Completes (exec (.sampleRead c ws) s) fun t =>
          Answered c t .ok (s.engs.buf.take (parF ws 0 0 8)).flatten ∧ PacketFrame [.engs] [] s t ∧ t.engs.buf = s.engs.buf.drop (parF ws 0 0 8)) ∧
      (∀ c ws, Ready 0xB0 c ws s → (parF ws 0 0 8 = 0 ∨ 128 < parF ws 0 0 8) →
        Completes (exec (.sampleRead c ws) s) fun t => Answered c t .badParam [] ∧ PacketFrame [] [] s t)) ∧
  (∀ (v : Word) (s : State), BarWrites .eng s →
      (Completes (exec (.freeze v) s) fun t =>
        BarFrame [] [] s t ∧ getB t Reg.PERF_PERF_CTRL_FREEZE = decide (fieldOf v 0 1 = 1)) ∧
      (fieldOf v 28 1 = 1 → Completes (exec (.sampleReset v) s) fun t =>
        BarFrame [.engs] [] s t ∧ t.engs.buf = [] ∧ t.engs.seq = 0 ∧ t.engs.eng = s.engs.eng) ∧
      (∀ h, h < 8 → fieldOf v 0 1 = 1 → Completes (exec (.clrWrite h v) s) fun t =>
        BarFrame [] [] s t ∧ (∀ k, k < 32 → getF t (Reg.HIST_BIN h k) = 0) ∧ getHL t (Reg.HIST_COUNT_HI h) (Reg.HIST_COUNT_LO h) = 0 ∧
        getF t (Reg.HIST_MIN h) = 2 ^ 32 - 1 ∧ getF t (Reg.HIST_MAX h) = 0) ∧
      (getB s Reg.SYS_UNLOCK_ARMED = true → Completes (exec (.steerCfgWrite v) s) fun t =>
        BarFrame [.clk, .tim, .engs] [.sys, .clk, .eng] s t ∧ getF t Reg.ENG_STEER_CFG_OWNER = fieldOf v 0 3 ∧
        (ownerOf s ≠ ownerOf t → t.engs.ftrim = 0 ∧ t.engs.ptrim = 0) ∧ (ownerOf s = ownerOf t → t.engs = s.engs ∧ t.clk = s.clk ∧ t.tim = s.tim)))

/-- SVN_SET, KEY_REVOKE (R348): the floor rises to a value above it and not above the running image's, and only then; a slot is revoked but for
the running one and the last one left. DEBUG_WRITE (R342, R349): with debug closed it does nothing; with debug open it writes what it names,
an engine's word, RAM or program counter, and makes an entry. -/
def Obligations.SecurityWrites : Prop :=
  (∀ (v : Word) (s : State), BarWrites .aon s →
      let x := fieldOf v 0 6
      (getB s Reg.SYS_UNLOCK_ARMED = true →
        Completes (exec (.svnSet v) s) fun t =>
          BarFrame [.otp] [.sys, .sec] s t ∧ t.otp = { s.otp with svnFloor := t.otp.svnFloor } ∧
          t.otp.svnFloor = if s.otp.svnFloor < x ∧ x ≤ getF s Reg.SEC_BOOT_INFO_SVN_RUN then x else s.otp.svnFloor) ∧
      (getB s Reg.SYS_UNLOCK_ARMED = false → Completes (exec (.svnSet v) s) fun t => t.otp = s.otp) ∧
      (∀ k, k < 4 → fieldOf v 0 4 = 2 ^ k → getB s Reg.SYS_UNLOCK_ARMED = true →
        Completes (exec (.keyRevoke v) s) fun t =>
          BarFrame [.otp] [.sys, .sec] s t ∧ t.otp.svnFloor = s.otp.svnFloor ∧ t.otp.breach = s.otp.breach ∧
          ((k ≠ getF s Reg.SEC_BOOT_INFO_KEY_SLOT_RUN ∧ ∃ j, j < 4 ∧ j ≠ k ∧ bits s.otp.revoked.toNat j 1 = 0) →
            t.otp.revoked = s.otp.revoked ||| BitVec.ofNat 4 (2 ^ k)) ∧
          (k = getF s Reg.SEC_BOOT_INFO_KEY_SLOT_RUN → t.otp.revoked = s.otp.revoked)) ∧
      (getB s Reg.SYS_UNLOCK_ARMED = false → Completes (exec (.keyRevoke v) s) fun t => t.otp = s.otp)) ∧
  (∀ (v : Word) (s : State),
      (∀ d, (debugPort d).2.2 < 16 → getB s Reg.SEC_STATUS_DEBUG_OPEN = false → Completes (exec (.debugWrite d v) s) fun t => t = s) ∧
      (∀ e, e < 16 → getB s Reg.SEC_STATUS_DEBUG_OPEN = true → auditFull s = false → powered s .eng = true →
        let frame := fun (t : State) => Frame [.regs, .engs, .aud, .out, .freeCtr] [.aud] s t ∧ (∀ x, x ≠ e → engS t x = engS s x) ∧ t.aud.seq = s.aud.seq + 1
        (∀ a, a < 4096 → Completes (exec (.debugWrite (.engIram e a) v) s) fun t =>
          frame t ∧ memGet (engS t e).iram a = v.setWidth 18 ∧ ∀ b, b ≠ a → memGet (engS t e).iram b = memGet (engS s e).iram b) ∧
        (∀ a, a < 8192 → Completes (exec (.debugWrite (.engDram e a) v) s) fun t =>
          frame t ∧ memGet (engS t e).dram a = v.setWidth 18 ∧ ∀ b, b ≠ a → memGet (engS t e).dram b = memGet (engS s e).dram b) ∧
        (∀ r, r < 16 → Completes (exec (.debugWrite (.engWord e r) v) s) fun t =>
          frame t ∧ ∀ k : BitVec 4, uw t e k = if k.toNat = r then v.setWidth 18 else uw s e k) ∧
        (Completes (exec (.debugWrite (.engPc e) v) s) fun t => frame t ∧ (engS t e).pc = v.setWidth 12)))

/-- AON_SUPPLY_LOSS, POWER_ON (R31, R335): without the always-on supply every volatile state is lost and every register at its reset value;
fuses stay and the flash but for what a store cut off leaves (R300); power then comes up in RESET and AON. RAIL_OUT_OF_WINDOW, SUPPLY_COLLAPSE (R333, R334): a rail out of its window that
feeds a powered domain is POWER_FAIL, one that feeds none is nothing; a collapse of VDD_CORE or VDDA_CLK takes the device to RESET and AON.
WAKE_EVENT, KEEP_POWER_DOWN, WAKE_COMPLETE, POWER_SEQUENCE_DONE (R28, R34, R335, R336): in TIMEKEEP the domains outside KEEP go off with
their registers while the ToD stays; a wake starts the domains of FULL and ends in ACQUIRE, or in FAULT where the image fails; a power
sequence ends in the power state it was for. -/
def Obligations.PowerAndTimekeep : Prop :=
  (∀ s : State,
      (Completes (exec .aonSupplyLoss s) fun t =>
        t.power = .off ∧ t.domains = [] ∧ (∀ a, regWord t a = wordReset a) ∧ t.sec.keys = [] ∧ t.sec.idKey = false ∧ t.aud.ring = [] ∧
        t.pair.epoch = 0 ∧ t.otp = s.otp ∧ FlashKept s t ∧ t.pins = s.pins) ∧
      (s.power = .off →
        Completes (exec .powerOn s) fun t =>
          t.mode = .reset ∧ t.power = .aon ∧ t.domains = [.aon] ∧ (∀ a, regWord t a = wordReset a) ∧ t.sec.keys = [] ∧ t.aud.ring = [] ∧
          t.cmd.waiting = [] ∧ t.otp = s.otp ∧ t.flash = s.flash)) ∧
  (∀ (r : Rail) (s : State),
      ((s.pins.resetN = true ∨ r = .vddAon ∨ r = .vddioAon) → (∃ d ∈ railFeeds r, powered s d = true) → s.mode ≠ .reset → s.mode ≠ .fault →
        Completes (exec (.railOutOfWindow r) s) fun t =>
          t.mode = .fault ∧ getF t Reg.SYS_FAULT_CAUSE_CODE = 6 ∧ t.hb = false ∧
          FaultFrame s t) ∧
      ((∀ d ∈ railFeeds r, powered s d = false) → Completes (exec (.railOutOfWindow r) s) fun t => t = s) ∧
      ((r = .vddCore ∨ r = .vddaClk) → s.power ≠ .off → s.power ≠ .aon →
        Completes (exec (.supplyCollapse r) s) fun t =>
          t.mode = .reset ∧ t.power = .aon ∧ t.domains = [.aon] ∧ t.collapsed = s.pins.resetN ∧ t.sec.idKey = false ∧ t.aud = s.aud ∧
          t.otp = s.otp ∧ FlashKept s t ∧ ∀ a, addrDomain a ≠ .aon → regWord t a = wordReset a)) ∧
  (∀ s : State,
      (∀ src, s.mode = .timekeep → s.waking = false → (src = .timer → s.wakeS ≠ 0) →
        Completes (exec (.wakeEvent src) s) fun t =>
          Frame [.powerTo, .waking, .pins] [] s t ∧ t.waking = true ∧ t.powerTo = some .full) ∧
      (s.mode = .timekeep → s.powerTo = some .keep →
        Completes (exec .keepPowerDown s) fun t =>
          t.power = .keep ∧ t.powerTo = none ∧ (∀ d ∈ keepOff, powered t d = false) ∧ (∀ a, addrDomain a ∈ keepOff → regWord t a = wordReset a) ∧
          (∀ e, 1 ≤ e → e < 16 → engRunning t e = false ∧ (engS t e).iram = [] ∧ (engS t e).dram = []) ∧
          getB t Reg.SEC_STATUS_DEBUG_OPEN = false ∧ t.tim.tod = s.tim.tod ∧ t.sec = s.sec ∧ t.otp = s.otp) ∧
      ((s.mode ≠ .timekeep ∨ s.waking = true) → ∀ src, Completes (exec (.wakeEvent src) s) fun t => Frame [.pins] [] s t) ∧
      (s.waking = true → s.mode = .timekeep → imageCheck s (imageRan s) = 1 →
        Completes (exec (.wakeComplete true) s) fun t =>
          t.mode = .acquire ∧ t.power = .full ∧ t.waking = false ∧ t.pcieUp = t.pins.perstN ∧ (∀ d ∈ mainDomains, powered t d = true) ∧
          getB t Reg.REF_LOSS_CTRL_WINDOW_OPEN = true ∧ t.aud.seq = s.aud.seq + 1 ∧ t.tim.tod = s.tim.tod) ∧
      (∀ b, s.waking = true → s.mode = .timekeep → b = false ∨ imageCheck s (imageRan s) ≠ 1 →
        Completes (exec (.wakeComplete b) s) fun t => t.mode = .fault ∧ getF t Reg.SYS_FAULT_CAUSE_CODE = 1 ∧ t.tim.tod = s.tim.tod) ∧
      (∀ b, s.waking = false → Completes (exec (.wakeComplete b) s) fun t => t = s) ∧
      (s.powerTo = some .quiet →
        Completes (exec .powerSequenceDone s) fun t => Frame [.power, .powerTo] [] s t ∧ t.power = .quiet ∧ t.powerTo = none) ∧
      (s.powerTo = some .full → s.waking = false →
        Completes (exec .powerSequenceDone s) fun t =>
          t.power = .full ∧ t.powerTo = none ∧ (∀ d ∈ mainDomains, powered t d = true) ∧ t.tim.tod = s.tim.tod ∧ t.mode = s.mode))

/-- RESET_N_LOW, RESET_RELEASE, DEBUG_CLOSE, TRST_N_LOW (R31, R344, R371): a low RESET_N takes the device to RESET with LAST_RESET 1, every
register outside PD_AON at its reset value, keys and log kept; a release without supply only lets the pin rise; DBG_EN low closes debug.
PERST_N_LOW, PERST_N_DEASSERTION (R31, R34, R35): the endpoint goes down with the packets of its interface that have not started, those of
the other interfaces stay; it comes up where PD_HOST is on, and in TIMEKEEP the device wakes. -/
def Obligations.ResetPins : Prop :=
  (∀ s : State,
      (s.power ≠ .off →
        Completes (exec .resetNLow s) fun t =>
          t.mode = .reset ∧ t.pins.resetN = false ∧ t.domains = [.aon] ∧ t.power = s.power ∧ getF t Reg.SYS_FAULT_CAUSE_LAST_RESET = 1 ∧
          getF t Reg.SYS_FAULT_CAUSE_CODE = getF s Reg.SYS_FAULT_CAUSE_CODE ∧ t.cmd.waiting = [] ∧ t.cmd.running = [] ∧ t.tim = {} ∧ t.fab = {} ∧
          t.sec.keys = s.sec.keys ∧ t.sec.idKey = false ∧ t.aud = s.aud ∧ t.pair.epoch = s.pair.epoch ∧ t.otp = s.otp ∧ FlashKept s t ∧
          getB t Reg.SEC_STATUS_DEBUG_OPEN = false ∧ ∀ a, addrDomain a ≠ .aon → regWord t a = wordReset a) ∧
      (∀ b, s.power = .aon →
        Completes (exec (.resetRelease b) s) fun t => Frame [.pins] [] s t ∧ t.pins = { s.pins with resetN := true }) ∧
      (Completes (exec .debugClose s) fun t =>
        Frame [.regs, .pins, .out] [.sec] s t ∧ t.pins = { s.pins with dbgEn := false } ∧ getB t Reg.SEC_STATUS_DEBUG_OPEN = false ∧
        (getB s Reg.SEC_STATUS_DEBUG_OPEN = true → getB t Reg.SEC_EVENTS_DEBUG_CLOSED = true)) ∧
      (Completes (exec .trstNLow s) fun t => t = s)) ∧
  (∀ s : State,
      (Completes (exec .perstNLow s) fun t =>
        Frame [.pins, .pcieUp, .cmd] [] s t ∧ t.pins = { s.pins with perstN := false } ∧ t.pcieUp = false ∧ t.cmd.slots = [] ∧
        t.cmd.waiting = s.cmd.waiting.filter (fun p => decide (p.iface ≠ .pcie)) ∧ t.cmd.running.length = s.cmd.running.length ∧ t.cmd.spi = s.cmd.spi) ∧
      (s.mode ≠ .timekeep →
        Completes (exec .perstNDeassertion s) fun t =>
          Frame [.pins, .pcieUp] [] s t ∧ t.pins = { s.pins with perstN := true } ∧ t.pcieUp = (s.pcieUp || powered s .host)) ∧
      (s.mode = .timekeep → s.waking = false →
        Completes (exec .perstNDeassertion s) fun t =>
          Frame [.powerTo, .waking, .pins] [] s t ∧ t.waking = true ∧ t.powerTo = some .full))

/-- RESET_RELEASE, AON_EXIT (R32, R33, R38, R338, R347): the device leaves RESET. Bad straps are FAULT STRAP_INVALID; a root that does not lock
is waited for; then a host image is waited for, or the flash's image A or else B boots into CONFIG, or FAULT NO_VALID_IMAGE. ROOT_LOCK,
BOOT_ROOT_TIMEOUT (R33, R40, R48): in BOOT a lock starts the dividers and the boot goes on, a time-out is FAULT ROOT_NO_LOCK; later a lock
sets ROOT_LOCK and clears OSC_LOS. -/
def Obligations.BootSequence : Prop :=
  (∀ (b : BootEnv) (s : State) (x : Instr),
      ((x = .resetRelease b ∧ s.mode = .reset ∧ s.power ≠ .aon ∧ s.power ≠ .off) ∨
       (x = .aonExit b ∧ s.mode = .reset ∧ s.power = .aon ∧ s.pins.resetN = true)) →
      let bad := b.jrole = 3 ∨ (b.pairEn = true ∧ b.jrole ≠ 2)
      let locks := b.rootLocks = true ∧ b.osc ≠ .absent
      let host := b.bootSrc = 1 ∨ b.bootSrc = 2
      let s0 : State := { s with otp := { s.otp with keyHash := b.keyHash.getD s.otp.keyHash } }
      let ra := if b.bootSrc = 0 then imageCheck s0 (b.flash.getD s.flash).imageA else 0
      let rb := imageCheck s0 (b.flash.getD s.flash).imageB
      (bad → Completes (exec x s) fun t => t.mode = .fault ∧ getF t Reg.SYS_FAULT_CAUSE_CODE = 3) ∧
      (¬ bad → ¬ locks → Completes (exec x s) fun t => t.mode = .boot ∧ t.power = .full ∧ t.boot = .root b ∧ t.clk.started = s.clk.started) ∧
      (¬ bad → locks → host →
        Completes (exec x s) fun t => t.mode = .boot ∧ t.boot = .hostImage b ∧ t.clk.started = true ∧ powered t .host = true ∧ t.pcieUp = t.pins.perstN) ∧
      (¬ bad → locks → ¬ host → (ra = 1 ∨ rb = 1) →
        Completes (exec x s) fun t =>
          t.mode = .config ∧ t.hb = true ∧ t.cpUp = true ∧ t.boot = .idle ∧ (∀ d ∈ mainDomains, powered t d = true) ∧
          (∀ e, e < 12 → engRunning t e = true) ∧ getF t Reg.SYS_BOOT_STATUS_IMAGE = (if ra = 1 then 1 else 2) ∧ t.aud.seq = s.aud.seq + 1 ∧
          (b.pufOk = true → t.sec.idKey = !getB s Reg.SEC_STATUS_BREACH) ∧ getB t Reg.SEC_STATUS_ID_VALID = (b.pufOk && !getB s Reg.SEC_STATUS_BREACH)) ∧
      (¬ bad → locks → ¬ host → ra ≠ 1 → rb ≠ 1 →
        Completes (exec x s) fun t => t.mode = .fault ∧ getF t Reg.SYS_FAULT_CAUSE_CODE = 1 ∧ getF t Reg.SEC_BOOT_INFO_RESULT_A = ra ∧
          getF t Reg.SEC_BOOT_INFO_RESULT_B = rb)) ∧
  (∀ s : State,
      (∀ b, s.boot = .root b → b.osc ≠ .absent → (s.straps.bootSrc = 1 ∨ s.straps.bootSrc = 2) →
        Completes (exec .rootLock s) fun t =>
          t.boot = .hostImage b ∧ t.clk.started = true ∧ getB t Reg.CLK_ROOT_STATUS_ROOT_LOCK = true ∧ powered t .host = true ∧ t.mode = s.mode) ∧
      (∀ b, s.boot = .root b → b.osc ≠ .absent → s.straps.bootSrc = 0 → imageCheck s s.flash.imageA = 1 →
        Completes (exec .rootLock s) fun t => t.mode = .config ∧ t.clk.started = true ∧ getF t Reg.SYS_BOOT_STATUS_IMAGE = 1) ∧
      (s.boot = .idle → s.clk.started = true →
        Completes (exec .rootLock s) fun t =>
          Frame [.regs] [.clk] s t ∧ getB t Reg.CLK_ROOT_STATUS_ROOT_LOCK = true ∧ getB t Reg.CLK_ROOT_STATUS_OSC_LOS = false) ∧
      (∀ b, s.boot = .root b → s.mode = .boot →
        Completes (exec .bootRootTimeout s) fun t =>
          t.mode = .fault ∧ getF t Reg.SYS_FAULT_CAUSE_CODE = 2 ∧
          FaultFrame s t))

/-- OSC_LOS, OSC_LOS_TIMEOUT (R39, R58, R232): a loss of OSC_IN clears ROOT_LOCK, gates every DLL output and marks the running gauges; with no
lock in time it is FAULT ROOT_NO_LOCK. OVEN_OK_CHANGE, OVEN_LOW_TIMEOUT, SLOPE_EVALUATION, TB_WARM_RISE (R41, R42, R44): TB_WARM rises with
an oven good for 10 ms, where one is used, and either three passing slopes or MIN_S seconds of the warm-up timer; it is lost with an oven low for 10 ms,
which restarts that timer (the tick it restarts from is log entry 122, what WARM_BY records where both conditions hold is entry 123); a slope passes on
600 samples of one reference that drift less than 10^-11 a minute. -/
def Obligations.OscillatorAndWarmUp : Prop :=
  (∀ s : State,
      (s.clk.started = true →
        Completes (exec .oscLos s) fun t =>
          Frame [.regs, .gauges, .out] [.clk, .dll] s t ∧ getB t Reg.CLK_ROOT_STATUS_OSC_LOS = true ∧ getB t Reg.CLK_ROOT_STATUS_ROOT_LOCK = false ∧
          getB t Reg.CLK_EVENTS_OSC_LOS_SEEN = true ∧ (∀ n, n < 20 → getB t (Reg.DLL_STAT_GATED n) = true) ∧ (∀ g ∈ t.gauges, g.hold = true) ∧
          (∀ n, outS t n = outS s n)) ∧
      (getB s Reg.CLK_ROOT_STATUS_OSC_LOS = true → getB s Reg.CLK_ROOT_STATUS_ROOT_LOCK = false → s.mode ≠ .reset → s.mode ≠ .fault →
        Completes (exec .oscLosTimeout s) fun t =>
          t.mode = .fault ∧ getF t Reg.SYS_FAULT_CAUSE_CODE = 2 ∧
          FaultFrame s t) ∧
      (getB s Reg.CLK_ROOT_STATUS_ROOT_LOCK = true → Completes (exec .oscLosTimeout s) fun t => t = s)) ∧
  (∀ s : State,
      (∀ v, powered s .time = true → getB s Reg.CLK_ROOT_STATUS_OVEN_OK = !v →
        Completes (exec (.ovenOkChange v) s) fun t =>
          Frame [.regs, .clk] [.clk] s t ∧ getB t Reg.CLK_ROOT_STATUS_OVEN_OK = v ∧ t.clk = { s.clk with ovenAt := some s.now }) ∧
      (s.clk.started = true → s.straps.ovenUse = true → getB s Reg.CLK_ROOT_STATUS_OVEN_OK = false → ovenHeld s = true →
        Completes (exec .ovenLowTimeout s) fun t =>
          Frame [.regs, .clk, .out] [.clk] s t ∧ getB t Reg.CLK_ROOT_STATUS_TB_WARM = false ∧ t.clk = { s.clk with warmAt := s.clk.ovenAt } ∧
          (getB s Reg.CLK_ROOT_STATUS_TB_WARM = true → getB t Reg.CLK_EVENTS_WARM_LOST = true)) ∧
      (∀ n d, n = (slopeWatch s).clk.slope.length → d = slopeDrift (slopeWatch s).clk.slope → s.clk.started = true →
        Completes (exec (.slopeEvaluation n d) s) fun t =>
          Frame [.clk] [] s t ∧ t.clk.slopeRef = topQualified s ∧
          (topQualified s = s.clk.slopeRef → s.clk.slopeRef.isSome = true → slopeFlat s.clk.slope = true →
            t.clk.slopePass = s.clk.slopePass + 1 ∧ t.clk.slope = s.clk.slope) ∧
          ((topQualified s = none ∨ topQualified s ≠ s.clk.slopeRef ∨ s.clk.slope.length < 600) → t.clk.slopePass = 0) ∧
          (topQualified s ≠ s.clk.slopeRef → t.clk.slope = [])) ∧
      (∀ n d, (n ≠ (slopeWatch s).clk.slope.length ∨ d ≠ slopeDrift (slopeWatch s).clk.slope) →
        Completes (exec (.slopeEvaluation n d) s) fun t => t = s) ∧
      (∀ t0 x, s.clk.started = true → (s.straps.ovenUse = true → getB s Reg.CLK_ROOT_STATUS_OVEN_OK = true ∧ ovenHeld s = true) → s.clk.warmAt = some t0 →
        let time := getF s Reg.CLK_WARM_CFG_MIN_S ≤ x ∧ t0 + x * 625000000 ≤ s.now
        (3 ≤ s.clk.slopePass ∨ time) → getB s Reg.CLK_ROOT_STATUS_TB_WARM = false →
        Completes (exec (.tbWarmRise x) s) fun t =>
          Frame [.regs] [.clk] s t ∧ getB t Reg.CLK_ROOT_STATUS_TB_WARM = true ∧
          getB t Reg.CLK_ROOT_STATUS_WARM_BY = decide (¬ time)) ∧
      (∀ x, s.straps.ovenUse = true → (getB s Reg.CLK_ROOT_STATUS_OVEN_OK = false ∨ ovenHeld s = false) →
        Completes (exec (.tbWarmRise x) s) fun t => t = s))

/-- HELPER_LOCK, DLL_LOCK, DLL_UNLOCK (R49, R56, R57, R86): without the helper no port has a valid phase; a DLL that loses lock goes to bypass
and is recorded, one that locks stays in bypass until its period boundary, and a 10 MHz output then runs (R33). PLL_LOCK, PLL_LOCK_TIMEOUT (R51, R52): a relock that ends has
APPLY and RELOCKING clear and LOCKED set; one that fails has all three clear and its event recorded; the settings in force stay. -/
def Obligations.HelperDllsPlls : Prop :=
  (∀ s : State,
      (s.clk.started = true →
        Completes (exec (.helperLock true) s) fun t => Frame [.regs, .ports] [.clk] s t ∧ getB t Reg.CLK_ROOT_STATUS_HELPER_LOCK = true) ∧
      (s.clk.started = true →
        Completes (exec (.helperLock false) s) fun t =>
          SelFrame s t ∧
          getB t Reg.CLK_ROOT_STATUS_HELPER_LOCK = false ∧ ∀ p, p < 36 → getB t (Reg.PORT_PHASE_VALID p) = false) ∧
      (∀ n, n < 20 → s.clk.started = true →
        Completes (exec (.dllLock n) s) fun t =>
          Frame [.regs, .tim] [.dll] s t ∧ t.tim.tod = s.tim.tod ∧ getB t (Reg.DLL_STAT_LOCK n) = true ∧
          getB t (Reg.DLL_STAT_BYPASS n) = getB s (Reg.DLL_STAT_BYPASS n) ∧ (∀ m, m ≠ n → outS t m = outS s m) ∧
          (n < 4 ∨ 6 ≤ n ∨ clk10Up s n = true → t.tim = s.tim) ∧
          (4 ≤ n → n < 6 → outScheduled t n = true ∧ (s.mode = .boot → outRunning t n = getB s (Reg.OUT_OUT_CTRL_EN n)))) ∧
      (∀ n, n < 20 → getB s (Reg.DLL_STAT_LOCK n) = true →
        Completes (exec (.dllUnlock n) s) fun t =>
          Frame [.regs, .out] [.clk, .dll] s t ∧ getB t (Reg.DLL_STAT_LOCK n) = false ∧ getB t (Reg.DLL_STAT_BYPASS n) = true ∧
          getB t Reg.CLK_EVENTS_DLL_UNLOCK_SEEN = true ∧ ∀ m, m < 20 → m ≠ n → getB t (Reg.DLL_STAT_LOCK m) = getB s (Reg.DLL_STAT_LOCK m))) ∧
  (∀ (hbm : Bool) (s : State), getB s (pllFlds hbm).2.1 = true →
      (Completes (exec (.pllLock hbm) s) fun t =>
        getB t (pllFlds hbm).1 = false ∧ getB t (pllFlds hbm).2.1 = false ∧ getB t (pllFlds hbm).2.2 = true ∧ t.clk = s.clk ∧
        Frame [.regs, .sel, .ports, .jieth, .fab, .out] [.clk, .port, .fab, .fport, .queue, .perf, .sec, .cmd] s t ∧
        (hbm = true → Frame [.regs] [.clk] s t)) ∧
      (Completes (exec (.pllLockTimeout hbm) s) fun t =>
        getB t (pllFlds hbm).1 = false ∧ getB t (pllFlds hbm).2.1 = false ∧ getB t (pllFlds hbm).2.2 = getB s (pllFlds hbm).2.2 ∧ t.clk = s.clk ∧
        getB t (if hbm then Reg.CLK_EVENTS_HBM_PLL_FAIL else Reg.CLK_EVENTS_FAB_PLL_FAIL) = true ∧
        Frame [.regs, .sel, .ports, .jieth, .fab, .out] [.clk, .port, .fab, .fport, .queue, .perf, .sec, .cmd] s t))

/-- COMPARE_FIRE (R54, R59, R67, R68, R72): what the edge's period boundary brings is taken ahead of it; an edge whose launch has passed fires late on the next tick and sets LATE where the output runs; another fires on its launch
tick; outside bypass it leaves placed as SUBTICK and TAP show; a PPS, 10 MHz or PERIODIC output then schedules the next period, a ONCE output that is enabled is disarmed, one that is not is missed. WEIR_SLEW_END,
RAMP_END (R47, R69): the slew ends with nothing remaining and exactly its amount added to what the increments add; the ramp ends with the
applied word at its target. TOD_SECOND_BOUNDARY, TOD_MILLISECOND_BOUNDARY (R61, R63, R270): time runs to the next boundary, which raises
event bit 0 or 1 of every engine; with the exact increment and no slew a whole second is 625,000,000 ticks long, a whole millisecond
625,000. -/
def Obligations.TimedEvents : Prop :=
  (∀ (n : Nat) (s : State), n < 14 → s.clk.started = true →
      let u := openAhead s n
      let d := cmpDiff (launch u n) (todVis u)
      (outScheduled s n = true →
        Completes (exec (.compareFire n) s) fun t =>
          TimeFrame [.cal] [.dll, .time, .outw] s t ∧ s.now ≤ t.now ∧ (∀ m, m ≠ n → outS t m = outS s m) ∧
          (d < 0 → t.now = s.now + 1) ∧
          (d < 0 → outRunning u n = true → getB t (Reg.OUT_OUT_CTRL_LATE n) = true ∧ getB t Reg.TIME_EVENTS_TO_LATE = true) ∧
          (outRunning u n = true → getB u (Reg.DLL_STAT_GATED n) = false → getB u (Reg.DLL_STAT_BYPASS n) = false →
            ∃ tk sub tap w, .edge n tk sub tap w ∈ t.out ∧ t.now ≤ tk ∧ getF t (Reg.DLL_STAT_SUBTICK n) = sub ∧ getF t (Reg.DLL_STAT_TAP n) = tap) ∧
          ((n < 6 ∨ (outS u n).periodic = true) → (outS u n).slew = 0 → (outS t n).next = wrapNext ((outS u n).next + outPeriod u n)) ∧
          (6 ≤ n → (outS u n).periodic = false → (outS t n).armed = false ∧ (getB u (Reg.OUT_OUT_CTRL_EN n) = false → getB t (Reg.OUT_OUT_CTRL_MISSED n) = true))) ∧
      (outScheduled s n = false → Completes (exec (.compareFire n) s) fun t => t = s)) ∧
  (∀ s : State, s.clk.started = true →
      (s.tim.weirRem ≠ 0 → 0 < getF s Reg.TIME_WEIR_RATE → s.tim.weirRem.natAbs ≤ weirAmt s.tim.weirAcc (weirStep s) (2 ^ 64) →
        Completes (exec .weirSlewEnd s) fun t =>
          TimeFrame [] [] s t ∧ t.tim.weirRem = 0 ∧ t.tim.outs = s.tim.outs ∧
          (t.tim.tod : Int) = (s.tim.tod + incSum s (t.now - s.now) + s.tim.weirRem) % (todWrap : Int)) ∧
      (cwFollows s = true → s.clk.cwPos ≠ cwTarget s * cwUnit →
        Completes (exec .rampEnd s) fun t =>
          TimeFrame [] [] s t ∧ cwNow t = cwTarget s ∧ t.clk.cwReq = s.clk.cwReq ∧ s.now < t.now)) ∧
  (∀ s : State, s.clk.started = true →
      let plain := s.tim.numeric = false ∧ getB s Reg.TIME_TOD_CTRL_INC_EXACT = true ∧ s.tim.weirRem = 0 ∧ s.tim.phase = 0
      (Completes (exec .todSecondBoundary s) fun t =>
        TimeFrame [.mode, .ports, .gauges, .engs, .cal, .freeCtr] [.clk, .dll, .time, .ref, .slot, .port, .eng, .ue, .cal] s t ∧ s.now < t.now ∧ (∀ e, e < s.engs.eng.length → (engS t e).ev &&& 1 = 1) ∧
        (plain → s.tim.tod % (10 ^ 9 * 2 ^ 56) = 0 → t.now = s.now + 625000000 ∧ t.tim.tod = (s.tim.tod + 10 ^ 9 * 2 ^ 56) % todWrap)) ∧
      (Completes (exec .todMillisecondBoundary s) fun t =>
        TimeFrame [.pair, .engs] [.pair] s t ∧ s.now < t.now ∧ (∀ e, e < s.engs.eng.length → (engS t e).ev &&& 2 = 2) ∧ t.pair.mirrorMs = s.pair.mirrorMs + 1 ∧
        (plain → s.tim.tod % (10 ^ 6 * 2 ^ 56) = 0 → t.now = s.now + 625000 ∧ t.tim.tod = (s.tim.tod + 10 ^ 6 * 2 ^ 56) % todWrap)))

/-- SLOT_QUALIFIED, WTR_EXPIRY (R115, R117, R118, R120, R121, R128): an enabled slot whose source shows no loss condition qualifies, after a counted loss with
wait-to-restore; the only slot ready in ACQUIRE with nothing selected is selected; the wait's end leaves it qualified. SLOT_QUAL_LOST,
GNSS_INCONS (R115, R116, R117): a slot that meets a loss condition is qualified no more, its loss counted for its next wait-to-restore; so
is a GNSS slot inconsistent with the selected reference for ten seconds, with its event. -/
def Obligations.SlotsQualify : Prop :=
  (∀ (n : Nat) (s : State), n < 8 →
      let wtr := (slotS s n).lostOnce = true ∧ getF s Reg.REF_SEL_TIMERS_WTR_S ≠ 0
      (∀ m, srcClear s n = true → slotQual s n = false → m.freq.natAbs * 10 ^ 6 ≤ 19 * 2 ^ 60 →
        Completes (exec (.slotQualified n m) s) fun t =>
          SelFrame s t ∧ slotQual t n = true ∧ getB t (Reg.SLOT_SLOT_STATUS_SRC_VALID n) = true ∧ (slotS t n).meas = some (heldMeas s n m) ∧
          (wtr → getB t (Reg.SLOT_SLOT_STATUS_WTR_RUN n) = true ∧ getF t (Reg.SLOT_SLOT_STATUS_TIMER_S n) = getF s Reg.REF_SEL_TIMERS_WTR_S) ∧
          (¬ wtr → s.mode = .acquire → selected s = none → s.sel.sw = none → getB s (Reg.SLOT_SLOT_STATUS_WTR_RUN n) = false →
            getB s (Reg.SLOT_SLOT_CFG_LOCKOUT n) = false → (∀ k, k < 8 → k ≠ n → slotReady s k = false) → selected t = some n)) ∧
      (∀ m, srcClear s n = false ∨ slotQual s n = true ∨ 19 * 2 ^ 60 < m.freq.natAbs * 10 ^ 6 → Completes (exec (.slotQualified n m) s) fun t => t = s) ∧
      (getB s (Reg.SLOT_SLOT_STATUS_WTR_RUN n) = true →
        Completes (exec (.wtrExpiry n) s) fun t =>
          SelFrame s t ∧ getB t (Reg.SLOT_SLOT_STATUS_WTR_RUN n) = false ∧ getF t (Reg.SLOT_SLOT_STATUS_TIMER_S n) = 0 ∧ slotQual t n = slotQual s n)) ∧
  (∀ (n : Nat) (s : State), n < 8 →
      (∀ c, slotQual s n = true →
        Completes (exec (.slotQualLost n c) s) fun t =>
          SelFrame s t ∧ slotQual t n = false ∧ getB t (Reg.SLOT_SLOT_STATUS_WTR_RUN n) = false ∧ slotSuspect t n = false ∧ (slotS t n).lostOnce = true ∧
          getB t Reg.REF_SEL_EVENTS_QUAL_LOST = true ∧ (c ≠ .frequency → getB t (Reg.SLOT_SLOT_STATUS_SRC_VALID n) = false) ∧
          ∀ m, m < 8 → m ≠ n → slotQual t m = slotQual s m) ∧
      (∀ c, slotQual s n = false → Completes (exec (.slotQualLost n c) s) fun t => Frame [.regs] [.slot] s t ∧ slotQual t n = false) ∧
      (slotType s n = 2 → slotQual s n = true → 10 ≤ (slotS s n).incons →
        Completes (exec (.gnssIncons n) s) fun t =>
          SelFrame s t ∧ slotQual t n = false ∧ getB t Reg.REF_SEL_EVENTS_GNSS_INCONS = true ∧ getB t Reg.REF_SEL_EVENTS_QUAL_LOST = true) ∧
      (slotType s n ≠ 2 ∨ slotQual s n = false ∨ (slotS s n).incons < 10 → Completes (exec (.gnssIncons n) s) fun t => t = s))

/-- SELECTOR_EVALUATION, HISTORY_RECORD, HOLD_SPEC_EXPIRY (R94, R121, R122, R130): an evaluation takes the measurements given, raises event bit
3 of every engine and requests the frequency of the slot that stays or comes to be selected; a record joins the history. SWITCH_COMMIT,
SWITCH_WINDOW_END, HOLD_OFF_END, RECOVERY_WINDOW_CLOSE (R28, R121, R122, R123): a switch commits to its target, at the end of its window the
target is selected and the hold-off starts; the hold-off and the recovery window end. -/
def Obligations.SelectorActs : Prop :=
  (∀ s : State,
      (∀ ms, powered s .eng = true → selecting s.mode = true →
        Completes (exec (.selectorEvaluation ms) s) fun t =>
          Frame [.regs, .mode, .clk, .tim, .sel, .ports, .gauges, .engs, .cal, .out, .freeCtr] [.clk, .dll, .time, .ref, .slot, .port, .eng, .perf, .cal] s t ∧
          t.tim.tod = s.tim.tod ∧ (∀ e ∈ t.engs.eng, e.ev &&& 8 = 8) ∧ (∀ n v, n < 8 → ms.getD n none = some v → (slotS t n).meas = some (heldMeas s n v)) ∧
          (∀ n, selected t = some n → t.sel.sw = none → t.sel.ownCw = slotY t n)) ∧
      (∀ ms, powered s .eng = false → Completes (exec (.selectorEvaluation ms) s) fun t => t = s) ∧
      (∀ w, powered s .eng = true → selecting s.mode = true ∨ s.mode = .standby ∨ s.mode = .config →
        Completes (exec (.historyRecord w) s) fun t =>
          Frame [.regs, .sel] [.ref] s t ∧ (∃ v, t.sel.hist = (⟨todSec s, cwNow s, v⟩ :: s.sel.hist).take 7200 ∧ (v = true → w = true ∧ s.tim.pend = none ∧ s.mode ∈ [.acquire, .locked, .calibrate])) ∧
          (s.mode = .holdover → t.regs = s.regs)) ∧
      (s.mode = .holdover → Completes (exec .holdSpecExpiry s) fun t => Frame [.sel] [] s t ∧ t.sel = { s.sel with specOver := true })) ∧
  (∀ s : State,
      (∀ w, s.sel.sw = some w → w.committed = false → slotEligible s w.b = true →
        Completes (exec .switchCommit s) fun t =>
          Frame [.regs, .sel] [.ref] s t ∧ (∃ w', t.sel.sw = some w' ∧ w'.b = w.b ∧ w'.committed = true ∧ w'.start = w.start) ∧
          getB t Reg.REF_SEL_STATUS_COMMITTED = true ∧ selected t = selected s) ∧
      (∀ w m, s.sel.sw = some w → w.committed = true → w.b < 8 →
        Completes (exec (.switchWindowEnd m) s) fun t =>
          Frame [.regs, .clk, .tim, .sel, .gauges, .out, .freeCtr] [.clk, .dll, .time, .ref, .slot] s t ∧ selected t = some w.b ∧ t.sel.sw = none ∧ t.sel.holdOff = true ∧
          getB t Reg.REF_SEL_STATUS_SWITCHING = false ∧ getB t Reg.REF_SEL_EVENTS_SWITCHED = true) ∧
      (s.sel.sw = none → Completes (exec .switchCommit s) fun t => t = s) ∧
      (s.sel.holdOff = true →
        Completes (exec .holdOffEnd s) fun t =>
          SelFrame s t ∧ t.sel.holdOff = false) ∧
      (Completes (exec .recoveryWindowClose s) fun t => Frame [.regs] [.ref] s t ∧ getB t Reg.REF_LOSS_CTRL_WINDOW_OPEN = false))

/-- PHASE_WORD, PORT_SIGNAL_LOSS (R83 to R86): sixteen beats give the phase word and SEQ counts; a port in a Berm window keeps its last phase as
STALE; a word without lock, or with beats from before it, leaves the phase alone; loss of signal clears VALID, but for what a Berm window itself brings. LINK_DELAY_UPDATE, SYNC_INTERVAL_BOUNDARY (R90, R91, R102,
R115, R286): an exchange's values wait, on a master port without an offset; at the boundary, to which
time runs, they are published, accepted Berm changes applied and the port's PTP settings taken; the end of the fourth whole
interval without an exchange disqualifies the port's slots. -/
def Obligations.PhaseAndDelay : Prop :=
  (∀ (p : Nat) (s : State), p < 36 → powered s (portDomain p) = true →
      let held := portStale s p
      let good := getB s (Reg.PORT_TT_STATUS_CDR_LOCK p) && getB s Reg.CLK_ROOT_STATUS_HELPER_LOCK && wordWhole s p
      (∀ beats, powered s .gauge = true → getB s (Reg.PORT_TT_CTRL_DDMTD_EN p) = true →
        Completes (exec (.phaseWord p beats) s) fun t =>
          Frame [.regs, .ports, .out] [.port, .perf] s t ∧ getF t (Reg.PORT_PHASE_SEQ p) = (getF s (Reg.PORT_PHASE_SEQ p) + 1) % 16 ∧
          (∀ w, phaseWordOf (getF s (Reg.PORT_TT_CTRL_DGW p)) beats = some w → good = true → held = false →
            getF t (Reg.PORT_PHASE_PHASE p) = w % 2 ^ 18 ∧ getB t (Reg.PORT_PHASE_VALID p) = true ∧ getB t (Reg.PORT_PHASE_STALE p) = false) ∧
          (held = true ∨ good = false →
            getF t (Reg.PORT_PHASE_PHASE p) = getF s (Reg.PORT_PHASE_PHASE p) ∧ getB t (Reg.PORT_PHASE_VALID p) = getB s (Reg.PORT_PHASE_VALID p)) ∧
          (∀ w, phaseWordOf (getF s (Reg.PORT_TT_CTRL_DGW p)) beats = some w → good = true → held = true →
            getB t (Reg.PORT_PHASE_STALE p) = true)) ∧
      (∀ beats, getB s (Reg.PORT_TT_CTRL_DDMTD_EN p) = false → Completes (exec (.phaseWord p beats) s) fun t => t = s) ∧
      ((inWindow s p = true ∨ (portS s p).after = true) → Completes (exec (.portSignalLoss p) s) fun t => t = s) ∧
      (inWindow s p = false → (portS s p).after = false → Completes (exec (.portSignalLoss p) s) fun t =>
        SelFrame s t ∧
        getB t (Reg.PORT_TT_STATUS_CDR_LOCK p) = false ∧ getB t (Reg.PORT_PHASE_VALID p) = false ∧
        (getB s (Reg.PORT_PHASE_VALID p) = true → getB t (Reg.PORT_TT_EVENTS_PHASE_LOST p) = true))) ∧
  (∀ (p : Nat) (s : State), p < 36 → powered s (portDomain p) = true →
      let frame := TimeFrame [.mode, .ports, .fab, .gauges, .cal, .freeCtr] [.clk, .dll, .time, .ref, .slot, .port, .fab, .fport, .queue, .eng, .cal, .sec]
      (∀ t1 t2 t3 t4 : Int,
        let alpha := getS s (Reg.PORT_ALPHA p)
        let rt := (t2 - t1) + (t4 - t3)
        let din := roundDiv (rt * (2 ^ 40 + alpha)) (2 ^ 41 + alpha).toNat
        let set := fun (t : State) (ofs : Option Int) =>
          Frame [.ports] [] s t ∧ (portS t p).pendLink = some (rt, din, ofs) ∧ ∀ k, k ≠ p → portS t k = portS s k
        (delayMech s p ≠ 2 → portState s p ≠ .master → (portS s p).syncIn = some t2 → (portS s p).reqOut = some t3 →
          Completes (exec (.linkDelayUpdate p t1 t2 t3 t4) s) fun t => set t (some (t2 - t1 - din)) ∧ (portS t p).quiet = 0) ∧
        (delayMech s p ≠ 2 → portState s p = .master → (portS s p).reqIn = some t2 → (portS s p).syncOut = some t3 →
          Completes (exec (.linkDelayUpdate p t1 t2 t3 t4) s) fun t => set t none ∧ (portS t p).quiet = (portS s p).quiet) ∧
        (delayMech s p ≠ 2 → portState s p ≠ .master → (portS s p).syncIn ≠ some t2 ∨ (portS s p).reqOut ≠ some t3 →
          Completes (exec (.linkDelayUpdate p t1 t2 t3 t4) s) fun t => t = s) ∧
        (delayMech s p = 2 → Completes (exec (.linkDelayUpdate p t1 t2 t3 t4) s) fun t => t = s)) ∧
      (Completes (exec (.syncIntervalBoundary p) s) fun t =>
        frame s t ∧ s.now ≤ t.now ∧ (portS t p).pendLink = none ∧ (portS t p).bermPend = none ∧ (portS t p).domain = domainCfg s ∧
        (portS t p).hostHandled = getB s Reg.PTPG_PTP_MODE_HOST_HANDLED ∧ (portS t p).logSync = getS s (Reg.PORT_PTP_CFG_LOG_SYNC p)) ∧
      (∀ rt din ofs, (portS s p).pendLink = some (rt, din, ofs) →
        Completes (exec (.syncIntervalBoundary p) s) fun t =>
          (getHL t (Reg.PORT_LINK_DLY_HI p) (Reg.PORT_LINK_DLY_LO p) : Int) = din % 2 ^ 48 ∧
          ∀ x, ofs = some x → corrPending s p = false → (getHL t (Reg.PORT_OFFSET_HI p) (Reg.PORT_OFFSET_LO p) : Int) = x % 2 ^ 48) ∧
      (∀ tx rx temp, (portS s p).bermPend = some (tx, rx, temp) →
        Completes (exec (.syncIntervalBoundary p) s) fun t =>
          (getF t (Reg.PORT_BERM_TX p) : Int) = tx % 2 ^ 32 ∧ (getF t (Reg.PORT_BERM_RX p) : Int) = rx % 2 ^ 32 ∧
          getF t (Reg.PORT_BERM_AGE p) = 0 ∧ (portS t p).refTemp = some temp) ∧
      ((portS s p).quiet = 4 →
        Completes (exec (.syncIntervalBoundary p) s) fun t =>
          ∀ n, n < 8 → slotEn s n = true → slotType s n = 0 → slotIndex s n = p →
            getB t (Reg.SLOT_SLOT_STATUS_SRC_VALID n) = false ∧ slotQual t n = false))

/-- PTP_EVENT_RX (R88, R89, R96, R97, R104, R316, R340): the frame goes into the fabric with its timestamp; with HOST_HANDLED a message of the domain
for the device waits in the FIFO of 64, stamped at the reference plane, and a full FIFO counts it as dropped; one that fails its
authentication is discarded; a gap asked for is confirmed. BERM_REQUEST, BERM_GAP_REQUEST, BERM_WINDOW_START, BERM_WINDOW_END (R102 to R104,
R288): an enabled trigger that is due queues one request; the gap is asked for at least 10 ms ahead; the window of the request whose turn it is
opens, at a confirmed gap's start; repeats that agree within 2 ps are accepted, others are measured again, three attempts in all. -/
def Obligations.PtpAndBerm : Prop :=
  (∀ (p : Nat) (m : PtpRx) (s : State), p < 36 → powered s (portDomain p) = true →
      let fr : FrameIn := { m.fr with ingTs := if m.resolved then (ingressStamp s p m / 5).toNat else 0, resolved := m.resolved }
      let here := ptpHere p fr (arriveAt s p)
      let auth := getB s (Reg.PORT_PTP_XPORT_AUTH_EN p)
      let frame := Frame [.regs, .ports, .fab, .out] [.port, .fport, .perf, .sec, .cmd] s
      let host := m.gap = none ∧ m.fr.toDevice = true ∧ hostAt s p = true
      (here = none ∨ (m.resolved = true ∧ m.gap = none) →
        exec (.ptpEventRx p m) s = if powered s .fab && fabUp s p then exec (.frameRx p fr) s else .next s) ∧
      (∀ v, Admits p s → GoodFrame p fr v s → here.isSome = true → auth = false → host → s.ports.ptpRx.length < 64 →
        Completes (exec (.ptpEventRx p m) s) fun t =>
          frame t ∧
          t.ports = { s.ports with ptpRx := s.ports.ptpRx ++
            [⟨p, fr.body.length, if m.resolved then ((fr.ingTs : Int) - planeDelay s p 1).toNat else 0, packBytes fr.body⟩] } ∧
          (m.resolved = false → getB t (Reg.PORT_TT_EVENTS_TS_UNRESOLVED p) = true)) ∧
      (∀ v, Admits p s → GoodFrame p fr v s → here.isSome = true → auth = false → host → 64 ≤ s.ports.ptpRx.length →
        Completes (exec (.ptpEventRx p m) s) fun t =>
          frame t ∧ t.ports = s.ports ∧ getF t Reg.CMD_PTP_RX_DROP = (getF s Reg.CMD_PTP_RX_DROP + 1) % 2 ^ 32) ∧
      (∀ v, Admits p s → GoodFrame p fr v s → here.isSome = true → auth = true → m.gap = none →
        (keyUsable s (getF s (Reg.PORT_PTP_XPORT_KEY_ID p)) = false →
          Completes (exec (.ptpEventRx p m) s) fun t =>
            frame t ∧ t.ports = s.ports ∧ getB t Reg.SEC_EVENTS_AUTH_KEY_MISSING = true ∧ getB t (Reg.PORT_TT_EVENTS_AUTH_FAIL p) = true ∧
            Counted (Reg.FP_RX_DISCARD_HI p) (Reg.FP_RX_DISCARD_LO p) 1 s t) ∧
        (keyUsable s (getF s (Reg.PORT_PTP_XPORT_KEY_ID p)) = true → tlvVerifies s p fr = false →
          Completes (exec (.ptpEventRx p m) s) fun t =>
            frame t ∧ t.ports = s.ports ∧ getB t (Reg.PORT_TT_EVENTS_AUTH_FAIL p) = true ∧ Counted (Reg.FP_RX_DISCARD_HI p) (Reg.FP_RX_DISCARD_LO p) 1 s t)) ∧
      (∀ w h v, m.gap = some w → here = some h → (h.kind = .delayReq ∨ h.kind = .pdelayReq) → auth = false → ptpOn s p = true → m.fr.toDevice = true →
        todVis s + 10 ^ 7 * 65536 ≤ w → Admits p s → GoodFrame p fr v s →
        Completes (exec (.ptpEventRx p m) s) fun t => (portS t p).gapW = some w ∧ .gapConfirm p ∈ t.out)) ∧
  (∀ (p : Nat) (s : State), p < 36 →
      let asked := s.ports.bermQ.any (fun r => r.port = p)
      (powered s (portDomain p) = true → getB s (Reg.PORT_TT_CTRL_BERM_EN p) = true → asked = false → s.ports.bermWin = none →
        ∀ g, bermDue s p g = true →
        Completes (exec (.bermRequest p g) s) fun t =>
          Frame [.regs, .ports] [.port] s t ∧ t.ports.bermQ = s.ports.bermQ ++ [{ port := p }] ∧ getB t (Reg.PORT_TT_STATUS_BERM_WAIT p) = true) ∧
      (∀ g, getB s (Reg.PORT_TT_CTRL_BERM_EN p) = false ∨ bermDue s p g = false → Completes (exec (.bermRequest p g) s) fun t => t = s) ∧
      (asked = true → txOn s = true → getB s (Reg.PORT_PHY_STATUS_LINK_UP p) = true → ∀ w b,
        let start := max w (todVis s + 10 ^ 7 * 65536)
        Completes (exec (.bermGapRequest p ⟨w, b⟩) s) fun t =>
          Frame [.regs, .ports, .out] [.port] s t ∧ t.out = s.out ++ [.gapAsk p start] ∧ (portS t p).gapOk = (if b then some start else none) ∧
          getB t (Reg.PORT_TT_STATUS_PARTNER_TMR p) = b) ∧
      (asked = false → ∀ a, Completes (exec (.bermGapRequest p a) s) fun t => t = s) ∧
      (∀ r, bermNext s = some r → r.port = p → s.ports.bermWin = none →
        Completes (exec (.bermWindowStart p) s) fun t =>
          TimeFrame [.ports] [.port] s t ∧ t.ports.bermWin = some r ∧ t.ports.bermQ = s.ports.bermQ.erase r ∧ (gapAhead s p = none → t.now = s.now) ∧
          getB t (Reg.PORT_TT_STATUS_BERM_BUSY p) = true ∧ getB t (Reg.PORT_TT_STATUS_BERM_WAIT p) = false ∧ getB t (Reg.PORT_PHASE_STALE p) = true) ∧
      (bermNext s = none ∨ s.ports.bermWin.isSome = true → Completes (exec (.bermWindowStart p) s) fun t => t = s) ∧
      (∀ r txA loopA txB loopB temp, s.ports.bermWin = some r → r.port = p → r.cal = false →
        Completes (exec (.bermWindowEnd txA loopA txB loopB temp) s) fun t =>
          Frame [.regs, .ports, .out] [.port, .cal] s t ∧ t.ports.bermWin = none ∧ getB t (Reg.PORT_TT_STATUS_BERM_BUSY p) = false ∧
          (getF t Reg.CAL_DIE_TEMP : Int) = temp % 2 ^ 16 ∧ (portS t p).after = true ∧
          (phaseAgree txA txB = true → phaseAgree loopA loopB = true →
            getB t (Reg.PORT_TT_EVENTS_BERM_DONE p) = true ∧ (portS t p).tries = 0 ∧
            ∃ c : Int × Int, c = bermChange s p txA loopA txB loopB ∧ (portS t p).bermPend = some (c.1, c.2, temp)) ∧
          ((phaseAgree txA txB && phaseAgree loopA loopB) = false →
            getB t (Reg.PORT_TT_EVENTS_BERM_DISAGREE p) = true ∧ (portS t p).bermPend = (portS s p).bermPend ∧
            ((portS s p).tries < 2 → (portS t p).tries = (portS s p).tries + 1 ∧ t.ports.bermQ.any (fun q => q.port = p) = true) ∧
            (2 ≤ (portS s p).tries → (portS t p).tries = 0 ∧ t.ports.bermQ = s.ports.bermQ))))

/-- FRAME_RX (R104, R177, R179 to R181, R183, R184, R190, R191, R193): a frame in a Berm window is lost, a runt and a frame outside its VLAN are counted
and dropped; while the fabric is throttled a frame waits, and is dropped where its ingress FIFO has no room; a good frame is counted, its
source learned; stored and forwarded, it waits in the queue of its class at the one egress of its destination. -/
def Obligations.FramesReceived : Prop :=
  (∀ (f : Nat) (fr : FrameIn) (s : State), f < 42 → powered s .fab = true → fabUp s f = true → s.fab.ingress = [] →
    (inWindow s f = true →
      Completes (exec (.frameRx f fr) s) fun t =>
        Frame [.regs, .out] [.fport, .perf] s t ∧ Counted (Reg.FP_RX_DISCARD_HI f) (Reg.FP_RX_DISCARD_LO f) 1 s t) ∧
    (inWindow s f = false → throttled s = true → s.now < s.fab.admitAt →
      (fr.len ≤ fifoBytes f →
        Completes (exec (.frameRx f fr) s) fun t => Frame [.fab] [] s t ∧ t.fab = { s.fab with ingress := [⟨f, fr, arriveAt s f, 0⟩] }) ∧
      (fifoBytes f < fr.len →
        Completes (exec (.frameRx f fr) s) fun t =>
          Frame [.regs, .out] [.fport, .perf] s t ∧ Counted (Reg.FP_DROP_ADMIT_HI f) (Reg.FP_DROP_ADMIT_LO f) 1 s t))) ∧
  (∀ (f : Nat) (fr : FrameIn) (s : State), f < 42 → Admits f s →
    let vid := ingressVid s f fr
    let drop := Frame [.regs, .jieth, .fab, .out] [.fport, .perf] s
    let counted := fun (t : State) =>
      Counted (Reg.FP_RX_FRAMES_HI f) (Reg.FP_RX_FRAMES_LO f) 1 s t ∧ Counted (Reg.FP_RX_BYTES_HI f) (Reg.FP_RX_BYTES_LO f) fr.len s t
    (fr.len < 64 →
      Completes (exec (.frameRx f fr) s) fun t =>
        drop t ∧ t.fab.frames = s.fab.frames ∧ t.fab.macs = s.fab.macs ∧ Counted (Reg.FP_RX_RUNT_HI f) (Reg.FP_RX_RUNT_LO f) 1 s t) ∧
    (fr.fcsOk = true → 64 ≤ fr.len → fr.len ≤ 9216 → (vid = 4095 ∨ vlanOf s vid = none ∨ ∃ v, vlanOf s vid = some v ∧ bits v.member f 1 = 0) →
      Completes (exec (.frameRx f fr) s) fun t =>
        drop t ∧ t.fab.frames = s.fab.frames ∧ t.fab.macs = s.fab.macs ∧ counted t ∧ Counted (Reg.FP_RX_DISCARD_HI f) (Reg.FP_RX_DISCARD_LO f) 1 s t) ∧
    (∀ v g, GoodFrame f fr v s → fr.toDevice = false → reservedDst fr.dst = false → forwards s = true → fr.ptp = none →
      egressPorts s f vid fr.dst v = [g] →
      let tc := trafficClass s f fr
      let q := 8 * g + tc
      let n := cellsOf (egressLen fr v g)
      cutThrough s f g tc (egressLen fr v g) = false → fabUp s g = true → getB s (Reg.FP_SW_STATUS_FLUSHING g) = false → egressLen fr v g ≤ 9216 →
      getB s (Reg.Q_Q_CFG_SPILLING q) = false →
      queueOcc s q + n ≤ getF s (Reg.Q_Q_FB_HI q) + 1 → getF s Reg.FAB_POLDER_RSV + n ≤ polderFree s →
      Completes (exec (.frameRx f fr) s) fun t =>
        Frame [.regs, .jieth, .fab, .out] [.fab, .fport, .queue, .perf] s t ∧ counted t ∧
        t.fab.frames = s.fab.frames ++
          [{ q := q, len := egressLen fr v g, src := f, ingTs := fr.ingTs, resolved := fr.resolved, body := packBytes fr.body, pol := n }] ∧
        (getB s Reg.FAB_CFG_LEARN_EN = true → macFind s vid fr.src = none → bucketFree s vid fr.src = true →
          macFind t vid fr.src = some ⟨vid, fr.src, 2 ^ f, false, s.now⟩) ∧
        (getB s Reg.FAB_CFG_LEARN_EN = false → t.fab.macs = s.fab.macs)))

/-- FRAME_TX (R184, R188, R189): time runs until the egress is free; then the highest strict class that can be served sends its head, or the
round robin its choice. A frame sent whole leaves its queue, is counted and takes the egress for its time; one whose first fragment alone
fits leaves that fragment, and its remainder is held; a held remainder goes on when nothing else can be served; with none, nothing leaves. -/
def Obligations.FramesSent : Prop :=
  ∀ (f : Nat) (c : EgressCap) (s : State), f < 42 → powered s .fab = true → forwards s = true → fabUp s f = true →
    getB s (Reg.FP_SW_STATUS_FLUSHING f) = false →
    (Completes (exec (.frameTx ⟨f, c⟩) s) fun t =>
      TimeFrame [.ports, .jieth, .fab, .cmd, .aud] [.port, .fab, .fport, .queue, .sec, .aud, .cmd] s t ∧ (egS s f).freeAt ≤ nowPs t) ∧
    ((egS s f).freeAt ≤ nowPs s → s.fab.ingress = [] → inGap s f = false →
      let frame := Frame [.regs, .ports, .jieth, .fab, .cmd, .aud, .out] [.port, .fport, .queue, .perf, .aud, .cmd] s
      let counted := fun (len : Nat) (t : State) =>
        Counted (Reg.FP_TX_FRAMES_HI f) (Reg.FP_TX_FRAMES_LO f) 1 s t ∧ Counted (Reg.FP_TX_BYTES_HI f) (Reg.FP_TX_BYTES_LO f) len s t
      let left := fun (tc : Nat) (h : QFrame) (t : State) =>
        frame t ∧ t.fab.frames = dropHead (8 * f + tc) s.fab.frames ∧ t.fab.sluice = s.fab.sluice ∧ t.fab.macs = s.fab.macs ∧
        (mayStart s (8 * f + tc) h.len 0 = some (h.len, true) →
          counted h.len t ∧ (egS t f).freeAt = nowPs s + txPs s f h.len true ∧ (egS t f).rest = (egS s f).rest ∧
          (h.ptp = none → .frame f h.src h.len true ∈ t.out)) ∧
        (∀ upto, mayStart s (8 * f + tc) h.len 0 = some (upto, false) → (egS s f).rest = none →
          .fragment f h.src upto false ∈ t.out ∧ (egS t f).rest = some ⟨h, upto, upto⟩ ∧ (egS t f).freeAt = nowPs s + txPs s f upto false)
      (∀ tc h, tc < 8 → getB s (Reg.Q_Q_CFG_STRICT (8 * f + tc)) = true → servable s f tc = true → headOf s (8 * f + tc) = some h →
        (∀ k < 8, tc < k → getB s (Reg.Q_Q_CFG_STRICT (8 * f + k)) = false ∨ servable s f k = false) →
        Completes (exec (.frameTx ⟨f, c⟩) s) (left tc h)) ∧
      (∀ tc d cur h, pickClass s f = some (tc, d, cur) → headOf s (8 * f + tc) = some h →
        Completes (exec (.frameTx ⟨f, c⟩) s) fun t => left tc h t ∧ t.fab.deficit = d ∧ t.fab.drr = s.fab.drr.set f cur) ∧
      (∀ r, pickClass s f = none → (egS s f).rest = some r → gateOpen s f (r.fr.q % 8) = true →
        mayStart s r.fr.q r.fr.len r.sent = some (r.fr.len, true) → r.sent ≠ 0 →
        Completes (exec (.frameTx ⟨f, c⟩) s) fun t =>
          frame t ∧ t.fab.frames = s.fab.frames ∧ counted r.fr.len t ∧ .fragment f r.fr.src (r.fr.len - r.sent) true ∈ t.out ∧ (egS t f).rest = none) ∧
      (pickClass s f = none → (egS s f).rest = none → Completes (exec (.frameTx ⟨f, c⟩) s) fun t => t = s))

/-- SPILL_STAGED_WRITE, SPILL_READBACK, MAC_AGE_OUT (R182, R190 to R193): the staged cells of a queue go to the Spillway; its spilled cells come back
into its 64 prefetch cells, as far as the reserve has room, and stay counted in its occupancy; a paused Spillway moves nothing; a dynamic
entry not seen for AGE_S ages out. -/
def Obligations.SpillwayAndAging : Prop :=
  ∀ s : State,
    (∀ q, q < 336 → powered s .hbm = true → spillPaused s = false →
      let staged := sumNat ((queueOf s q).map (·.stg))
      let moved := min (queueSpill s q) (prefetchRoom s q)
      (spillUsed s + staged ≤ spillCells →
        Completes (exec (.spillStagedWrite q) s) fun t =>
          Frame [.regs, .jieth, .fab, .cmd, .aud, .out] [.fab, .fport, .perf, .aud] s t ∧ queueSpill t q = queueSpill s q + staged ∧
          (∀ x, x ∈ t.fab.frames → x.q = q → x.stg = 0) ∧ t.fab.frames.length = s.fab.frames.length ∧
          ∀ k, k ≠ q → queueOf t k = queueOf s k) ∧
      Completes (exec (.spillReadback q) s) fun t =>
        Frame [.regs, .fab, .out] [.fab, .queue, .perf] s t ∧ queueSpill t q + moved = queueSpill s q ∧ queueOcc t q = queueOcc s q + moved ∧
        ∀ k, k ≠ q → queueOf t k = queueOf s k) ∧
    (∀ q, q < 336 → spillPaused s = true →
      Completes (exec (.spillStagedWrite q) s) (fun t => t = s) ∧ Completes (exec (.spillReadback q) s) (fun t => t = s)) ∧
    (∀ vid mac, Completes (exec (.macAgeOut vid mac) s) fun t =>
      Frame [.fab] [] s t ∧
      (∀ e, e ∈ t.fab.macs ↔ e ∈ s.fab.macs ∧
        (e.isStatic = true ∨ e.vid ≠ vid ∨ e.mac ≠ mac ∨ s.now - e.seen < getF s Reg.FAB_CFG_AGE_S * 625000000)) ∧ t.fab.frames = s.fab.frames)

/-- GATE_CHANGE, GATE_LIST_TAKE_EFFECT (R185, R186): time runs to the boundary or to the pending list's start; from its start on the pending
list is in force; no other port's gates change. SLUICE_RELEASE (R24, R98, R104, R195, R197, R340): time runs to the earliest release and its
frame leaves the buffer; where the egress is clear it leaves the port then, with its residence in correctionField or, on a two-step egress
that a follow-up is to follow, kept for that; a partner's gap and a missing key let nothing out; a forwarded frame stays in a mode that does
not forward. -/
def Obligations.GatesAndSluice : Prop :=
  (∀ (f : Nat) (s : State), f < 36 → powered s .fab = true →
      let others := fun (t : State) => TimeFrame [.fab] [] s t ∧ s.now ≤ t.now ∧ (∀ g, g ≠ f → gateS t g = gateS s g) ∧ t.fab.frames = s.fab.frames
      (∀ a, (gateS s f).admin = some a →
        Completes (exec (.gateListTakeEffect f) s) fun t => others t ∧ (gateS t f).run = some a ∧ (gateS t f).admin = none) ∧
      ((gateS s f).admin = none → Completes (exec (.gateListTakeEffect f) s) fun t => t = s) ∧
      (Completes (exec (.gateChange f) s) fun t =>
        others t ∧ (gateS t f = gateS s f ∨ (∃ a, (gateS s f).admin = some a ∧ (gateS t f).run = some a ∧ (gateS t f).admin = none))) ∧
      ((∀ b ∈ gateBounds s f, aheadNs b (todWholeNs s) ≤ 0) → Completes (exec (.gateChange f) s) fun t => t = s)) ∧
  (∀ (f : Nat) (c : EgressCap) (s : State), f < 42 → powered s .fab = true → txOn s = true →
    (sluiceFirst s f = none → Completes (exec (.sluiceRelease f c) s) fun t => t = s) ∧
    (∀ x, sluiceFirst s f = some x →
      let taken := fun (t : State) =>
        TimeFrame [.ports, .jieth, .fab, .cmd, .aud] [.port, .fab, .fport, .sec, .aud, .cmd] s t ∧ t.fab.sluice = s.fab.sluice.erase x ∧ t.fab.frames = s.fab.frames
      let s1 := runTo s (x.release * 2 ^ 40)
      let ts := txStamp s1 f c
      let total := x.add + residence x ts (c.resolved || decide (36 ≤ f)) - egressAsym s f x
      (x.own = false → forwards s = false → Completes (exec (.sluiceRelease f c) s) fun t => t = s) ∧
      (x.own = true ∨ forwards s = true → inGap s1 f = true →
        Completes (exec (.sluiceRelease f c) s) fun t => taken t ∧ Counted (Reg.FP_SLUICE_DROP_HI f) (Reg.FP_SLUICE_DROP_LO f) 1 s t) ∧
      (x.own = true ∨ forwards s = true → inGap s1 f = false → authMissing s f = true →
        Completes (exec (.sluiceRelease f c) s) fun t =>
          taken t ∧ getB t Reg.SEC_EVENTS_AUTH_KEY_MISSING = true ∧
          ∀ p src len ts corr st icv, .sluice p src len ts corr st icv ∈ t.out → .sluice p src len ts corr st icv ∈ s.out) ∧
      (x.own = true ∨ forwards s = true → inGap s1 f = false → authMissing s f = false →
        Completes (exec (.sluiceRelease f c) s) fun t =>
          taken t ∧ Counted (Reg.FP_SLUICE_TX_HI f) (Reg.FP_SLUICE_TX_LO f) 1 s t ∧
          (x.own = false → x.release + 104858 ≤ todVis s →
            Counted (Reg.FP_SLUICE_LATE_HI f) (Reg.FP_SLUICE_LATE_LO f) 1 s t ∧ getB t Reg.FAB_EVENTS_SLUICE_LATE_SEEN = true) ∧
          ((egS s f).freeAt ≤ preamblePs s1 f → x.own = false →
            t.now = s1.now ∧ (egS t f).freeAt = nowPs s1 + bytesPs s f (if 36 ≤ f then x.len else x.len + 12) ∧
            (defers s f x = false → ∃ icv, .sluice f x.src x.len ts.toNat (x.hdr.corr + total) none icv ∈ t.out) ∧
            (defers s f x = true →
              (∃ icv, .sluice f x.src x.len ts.toNat x.hdr.corr none icv ∈ t.out) ∧
              ∃ r, r ∈ t.ports.residues ∧ r.f = f ∧ r.amount = total ∧ r.source = x.hdr.source ∧ r.seq = x.hdr.seq)))))

/-- LINK_UP, PORT_DOWN, FLUSH_DONE (R82, R88, R189, R199, R200, R206 to R208): a port comes up on both sides with its CDR divider restarted, the transmit
tap's phase and a trunk's skew measured, and preemption as verified and enabled; a port that goes down drops and counts what its queues held
and what was in transmission or held preempted, and flushes; the flush's end raises its event. -/
def Obligations.PortsUpAndDown : Prop :=
  ∀ s : State,
    (∀ p b sk ph, p < 36 → powered s (portDomain p) = true → phyEnabled s p = true → getB s (Reg.PORT_PHY_STATUS_LINK_UP p) = false →
      Completes (exec (.linkUp p ⟨b, sk, ph⟩) s) fun t =>
        Frame [.regs, .ports] [.port, .fport] s t ∧ getB t (Reg.PORT_PHY_STATUS_LINK_UP p) = true ∧
        getB t (Reg.PORT_PHY_STATUS_BLOCK_LOCK p) = true ∧ getB t (Reg.PORT_TT_STATUS_CDR_LOCK p) = true ∧ fabUp t p = true ∧
        preemptActive t p = (b && getB s (Reg.FP_SW_CFG_PREEMPT_EN p)) ∧
        (32 ≤ p → getB t (Reg.PORT_PHY_STATUS_LANE1_LOCK p) = true ∧ getB t (Reg.PORT_PHY_STATUS_AM_LOCK p) = true ∧ (portS t p).skew = sk) ∧
        (portS t p).divAt = some s.now ∧ (portS t p).txPhi = ph % 2 ^ 18 ∧ ∀ k, k ≠ p → portS t k = portS s k) ∧
    (∀ p x, p < 36 → (phyEnabled s p = false ∨ getB s (Reg.PORT_PHY_STATUS_LINK_UP p) = true) →
      Completes (exec (.linkUp p x) s) fun t => t = s) ∧
    (∀ p b, p < 36 → getB s (Reg.PORT_PHY_STATUS_LINK_UP p) = true → fabUp s p = true →
      let e := egS s p
      let cut := if e.rest.isSome = true ∨ (nowPs s < e.freeAt ∧ (e.cur.isSome = true ∨ e.sluice = true)) then 1 else 0
      Completes (exec (.portDown p b) s) fun t =>
        Frame [.regs, .mode, .clk, .tim, .sel, .ports, .jieth, .fab, .cal, .cmd, .aud, .out]
          [.ref, .port, .fport, .queue, .eng, .perf, .cal, .aud, .cmd] s t ∧
        getB t (Reg.PORT_PHY_STATUS_LINK_UP p) = false ∧ getB t (Reg.PORT_PHY_EVENTS_LINK_DOWN p) = true ∧ fabUp t p = false ∧
        getB t (Reg.FP_SW_STATUS_FLUSHING p) = true ∧ t.fab.frames = s.fab.frames.filter (fun x => x.q / 8 ≠ p) ∧
        t.fab.sluice = s.fab.sluice.filter (fun x => x.f ≠ p) ∧ egS t p = {} ∧
        Counted (Reg.FP_FLUSHED_HI p) (Reg.FP_FLUSHED_LO p)
          ((s.fab.frames.filter (fun x => x.q / 8 = p)).length + (s.fab.sluice.filter (fun x => x.f = p)).length + cut) s t) ∧
    (∀ f b, 36 ≤ f → f < 42 → fabUp s f = true →
      Completes (exec (.portDown f b) s) fun t =>
        Frame [.regs, .jieth, .fab, .cmd, .aud, .out] [.fport, .queue, .perf, .aud, .cmd] s t ∧ fabUp t f = false ∧
        getB t (Reg.FP_SW_STATUS_FLUSHING f) = true ∧ t.fab.frames = s.fab.frames.filter (fun x => x.q / 8 ≠ f)) ∧
    (∀ f, f < 42 → getB s (Reg.FP_SW_STATUS_FLUSHING f) = true →
      Completes (exec (.flushDone f) s) fun t =>
        Frame [.regs, .out] [.fab, .fport] s t ∧ getB t (Reg.FP_SW_STATUS_FLUSHING f) = false ∧ getB t Reg.FAB_EVENTS_FLUSH_DONE = true) ∧
    (∀ f, f < 42 → getB s (Reg.FP_SW_STATUS_FLUSHING f) = false → Completes (exec (.flushDone f) s) fun t => t = s)

/-- JIETH_CLOCK_LOCK, JIETH_ALIGN_DONE, JIETH_TRAINING_TIMEOUT, FAILED_TIMEOUT (R139, R143, R148, R220, R221): training passes from CLOCK to
ALIGN to HELLO; a wrong word or too much skew stays in ALIGN with its event; a limit passed is FAILED, which ends in CLOCK or OFF.
JIETH_HELLO, JIETH_DELAY_DONE (R140, R143, R144, R145, R164, R176): compatible roles pass to DELAY, others and a device at depth 4 wait in
HELLO; two round trips within 1 ps bring the link UP, the third disagreement fails it. -/
def Obligations.LinkTraining : Prop :=
  (∀ (n : Nat) (s : State), n < 6 →
      let aligned := fun (ws : List Nat) => ∀ k, k < 4 → ws.getD k 7 = k
      (linkState s n = 1 →
        Completes (exec (.jiethClockLock n) s) fun t =>
          Frame [.regs] [.link] s t ∧ linkState t n = 2 ∧ getB t (Reg.LINK_LINK_STATUS_FWD_CLK_OK n) = true ∧
          getB t (Reg.LINK_JPHY_LC_DETECT n) = true ∧ ∀ k, k < 4 → getB t (Reg.LINK_JPHY_LANE_LOCK n k) = true) ∧
      (linkState s n ≠ 1 → Completes (exec (.jiethClockLock n) s) fun t => t = s) ∧
      (∀ ws skew, linkState s n = 2 →
        Completes (exec (.jiethAlignDone n ws skew) s) fun t =>
          Frame [.regs, .jieth, .out] [.link] s t ∧ (∀ k, k < 4 → getF t (Reg.LINK_JPHY_LANE_AW_FOUND n k) = min (ws.getD k 7) 7) ∧
          (aligned ws → skew ≤ 8 →
            linkState t n = 3 ∧ getB t (Reg.LINK_LINK_STATUS_PAIR01_OK n) = true ∧ getB t (Reg.LINK_LINK_STATUS_PAIR23_OK n) = true ∧
            ∀ k, k < 4 → getB t (Reg.LINK_JPHY_LANE_ALIGNED n k) = true) ∧
          (aligned ws → 8 < skew → linkState t n = 2 ∧ getB t (Reg.LINK_JPHY_EVENTS_SKEW_ERR n) = true) ∧
          (∀ k, k < 4 → ws.getD k 7 ≠ k → linkState t n = 2 ∧ (ws.getD k 7 < 4 → getB t (Reg.LINK_JPHY_EVENTS_LANE_ORDER n) = true))) ∧
      (∀ ws skew, linkState s n ≠ 2 → Completes (exec (.jiethAlignDone n ws skew) s) fun t => t = s) ∧
      ((linkState s n = 1 ∨ linkState s n = 2 ∨ (linkState s n = 3 ∧ (linkS s n).helloHeld = false)) →
        Completes (exec (.jiethTrainingTimeout n) s) fun t =>
          LinkFrame s t ∧ linkState t n = 7 ∧ getB t (Reg.LINK_LINK_EVENTS_LINK_FAILED n) = true ∧
          getF t (Reg.LINK_FAIL_CNT n) = (getF s (Reg.LINK_FAIL_CNT n) + 1) % 2 ^ 32) ∧
      (linkState s n = 3 → (linkS s n).helloHeld = true → Completes (exec (.jiethTrainingTimeout n) s) fun t => t = s) ∧
      (linkState s n = 7 → powered s .jieth = true → s.mode ≠ .fault →
        Completes (exec (.failedTimeout n) s) fun t => Frame [.regs, .jieth] [.link] s t ∧ linkState t n = if linkRole s n = 0 then 0 else 1) ∧
      (linkState s n ≠ 7 → Completes (exec (.failedTimeout n) s) fun t => t = s)) ∧
  (∀ (n : Nat) (s : State), n < 6 →
      let role := linkRole s n
      (∀ h : HelloIn, linkState s n = 3 →
        Completes (exec (.jiethHello n h) s) fun t =>
          Frame [.regs, .tim, .jieth, .pair, .fab, .cmd, .aud, .out] [.link, .jg, .pair, .fport, .queue, .perf, .aud, .cmd] s t ∧ getF t (Reg.LINK_LINK_STATUS_PEER_DEPTH n) = h.depth % 8 ∧
          (rolesMatch role h.role.toNat = false →
            linkState t n = 3 ∧ (linkS t n).helloHeld = true ∧ getB t (Reg.LINK_LINK_EVENTS_ROLE_MISMATCH n) = true) ∧
          (role = 1 → h.role = 2 → h.regRefused = false →
            linkState t n = 4 ∧ ownDepth t = min (h.depth + 1) 4 ∧ (h.regAck = true → getF t Reg.JG_SELF_ADDR = h.addr % 2 ^ 16)) ∧
          (role = 1 → h.role = 2 → h.regRefused = true →
            linkState t n = 3 ∧ (linkS t n).helloHeld = true ∧ getB t (Reg.LINK_LINK_EVENTS_TOO_MANY n) = true) ∧
          (role = 2 → h.role = 1 → 4 ≤ ownDepth s →
            linkState t n = 3 ∧ (linkS t n).helloHeld = true ∧ getB t (Reg.LINK_LINK_EVENTS_TOO_DEEP n) = true) ∧
          (role = 2 → h.role = 1 → ownDepth s < 4 → s.straps.jrole = 1 → linkState t n = 4) ∧
          (role = 3 → h.role = 3 → linkState t n = 4 ∧ getF t Reg.PAIR_PEER_EPOCH = h.epoch % 2 ^ 16 ∧ (linkS t n).peerSerial = some h.serial)) ∧
      (∀ h, linkState s n ≠ 3 → Completes (exec (.jiethHello n h) s) fun t => t = s) ∧
      (∀ a b, linkState s n = 4 →
        let rt := roundDiv (loopRt s n a + loopRt s n b) 2
        let near := (loopRt s n a - loopRt s n b).natAbs * 1000 ≤ 5 * 65536
        Completes (exec (.jiethDelayDone n a b) s) fun t =>
          LinkFrame s t ∧
          (near → linkState t n = 5 ∧ (getHL t (Reg.LINK_RT_HI n) (Reg.LINK_RT_LO n) : Int) = roundDiv rt 5 % 2 ^ 48 ∧
            (linkS t n).dw = linkDw s n b rt ∧ fabUp t (36 + n) = true) ∧
          (¬ near → (linkS s n).tries < 2 →
            linkState t n = 4 ∧ (linkS t n).tries = (linkS s n).tries + 1 ∧ getB t (Reg.LINK_LINK_EVENTS_DLY_DISAGREE n) = true) ∧
          (¬ near → 2 ≤ (linkS s n).tries → linkState t n = 7 ∧ getB t (Reg.LINK_LINK_EVENTS_DLY_DISAGREE n) = true)) ∧
      (∀ a b, linkState s n ≠ 4 → Completes (exec (.jiethDelayDone n a b) s) fun t => t = s))

/-- MARKER_RX, FWD_CLK_LOST, RT_UPDATE (R141, R142, R144 to R146, R148, R149, R161, R163, R215, R218): an intact marker in its place gives a followed
clock's frequency and the link's offset, brings new delays into force and takes the timing frame that waits for it; a block error is counted, a
marker whose copies disagree is ignored, one out of place or a lost clock fails the link. TIMING_FRAME_TX, TIMING_FRAME_RX (R142, R150, R164,
R172, R219): a DOWN or MIRROR link that carries sends the time, flags and dataset with every 1,024th marker; the first intact copy is used or
waits for its marker, a stale or damaged one is discarded and counted; two actives that meet are marked. -/
def Obligations.LinkTiming : Prop :=
  (∀ (n : Nat) (s : State), n < 6 →
      let heard := 2 ≤ linkState s n ∧ linkState s n ≤ 6
      let good := fun (m : MarkerIn) => blockType (rxPairsOf s n) m.hdr.toNat = some 4 ∧ markerIntact m = true
      (∀ m, linkCarries s n = true → good m → m.inPlace = true → (linkS s n).loopPend = none → (linkS s n).tfNext = none → s.mode ≠ .standby →
        Completes (exec (.markerRx n m) s) fun t =>
          Frame [.regs, .clk, .jieth, .out] [.clk] s t ∧ (linkS t n).marker = some m.n1.toNat ∧ (linkS t n).freq = some m.freq ∧
          (s.clk.rootFwd = some n → t.clk.cwReq = m.freq ∧ t.clk.cwPos = clampInt (-cwClamp) cwClamp m.freq * cwUnit) ∧
          (s.clk.rootFwd ≠ some n → t.clk = s.clk) ∧
          (∀ r, (linkS s n).tf = some r → dlyStale s n = false → (linkS t n).ofs = some (markerOfs s n r m.n1.toNat m.tod)) ∧
          (dlyStale s n = true → (linkS t n).ofs = (linkS s n).ofs)) ∧
      (∀ m r, linkCarries s n = true → good m → m.inPlace = true → (linkS s n).loopPend = none → (linkS s n).tfNext = none → s.mode = .standby →
        mirrorLink s = some n → (linkS s n).tf = some r → dlyStale s n = false →
        Completes (exec (.markerRx n m) s) fun t =>
          (getF t Reg.PAIR_MIRROR_OFS : Int) = clampInt (-2 ^ 31) (2 ^ 31 - 1) (markerOfs s n r m.n1.toNat m.tod) % 2 ^ 32) ∧
      (∀ m rt dw th, linkCarries s n = true → good m → m.inPlace = true → loopDue s n = some (rt, dw, th) →
        Completes (exec (.markerRx n m) s) fun t =>
          (getHL t (Reg.LINK_RT_HI n) (Reg.LINK_RT_LO n) : Int) = roundDiv rt 5 % 2 ^ 48 ∧ (linkS t n).dw = dw ∧ getF t (Reg.LINK_THETA n) = th % 2 ^ 18) ∧
      (∀ m r, linkCarries s n = true → good m → m.inPlace = true → (linkS s n).tfNext = some r →
        Completes (exec (.markerRx n m) s) fun t =>
          (0 ≤ markerDiff m.n1.toNat r.marker → (linkS t n).tf = some r ∧ (linkS t n).tfNext = none) ∧
          (markerDiff m.n1.toNat r.marker < 0 → (linkS t n).tf = (linkS s n).tf ∧ (linkS t n).tfNext = some r)) ∧
      (∀ m, heard → blockType (rxPairsOf s n) m.hdr.toNat = none →
        Completes (exec (.markerRx n m) s) fun t =>
          Frame [.regs] [.link] s t ∧ getF t (Reg.LINK_BLOCK_ERR n) = (getF s (Reg.LINK_BLOCK_ERR n) + 1) % 2 ^ 32) ∧
      (∀ m, (¬ heard ∨ (blockType (rxPairsOf s n) m.hdr.toNat = some 4 ∧ markerIntact m = false)) → Completes (exec (.markerRx n m) s) fun t => t = s) ∧
      (∀ m, good m → m.inPlace = false → 3 ≤ linkState s n → linkState s n ≤ 6 →
        Completes (exec (.markerRx n m) s) fun t => LinkFrame s t ∧ linkState t n = 7 ∧ getB t (Reg.LINK_LINK_EVENTS_LINK_FAILED n) = true) ∧
      (linkState s n ≠ 0 → linkState s n ≠ 7 →
        Completes (exec (.fwdClkLost n) s) fun t =>
          LinkFrame s t ∧ linkState t n = 7 ∧ getB t (Reg.LINK_LINK_STATUS_FWD_CLK_OK n) = false ∧ getB t (Reg.LINK_JPHY_LC_DETECT n) = false ∧
          getB t (Reg.LINK_LINK_EVENTS_FWD_CLK_LOST n) = true ∧ t.clk.rootFwd ≠ some n ∧
          (s.clk.rootFwd = some n → ∀ k, k < 20 → getB t (Reg.DLL_STAT_BYPASS k) = true)) ∧
      ((linkState s n = 0 ∨ linkState s n = 7) → Completes (exec (.fwdClkLost n) s) fun t => t = s) ∧
      (∀ m, linkCarries s n = true → CalItem.jiethDelay n ∉ s.cal.pend → CalItem.tempco n true ∉ s.cal.pend →
        Completes (exec (.rtUpdate n m) s) fun t =>
          Frame [.regs, .jieth, .cal, .out] [.link] s t ∧ (linkS t n).loopPend = some (loopRt s n m, linkDw s n m (loopRt s n m), m.own, s.now) ∧
          dlyStale t n = true) ∧
      (∀ m, linkCarries s n = false → Completes (exec (.rtUpdate n m) s) fun t => t = s)) ∧
  (∀ (n : Nat) (s : State), n < 6 →
      ((linkRole s n = 2 ∨ linkRole s n = 3) → linkCarries s n = true → s.clk.started = true →
        Completes (exec (.timingFrameTx n) s) fun t =>
          TimeFrame [.jieth, .freeCtr] [] s t ∧ s.now ≤ t.now ∧
          ∃ r, .timing n r ∈ t.out ∧ r.marker % 1024 = 0 ∧ r.marker = nextTiming s n % 2 ^ 32 ∧ r.sec = todSec t ∧ r.ns = todNs t ∧ r.frac = todFrac t ∧
            r.dataset = announced { t with freeCtr := s.freeCtr } ∧ (pairRole s = 2 → r.active = true) ∧ (pairRole s < 2 → r.active = false) ∧
            (s.straps.jrole ≠ 1 → r.epoch = s.pair.epoch.toNat ∧ r.upLost = false)) ∧
      ((linkCarries s n = false ∨ linkRole s n < 2) → Completes (exec (.timingFrameTx n) s) fun t => t = s) ∧
      (∀ r0 r1 r m, linkCarries s n = true → (timingOf r0).or (timingOf r1) = some r → (linkS s n).marker = some m → 0 ≤ markerDiff m r.marker →
        markerDiff m r.marker ≤ 1024 →
        Completes (exec (.timingFrameRx n r0 r1) s) fun t =>
          Frame [.regs, .clk, .jieth, .pair, .gauges, .out, .freeCtr] [.clk, .dll, .link, .jg, .pair] s t ∧ (linkS t n).tf = some r ∧
          getF t (Reg.LINK_LINK_STATUS_PEER_EPOCH n) = r.epoch % 2 ^ 16 ∧
          (linkRole s n = 3 → getF t Reg.PAIR_PEER_EPOCH = r.epoch % 2 ^ 16 ∧ t.pair.peerEpoch = some (BitVec.ofNat 16 r.epoch)) ∧
          (linkRole s n = 3 → r.active = true → pairRole s = 2 →
            getB t Reg.PAIR_PAIR_STATUS_DUAL_ACTIVE = true ∧ getB t Reg.PAIR_PAIR_EVENTS_DUAL_ACTIVE_SET = true ∧ t.pair.timer.isSome = true ∧
            getF t Reg.PAIR_DUAL_ACTIVE_CNT = (getF s Reg.PAIR_DUAL_ACTIVE_CNT + 1) % 2 ^ 32) ∧
          (linkRole s n ≠ 3 → t.pair = s.pair)) ∧
      (∀ r0 r1 r, linkCarries s n = true → (timingOf r0).or (timingOf r1) = some r →
        (linkS s n).marker.all (fun m => decide (markerDiff m r.marker < 0)) = true →
        Completes (exec (.timingFrameRx n r0 r1) s) fun t => Frame [.jieth] [] s t ∧ (linkS t n).tfNext = some r ∧ (linkS t n).tf = (linkS s n).tf) ∧
      (∀ r0 r1, linkCarries s n = true →
        let discarded := Completes (exec (.timingFrameRx n r0 r1) s) fun t =>
          Frame [.regs] [.link] s t ∧ getF t (Reg.LINK_TF_DISCARD n) = (getF s (Reg.LINK_TF_DISCARD n) + 1) % 2 ^ 32
        ((timingOf r0).or (timingOf r1) = none → discarded) ∧
        (∀ r m, (timingOf r0).or (timingOf r1) = some r → (linkS s n).marker = some m → 1024 < markerDiff m r.marker → discarded)))

/-- JIETH_FRAME_RX, FLOW_RX (R213, R215 to R217): the receiver's sum undoes the precoder, and each bit pair comes back from its Gray value; block
errors are counted; a damaged frame is counted and asked for again; the frame next in order is taken and no other; an acknowledgement
releases what it covers, a NAK counts what is sent again. LANE_LOST, PAIR_SWITCH, LANE_REJOINED (R223, R224): a lost lane takes its pair out of
use, and with no pair left the link fails; the transmitter uses the pairs the peer reports, and with one out of use the link is DEGRADED;
with all lanes back it is UP. -/
def Obligations.LinkFlow : Prop :=
  ((∀ b, b < 4 → grayPair (grayOf b) = b) ∧ ∀ q l, q < 4 → (∀ g ∈ l, g < 4) → unprecode q (precode q l) = l) ∧
  (∀ (n : Nat) (s : State), n < 6 → linkCarries s n = true →
      let ok_ := fun (f : JFrameIn) => frameIntact (rxPairsOf s n) f = true
      let errs := fun (f : JFrameIn) => blockErrors (rxPairsOf s n) (f.hdrs.map (·.toNat))
      let next := fun (f : JFrameIn) => BitVec.ofNat 12 (descSeq f.desc) = (linkS s n).seqRx + 1
      (∀ f, ¬ ok_ f →
        Completes (exec (.jiethFrameRx n f) s) fun t =>
          Frame [.regs, .jieth, .out] [.link] s t ∧ (linkS t n).nak = true ∧ (linkS t n).seqRx = (linkS s n).seqRx ∧
          getF t (Reg.LINK_BLOCK_ERR n) = (getF s (Reg.LINK_BLOCK_ERR n) + errs f) % 2 ^ 32 ∧
          getF t (Reg.LINK_CRC_ERR n) = (getF s (Reg.LINK_CRC_ERR n) + 1) % 2 ^ 32 ∧ getB t (Reg.LINK_JPHY_EVENTS_CRC_ERR_SEEN n) = true ∧
          .flow n (flowNow t n) ∈ t.out) ∧
      (∀ f, ok_ f → next f →
        Completes (exec (.jiethFrameRx n f) s) fun t =>
          Frame [.regs, .ports, .jieth, .fab, .out] [.port, .link, .fab, .fport, .queue, .perf, .sec, .cmd] s t ∧
          (linkS t n).seqRx = (linkS s n).seqRx + 1 ∧ (linkS t n).nak = false ∧ .flow n (flowNow t n) ∈ t.out ∧
          (descClass f.desc ≠ 0 → descClass f.desc ≠ 2 → Frame [.jieth, .out] [] s t)) ∧
      (∀ f, ok_ f → ¬ next f →
        Completes (exec (.jiethFrameRx n f) s) fun t =>
          Frame [.jieth, .out] [] s t ∧ (linkS t n).seqRx = (linkS s n).seqRx ∧ (linkS t n).replay = (linkS s n).replay ∧ .flow n (flowNow t n) ∈ t.out) ∧
      (∀ f a e b, (linkS s n).replay = a ++ e :: b → (∀ x ∈ a, x.1 ≠ e.1) → e.1 = BitVec.ofNat 12 f.ackSeq →
        Completes (exec (.flowRx n f) s) fun t =>
          Frame [.regs, .jieth] [.link] s t ∧ (linkS t n).replay = b ∧ (linkS t n).credit = BitVec.ofNat 16 f.credit ∧
          (linkS t n).peerPairs.getLsbD 0 = f.pair0 ∧ (linkS t n).peerPairs.getLsbD 1 = f.pair1 ∧
          getF t (Reg.LINK_REPLAY_CNT n) = (getF s (Reg.LINK_REPLAY_CNT n) + if f.nak then b.length else 0) % 2 ^ 32) ∧
      (∀ f, (∀ x ∈ (linkS s n).replay, x.1 ≠ BitVec.ofNat 12 f.ackSeq) →
        Completes (exec (.flowRx n f) s) fun t => Frame [.regs, .jieth] [.link] s t ∧ (linkS t n).replay = (linkS s n).replay)) ∧
  (∀ (n : Nat) (s : State), n < 6 → linkCarries s n = true →
      let l := linkS s n
      let used := fun (t : State) =>
        getB t (Reg.LINK_JPHY_STATUS_TX_PAIR01_USED n) = l.peerPairs.getLsbD 0 ∧ getB t (Reg.LINK_JPHY_STATUS_TX_PAIR23_USED n) = l.peerPairs.getLsbD 1
      (∀ k, k < 4 → getB s (Reg.LINK_JPHY_LANE_LOST n k) = false → l.rxPairs &&& ~~~(laneBit k) = 0 →
        Completes (exec (.laneLost n k) s) fun t => LinkFrame s t ∧ linkState t n = 7 ∧ getB t (Reg.LINK_JPHY_EVENTS_LANE_LOST n) = true) ∧
      (∀ k, k < 4 → getB s (Reg.LINK_JPHY_LANE_LOST n k) = false → l.rxPairs &&& ~~~(laneBit k) ≠ 0 →
        Completes (exec (.laneLost n k) s) fun t =>
          Frame [.regs, .jieth, .out] [.link] s t ∧ getB t (Reg.LINK_JPHY_LANE_LOST n k) = true ∧ getB t (Reg.LINK_JPHY_LANE_ALIGNED n k) = false ∧
          getB t (pairOk n k) = false ∧ (linkS t n).rxPairs.getLsbD (k / 2) = false ∧
          (linkS t n).rxPairs.getLsbD (1 - k / 2) = l.rxPairs.getLsbD (1 - k / 2) ∧ getB t (Reg.LINK_JPHY_EVENTS_LANE_LOST n) = true ∧
          linkState t n = linkState s n) ∧
      (∀ k, k < 4 → getB s (Reg.LINK_JPHY_LANE_LOST n k) = true →
        (Completes (exec (.laneLost n k) s) fun t => t = s) ∧
        Completes (exec (.laneRejoined n k) s) fun t =>
          Frame [.regs, .jieth, .out] [.link] s t ∧ getB t (Reg.LINK_JPHY_LANE_LOST n k) = false ∧ getB t (Reg.LINK_JPHY_LANE_ALIGNED n k) = true ∧
          getB t (Reg.LINK_JPHY_EVENTS_LANE_REJOINED n) = true ∧
          ((∀ j, j < 4 → j ≠ k → j / 2 = k / 2 → getB s (Reg.LINK_JPHY_LANE_LOST n j) = false) →
            getB t (pairOk n k) = true ∧ (linkS t n).rxPairs.getLsbD (k / 2) = true) ∧
          ((linkS t n).rxPairs = 3 → l.peerPairs = 3 → linkState t n = 5) ∧ (l.peerPairs ≠ 3 → linkState t n = linkState s n)) ∧
      (l.peerPairs = 3 → l.rxPairs = 3 →
        Completes (exec (.pairSwitch n) s) fun t => Frame [.regs] [.link] s t ∧ used t ∧ linkState t n = 5) ∧
      ((l.peerPairs ≠ 3 ∨ l.rxPairs ≠ 3) →
        Completes (exec (.pairSwitch n) s) fun t =>
          Frame [.regs] [.link] s t ∧ used t ∧ linkState t n = 6 ∧
          (linkState s n = 5 → getF t (Reg.LINK_DEGRADE_CNT n) = (getF s (Reg.LINK_DEGRADE_CNT n) + 1) % 2 ^ 32) ∧
          (linkState s n = 6 → getF t (Reg.LINK_DEGRADE_CNT n) = getF s (Reg.LINK_DEGRADE_CNT n))))

/-- ROLE_IN_TAKEN (R25, R28, R29, R164, R166 to R171): a changed role is taken in ROLE_IN; STANDBY stops an active member, ACTIVE makes a
standby take over with the next epoch in the mirrored mode, isolation goes to CONFIG with the word held; elsewhere it only waits.
YIELD_TIMER_EXPIRY, DUAL_ACTIVE_CLEAR (R164, R172): of two actives the one with the lower epoch yields to STANDBY when its 5 µs end; the
other goes on; DUAL_ACTIVE clears 1,024 markers after the last ACTIVE timing frame. -/
def Obligations.PairRoles : Prop :=
  (∀ (v : BitVec 2) (s : State),
      let frame := Frame [.regs, .mode, .clk, .tim, .sel, .ports, .jieth, .pair, .gauges, .cal, .aud, .out, .freeCtr]
        [.clk, .dll, .time, .ref, .port, .pair, .eng, .cal, .aud] s
      let taken := fun (t : State) =>
        frame t ∧ t.tim.tod = s.tim.tod ∧ roleIn t = v.toNat ∧ getB t Reg.PAIR_PAIR_EVENTS_ROLE_CHANGED = true ∧ t.pair.yielded = false ∧
        (v = 3 → getB t Reg.PAIR_PAIR_EVENTS_ROLE_RESERVED = true)
      let changes := s.straps.pairEn = true ∧ v.toNat ≠ roleIn s ∧ powered s .time = true
      (changes → v = 1 → activeMode s.mode = true →
        Completes (exec (.roleInTaken v) s) fun t =>
          taken t ∧ t.mode = .standby ∧ selected t = none ∧ t.sel.coast = none ∧ t.pair.mirror = none ∧
          getB t Reg.PAIR_PAIR_EVENTS_BECAME_STANDBY = true) ∧
      (changes → v = 2 → s.mode = .standby →
        Completes (exec (.roleInTaken v) s) fun t =>
          taken t ∧ t.pair.epoch = nextEpoch s ∧ t.pair.mirror = none ∧ t.clk.cwHeld = false ∧ getB t Reg.REF_LOSS_CTRL_WINDOW_OPEN = true ∧
          getF t Reg.PAIR_TAKEOVER_CNT = (getF s Reg.PAIR_TAKEOVER_CNT + 1) % 2 ^ 32 ∧ getB t Reg.PAIR_PAIR_EVENTS_TOOK_OVER = true ∧
          (pairReady s = false → getB t Reg.PAIR_PAIR_EVENTS_UNREADY_TAKEOVER = true) ∧
          (s.pair.mirror = none → t.mode = .holdover) ∧
          (∀ f, s.pair.mirror = some f →
            (f.mode = .freerun → t.mode = .freerun) ∧
            (f.mode ≠ .freerun → f.mode ≠ .locked ∨ 1000 < s.pair.mirrorMs → t.mode = .holdover) ∧
            (∀ n, f.mode = .locked → s.pair.mirrorMs ≤ 1000 → f.selected = some n → n < 8 → slotQual s n = true →
              t.mode = .locked ∧ selected t = some n))) ∧
      (changes → (v = 0 ∨ v = 3) → (activeMode s.mode = true ∨ s.mode = .standby) →
        Completes (exec (.roleInTaken v) s) fun t =>
          taken t ∧ t.mode = .config ∧ selected t = none ∧ t.clk.cwHeld = true ∧ t.clk.rootFwd = none ∧ t.tim.pend = none) ∧
      (changes → (activeMode s.mode = false ∧ s.mode ≠ .standby) → Completes (exec (.roleInTaken v) s) fun t => taken t ∧ t.mode = s.mode) ∧
      (¬ changes → Completes (exec (.roleInTaken v) s) fun t => t = s)) ∧
  (∀ s : State,
      (∀ u, s.pair.timer = some u → pairRole s = 2 → epochLower s = true →
        Completes (exec .yieldTimerExpiry s) fun t =>
          TimeFrame [.mode, .ports, .jieth, .pair, .gauges, .cal, .aud, .freeCtr] [.clk, .dll, .ref, .port, .pair, .eng, .cal, .aud] s t ∧
          t.now = max s.now (u + 3125) ∧ t.mode = .standby ∧ t.pair.yielded = true ∧ t.pair.timer = none ∧
          getB t Reg.PAIR_PAIR_EVENTS_YIELDED = true ∧ roleIn t = roleIn s) ∧
      (∀ u, s.pair.timer = some u → (pairRole s ≠ 2 ∨ epochLower s = false) →
        Completes (exec .yieldTimerExpiry s) fun t =>
          TimeFrame [.pair] [] s t ∧ t.now = max s.now (u + 3125) ∧ t.pair = { s.pair with timer := none }) ∧
      (s.pair.timer = none → Completes (exec .yieldTimerExpiry s) fun t => t = s) ∧
      (getB s Reg.PAIR_PAIR_STATUS_DUAL_ACTIVE = true →
        Completes (exec .dualActiveClear s) fun t =>
          TimeFrame [] [.pair] s t ∧ t.now = max s.now (s.pair.activeAt + 270336) ∧ getB t Reg.PAIR_PAIR_STATUS_DUAL_ACTIVE = false ∧
          getF t Reg.PAIR_DUAL_ACTIVE_CNT = getF s Reg.PAIR_DUAL_ACTIVE_CNT) ∧
      (getB s Reg.PAIR_PAIR_STATUS_DUAL_ACTIVE = false → Completes (exec .dualActiveClear s) fun t => t = s))

/-- MIRROR_STATE_FRAME_TX, MIRROR_STATE_FRAME_RX, MIRROR_LOST (R158 to R160, R164): an active member with a mirror link and key sends its mode,
selection, word, epoch, slots and history; a standby keeps an authentic frame and its force and lockouts, and counts another as discarded;
silence clears MIRROR_OK. -/
def Obligations.Mirroring : Prop :=
  ∀ s : State,
    let arrives := (mirrorLink s).any (linkCarries s) = true
    let sends := arrives ∧ pairRole s = 2 ∧ keyUsable s 65 = true
    let authentic := fun (f : MirrorFrame) => f.tag = mirrorTag s f ∧ keyUsable s 65 = true
    (sends → Completes (exec .mirrorStateFrameTx s) fun t =>
      Frame [.out] [] s t ∧ ∃ f, t.out = s.out ++ [.mirror f] ∧ f.tag = mirrorTag s f ∧ f.mode = s.mode ∧ f.selected = selected s ∧ f.force = forced s ∧ f.cw = cwNow s ∧
        f.epoch = s.pair.epoch.toNat ∧ f.slots = slotNos.map (mirSlot s) ∧ f.hist = s.sel.hist) ∧
    (¬ sends → Completes (exec .mirrorStateFrameTx s) fun t => t = s) ∧
    (∀ f, s.mode = .standby → arrives → authentic f →
      Completes (exec (.mirrorStateFrameRx f) s) fun t =>
        Frame [.regs, .sel, .pair] [.ref, .slot, .pair] s t ∧ t.pair.mirror = some f ∧ t.pair.mirrorMs = 0 ∧
        t.pair.epoch = BitVec.ofNat 16 f.epoch ∧ getB t Reg.PAIR_PAIR_STATUS_MIRROR_OK = true ∧ getF t Reg.PAIR_MIRROR_AGE = 0 ∧
        getB t Reg.PAIR_PAIR_STATUS_CAL_MATCH = decide (f.calIds = calIdents s) ∧
        (f.force = none → forced t = none) ∧ (∀ n, f.force = some n → n < 8 → forced t = some n) ∧
        (∀ n, n < 8 → getB t (Reg.SLOT_SLOT_CFG_LOCKOUT n) = decide (n ∈ f.lockout)) ∧ (∀ e ∈ f.hist.take 7200, e ∈ t.sel.hist)) ∧
    (∀ f, s.mode ≠ .standby → arrives → authentic f →
      Completes (exec (.mirrorStateFrameRx f) s) fun t =>
        Frame [.regs, .pair] [.pair] s t ∧ t.pair.mirror = s.pair.mirror ∧ t.pair.epoch = s.pair.epoch ∧ t.pair.mirrorMs = 0 ∧
        t.pair.peerEpoch = some (BitVec.ofNat 16 f.epoch) ∧ getB t Reg.PAIR_PAIR_STATUS_MIRROR_OK = true ∧ getF t Reg.PAIR_MIRROR_AGE = 0) ∧
    (∀ f, arrives → ¬ authentic f →
      Completes (exec (.mirrorStateFrameRx f) s) fun t =>
        Frame [.regs] [.pair] s t ∧ getF t Reg.PAIR_MIRROR_DISCARD = (getF s Reg.PAIR_MIRROR_DISCARD + 1) % 2 ^ 32 ∧
        getB t Reg.PAIR_PAIR_STATUS_MIRROR_OK = getB s Reg.PAIR_PAIR_STATUS_MIRROR_OK) ∧
    (∀ f, ¬ arrives → Completes (exec (.mirrorStateFrameRx f) s) fun t => t = s) ∧
    (getB s Reg.PAIR_PAIR_STATUS_MIRROR_OK = true →
      Completes (exec .mirrorLost s) fun t =>
        Frame [.regs, .out] [.pair] s t ∧ getB t Reg.PAIR_PAIR_STATUS_MIRROR_OK = false ∧ getB t Reg.PAIR_PAIR_EVENTS_MIRROR_LOST = true) ∧
    (getB s Reg.PAIR_PAIR_STATUS_MIRROR_OK = false → Completes (exec .mirrorLost s) fun t => t = s)

/-- GAUGE_EDGE, GAUGE_CONVERSION_DONE (R229 to R231, R234 to R238): a converter that is on counts every edge, and converts the ones its mode
takes unless one falls within 200 ns of the last, which is missed; a time-stamp result carries the edge's time, an interval stop minus
start; a full FIFO drops and counts. FREQ_GATE_END, SIGNED_PAIR_WINDOW_END, COARSE_WRAP, GAUGE_CORRECTION_APPLY (R232, R234, R236, R240,
R286): a closing gate gives its interval and its count; a start without a stop in its window is ignored; time runs to the counter's wrap;
corrections of an idle input take effect. What is no edge of the gauge's run makes no result. -/
def Obligations.GaugeMeasures : Prop :=
  (∀ (n : Nat) (s : State), n < 12 → powered s .gauge = true →
      let g := gaugeS s n
      let mode := if gaugeRuns s n then cfgMode g.cfg else 0
      let dead := fun (ps : Nat) => g.lastEdge.any (fun t => decide (ps < t + 200000)) = true
      let isStop := gaugeNos.any (usesAsStop s n) = true
      let edge := fun (ps : Nat) (l : List Area) (P : State → Prop) =>
        Completes (exec (.gaugeEdge n ps) s) fun t =>
          TimeFrame [.gauges] l s t ∧ s.now ≤ t.now ∧ (gaugeS t n).edges = g.edges + 1 ∧ (∀ k, k ≠ n → gaugeS t k = gaugeS s k) ∧ P t
      let missed := fun (t : State) =>
        (gaugeS t n).lastEdge = g.lastEdge ∧ (gaugeS t n).busy = g.busy ∧ getF t (Reg.GA_MISSED n) = (getF s (Reg.GA_MISSED n) + 1) % 2 ^ 32
      let passed := fun (t : State) =>
        (gaugeS t n).lastEdge = g.lastEdge ∧ (gaugeS t n).busy = g.busy ∧ getF t (Reg.GA_MISSED n) = getF s (Reg.GA_MISSED n)
      let converts := fun (ps : Nat) (t : State) => (gaugeS t n).busy = true ∧ (gaugeS t n).lastEdge = some ps ∧ (gaugeS t n).cap = g.edges + 1
      (∀ ps, converterOn s n = true → mode ≠ 2 → mode ≠ 3 →
        (¬ dead ps → edge ps [] (converts ps)) ∧ (dead ps → edge ps [.ga] missed)) ∧
      (∀ ps, converterOn s n = true → mode = 2 →
        (1 < g.toGo → ¬ isStop → edge ps [] fun t => passed t ∧ (gaugeS t n).toGo = g.toGo - 1) ∧
        (g.toGo ≤ 1 → ¬ dead ps → edge ps [] fun t => converts ps t ∧ (gaugeS t n).hit = true ∧ (gaugeS t n).toGo = g.m) ∧
        (g.toGo ≤ 1 → dead ps → edge ps [.ga] fun t => missed t ∧ (gaugeS t n).doubled = true ∧ (gaugeS t n).toGo = g.m)) ∧
      (∀ ps, converterOn s n = true → mode = 3 → ¬ isStop → g.gate = true →
        (g.first = none → g.busy = false → ¬ dead ps → edge ps [] (converts ps)) ∧
        (g.first ≠ none → dead ps → edge ps [] passed) ∧
        (g.first ≠ none → ¬ dead ps → edge ps [] fun t =>
          (gaugeS t n).busy = true ∧ (gaugeS t n).cap = g.edges + 1 ∧ (gaugeS t n).lastEdge = g.lastEdge)) ∧
      (∀ ps, converterOn s n = false → Completes (exec (.gaugeEdge n ps) s) fun t => t = s) ∧
      (∀ c sub k, g.busy = true →
        let x := coarseExt s c
        let u := edgeTime s n x sub k
        let noStop := ∀ m, m < 12 → stopInRun s n x m = false
        let done := fun (P : State → Prop) => Completes (exec (.gaugeConversionDone n c sub k) s) P
        let head := fun (h : Word) =>
          fieldOf h 28 4 = n ∧ fieldOf h 26 2 = 0 ∧ fieldOf h 24 1 = (gaugeStale s n).toNat ∧ fieldOf h 22 1 = (decide (s.power = .quiet)).toNat ∧
          fieldOf h 21 1 = fieldOf g.cfg 4 1 ∧ fieldOf h 0 16 = g.seq.toNat
        done (fun t => Frame [.regs, .gauges, .out] [.gauge, .ga] s t ∧ (gaugeS t n).busy = false) ∧
        (inRun s n x = true → cfgMode g.cfg = 0 → noStop → g.fifo.length < 1024 →
          done fun t => (gaugeS t n).seq = g.seq + 1 ∧ ∃ h, head h ∧
            (fieldOf g.cfg 4 1 = 0 → (gaugeS t n).fifo = g.fifo ++ [h :: timeWords (coarseFine u).1 (coarseFine u).2]) ∧
            (fieldOf g.cfg 4 1 = 1 → (gaugeS t n).fifo = g.fifo ++ [h :: todFormWords (edgeTod s n u)])) ∧
        (inRun s n x = true → cfgMode g.cfg = 0 → noStop → 1024 ≤ g.fifo.length →
          done fun t =>
            (gaugeS t n).fifo = g.fifo ∧ (gaugeS t n).seq = g.seq + 1 ∧ getF t (Reg.GA_OVERRUN n) = (getF s (Reg.GA_OVERRUN n) + 1) % 2 ^ 32 ∧
            getB t Reg.GAUGE_EVENTS_OVERRUN_SEEN = true) ∧
        (inRun s n x = false → noStop → done fun t => t.regs = s.regs ∧ ∀ k, (gaugeS t k).fifo = (gaugeS s k).fifo) ∧
        (∀ m a r, m < 12 → inRun s n x = false → stopInRun s n x m = true → (∀ j, j < 12 → j ≠ m → stopInRun s n x j = false) →
          fieldOf (gaugeS s m).cfg 12 1 = 0 → (gaugeS s m).starts = a :: r → a.t ≤ u → (gaugeS s m).fifo.length < 1024 →
          done fun t => (gaugeS t m).starts = [] ∧
            ∃ h, (gaugeS t m).fifo = (gaugeS s m).fifo ++ [h :: timeWords (coarseFine (u - a.t)).1 (coarseFine (u - a.t)).2])) ∧
      (∀ c sub k, g.busy = false → Completes (exec (.gaugeConversionDone n c sub k) s) fun t => t = s)) ∧
  (∀ (n : Nat) (s : State), n < 12 →
      let g := gaugeS s n
      (gaugeRuns s n = true → g.gate = true → cfgMode g.cfg = 3 → g.fifo.length < 1023 →
        Completes (exec (.freqGateEnd n) s) fun t =>
          TimeFrame [.gauges] [.ga] s t ∧ s.now ≤ t.now ∧ (gaugeS t n).seq = g.seq + 2 ∧ (gaugeS t n).gate = decide (fieldOf g.cfg 13 1 = 1) ∧
          (gaugeS t n).gateAt = g.gateAt + gateTicks g ∧
          ∃ h k, fieldOf h 25 1 = 0 ∧ fieldOf k 25 1 = 1 ∧
            (∀ a b, g.first = some a → g.last = some b → a.cnt < b.cnt →
              (gaugeS t n).fifo = g.fifo ++ [h :: timeWords (coarseFine (b.t - a.t)).1 (coarseFine (b.t - a.t)).2, k :: timeWords ((b.cnt - a.cnt : Nat) : Int) 0]) ∧
            (g.first = none ∨ g.last = none → (gaugeS t n).fifo = g.fifo ++ [h :: timeWords 0 0, k :: timeWords 0 0])) ∧
      ((gaugeRuns s n = false ∨ g.gate = false ∨ cfgMode g.cfg ≠ 3) → Completes (exec (.freqGateEnd n) s) fun t => t = s) ∧
      (∀ a r, gaugeRuns s n = true → cfgMode g.cfg = 1 → fieldOf g.cfg 12 1 = 1 → g.starts = a :: r →
        Completes (exec (.signedPairWindowEnd n) s) fun t =>
          TimeFrame [.gauges] [.ga] s t ∧ s.now ≤ t.now ∧ (gaugeS t n).starts = r ∧
          ((∀ u ∈ g.stops, pairWin g < (u.t - a.t).natAbs) →
            (gaugeS t n).fifo = g.fifo ∧ getF t (Reg.GA_IGNORED n) = (getF s (Reg.GA_IGNORED n) + 1) % 2 ^ 32) ∧
          (∀ u, nearestStop g a.t = some u → g.fifo.length < 1024 →
            ∃ h, (gaugeS t n).fifo = g.fifo ++ [h :: timeWords (coarseFine (u.t - a.t)).1 (coarseFine (u.t - a.t)).2])) ∧
      (gaugeRuns s n = false ∨ g.starts = [] → Completes (exec (.signedPairWindowEnd n) s) fun t => t = s) ∧
      (Completes (exec (.gaugeCorrectionApply n) s) fun t =>
        TimeFrame [.cal] [] s t ∧ s.now ≤ t.now ∧ (∀ it ∈ s.cal.pend, it ≠ .vernier n → it ≠ .gaugeDelay n → it ∈ t.cal.pend) ∧
        (s.cal.pend.Nodup → CalItem.vernier n ∉ t.cal.pend ∧ CalItem.gaugeDelay n ∉ t.cal.pend) ∧
        (∀ it k, it ∈ s.cal.pend → (it = .vernier n ∨ it = .gaugeDelay n) → k ∈ itemWords it → memGet t.cal.force k = memGet s.cal.work k))) ∧
  ∀ s : State,
    (s.clk.started = true → powered s .gauge = true →
      Completes (exec .coarseWrap s) fun t => TimeFrame [] [] s t ∧ t.now = s.now + (2 ^ 48 - s.coarse % 2 ^ 48) ∧ t.coarse % 2 ^ 48 = 0) ∧
    ((s.clk.started = false ∨ powered s .gauge = false) → Completes (exec .coarseWrap s) fun t => t = s)

/-- SPECTRAL_SCAN, JAM_UPDATE, NOISE_REF_DONE (R247, R248): a strong line takes the lowest free notch; a notch whose line stays low for ten
scans is released; JAM sets when ten averages in a row reach JAM_THR and clears when ten lie 3 dB below; the average becomes the baseline.
ACQUISITION_DONE, CHANNEL_TRACK, CHANNEL_LOST, NAV_DATA_DECODE (R95, R249, R250, R253, R254): a peak above ACQ_THR takes the lowest free
channel into PULL_IN, a lock held for 200 ms takes it to TRACK, the loss conditions to LOST; good data of a tracked satellite gives its
ephemeris, the week and UTC. A baseband that does not run does nothing. -/
def Obligations.GnssSignals : Prop :=
  (∀ s : State,
      let auto := gnssRuns s = true ∧ getB s Reg.GNSS_CFG_NOTCH_AUTO = true
      let frame := Frame [.regs, .gnss] [.gnss] s
      (∀ l : Line, auto → l.notch = none → getF s Reg.GNSS_JAM_CFG_NOTCH_THR < l.level → (∀ n, n < 4 → notchActive s n = false) →
        Completes (exec (.spectralScan [l]) s) fun t =>
          frame t ∧ notchActive t 0 = true ∧ (getF t (Reg.NOTCH_STAT_FREQ 0) : Int) = l.hz % 2 ^ 24 ∧ ∀ n, n < 4 → n ≠ 0 → notchActive t n = false) ∧
      (∀ n, auto → n < 4 → getB s (Reg.NOTCH_CFG_MANUAL n) = false → getB s (Reg.NOTCH_STAT_ACTIVE n) = true →
        Completes (exec (.spectralScan []) s) fun t =>
          frame t ∧ (9 ≤ s.gnss.low.getD n 0 → notchActive t n = false) ∧
          (s.gnss.low.getD n 0 < 9 → notchActive t n = true ∧ t.gnss.low.getD n 0 = s.gnss.low.getD n 0 + 1)) ∧
      (∀ ls, ¬ auto → Completes (exec (.spectralScan ls) s) fun t => t = s) ∧
      (∀ p b c, powered s .gnss = true → s.gnss.base = some b →
        let jn := min 240 (p - b)
        let thr := getF s Reg.GNSS_JAM_CFG_JAM_THR
        let hi := if thr ≤ jn then (if c then s.gnss.jamHi else 0) + 1 else 0
        let lo := if jn + 12 < thr then (if c then s.gnss.jamLo else 0) + 1 else 0
        Completes (exec (.jamUpdate p c) s) fun t =>
          Frame [.regs, .gnss, .out] [.gnss] s t ∧ getF t Reg.GNSS_STATUS_JN = jn ∧ t.gnss = { s.gnss with jamHi := hi, jamLo := lo } ∧
          (10 ≤ hi → getB t Reg.GNSS_STATUS_JAM = true ∧ (getB s Reg.GNSS_STATUS_JAM = false → getB t Reg.GNSS_EVENTS_JAM_SET = true)) ∧
          (10 ≤ lo → getB t Reg.GNSS_STATUS_JAM = false) ∧ (hi < 10 → lo < 10 → getB t Reg.GNSS_STATUS_JAM = getB s Reg.GNSS_STATUS_JAM)) ∧
      (∀ p c, (s.gnss.base = none ∨ powered s .gnss = false) → Completes (exec (.jamUpdate p c) s) fun t => t = s) ∧
      (∀ p, s.gnss.baseRun = true → powered s .gnss = true →
        Completes (exec (.noiseRefDone p) s) fun t => Frame [.gnss] [] s t ∧ t.gnss = { s.gnss with base := some p, baseRun := false }) ∧
      (∀ p, (s.gnss.baseRun = false ∨ powered s .gnss = false) → Completes (exec (.noiseRefDone p) s) fun t => t = s)) ∧
  (∀ s : State, gnssRuns s = true →
      let onlyChan := fun (ch : Nat) (t : State) =>
        Frame [.regs, .gnss] [.chan] s t ∧ ∀ k, k < 24 → k ≠ ch → chanState t k = chanState s k ∧ chanPrn t k = chanPrn s k ∧ gnssChan t k = gnssChan s k
      let found := fun (ch prn : Nat) => chanState s ch = 2 ∧ chanPrn s ch = prn
      let loses := fun (ch : Nat) =>
        (chanState s ch = 1 ∧ 2000 ≤ (gnssChan s ch).openMs) ∨
        (chanState s ch = 2 ∧ (1000 ≤ (gnssChan s ch).lowMs ∨ 200 ≤ (gnssChan s ch).openMs))
      (∀ prn bin code peak nxt, 1 ≤ prn → prn ≤ 32 → bin.natAbs ≤ 20 → code < 32768 →
        (∀ ch, searches s prn = true → nxt * getF s Reg.GNSS_ACQ_CFG_ACQ_THR < peak * 10 → ch < 24 → chanState s ch = 0 →
          (∀ k, k < ch → chanState s k ≠ 0) →
          Completes (exec (.acquisitionDone prn ⟨bin, code⟩ peak nxt) s) fun t =>
            onlyChan ch t ∧ chanState t ch = 1 ∧ chanPrn t ch = prn ∧ (getF t (Reg.CH_DOPPLER ch) : Int) = bin * 500 * 256 % 2 ^ 32 ∧
            gnssChan t ch = { code := code } ∧ t.gnss.lastPrn = prn) ∧
        (searches s prn = true → peak * 10 ≤ nxt * getF s Reg.GNSS_ACQ_CFG_ACQ_THR →
          Completes (exec (.acquisitionDone prn ⟨bin, code⟩ peak nxt) s) fun t =>
            Frame [.gnss] [] s t ∧ t.gnss = { s.gnss with lastPrn := prn }) ∧
        (searches s prn = false → Completes (exec (.acquisitionDone prn ⟨bin, code⟩ peak nxt) s) fun t => t = s)) ∧
      (∀ ch, ch < 24 →
        (chanState s ch = 1 → 200 ≤ (gnssChan s ch).lockMs →
          Completes (exec (.channelTrack ch) s) fun t =>
            onlyChan ch t ∧ chanState t ch = 2 ∧ chanPrn t ch = chanPrn s ch ∧ gnssChan t ch = { gnssChan s ch with trackMs := 0 }) ∧
        (chanState s ch ≠ 1 ∨ (gnssChan s ch).lockMs < 200 → Completes (exec (.channelTrack ch) s) fun t => t = s) ∧
        (loses ch → Completes (exec (.channelLost ch) s) fun t => onlyChan ch t ∧ chanState t ch = 3) ∧
        (¬ loses ch → Completes (exec (.channelLost ch) s) fun t => t = s)) ∧
      (∀ d ch, ch < 24 → found ch d.prn → (∀ k, k < ch → ¬ found k d.prn) →
        Completes (exec (.navDataDecode d) s) fun t =>
          Frame [.regs, .ports, .gnss] [.chan] s t ∧ chanFlag t ch 2 = d.healthy ∧ chanFlag t ch 4 = true ∧ chanFlag t ch 5 = true ∧
          chanState t ch = 2 ∧
          (d.healthy = true → d.iodMatch = true → d.toeInRange = true → d.prn ∈ t.gnss.eph) ∧
          ((d.healthy && d.iodMatch && d.toeInRange) = false → s.gnss.eph.Nodup → d.prn ∉ t.gnss.eph) ∧
          (∀ p, p ≠ d.prn → (p ∈ t.gnss.eph ↔ p ∈ s.gnss.eph)) ∧ t.gnss.almanac = (s.gnss.almanac || d.almanac) ∧
          getF s Reg.GNSS_WEEK_BASE ≤ t.gnss.week ∧ t.gnss.week < getF s Reg.GNSS_WEEK_BASE + 1024 ∧ t.gnss.week % 1024 = d.week10 % 1024 ∧
          (∀ ls lsf last, d.utc = some (ls, lsf, last) →
            t.ports = { s.ports with utcAuto := some (ls + 19, last && decide (lsf < ls), last && decide (ls < lsf)) }) ∧
          (d.utc = none → t.ports = s.ports)) ∧
      (∀ d, (∀ k, k < 24 → ¬ found k d.prn) → Completes (exec (.navDataDecode d) s) fun t => t = s)) ∧
  (∀ (ch : Nat) (x y z : Int) (d : NavIn) (ms : List ChanMeas) (fs : List Fit) (rs : List RawChan) (s : State), gnssRuns s = false → ch < 24 →
      ∀ i ∈ [Instr.channelTrack ch, .channelLost ch, .navDataDecode d, .codeEpoch ms, .gnssSolution fs, .surveyDone x y z, .rawEpoch rs],
        Completes (exec i s) fun t => t = s)

/-- CODE_EPOCH, GNSS_SOLUTION (R251, R253, R255 to R258): at a code epoch delays take effect, LOST channels become IDLE, the dumps and timers
of a tracked channel are taken, and too few used channels lose the solution; a fit of enough satellites within RES_THR is valid and gives the
slots their offset; a satellite beyond RES_THR is excluded. SURVEY_DONE, RAW_EPOCH (R255, R259): a survey's average (in whole mm, rounded up or down, the
model's choice, log entry 144) becomes the held position; with a channel in TRACK an epoch of a header and a record per channel, taken at the
ToD second boundary, joins the raw FIFO, or is dropped whole and counted. -/
def Obligations.GnssSolves : Prop :=
  (∀ s : State, gnssRuns s = true →
      let tframe := TimeFrame [.mode, .ports, .gauges, .gnss, .cal, .freeCtr] [.clk, .dll, .time, .ref, .slot, .port, .gnss, .chan, .eng, .cal] s
      let frame := Frame [.regs, .mode, .clk, .tim, .sel, .ports, .gauges, .gnss, .cal, .out, .freeCtr]
        [.clk, .dll, .time, .ref, .slot, .port, .gnss, .chan, .eng, .cal] s
      let thr := getF s Reg.GNSS_SOL_CFG_RES_THR * 1000
      let mode := getF s Reg.GNSS_STATUS_POS_MODE
      let held := (chanNos.filter (fun ch => chanFlag s ch 1 && decide (chanState s ch = 2))).length
      let usable := fun (f : Fit) => ∀ e ∈ f.res, e.1 < 24 ∧ chanUsable s e.1 = true
      let ofs := fun (f : Fit) => gpsToPtp s.gnss.week f.tow + s.gnss.ant + feDelay s - (todSec s * 10 ^ 9 * 2 ^ 16 : Nat)
      (∀ ms, Completes (exec (.codeEpoch ms) s) fun t =>
        tframe t ∧ s.now ≤ t.now ∧ t.gnss.ant = getF s Reg.GNSS_ANT_DLY ∧
        (∀ ch, ch < 24 → chanState t ch = if chanState s ch = 3 then 0 else chanState s ch) ∧
        (CalItem.gnssFe ∈ s.cal.pend → getB t Reg.GNSS_EVENTS_CAL_APPLIED = true) ∧
        (held < minSv s ∨ mode = 0 → getB t Reg.GNSS_STATUS_SOL_VALID = false ∧ t.gnss.ofs = none) ∧
        (minSv s ≤ held → mode ≠ 0 → getB t Reg.GNSS_STATUS_SOL_VALID = getB s Reg.GNSS_STATUS_SOL_VALID)) ∧
      (∀ m : ChanMeas, m.ch < 24 → (chanState s m.ch = 1 ∨ chanState s m.ch = 2) →
        let o := gnssChan s m.ch
        Completes (exec (.codeEpoch [m]) s) fun t =>
          getF t (Reg.CH_CH_STATUS_CN0 m.ch) = m.cn0 % 256 ∧ (getF t (Reg.CH_DOPPLER m.ch) : Int) = m.doppler % 2 ^ 32 ∧
          chanFlag t m.ch 4 = m.bitSync ∧ chanFlag t m.ch 5 = m.frameSync ∧ chanFlag t m.ch 3 = m.halfCycle ∧
          (gnssChan t m.ch).corr = m.corr ∧ (gnssChan t m.ch).trackMs = o.trackMs + 1 ∧
          (gnssChan t m.ch).lockMs = (if m.lock then o.lockMs + 1 else 0) ∧ (gnssChan t m.ch).openMs = (if m.lock then 0 else o.openMs + 1) ∧
          (gnssChan t m.ch).lowMs = if m.cn0 < 4 * getF s Reg.GNSS_TRK_CFG_LOSS_CN0 then o.lowMs + 1 else 0) ∧
      (∀ f : Fit, usable f → (∀ e ∈ f.res, e.2.natAbs ≤ thr) →
        (minSv s ≤ f.res.length → 1 ≤ f.res.length → mode ≠ 0 →
          Completes (exec (.gnssSolution [f]) s) fun t =>
            frame t ∧ getB t Reg.GNSS_STATUS_SOL_VALID = true ∧ getF t Reg.GNSS_STATUS_SV_USED = f.res.length % 32 ∧
            (∀ e ∈ f.res, chanFlag t e.1 1 = true ∧ chanFlag t e.1 0 = false) ∧
            (gnssStale s = true → t.gnss.ofs = s.gnss.ofs) ∧
            (gnssStale s = false →
              t.gnss.ofs = some (ofs f) ∧
              ∀ n, n < 8 → slotEn s n = true → slotType s n = 2 → slotIndex s n = 0 →
                ∃ v, (slotS t n).meas = some v ∧ v.ofs = ofs f ∧ v.freq = f.rate) ∧
            (mode = 1 → 0 < getF s Reg.GNSS_SURVEY_LEFT →
              getF t Reg.GNSS_SURVEY_LEFT = getF s Reg.GNSS_SURVEY_LEFT - 1 ∧ t.gnss.fixes = s.gnss.fixes + 1)) ∧
        (f.res.length < minSv s ∨ mode = 0 →
          Completes (exec (.gnssSolution [f]) s) fun t => frame t ∧ getB t Reg.GNSS_STATUS_SOL_VALID = false ∧ t.gnss.ofs = none)) ∧
      (∀ (f g : Fit) e, usable f → e ∈ f.res → thr < e.2.natAbs → (∀ x ∈ f.res, x ≠ e → x.2.natAbs < e.2.natAbs) →
        getF s Reg.GNSS_SOL_CFG_MIN_SV < f.res.length →
        Completes (exec (.gnssSolution [f, g]) s) fun t =>
          frame t ∧ getB t Reg.GNSS_EVENTS_SV_EXCLUDED = true ∧ chanFlag t e.1 0 = true ∧ chanFlag t e.1 1 = false) ∧
      (Completes (exec (.gnssSolution []) s) fun t =>
        frame t ∧ getB t Reg.GNSS_STATUS_SOL_VALID = false ∧ t.gnss.ofs = none ∧
        (getB s Reg.GNSS_STATUS_SOL_VALID = true → getB t Reg.GNSS_EVENTS_SOL_LOST = true))) ∧
  (∀ s : State, gnssRuns s = true →
      let surveyed := getF s Reg.GNSS_STATUS_POS_MODE = 1 ∧ getF s Reg.GNSS_SURVEY_LEFT = 0 ∧ 0 < s.gnss.fixes
      let u := runToRaw s
      let count := (chanNos.filter (fun ch => decide (chanState s ch = 2))).length
      (∀ x y z, surveyed → (∀ c ∈ [(s.gnss.fixSum.1, x), (s.gnss.fixSum.2.1, y), (s.gnss.fixSum.2.2, z)], (s.gnss.fixes * c.2 - c.1).natAbs < s.gnss.fixes) →
        Completes (exec (.surveyDone x y z) s) fun t =>
        Frame [.regs, .mode, .clk, .tim, .sel, .ports, .gauges, .gnss, .cal, .out, .freeCtr] [.clk, .dll, .time, .ref, .slot, .port, .gnss, .eng, .cal] s t ∧
        t.gnss.pos = (x, y, z) ∧ t.gnss.posHeld = true ∧ getF t Reg.GNSS_STATUS_POS_MODE = 2 ∧ getB t Reg.GNSS_EVENTS_SURVEY_DONE = true ∧
        (getHL t Reg.GNSS_POS_X_HI Reg.GNSS_POS_X_LO : Int) = x % 2 ^ 64) ∧
      (∀ x y z, (¬ surveyed ∨ s.gnss.fixes ≤ (s.gnss.fixes * x - s.gnss.fixSum.1).natAbs) → Completes (exec (.surveyDone x y z) s) fun t => t = s) ∧
      (∀ rs, 0 < count → rawFill s + 1 + count ≤ 200 →
        Completes (exec (.rawEpoch rs) s) fun t =>
          TimeFrame [.gnss] [] s t ∧ s.now ≤ t.now ∧ t.gnss.epochSeq = s.gnss.epochSeq + 1 ∧ t.gnss.stepped = false ∧
          (latched u rs).length = count ∧
          t.gnss.raw = s.gnss.raw ++ [rawHeader u count :: (latched u rs).map (rawChanWords u)]) ∧
      (∀ rs, 0 < count → 200 < rawFill s + 1 + count →
        Completes (exec (.rawEpoch rs) s) fun t =>
          TimeFrame [.gnss] [.gnss] s t ∧ t.gnss.epochSeq = s.gnss.epochSeq + 1 ∧ t.gnss.raw = s.gnss.raw ∧
          getF t Reg.GNSS_RAW_DROP = (getF s Reg.GNSS_RAW_DROP + 1) % 2 ^ 32 ∧ getB t Reg.GNSS_EVENTS_RAW_DROP = true) ∧
      (∀ rs, count = 0 → Completes (exec (.rawEpoch rs) s) fun t => t = s))

/-- The engines' arithmetic, logic, shifts and constants (R263, R266, R267): each writes Wd with its result and the flags it names, keeps every
other register and flag, and goes on at the next address; CMP writes flags alone; the C of a subtraction is left open. The engines'
multiplies, accumulators and data RAM (R263, R267): a product replaces or enters the accumulator named by bit 0 of d, with V on overflow of
48 bits; ACCX saturates; LD and ST reach the data address and no other. -/
def Obligations.EngineArithmetic : Prop :=
  (∀ (e : Nat) (d a b : BitVec 4) (k : BitVec 8) (s : State), EngReady e s →
      let x := uw s e a
      let y := uw s e b
      let w := uw s e d
      let f := uflags s e
      let n := y.toNat % 32
      let wide := fun (v : Int) => decide (v < -131072 ∨ 131071 < v)
      let near := fun (v : Int) => BitVec.ofInt 18 (max (-131072) (min 131071 v))
      let sx := k.signExtend 18
      let gives := fun (i : Instr) (r : EWord) (g : UFlags) =>
        Completes (exec i s) fun t => Retires e ((engS s e).pc + 1) s t ∧ OnlyW e (some d) s t ∧ uw t e d = r ∧ uflags t e = g
      let zn := fun (r : EWord) (c v : Bool) => (⟨decide (r = 0), r.msb, c, v⟩ : UFlags)
      gives (.ueAdd e d a b) (x + y) (zn (x + y) (decide (2 ^ 18 ≤ x.toNat + y.toNat)) (wide (x.toInt + y.toInt))) ∧
      gives (.ueSub e d a b) (x - y) (zn (x - y) (Config.subCarry x y) (wide (x.toInt - y.toInt))) ∧
      gives (.ueAdds e d a b) (near (x.toInt + y.toInt)) (zn (near (x.toInt + y.toInt)) f.c (wide (x.toInt + y.toInt))) ∧
      gives (.ueSubs e d a b) (near (x.toInt - y.toInt)) (zn (near (x.toInt - y.toInt)) f.c (wide (x.toInt - y.toInt))) ∧
      gives (.ueAnd e d a b) (x &&& y) (zn (x &&& y) f.c f.v) ∧
      gives (.ueOr e d a b) (x ||| y) (zn (x ||| y) f.c f.v) ∧
      gives (.ueXor e d a b) (x ^^^ y) (zn (x ^^^ y) f.c f.v) ∧
      (let r := BitVec.ofNat 18 (x.toNat * 2 ^ n); gives (.ueShl e d a b) r (zn r f.c f.v)) ∧
      (let r := BitVec.ofNat 18 (x.toNat / 2 ^ n); gives (.ueShr e d a b) r (zn r f.c f.v)) ∧
      (let r := BitVec.ofInt 18 (x.toInt / 2 ^ n); gives (.ueSar e d a b) r (zn r f.c f.v)) ∧
      gives (.ueLdi e d k) sx f ∧
      gives (.ueLim e d k) (BitVec.ofNat 18 (w.toNat / 65536 * 65536 + k.toNat * 256 + w.toNat % 256)) f ∧
      gives (.ueLit e d k) (BitVec.ofNat 18 (k.toNat % 4 * 65536 + w.toNat % 65536)) f ∧
      gives (.ueAddi e d k) (w + sx) (zn (w + sx) (decide (2 ^ 18 ≤ w.toNat + sx.toNat)) (wide (w.toInt + sx.toInt))) ∧
      (let r := BitVec.ofNat 18 (w.toNat * 2 ^ k.toNat); gives (.ueShli e d k) r (zn r f.c f.v)) ∧
      (let r := BitVec.ofInt 18 (w.toInt / 2 ^ k.toNat); gives (.ueSari e d k) r (zn r f.c f.v)) ∧
      (Completes (exec (.ueCmp e d a b) s) fun t =>
        Retires e ((engS s e).pc + 1) s t ∧ OnlyW e none s t ∧ uflags t e = zn (x - y) (Config.subCarry x y) (wide (x.toInt - y.toInt))) ∧
      (Completes (exec (.engineNop e) s) fun t => Retires e ((engS s e).pc + 1) s t ∧ OnlyW e none s t ∧ uflags t e = f)) ∧
  (∀ (e : Nat) (d a b : BitVec 4) (s : State), EngReady e s →
      let x := uw s e a
      let y := uw s e b
      let f := uflags s e
      let at_ := (x.toNat + b.toNat) % 8192
      let ovf := fun (v : Int) => decide (v < -2 ^ 47 ∨ 2 ^ 47 ≤ v)
      let base := fun (t : State) => Retires e ((engS s e).pc + 1) s t
      let acc := fun (i : Instr) (v : Int) (g : UFlags) =>
        Completes (exec i s) fun t =>
          base t ∧ (∀ k, uw t e k = uw s e k) ∧ ua t e d = BitVec.ofInt 48 v ∧ (∀ k, k.toNat % 2 ≠ d.toNat % 2 → ua t e k = ua s e k) ∧ uflags t e = g
      let adds := fun (i : Instr) (v : Int) => acc i ((ua s e d).toInt + v) { f with v := ovf ((ua s e d).toInt + v) }
      acc (.ueMul e d a b) (x.toInt * y.toInt) f ∧
      adds (.ueMac e d a b) (x.toInt * y.toInt) ∧
      adds (.ueMsu e d a b) (-(x.toInt * y.toInt)) ∧
      acc (.ueMulu e d a b) (x.toNat * y.toNat : Nat) f ∧
      adds (.ueMacu e d a b) (x.toNat * y.toNat : Nat) ∧
      acc (.ueAccl e d a b) (x.toInt * 2 ^ 18 + y.toNat) f ∧
      acc (.ueAsra e d a b) ((ua s e d).toInt / 2 ^ b.toNat) f ∧
      adds (.ueAcca e d a b) (ua s e a).toInt ∧
      (let v := (ua s e a).toInt / 2 ^ (2 * b.toNat)
       Completes (exec (.ueAccx e d a b) s) fun t =>
        base t ∧ OnlyW e (some d) s t ∧ uw t e d = BitVec.ofInt 18 (max (-131072) (min 131071 v)) ∧
        uflags t e = { f with v := decide (v < -131072 ∨ 131071 < v) }) ∧
      (Completes (exec (.ueLd e d a b) s) fun t =>
        base t ∧ OnlyW e (some d) s t ∧ uw t e d = memGet (engS s e).dram at_ ∧ (engS t e).dram = (engS s e).dram ∧ uflags t e = f) ∧
      (Completes (exec (.ueSt e d a b) s) fun t =>
        base t ∧ OnlyW e none s t ∧ uflags t e = f ∧ ∀ k, memGet (engS t e).dram k = if k = at_ then uw s e d else memGet (engS s e).dram k))

/-- IN and OUT (R268 to R270, R272): a port gives its word to Wd, VAL2 latching the object SEL names, a denied one as zero and counted; OUT sets
SEL, the mailbox, the staged trims, the timer and the interrupt code; only the owner commits; a bad port halts. -/
def Obligations.EnginePorts : Prop :=
  ∀ (e : Nat) (d : BitVec 4) (s : State), EngReady e s →
    let o := engS s e
    let x := uw s e d
    let base := fun (t : State) => Retires e (o.pc + 1) s t ∧ uflags t e = uflags s e
    let reads := fun (port : BitVec 8) (v : EWord) =>
      Completes (exec (.ueIn e d port) s) fun t => base t ∧ OnlyW e (some d) s t ∧ uw t e d = v ∧ (port ≠ 5 → (engS t e).ev = o.ev)
    let outs := fun (i : Instr) (P : State → Prop) => Completes (exec i s) fun t => base t ∧ OnlyW e none s t ∧ P t
    reads 0 o.sel ∧ reads 2 (o.latch.extractLsb' 18 18) ∧ reads 3 (o.latch.extractLsb' 0 18) ∧ reads 4 (o.ev.setWidth 18) ∧
    reads 5 (BitVec.ofNat 18 (getF s (Reg.UE_MBOX_IN e))) ∧ reads 6 (BitVec.ofNat 18 e) ∧ reads 7 (BitVec.ofNat 18 (engCycle s)) ∧
    reads 8 (BitVec.ofNat 18 ((steerOwner s e).toNat * 2 + getF s Reg.ENG_STEER_STATUS_ACCEPTED)) ∧
    (Completes (exec (.ueIn e d 5) s) fun t => (engS t e).ev.getLsbD 2 = false ∧ (engS t e).mboxNew = false) ∧
    (∀ v, selObject s e (o.sel.toNat / 4096) (o.sel.toNat % 4096) = some v →
      Completes (exec (.ueIn e d 1) s) fun t =>
        base t ∧ (engS t e).latch = BitVec.ofInt 54 v ∧ uw t e d = (BitVec.ofInt 54 v).extractLsb' 36 18) ∧
    (selObject s e (o.sel.toNat / 4096) (o.sel.toNat % 4096) = none →
      Completes (exec (.ueIn e d 1) s) fun t =>
        base t ∧ uw t e d = 0 ∧ (engS t e).latch = 0 ∧ getF t (Reg.UE_DENIED_RD e) = (getF s (Reg.UE_DENIED_RD e) + 1) % 2 ^ 32) ∧
    (∀ p : BitVec 8, 8 < p.toNat → Completes (exec (.ueIn e d p) s) fun t => HaltsOn e 2 s t) ∧
    (outs (.ueOutSel e d) fun t => (engS t e).sel = x) ∧
    (o.mboxOut.length < 16 → outs (.ueOutMboxOut e d) fun t => (engS t e).mboxOut = o.mboxOut ++ [x]) ∧
    (16 ≤ o.mboxOut.length → outs (.ueOutMboxOut e d) fun t => (engS t e).mboxOut = o.mboxOut ∧ getB t Reg.ENG_EVENTS_MBOX_OUT_OVR = true) ∧
    (outs (.ueOutTrimStage e d 0x82) fun t => (engS t e).ftStage = x ++ o.ftStage.extractLsb' 0 18) ∧
    (outs (.ueOutTrimStage e d 0x83) fun t => (engS t e).ftStage = o.ftStage.extractLsb' 18 18 ++ x) ∧
    (outs (.ueOutTrimStage e d 0x85) fun t => (engS t e).ptStage = x ++ o.ptStage.extractLsb' 0 18) ∧
    (outs (.ueOutTrimStage e d 0x86) fun t => (engS t e).ptStage = o.ptStage.extractLsb' 18 18 ++ x) ∧
    (∀ p : BitVec 8, (p.toNat < 0x80 ∨ 0x89 < p.toNat) → Completes (exec (.ueOutTrimStage e d p) s) fun t => HaltsOn e 2 s t) ∧
    (steerOwner s e = true →
      (outs (.ueFtrimCommit e d) fun t => t.engs.ftrim = (o.ftStage ++ x).toInt ∧ t.engs.ptrim = s.engs.ptrim) ∧
      (outs (.uePtrimCommit e d) fun t => t.engs.ptrim = (o.ptStage ++ x).toInt ∧ t.engs.ftrim = s.engs.ftrim)) ∧
    (steerOwner s e = false →
      (outs (.ueFtrimCommit e d) fun t => getB t Reg.ENG_EVENTS_STEER_IGNORED = true ∧ t.engs.ftrim = s.engs.ftrim) ∧
      (outs (.uePtrimCommit e d) fun t => getB t Reg.ENG_EVENTS_STEER_IGNORED = true ∧ t.engs.ptrim = s.engs.ptrim)) ∧
    (outs (.ueOutTimer e d) fun t => (engS t e).timer = x.toNat) ∧
    (outs (.ueOutIrq e d) fun t =>
      getF t Reg.ENG_IRQ_CODE_ENGINE = e ∧ getF t Reg.ENG_IRQ_CODE_CODE = x.toNat ∧ getB t Reg.ENG_EVENTS_USER_IRQ = true)

/-- Branches, CALL, RET, HALT, MARK, WAIT and its wake (R266, R267, R270, R271): the next address by the flags; a stack of 16; WAIT stalls until
an event of its mask is pending and clears it. WAIT_WAKE, ENGINE_TIMER_EXPIRY, USER_WATCHDOG_EXPIRY, STEER_TIMEOUT, COUNTER_WRAP (R268,
R270, R271, R274, R280): a waiting engine goes on when an event of its mask is pending; a timer's end is event 4; the watchdog halts; a
silent owner loses its trims; a counter wraps. Every instruction of an engine (R264, R266, R267, R271): an engine that does not issue does
nothing; a fetched word with an illegal OP halts it on ILLEGAL_OP with its registers as they were. -/
def Obligations.EngineControl : Prop :=
  (∀ (e : Nat) (p : BitVec 12) (m : BitVec 8) (s : State), EngReady e s →
      let o := engS s e
      let keep := fun (t : State) => OnlyW e none s t ∧ uflags t e = uflags s e
      let goes := fun (i : Instr) (c : Bool) => Completes (exec i s) fun t => Retires e (if c then p else o.pc + 1) s t ∧ keep t ∧ (engS t e).stack = o.stack
      goes (.ueJ e p) true ∧ goes (.ueBz e p) o.z ∧ goes (.ueBnz e p) (!o.z) ∧ goes (.ueBlt e p) (o.n != o.v) ∧ goes (.ueBge e p) (o.n == o.v) ∧
      (o.stack.length < 16 →
        Completes (exec (.ueCall e p) s) fun t => Retires e p s t ∧ keep t ∧ (engS t e).stack = (o.pc + 1) :: o.stack) ∧
      (16 ≤ o.stack.length → Completes (exec (.ueCall e p) s) fun t => HaltsOn e 3 s t) ∧
      (∀ q r, o.stack = q :: r → Completes (exec (.ueRet e) s) fun t => Retires e q s t ∧ keep t ∧ (engS t e).stack = r) ∧
      (o.stack = [] → Completes (exec (.ueRet e) s) fun t => HaltsOn e 3 s t) ∧
      (Completes (exec (.ueHalt e) s) fun t =>
        Frame [.regs, .clk, .tim, .engs, .out, .freeCtr] [.clk, .eng, .ue, .perf] s t ∧ engRunning t e = false ∧ getB t (Reg.UE_ENG_STATUS_HALTED e) = true ∧ keep t ∧ (engS t e).retired = o.retired + 1 ∧
        (steerOwner s e = true → t.engs.ftrim = 0 ∧ t.engs.ptrim = 0)) ∧
      (Completes (exec (.ueMark e m) s) fun t =>
        Retires e (o.pc + 1) s t ∧ keep t ∧ (engS t e).sinceMark = 0 ∧ spGet? (engS t e).marks m.toNat = some (engCycle s)) ∧
      (o.ev &&& m ≠ 0 → Completes (exec (.ueWait e m) s) fun t => Retires e (o.pc + 1) s t ∧ keep t ∧ (engS t e).ev = o.ev &&& ~~~m) ∧
      (o.ev &&& m = 0 →
        Completes (exec (.ueWait e m) s) fun t =>
          Frame [.engs] [] s t ∧ (engS t e).wait = some m ∧ (engS t e).pc = o.pc ∧ (engS t e).retired = o.retired ∧ engIssues t e = false)) ∧
  (∀ s : State,
      (∀ e m, e < 16 → powered s .eng = true → engRunning s e = true → (engS s e).wait = some m →
        ((engS s e).ev &&& m ≠ 0 →
          Completes (exec (.waitWake e) s) fun t =>
            Retires e ((engS s e).pc + 1) s t ∧ (engS t e).wait = none ∧ (engS t e).ev = (engS s e).ev &&& ~~~m ∧ OnlyW e none s t) ∧
        ((engS s e).ev &&& m = 0 → Completes (exec (.waitWake e) s) fun t => t = s)) ∧
      (∀ e, e < 16 → (engS s e).timer = 1 →
        Completes (exec (.engineTimerExpiry e) s) fun t =>
          Frame [.engs] [] s t ∧ (engS t e).timer = 0 ∧ (engS t e).ev = (engS s e).ev ||| 0x10 ∧ ∀ k, k ≠ e → engS t k = engS s k) ∧
      (∀ e, e < 16 → (engS s e).timer ≠ 1 → Completes (exec (.engineTimerExpiry e) s) fun t => t = s) ∧
      (∀ e, 12 ≤ e → e < 16 → engRunning s e = true → getF s (Reg.UE_ENG_CFG_WDT_MS e) ≠ 0 →
        getF s (Reg.UE_ENG_CFG_WDT_MS e) ≤ (engS s e).sinceMark → Completes (exec (.userWatchdogExpiry e) s) fun t => HaltsOn e 4 s t) ∧
      (∀ e, 12 ≤ e → e < 16 →
        (engRunning s e = false ∨ getF s (Reg.UE_ENG_CFG_WDT_MS e) = 0 ∨ (engS s e).sinceMark < getF s (Reg.UE_ENG_CFG_WDT_MS e)) →
        Completes (exec (.userWatchdogExpiry e) s) fun t => t = s) ∧
      (powered s .eng = true → 4 ≤ getF s Reg.ENG_STEER_CFG_OWNER → getF s Reg.ENG_STEER_CFG_TMO_MS ≤ s.engs.sinceCommit →
        Completes (exec .steerTimeout s) fun t =>
          Frame [.regs, .clk, .tim, .engs, .out] [.clk, .eng] s t ∧ t.engs.ftrim = 0 ∧ t.engs.ptrim = 0 ∧ t.engs.sinceCommit = 0 ∧
          getB t Reg.ENG_EVENTS_STEER_TIMEOUT = true) ∧
      ((powered s .eng = false ∨ getF s Reg.ENG_STEER_CFG_OWNER < 4 ∨ s.engs.sinceCommit < getF s Reg.ENG_STEER_CFG_TMO_MS) →
        Completes (exec .steerTimeout s) fun t => t = s) ∧
      (∀ n, n < 128 → getB s Reg.PERF_PERF_CTRL_FREEZE = false → cntErr s n = false → getF s (Reg.CNT_CNT_CFG_EVENT n) ≠ 0 →
        powered s .eng = true →
        Completes (exec (.counterWrap n) s) fun t =>
          Frame [.regs, .out] [.perf] s t ∧ getHL t (Reg.CNT_VALUE_HI n) (Reg.CNT_VALUE_LO n) = 0 ∧
          getB t ⟨(Reg.PERF_OVF (n / 32)).addr, n % 32, 1⟩ = true) ∧
      (∀ n, n < 128 → getB s Reg.PERF_PERF_CTRL_FREEZE = true → Completes (exec (.counterWrap n) s) fun t => t = s)) ∧
  (∀ (e : Nat) (d a b : BitVec 4) (k : BitVec 8) (p : BitVec 12) (s : State), e < 16 →
      let cmds : List Instr := [.engineNop e, .ueAdd e d a b, .ueSub e d a b, .ueAdds e d a b, .ueSubs e d a b, .ueAnd e d a b, .ueOr e d a b,
        .ueXor e d a b, .ueShl e d a b, .ueShr e d a b, .ueSar e d a b, .ueCmp e d a b, .ueMul e d a b, .ueMac e d a b, .ueMsu e d a b,
        .ueMulu e d a b, .ueMacu e d a b, .ueAccx e d a b, .ueAccl e d a b, .ueAsra e d a b, .ueAcca e d a b, .ueLd e d a b, .ueSt e d a b,
        .ueLdi e d k, .ueLim e d k, .ueLit e d k, .ueAddi e d k, .ueShli e d k, .ueSari e d k, .ueIn e d k, .ueOutSel e d, .ueOutMboxOut e d,
        .ueOutTrimStage e d k, .ueFtrimCommit e d, .uePtrimCommit e d, .ueOutTimer e d, .ueOutIrq e d, .ueWait e k, .ueMark e k, .ueJ e p,
        .ueBz e p, .ueBnz e p, .ueBlt e p, .ueBge e p, .ueCall e p, .ueRet e, .ueHalt e]
      (engIssues s e = false → ∀ i ∈ cmds, Completes (exec i s) fun t => t = s) ∧
      (engIssues s e = true → UInstr.decode (memGet (engS s e).iram (engS s e).pc.toNat) = none →
        ∀ i ∈ cmds, Completes (exec i s) fun t => HaltsOn e 1 s t ∧ OnlyW e none s t ∧ (engS t e).pc = (engS s e).pc))
end

