-- ==== Sys2Proof/Laws/Sparse.lean ====
section
/-! SUPPORT. Laws of the sparse memories: a read after a write, and the canonical form that every operation keeps. -/

namespace Sys2Proof.Machine

variable {α : Type}

theorem spGet?_spIns_same (l : List (Nat × α)) (k : Nat) (v : α) : spGet? (spIns l k v) k = some v := by
  induction l with
  | nil => simp [spIns, spGet?]
  | cons e r ih =>
    obtain ⟨a, x⟩ := e
    simp only [spIns]
    split
    · simp [spGet?]
    · split
      · simp [spGet?]
      · rename_i h1 h2; simp [spGet?, ih]; intro h; omega

theorem spGet?_spIns_ne (l : List (Nat × α)) {k j : Nat} (v : α) (h : j ≠ k) : spGet? (spIns l k v) j = spGet? l j := by
  induction l with
  | nil => simp [spIns, spGet?, Ne.symm h]
  | cons e r ih =>
    obtain ⟨a, x⟩ := e
    simp only [spIns]
    split
    · simp [spGet?, Ne.symm h]
    · split
      · rename_i h2; subst h2; simp [spGet?, Ne.symm h]
      · simp [spGet?, ih]

theorem spGet?_spDel_same (l : List (Nat × α)) (k : Nat) : spGet? (spDel l k) k = none := by
  induction l with
  | nil => rfl
  | cons e r ih =>
    obtain ⟨a, x⟩ := e
    simp only [spDel]
    split
    · exact ih
    · rename_i h; simp [spGet?, h, ih]

theorem spGet?_spDel_ne (l : List (Nat × α)) {k j : Nat} (h : j ≠ k) : spGet? (spDel l k) j = spGet? l j := by
  induction l with
  | nil => rfl
  | cons e r ih =>
    obtain ⟨a, x⟩ := e
    simp only [spDel]
    split
    · rename_i h2; subst h2; simp [spGet?, Ne.symm h, ih]
    · simp [spGet?, ih]

theorem spDel_eq_filter (l : List (Nat × α)) (k : Nat) : spDel l k = l.filter (fun e => decide (e.1 ≠ k)) := by
  induction l with
  | nil => rfl
  | cons e r ih =>
    obtain ⟨a, x⟩ := e
    simp only [spDel, List.filter_cons]
    split
    · rename_i h; simp [h, ih]
    · rename_i h; simp [h, ih]

/-! ### Lists of like things -/

theorem listUpd_getD_nil_same (i : Nat) (f : α → α) (d : α) : (listUpd d [] i f).getD i d = f d := by
  induction i with
  | zero => rfl
  | succ i ih => simpa [listUpd] using ih

theorem listUpd_getD_nil_ne {i j : Nat} (f : α → α) (d : α) (h : j ≠ i) : (listUpd d [] i f).getD j d = d := by
  induction i generalizing j with
  | zero => cases j with
    | zero => exact absurd rfl h
    | succ j => rfl
  | succ i ih => cases j with
    | zero => rfl
    | succ j => simpa [listUpd] using ih (j := j) (by omega)

/-- A change at an index reads back. -/
theorem listUpd_getD_same (l : List α) (i : Nat) (f : α → α) (d : α) : (listUpd d l i f).getD i d = f (l.getD i d) := by
  induction l generalizing i with
  | nil => exact listUpd_getD_nil_same i f d
  | cons x r ih =>
    cases i with
    | zero => rfl
    | succ i => simpa [listUpd] using ih i

/-- It leaves every other index alone. -/
theorem listUpd_getD_ne (l : List α) {i j : Nat} (f : α → α) (d : α) (h : j ≠ i) : (listUpd d l i f).getD j d = l.getD j d := by
  induction l generalizing i j with
  | nil => exact listUpd_getD_nil_ne f d h
  | cons x r ih =>
    cases i with
    | zero => cases j with
      | zero => exact absurd rfl h
      | succ j => rfl
    | succ i => cases j with
      | zero => rfl
      | succ j => simpa [listUpd] using ih (by omega)

/-! ### Defaults and the canonical form -/

variable [DecidableEq α]

/-- A read after a write of the same key gives the value written. -/
theorem spGet?_spPut_same (d : Nat → α) (l : List (Nat × α)) (k : Nat) (v : α) : (spGet? (spPut d l k v) k).getD (d k) = v := by
  unfold spPut
  split
  · rename_i h; simp [spGet?_spDel_same, h]
  · simp [spGet?_spIns_same]

/-- A write leaves every other key alone. -/
theorem spGet?_spPut_ne (d : Nat → α) (l : List (Nat × α)) {k j : Nat} (v : α) (h : j ≠ k) :
    spGet? (spPut d l k v) j = spGet? l j := by
  unfold spPut
  split
  · exact spGet?_spDel_ne l h
  · exact spGet?_spIns_ne l v h

theorem spWfFrom_mono (d : Nat → α) {b c : Nat} (h : b ≤ c) (l : List (Nat × α)) (w : spWfFrom d c l = true) : spWfFrom d b l = true := by
  cases l with
  | nil => rfl
  | cons e r => obtain ⟨a, x⟩ := e; simp [spWfFrom] at w ⊢; exact ⟨⟨by omega, w.1.2⟩, w.2⟩

theorem spWfFrom_spIns (d : Nat → α) {b k : Nat} {v : α} (hb : b ≤ k) (hv : v ≠ d k) (l : List (Nat × α)) (w : spWfFrom d b l = true) :
    spWfFrom d b (spIns l k v) = true := by
  induction l generalizing b with
  | nil => simp [spIns, spWfFrom, hb, hv]
  | cons e r ih =>
    obtain ⟨a, x⟩ := e
    simp [spWfFrom] at w
    simp only [spIns]
    split
    · rename_i h; simp [spWfFrom, hb, hv, w]; omega
    · split
      · rename_i h; subst h; simp [spWfFrom, hb, hv, w]
      · rename_i h1 h2; simp [spWfFrom, w]; exact ih (by omega) w.2

theorem spWfFrom_filter (d : Nat → α) (p : Nat × α → Bool) (b : Nat) (l : List (Nat × α)) (w : spWfFrom d b l = true) :
    spWfFrom d b (l.filter p) = true := by
  induction l generalizing b with
  | nil => rfl
  | cons e r ih =>
    obtain ⟨a, x⟩ := e
    simp [spWfFrom] at w
    simp only [List.filter_cons]
    split
    · simp [spWfFrom, w]; exact ih _ w.2
    · exact spWfFrom_mono d (by omega) _ (ih _ w.2)

/-- A write keeps the canonical form. -/
theorem spWf_spPut (d : Nat → α) {l : List (Nat × α)} (k : Nat) (v : α) (w : spWf d l = true) : spWf d (spPut d l k v) = true := by
  unfold spPut
  split
  · rw [spDel_eq_filter]; exact spWfFrom_filter d _ 0 l w
  · rename_i h; exact spWfFrom_spIns d (Nat.zero_le _) h l w

theorem spWf_filter (d : Nat → α) (p : Nat × α → Bool) {l : List (Nat × α)} (w : spWf d l = true) : spWf d (l.filter p) = true :=
  spWfFrom_filter d p 0 l w

variable {n : Nat}

/-- A word memory reads what was written. -/
theorem memGet_memPut_same (l : List (Nat × BitVec n)) (k : Nat) (v : BitVec n) : memGet (memPut l k v) k = v :=
  spGet?_spPut_same (fun _ => 0) l k v

/-- A write to a word memory leaves every other address alone. -/
theorem memGet_memPut_ne (l : List (Nat × BitVec n)) {k j : Nat} (v : BitVec n) (h : j ≠ k) : memGet (memPut l k v) j = memGet l j := by
  unfold memGet memPut; rw [spGet?_spPut_ne _ _ _ h]

theorem memWf_memPut {l : List (Nat × BitVec n)} (k : Nat) (v : BitVec n) (w : spWf (fun _ => (0 : BitVec n)) l = true) :
    spWf (fun _ => (0 : BitVec n)) (memPut l k v) = true := spWf_spPut _ k v w

theorem memWf_memPutList (vs : List (BitVec n)) {l : List (Nat × BitVec n)} (k : Nat)
    (w : spWf (fun _ => (0 : BitVec n)) l = true) : spWf (fun _ => (0 : BitVec n)) (memPutList l k vs) = true := by
  induction vs generalizing l k with
  | nil => exact w
  | cons v r ih => exact ih (k + 1) (memWf_memPut k v w)

/-- Outside the words written a block write leaves a word memory alone. -/
theorem memGet_memPutList_out (vs : List (BitVec n)) (l : List (Nat × BitVec n)) {k j : Nat} (h : j < k ∨ k + vs.length ≤ j) :
    memGet (memPutList l k vs) j = memGet l j := by
  induction vs generalizing l k with
  | nil => rfl
  | cons v r ih =>
    simp only [memPutList, List.length_cons] at h ⊢
    rw [ih (memPut l k v) (by omega), memGet_memPut_ne l v (by omega)]

/-- Word `i` of a block write is read back. -/
theorem memGet_memPutList_in (vs : List (BitVec n)) (l : List (Nat × BitVec n)) (k : Nat) {i : Nat} (h : i < vs.length) :
    memGet (memPutList l k vs) (k + i) = vs[i] := by
  induction vs generalizing l k i with
  | nil => simp at h
  | cons v r ih =>
    simp only [memPutList]
    cases i with
    | zero => rw [memGet_memPutList_out r _ (by omega)]; simpa using memGet_memPut_same l k v
    | succ i => have := ih (memPut l k v) (k + 1) (i := i) (by simpa using h); simpa [Nat.add_assoc, Nat.add_comm 1 i] using this

end Sys2Proof.Machine
end

