-- ==== Sys2Proof/Laws/State.lean ====
section
/-! SUPPORT. What each primitive update of the state leaves alone: one lemma per field per update. `setWord`, `setF`, `setB`, `emit`, `draw`
and the updates of a substate by index; `raise` and `raiseIf`, which touch the bank and the boundary record. -/

namespace Sys2Proof.Machine

@[simp] theorem setWord_pending (s : State) (a : Nat) (v : Word) : (setWord s a v).pending = s.pending := rfl
@[simp] theorem setWord_staged (s : State) (a : Nat) (v : Word) : (setWord s a v).staged = s.staged := rfl
@[simp] theorem setWord_mode (s : State) (a : Nat) (v : Word) : (setWord s a v).mode = s.mode := rfl
@[simp] theorem setWord_power (s : State) (a : Nat) (v : Word) : (setWord s a v).power = s.power := rfl
@[simp] theorem setWord_powerTo (s : State) (a : Nat) (v : Word) : (setWord s a v).powerTo = s.powerTo := rfl
@[simp] theorem setWord_domains (s : State) (a : Nat) (v : Word) : (setWord s a v).domains = s.domains := rfl
@[simp] theorem setWord_calEntry (s : State) (a : Nat) (v : Word) : (setWord s a v).calEntry = s.calEntry := rfl
@[simp] theorem setWord_boot (s : State) (a : Nat) (v : Word) : (setWord s a v).boot = s.boot := rfl
@[simp] theorem setWord_image (s : State) (a : Nat) (v : Word) : (setWord s a v).image = s.image := rfl
@[simp] theorem setWord_cpUp (s : State) (a : Nat) (v : Word) : (setWord s a v).cpUp = s.cpUp := rfl
@[simp] theorem setWord_wakeS (s : State) (a : Nat) (v : Word) : (setWord s a v).wakeS = s.wakeS := rfl
@[simp] theorem setWord_idLoaded (s : State) (a : Nat) (v : Word) : (setWord s a v).idLoaded = s.idLoaded := rfl
@[simp] theorem setWord_boardSet (s : State) (a : Nat) (v : Word) : (setWord s a v).boardSet = s.boardSet := rfl
@[simp] theorem setWord_waking (s : State) (a : Nat) (v : Word) : (setWord s a v).waking = s.waking := rfl
@[simp] theorem setWord_collapsed (s : State) (a : Nat) (v : Word) : (setWord s a v).collapsed = s.collapsed := rfl
@[simp] theorem setWord_straps (s : State) (a : Nat) (v : Word) : (setWord s a v).straps = s.straps := rfl
@[simp] theorem setWord_otp (s : State) (a : Nat) (v : Word) : (setWord s a v).otp = s.otp := rfl
@[simp] theorem setWord_flash (s : State) (a : Nat) (v : Word) : (setWord s a v).flash = s.flash := rfl
@[simp] theorem setWord_pins (s : State) (a : Nat) (v : Word) : (setWord s a v).pins = s.pins := rfl
@[simp] theorem setWord_pcieUp (s : State) (a : Nat) (v : Word) : (setWord s a v).pcieUp = s.pcieUp := rfl
@[simp] theorem setWord_hb (s : State) (a : Nat) (v : Word) : (setWord s a v).hb = s.hb := rfl
@[simp] theorem setWord_hbAt (s : State) (a : Nat) (v : Word) : (setWord s a v).hbAt = s.hbAt := rfl
@[simp] theorem setWord_clk (s : State) (a : Nat) (v : Word) : (setWord s a v).clk = s.clk := rfl
@[simp] theorem setWord_tim (s : State) (a : Nat) (v : Word) : (setWord s a v).tim = s.tim := rfl
@[simp] theorem setWord_sel (s : State) (a : Nat) (v : Word) : (setWord s a v).sel = s.sel := rfl
@[simp] theorem setWord_ports (s : State) (a : Nat) (v : Word) : (setWord s a v).ports = s.ports := rfl
@[simp] theorem setWord_jieth (s : State) (a : Nat) (v : Word) : (setWord s a v).jieth = s.jieth := rfl
@[simp] theorem setWord_pair (s : State) (a : Nat) (v : Word) : (setWord s a v).pair = s.pair := rfl
@[simp] theorem setWord_fab (s : State) (a : Nat) (v : Word) : (setWord s a v).fab = s.fab := rfl
@[simp] theorem setWord_coarse (s : State) (a : Nat) (v : Word) : (setWord s a v).coarse = s.coarse := rfl
@[simp] theorem setWord_gauges (s : State) (a : Nat) (v : Word) : (setWord s a v).gauges = s.gauges := rfl
@[simp] theorem setWord_gnss (s : State) (a : Nat) (v : Word) : (setWord s a v).gnss = s.gnss := rfl
@[simp] theorem setWord_engs (s : State) (a : Nat) (v : Word) : (setWord s a v).engs = s.engs := rfl
@[simp] theorem setWord_cal (s : State) (a : Nat) (v : Word) : (setWord s a v).cal = s.cal := rfl
@[simp] theorem setWord_cmd (s : State) (a : Nat) (v : Word) : (setWord s a v).cmd = s.cmd := rfl
@[simp] theorem setWord_sec (s : State) (a : Nat) (v : Word) : (setWord s a v).sec = s.sec := rfl
@[simp] theorem setWord_aud (s : State) (a : Nat) (v : Word) : (setWord s a v).aud = s.aud := rfl
@[simp] theorem setWord_now (s : State) (a : Nat) (v : Word) : (setWord s a v).now = s.now := rfl
@[simp] theorem setWord_out (s : State) (a : Nat) (v : Word) : (setWord s a v).out = s.out := rfl
@[simp] theorem setWord_freeCtr (s : State) (a : Nat) (v : Word) : (setWord s a v).freeCtr = s.freeCtr := rfl

@[simp] theorem setWord_regs (s : State) (a : Nat) (v : Word) : (setWord s a v).regs = spPut wordReset s.regs a v := rfl

@[simp] theorem setF_pending (s : State) (g : Fld) (x : Nat) : (setF s g x).pending = s.pending := rfl
@[simp] theorem setF_staged (s : State) (g : Fld) (x : Nat) : (setF s g x).staged = s.staged := rfl
@[simp] theorem setF_mode (s : State) (g : Fld) (x : Nat) : (setF s g x).mode = s.mode := rfl
@[simp] theorem setF_power (s : State) (g : Fld) (x : Nat) : (setF s g x).power = s.power := rfl
@[simp] theorem setF_powerTo (s : State) (g : Fld) (x : Nat) : (setF s g x).powerTo = s.powerTo := rfl
@[simp] theorem setF_domains (s : State) (g : Fld) (x : Nat) : (setF s g x).domains = s.domains := rfl
@[simp] theorem setF_calEntry (s : State) (g : Fld) (x : Nat) : (setF s g x).calEntry = s.calEntry := rfl
@[simp] theorem setF_boot (s : State) (g : Fld) (x : Nat) : (setF s g x).boot = s.boot := rfl
@[simp] theorem setF_image (s : State) (g : Fld) (x : Nat) : (setF s g x).image = s.image := rfl
@[simp] theorem setF_cpUp (s : State) (g : Fld) (x : Nat) : (setF s g x).cpUp = s.cpUp := rfl
@[simp] theorem setF_wakeS (s : State) (g : Fld) (x : Nat) : (setF s g x).wakeS = s.wakeS := rfl
@[simp] theorem setF_idLoaded (s : State) (g : Fld) (x : Nat) : (setF s g x).idLoaded = s.idLoaded := rfl
@[simp] theorem setF_boardSet (s : State) (g : Fld) (x : Nat) : (setF s g x).boardSet = s.boardSet := rfl
@[simp] theorem setF_waking (s : State) (g : Fld) (x : Nat) : (setF s g x).waking = s.waking := rfl
@[simp] theorem setF_collapsed (s : State) (g : Fld) (x : Nat) : (setF s g x).collapsed = s.collapsed := rfl
@[simp] theorem setF_straps (s : State) (g : Fld) (x : Nat) : (setF s g x).straps = s.straps := rfl
@[simp] theorem setF_otp (s : State) (g : Fld) (x : Nat) : (setF s g x).otp = s.otp := rfl
@[simp] theorem setF_flash (s : State) (g : Fld) (x : Nat) : (setF s g x).flash = s.flash := rfl
@[simp] theorem setF_pins (s : State) (g : Fld) (x : Nat) : (setF s g x).pins = s.pins := rfl
@[simp] theorem setF_pcieUp (s : State) (g : Fld) (x : Nat) : (setF s g x).pcieUp = s.pcieUp := rfl
@[simp] theorem setF_hb (s : State) (g : Fld) (x : Nat) : (setF s g x).hb = s.hb := rfl
@[simp] theorem setF_hbAt (s : State) (g : Fld) (x : Nat) : (setF s g x).hbAt = s.hbAt := rfl
@[simp] theorem setF_clk (s : State) (g : Fld) (x : Nat) : (setF s g x).clk = s.clk := rfl
@[simp] theorem setF_tim (s : State) (g : Fld) (x : Nat) : (setF s g x).tim = s.tim := rfl
@[simp] theorem setF_sel (s : State) (g : Fld) (x : Nat) : (setF s g x).sel = s.sel := rfl
@[simp] theorem setF_ports (s : State) (g : Fld) (x : Nat) : (setF s g x).ports = s.ports := rfl
@[simp] theorem setF_jieth (s : State) (g : Fld) (x : Nat) : (setF s g x).jieth = s.jieth := rfl
@[simp] theorem setF_pair (s : State) (g : Fld) (x : Nat) : (setF s g x).pair = s.pair := rfl
@[simp] theorem setF_fab (s : State) (g : Fld) (x : Nat) : (setF s g x).fab = s.fab := rfl
@[simp] theorem setF_coarse (s : State) (g : Fld) (x : Nat) : (setF s g x).coarse = s.coarse := rfl
@[simp] theorem setF_gauges (s : State) (g : Fld) (x : Nat) : (setF s g x).gauges = s.gauges := rfl
@[simp] theorem setF_gnss (s : State) (g : Fld) (x : Nat) : (setF s g x).gnss = s.gnss := rfl
@[simp] theorem setF_engs (s : State) (g : Fld) (x : Nat) : (setF s g x).engs = s.engs := rfl
@[simp] theorem setF_cal (s : State) (g : Fld) (x : Nat) : (setF s g x).cal = s.cal := rfl
@[simp] theorem setF_cmd (s : State) (g : Fld) (x : Nat) : (setF s g x).cmd = s.cmd := rfl
@[simp] theorem setF_sec (s : State) (g : Fld) (x : Nat) : (setF s g x).sec = s.sec := rfl
@[simp] theorem setF_aud (s : State) (g : Fld) (x : Nat) : (setF s g x).aud = s.aud := rfl
@[simp] theorem setF_now (s : State) (g : Fld) (x : Nat) : (setF s g x).now = s.now := rfl
@[simp] theorem setF_out (s : State) (g : Fld) (x : Nat) : (setF s g x).out = s.out := rfl
@[simp] theorem setF_freeCtr (s : State) (g : Fld) (x : Nat) : (setF s g x).freeCtr = s.freeCtr := rfl

@[simp] theorem setB_pending (s : State) (g : Fld) (b : Bool) : (setB s g b).pending = s.pending := rfl
@[simp] theorem setB_staged (s : State) (g : Fld) (b : Bool) : (setB s g b).staged = s.staged := rfl
@[simp] theorem setB_mode (s : State) (g : Fld) (b : Bool) : (setB s g b).mode = s.mode := rfl
@[simp] theorem setB_power (s : State) (g : Fld) (b : Bool) : (setB s g b).power = s.power := rfl
@[simp] theorem setB_powerTo (s : State) (g : Fld) (b : Bool) : (setB s g b).powerTo = s.powerTo := rfl
@[simp] theorem setB_domains (s : State) (g : Fld) (b : Bool) : (setB s g b).domains = s.domains := rfl
@[simp] theorem setB_calEntry (s : State) (g : Fld) (b : Bool) : (setB s g b).calEntry = s.calEntry := rfl
@[simp] theorem setB_boot (s : State) (g : Fld) (b : Bool) : (setB s g b).boot = s.boot := rfl
@[simp] theorem setB_image (s : State) (g : Fld) (b : Bool) : (setB s g b).image = s.image := rfl
@[simp] theorem setB_cpUp (s : State) (g : Fld) (b : Bool) : (setB s g b).cpUp = s.cpUp := rfl
@[simp] theorem setB_wakeS (s : State) (g : Fld) (b : Bool) : (setB s g b).wakeS = s.wakeS := rfl
@[simp] theorem setB_idLoaded (s : State) (g : Fld) (b : Bool) : (setB s g b).idLoaded = s.idLoaded := rfl
@[simp] theorem setB_boardSet (s : State) (g : Fld) (b : Bool) : (setB s g b).boardSet = s.boardSet := rfl
@[simp] theorem setB_waking (s : State) (g : Fld) (b : Bool) : (setB s g b).waking = s.waking := rfl
@[simp] theorem setB_collapsed (s : State) (g : Fld) (b : Bool) : (setB s g b).collapsed = s.collapsed := rfl
@[simp] theorem setB_straps (s : State) (g : Fld) (b : Bool) : (setB s g b).straps = s.straps := rfl
@[simp] theorem setB_otp (s : State) (g : Fld) (b : Bool) : (setB s g b).otp = s.otp := rfl
@[simp] theorem setB_flash (s : State) (g : Fld) (b : Bool) : (setB s g b).flash = s.flash := rfl
@[simp] theorem setB_pins (s : State) (g : Fld) (b : Bool) : (setB s g b).pins = s.pins := rfl
@[simp] theorem setB_pcieUp (s : State) (g : Fld) (b : Bool) : (setB s g b).pcieUp = s.pcieUp := rfl
@[simp] theorem setB_hb (s : State) (g : Fld) (b : Bool) : (setB s g b).hb = s.hb := rfl
@[simp] theorem setB_hbAt (s : State) (g : Fld) (b : Bool) : (setB s g b).hbAt = s.hbAt := rfl
@[simp] theorem setB_clk (s : State) (g : Fld) (b : Bool) : (setB s g b).clk = s.clk := rfl
@[simp] theorem setB_tim (s : State) (g : Fld) (b : Bool) : (setB s g b).tim = s.tim := rfl
@[simp] theorem setB_sel (s : State) (g : Fld) (b : Bool) : (setB s g b).sel = s.sel := rfl
@[simp] theorem setB_ports (s : State) (g : Fld) (b : Bool) : (setB s g b).ports = s.ports := rfl
@[simp] theorem setB_jieth (s : State) (g : Fld) (b : Bool) : (setB s g b).jieth = s.jieth := rfl
@[simp] theorem setB_pair (s : State) (g : Fld) (b : Bool) : (setB s g b).pair = s.pair := rfl
@[simp] theorem setB_fab (s : State) (g : Fld) (b : Bool) : (setB s g b).fab = s.fab := rfl
@[simp] theorem setB_coarse (s : State) (g : Fld) (b : Bool) : (setB s g b).coarse = s.coarse := rfl
@[simp] theorem setB_gauges (s : State) (g : Fld) (b : Bool) : (setB s g b).gauges = s.gauges := rfl
@[simp] theorem setB_gnss (s : State) (g : Fld) (b : Bool) : (setB s g b).gnss = s.gnss := rfl
@[simp] theorem setB_engs (s : State) (g : Fld) (b : Bool) : (setB s g b).engs = s.engs := rfl
@[simp] theorem setB_cal (s : State) (g : Fld) (b : Bool) : (setB s g b).cal = s.cal := rfl
@[simp] theorem setB_cmd (s : State) (g : Fld) (b : Bool) : (setB s g b).cmd = s.cmd := rfl
@[simp] theorem setB_sec (s : State) (g : Fld) (b : Bool) : (setB s g b).sec = s.sec := rfl
@[simp] theorem setB_aud (s : State) (g : Fld) (b : Bool) : (setB s g b).aud = s.aud := rfl
@[simp] theorem setB_now (s : State) (g : Fld) (b : Bool) : (setB s g b).now = s.now := rfl
@[simp] theorem setB_out (s : State) (g : Fld) (b : Bool) : (setB s g b).out = s.out := rfl
@[simp] theorem setB_freeCtr (s : State) (g : Fld) (b : Bool) : (setB s g b).freeCtr = s.freeCtr := rfl

@[simp] theorem incF_pending (s : State) (g : Fld) (k : Nat) : (incF s g k).pending = s.pending := rfl
@[simp] theorem incF_staged (s : State) (g : Fld) (k : Nat) : (incF s g k).staged = s.staged := rfl
@[simp] theorem incF_mode (s : State) (g : Fld) (k : Nat) : (incF s g k).mode = s.mode := rfl
@[simp] theorem incF_power (s : State) (g : Fld) (k : Nat) : (incF s g k).power = s.power := rfl
@[simp] theorem incF_powerTo (s : State) (g : Fld) (k : Nat) : (incF s g k).powerTo = s.powerTo := rfl
@[simp] theorem incF_domains (s : State) (g : Fld) (k : Nat) : (incF s g k).domains = s.domains := rfl
@[simp] theorem incF_calEntry (s : State) (g : Fld) (k : Nat) : (incF s g k).calEntry = s.calEntry := rfl
@[simp] theorem incF_boot (s : State) (g : Fld) (k : Nat) : (incF s g k).boot = s.boot := rfl
@[simp] theorem incF_image (s : State) (g : Fld) (k : Nat) : (incF s g k).image = s.image := rfl
@[simp] theorem incF_cpUp (s : State) (g : Fld) (k : Nat) : (incF s g k).cpUp = s.cpUp := rfl
@[simp] theorem incF_wakeS (s : State) (g : Fld) (k : Nat) : (incF s g k).wakeS = s.wakeS := rfl
@[simp] theorem incF_idLoaded (s : State) (g : Fld) (k : Nat) : (incF s g k).idLoaded = s.idLoaded := rfl
@[simp] theorem incF_boardSet (s : State) (g : Fld) (k : Nat) : (incF s g k).boardSet = s.boardSet := rfl
@[simp] theorem incF_waking (s : State) (g : Fld) (k : Nat) : (incF s g k).waking = s.waking := rfl
@[simp] theorem incF_collapsed (s : State) (g : Fld) (k : Nat) : (incF s g k).collapsed = s.collapsed := rfl
@[simp] theorem incF_straps (s : State) (g : Fld) (k : Nat) : (incF s g k).straps = s.straps := rfl
@[simp] theorem incF_otp (s : State) (g : Fld) (k : Nat) : (incF s g k).otp = s.otp := rfl
@[simp] theorem incF_flash (s : State) (g : Fld) (k : Nat) : (incF s g k).flash = s.flash := rfl
@[simp] theorem incF_pins (s : State) (g : Fld) (k : Nat) : (incF s g k).pins = s.pins := rfl
@[simp] theorem incF_pcieUp (s : State) (g : Fld) (k : Nat) : (incF s g k).pcieUp = s.pcieUp := rfl
@[simp] theorem incF_hb (s : State) (g : Fld) (k : Nat) : (incF s g k).hb = s.hb := rfl
@[simp] theorem incF_hbAt (s : State) (g : Fld) (k : Nat) : (incF s g k).hbAt = s.hbAt := rfl
@[simp] theorem incF_clk (s : State) (g : Fld) (k : Nat) : (incF s g k).clk = s.clk := rfl
@[simp] theorem incF_tim (s : State) (g : Fld) (k : Nat) : (incF s g k).tim = s.tim := rfl
@[simp] theorem incF_sel (s : State) (g : Fld) (k : Nat) : (incF s g k).sel = s.sel := rfl
@[simp] theorem incF_ports (s : State) (g : Fld) (k : Nat) : (incF s g k).ports = s.ports := rfl
@[simp] theorem incF_jieth (s : State) (g : Fld) (k : Nat) : (incF s g k).jieth = s.jieth := rfl
@[simp] theorem incF_pair (s : State) (g : Fld) (k : Nat) : (incF s g k).pair = s.pair := rfl
@[simp] theorem incF_fab (s : State) (g : Fld) (k : Nat) : (incF s g k).fab = s.fab := rfl
@[simp] theorem incF_coarse (s : State) (g : Fld) (k : Nat) : (incF s g k).coarse = s.coarse := rfl
@[simp] theorem incF_gauges (s : State) (g : Fld) (k : Nat) : (incF s g k).gauges = s.gauges := rfl
@[simp] theorem incF_gnss (s : State) (g : Fld) (k : Nat) : (incF s g k).gnss = s.gnss := rfl
@[simp] theorem incF_engs (s : State) (g : Fld) (k : Nat) : (incF s g k).engs = s.engs := rfl
@[simp] theorem incF_cal (s : State) (g : Fld) (k : Nat) : (incF s g k).cal = s.cal := rfl
@[simp] theorem incF_cmd (s : State) (g : Fld) (k : Nat) : (incF s g k).cmd = s.cmd := rfl
@[simp] theorem incF_sec (s : State) (g : Fld) (k : Nat) : (incF s g k).sec = s.sec := rfl
@[simp] theorem incF_aud (s : State) (g : Fld) (k : Nat) : (incF s g k).aud = s.aud := rfl
@[simp] theorem incF_now (s : State) (g : Fld) (k : Nat) : (incF s g k).now = s.now := rfl
@[simp] theorem incF_out (s : State) (g : Fld) (k : Nat) : (incF s g k).out = s.out := rfl
@[simp] theorem incF_freeCtr (s : State) (g : Fld) (k : Nat) : (incF s g k).freeCtr = s.freeCtr := rfl

@[simp] theorem setHL_pending (s : State) (h l : Fld) (x : Int) : (setHL s h l x).pending = s.pending := rfl
@[simp] theorem setHL_staged (s : State) (h l : Fld) (x : Int) : (setHL s h l x).staged = s.staged := rfl
@[simp] theorem setHL_mode (s : State) (h l : Fld) (x : Int) : (setHL s h l x).mode = s.mode := rfl
@[simp] theorem setHL_power (s : State) (h l : Fld) (x : Int) : (setHL s h l x).power = s.power := rfl
@[simp] theorem setHL_powerTo (s : State) (h l : Fld) (x : Int) : (setHL s h l x).powerTo = s.powerTo := rfl
@[simp] theorem setHL_domains (s : State) (h l : Fld) (x : Int) : (setHL s h l x).domains = s.domains := rfl
@[simp] theorem setHL_calEntry (s : State) (h l : Fld) (x : Int) : (setHL s h l x).calEntry = s.calEntry := rfl
@[simp] theorem setHL_boot (s : State) (h l : Fld) (x : Int) : (setHL s h l x).boot = s.boot := rfl
@[simp] theorem setHL_image (s : State) (h l : Fld) (x : Int) : (setHL s h l x).image = s.image := rfl
@[simp] theorem setHL_cpUp (s : State) (h l : Fld) (x : Int) : (setHL s h l x).cpUp = s.cpUp := rfl
@[simp] theorem setHL_wakeS (s : State) (h l : Fld) (x : Int) : (setHL s h l x).wakeS = s.wakeS := rfl
@[simp] theorem setHL_idLoaded (s : State) (h l : Fld) (x : Int) : (setHL s h l x).idLoaded = s.idLoaded := rfl
@[simp] theorem setHL_boardSet (s : State) (h l : Fld) (x : Int) : (setHL s h l x).boardSet = s.boardSet := rfl
@[simp] theorem setHL_waking (s : State) (h l : Fld) (x : Int) : (setHL s h l x).waking = s.waking := rfl
@[simp] theorem setHL_collapsed (s : State) (h l : Fld) (x : Int) : (setHL s h l x).collapsed = s.collapsed := rfl
@[simp] theorem setHL_straps (s : State) (h l : Fld) (x : Int) : (setHL s h l x).straps = s.straps := rfl
@[simp] theorem setHL_otp (s : State) (h l : Fld) (x : Int) : (setHL s h l x).otp = s.otp := rfl
@[simp] theorem setHL_flash (s : State) (h l : Fld) (x : Int) : (setHL s h l x).flash = s.flash := rfl
@[simp] theorem setHL_pins (s : State) (h l : Fld) (x : Int) : (setHL s h l x).pins = s.pins := rfl
@[simp] theorem setHL_pcieUp (s : State) (h l : Fld) (x : Int) : (setHL s h l x).pcieUp = s.pcieUp := rfl
@[simp] theorem setHL_hb (s : State) (h l : Fld) (x : Int) : (setHL s h l x).hb = s.hb := rfl
@[simp] theorem setHL_hbAt (s : State) (h l : Fld) (x : Int) : (setHL s h l x).hbAt = s.hbAt := rfl
@[simp] theorem setHL_clk (s : State) (h l : Fld) (x : Int) : (setHL s h l x).clk = s.clk := rfl
@[simp] theorem setHL_tim (s : State) (h l : Fld) (x : Int) : (setHL s h l x).tim = s.tim := rfl
@[simp] theorem setHL_sel (s : State) (h l : Fld) (x : Int) : (setHL s h l x).sel = s.sel := rfl
@[simp] theorem setHL_ports (s : State) (h l : Fld) (x : Int) : (setHL s h l x).ports = s.ports := rfl
@[simp] theorem setHL_jieth (s : State) (h l : Fld) (x : Int) : (setHL s h l x).jieth = s.jieth := rfl
@[simp] theorem setHL_pair (s : State) (h l : Fld) (x : Int) : (setHL s h l x).pair = s.pair := rfl
@[simp] theorem setHL_fab (s : State) (h l : Fld) (x : Int) : (setHL s h l x).fab = s.fab := rfl
@[simp] theorem setHL_coarse (s : State) (h l : Fld) (x : Int) : (setHL s h l x).coarse = s.coarse := rfl
@[simp] theorem setHL_gauges (s : State) (h l : Fld) (x : Int) : (setHL s h l x).gauges = s.gauges := rfl
@[simp] theorem setHL_gnss (s : State) (h l : Fld) (x : Int) : (setHL s h l x).gnss = s.gnss := rfl
@[simp] theorem setHL_engs (s : State) (h l : Fld) (x : Int) : (setHL s h l x).engs = s.engs := rfl
@[simp] theorem setHL_cal (s : State) (h l : Fld) (x : Int) : (setHL s h l x).cal = s.cal := rfl
@[simp] theorem setHL_cmd (s : State) (h l : Fld) (x : Int) : (setHL s h l x).cmd = s.cmd := rfl
@[simp] theorem setHL_sec (s : State) (h l : Fld) (x : Int) : (setHL s h l x).sec = s.sec := rfl
@[simp] theorem setHL_aud (s : State) (h l : Fld) (x : Int) : (setHL s h l x).aud = s.aud := rfl
@[simp] theorem setHL_now (s : State) (h l : Fld) (x : Int) : (setHL s h l x).now = s.now := rfl
@[simp] theorem setHL_out (s : State) (h l : Fld) (x : Int) : (setHL s h l x).out = s.out := rfl
@[simp] theorem setHL_freeCtr (s : State) (h l : Fld) (x : Int) : (setHL s h l x).freeCtr = s.freeCtr := rfl

@[simp] theorem incHL_pending (s : State) (h l : Fld) (k : Nat) : (incHL s h l k).pending = s.pending := rfl
@[simp] theorem incHL_staged (s : State) (h l : Fld) (k : Nat) : (incHL s h l k).staged = s.staged := rfl
@[simp] theorem incHL_mode (s : State) (h l : Fld) (k : Nat) : (incHL s h l k).mode = s.mode := rfl
@[simp] theorem incHL_power (s : State) (h l : Fld) (k : Nat) : (incHL s h l k).power = s.power := rfl
@[simp] theorem incHL_powerTo (s : State) (h l : Fld) (k : Nat) : (incHL s h l k).powerTo = s.powerTo := rfl
@[simp] theorem incHL_domains (s : State) (h l : Fld) (k : Nat) : (incHL s h l k).domains = s.domains := rfl
@[simp] theorem incHL_calEntry (s : State) (h l : Fld) (k : Nat) : (incHL s h l k).calEntry = s.calEntry := rfl
@[simp] theorem incHL_boot (s : State) (h l : Fld) (k : Nat) : (incHL s h l k).boot = s.boot := rfl
@[simp] theorem incHL_image (s : State) (h l : Fld) (k : Nat) : (incHL s h l k).image = s.image := rfl
@[simp] theorem incHL_cpUp (s : State) (h l : Fld) (k : Nat) : (incHL s h l k).cpUp = s.cpUp := rfl
@[simp] theorem incHL_wakeS (s : State) (h l : Fld) (k : Nat) : (incHL s h l k).wakeS = s.wakeS := rfl
@[simp] theorem incHL_idLoaded (s : State) (h l : Fld) (k : Nat) : (incHL s h l k).idLoaded = s.idLoaded := rfl
@[simp] theorem incHL_boardSet (s : State) (h l : Fld) (k : Nat) : (incHL s h l k).boardSet = s.boardSet := rfl
@[simp] theorem incHL_waking (s : State) (h l : Fld) (k : Nat) : (incHL s h l k).waking = s.waking := rfl
@[simp] theorem incHL_collapsed (s : State) (h l : Fld) (k : Nat) : (incHL s h l k).collapsed = s.collapsed := rfl
@[simp] theorem incHL_straps (s : State) (h l : Fld) (k : Nat) : (incHL s h l k).straps = s.straps := rfl
@[simp] theorem incHL_otp (s : State) (h l : Fld) (k : Nat) : (incHL s h l k).otp = s.otp := rfl
@[simp] theorem incHL_flash (s : State) (h l : Fld) (k : Nat) : (incHL s h l k).flash = s.flash := rfl
@[simp] theorem incHL_pins (s : State) (h l : Fld) (k : Nat) : (incHL s h l k).pins = s.pins := rfl
@[simp] theorem incHL_pcieUp (s : State) (h l : Fld) (k : Nat) : (incHL s h l k).pcieUp = s.pcieUp := rfl
@[simp] theorem incHL_hb (s : State) (h l : Fld) (k : Nat) : (incHL s h l k).hb = s.hb := rfl
@[simp] theorem incHL_hbAt (s : State) (h l : Fld) (k : Nat) : (incHL s h l k).hbAt = s.hbAt := rfl
@[simp] theorem incHL_clk (s : State) (h l : Fld) (k : Nat) : (incHL s h l k).clk = s.clk := rfl
@[simp] theorem incHL_tim (s : State) (h l : Fld) (k : Nat) : (incHL s h l k).tim = s.tim := rfl
@[simp] theorem incHL_sel (s : State) (h l : Fld) (k : Nat) : (incHL s h l k).sel = s.sel := rfl
@[simp] theorem incHL_ports (s : State) (h l : Fld) (k : Nat) : (incHL s h l k).ports = s.ports := rfl
@[simp] theorem incHL_jieth (s : State) (h l : Fld) (k : Nat) : (incHL s h l k).jieth = s.jieth := rfl
@[simp] theorem incHL_pair (s : State) (h l : Fld) (k : Nat) : (incHL s h l k).pair = s.pair := rfl
@[simp] theorem incHL_fab (s : State) (h l : Fld) (k : Nat) : (incHL s h l k).fab = s.fab := rfl
@[simp] theorem incHL_coarse (s : State) (h l : Fld) (k : Nat) : (incHL s h l k).coarse = s.coarse := rfl
@[simp] theorem incHL_gauges (s : State) (h l : Fld) (k : Nat) : (incHL s h l k).gauges = s.gauges := rfl
@[simp] theorem incHL_gnss (s : State) (h l : Fld) (k : Nat) : (incHL s h l k).gnss = s.gnss := rfl
@[simp] theorem incHL_engs (s : State) (h l : Fld) (k : Nat) : (incHL s h l k).engs = s.engs := rfl
@[simp] theorem incHL_cal (s : State) (h l : Fld) (k : Nat) : (incHL s h l k).cal = s.cal := rfl
@[simp] theorem incHL_cmd (s : State) (h l : Fld) (k : Nat) : (incHL s h l k).cmd = s.cmd := rfl
@[simp] theorem incHL_sec (s : State) (h l : Fld) (k : Nat) : (incHL s h l k).sec = s.sec := rfl
@[simp] theorem incHL_aud (s : State) (h l : Fld) (k : Nat) : (incHL s h l k).aud = s.aud := rfl
@[simp] theorem incHL_now (s : State) (h l : Fld) (k : Nat) : (incHL s h l k).now = s.now := rfl
@[simp] theorem incHL_out (s : State) (h l : Fld) (k : Nat) : (incHL s h l k).out = s.out := rfl
@[simp] theorem incHL_freeCtr (s : State) (h l : Fld) (k : Nat) : (incHL s h l k).freeCtr = s.freeCtr := rfl

@[simp] theorem emit_pending (s : State) (x : Output) : (emit s x).pending = s.pending := rfl
@[simp] theorem emit_regs (s : State) (x : Output) : (emit s x).regs = s.regs := rfl
@[simp] theorem emit_staged (s : State) (x : Output) : (emit s x).staged = s.staged := rfl
@[simp] theorem emit_mode (s : State) (x : Output) : (emit s x).mode = s.mode := rfl
@[simp] theorem emit_power (s : State) (x : Output) : (emit s x).power = s.power := rfl
@[simp] theorem emit_powerTo (s : State) (x : Output) : (emit s x).powerTo = s.powerTo := rfl
@[simp] theorem emit_domains (s : State) (x : Output) : (emit s x).domains = s.domains := rfl
@[simp] theorem emit_calEntry (s : State) (x : Output) : (emit s x).calEntry = s.calEntry := rfl
@[simp] theorem emit_boot (s : State) (x : Output) : (emit s x).boot = s.boot := rfl
@[simp] theorem emit_image (s : State) (x : Output) : (emit s x).image = s.image := rfl
@[simp] theorem emit_cpUp (s : State) (x : Output) : (emit s x).cpUp = s.cpUp := rfl
@[simp] theorem emit_wakeS (s : State) (x : Output) : (emit s x).wakeS = s.wakeS := rfl
@[simp] theorem emit_idLoaded (s : State) (x : Output) : (emit s x).idLoaded = s.idLoaded := rfl
@[simp] theorem emit_boardSet (s : State) (x : Output) : (emit s x).boardSet = s.boardSet := rfl
@[simp] theorem emit_waking (s : State) (x : Output) : (emit s x).waking = s.waking := rfl
@[simp] theorem emit_collapsed (s : State) (x : Output) : (emit s x).collapsed = s.collapsed := rfl
@[simp] theorem emit_straps (s : State) (x : Output) : (emit s x).straps = s.straps := rfl
@[simp] theorem emit_otp (s : State) (x : Output) : (emit s x).otp = s.otp := rfl
@[simp] theorem emit_flash (s : State) (x : Output) : (emit s x).flash = s.flash := rfl
@[simp] theorem emit_pins (s : State) (x : Output) : (emit s x).pins = s.pins := rfl
@[simp] theorem emit_pcieUp (s : State) (x : Output) : (emit s x).pcieUp = s.pcieUp := rfl
@[simp] theorem emit_hb (s : State) (x : Output) : (emit s x).hb = s.hb := rfl
@[simp] theorem emit_hbAt (s : State) (x : Output) : (emit s x).hbAt = s.hbAt := rfl
@[simp] theorem emit_clk (s : State) (x : Output) : (emit s x).clk = s.clk := rfl
@[simp] theorem emit_tim (s : State) (x : Output) : (emit s x).tim = s.tim := rfl
@[simp] theorem emit_sel (s : State) (x : Output) : (emit s x).sel = s.sel := rfl
@[simp] theorem emit_ports (s : State) (x : Output) : (emit s x).ports = s.ports := rfl
@[simp] theorem emit_jieth (s : State) (x : Output) : (emit s x).jieth = s.jieth := rfl
@[simp] theorem emit_pair (s : State) (x : Output) : (emit s x).pair = s.pair := rfl
@[simp] theorem emit_fab (s : State) (x : Output) : (emit s x).fab = s.fab := rfl
@[simp] theorem emit_coarse (s : State) (x : Output) : (emit s x).coarse = s.coarse := rfl
@[simp] theorem emit_gauges (s : State) (x : Output) : (emit s x).gauges = s.gauges := rfl
@[simp] theorem emit_gnss (s : State) (x : Output) : (emit s x).gnss = s.gnss := rfl
@[simp] theorem emit_engs (s : State) (x : Output) : (emit s x).engs = s.engs := rfl
@[simp] theorem emit_cal (s : State) (x : Output) : (emit s x).cal = s.cal := rfl
@[simp] theorem emit_cmd (s : State) (x : Output) : (emit s x).cmd = s.cmd := rfl
@[simp] theorem emit_sec (s : State) (x : Output) : (emit s x).sec = s.sec := rfl
@[simp] theorem emit_aud (s : State) (x : Output) : (emit s x).aud = s.aud := rfl
@[simp] theorem emit_now (s : State) (x : Output) : (emit s x).now = s.now := rfl
@[simp] theorem emit_freeCtr (s : State) (x : Output) : (emit s x).freeCtr = s.freeCtr := rfl

@[simp] theorem emit_out (s : State) (x : Output) : (emit s x).out = s.out ++ [x] := rfl

@[simp] theorem draw_pending (s : State) : (draw s).2.pending = s.pending := rfl
@[simp] theorem draw_regs (s : State) : (draw s).2.regs = s.regs := rfl
@[simp] theorem draw_staged (s : State) : (draw s).2.staged = s.staged := rfl
@[simp] theorem draw_mode (s : State) : (draw s).2.mode = s.mode := rfl
@[simp] theorem draw_power (s : State) : (draw s).2.power = s.power := rfl
@[simp] theorem draw_powerTo (s : State) : (draw s).2.powerTo = s.powerTo := rfl
@[simp] theorem draw_domains (s : State) : (draw s).2.domains = s.domains := rfl
@[simp] theorem draw_calEntry (s : State) : (draw s).2.calEntry = s.calEntry := rfl
@[simp] theorem draw_boot (s : State) : (draw s).2.boot = s.boot := rfl
@[simp] theorem draw_image (s : State) : (draw s).2.image = s.image := rfl
@[simp] theorem draw_cpUp (s : State) : (draw s).2.cpUp = s.cpUp := rfl
@[simp] theorem draw_wakeS (s : State) : (draw s).2.wakeS = s.wakeS := rfl
@[simp] theorem draw_idLoaded (s : State) : (draw s).2.idLoaded = s.idLoaded := rfl
@[simp] theorem draw_boardSet (s : State) : (draw s).2.boardSet = s.boardSet := rfl
@[simp] theorem draw_waking (s : State) : (draw s).2.waking = s.waking := rfl
@[simp] theorem draw_collapsed (s : State) : (draw s).2.collapsed = s.collapsed := rfl
@[simp] theorem draw_straps (s : State) : (draw s).2.straps = s.straps := rfl
@[simp] theorem draw_otp (s : State) : (draw s).2.otp = s.otp := rfl
@[simp] theorem draw_flash (s : State) : (draw s).2.flash = s.flash := rfl
@[simp] theorem draw_pins (s : State) : (draw s).2.pins = s.pins := rfl
@[simp] theorem draw_pcieUp (s : State) : (draw s).2.pcieUp = s.pcieUp := rfl
@[simp] theorem draw_hb (s : State) : (draw s).2.hb = s.hb := rfl
@[simp] theorem draw_hbAt (s : State) : (draw s).2.hbAt = s.hbAt := rfl
@[simp] theorem draw_clk (s : State) : (draw s).2.clk = s.clk := rfl
@[simp] theorem draw_tim (s : State) : (draw s).2.tim = s.tim := rfl
@[simp] theorem draw_sel (s : State) : (draw s).2.sel = s.sel := rfl
@[simp] theorem draw_ports (s : State) : (draw s).2.ports = s.ports := rfl
@[simp] theorem draw_jieth (s : State) : (draw s).2.jieth = s.jieth := rfl
@[simp] theorem draw_pair (s : State) : (draw s).2.pair = s.pair := rfl
@[simp] theorem draw_fab (s : State) : (draw s).2.fab = s.fab := rfl
@[simp] theorem draw_coarse (s : State) : (draw s).2.coarse = s.coarse := rfl
@[simp] theorem draw_gauges (s : State) : (draw s).2.gauges = s.gauges := rfl
@[simp] theorem draw_gnss (s : State) : (draw s).2.gnss = s.gnss := rfl
@[simp] theorem draw_engs (s : State) : (draw s).2.engs = s.engs := rfl
@[simp] theorem draw_cal (s : State) : (draw s).2.cal = s.cal := rfl
@[simp] theorem draw_cmd (s : State) : (draw s).2.cmd = s.cmd := rfl
@[simp] theorem draw_sec (s : State) : (draw s).2.sec = s.sec := rfl
@[simp] theorem draw_aud (s : State) : (draw s).2.aud = s.aud := rfl
@[simp] theorem draw_now (s : State) : (draw s).2.now = s.now := rfl
@[simp] theorem draw_out (s : State) : (draw s).2.out = s.out := rfl
@[simp] theorem draw_freeCtr (s : State) : (draw s).2.freeCtr = s.freeCtr + 1 := rfl
@[simp] theorem draw_fst (s : State) : (draw s).1 = s.freeCtr := rfl

@[simp] theorem updSlot_pending (s : State) (n : Nat) (f : SlotS → SlotS) : (updSlot s n f).pending = s.pending := rfl
@[simp] theorem updSlot_regs (s : State) (n : Nat) (f : SlotS → SlotS) : (updSlot s n f).regs = s.regs := rfl
@[simp] theorem updSlot_staged (s : State) (n : Nat) (f : SlotS → SlotS) : (updSlot s n f).staged = s.staged := rfl
@[simp] theorem updSlot_mode (s : State) (n : Nat) (f : SlotS → SlotS) : (updSlot s n f).mode = s.mode := rfl
@[simp] theorem updSlot_power (s : State) (n : Nat) (f : SlotS → SlotS) : (updSlot s n f).power = s.power := rfl
@[simp] theorem updSlot_powerTo (s : State) (n : Nat) (f : SlotS → SlotS) : (updSlot s n f).powerTo = s.powerTo := rfl
@[simp] theorem updSlot_domains (s : State) (n : Nat) (f : SlotS → SlotS) : (updSlot s n f).domains = s.domains := rfl
@[simp] theorem updSlot_calEntry (s : State) (n : Nat) (f : SlotS → SlotS) : (updSlot s n f).calEntry = s.calEntry := rfl
@[simp] theorem updSlot_boot (s : State) (n : Nat) (f : SlotS → SlotS) : (updSlot s n f).boot = s.boot := rfl
@[simp] theorem updSlot_image (s : State) (n : Nat) (f : SlotS → SlotS) : (updSlot s n f).image = s.image := rfl
@[simp] theorem updSlot_cpUp (s : State) (n : Nat) (f : SlotS → SlotS) : (updSlot s n f).cpUp = s.cpUp := rfl
@[simp] theorem updSlot_wakeS (s : State) (n : Nat) (f : SlotS → SlotS) : (updSlot s n f).wakeS = s.wakeS := rfl
@[simp] theorem updSlot_idLoaded (s : State) (n : Nat) (f : SlotS → SlotS) : (updSlot s n f).idLoaded = s.idLoaded := rfl
@[simp] theorem updSlot_boardSet (s : State) (n : Nat) (f : SlotS → SlotS) : (updSlot s n f).boardSet = s.boardSet := rfl
@[simp] theorem updSlot_waking (s : State) (n : Nat) (f : SlotS → SlotS) : (updSlot s n f).waking = s.waking := rfl
@[simp] theorem updSlot_collapsed (s : State) (n : Nat) (f : SlotS → SlotS) : (updSlot s n f).collapsed = s.collapsed := rfl
@[simp] theorem updSlot_straps (s : State) (n : Nat) (f : SlotS → SlotS) : (updSlot s n f).straps = s.straps := rfl
@[simp] theorem updSlot_otp (s : State) (n : Nat) (f : SlotS → SlotS) : (updSlot s n f).otp = s.otp := rfl
@[simp] theorem updSlot_flash (s : State) (n : Nat) (f : SlotS → SlotS) : (updSlot s n f).flash = s.flash := rfl
@[simp] theorem updSlot_pins (s : State) (n : Nat) (f : SlotS → SlotS) : (updSlot s n f).pins = s.pins := rfl
@[simp] theorem updSlot_pcieUp (s : State) (n : Nat) (f : SlotS → SlotS) : (updSlot s n f).pcieUp = s.pcieUp := rfl
@[simp] theorem updSlot_hb (s : State) (n : Nat) (f : SlotS → SlotS) : (updSlot s n f).hb = s.hb := rfl
@[simp] theorem updSlot_hbAt (s : State) (n : Nat) (f : SlotS → SlotS) : (updSlot s n f).hbAt = s.hbAt := rfl
@[simp] theorem updSlot_clk (s : State) (n : Nat) (f : SlotS → SlotS) : (updSlot s n f).clk = s.clk := rfl
@[simp] theorem updSlot_tim (s : State) (n : Nat) (f : SlotS → SlotS) : (updSlot s n f).tim = s.tim := rfl
@[simp] theorem updSlot_ports (s : State) (n : Nat) (f : SlotS → SlotS) : (updSlot s n f).ports = s.ports := rfl
@[simp] theorem updSlot_jieth (s : State) (n : Nat) (f : SlotS → SlotS) : (updSlot s n f).jieth = s.jieth := rfl
@[simp] theorem updSlot_pair (s : State) (n : Nat) (f : SlotS → SlotS) : (updSlot s n f).pair = s.pair := rfl
@[simp] theorem updSlot_fab (s : State) (n : Nat) (f : SlotS → SlotS) : (updSlot s n f).fab = s.fab := rfl
@[simp] theorem updSlot_coarse (s : State) (n : Nat) (f : SlotS → SlotS) : (updSlot s n f).coarse = s.coarse := rfl
@[simp] theorem updSlot_gauges (s : State) (n : Nat) (f : SlotS → SlotS) : (updSlot s n f).gauges = s.gauges := rfl
@[simp] theorem updSlot_gnss (s : State) (n : Nat) (f : SlotS → SlotS) : (updSlot s n f).gnss = s.gnss := rfl
@[simp] theorem updSlot_engs (s : State) (n : Nat) (f : SlotS → SlotS) : (updSlot s n f).engs = s.engs := rfl
@[simp] theorem updSlot_cal (s : State) (n : Nat) (f : SlotS → SlotS) : (updSlot s n f).cal = s.cal := rfl
@[simp] theorem updSlot_cmd (s : State) (n : Nat) (f : SlotS → SlotS) : (updSlot s n f).cmd = s.cmd := rfl
@[simp] theorem updSlot_sec (s : State) (n : Nat) (f : SlotS → SlotS) : (updSlot s n f).sec = s.sec := rfl
@[simp] theorem updSlot_aud (s : State) (n : Nat) (f : SlotS → SlotS) : (updSlot s n f).aud = s.aud := rfl
@[simp] theorem updSlot_now (s : State) (n : Nat) (f : SlotS → SlotS) : (updSlot s n f).now = s.now := rfl
@[simp] theorem updSlot_out (s : State) (n : Nat) (f : SlotS → SlotS) : (updSlot s n f).out = s.out := rfl
@[simp] theorem updSlot_freeCtr (s : State) (n : Nat) (f : SlotS → SlotS) : (updSlot s n f).freeCtr = s.freeCtr := rfl

@[simp] theorem updSlot_sel_slots (s : State) (n : Nat) (f : SlotS → SlotS) : (updSlot s n f).sel.slots = listUpd {} s.sel.slots n f := rfl
@[simp] theorem updSlot_sel_sw (s : State) (n : Nat) (f : SlotS → SlotS) : (updSlot s n f).sel.sw = s.sel.sw := rfl
@[simp] theorem updSlot_sel_holdOff (s : State) (n : Nat) (f : SlotS → SlotS) : (updSlot s n f).sel.holdOff = s.sel.holdOff := rfl
@[simp] theorem updSlot_sel_hist (s : State) (n : Nat) (f : SlotS → SlotS) : (updSlot s n f).sel.hist = s.sel.hist := rfl
@[simp] theorem updSlot_sel_holdVal (s : State) (n : Nat) (f : SlotS → SlotS) : (updSlot s n f).sel.holdVal = s.sel.holdVal := rfl
@[simp] theorem updSlot_sel_coast (s : State) (n : Nat) (f : SlotS → SlotS) : (updSlot s n f).sel.coast = s.sel.coast := rfl
@[simp] theorem updSlot_sel_keepAvg (s : State) (n : Nat) (f : SlotS → SlotS) : (updSlot s n f).sel.keepAvg = s.sel.keepAvg := rfl
@[simp] theorem updSlot_sel_specOver (s : State) (n : Nat) (f : SlotS → SlotS) : (updSlot s n f).sel.specOver = s.sel.specOver := rfl
@[simp] theorem updSlot_sel_ownCw (s : State) (n : Nat) (f : SlotS → SlotS) : (updSlot s n f).sel.ownCw = s.sel.ownCw := rfl
@[simp] theorem updSlot_sel_ownWeir (s : State) (n : Nat) (f : SlotS → SlotS) : (updSlot s n f).sel.ownWeir = s.sel.ownWeir := rfl
@[simp] theorem updSlot_sel_elig (s : State) (n : Nat) (f : SlotS → SlotS) : (updSlot s n f).sel.elig = s.sel.elig := rfl
@[simp] theorem updSlot_sel_gained (s : State) (n : Nat) (f : SlotS → SlotS) : (updSlot s n f).sel.gained = s.sel.gained := rfl
@[simp] theorem updSlot_sel_everSelected (s : State) (n : Nat) (f : SlotS → SlotS) : (updSlot s n f).sel.everSelected = s.sel.everSelected := rfl
@[simp] theorem updSlot_sel_slewing (s : State) (n : Nat) (f : SlotS → SlotS) : (updSlot s n f).sel.slewing = s.sel.slewing := rfl

@[simp] theorem updPort_pending (s : State) (n : Nat) (f : PortS → PortS) : (updPort s n f).pending = s.pending := rfl
@[simp] theorem updPort_regs (s : State) (n : Nat) (f : PortS → PortS) : (updPort s n f).regs = s.regs := rfl
@[simp] theorem updPort_staged (s : State) (n : Nat) (f : PortS → PortS) : (updPort s n f).staged = s.staged := rfl
@[simp] theorem updPort_mode (s : State) (n : Nat) (f : PortS → PortS) : (updPort s n f).mode = s.mode := rfl
@[simp] theorem updPort_power (s : State) (n : Nat) (f : PortS → PortS) : (updPort s n f).power = s.power := rfl
@[simp] theorem updPort_powerTo (s : State) (n : Nat) (f : PortS → PortS) : (updPort s n f).powerTo = s.powerTo := rfl
@[simp] theorem updPort_domains (s : State) (n : Nat) (f : PortS → PortS) : (updPort s n f).domains = s.domains := rfl
@[simp] theorem updPort_calEntry (s : State) (n : Nat) (f : PortS → PortS) : (updPort s n f).calEntry = s.calEntry := rfl
@[simp] theorem updPort_boot (s : State) (n : Nat) (f : PortS → PortS) : (updPort s n f).boot = s.boot := rfl
@[simp] theorem updPort_image (s : State) (n : Nat) (f : PortS → PortS) : (updPort s n f).image = s.image := rfl
@[simp] theorem updPort_cpUp (s : State) (n : Nat) (f : PortS → PortS) : (updPort s n f).cpUp = s.cpUp := rfl
@[simp] theorem updPort_wakeS (s : State) (n : Nat) (f : PortS → PortS) : (updPort s n f).wakeS = s.wakeS := rfl
@[simp] theorem updPort_idLoaded (s : State) (n : Nat) (f : PortS → PortS) : (updPort s n f).idLoaded = s.idLoaded := rfl
@[simp] theorem updPort_boardSet (s : State) (n : Nat) (f : PortS → PortS) : (updPort s n f).boardSet = s.boardSet := rfl
@[simp] theorem updPort_waking (s : State) (n : Nat) (f : PortS → PortS) : (updPort s n f).waking = s.waking := rfl
@[simp] theorem updPort_collapsed (s : State) (n : Nat) (f : PortS → PortS) : (updPort s n f).collapsed = s.collapsed := rfl
@[simp] theorem updPort_straps (s : State) (n : Nat) (f : PortS → PortS) : (updPort s n f).straps = s.straps := rfl
@[simp] theorem updPort_otp (s : State) (n : Nat) (f : PortS → PortS) : (updPort s n f).otp = s.otp := rfl
@[simp] theorem updPort_flash (s : State) (n : Nat) (f : PortS → PortS) : (updPort s n f).flash = s.flash := rfl
@[simp] theorem updPort_pins (s : State) (n : Nat) (f : PortS → PortS) : (updPort s n f).pins = s.pins := rfl
@[simp] theorem updPort_pcieUp (s : State) (n : Nat) (f : PortS → PortS) : (updPort s n f).pcieUp = s.pcieUp := rfl
@[simp] theorem updPort_hb (s : State) (n : Nat) (f : PortS → PortS) : (updPort s n f).hb = s.hb := rfl
@[simp] theorem updPort_hbAt (s : State) (n : Nat) (f : PortS → PortS) : (updPort s n f).hbAt = s.hbAt := rfl
@[simp] theorem updPort_clk (s : State) (n : Nat) (f : PortS → PortS) : (updPort s n f).clk = s.clk := rfl
@[simp] theorem updPort_tim (s : State) (n : Nat) (f : PortS → PortS) : (updPort s n f).tim = s.tim := rfl
@[simp] theorem updPort_sel (s : State) (n : Nat) (f : PortS → PortS) : (updPort s n f).sel = s.sel := rfl
@[simp] theorem updPort_jieth (s : State) (n : Nat) (f : PortS → PortS) : (updPort s n f).jieth = s.jieth := rfl
@[simp] theorem updPort_pair (s : State) (n : Nat) (f : PortS → PortS) : (updPort s n f).pair = s.pair := rfl
@[simp] theorem updPort_fab (s : State) (n : Nat) (f : PortS → PortS) : (updPort s n f).fab = s.fab := rfl
@[simp] theorem updPort_coarse (s : State) (n : Nat) (f : PortS → PortS) : (updPort s n f).coarse = s.coarse := rfl
@[simp] theorem updPort_gauges (s : State) (n : Nat) (f : PortS → PortS) : (updPort s n f).gauges = s.gauges := rfl
@[simp] theorem updPort_gnss (s : State) (n : Nat) (f : PortS → PortS) : (updPort s n f).gnss = s.gnss := rfl
@[simp] theorem updPort_engs (s : State) (n : Nat) (f : PortS → PortS) : (updPort s n f).engs = s.engs := rfl
@[simp] theorem updPort_cal (s : State) (n : Nat) (f : PortS → PortS) : (updPort s n f).cal = s.cal := rfl
@[simp] theorem updPort_cmd (s : State) (n : Nat) (f : PortS → PortS) : (updPort s n f).cmd = s.cmd := rfl
@[simp] theorem updPort_sec (s : State) (n : Nat) (f : PortS → PortS) : (updPort s n f).sec = s.sec := rfl
@[simp] theorem updPort_aud (s : State) (n : Nat) (f : PortS → PortS) : (updPort s n f).aud = s.aud := rfl
@[simp] theorem updPort_now (s : State) (n : Nat) (f : PortS → PortS) : (updPort s n f).now = s.now := rfl
@[simp] theorem updPort_out (s : State) (n : Nat) (f : PortS → PortS) : (updPort s n f).out = s.out := rfl
@[simp] theorem updPort_freeCtr (s : State) (n : Nat) (f : PortS → PortS) : (updPort s n f).freeCtr = s.freeCtr := rfl

@[simp] theorem updPort_ports_port (s : State) (n : Nat) (f : PortS → PortS) : (updPort s n f).ports.port = listUpd {} s.ports.port n f := rfl
@[simp] theorem updPort_ports_bermQ (s : State) (n : Nat) (f : PortS → PortS) : (updPort s n f).ports.bermQ = s.ports.bermQ := rfl
@[simp] theorem updPort_ports_bermWin (s : State) (n : Nat) (f : PortS → PortS) : (updPort s n f).ports.bermWin = s.ports.bermWin := rfl
@[simp] theorem updPort_ports_ptpRx (s : State) (n : Nat) (f : PortS → PortS) : (updPort s n f).ports.ptpRx = s.ports.ptpRx := rfl
@[simp] theorem updPort_ports_utcAuto (s : State) (n : Nat) (f : PortS → PortS) : (updPort s n f).ports.utcAuto = s.ports.utcAuto := rfl
@[simp] theorem updPort_ports_residues (s : State) (n : Nat) (f : PortS → PortS) : (updPort s n f).ports.residues = s.ports.residues := rfl
@[simp] theorem updPort_ports_unicast (s : State) (n : Nat) (f : PortS → PortS) : (updPort s n f).ports.unicast = s.ports.unicast := rfl
@[simp] theorem updPort_ports_classHeld (s : State) (n : Nat) (f : PortS → PortS) : (updPort s n f).ports.classHeld = s.ports.classHeld := rfl

@[simp] theorem updLink_pending (s : State) (n : Nat) (f : LinkS → LinkS) : (updLink s n f).pending = s.pending := rfl
@[simp] theorem updLink_regs (s : State) (n : Nat) (f : LinkS → LinkS) : (updLink s n f).regs = s.regs := rfl
@[simp] theorem updLink_staged (s : State) (n : Nat) (f : LinkS → LinkS) : (updLink s n f).staged = s.staged := rfl
@[simp] theorem updLink_mode (s : State) (n : Nat) (f : LinkS → LinkS) : (updLink s n f).mode = s.mode := rfl
@[simp] theorem updLink_power (s : State) (n : Nat) (f : LinkS → LinkS) : (updLink s n f).power = s.power := rfl
@[simp] theorem updLink_powerTo (s : State) (n : Nat) (f : LinkS → LinkS) : (updLink s n f).powerTo = s.powerTo := rfl
@[simp] theorem updLink_domains (s : State) (n : Nat) (f : LinkS → LinkS) : (updLink s n f).domains = s.domains := rfl
@[simp] theorem updLink_calEntry (s : State) (n : Nat) (f : LinkS → LinkS) : (updLink s n f).calEntry = s.calEntry := rfl
@[simp] theorem updLink_boot (s : State) (n : Nat) (f : LinkS → LinkS) : (updLink s n f).boot = s.boot := rfl
@[simp] theorem updLink_image (s : State) (n : Nat) (f : LinkS → LinkS) : (updLink s n f).image = s.image := rfl
@[simp] theorem updLink_cpUp (s : State) (n : Nat) (f : LinkS → LinkS) : (updLink s n f).cpUp = s.cpUp := rfl
@[simp] theorem updLink_wakeS (s : State) (n : Nat) (f : LinkS → LinkS) : (updLink s n f).wakeS = s.wakeS := rfl
@[simp] theorem updLink_idLoaded (s : State) (n : Nat) (f : LinkS → LinkS) : (updLink s n f).idLoaded = s.idLoaded := rfl
@[simp] theorem updLink_boardSet (s : State) (n : Nat) (f : LinkS → LinkS) : (updLink s n f).boardSet = s.boardSet := rfl
@[simp] theorem updLink_waking (s : State) (n : Nat) (f : LinkS → LinkS) : (updLink s n f).waking = s.waking := rfl
@[simp] theorem updLink_collapsed (s : State) (n : Nat) (f : LinkS → LinkS) : (updLink s n f).collapsed = s.collapsed := rfl
@[simp] theorem updLink_straps (s : State) (n : Nat) (f : LinkS → LinkS) : (updLink s n f).straps = s.straps := rfl
@[simp] theorem updLink_otp (s : State) (n : Nat) (f : LinkS → LinkS) : (updLink s n f).otp = s.otp := rfl
@[simp] theorem updLink_flash (s : State) (n : Nat) (f : LinkS → LinkS) : (updLink s n f).flash = s.flash := rfl
@[simp] theorem updLink_pins (s : State) (n : Nat) (f : LinkS → LinkS) : (updLink s n f).pins = s.pins := rfl
@[simp] theorem updLink_pcieUp (s : State) (n : Nat) (f : LinkS → LinkS) : (updLink s n f).pcieUp = s.pcieUp := rfl
@[simp] theorem updLink_hb (s : State) (n : Nat) (f : LinkS → LinkS) : (updLink s n f).hb = s.hb := rfl
@[simp] theorem updLink_hbAt (s : State) (n : Nat) (f : LinkS → LinkS) : (updLink s n f).hbAt = s.hbAt := rfl
@[simp] theorem updLink_clk (s : State) (n : Nat) (f : LinkS → LinkS) : (updLink s n f).clk = s.clk := rfl
@[simp] theorem updLink_tim (s : State) (n : Nat) (f : LinkS → LinkS) : (updLink s n f).tim = s.tim := rfl
@[simp] theorem updLink_sel (s : State) (n : Nat) (f : LinkS → LinkS) : (updLink s n f).sel = s.sel := rfl
@[simp] theorem updLink_ports (s : State) (n : Nat) (f : LinkS → LinkS) : (updLink s n f).ports = s.ports := rfl
@[simp] theorem updLink_pair (s : State) (n : Nat) (f : LinkS → LinkS) : (updLink s n f).pair = s.pair := rfl
@[simp] theorem updLink_fab (s : State) (n : Nat) (f : LinkS → LinkS) : (updLink s n f).fab = s.fab := rfl
@[simp] theorem updLink_coarse (s : State) (n : Nat) (f : LinkS → LinkS) : (updLink s n f).coarse = s.coarse := rfl
@[simp] theorem updLink_gauges (s : State) (n : Nat) (f : LinkS → LinkS) : (updLink s n f).gauges = s.gauges := rfl
@[simp] theorem updLink_gnss (s : State) (n : Nat) (f : LinkS → LinkS) : (updLink s n f).gnss = s.gnss := rfl
@[simp] theorem updLink_engs (s : State) (n : Nat) (f : LinkS → LinkS) : (updLink s n f).engs = s.engs := rfl
@[simp] theorem updLink_cal (s : State) (n : Nat) (f : LinkS → LinkS) : (updLink s n f).cal = s.cal := rfl
@[simp] theorem updLink_cmd (s : State) (n : Nat) (f : LinkS → LinkS) : (updLink s n f).cmd = s.cmd := rfl
@[simp] theorem updLink_sec (s : State) (n : Nat) (f : LinkS → LinkS) : (updLink s n f).sec = s.sec := rfl
@[simp] theorem updLink_aud (s : State) (n : Nat) (f : LinkS → LinkS) : (updLink s n f).aud = s.aud := rfl
@[simp] theorem updLink_now (s : State) (n : Nat) (f : LinkS → LinkS) : (updLink s n f).now = s.now := rfl
@[simp] theorem updLink_out (s : State) (n : Nat) (f : LinkS → LinkS) : (updLink s n f).out = s.out := rfl
@[simp] theorem updLink_freeCtr (s : State) (n : Nat) (f : LinkS → LinkS) : (updLink s n f).freeCtr = s.freeCtr := rfl

@[simp] theorem updLink_jieth_link (s : State) (n : Nat) (f : LinkS → LinkS) : (updLink s n f).jieth.link = listUpd {} s.jieth.link n f := rfl
@[simp] theorem updLink_jieth_workers (s : State) (n : Nat) (f : LinkS → LinkS) : (updLink s n f).jieth.workers = s.jieth.workers := rfl
@[simp] theorem updLink_jieth_relays (s : State) (n : Nat) (f : LinkS → LinkS) : (updLink s n f).jieth.relays = s.jieth.relays := rfl
@[simp] theorem updLink_jieth_back (s : State) (n : Nat) (f : LinkS → LinkS) : (updLink s n f).jieth.back = s.jieth.back := rfl

@[simp] theorem updOut_pending (s : State) (n : Nat) (f : OutS → OutS) : (updOut s n f).pending = s.pending := rfl
@[simp] theorem updOut_regs (s : State) (n : Nat) (f : OutS → OutS) : (updOut s n f).regs = s.regs := rfl
@[simp] theorem updOut_staged (s : State) (n : Nat) (f : OutS → OutS) : (updOut s n f).staged = s.staged := rfl
@[simp] theorem updOut_mode (s : State) (n : Nat) (f : OutS → OutS) : (updOut s n f).mode = s.mode := rfl
@[simp] theorem updOut_power (s : State) (n : Nat) (f : OutS → OutS) : (updOut s n f).power = s.power := rfl
@[simp] theorem updOut_powerTo (s : State) (n : Nat) (f : OutS → OutS) : (updOut s n f).powerTo = s.powerTo := rfl
@[simp] theorem updOut_domains (s : State) (n : Nat) (f : OutS → OutS) : (updOut s n f).domains = s.domains := rfl
@[simp] theorem updOut_calEntry (s : State) (n : Nat) (f : OutS → OutS) : (updOut s n f).calEntry = s.calEntry := rfl
@[simp] theorem updOut_boot (s : State) (n : Nat) (f : OutS → OutS) : (updOut s n f).boot = s.boot := rfl
@[simp] theorem updOut_image (s : State) (n : Nat) (f : OutS → OutS) : (updOut s n f).image = s.image := rfl
@[simp] theorem updOut_cpUp (s : State) (n : Nat) (f : OutS → OutS) : (updOut s n f).cpUp = s.cpUp := rfl
@[simp] theorem updOut_wakeS (s : State) (n : Nat) (f : OutS → OutS) : (updOut s n f).wakeS = s.wakeS := rfl
@[simp] theorem updOut_idLoaded (s : State) (n : Nat) (f : OutS → OutS) : (updOut s n f).idLoaded = s.idLoaded := rfl
@[simp] theorem updOut_boardSet (s : State) (n : Nat) (f : OutS → OutS) : (updOut s n f).boardSet = s.boardSet := rfl
@[simp] theorem updOut_waking (s : State) (n : Nat) (f : OutS → OutS) : (updOut s n f).waking = s.waking := rfl
@[simp] theorem updOut_collapsed (s : State) (n : Nat) (f : OutS → OutS) : (updOut s n f).collapsed = s.collapsed := rfl
@[simp] theorem updOut_straps (s : State) (n : Nat) (f : OutS → OutS) : (updOut s n f).straps = s.straps := rfl
@[simp] theorem updOut_otp (s : State) (n : Nat) (f : OutS → OutS) : (updOut s n f).otp = s.otp := rfl
@[simp] theorem updOut_flash (s : State) (n : Nat) (f : OutS → OutS) : (updOut s n f).flash = s.flash := rfl
@[simp] theorem updOut_pins (s : State) (n : Nat) (f : OutS → OutS) : (updOut s n f).pins = s.pins := rfl
@[simp] theorem updOut_pcieUp (s : State) (n : Nat) (f : OutS → OutS) : (updOut s n f).pcieUp = s.pcieUp := rfl
@[simp] theorem updOut_hb (s : State) (n : Nat) (f : OutS → OutS) : (updOut s n f).hb = s.hb := rfl
@[simp] theorem updOut_hbAt (s : State) (n : Nat) (f : OutS → OutS) : (updOut s n f).hbAt = s.hbAt := rfl
@[simp] theorem updOut_clk (s : State) (n : Nat) (f : OutS → OutS) : (updOut s n f).clk = s.clk := rfl
@[simp] theorem updOut_sel (s : State) (n : Nat) (f : OutS → OutS) : (updOut s n f).sel = s.sel := rfl
@[simp] theorem updOut_ports (s : State) (n : Nat) (f : OutS → OutS) : (updOut s n f).ports = s.ports := rfl
@[simp] theorem updOut_jieth (s : State) (n : Nat) (f : OutS → OutS) : (updOut s n f).jieth = s.jieth := rfl
@[simp] theorem updOut_pair (s : State) (n : Nat) (f : OutS → OutS) : (updOut s n f).pair = s.pair := rfl
@[simp] theorem updOut_fab (s : State) (n : Nat) (f : OutS → OutS) : (updOut s n f).fab = s.fab := rfl
@[simp] theorem updOut_coarse (s : State) (n : Nat) (f : OutS → OutS) : (updOut s n f).coarse = s.coarse := rfl
@[simp] theorem updOut_gauges (s : State) (n : Nat) (f : OutS → OutS) : (updOut s n f).gauges = s.gauges := rfl
@[simp] theorem updOut_gnss (s : State) (n : Nat) (f : OutS → OutS) : (updOut s n f).gnss = s.gnss := rfl
@[simp] theorem updOut_engs (s : State) (n : Nat) (f : OutS → OutS) : (updOut s n f).engs = s.engs := rfl
@[simp] theorem updOut_cal (s : State) (n : Nat) (f : OutS → OutS) : (updOut s n f).cal = s.cal := rfl
@[simp] theorem updOut_cmd (s : State) (n : Nat) (f : OutS → OutS) : (updOut s n f).cmd = s.cmd := rfl
@[simp] theorem updOut_sec (s : State) (n : Nat) (f : OutS → OutS) : (updOut s n f).sec = s.sec := rfl
@[simp] theorem updOut_aud (s : State) (n : Nat) (f : OutS → OutS) : (updOut s n f).aud = s.aud := rfl
@[simp] theorem updOut_now (s : State) (n : Nat) (f : OutS → OutS) : (updOut s n f).now = s.now := rfl
@[simp] theorem updOut_out (s : State) (n : Nat) (f : OutS → OutS) : (updOut s n f).out = s.out := rfl
@[simp] theorem updOut_freeCtr (s : State) (n : Nat) (f : OutS → OutS) : (updOut s n f).freeCtr = s.freeCtr := rfl

@[simp] theorem updOut_tim_tod (s : State) (n : Nat) (f : OutS → OutS) : (updOut s n f).tim.tod = s.tim.tod := rfl
@[simp] theorem updOut_tim_phase (s : State) (n : Nat) (f : OutS → OutS) : (updOut s n f).tim.phase = s.tim.phase := rfl
@[simp] theorem updOut_tim_numeric (s : State) (n : Nat) (f : OutS → OutS) : (updOut s n f).tim.numeric = s.tim.numeric := rfl
@[simp] theorem updOut_tim_weirRem (s : State) (n : Nat) (f : OutS → OutS) : (updOut s n f).tim.weirRem = s.tim.weirRem := rfl
@[simp] theorem updOut_tim_weirAcc (s : State) (n : Nat) (f : OutS → OutS) : (updOut s n f).tim.weirAcc = s.tim.weirAcc := rfl
@[simp] theorem updOut_tim_pend (s : State) (n : Nat) (f : OutS → OutS) : (updOut s n f).tim.pend = s.tim.pend := rfl
@[simp] theorem updOut_tim_provisional (s : State) (n : Nat) (f : OutS → OutS) : (updOut s n f).tim.provisional = s.tim.provisional := rfl
@[simp] theorem updOut_tim_outs (s : State) (n : Nat) (f : OutS → OutS) : (updOut s n f).tim.outs = listUpd {} s.tim.outs n f := rfl

@[simp] theorem updEng_pending (s : State) (n : Nat) (f : Eng → Eng) : (updEng s n f).pending = s.pending := rfl
@[simp] theorem updEng_regs (s : State) (n : Nat) (f : Eng → Eng) : (updEng s n f).regs = s.regs := rfl
@[simp] theorem updEng_staged (s : State) (n : Nat) (f : Eng → Eng) : (updEng s n f).staged = s.staged := rfl
@[simp] theorem updEng_mode (s : State) (n : Nat) (f : Eng → Eng) : (updEng s n f).mode = s.mode := rfl
@[simp] theorem updEng_power (s : State) (n : Nat) (f : Eng → Eng) : (updEng s n f).power = s.power := rfl
@[simp] theorem updEng_powerTo (s : State) (n : Nat) (f : Eng → Eng) : (updEng s n f).powerTo = s.powerTo := rfl
@[simp] theorem updEng_domains (s : State) (n : Nat) (f : Eng → Eng) : (updEng s n f).domains = s.domains := rfl
@[simp] theorem updEng_calEntry (s : State) (n : Nat) (f : Eng → Eng) : (updEng s n f).calEntry = s.calEntry := rfl
@[simp] theorem updEng_boot (s : State) (n : Nat) (f : Eng → Eng) : (updEng s n f).boot = s.boot := rfl
@[simp] theorem updEng_image (s : State) (n : Nat) (f : Eng → Eng) : (updEng s n f).image = s.image := rfl
@[simp] theorem updEng_cpUp (s : State) (n : Nat) (f : Eng → Eng) : (updEng s n f).cpUp = s.cpUp := rfl
@[simp] theorem updEng_wakeS (s : State) (n : Nat) (f : Eng → Eng) : (updEng s n f).wakeS = s.wakeS := rfl
@[simp] theorem updEng_idLoaded (s : State) (n : Nat) (f : Eng → Eng) : (updEng s n f).idLoaded = s.idLoaded := rfl
@[simp] theorem updEng_boardSet (s : State) (n : Nat) (f : Eng → Eng) : (updEng s n f).boardSet = s.boardSet := rfl
@[simp] theorem updEng_waking (s : State) (n : Nat) (f : Eng → Eng) : (updEng s n f).waking = s.waking := rfl
@[simp] theorem updEng_collapsed (s : State) (n : Nat) (f : Eng → Eng) : (updEng s n f).collapsed = s.collapsed := rfl
@[simp] theorem updEng_straps (s : State) (n : Nat) (f : Eng → Eng) : (updEng s n f).straps = s.straps := rfl
@[simp] theorem updEng_otp (s : State) (n : Nat) (f : Eng → Eng) : (updEng s n f).otp = s.otp := rfl
@[simp] theorem updEng_flash (s : State) (n : Nat) (f : Eng → Eng) : (updEng s n f).flash = s.flash := rfl
@[simp] theorem updEng_pins (s : State) (n : Nat) (f : Eng → Eng) : (updEng s n f).pins = s.pins := rfl
@[simp] theorem updEng_pcieUp (s : State) (n : Nat) (f : Eng → Eng) : (updEng s n f).pcieUp = s.pcieUp := rfl
@[simp] theorem updEng_hb (s : State) (n : Nat) (f : Eng → Eng) : (updEng s n f).hb = s.hb := rfl
@[simp] theorem updEng_hbAt (s : State) (n : Nat) (f : Eng → Eng) : (updEng s n f).hbAt = s.hbAt := rfl
@[simp] theorem updEng_clk (s : State) (n : Nat) (f : Eng → Eng) : (updEng s n f).clk = s.clk := rfl
@[simp] theorem updEng_tim (s : State) (n : Nat) (f : Eng → Eng) : (updEng s n f).tim = s.tim := rfl
@[simp] theorem updEng_sel (s : State) (n : Nat) (f : Eng → Eng) : (updEng s n f).sel = s.sel := rfl
@[simp] theorem updEng_ports (s : State) (n : Nat) (f : Eng → Eng) : (updEng s n f).ports = s.ports := rfl
@[simp] theorem updEng_jieth (s : State) (n : Nat) (f : Eng → Eng) : (updEng s n f).jieth = s.jieth := rfl
@[simp] theorem updEng_pair (s : State) (n : Nat) (f : Eng → Eng) : (updEng s n f).pair = s.pair := rfl
@[simp] theorem updEng_fab (s : State) (n : Nat) (f : Eng → Eng) : (updEng s n f).fab = s.fab := rfl
@[simp] theorem updEng_coarse (s : State) (n : Nat) (f : Eng → Eng) : (updEng s n f).coarse = s.coarse := rfl
@[simp] theorem updEng_gauges (s : State) (n : Nat) (f : Eng → Eng) : (updEng s n f).gauges = s.gauges := rfl
@[simp] theorem updEng_gnss (s : State) (n : Nat) (f : Eng → Eng) : (updEng s n f).gnss = s.gnss := rfl
@[simp] theorem updEng_cal (s : State) (n : Nat) (f : Eng → Eng) : (updEng s n f).cal = s.cal := rfl
@[simp] theorem updEng_cmd (s : State) (n : Nat) (f : Eng → Eng) : (updEng s n f).cmd = s.cmd := rfl
@[simp] theorem updEng_sec (s : State) (n : Nat) (f : Eng → Eng) : (updEng s n f).sec = s.sec := rfl
@[simp] theorem updEng_aud (s : State) (n : Nat) (f : Eng → Eng) : (updEng s n f).aud = s.aud := rfl
@[simp] theorem updEng_now (s : State) (n : Nat) (f : Eng → Eng) : (updEng s n f).now = s.now := rfl
@[simp] theorem updEng_out (s : State) (n : Nat) (f : Eng → Eng) : (updEng s n f).out = s.out := rfl
@[simp] theorem updEng_freeCtr (s : State) (n : Nat) (f : Eng → Eng) : (updEng s n f).freeCtr = s.freeCtr := rfl

@[simp] theorem updEng_engs_eng (s : State) (n : Nat) (f : Eng → Eng) : (updEng s n f).engs.eng = listUpd {} s.engs.eng n f := rfl
@[simp] theorem updEng_engs_ftrim (s : State) (n : Nat) (f : Eng → Eng) : (updEng s n f).engs.ftrim = s.engs.ftrim := rfl
@[simp] theorem updEng_engs_ptrim (s : State) (n : Nat) (f : Eng → Eng) : (updEng s n f).engs.ptrim = s.engs.ptrim := rfl
@[simp] theorem updEng_engs_sinceCommit (s : State) (n : Nat) (f : Eng → Eng) : (updEng s n f).engs.sinceCommit = s.engs.sinceCommit := rfl
@[simp] theorem updEng_engs_count (s : State) (n : Nat) (f : Eng → Eng) : (updEng s n f).engs.count = s.engs.count := rfl
@[simp] theorem updEng_engs_lfsr (s : State) (n : Nat) (f : Eng → Eng) : (updEng s n f).engs.lfsr = s.engs.lfsr := rfl
@[simp] theorem updEng_engs_tagEng (s : State) (n : Nat) (f : Eng → Eng) : (updEng s n f).engs.tagEng = s.engs.tagEng := rfl
@[simp] theorem updEng_engs_tagOpen (s : State) (n : Nat) (f : Eng → Eng) : (updEng s n f).engs.tagOpen = s.engs.tagOpen := rfl
@[simp] theorem updEng_engs_tagBase (s : State) (n : Nat) (f : Eng → Eng) : (updEng s n f).engs.tagBase = s.engs.tagBase := rfl
@[simp] theorem updEng_engs_buf (s : State) (n : Nat) (f : Eng → Eng) : (updEng s n f).engs.buf = s.engs.buf := rfl
@[simp] theorem updEng_engs_seq (s : State) (n : Nat) (f : Eng → Eng) : (updEng s n f).engs.seq = s.engs.seq := rfl
@[simp] theorem updEng_engs_lost (s : State) (n : Nat) (f : Eng → Eng) : (updEng s n f).engs.lost = s.engs.lost := rfl

@[simp] theorem updGate_pending (s : State) (n : Nat) (f : GateS → GateS) : (updGate s n f).pending = s.pending := rfl
@[simp] theorem updGate_regs (s : State) (n : Nat) (f : GateS → GateS) : (updGate s n f).regs = s.regs := rfl
@[simp] theorem updGate_staged (s : State) (n : Nat) (f : GateS → GateS) : (updGate s n f).staged = s.staged := rfl
@[simp] theorem updGate_mode (s : State) (n : Nat) (f : GateS → GateS) : (updGate s n f).mode = s.mode := rfl
@[simp] theorem updGate_power (s : State) (n : Nat) (f : GateS → GateS) : (updGate s n f).power = s.power := rfl
@[simp] theorem updGate_powerTo (s : State) (n : Nat) (f : GateS → GateS) : (updGate s n f).powerTo = s.powerTo := rfl
@[simp] theorem updGate_domains (s : State) (n : Nat) (f : GateS → GateS) : (updGate s n f).domains = s.domains := rfl
@[simp] theorem updGate_calEntry (s : State) (n : Nat) (f : GateS → GateS) : (updGate s n f).calEntry = s.calEntry := rfl
@[simp] theorem updGate_boot (s : State) (n : Nat) (f : GateS → GateS) : (updGate s n f).boot = s.boot := rfl
@[simp] theorem updGate_image (s : State) (n : Nat) (f : GateS → GateS) : (updGate s n f).image = s.image := rfl
@[simp] theorem updGate_cpUp (s : State) (n : Nat) (f : GateS → GateS) : (updGate s n f).cpUp = s.cpUp := rfl
@[simp] theorem updGate_wakeS (s : State) (n : Nat) (f : GateS → GateS) : (updGate s n f).wakeS = s.wakeS := rfl
@[simp] theorem updGate_idLoaded (s : State) (n : Nat) (f : GateS → GateS) : (updGate s n f).idLoaded = s.idLoaded := rfl
@[simp] theorem updGate_boardSet (s : State) (n : Nat) (f : GateS → GateS) : (updGate s n f).boardSet = s.boardSet := rfl
@[simp] theorem updGate_waking (s : State) (n : Nat) (f : GateS → GateS) : (updGate s n f).waking = s.waking := rfl
@[simp] theorem updGate_collapsed (s : State) (n : Nat) (f : GateS → GateS) : (updGate s n f).collapsed = s.collapsed := rfl
@[simp] theorem updGate_straps (s : State) (n : Nat) (f : GateS → GateS) : (updGate s n f).straps = s.straps := rfl
@[simp] theorem updGate_otp (s : State) (n : Nat) (f : GateS → GateS) : (updGate s n f).otp = s.otp := rfl
@[simp] theorem updGate_flash (s : State) (n : Nat) (f : GateS → GateS) : (updGate s n f).flash = s.flash := rfl
@[simp] theorem updGate_pins (s : State) (n : Nat) (f : GateS → GateS) : (updGate s n f).pins = s.pins := rfl
@[simp] theorem updGate_pcieUp (s : State) (n : Nat) (f : GateS → GateS) : (updGate s n f).pcieUp = s.pcieUp := rfl
@[simp] theorem updGate_hb (s : State) (n : Nat) (f : GateS → GateS) : (updGate s n f).hb = s.hb := rfl
@[simp] theorem updGate_hbAt (s : State) (n : Nat) (f : GateS → GateS) : (updGate s n f).hbAt = s.hbAt := rfl
@[simp] theorem updGate_clk (s : State) (n : Nat) (f : GateS → GateS) : (updGate s n f).clk = s.clk := rfl
@[simp] theorem updGate_tim (s : State) (n : Nat) (f : GateS → GateS) : (updGate s n f).tim = s.tim := rfl
@[simp] theorem updGate_sel (s : State) (n : Nat) (f : GateS → GateS) : (updGate s n f).sel = s.sel := rfl
@[simp] theorem updGate_ports (s : State) (n : Nat) (f : GateS → GateS) : (updGate s n f).ports = s.ports := rfl
@[simp] theorem updGate_jieth (s : State) (n : Nat) (f : GateS → GateS) : (updGate s n f).jieth = s.jieth := rfl
@[simp] theorem updGate_pair (s : State) (n : Nat) (f : GateS → GateS) : (updGate s n f).pair = s.pair := rfl
@[simp] theorem updGate_coarse (s : State) (n : Nat) (f : GateS → GateS) : (updGate s n f).coarse = s.coarse := rfl
@[simp] theorem updGate_gauges (s : State) (n : Nat) (f : GateS → GateS) : (updGate s n f).gauges = s.gauges := rfl
@[simp] theorem updGate_gnss (s : State) (n : Nat) (f : GateS → GateS) : (updGate s n f).gnss = s.gnss := rfl
@[simp] theorem updGate_engs (s : State) (n : Nat) (f : GateS → GateS) : (updGate s n f).engs = s.engs := rfl
@[simp] theorem updGate_cal (s : State) (n : Nat) (f : GateS → GateS) : (updGate s n f).cal = s.cal := rfl
@[simp] theorem updGate_cmd (s : State) (n : Nat) (f : GateS → GateS) : (updGate s n f).cmd = s.cmd := rfl
@[simp] theorem updGate_sec (s : State) (n : Nat) (f : GateS → GateS) : (updGate s n f).sec = s.sec := rfl
@[simp] theorem updGate_aud (s : State) (n : Nat) (f : GateS → GateS) : (updGate s n f).aud = s.aud := rfl
@[simp] theorem updGate_now (s : State) (n : Nat) (f : GateS → GateS) : (updGate s n f).now = s.now := rfl
@[simp] theorem updGate_out (s : State) (n : Nat) (f : GateS → GateS) : (updGate s n f).out = s.out := rfl
@[simp] theorem updGate_freeCtr (s : State) (n : Nat) (f : GateS → GateS) : (updGate s n f).freeCtr = s.freeCtr := rfl

@[simp] theorem updGate_fab_cells (s : State) (n : Nat) (f : GateS → GateS) : (updGate s n f).fab.cells = s.fab.cells := rfl
@[simp] theorem updGate_fab_load (s : State) (n : Nat) (f : GateS → GateS) : (updGate s n f).fab.load = s.fab.load := rfl
@[simp] theorem updGate_fab_macs (s : State) (n : Nat) (f : GateS → GateS) : (updGate s n f).fab.macs = s.fab.macs := rfl
@[simp] theorem updGate_fab_vlans (s : State) (n : Nat) (f : GateS → GateS) : (updGate s n f).fab.vlans = s.fab.vlans := rfl
@[simp] theorem updGate_fab_frames (s : State) (n : Nat) (f : GateS → GateS) : (updGate s n f).fab.frames = s.fab.frames := rfl
@[simp] theorem updGate_fab_deficit (s : State) (n : Nat) (f : GateS → GateS) : (updGate s n f).fab.deficit = s.fab.deficit := rfl
@[simp] theorem updGate_fab_drr (s : State) (n : Nat) (f : GateS → GateS) : (updGate s n f).fab.drr = s.fab.drr := rfl
@[simp] theorem updGate_fab_sluice (s : State) (n : Nat) (f : GateS → GateS) : (updGate s n f).fab.sluice = s.fab.sluice := rfl
@[simp] theorem updGate_fab_gates (s : State) (n : Nat) (f : GateS → GateS) : (updGate s n f).fab.gates = listUpd {} s.fab.gates n f := rfl
@[simp] theorem updGate_fab_ingress (s : State) (n : Nat) (f : GateS → GateS) : (updGate s n f).fab.ingress = s.fab.ingress := rfl
@[simp] theorem updGate_fab_admitAt (s : State) (n : Nat) (f : GateS → GateS) : (updGate s n f).fab.admitAt = s.fab.admitAt := rfl
@[simp] theorem updGate_fab_egress (s : State) (n : Nat) (f : GateS → GateS) : (updGate s n f).fab.egress = s.fab.egress := rfl

@[simp] theorem updGauge_pending (s : State) (n : Nat) (f : GaugeS → GaugeS) : (updGauge s n f).pending = s.pending := rfl
@[simp] theorem updGauge_regs (s : State) (n : Nat) (f : GaugeS → GaugeS) : (updGauge s n f).regs = s.regs := rfl
@[simp] theorem updGauge_staged (s : State) (n : Nat) (f : GaugeS → GaugeS) : (updGauge s n f).staged = s.staged := rfl
@[simp] theorem updGauge_mode (s : State) (n : Nat) (f : GaugeS → GaugeS) : (updGauge s n f).mode = s.mode := rfl
@[simp] theorem updGauge_power (s : State) (n : Nat) (f : GaugeS → GaugeS) : (updGauge s n f).power = s.power := rfl
@[simp] theorem updGauge_powerTo (s : State) (n : Nat) (f : GaugeS → GaugeS) : (updGauge s n f).powerTo = s.powerTo := rfl
@[simp] theorem updGauge_domains (s : State) (n : Nat) (f : GaugeS → GaugeS) : (updGauge s n f).domains = s.domains := rfl
@[simp] theorem updGauge_calEntry (s : State) (n : Nat) (f : GaugeS → GaugeS) : (updGauge s n f).calEntry = s.calEntry := rfl
@[simp] theorem updGauge_boot (s : State) (n : Nat) (f : GaugeS → GaugeS) : (updGauge s n f).boot = s.boot := rfl
@[simp] theorem updGauge_image (s : State) (n : Nat) (f : GaugeS → GaugeS) : (updGauge s n f).image = s.image := rfl
@[simp] theorem updGauge_cpUp (s : State) (n : Nat) (f : GaugeS → GaugeS) : (updGauge s n f).cpUp = s.cpUp := rfl
@[simp] theorem updGauge_wakeS (s : State) (n : Nat) (f : GaugeS → GaugeS) : (updGauge s n f).wakeS = s.wakeS := rfl
@[simp] theorem updGauge_idLoaded (s : State) (n : Nat) (f : GaugeS → GaugeS) : (updGauge s n f).idLoaded = s.idLoaded := rfl
@[simp] theorem updGauge_boardSet (s : State) (n : Nat) (f : GaugeS → GaugeS) : (updGauge s n f).boardSet = s.boardSet := rfl
@[simp] theorem updGauge_waking (s : State) (n : Nat) (f : GaugeS → GaugeS) : (updGauge s n f).waking = s.waking := rfl
@[simp] theorem updGauge_collapsed (s : State) (n : Nat) (f : GaugeS → GaugeS) : (updGauge s n f).collapsed = s.collapsed := rfl
@[simp] theorem updGauge_straps (s : State) (n : Nat) (f : GaugeS → GaugeS) : (updGauge s n f).straps = s.straps := rfl
@[simp] theorem updGauge_otp (s : State) (n : Nat) (f : GaugeS → GaugeS) : (updGauge s n f).otp = s.otp := rfl
@[simp] theorem updGauge_flash (s : State) (n : Nat) (f : GaugeS → GaugeS) : (updGauge s n f).flash = s.flash := rfl
@[simp] theorem updGauge_pins (s : State) (n : Nat) (f : GaugeS → GaugeS) : (updGauge s n f).pins = s.pins := rfl
@[simp] theorem updGauge_pcieUp (s : State) (n : Nat) (f : GaugeS → GaugeS) : (updGauge s n f).pcieUp = s.pcieUp := rfl
@[simp] theorem updGauge_hb (s : State) (n : Nat) (f : GaugeS → GaugeS) : (updGauge s n f).hb = s.hb := rfl
@[simp] theorem updGauge_hbAt (s : State) (n : Nat) (f : GaugeS → GaugeS) : (updGauge s n f).hbAt = s.hbAt := rfl
@[simp] theorem updGauge_clk (s : State) (n : Nat) (f : GaugeS → GaugeS) : (updGauge s n f).clk = s.clk := rfl
@[simp] theorem updGauge_tim (s : State) (n : Nat) (f : GaugeS → GaugeS) : (updGauge s n f).tim = s.tim := rfl
@[simp] theorem updGauge_sel (s : State) (n : Nat) (f : GaugeS → GaugeS) : (updGauge s n f).sel = s.sel := rfl
@[simp] theorem updGauge_ports (s : State) (n : Nat) (f : GaugeS → GaugeS) : (updGauge s n f).ports = s.ports := rfl
@[simp] theorem updGauge_jieth (s : State) (n : Nat) (f : GaugeS → GaugeS) : (updGauge s n f).jieth = s.jieth := rfl
@[simp] theorem updGauge_pair (s : State) (n : Nat) (f : GaugeS → GaugeS) : (updGauge s n f).pair = s.pair := rfl
@[simp] theorem updGauge_fab (s : State) (n : Nat) (f : GaugeS → GaugeS) : (updGauge s n f).fab = s.fab := rfl
@[simp] theorem updGauge_coarse (s : State) (n : Nat) (f : GaugeS → GaugeS) : (updGauge s n f).coarse = s.coarse := rfl
@[simp] theorem updGauge_gnss (s : State) (n : Nat) (f : GaugeS → GaugeS) : (updGauge s n f).gnss = s.gnss := rfl
@[simp] theorem updGauge_engs (s : State) (n : Nat) (f : GaugeS → GaugeS) : (updGauge s n f).engs = s.engs := rfl
@[simp] theorem updGauge_cal (s : State) (n : Nat) (f : GaugeS → GaugeS) : (updGauge s n f).cal = s.cal := rfl
@[simp] theorem updGauge_cmd (s : State) (n : Nat) (f : GaugeS → GaugeS) : (updGauge s n f).cmd = s.cmd := rfl
@[simp] theorem updGauge_sec (s : State) (n : Nat) (f : GaugeS → GaugeS) : (updGauge s n f).sec = s.sec := rfl
@[simp] theorem updGauge_aud (s : State) (n : Nat) (f : GaugeS → GaugeS) : (updGauge s n f).aud = s.aud := rfl
@[simp] theorem updGauge_now (s : State) (n : Nat) (f : GaugeS → GaugeS) : (updGauge s n f).now = s.now := rfl
@[simp] theorem updGauge_out (s : State) (n : Nat) (f : GaugeS → GaugeS) : (updGauge s n f).out = s.out := rfl
@[simp] theorem updGauge_freeCtr (s : State) (n : Nat) (f : GaugeS → GaugeS) : (updGauge s n f).freeCtr = s.freeCtr := rfl

@[simp] theorem updGauge_gauges (s : State) (n : Nat) (f : GaugeS → GaugeS) : (updGauge s n f).gauges = listUpd {} s.gauges n f := rfl

/-! ### Interrupt routing -/

/-- Messages go to the boundary record; nothing else changes. -/
theorem msixEdges_eq (old : Nat) (s : State) : ∃ l, msixEdges old s = { s with out := s.out ++ l } := by
  unfold msixEdges
  split
  · suffices h : ∀ (u : State) (l : List Nat) (t : State), (∃ m, t = { s with out := s.out ++ m }) → ∃ m,
        l.foldl (fun t k => if bits (intActive u) k 1 = 1 ∧ bits old k 1 = 0 then emit t (.msix (getF u Reg.SYS_INT_CFG_VECTOR)) else t) t
          = { s with out := s.out ++ m } from h s _ s ⟨[], by simp⟩
    intro u l
    induction l with
    | nil => intro t h; exact h
    | cons k r ih =>
      intro t ⟨m, h⟩
      refine ih _ ?_
      dsimp only
      split
      · exact ⟨m ++ [.msix (getF u Reg.SYS_INT_CFG_VECTOR)], by simp [emit, h]⟩
      · exact ⟨m, h⟩
  · exact ⟨[], by simp⟩

@[simp] theorem msixEdges_pending (old : Nat) (s : State) : (msixEdges old s).pending = s.pending := by
  obtain ⟨l, h⟩ := msixEdges_eq old s; rw [h]
@[simp] theorem msixEdges_regs (old : Nat) (s : State) : (msixEdges old s).regs = s.regs := by
  obtain ⟨l, h⟩ := msixEdges_eq old s; rw [h]
@[simp] theorem msixEdges_staged (old : Nat) (s : State) : (msixEdges old s).staged = s.staged := by
  obtain ⟨l, h⟩ := msixEdges_eq old s; rw [h]
@[simp] theorem msixEdges_mode (old : Nat) (s : State) : (msixEdges old s).mode = s.mode := by
  obtain ⟨l, h⟩ := msixEdges_eq old s; rw [h]
@[simp] theorem msixEdges_power (old : Nat) (s : State) : (msixEdges old s).power = s.power := by
  obtain ⟨l, h⟩ := msixEdges_eq old s; rw [h]
@[simp] theorem msixEdges_powerTo (old : Nat) (s : State) : (msixEdges old s).powerTo = s.powerTo := by
  obtain ⟨l, h⟩ := msixEdges_eq old s; rw [h]
@[simp] theorem msixEdges_domains (old : Nat) (s : State) : (msixEdges old s).domains = s.domains := by
  obtain ⟨l, h⟩ := msixEdges_eq old s; rw [h]
@[simp] theorem msixEdges_calEntry (old : Nat) (s : State) : (msixEdges old s).calEntry = s.calEntry := by
  obtain ⟨l, h⟩ := msixEdges_eq old s; rw [h]
@[simp] theorem msixEdges_boot (old : Nat) (s : State) : (msixEdges old s).boot = s.boot := by
  obtain ⟨l, h⟩ := msixEdges_eq old s; rw [h]
@[simp] theorem msixEdges_image (old : Nat) (s : State) : (msixEdges old s).image = s.image := by
  obtain ⟨l, h⟩ := msixEdges_eq old s; rw [h]
@[simp] theorem msixEdges_cpUp (old : Nat) (s : State) : (msixEdges old s).cpUp = s.cpUp := by
  obtain ⟨l, h⟩ := msixEdges_eq old s; rw [h]
@[simp] theorem msixEdges_wakeS (old : Nat) (s : State) : (msixEdges old s).wakeS = s.wakeS := by
  obtain ⟨l, h⟩ := msixEdges_eq old s; rw [h]
@[simp] theorem msixEdges_idLoaded (old : Nat) (s : State) : (msixEdges old s).idLoaded = s.idLoaded := by
  obtain ⟨l, h⟩ := msixEdges_eq old s; rw [h]
@[simp] theorem msixEdges_boardSet (old : Nat) (s : State) : (msixEdges old s).boardSet = s.boardSet := by
  obtain ⟨l, h⟩ := msixEdges_eq old s; rw [h]
@[simp] theorem msixEdges_waking (old : Nat) (s : State) : (msixEdges old s).waking = s.waking := by
  obtain ⟨l, h⟩ := msixEdges_eq old s; rw [h]
@[simp] theorem msixEdges_collapsed (old : Nat) (s : State) : (msixEdges old s).collapsed = s.collapsed := by
  obtain ⟨l, h⟩ := msixEdges_eq old s; rw [h]
@[simp] theorem msixEdges_straps (old : Nat) (s : State) : (msixEdges old s).straps = s.straps := by
  obtain ⟨l, h⟩ := msixEdges_eq old s; rw [h]
@[simp] theorem msixEdges_otp (old : Nat) (s : State) : (msixEdges old s).otp = s.otp := by
  obtain ⟨l, h⟩ := msixEdges_eq old s; rw [h]
@[simp] theorem msixEdges_flash (old : Nat) (s : State) : (msixEdges old s).flash = s.flash := by
  obtain ⟨l, h⟩ := msixEdges_eq old s; rw [h]
@[simp] theorem msixEdges_pins (old : Nat) (s : State) : (msixEdges old s).pins = s.pins := by
  obtain ⟨l, h⟩ := msixEdges_eq old s; rw [h]
@[simp] theorem msixEdges_pcieUp (old : Nat) (s : State) : (msixEdges old s).pcieUp = s.pcieUp := by
  obtain ⟨l, h⟩ := msixEdges_eq old s; rw [h]
@[simp] theorem msixEdges_hb (old : Nat) (s : State) : (msixEdges old s).hb = s.hb := by
  obtain ⟨l, h⟩ := msixEdges_eq old s; rw [h]
@[simp] theorem msixEdges_hbAt (old : Nat) (s : State) : (msixEdges old s).hbAt = s.hbAt := by
  obtain ⟨l, h⟩ := msixEdges_eq old s; rw [h]
@[simp] theorem msixEdges_clk (old : Nat) (s : State) : (msixEdges old s).clk = s.clk := by
  obtain ⟨l, h⟩ := msixEdges_eq old s; rw [h]
@[simp] theorem msixEdges_tim (old : Nat) (s : State) : (msixEdges old s).tim = s.tim := by
  obtain ⟨l, h⟩ := msixEdges_eq old s; rw [h]
@[simp] theorem msixEdges_sel (old : Nat) (s : State) : (msixEdges old s).sel = s.sel := by
  obtain ⟨l, h⟩ := msixEdges_eq old s; rw [h]
@[simp] theorem msixEdges_ports (old : Nat) (s : State) : (msixEdges old s).ports = s.ports := by
  obtain ⟨l, h⟩ := msixEdges_eq old s; rw [h]
@[simp] theorem msixEdges_jieth (old : Nat) (s : State) : (msixEdges old s).jieth = s.jieth := by
  obtain ⟨l, h⟩ := msixEdges_eq old s; rw [h]
@[simp] theorem msixEdges_pair (old : Nat) (s : State) : (msixEdges old s).pair = s.pair := by
  obtain ⟨l, h⟩ := msixEdges_eq old s; rw [h]
@[simp] theorem msixEdges_fab (old : Nat) (s : State) : (msixEdges old s).fab = s.fab := by
  obtain ⟨l, h⟩ := msixEdges_eq old s; rw [h]
@[simp] theorem msixEdges_coarse (old : Nat) (s : State) : (msixEdges old s).coarse = s.coarse := by
  obtain ⟨l, h⟩ := msixEdges_eq old s; rw [h]
@[simp] theorem msixEdges_gauges (old : Nat) (s : State) : (msixEdges old s).gauges = s.gauges := by
  obtain ⟨l, h⟩ := msixEdges_eq old s; rw [h]
@[simp] theorem msixEdges_gnss (old : Nat) (s : State) : (msixEdges old s).gnss = s.gnss := by
  obtain ⟨l, h⟩ := msixEdges_eq old s; rw [h]
@[simp] theorem msixEdges_engs (old : Nat) (s : State) : (msixEdges old s).engs = s.engs := by
  obtain ⟨l, h⟩ := msixEdges_eq old s; rw [h]
@[simp] theorem msixEdges_cal (old : Nat) (s : State) : (msixEdges old s).cal = s.cal := by
  obtain ⟨l, h⟩ := msixEdges_eq old s; rw [h]
@[simp] theorem msixEdges_cmd (old : Nat) (s : State) : (msixEdges old s).cmd = s.cmd := by
  obtain ⟨l, h⟩ := msixEdges_eq old s; rw [h]
@[simp] theorem msixEdges_sec (old : Nat) (s : State) : (msixEdges old s).sec = s.sec := by
  obtain ⟨l, h⟩ := msixEdges_eq old s; rw [h]
@[simp] theorem msixEdges_aud (old : Nat) (s : State) : (msixEdges old s).aud = s.aud := by
  obtain ⟨l, h⟩ := msixEdges_eq old s; rw [h]
@[simp] theorem msixEdges_now (old : Nat) (s : State) : (msixEdges old s).now = s.now := by
  obtain ⟨l, h⟩ := msixEdges_eq old s; rw [h]
@[simp] theorem msixEdges_freeCtr (old : Nat) (s : State) : (msixEdges old s).freeCtr = s.freeCtr := by
  obtain ⟨l, h⟩ := msixEdges_eq old s; rw [h]

@[simp] theorem raise_pending (s : State) (g : Fld) : (raise s g).pending = s.pending := by simp [raise]
@[simp] theorem raise_staged (s : State) (g : Fld) : (raise s g).staged = s.staged := by simp [raise]
@[simp] theorem raise_mode (s : State) (g : Fld) : (raise s g).mode = s.mode := by simp [raise]
@[simp] theorem raise_power (s : State) (g : Fld) : (raise s g).power = s.power := by simp [raise]
@[simp] theorem raise_powerTo (s : State) (g : Fld) : (raise s g).powerTo = s.powerTo := by simp [raise]
@[simp] theorem raise_domains (s : State) (g : Fld) : (raise s g).domains = s.domains := by simp [raise]
@[simp] theorem raise_calEntry (s : State) (g : Fld) : (raise s g).calEntry = s.calEntry := by simp [raise]
@[simp] theorem raise_boot (s : State) (g : Fld) : (raise s g).boot = s.boot := by simp [raise]
@[simp] theorem raise_image (s : State) (g : Fld) : (raise s g).image = s.image := by simp [raise]
@[simp] theorem raise_cpUp (s : State) (g : Fld) : (raise s g).cpUp = s.cpUp := by simp [raise]
@[simp] theorem raise_wakeS (s : State) (g : Fld) : (raise s g).wakeS = s.wakeS := by simp [raise]
@[simp] theorem raise_idLoaded (s : State) (g : Fld) : (raise s g).idLoaded = s.idLoaded := by simp [raise]
@[simp] theorem raise_boardSet (s : State) (g : Fld) : (raise s g).boardSet = s.boardSet := by simp [raise]
@[simp] theorem raise_waking (s : State) (g : Fld) : (raise s g).waking = s.waking := by simp [raise]
@[simp] theorem raise_collapsed (s : State) (g : Fld) : (raise s g).collapsed = s.collapsed := by simp [raise]
@[simp] theorem raise_straps (s : State) (g : Fld) : (raise s g).straps = s.straps := by simp [raise]
@[simp] theorem raise_otp (s : State) (g : Fld) : (raise s g).otp = s.otp := by simp [raise]
@[simp] theorem raise_flash (s : State) (g : Fld) : (raise s g).flash = s.flash := by simp [raise]
@[simp] theorem raise_pins (s : State) (g : Fld) : (raise s g).pins = s.pins := by simp [raise]
@[simp] theorem raise_pcieUp (s : State) (g : Fld) : (raise s g).pcieUp = s.pcieUp := by simp [raise]
@[simp] theorem raise_hb (s : State) (g : Fld) : (raise s g).hb = s.hb := by simp [raise]
@[simp] theorem raise_hbAt (s : State) (g : Fld) : (raise s g).hbAt = s.hbAt := by simp [raise]
@[simp] theorem raise_clk (s : State) (g : Fld) : (raise s g).clk = s.clk := by simp [raise]
@[simp] theorem raise_tim (s : State) (g : Fld) : (raise s g).tim = s.tim := by simp [raise]
@[simp] theorem raise_sel (s : State) (g : Fld) : (raise s g).sel = s.sel := by simp [raise]
@[simp] theorem raise_ports (s : State) (g : Fld) : (raise s g).ports = s.ports := by simp [raise]
@[simp] theorem raise_jieth (s : State) (g : Fld) : (raise s g).jieth = s.jieth := by simp [raise]
@[simp] theorem raise_pair (s : State) (g : Fld) : (raise s g).pair = s.pair := by simp [raise]
@[simp] theorem raise_fab (s : State) (g : Fld) : (raise s g).fab = s.fab := by simp [raise]
@[simp] theorem raise_coarse (s : State) (g : Fld) : (raise s g).coarse = s.coarse := by simp [raise]
@[simp] theorem raise_gauges (s : State) (g : Fld) : (raise s g).gauges = s.gauges := by simp [raise]
@[simp] theorem raise_gnss (s : State) (g : Fld) : (raise s g).gnss = s.gnss := by simp [raise]
@[simp] theorem raise_engs (s : State) (g : Fld) : (raise s g).engs = s.engs := by simp [raise]
@[simp] theorem raise_cal (s : State) (g : Fld) : (raise s g).cal = s.cal := by simp [raise]
@[simp] theorem raise_cmd (s : State) (g : Fld) : (raise s g).cmd = s.cmd := by simp [raise]
@[simp] theorem raise_sec (s : State) (g : Fld) : (raise s g).sec = s.sec := by simp [raise]
@[simp] theorem raise_aud (s : State) (g : Fld) : (raise s g).aud = s.aud := by simp [raise]
@[simp] theorem raise_now (s : State) (g : Fld) : (raise s g).now = s.now := by simp [raise]
@[simp] theorem raise_freeCtr (s : State) (g : Fld) : (raise s g).freeCtr = s.freeCtr := by simp [raise]
@[simp] theorem raise_regs (s : State) (g : Fld) : (raise s g).regs = (setF s g 1).regs := by simp [raise]

@[simp] theorem raiseIf_pending (b : Bool) (s : State) (g : Fld) : (raiseIf b s g).pending = s.pending := by cases b <;> simp [raiseIf]
@[simp] theorem raiseIf_staged (b : Bool) (s : State) (g : Fld) : (raiseIf b s g).staged = s.staged := by cases b <;> simp [raiseIf]
@[simp] theorem raiseIf_mode (b : Bool) (s : State) (g : Fld) : (raiseIf b s g).mode = s.mode := by cases b <;> simp [raiseIf]
@[simp] theorem raiseIf_power (b : Bool) (s : State) (g : Fld) : (raiseIf b s g).power = s.power := by cases b <;> simp [raiseIf]
@[simp] theorem raiseIf_powerTo (b : Bool) (s : State) (g : Fld) : (raiseIf b s g).powerTo = s.powerTo := by cases b <;> simp [raiseIf]
@[simp] theorem raiseIf_domains (b : Bool) (s : State) (g : Fld) : (raiseIf b s g).domains = s.domains := by cases b <;> simp [raiseIf]
@[simp] theorem raiseIf_calEntry (b : Bool) (s : State) (g : Fld) : (raiseIf b s g).calEntry = s.calEntry := by cases b <;> simp [raiseIf]
@[simp] theorem raiseIf_boot (b : Bool) (s : State) (g : Fld) : (raiseIf b s g).boot = s.boot := by cases b <;> simp [raiseIf]
@[simp] theorem raiseIf_image (b : Bool) (s : State) (g : Fld) : (raiseIf b s g).image = s.image := by cases b <;> simp [raiseIf]
@[simp] theorem raiseIf_cpUp (b : Bool) (s : State) (g : Fld) : (raiseIf b s g).cpUp = s.cpUp := by cases b <;> simp [raiseIf]
@[simp] theorem raiseIf_wakeS (b : Bool) (s : State) (g : Fld) : (raiseIf b s g).wakeS = s.wakeS := by cases b <;> simp [raiseIf]
@[simp] theorem raiseIf_idLoaded (b : Bool) (s : State) (g : Fld) : (raiseIf b s g).idLoaded = s.idLoaded := by cases b <;> simp [raiseIf]
@[simp] theorem raiseIf_boardSet (b : Bool) (s : State) (g : Fld) : (raiseIf b s g).boardSet = s.boardSet := by cases b <;> simp [raiseIf]
@[simp] theorem raiseIf_waking (b : Bool) (s : State) (g : Fld) : (raiseIf b s g).waking = s.waking := by cases b <;> simp [raiseIf]
@[simp] theorem raiseIf_collapsed (b : Bool) (s : State) (g : Fld) : (raiseIf b s g).collapsed = s.collapsed := by cases b <;> simp [raiseIf]
@[simp] theorem raiseIf_straps (b : Bool) (s : State) (g : Fld) : (raiseIf b s g).straps = s.straps := by cases b <;> simp [raiseIf]
@[simp] theorem raiseIf_otp (b : Bool) (s : State) (g : Fld) : (raiseIf b s g).otp = s.otp := by cases b <;> simp [raiseIf]
@[simp] theorem raiseIf_flash (b : Bool) (s : State) (g : Fld) : (raiseIf b s g).flash = s.flash := by cases b <;> simp [raiseIf]
@[simp] theorem raiseIf_pins (b : Bool) (s : State) (g : Fld) : (raiseIf b s g).pins = s.pins := by cases b <;> simp [raiseIf]
@[simp] theorem raiseIf_pcieUp (b : Bool) (s : State) (g : Fld) : (raiseIf b s g).pcieUp = s.pcieUp := by cases b <;> simp [raiseIf]
@[simp] theorem raiseIf_hb (b : Bool) (s : State) (g : Fld) : (raiseIf b s g).hb = s.hb := by cases b <;> simp [raiseIf]
@[simp] theorem raiseIf_hbAt (b : Bool) (s : State) (g : Fld) : (raiseIf b s g).hbAt = s.hbAt := by cases b <;> simp [raiseIf]
@[simp] theorem raiseIf_clk (b : Bool) (s : State) (g : Fld) : (raiseIf b s g).clk = s.clk := by cases b <;> simp [raiseIf]
@[simp] theorem raiseIf_tim (b : Bool) (s : State) (g : Fld) : (raiseIf b s g).tim = s.tim := by cases b <;> simp [raiseIf]
@[simp] theorem raiseIf_sel (b : Bool) (s : State) (g : Fld) : (raiseIf b s g).sel = s.sel := by cases b <;> simp [raiseIf]
@[simp] theorem raiseIf_ports (b : Bool) (s : State) (g : Fld) : (raiseIf b s g).ports = s.ports := by cases b <;> simp [raiseIf]
@[simp] theorem raiseIf_jieth (b : Bool) (s : State) (g : Fld) : (raiseIf b s g).jieth = s.jieth := by cases b <;> simp [raiseIf]
@[simp] theorem raiseIf_pair (b : Bool) (s : State) (g : Fld) : (raiseIf b s g).pair = s.pair := by cases b <;> simp [raiseIf]
@[simp] theorem raiseIf_fab (b : Bool) (s : State) (g : Fld) : (raiseIf b s g).fab = s.fab := by cases b <;> simp [raiseIf]
@[simp] theorem raiseIf_coarse (b : Bool) (s : State) (g : Fld) : (raiseIf b s g).coarse = s.coarse := by cases b <;> simp [raiseIf]
@[simp] theorem raiseIf_gauges (b : Bool) (s : State) (g : Fld) : (raiseIf b s g).gauges = s.gauges := by cases b <;> simp [raiseIf]
@[simp] theorem raiseIf_gnss (b : Bool) (s : State) (g : Fld) : (raiseIf b s g).gnss = s.gnss := by cases b <;> simp [raiseIf]
@[simp] theorem raiseIf_engs (b : Bool) (s : State) (g : Fld) : (raiseIf b s g).engs = s.engs := by cases b <;> simp [raiseIf]
@[simp] theorem raiseIf_cal (b : Bool) (s : State) (g : Fld) : (raiseIf b s g).cal = s.cal := by cases b <;> simp [raiseIf]
@[simp] theorem raiseIf_cmd (b : Bool) (s : State) (g : Fld) : (raiseIf b s g).cmd = s.cmd := by cases b <;> simp [raiseIf]
@[simp] theorem raiseIf_sec (b : Bool) (s : State) (g : Fld) : (raiseIf b s g).sec = s.sec := by cases b <;> simp [raiseIf]
@[simp] theorem raiseIf_aud (b : Bool) (s : State) (g : Fld) : (raiseIf b s g).aud = s.aud := by cases b <;> simp [raiseIf]
@[simp] theorem raiseIf_now (b : Bool) (s : State) (g : Fld) : (raiseIf b s g).now = s.now := by cases b <;> simp [raiseIf]
@[simp] theorem raiseIf_freeCtr (b : Bool) (s : State) (g : Fld) : (raiseIf b s g).freeCtr = s.freeCtr := by cases b <;> simp [raiseIf]

end Sys2Proof.Machine
end

