-- ==== Sys2Proof/Laws/Field.lean ====
section
/-! SUPPORT. Laws of the register bank: fields of words, fields of registers, and what `raise` does to them. -/

namespace Sys2Proof.Machine

/-- Arithmetic of one field: a number as the part above, the field, and the part below. -/
theorem field_split (v lo w : Nat) : v = (v >>> (lo + w)) * 2 ^ (lo + w) + (v >>> lo) % 2 ^ w * 2 ^ lo + v % 2 ^ lo := by
  have h1 := Nat.div_add_mod v (2 ^ lo)
  have h2 := Nat.div_add_mod (v / 2 ^ lo) (2 ^ w)
  rw [Nat.shiftRight_eq_div_pow, Nat.shiftRight_eq_div_pow, pow_add, ← Nat.div_div_eq_div_mul]
  generalize hq : v / 2 ^ lo / 2 ^ w = q at *
  generalize v / 2 ^ lo % 2 ^ w = r at *
  rw [← h2] at h1
  nlinarith

theorem insField_toNat (v : Word) (lo w x : Nat) (h : lo + w ≤ 32) :
    (insField v lo w x).toNat = (v.toNat >>> (lo + w)) * 2 ^ (lo + w) + x % 2 ^ w * 2 ^ lo + v.toNat % 2 ^ lo := by
  have hs := field_split v.toNat lo w
  have hv := v.isLt
  have hx : x % 2 ^ w < 2 ^ w := Nat.mod_lt _ (Nat.two_pow_pos w)
  have hl : v.toNat % 2 ^ lo < 2 ^ lo := Nat.mod_lt _ (Nat.two_pow_pos lo)
  have hq : v.toNat >>> (lo + w) < 2 ^ (32 - (lo + w)) := by
    rw [Nat.shiftRight_eq_div_pow]
    apply Nat.div_lt_of_lt_mul
    rw [← pow_add]; rwa [Nat.add_sub_cancel' h]
  have e32 : (2 : Nat) ^ 32 = 2 ^ (32 - (lo + w)) * 2 ^ (lo + w) := by rw [← pow_add, Nat.sub_add_cancel h]
  have elw : (2 : Nat) ^ (lo + w) = 2 ^ w * 2 ^ lo := by rw [pow_add, mul_comm]
  unfold insField fieldOf bits
  rw [BitVec.toNat_ofNat, Nat.shiftLeft_eq, Nat.shiftLeft_eq]
  generalize v.toNat >>> (lo + w) = q at *
  generalize (v.toNat >>> lo) % 2 ^ w = f at *
  generalize v.toNat % 2 ^ lo = l at *
  have hsub : v.toNat - f * 2 ^ lo + x % 2 ^ w * 2 ^ lo = q * 2 ^ (lo + w) + x % 2 ^ w * 2 ^ lo + l := by omega
  rw [hsub]
  apply Nat.mod_eq_of_lt
  generalize x % 2 ^ w = y at *
  have h1 : y * 2 ^ lo + l < 2 ^ (lo + w) := by rw [elw]; nlinarith
  have h2 : (q + 1) * 2 ^ (lo + w) ≤ 2 ^ 32 := by rw [e32]; exact Nat.mul_le_mul_right _ hq
  nlinarith

/-- A replaced field reads as the value it was given, modulo its width. -/
theorem fieldOf_insField_same (v : Word) (lo w x : Nat) (h : lo + w ≤ 32) : fieldOf (insField v lo w x) lo w = x % 2 ^ w := by
  unfold fieldOf bits
  rw [insField_toNat v lo w x h, Nat.shiftRight_eq_div_pow]
  have hl : v.toNat % 2 ^ lo < 2 ^ lo := Nat.mod_lt _ (Nat.two_pow_pos lo)
  have e : v.toNat >>> (lo + w) * 2 ^ (lo + w) + x % 2 ^ w * 2 ^ lo + v.toNat % 2 ^ lo
      = v.toNat % 2 ^ lo + 2 ^ lo * (x % 2 ^ w + 2 ^ w * (v.toNat >>> (lo + w))) := by rw [pow_add]; ring
  rw [e, Nat.add_mul_div_left _ _ (Nat.two_pow_pos lo), Nat.div_eq_of_lt hl, Nat.zero_add, Nat.add_mul_mod_self_left, Nat.mod_mod]

theorem insField_testBit (v : Word) (lo w x i : Nat) (h : lo + w ≤ 32) (hi : i < lo ∨ lo + w ≤ i) :
    (insField v lo w x).toNat.testBit i = v.toNat.testBit i := by
  rw [insField_toNat v lo w x h]
  have hl : v.toNat % 2 ^ lo < 2 ^ lo := Nat.mod_lt _ (Nat.two_pow_pos lo)
  have hx : x % 2 ^ w < 2 ^ w := Nat.mod_lt _ (Nat.two_pow_pos w)
  have hxl : x % 2 ^ w * 2 ^ lo + v.toNat % 2 ^ lo < 2 ^ (lo + w) := by
    rw [pow_add, mul_comm (2 ^ lo)]
    generalize x % 2 ^ w = y at *
    generalize v.toNat % 2 ^ lo = l at *
    have := Nat.mul_le_mul_right (2 ^ lo) (Nat.succ_le_of_lt hx)
    rw [Nat.succ_mul] at this
    omega
  rw [Nat.add_assoc, mul_comm _ (2 ^ (lo + w)), Nat.testBit_two_pow_mul_add _ hxl]
  split
  · rename_i hlt
    have hlo : i < lo := by omega
    rw [mul_comm _ (2 ^ lo), Nat.testBit_two_pow_mul_add _ hl, if_pos hlo, Nat.testBit_mod_two_pow]
    simp [hlo]
  · rename_i hge
    rw [Nat.testBit_shiftRight]; congr 1; omega

/-- A replaced field leaves a field apart from it alone. -/
theorem fieldOf_insField_disj (v : Word) (lo w x lo' w' : Nat) (h : lo + w ≤ 32) (hd : lo' + w' ≤ lo ∨ lo + w ≤ lo') :
    fieldOf (insField v lo w x) lo' w' = fieldOf v lo' w' := by
  unfold fieldOf bits
  apply Nat.eq_of_testBit_eq
  intro i
  rw [Nat.testBit_mod_two_pow, Nat.testBit_mod_two_pow, Nat.testBit_shiftRight, Nat.testBit_shiftRight]
  by_cases hi : i < w'
  · simp only [hi, decide_true, Bool.true_and]
    exact insField_testBit v lo w x _ h (by omega)
  · simp [hi]

theorem fieldOf_lt (v : Word) (lo w : Nat) : fieldOf v lo w < 2 ^ w := Nat.mod_lt _ (Nat.two_pow_pos w)

/-! ### Registers -/

/-- A register reads what was written to it. -/
@[simp] theorem regWord_setWord_same (s : State) (a : Nat) (v : Word) : regWord (setWord s a v) a = v :=
  spGet?_spPut_same wordReset s.regs a v

/-- A register write leaves every other register alone. -/
theorem regWord_setWord_ne (s : State) {a b : Nat} (v : Word) (h : b ≠ a) : regWord (setWord s a v) b = regWord s b := by
  unfold regWord setWord; rw [spGet?_spPut_ne _ _ _ h]

theorem regWord_setF_ne (s : State) (f : Fld) (x : Nat) {b : Nat} (h : b ≠ f.addr) : regWord (setF s f x) b = regWord s b :=
  regWord_setWord_ne s _ h

theorem regWord_congr {s t : State} (h : t.regs = s.regs) (a : Nat) : regWord t a = regWord s a := by unfold regWord; rw [h]

theorem regWord_raise (s : State) (f : Fld) (a : Nat) : regWord (raise s f) a = regWord (setF s f 1) a := regWord_congr (by simp) a

theorem regWord_raise_ne (s : State) (f : Fld) {a : Nat} (h : a ≠ f.addr) : regWord (raise s f) a = regWord s a := by
  rw [regWord_raise, regWord_setF_ne s f 1 h]

@[simp] theorem regWord_emit (s : State) (o : Output) (a : Nat) : regWord (emit s o) a = regWord s a := rfl

@[simp] theorem regWord_draw (s : State) (a : Nat) : regWord (draw s).2 a = regWord s a := rfl

/-! ### Fields -/

/-- A field reads what was written to it, modulo its width. -/
theorem getF_setF_same (s : State) (f : Fld) (x : Nat) (h : f.lo + f.w ≤ 32) : getF (setF s f x) f = x % 2 ^ f.w := by
  unfold getF setF; rw [regWord_setWord_same, fieldOf_insField_same _ _ _ _ h]

/-- Writing a field leaves a field of another register, or one apart from it, alone. -/
theorem getF_setF_ne (s : State) (f g : Fld) (x : Nat) (h : f.lo + f.w ≤ 32)
    (hd : g.addr ≠ f.addr ∨ g.lo + g.w ≤ f.lo ∨ f.lo + f.w ≤ g.lo) : getF (setF s f x) g = getF s g := by
  unfold getF
  by_cases ha : g.addr = f.addr
  · rw [ha]; unfold setF; rw [regWord_setWord_same, fieldOf_insField_disj _ _ _ _ _ _ h (by tauto)]
  · rw [regWord_setF_ne s f x ha]

theorem getF_congr {s t : State} (h : t.regs = s.regs) (f : Fld) : getF t f = getF s f := by unfold getF; rw [regWord_congr h]

theorem getF_raise (s : State) (f g : Fld) : getF (raise s f) g = getF (setF s f 1) g := getF_congr (by simp) g

/-- A raised event bit is set. -/
theorem getF_raise_same (s : State) (f : Fld) (h : f.lo + f.w ≤ 32) (hw : f.w = 1) : getF (raise s f) f = 1 := by
  rw [getF_raise, getF_setF_same s f 1 h, hw]; rfl

theorem getF_raise_ne (s : State) (f g : Fld) (h : f.lo + f.w ≤ 32)
    (hd : g.addr ≠ f.addr ∨ g.lo + g.w ≤ f.lo ∨ f.lo + f.w ≤ g.lo) : getF (raise s f) g = getF s g := by
  rw [getF_raise, getF_setF_ne s f g 1 h hd]

@[simp] theorem getF_emit (s : State) (o : Output) (f : Fld) : getF (emit s o) f = getF s f := rfl

@[simp] theorem getF_draw (s : State) (f : Fld) : getF (draw s).2 f = getF s f := rfl

theorem getF_lt (s : State) (f : Fld) : getF s f < 2 ^ f.w := fieldOf_lt _ _ _

theorem getB_setB_same (s : State) (f : Fld) (b : Bool) (h : f.lo + f.w ≤ 32) (hw : 0 < f.w) : getB (setB s f b) f = b := by
  unfold getB setB
  rw [getF_setF_same s f _ h]
  have : 2 ≤ 2 ^ f.w := by calc 2 = 2 ^ 1 := rfl
    _ ≤ 2 ^ f.w := Nat.pow_le_pow_right (by norm_num) hw
  cases b
  · simp
  · simp [Nat.mod_eq_of_lt (show 1 < 2 ^ f.w by omega)]

/-- Adding to a counter field adds modulo its width. -/
theorem getF_incF_same (s : State) (f : Fld) (k : Nat) (h : f.lo + f.w ≤ 32) : getF (incF s f k) f = (getF s f + k) % 2 ^ f.w :=
  getF_setF_same s f _ h

theorem getF_incF_ne (s : State) (f g : Fld) (k : Nat) (h : f.lo + f.w ≤ 32)
    (hd : g.addr ≠ f.addr ∨ g.lo + g.w ≤ f.lo ∨ f.lo + f.w ≤ g.lo) : getF (incF s f k) g = getF s g := getF_setF_ne s f g _ h hd

/-! ### Like things: what is written reads back, the others stay -/

@[simp] theorem slotS_updSlot_same (s : State) (n : Nat) (f : SlotS → SlotS) : slotS (updSlot s n f) n = f (slotS s n) := listUpd_getD_same _ _ _ _

theorem slotS_updSlot_ne (s : State) {n m : Nat} (f : SlotS → SlotS) (h : m ≠ n) : slotS (updSlot s n f) m = slotS s m := listUpd_getD_ne _ _ _ h

@[simp] theorem portS_updPort_same (s : State) (n : Nat) (f : PortS → PortS) : portS (updPort s n f) n = f (portS s n) := listUpd_getD_same _ _ _ _

theorem portS_updPort_ne (s : State) {n m : Nat} (f : PortS → PortS) (h : m ≠ n) : portS (updPort s n f) m = portS s m := listUpd_getD_ne _ _ _ h

@[simp] theorem linkS_updLink_same (s : State) (n : Nat) (f : LinkS → LinkS) : linkS (updLink s n f) n = f (linkS s n) := listUpd_getD_same _ _ _ _

theorem linkS_updLink_ne (s : State) {n m : Nat} (f : LinkS → LinkS) (h : m ≠ n) : linkS (updLink s n f) m = linkS s m := listUpd_getD_ne _ _ _ h

@[simp] theorem outS_updOut_same (s : State) (n : Nat) (f : OutS → OutS) : outS (updOut s n f) n = f (outS s n) := listUpd_getD_same _ _ _ _

theorem outS_updOut_ne (s : State) {n m : Nat} (f : OutS → OutS) (h : m ≠ n) : outS (updOut s n f) m = outS s m := listUpd_getD_ne _ _ _ h

@[simp] theorem gaugeS_updGauge_same (s : State) (n : Nat) (f : GaugeS → GaugeS) : gaugeS (updGauge s n f) n = f (gaugeS s n) := listUpd_getD_same _ _ _ _

theorem gaugeS_updGauge_ne (s : State) {n m : Nat} (f : GaugeS → GaugeS) (h : m ≠ n) : gaugeS (updGauge s n f) m = gaugeS s m := listUpd_getD_ne _ _ _ h

@[simp] theorem engS_updEng_same (s : State) (n : Nat) (f : Eng → Eng) : engS (updEng s n f) n = f (engS s n) := listUpd_getD_same _ _ _ _

theorem engS_updEng_ne (s : State) {n m : Nat} (f : Eng → Eng) (h : m ≠ n) : engS (updEng s n f) m = engS s m := listUpd_getD_ne _ _ _ h

@[simp] theorem gateS_updGate_same (s : State) (n : Nat) (f : GateS → GateS) : gateS (updGate s n f) n = f (gateS s n) := listUpd_getD_same _ _ _ _

theorem gateS_updGate_ne (s : State) {n m : Nat} (f : GateS → GateS) (h : m ≠ n) : gateS (updGate s n f) m = gateS s m := listUpd_getD_ne _ _ _ h

end Sys2Proof.Machine
end

