-- ==== Sys2Proof/Laws/Fold.lean ====
section
/-! SUPPORT. How a projection of the state passes through a choice and through a fold. -/

namespace Sys2Proof.Machine

@[simp] theorem ite_pending (c : Prop) [Decidable c] (s t : State) : (if c then s else t).pending = if c then s.pending else t.pending := by split <;> rfl
@[simp] theorem ite_regs (c : Prop) [Decidable c] (s t : State) : (if c then s else t).regs = if c then s.regs else t.regs := by split <;> rfl
@[simp] theorem ite_staged (c : Prop) [Decidable c] (s t : State) : (if c then s else t).staged = if c then s.staged else t.staged := by split <;> rfl
@[simp] theorem ite_mode (c : Prop) [Decidable c] (s t : State) : (if c then s else t).mode = if c then s.mode else t.mode := by split <;> rfl
@[simp] theorem ite_power (c : Prop) [Decidable c] (s t : State) : (if c then s else t).power = if c then s.power else t.power := by split <;> rfl
@[simp] theorem ite_powerTo (c : Prop) [Decidable c] (s t : State) : (if c then s else t).powerTo = if c then s.powerTo else t.powerTo := by split <;> rfl
@[simp] theorem ite_domains (c : Prop) [Decidable c] (s t : State) : (if c then s else t).domains = if c then s.domains else t.domains := by split <;> rfl
@[simp] theorem ite_calEntry (c : Prop) [Decidable c] (s t : State) : (if c then s else t).calEntry = if c then s.calEntry else t.calEntry := by split <;> rfl
@[simp] theorem ite_boot (c : Prop) [Decidable c] (s t : State) : (if c then s else t).boot = if c then s.boot else t.boot := by split <;> rfl
@[simp] theorem ite_image (c : Prop) [Decidable c] (s t : State) : (if c then s else t).image = if c then s.image else t.image := by split <;> rfl
@[simp] theorem ite_cpUp (c : Prop) [Decidable c] (s t : State) : (if c then s else t).cpUp = if c then s.cpUp else t.cpUp := by split <;> rfl
@[simp] theorem ite_wakeS (c : Prop) [Decidable c] (s t : State) : (if c then s else t).wakeS = if c then s.wakeS else t.wakeS := by split <;> rfl
@[simp] theorem ite_idLoaded (c : Prop) [Decidable c] (s t : State) : (if c then s else t).idLoaded = if c then s.idLoaded else t.idLoaded := by split <;> rfl
@[simp] theorem ite_boardSet (c : Prop) [Decidable c] (s t : State) : (if c then s else t).boardSet = if c then s.boardSet else t.boardSet := by split <;> rfl
@[simp] theorem ite_waking (c : Prop) [Decidable c] (s t : State) : (if c then s else t).waking = if c then s.waking else t.waking := by split <;> rfl
@[simp] theorem ite_collapsed (c : Prop) [Decidable c] (s t : State) : (if c then s else t).collapsed = if c then s.collapsed else t.collapsed := by split <;> rfl
@[simp] theorem ite_straps (c : Prop) [Decidable c] (s t : State) : (if c then s else t).straps = if c then s.straps else t.straps := by split <;> rfl
@[simp] theorem ite_otp (c : Prop) [Decidable c] (s t : State) : (if c then s else t).otp = if c then s.otp else t.otp := by split <;> rfl
@[simp] theorem ite_flash (c : Prop) [Decidable c] (s t : State) : (if c then s else t).flash = if c then s.flash else t.flash := by split <;> rfl
@[simp] theorem ite_pins (c : Prop) [Decidable c] (s t : State) : (if c then s else t).pins = if c then s.pins else t.pins := by split <;> rfl
@[simp] theorem ite_pcieUp (c : Prop) [Decidable c] (s t : State) : (if c then s else t).pcieUp = if c then s.pcieUp else t.pcieUp := by split <;> rfl
@[simp] theorem ite_hb (c : Prop) [Decidable c] (s t : State) : (if c then s else t).hb = if c then s.hb else t.hb := by split <;> rfl
@[simp] theorem ite_hbAt (c : Prop) [Decidable c] (s t : State) : (if c then s else t).hbAt = if c then s.hbAt else t.hbAt := by split <;> rfl
@[simp] theorem ite_clk (c : Prop) [Decidable c] (s t : State) : (if c then s else t).clk = if c then s.clk else t.clk := by split <;> rfl
@[simp] theorem ite_tim (c : Prop) [Decidable c] (s t : State) : (if c then s else t).tim = if c then s.tim else t.tim := by split <;> rfl
@[simp] theorem ite_sel (c : Prop) [Decidable c] (s t : State) : (if c then s else t).sel = if c then s.sel else t.sel := by split <;> rfl
@[simp] theorem ite_ports (c : Prop) [Decidable c] (s t : State) : (if c then s else t).ports = if c then s.ports else t.ports := by split <;> rfl
@[simp] theorem ite_jieth (c : Prop) [Decidable c] (s t : State) : (if c then s else t).jieth = if c then s.jieth else t.jieth := by split <;> rfl
@[simp] theorem ite_pair (c : Prop) [Decidable c] (s t : State) : (if c then s else t).pair = if c then s.pair else t.pair := by split <;> rfl
@[simp] theorem ite_fab (c : Prop) [Decidable c] (s t : State) : (if c then s else t).fab = if c then s.fab else t.fab := by split <;> rfl
@[simp] theorem ite_coarse (c : Prop) [Decidable c] (s t : State) : (if c then s else t).coarse = if c then s.coarse else t.coarse := by split <;> rfl
@[simp] theorem ite_gauges (c : Prop) [Decidable c] (s t : State) : (if c then s else t).gauges = if c then s.gauges else t.gauges := by split <;> rfl
@[simp] theorem ite_gnss (c : Prop) [Decidable c] (s t : State) : (if c then s else t).gnss = if c then s.gnss else t.gnss := by split <;> rfl
@[simp] theorem ite_engs (c : Prop) [Decidable c] (s t : State) : (if c then s else t).engs = if c then s.engs else t.engs := by split <;> rfl
@[simp] theorem ite_cal (c : Prop) [Decidable c] (s t : State) : (if c then s else t).cal = if c then s.cal else t.cal := by split <;> rfl
@[simp] theorem ite_cmd (c : Prop) [Decidable c] (s t : State) : (if c then s else t).cmd = if c then s.cmd else t.cmd := by split <;> rfl
@[simp] theorem ite_sec (c : Prop) [Decidable c] (s t : State) : (if c then s else t).sec = if c then s.sec else t.sec := by split <;> rfl
@[simp] theorem ite_aud (c : Prop) [Decidable c] (s t : State) : (if c then s else t).aud = if c then s.aud else t.aud := by split <;> rfl
@[simp] theorem ite_now (c : Prop) [Decidable c] (s t : State) : (if c then s else t).now = if c then s.now else t.now := by split <;> rfl
@[simp] theorem ite_out (c : Prop) [Decidable c] (s t : State) : (if c then s else t).out = if c then s.out else t.out := by split <;> rfl
@[simp] theorem ite_freeCtr (c : Prop) [Decidable c] (s t : State) : (if c then s else t).freeCtr = if c then s.freeCtr else t.freeCtr := by split <;> rfl
@[simp] theorem foldl_pending {α : Type} (g : State → α → State) (l : List α) (s : State) (h : ∀ t x, (g t x).pending = t.pending) : (l.foldl g s).pending = s.pending := by
  induction l generalizing s with
  | nil => rfl
  | cons x r ih => rw [List.foldl_cons, ih, h]
@[simp] theorem foldl_regs {α : Type} (g : State → α → State) (l : List α) (s : State) (h : ∀ t x, (g t x).regs = t.regs) : (l.foldl g s).regs = s.regs := by
  induction l generalizing s with
  | nil => rfl
  | cons x r ih => rw [List.foldl_cons, ih, h]
@[simp] theorem foldl_staged {α : Type} (g : State → α → State) (l : List α) (s : State) (h : ∀ t x, (g t x).staged = t.staged) : (l.foldl g s).staged = s.staged := by
  induction l generalizing s with
  | nil => rfl
  | cons x r ih => rw [List.foldl_cons, ih, h]
@[simp] theorem foldl_mode {α : Type} (g : State → α → State) (l : List α) (s : State) (h : ∀ t x, (g t x).mode = t.mode) : (l.foldl g s).mode = s.mode := by
  induction l generalizing s with
  | nil => rfl
  | cons x r ih => rw [List.foldl_cons, ih, h]
@[simp] theorem foldl_power {α : Type} (g : State → α → State) (l : List α) (s : State) (h : ∀ t x, (g t x).power = t.power) : (l.foldl g s).power = s.power := by
  induction l generalizing s with
  | nil => rfl
  | cons x r ih => rw [List.foldl_cons, ih, h]
@[simp] theorem foldl_powerTo {α : Type} (g : State → α → State) (l : List α) (s : State) (h : ∀ t x, (g t x).powerTo = t.powerTo) : (l.foldl g s).powerTo = s.powerTo := by
  induction l generalizing s with
  | nil => rfl
  | cons x r ih => rw [List.foldl_cons, ih, h]
@[simp] theorem foldl_domains {α : Type} (g : State → α → State) (l : List α) (s : State) (h : ∀ t x, (g t x).domains = t.domains) : (l.foldl g s).domains = s.domains := by
  induction l generalizing s with
  | nil => rfl
  | cons x r ih => rw [List.foldl_cons, ih, h]
@[simp] theorem foldl_calEntry {α : Type} (g : State → α → State) (l : List α) (s : State) (h : ∀ t x, (g t x).calEntry = t.calEntry) : (l.foldl g s).calEntry = s.calEntry := by
  induction l generalizing s with
  | nil => rfl
  | cons x r ih => rw [List.foldl_cons, ih, h]
@[simp] theorem foldl_boot {α : Type} (g : State → α → State) (l : List α) (s : State) (h : ∀ t x, (g t x).boot = t.boot) : (l.foldl g s).boot = s.boot := by
  induction l generalizing s with
  | nil => rfl
  | cons x r ih => rw [List.foldl_cons, ih, h]
@[simp] theorem foldl_image {α : Type} (g : State → α → State) (l : List α) (s : State) (h : ∀ t x, (g t x).image = t.image) : (l.foldl g s).image = s.image := by
  induction l generalizing s with
  | nil => rfl
  | cons x r ih => rw [List.foldl_cons, ih, h]
@[simp] theorem foldl_cpUp {α : Type} (g : State → α → State) (l : List α) (s : State) (h : ∀ t x, (g t x).cpUp = t.cpUp) : (l.foldl g s).cpUp = s.cpUp := by
  induction l generalizing s with
  | nil => rfl
  | cons x r ih => rw [List.foldl_cons, ih, h]
@[simp] theorem foldl_wakeS {α : Type} (g : State → α → State) (l : List α) (s : State) (h : ∀ t x, (g t x).wakeS = t.wakeS) : (l.foldl g s).wakeS = s.wakeS := by
  induction l generalizing s with
  | nil => rfl
  | cons x r ih => rw [List.foldl_cons, ih, h]
@[simp] theorem foldl_idLoaded {α : Type} (g : State → α → State) (l : List α) (s : State) (h : ∀ t x, (g t x).idLoaded = t.idLoaded) : (l.foldl g s).idLoaded = s.idLoaded := by
  induction l generalizing s with
  | nil => rfl
  | cons x r ih => rw [List.foldl_cons, ih, h]
@[simp] theorem foldl_boardSet {α : Type} (g : State → α → State) (l : List α) (s : State) (h : ∀ t x, (g t x).boardSet = t.boardSet) : (l.foldl g s).boardSet = s.boardSet := by
  induction l generalizing s with
  | nil => rfl
  | cons x r ih => rw [List.foldl_cons, ih, h]
@[simp] theorem foldl_waking {α : Type} (g : State → α → State) (l : List α) (s : State) (h : ∀ t x, (g t x).waking = t.waking) : (l.foldl g s).waking = s.waking := by
  induction l generalizing s with
  | nil => rfl
  | cons x r ih => rw [List.foldl_cons, ih, h]
@[simp] theorem foldl_collapsed {α : Type} (g : State → α → State) (l : List α) (s : State) (h : ∀ t x, (g t x).collapsed = t.collapsed) : (l.foldl g s).collapsed = s.collapsed := by
  induction l generalizing s with
  | nil => rfl
  | cons x r ih => rw [List.foldl_cons, ih, h]
@[simp] theorem foldl_straps {α : Type} (g : State → α → State) (l : List α) (s : State) (h : ∀ t x, (g t x).straps = t.straps) : (l.foldl g s).straps = s.straps := by
  induction l generalizing s with
  | nil => rfl
  | cons x r ih => rw [List.foldl_cons, ih, h]
@[simp] theorem foldl_otp {α : Type} (g : State → α → State) (l : List α) (s : State) (h : ∀ t x, (g t x).otp = t.otp) : (l.foldl g s).otp = s.otp := by
  induction l generalizing s with
  | nil => rfl
  | cons x r ih => rw [List.foldl_cons, ih, h]
@[simp] theorem foldl_flash {α : Type} (g : State → α → State) (l : List α) (s : State) (h : ∀ t x, (g t x).flash = t.flash) : (l.foldl g s).flash = s.flash := by
  induction l generalizing s with
  | nil => rfl
  | cons x r ih => rw [List.foldl_cons, ih, h]
@[simp] theorem foldl_pins {α : Type} (g : State → α → State) (l : List α) (s : State) (h : ∀ t x, (g t x).pins = t.pins) : (l.foldl g s).pins = s.pins := by
  induction l generalizing s with
  | nil => rfl
  | cons x r ih => rw [List.foldl_cons, ih, h]
@[simp] theorem foldl_pcieUp {α : Type} (g : State → α → State) (l : List α) (s : State) (h : ∀ t x, (g t x).pcieUp = t.pcieUp) : (l.foldl g s).pcieUp = s.pcieUp := by
  induction l generalizing s with
  | nil => rfl
  | cons x r ih => rw [List.foldl_cons, ih, h]
@[simp] theorem foldl_hb {α : Type} (g : State → α → State) (l : List α) (s : State) (h : ∀ t x, (g t x).hb = t.hb) : (l.foldl g s).hb = s.hb := by
  induction l generalizing s with
  | nil => rfl
  | cons x r ih => rw [List.foldl_cons, ih, h]
@[simp] theorem foldl_hbAt {α : Type} (g : State → α → State) (l : List α) (s : State) (h : ∀ t x, (g t x).hbAt = t.hbAt) : (l.foldl g s).hbAt = s.hbAt := by
  induction l generalizing s with
  | nil => rfl
  | cons x r ih => rw [List.foldl_cons, ih, h]
@[simp] theorem foldl_clk {α : Type} (g : State → α → State) (l : List α) (s : State) (h : ∀ t x, (g t x).clk = t.clk) : (l.foldl g s).clk = s.clk := by
  induction l generalizing s with
  | nil => rfl
  | cons x r ih => rw [List.foldl_cons, ih, h]
@[simp] theorem foldl_tim {α : Type} (g : State → α → State) (l : List α) (s : State) (h : ∀ t x, (g t x).tim = t.tim) : (l.foldl g s).tim = s.tim := by
  induction l generalizing s with
  | nil => rfl
  | cons x r ih => rw [List.foldl_cons, ih, h]
@[simp] theorem foldl_sel {α : Type} (g : State → α → State) (l : List α) (s : State) (h : ∀ t x, (g t x).sel = t.sel) : (l.foldl g s).sel = s.sel := by
  induction l generalizing s with
  | nil => rfl
  | cons x r ih => rw [List.foldl_cons, ih, h]
@[simp] theorem foldl_ports {α : Type} (g : State → α → State) (l : List α) (s : State) (h : ∀ t x, (g t x).ports = t.ports) : (l.foldl g s).ports = s.ports := by
  induction l generalizing s with
  | nil => rfl
  | cons x r ih => rw [List.foldl_cons, ih, h]
@[simp] theorem foldl_jieth {α : Type} (g : State → α → State) (l : List α) (s : State) (h : ∀ t x, (g t x).jieth = t.jieth) : (l.foldl g s).jieth = s.jieth := by
  induction l generalizing s with
  | nil => rfl
  | cons x r ih => rw [List.foldl_cons, ih, h]
@[simp] theorem foldl_pair {α : Type} (g : State → α → State) (l : List α) (s : State) (h : ∀ t x, (g t x).pair = t.pair) : (l.foldl g s).pair = s.pair := by
  induction l generalizing s with
  | nil => rfl
  | cons x r ih => rw [List.foldl_cons, ih, h]
@[simp] theorem foldl_fab {α : Type} (g : State → α → State) (l : List α) (s : State) (h : ∀ t x, (g t x).fab = t.fab) : (l.foldl g s).fab = s.fab := by
  induction l generalizing s with
  | nil => rfl
  | cons x r ih => rw [List.foldl_cons, ih, h]
@[simp] theorem foldl_coarse {α : Type} (g : State → α → State) (l : List α) (s : State) (h : ∀ t x, (g t x).coarse = t.coarse) : (l.foldl g s).coarse = s.coarse := by
  induction l generalizing s with
  | nil => rfl
  | cons x r ih => rw [List.foldl_cons, ih, h]
@[simp] theorem foldl_gauges {α : Type} (g : State → α → State) (l : List α) (s : State) (h : ∀ t x, (g t x).gauges = t.gauges) : (l.foldl g s).gauges = s.gauges := by
  induction l generalizing s with
  | nil => rfl
  | cons x r ih => rw [List.foldl_cons, ih, h]
@[simp] theorem foldl_gnss {α : Type} (g : State → α → State) (l : List α) (s : State) (h : ∀ t x, (g t x).gnss = t.gnss) : (l.foldl g s).gnss = s.gnss := by
  induction l generalizing s with
  | nil => rfl
  | cons x r ih => rw [List.foldl_cons, ih, h]
@[simp] theorem foldl_engs {α : Type} (g : State → α → State) (l : List α) (s : State) (h : ∀ t x, (g t x).engs = t.engs) : (l.foldl g s).engs = s.engs := by
  induction l generalizing s with
  | nil => rfl
  | cons x r ih => rw [List.foldl_cons, ih, h]
@[simp] theorem foldl_cal {α : Type} (g : State → α → State) (l : List α) (s : State) (h : ∀ t x, (g t x).cal = t.cal) : (l.foldl g s).cal = s.cal := by
  induction l generalizing s with
  | nil => rfl
  | cons x r ih => rw [List.foldl_cons, ih, h]
@[simp] theorem foldl_cmd {α : Type} (g : State → α → State) (l : List α) (s : State) (h : ∀ t x, (g t x).cmd = t.cmd) : (l.foldl g s).cmd = s.cmd := by
  induction l generalizing s with
  | nil => rfl
  | cons x r ih => rw [List.foldl_cons, ih, h]
@[simp] theorem foldl_sec {α : Type} (g : State → α → State) (l : List α) (s : State) (h : ∀ t x, (g t x).sec = t.sec) : (l.foldl g s).sec = s.sec := by
  induction l generalizing s with
  | nil => rfl
  | cons x r ih => rw [List.foldl_cons, ih, h]
@[simp] theorem foldl_aud {α : Type} (g : State → α → State) (l : List α) (s : State) (h : ∀ t x, (g t x).aud = t.aud) : (l.foldl g s).aud = s.aud := by
  induction l generalizing s with
  | nil => rfl
  | cons x r ih => rw [List.foldl_cons, ih, h]
@[simp] theorem foldl_now {α : Type} (g : State → α → State) (l : List α) (s : State) (h : ∀ t x, (g t x).now = t.now) : (l.foldl g s).now = s.now := by
  induction l generalizing s with
  | nil => rfl
  | cons x r ih => rw [List.foldl_cons, ih, h]
@[simp] theorem foldl_out {α : Type} (g : State → α → State) (l : List α) (s : State) (h : ∀ t x, (g t x).out = t.out) : (l.foldl g s).out = s.out := by
  induction l generalizing s with
  | nil => rfl
  | cons x r ih => rw [List.foldl_cons, ih, h]
@[simp] theorem foldl_freeCtr {α : Type} (g : State → α → State) (l : List α) (s : State) (h : ∀ t x, (g t x).freeCtr = t.freeCtr) : (l.foldl g s).freeCtr = s.freeCtr := by
  induction l generalizing s with
  | nil => rfl
  | cons x r ih => rw [List.foldl_cons, ih, h]

theorem foldl_tod {α : Type} (g : State → α → State) (l : List α) (s : State) (h : ∀ t x, (g t x).tim.tod = t.tim.tod) :
    (l.foldl g s).tim.tod = s.tim.tod := by
  induction l generalizing s with
  | nil => rfl
  | cons x r ih => rw [List.foldl_cons, ih, h]

theorem ite_tod (c : Prop) [Decidable c] (s t : Tim) : (if c then s else t).tod = if c then s.tod else t.tod := by split <;> rfl

theorem ite_regWord (c : Prop) [Decidable c] (s t : State) (a : Nat) : regWord (if c then s else t) a = if c then regWord s a else regWord t a := by
  split <;> rfl

theorem foldl_regWord {α : Type} (g : State → α → State) (l : List α) (s : State) (a : Nat) (h : ∀ t x, regWord (g t x) a = regWord t a) :
    regWord (l.foldl g s) a = regWord s a := by
  induction l generalizing s with
  | nil => rfl
  | cons x r ih => rw [List.foldl_cons, ih, h]

theorem foldl_bank {α : Type} (g : State → α → State) (l : List α) (s : State) (w : BankWf s) (h : ∀ t x, BankWf t → BankWf (g t x)) :
    BankWf (l.foldl g s) := by
  induction l generalizing s with
  | nil => exact w
  | cons x r ih => exact ih (g s x) (h s x w)

theorem ite_bank (c : Prop) [Decidable c] {s t : State} (hs : BankWf s) (ht : BankWf t) : BankWf (if c then s else t) := by
  split
  · exact hs
  · exact ht

theorem setWord_bank {s : State} (a : Nat) (v : Word) (w : BankWf s) : BankWf (setWord s a v) := spWf_spPut wordReset a v w

theorem setF_bank {s : State} (f : Fld) (x : Nat) (w : BankWf s) : BankWf (setF s f x) := setWord_bank _ _ w

theorem bank_congr {s t : State} (h : t.regs = s.regs) (w : BankWf s) : BankWf t := by unfold BankWf; rw [h]; exact w

theorem raise_bank {s : State} (f : Fld) (w : BankWf s) : BankWf (raise s f) := bank_congr (by simp) (setF_bank f 1 w)

theorem raiseIf_bank {s : State} (b : Bool) (f : Fld) (w : BankWf s) : BankWf (raiseIf b s f) := by
  cases b
  · exact w
  · exact raise_bank f w

theorem regWord_raiseIf_ne (b : Bool) (s : State) (f : Fld) {a : Nat} (h : a ≠ f.addr) : regWord (raiseIf b s f) a = regWord s a := by
  cases b
  · rfl
  · exact regWord_raise_ne s f h

theorem regWord_setB_ne (s : State) (f : Fld) (b : Bool) {a : Nat} (h : a ≠ f.addr) : regWord (setB s f b) a = regWord s a :=
  regWord_setF_ne s f _ h

theorem regWord_incF_ne (s : State) (f : Fld) (k : Nat) {a : Nat} (h : a ≠ f.addr) : regWord (incF s f k) a = regWord s a :=
  regWord_setF_ne s f _ h

theorem regWord_setHL_ne (s : State) (f g : Fld) (x : Int) {a : Nat} (h : a ≠ f.addr) (h' : a ≠ g.addr) :
    regWord (setHL s f g x) a = regWord s a := by
  unfold setHL; rw [regWord_setF_ne _ _ _ h', regWord_setF_ne _ _ _ h]

theorem regWord_incHL_ne (s : State) (f g : Fld) (k : Nat) {a : Nat} (h : a ≠ f.addr) (h' : a ≠ g.addr) :
    regWord (incHL s f g k) a = regWord s a := regWord_setHL_ne _ _ _ _ h h'

/-- The window of a port lies in the port blocks. -/
theorem portBase_range (p : Nat) :
    (0x40000 ≤ portBase p ∧ portBase p ≤ 0x43E00) ∨ (0x50000 ≤ portBase p ∧ portBase p ≤ 0x50600) := by
  unfold portBase; split <;> omega

end Sys2Proof.Machine
end

