-- ==== Sys2Proof/Laws/Within.lean ====
section
/-! SUPPORT. One relation for what an operation may touch: parts of the state, groups of registers; with it the canonical form of the bank
and the bounds of the audit ring are kept. One lemma per operation, which later proofs cite. -/

namespace Sys2Proof.Machine

/-- `t` differs from `s` at most in the parts `l` and, in the bank, in the groups `g`; the bank's form and the ring's bounds stand. -/
structure Within (l : List StatePart) (g : List Area) (s t : State) : Prop where
  parts : Only l s t
  regs : RegsIn g s t
  bank : BankWf s → BankWf t
  audit : AuditOk s → AuditOk t

variable {l l' : List StatePart} {g g' : List Area} {s t u : State}

theorem SamePart.refl (p : StatePart) (s : State) : SamePart p s s := by cases p <;> rfl

theorem SamePart.trans {p : StatePart} (h : SamePart p s t) (k : SamePart p t u) : SamePart p s u := by
  cases p <;> exact Eq.trans k h

theorem Within.refl : Within l g s s := ⟨fun p _ => .refl p s, fun _ _ => rfl, id, id⟩

/-- After an operation that reaches `t`, one that goes on from `t`. -/
theorem Within.after (k : Within l' g' t u) (h : Within l g s t) (hl : l' ⊆ l) (hg : g' ⊆ g) : Within l g s u where
  parts p hp := (h.parts p hp).trans (k.parts p (fun m => hp (hl m)))
  regs a ha := (k.regs a (fun x m => ha x (hg m))).trans (h.regs a ha)
  bank w := k.bank (h.bank w)
  audit w := k.audit (h.audit w)

theorem Within.mono (h : Within l' g' s t) (hl : l' ⊆ l) (hg : g' ⊆ g) : Within l g s t := h.after .refl hl hg

/-- A record update that leaves the bank and the audit ring alone. -/
theorem Within.upd (hr : u.regs = t.regs) (ha : u.aud = t.aud) (h : Within l g s t) (hp : ∀ p, p ∉ l → SamePart p t u) : Within l g s u where
  parts p hpl := (h.parts p hpl).trans (hp p hpl)
  regs a haw := by rw [regWord_congr hr]; exact h.regs a haw
  bank w := bank_congr hr (h.bank w)
  audit w := by have := h.audit w; unfold AuditOk at *; rw [ha]; exact this

/-- The same, for a record written out. -/
theorem Within.set (x_pending x_staged x_mode x_power x_powerTo x_domains x_calEntry x_boot x_image x_cpUp x_wakeS x_idLoaded x_boardSet x_waking x_collapsed x_straps x_otp x_flash x_pins x_pcieUp x_hb x_hbAt x_clk x_tim x_sel x_ports x_jieth x_pair x_fab x_coarse x_gauges x_gnss x_engs x_cal x_cmd x_sec x_now x_out x_freeCtr) (h : Within l g s t)
    (hp : ∀ p, p ∉ l → SamePart p t { t with pending := x_pending, staged := x_staged, mode := x_mode, power := x_power, powerTo := x_powerTo, domains := x_domains, calEntry := x_calEntry, boot := x_boot, image := x_image, cpUp := x_cpUp, wakeS := x_wakeS, idLoaded := x_idLoaded, boardSet := x_boardSet, waking := x_waking, collapsed := x_collapsed, straps := x_straps, otp := x_otp, flash := x_flash, pins := x_pins, pcieUp := x_pcieUp, hb := x_hb, hbAt := x_hbAt, clk := x_clk, tim := x_tim, sel := x_sel, ports := x_ports, jieth := x_jieth, pair := x_pair, fab := x_fab, coarse := x_coarse, gauges := x_gauges, gnss := x_gnss, engs := x_engs, cal := x_cal, cmd := x_cmd, sec := x_sec, now := x_now, out := x_out, freeCtr := x_freeCtr }) :
    Within l g s { t with pending := x_pending, staged := x_staged, mode := x_mode, power := x_power, powerTo := x_powerTo, domains := x_domains, calEntry := x_calEntry, boot := x_boot, image := x_image, cpUp := x_cpUp, wakeS := x_wakeS, idLoaded := x_idLoaded, boardSet := x_boardSet, waking := x_waking, collapsed := x_collapsed, straps := x_straps, otp := x_otp, flash := x_flash, pins := x_pins, pcieUp := x_pcieUp, hb := x_hb, hbAt := x_hbAt, clk := x_clk, tim := x_tim, sel := x_sel, ports := x_ports, jieth := x_jieth, pair := x_pair, fab := x_fab, coarse := x_coarse, gauges := x_gauges, gnss := x_gnss, engs := x_engs, cal := x_cal, cmd := x_cmd, sec := x_sec, now := x_now, out := x_out, freeCtr := x_freeCtr } := .upd (t := t) rfl rfl h hp

theorem Within.ite {c : Prop} [Decidable c] (ht : Within l g s t) (hu : Within l g s u) : Within l g s (if c then t else u) := by
  split
  · exact ht
  · exact hu

theorem Within.fold {α : Type} {f : State → α → State} (k : ∀ t x, Within l g t (f t x)) (h : Within l g s t) (xs : List α) :
    Within l g s (xs.foldl f t) := by
  induction xs generalizing t with
  | nil => exact h
  | cons x r ih => exact ih ((k t x).after h (List.Subset.refl l) (List.Subset.refl g))

/-- An operation that may stop: where it stops nothing has changed. -/
theorem Within.orAfter {o : Host.Outcome State Fault Refusal} (k : Within l' g' t (outcomeOr t o)) (h : Within l g s t) (hl : l' ⊆ l) (hg : g' ⊆ g) :
    Within l g s (outcomeOr s o) := by
  cases o with
  | next u => exact Within.after (u := u) k h hl hg
  | fault _ => exact .refl
  | refused _ => exact .refl

/-- An operation that may have no result: from the state it leaves, one goes on. -/
theorem Within.afterSome {o : Option State} (k : Within l' g' t (o.getD t)) (e : o = some u) (h : Within l g s t) (hl : l' ⊆ l) (hg : g' ⊆ g) :
    Within l g s u := by
  subst e; exact Within.after (u := u) k h hl hg

/-- An operation that answers a state with something else. -/
theorem Within.afterFst {α : Type} {r : State × α} {x : α} (k : Within l' g' t r.1) (e : r = (u, x)) (h : Within l g s t) (hl : l' ⊆ l)
    (hg : g' ⊆ g) : Within l g s u := by
  subst e; exact k.after h hl hg

theorem Within.afterPair {α : Type} {o : Option (State × α)} {r : State × α} (k : Within l' g' t ((o.map Prod.fst).getD t)) (e : o = some r)
    (h : Within l g s t) (hl : l' ⊆ l) (hg : g' ⊆ g) : Within l g s r.1 := by
  subst e; exact Within.after (u := r.1) k h hl hg

@[simp] theorem outcomeOr_ok (s t : State) : outcomeOr s (ok t) = t := rfl

@[simp] theorem outcomeOr_next (s t : State) : outcomeOr s (.next t) = t := rfl

@[simp] theorem outcomeOr_fault (s : State) (f : Fault) : outcomeOr s (.fault f) = s := rfl

/-- A change of the audit log that keeps the ring and counts no entry more. -/
theorem Within.aud {x : Aud} (hr : x.ring = t.aud.ring) (hu : x.unack ≤ t.aud.unack) (h : Within l g s t) (hl : StatePart.aud ∈ l) :
    Within l g s { t with aud := x } where
  parts p hp := (h.parts p hp).trans (by cases p <;> first | exact absurd hl hp | rfl)
  regs a ha := h.regs a ha
  bank w := h.bank w
  audit w := by have := h.audit w; unfold AuditOk at *; dsimp only; rw [hr]; omega

theorem Within.any (h : Within l g s t) : Within l [.any] s t := ⟨h.parts, fun _ k => absurd trivial (k .any (by simp)), h.bank, h.audit⟩

/-- After an operation, one that goes on, whatever registers they touch. -/
theorem Within.afterAny (k : Within l' g' t u) (h : Within l [.any] s t) (hl : l' ⊆ l) : Within l [.any] s u :=
  Within.after k.any h hl (List.Subset.refl _)

theorem Within.afterFstAny {α : Type} {r : State × α} {x : α} (k : Within l' g' t r.1) (e : r = (u, x)) (h : Within l [.any] s t)
    (hl : l' ⊆ l) : Within l [.any] s u := Within.afterFst k.any e h hl (List.Subset.refl _)

theorem Within.orAfterAny {o : Host.Outcome State Fault Refusal} (k : Within l' g' t (outcomeOr t o)) (h : Within l [.any] s t) (hl : l' ⊆ l) :
    Within l [.any] s (outcomeOr s o) := Within.orAfter k.any h hl (List.Subset.refl _)

theorem Within.afterSomeAny {o : Option State} (k : Within l' g' t (o.getD t)) (e : o = some u) (h : Within l [.any] s t) (hl : l' ⊆ l) :
    Within l [.any] s u := Within.afterSome k.any e h hl (List.Subset.refl _)

/-- A part of the bank of which nothing more is listed. -/
theorem Within.regsAny (hb : BankWf s → BankWf t) (ha : t.aud = s.aud) (hp : ∀ p, p ∉ l → SamePart p s t) :
    Within l [.any] s t where
  parts := hp
  regs _ h := absurd trivial (h .any (by simp))
  bank := hb
  audit w := by unfold AuditOk at *; rw [ha]; exact w

theorem setWord_within (s : State) (a : Nat) (v : Word) (h : ∃ x ∈ g, x.has a) : Within [.regs] g s (setWord s a v) where
  parts p hp := by cases p <;> first | exact absurd (by decide) hp | rfl
  regs b hb := regWord_setWord_ne s v (fun e => by obtain ⟨x, m, hx⟩ := h; exact hb x m (e ▸ hx))
  bank w := setWord_bank a v w
  audit w := w

theorem setWord_any {a : Nat} {v : Word} (h : Within l [.any] s t) (hr : StatePart.regs ∈ l) : Within l [.any] s (setWord t a v) :=
  (setWord_within t a v ⟨.any, List.mem_singleton.mpr rfl, trivial⟩).after h (List.cons_subset.mpr ⟨hr, List.nil_subset l⟩) (List.Subset.refl _)

/-- A field's register lies in one of the groups. -/
def Hits (g : List Area) (f : Fld) : Prop := ∃ x ∈ g, x.has f.addr

theorem hits_nil (f : Fld) : Hits [] f ↔ False := ⟨fun ⟨_, m, _⟩ => absurd m List.not_mem_nil, False.elim⟩

theorem hits_cons (x : Area) (g : List Area) (f : Fld) : Hits (x :: g) f ↔ x.has f.addr ∨ Hits g f := by
  simp [Hits]

theorem hits_any {f : Fld} : Hits [.any] f := ⟨.any, List.mem_singleton.mpr rfl, trivial⟩

theorem setF_in {f : Fld} {x : Nat} (h : Within l g s t) (hr : StatePart.regs ∈ l) (hx : Hits g f) : Within l g s (setF t f x) :=
  (setWord_within t _ _ hx).after h (List.cons_subset.mpr ⟨hr, List.nil_subset l⟩) (List.Subset.refl g)

theorem setB_in {f : Fld} {b : Bool} (h : Within l g s t) (hr : StatePart.regs ∈ l) (hx : Hits g f) : Within l g s (setB t f b) := setF_in h hr hx

theorem incF_in {f : Fld} {k : Nat} (h : Within l g s t) (hr : StatePart.regs ∈ l) (hx : Hits g f) : Within l g s (incF t f k) := setF_in h hr hx

theorem setHL_in {f f' : Fld} {x : Int} (h : Within l g s t) (hr : StatePart.regs ∈ l) (hx : Hits g f) (hy : Hits g f') :
    Within l g s (setHL t f f' x) := setF_in (setF_in h hr hx) hr hy

theorem incHL_in {f f' : Fld} {k : Nat} (h : Within l g s t) (hr : StatePart.regs ∈ l) (hx : Hits g f) (hy : Hits g f') :
    Within l g s (incHL t f f' k) := setHL_in h hr hx hy

theorem emit_within (s : State) (o : Output) : Within [.out] [] s (emit s o) :=
  .upd (t := s) rfl rfl .refl (fun p hp => by cases p <;> first | exact absurd (by decide) hp | rfl)

theorem draw_within (s : State) : Within [.freeCtr] [] s (draw s).2 :=
  .upd (t := s) rfl rfl .refl (fun p hp => by cases p <;> first | exact absurd (by decide) hp | rfl)

theorem msixEdges_within (old : Nat) (s : State) : Within [.out] [] s (msixEdges old s) := by
  obtain ⟨m, h⟩ := msixEdges_eq old s
  rw [h]
  exact .upd (t := s) rfl rfl .refl (fun p hp => by cases p <;> first | exact absurd (by decide) hp | rfl)

theorem raise_in {f : Fld} (h : Within l g s t) (hr : StatePart.regs ∈ l) (ho : StatePart.out ∈ l) (hx : Hits g f) : Within l g s (raise t f) :=
  (msixEdges_within _ _).after (setF_in h hr hx) (List.cons_subset.mpr ⟨ho, List.nil_subset l⟩) (List.nil_subset g)

theorem raiseIf_in {b : Bool} {f : Fld} (h : Within l g s t) (hr : StatePart.regs ∈ l) (ho : StatePart.out ∈ l) (hx : Hits g f) :
    Within l g s (raiseIf b t f) := by
  cases b
  · exact h
  · exact raise_in h hr ho hx

theorem updSlot_within (s : State) (n : Nat) (f : SlotS → SlotS) : Within [.sel] [] s (updSlot s n f) :=
  .upd (t := s) rfl rfl .refl (fun p hp => by cases p <;> first | exact absurd (by decide) hp | rfl)

theorem updPort_within (s : State) (n : Nat) (f : PortS → PortS) : Within [.ports] [] s (updPort s n f) :=
  .upd (t := s) rfl rfl .refl (fun p hp => by cases p <;> first | exact absurd (by decide) hp | rfl)

theorem updLink_within (s : State) (n : Nat) (f : LinkS → LinkS) : Within [.jieth] [] s (updLink s n f) :=
  .upd (t := s) rfl rfl .refl (fun p hp => by cases p <;> first | exact absurd (by decide) hp | rfl)

theorem updOut_within (s : State) (n : Nat) (f : OutS → OutS) : Within [.tim] [] s (updOut s n f) :=
  .upd (t := s) rfl rfl .refl (fun p hp => by cases p <;> first | exact absurd (by decide) hp | rfl)

theorem updEng_within (s : State) (n : Nat) (f : Eng → Eng) : Within [.engs] [] s (updEng s n f) :=
  .upd (t := s) rfl rfl .refl (fun p hp => by cases p <;> first | exact absurd (by decide) hp | rfl)

theorem updGate_within (s : State) (n : Nat) (f : GateS → GateS) : Within [.fab] [] s (updGate s n f) :=
  .upd (t := s) rfl rfl .refl (fun p hp => by cases p <;> first | exact absurd (by decide) hp | rfl)

theorem updGauge_within (s : State) (n : Nat) (f : GaugeS → GaugeS) : Within [.gauges] [] s (updGauge s n f) :=
  .upd (t := s) rfl rfl .refl (fun p hp => by cases p <;> first | exact absurd (by decide) hp | rfl)

end Sys2Proof.Machine
end

