-- ==== Sys2Proof/Laws/WithinTime.lean ====
section
/-! SUPPORT. What each operation may touch: time, selection, replies, faults and the root. -/

set_option linter.unusedSimpArgs false
set_option linter.unusedTactic false
set_option linter.unreachableTactic false
set_option linter.unnecessarySeqFocus false
set_option linter.style.multiGoal false

namespace Sys2Proof.Machine

theorem audit_within (s : State) (kind : Nat) (rej ali : Bool) (req : Nat) (w4 w5 w6 w7 : Word) :
    Within [.regs, .aud, .out] [.aud] s (audit s kind rej ali req w4 w5 w6 w7) := by
  unfold audit
  dsimp only
  apply raiseIf_in _ (by decide) (by decide) (by simp only [hits_nil, hits_cons, Area.has, Reg.AUD_EVENTS_HOLD_FULL]; omega)
  have base : Within [.regs, .aud, .out] [.aud] s { s with aud := { s.aud with ring := (if decide (auditCap ≤ s.aud.ring.length) then s.aud.ring.drop 1 else s.aud.ring) ++ [[s.aud.seq, BitVec.ofNat 32 (kind <<< 30 + rej.toNat <<< 29 + ali.toNat <<< 28 + (req % 64) <<< 22 + bits (todSec s) 32 16), BitVec.ofNat 32 (todSec s), BitVec.ofNat 32 (todNs s), w4, w5, w6, w7]], unack := min (s.aud.unack + 1) auditCap, seq := s.aud.seq + 1 } } := by
    refine ⟨fun p hp => ?_, fun _ _ => rfl, id, ?_⟩
    · cases p <;> first | exact absurd (by decide) hp | rfl
    · rintro ⟨h1, h2⟩
      unfold AuditOk
      dsimp only
      unfold auditCap at *
      by_cases hc : 8192 ≤ s.aud.ring.length
      · simp only [hc, decide_true, if_true, decide_eq_true_eq, List.length_append, List.length_drop, List.length_cons, List.length_nil]; omega
      · simp only [hc, decide_false, if_false, Bool.false_eq_true, List.length_append, List.length_cons, List.length_nil]; omega
  split
  · exact raise_in (incF_in base (by decide) (by simp only [hits_nil, hits_cons, Area.has, Reg.AUD_LOST]; omega)) (by decide) (by decide)
      (by simp only [hits_nil, hits_cons, Area.has, Reg.AUD_EVENTS_AUDIT_WRAPPED]; omega)
  · exact base

theorem auditEvent_within (s : State) (ev : AudEvent) (req detail : Nat) (w5 : Word) :
    Within [.regs, .aud, .out] [.aud] s (auditEvent s ev req detail w5) := by
  unfold auditEvent
  try dsimp only
  repeat' first
    | decide | with_reducible apply Within.refl | with_reducible apply Within.ite | with_reducible apply Within.after (audit_within _ _ _ _ _ _ _ _ _)
    | split | dsimp only

theorem cntAdd_within (s : State) (n k : Nat) :
    Within [.regs, .out] [.perf] s (cntAdd s n k) := by
  unfold cntAdd
  try dsimp only
  repeat' first
    | decide | with_reducible apply Within.refl | with_reducible apply Within.ite | with_reducible apply setHL_in | with_reducible apply raiseIf_in
    | (rw [hits_cons]; simp only [hits_nil, hits_cons, Area.has, Reg.PERF_OVF, Reg.CNT_VALUE_LO, Reg.CNT_VALUE_HI]; omega) | split | dsimp only

theorem perf_within (s : State) (ev req a cls k : Nat) :
    Within [.regs, .out] [.perf] s (perf s ev req a cls k) := by
  unfold perf
  try dsimp only
  repeat' first
    | decide | with_reducible apply Within.refl | with_reducible apply Within.ite | with_reducible apply Within.after (cntAdd_within _ _ _) | split
    | (with_reducible apply Within.fold (l := [.regs, .out]) (g := [.perf]); intro _ _) | dsimp only

theorem histTake_within (s : State) (h v : Nat) :
    Within [.regs] [.perf] s (histTake s h v) := by
  unfold histTake
  try dsimp only
  repeat' first
    | decide | with_reducible apply Within.refl | with_reducible apply Within.ite | with_reducible apply setF_in | with_reducible apply incHL_in
    | (rw [hits_cons]; simp only [hits_nil, hits_cons, Area.has, Reg.HIST_MAX, Reg.HIST_MIN, Reg.HIST_COUNT_LO, Reg.HIST_COUNT_HI, Reg.HIST_BIN]; omega)
    | split | dsimp only

theorem histOffer_within (s : State) (src : Nat) (ok : Nat → Bool) (v : Nat) :
    Within [.regs] [.perf] s (histOffer s src ok v) := by
  unfold histOffer
  try dsimp only
  repeat' first
    | decide | with_reducible apply Within.refl | with_reducible apply Within.ite | with_reducible apply Within.after (histTake_within _ _ _) | split
    | (with_reducible apply Within.fold (l := [.regs]) (g := [.perf]); intro _ _) | dsimp only

theorem jiethSend_within (s : State) (n cls len : Nat) :
    Within [.jieth] [] s (jiethSend s n cls len) := by
  unfold jiethSend
  try dsimp only
  repeat' first
    | decide | with_reducible apply Within.refl | with_reducible apply Within.ite | with_reducible apply Within.after (updLink_within _ _ _) | split
    | dsimp only

theorem updCal_within (s : State) (f : Cal → Cal) :
    Within [.cal] [] s (updCal s f) := by
  unfold updCal
  try dsimp only
  repeat' first
    | decide | with_reducible apply Within.refl | with_reducible apply Within.ite | split | with_reducible apply Within.set
    | (intro p hp; cases p <;> first | exact absurd (by decide) hp | rfl) | dsimp only

theorem acceptItem_within (s : State) (it : CalItem) (vs : List Word) :
    Within [.cal] [] s (acceptItem s it vs) := by
  unfold acceptItem
  try dsimp only
  repeat' first
    | decide | with_reducible apply Within.refl | with_reducible apply Within.ite | split
    | (with_reducible apply Within.fold (l := [.cal]) (g := []); intro _ _) | with_reducible apply Within.set
    | (intro p hp; cases p <;> first | exact absurd (by decide) hp | rfl) | dsimp only

theorem applyItem_within (s : State) (it : CalItem) :
    Within [.cal] [] s (applyItem s it) := by
  unfold applyItem
  try dsimp only
  repeat' first
    | decide | with_reducible apply Within.refl | with_reducible apply Within.ite | split
    | (with_reducible apply Within.fold (l := [.cal]) (g := []); intro _ _) | with_reducible apply Within.set
    | (intro p hp; cases p <;> first | exact absurd (by decide) hp | rfl) | dsimp only

theorem setRequest_within (s : State) (v : Int) :
    Within [.regs, .clk, .out] [.clk] s (setRequest s v) := by
  unfold setRequest
  try dsimp only
  repeat' first
    | decide | with_reducible apply Within.refl | with_reducible apply Within.ite | with_reducible apply raiseIf_in
    | (rw [hits_cons]; simp only [hits_nil, hits_cons, Area.has, Reg.CLK_EVENTS_CLAMP_HIT]; omega) | split | with_reducible apply Within.set
    | (intro p hp; cases p <;> first | exact absurd (by decide) hp | rfl) | dsimp only

theorem takeWord_within (s : State) (v : Int) :
    Within [.regs, .clk, .out] [.clk] s (takeWord s v) := by
  unfold takeWord
  try dsimp only
  repeat' first
    | decide | with_reducible apply Within.refl | with_reducible apply Within.ite | with_reducible apply raiseIf_in
    | (rw [hits_cons]; simp only [hits_nil, hits_cons, Area.has, Reg.CLK_EVENTS_CLAMP_HIT]; omega) | split | with_reducible apply Within.set
    | (intro p hp; cases p <;> first | exact absurd (by decide) hp | rfl) | dsimp only

theorem takeDiscipline_within (s : State) (on : Bool) :
    Within [.clk, .tim] [] s (takeDiscipline s on) := by
  unfold takeDiscipline
  try dsimp only
  repeat' first
    | decide | with_reducible apply Within.refl | with_reducible apply Within.ite | split | with_reducible apply Within.set
    | (intro p hp; cases p <;> first | exact absurd (by decide) hp | rfl) | dsimp only

theorem countTicks_within (k : Nat) (s : State) :
    Within [.clk, .tim, .sel, .now, .tod] [] s (countTicks k s) := by
  unfold countTicks
  try dsimp only
  repeat' first
    | decide | with_reducible apply Within.refl | with_reducible apply Within.ite | split | with_reducible apply Within.set
    | (intro p hp; cases p <;> first | exact absurd (by decide) hp | rfl) | dsimp only

theorem coarseAdvance_within (k : Nat) (s : State) :
    Within [.regs, .coarse, .out] [.gauge] s (coarseAdvance k s) := by
  unfold coarseAdvance
  try dsimp only
  repeat' first
    | decide | with_reducible apply Within.refl | with_reducible apply Within.ite | with_reducible apply incF_in | with_reducible apply raise_in
    | (rw [hits_cons]; simp only [hits_nil, hits_cons, Area.has, Reg.GAUGE_WRAP_CNT, Reg.GAUGE_EVENTS_COARSE_WRAP]; omega) | split
    | with_reducible apply Within.set | (intro p hp; cases p <;> first | exact absurd (by decide) hp | rfl) | dsimp only

theorem advance_within (k : Nat) (s : State) :
    Within [.regs, .clk, .tim, .sel, .coarse, .now, .out, .tod] [.gauge, .perf] s (advance k s) := by
  unfold advance
  split
  · have b : Within [.regs, .clk, .tim, .sel, .coarse, .now, .out, .tod] [.gauge, .perf] s (perf (countTicks k s) 0x43 0x23 0 0 (weirTicks s k)) :=
      (perf_within _ _ _ _ _ _).after ((countTicks_within k s).mono (by decide) (by decide)) (by decide) (by decide)
    dsimp only
    split
    · exact (coarseAdvance_within _ _).after b (by decide) (by decide)
    · exact b
  · exact .upd (t := s) rfl rfl .refl (fun p hp => by cases p <;> first | exact absurd (by decide) hp | rfl)

theorem tick_within (s : State) :
    Within [.regs, .clk, .tim, .sel, .coarse, .now, .out, .tod] [.gauge, .perf] s (tick s) := by
  unfold tick
  try dsimp only
  repeat' first
    | decide | with_reducible apply Within.refl | with_reducible apply Within.ite | with_reducible apply Within.after (advance_within _ _) | split
    | dsimp only

theorem runTo_within (s : State) (goal : Nat) :
    Within [.regs, .clk, .tim, .sel, .coarse, .now, .out, .tod] [.gauge, .perf] s (runTo s goal) := by
  unfold runTo
  try dsimp only
  repeat' first
    | decide | with_reducible apply Within.refl | with_reducible apply Within.ite | with_reducible apply Within.after (advance_within _ _) | split
    | dsimp only

theorem runToGrid_within (s : State) (unit : Nat) :
    Within [.regs, .clk, .tim, .sel, .coarse, .now, .out, .tod] [.gauge, .perf] s (runToGrid s unit) := by
  unfold runToGrid
  try dsimp only
  repeat' first
    | decide | with_reducible apply Within.refl | with_reducible apply Within.ite | with_reducible apply Within.after (advance_within _ _) | split
    | dsimp only

theorem setWeir_within (s : State) (x : Int) :
    Within [.tim] [] s (setWeir s x) := by
  unfold setWeir
  try dsimp only
  repeat' first
    | decide | with_reducible apply Within.refl | with_reducible apply Within.ite | split | with_reducible apply Within.set
    | (intro p hp; cases p <;> first | exact absurd (by decide) hp | rfl) | dsimp only

theorem normPer_within (s : State) (n : Nat) :
    Within [.regs] [.outw] s (normPer s n) := by
  unfold normPer
  try dsimp only
  repeat' first
    | decide | with_reducible apply Within.refl | with_reducible apply Within.ite | with_reducible apply setF_in
    | (rw [hits_cons]; simp only [hits_nil, hits_cons, Area.has, Reg.OUT_OUT_PER_NS, Reg.OUT_OUT_PER_FRAC]; omega) | split | dsimp only

theorem takeStaged_within (s : State) (f : Fld) (h : Hits [.outw] f) : Within [.regs, .staged] [.outw] s (takeStaged s f) := by
  unfold takeStaged
  split
  · with_reducible apply Within.set
    · exact setF_in .refl (by decide) h
    · intro p hp; cases p <;> first | exact absurd (by decide) hp | rfl
  · exact .refl

theorem takeSchedule_within (s : State) (n : Nat) :
    Within [.regs, .staged] [.outw] s (takeSchedule s n) := by
  unfold takeSchedule
  try dsimp only
  repeat' first
    | decide | with_reducible apply Within.refl | with_reducible apply Within.ite | with_reducible apply Within.after (normPer_within _ _)
    | (with_reducible refine Within.after (takeStaged_within _ _ (by rw [hits_cons]; simp only [hits_nil, hits_cons, Area.has, Reg.OUT_OUT_TGT_SEC_HI, Reg.OUT_OUT_TGT_SEC_LO, Reg.OUT_OUT_TGT_NS, Reg.OUT_OUT_PER_S, Reg.OUT_OUT_PER_NS, Reg.OUT_OUT_PER_FRAC]; omega)) ?_ (by decide) (by decide))
    | split | dsimp only

theorem outMiss_within (s : State) (n : Nat) :
    Within [.regs, .tim, .out] [.time, .outw] s (outMiss s n) := by
  unfold outMiss
  try dsimp only
  repeat' first
    | decide | with_reducible apply Within.refl | with_reducible apply Within.ite | with_reducible apply setF_in | with_reducible apply raise_in
    | (rw [hits_cons]; simp only [hits_nil, hits_cons, Area.has, Reg.OUT_OUT_CTRL_MISSED, Reg.OUT_OUT_CTRL_ARM, Reg.TIME_EVENTS_TO_MISSED]; omega)
    | with_reducible apply Within.after (updOut_within _ _ _) | split | dsimp only

theorem placeEdge_within (s : State) (n : Nat) (p : Nat × Nat × Nat) (width : Nat) :
    Within [.regs, .out] [.dll] s (placeEdge s n p width) := by
  unfold placeEdge
  try dsimp only
  repeat' first
    | decide | with_reducible apply Within.refl | with_reducible apply Within.ite | with_reducible apply setF_in
    | (rw [hits_cons]; simp only [hits_nil, hits_cons, Area.has, Reg.DLL_STAT_SUBTICK, Reg.DLL_STAT_TAP]; omega)
    | with_reducible apply Within.after (emit_within _ _) | split | dsimp only

theorem outFire_within (s : State) (n : Nat) (d : Nat) (late : Bool) :
    Within [.regs, .tim, .out] [.dll, .time, .outw] s (outFire s n d late) := by
  unfold outFire
  try dsimp only
  repeat' first
    | decide | with_reducible apply Within.refl | with_reducible apply Within.ite | with_reducible apply Within.after (outMiss_within _ _)
    | with_reducible apply Within.after (placeEdge_within _ _ _ _) | with_reducible apply setF_in | with_reducible apply raise_in
    | (rw [hits_cons]; simp only [hits_nil, hits_cons, Area.has, Reg.OUT_OUT_CTRL_ARM, Reg.OUT_OUT_CTRL_LATE, Reg.TIME_EVENTS_TO_LATE]; omega)
    | with_reducible apply Within.after (updOut_within _ _ _) | split | dsimp only

theorem outArm_within (s : State) (n : Nat) :
    Within [.regs, .staged, .tim, .out] [.time, .outw] s (outArm s n) := by
  unfold outArm
  try dsimp only
  repeat' first
    | decide | with_reducible apply Within.refl | with_reducible apply Within.ite | with_reducible apply Within.after (outMiss_within _ _)
    | with_reducible apply Within.after (takeSchedule_within _ _) | with_reducible apply setF_in
    | (rw [hits_cons]; simp only [hits_nil, hits_cons, Area.has, Reg.OUT_OUT_CTRL_MISSED, Reg.OUT_OUT_CTRL_LATE, Reg.OUT_OUT_CTRL_ARM]; omega)
    | with_reducible apply Within.after (updOut_within _ _ _) | split | dsimp only

theorem applyChange_within (s : State) (n : Nat) (c : OutChange) :
    Within [.regs, .tim, .out] [.time] s (applyChange s n c) := by
  unfold applyChange
  try dsimp only
  repeat' first
    | decide | with_reducible apply Within.refl | with_reducible apply Within.ite | with_reducible apply raise_in
    | (rw [hits_cons]; simp only [hits_nil, hits_cons, Area.has, Reg.TIME_EVENTS_ALIGNED]; omega)
    | with_reducible apply Within.after (updOut_within _ _ _) | split | dsimp only

theorem holdChange_within (s : State) (n : Nat) (c : OutChange) :
    Within [.regs, .tim] [.dll] s (holdChange s n c) := by
  unfold holdChange
  try dsimp only
  repeat' first
    | decide | with_reducible apply Within.refl | with_reducible apply Within.ite | with_reducible apply setF_in
    | (rw [hits_cons]; simp only [hits_nil, hits_cons, Area.has, Reg.DLL_STAT_PENDING]; omega)
    | with_reducible apply Within.after (updOut_within _ _ _) | split | dsimp only

theorem startOut_within (s : State) (n : Nat) (marker : Int) :
    Within [.tim] [] s (startOut s n marker) := by
  unfold startOut
  try dsimp only
  repeat' first
    | decide | with_reducible apply Within.refl | with_reducible apply Within.ite | with_reducible apply Within.after (updOut_within _ _ _) | split
    | dsimp only

theorem alignAll_within (s : State) (mask : Nat) (marker : Int) (src : Nat) (slew : Bool) (idle : Bool) :
    Within [.regs, .tim, .out] [.dll, .time] s (alignAll s mask marker src slew idle) := by
  unfold alignAll
  try dsimp only
  repeat' first
    | decide | with_reducible apply Within.refl | with_reducible apply Within.ite | with_reducible apply Within.after (holdChange_within _ _ _)
    | with_reducible apply Within.after (startOut_within _ _ _) | with_reducible apply setF_in | with_reducible apply raise_in
    | (rw [hits_cons]; simp only [hits_nil, hits_cons, Area.has, Reg.TIME_STATUS_ALIGN_SRC, Reg.TIME_EVENTS_ALIGNED]; omega) | split
    | (with_reducible apply Within.fold (l := [.regs, .tim, .out]) (g := [.dll, .time]); intro _ _) | dsimp only

theorem firstAlign_within (s : State) (marker : Int) (src : Nat) (mask : Nat) (slew : Bool) :
    Within [.regs, .tim, .out] [.dll, .time] s (firstAlign s marker src mask slew) := by
  unfold firstAlign
  try dsimp only
  repeat' first
    | decide | with_reducible apply Within.refl | with_reducible apply Within.ite | with_reducible apply Within.after (alignAll_within _ _ _ _ _ _)
    | with_reducible apply setF_in | (rw [hits_cons]; simp only [hits_nil, hits_cons, Area.has, Reg.TIME_STATUS_FIRST_ALIGNED]; omega) | split
    | dsimp only

theorem realign_within (s : State) (marker : Int) (src : Nat) (mask : Nat) (slew : Bool) :
    Within [.regs, .tim, .out] [.dll, .time] s (realign s marker src mask slew) := by
  unfold realign
  try dsimp only
  repeat' first
    | decide | with_reducible apply Within.refl | with_reducible apply Within.ite | with_reducible apply Within.after (firstAlign_within _ _ _ _ _)
    | with_reducible apply Within.after (alignAll_within _ _ _ _ _ _) | split | dsimp only

theorem leaveConfigOuts_within (s : State) :
    Within [.tim] [] s (leaveConfigOuts s) := by
  unfold leaveConfigOuts
  try dsimp only
  repeat' first
    | decide | with_reducible apply Within.refl | with_reducible apply Within.ite | split | with_reducible apply Within.set
    | (intro p hp; cases p <;> first | exact absurd (by decide) hp | rfl) | dsimp only

theorem startProvisional_within (s : State) :
    Within [.tim] [] s (startProvisional s) := by
  unfold startProvisional
  try dsimp only
  repeat' first
    | decide | with_reducible apply Within.refl | with_reducible apply Within.ite | with_reducible apply Within.after (startOut_within _ _ _)
    | with_reducible apply Within.after (leaveConfigOuts_within _) | split | (with_reducible apply Within.fold (l := [.tim]) (g := []); intro _ _)
    | dsimp only

theorem moveOutputs_within (s : State) (d : Int) :
    Within [.tim] [] s (moveOutputs s d) := by
  unfold moveOutputs
  try dsimp only
  repeat' first
    | decide | with_reducible apply Within.refl | with_reducible apply Within.ite | split | with_reducible apply Within.set
    | (intro p hp; cases p <;> first | exact absurd (by decide) hp | rfl) | dsimp only

theorem gateAll_within (s : State) :
    Within [.regs] [.dll] s (gateAll s) := by
  unfold gateAll
  try dsimp only
  repeat' first
    | decide | with_reducible apply Within.refl | with_reducible apply Within.ite | with_reducible apply setF_in
    | (rw [hits_cons]; simp only [hits_nil, hits_cons, Area.has, Reg.DLL_STAT_GATED]; omega) | split
    | (with_reducible apply Within.fold (l := [.regs]) (g := [.dll]); intro _ _) | dsimp only

theorem dllLose_within (s : State) (n : Nat) :
    Within [.regs, .out] [.clk, .dll] s (dllLose s n) := by
  unfold dllLose
  try dsimp only
  repeat' first
    | decide | with_reducible apply Within.refl | with_reducible apply Within.ite | with_reducible apply setF_in | with_reducible apply raise_in
    | (rw [hits_cons]; simp only [hits_nil, hits_cons, Area.has, Reg.DLL_STAT_LOCK, Reg.DLL_STAT_BYPASS, Reg.CLK_EVENTS_DLL_UNLOCK_SEEN]; omega)
    | split | dsimp only

theorem openPeriod_within (s : State) (n : Nat) :
    Within [.regs, .tim, .cal, .out] [.dll, .time] s (openPeriod s n) := by
  unfold openPeriod
  try dsimp only
  repeat' first
    | decide | with_reducible apply Within.refl | with_reducible apply Within.ite | with_reducible apply Within.after (applyChange_within _ _ _)
    | with_reducible apply Within.after (applyItem_within _ _) | with_reducible apply setF_in
    | (rw [hits_cons]; simp only [hits_nil, hits_cons, Area.has, Reg.DLL_STAT_PENDING, Reg.DLL_STAT_BYPASS, Reg.DLL_CFG_RETURN, Reg.DLL_STAT_GATED]; omega)
    | with_reducible apply Within.after (updOut_within _ _ _) | split | dsimp only

theorem openAhead_within (s : State) (n : Nat) :
    Within [.regs, .tim, .cal, .out] [.dll, .time] s (openAhead s n) := by
  unfold openAhead
  try dsimp only
  repeat' first
    | decide | with_reducible apply Within.refl | with_reducible apply Within.ite | with_reducible apply Within.after (openPeriod_within _ _)
    | with_reducible apply Within.after (updOut_within _ _ _) | split | dsimp only

theorem outBoundary_within (s : State) (n : Nat) :
    Within [.regs, .tim, .cal, .out] [.dll, .time] s (outBoundary s n) := by
  unfold outBoundary
  try dsimp only
  repeat' first
    | decide | with_reducible apply Within.refl | with_reducible apply Within.ite | with_reducible apply Within.after (openAhead_within _ _)
    | with_reducible apply Within.after (updOut_within _ _ _) | split | dsimp only

theorem fwdEdge_within (s : State) (n : Nat) :
    Within [.regs, .out] [.dll] s (fwdEdge s n) := by
  unfold fwdEdge
  try dsimp only
  repeat' first
    | decide | with_reducible apply Within.refl | with_reducible apply Within.ite | with_reducible apply Within.after (placeEdge_within _ _ _ _)
    | split | dsimp only

theorem slopeRestart_within (s : State) :
    Within [.clk] [] s (slopeRestart s) := by
  unfold slopeRestart
  try dsimp only
  repeat' first
    | decide | with_reducible apply Within.refl | with_reducible apply Within.ite | split | with_reducible apply Within.set
    | (intro p hp; cases p <;> first | exact absurd (by decide) hp | rfl) | dsimp only

theorem slopeWatch_within (s : State) :
    Within [.clk] [] s (slopeWatch s) := by
  unfold slopeWatch
  try dsimp only
  repeat' first
    | decide | with_reducible apply Within.refl | with_reducible apply Within.ite | with_reducible apply Within.after (slopeRestart_within _) | split
    | dsimp only

theorem openWindow_within (s : State) :
    Within [.regs] [.ref] s (openWindow s) := by
  unfold openWindow
  try dsimp only
  repeat' first
    | decide | with_reducible apply Within.refl | with_reducible apply Within.ite | with_reducible apply setF_in
    | (rw [hits_cons]; simp only [hits_nil, hits_cons, Area.has, Reg.REF_LOSS_CTRL_WINDOW_OPEN]; omega) | split | dsimp only

theorem publishHold_within (s : State) :
    Within [.regs] [.ref] s (publishHold s) := by
  unfold publishHold
  try dsimp only
  repeat' first
    | decide | with_reducible apply Within.refl | with_reducible apply Within.ite | with_reducible apply setF_in | with_reducible apply setHL_in
    | (rw [hits_cons]; simp only [hits_nil, hits_cons, Area.has, Reg.REF_HOLD_AVG_LO, Reg.REF_HOLD_AVG_HI, Reg.REF_HOLD_N]; omega) | split
    | dsimp only

theorem setPending_within (s : State) (x : Int) :
    Within [.regs, .tim, .out] [.time] s (setPending s x) := by
  unfold setPending
  try dsimp only
  repeat' first
    | decide | with_reducible apply Within.refl | with_reducible apply Within.ite | with_reducible apply raiseIf_in
    | (rw [hits_cons]; simp only [hits_nil, hits_cons, Area.has, Reg.TIME_EVENTS_PENDING_SET]; omega) | split | with_reducible apply Within.set
    | (intro p hp; cases p <;> first | exact absurd (by decide) hp | rfl) | dsimp only

theorem evalTrims_within (s : State) :
    Within [.regs, .out] [.eng] s (evalTrims s) := by
  unfold evalTrims
  try dsimp only
  repeat' first
    | decide | with_reducible apply Within.refl | with_reducible apply Within.ite | with_reducible apply setB_in | with_reducible apply raiseIf_in
    | (rw [hits_cons]; simp only [hits_nil, hits_cons, Area.has, Reg.ENG_STEER_STATUS_ACCEPTED, Reg.ENG_EVENTS_STEER_REJECTED]; omega) | split
    | dsimp only

theorem giveWeir_within (s : State) (x : Int) (seconds : Bool) :
    Within [.regs, .tim, .sel] [.time] s (giveWeir s x seconds) := by
  unfold giveWeir
  try dsimp only
  repeat' first
    | decide | with_reducible apply Within.refl | with_reducible apply Within.ite | with_reducible apply Within.after (setWeir_within _ _)
    | with_reducible apply setF_in | (rw [hits_cons]; simp only [hits_nil, hits_cons, Area.has, Reg.TIME_STATUS_SEC_KNOWN]; omega) | split
    | with_reducible apply Within.set | (intro p hp; cases p <;> first | exact absurd (by decide) hp | rfl) | dsimp only

theorem takeOffset_within (s : State) (x : Int) (seconds : Bool) :
    Within [.regs, .tim, .sel, .out] [.time] s (takeOffset s x seconds) := by
  unfold takeOffset
  try dsimp only
  repeat' first
    | decide | with_reducible apply Within.refl | with_reducible apply Within.ite | with_reducible apply Within.after (giveWeir_within _ _ _)
    | with_reducible apply Within.after (setPending_within _ _) | split | with_reducible apply Within.set
    | (intro p hp; cases p <;> first | exact absurd (by decide) hp | rfl) | dsimp only

theorem requestWord_within (s : State) (y : Int) :
    Within [.regs, .clk, .sel, .out] [.clk] s (requestWord s y) := by
  unfold requestWord
  try dsimp only
  repeat' first
    | decide | with_reducible apply Within.refl | with_reducible apply Within.ite | with_reducible apply Within.after (setRequest_within _ _) | split
    | with_reducible apply Within.set | (intro p hp; cases p <;> first | exact absurd (by decide) hp | rfl) | dsimp only

theorem rootInput_within (s : State) (v : Option Nat) :
    Within [.regs, .clk, .gauges, .freeCtr] [.clk, .dll] s (rootInput s v) := by
  unfold rootInput
  split
  · exact .refl
  · dsimp only
    split
    · exact .upd (t := (draw s).2) rfl rfl ((draw_within s).mono (by decide) (by decide)) (fun p hp => by cases p <;> first | exact absurd (by decide) hp | rfl)
    · generalize he : gateAll _ = u
      have h2 : Within [.regs, .clk, .gauges, .freeCtr] [.clk, .dll] s u := by
        rw [← he]
        refine (gateAll_within _).after (setF_in ?_ (by decide) (by simp only [hits_nil, hits_cons, Area.has, Reg.CLK_ROOT_STATUS_ROOT_LOCK]; omega)) (by decide) (by decide)
        exact .upd (t := (draw s).2) rfl rfl ((draw_within s).mono (by decide) (by decide)) (fun p hp => by cases p <;> first | exact absurd (by decide) hp | rfl)
      exact .upd (t := u) rfl rfl h2 (fun p hp => by cases p <;> first | exact absurd (by decide) hp | rfl)

theorem follow_within (s : State) :
    Within [.regs, .clk, .gauges, .freeCtr] [.clk, .dll] s (follow s) := by
  unfold follow
  try dsimp only
  repeat' first
    | decide | with_reducible apply Within.refl | with_reducible apply Within.ite | with_reducible apply Within.after (rootInput_within _ _) | split
    | dsimp only

theorem setMode_within (s : State) (m : Mode) :
    Within [.mode, .clk] [] s (setMode s m) := by
  unfold setMode
  try dsimp only
  repeat' first
    | decide | with_reducible apply Within.refl | with_reducible apply Within.ite | split | with_reducible apply Within.set
    | (intro p hp; cases p <;> first | exact absurd (by decide) hp | rfl) | dsimp only

theorem leaveConfig_within (s : State) :
    Within [.clk, .tim] [] s (leaveConfig s) := by
  unfold leaveConfig
  try dsimp only
  repeat' first
    | decide | with_reducible apply Within.refl | with_reducible apply Within.ite | with_reducible apply Within.after (takeDiscipline_within _ _)
    | with_reducible apply Within.after (startProvisional_within _) | split | dsimp only

theorem modeEntered_within (s : State) (from_ m : Mode) :
    Within [.regs, .sel] [.ref] s (modeEntered s from_ m) := by
  unfold modeEntered
  try dsimp only
  repeat' first
    | decide | with_reducible apply Within.refl | with_reducible apply Within.ite | with_reducible apply Within.after (openWindow_within _)
    | with_reducible apply setF_in | (rw [hits_cons]; simp only [hits_nil, hits_cons, Area.has, Reg.REF_LOSS_CTRL_NO_HISTORY]; omega) | split
    | with_reducible apply Within.set | (intro p hp; cases p <;> first | exact absurd (by decide) hp | rfl) | dsimp only

theorem enterMode_within (s : State) (m : Mode) :
    Within [.regs, .mode, .clk, .tim, .sel, .out] [.ref, .eng] s (enterMode s m) := by
  unfold enterMode
  try dsimp only
  repeat' first
    | decide | with_reducible apply Within.refl | with_reducible apply Within.ite | with_reducible apply Within.after (modeEntered_within _ _ _)
    | with_reducible apply Within.after (evalTrims_within _) | with_reducible apply Within.after (leaveConfig_within _)
    | with_reducible apply Within.after (setMode_within _ _) | split | dsimp only

theorem enterFreerun_within (s : State) :
    Within [.regs, .mode, .clk, .tim, .sel, .out] [.clk, .ref, .eng] s (enterFreerun s) := by
  unfold enterFreerun
  try dsimp only
  repeat' first
    | decide | with_reducible apply Within.refl | with_reducible apply Within.ite | with_reducible apply Within.after (enterMode_within _ _)
    | with_reducible apply Within.after (requestWord_within _ _) | split | dsimp only

theorem enterHoldover_within (s : State) :
    Within [.regs, .mode, .clk, .tim, .sel, .out] [.clk, .ref, .eng] s (enterHoldover s) := by
  unfold enterHoldover
  try dsimp only
  repeat' first
    | decide | with_reducible apply Within.refl | with_reducible apply Within.ite | with_reducible apply Within.after (requestWord_within _ _)
    | with_reducible apply Within.after (enterMode_within _ _) | with_reducible apply Within.after (publishHold_within _)
    | with_reducible apply setF_in | (rw [hits_cons]; simp only [hits_nil, hits_cons, Area.has, Reg.REF_LOSS_CTRL_NO_HISTORY]; omega) | split
    | with_reducible apply Within.set | (intro p hp; cases p <;> first | exact absurd (by decide) hp | rfl) | dsimp only

theorem beginCoast_within (s : State) (lost : Option Nat) :
    Within [.sel] [] s (beginCoast s lost) := by
  unfold beginCoast
  try dsimp only
  repeat' first
    | decide | with_reducible apply Within.refl | with_reducible apply Within.ite | with_reducible apply Within.after (updSlot_within _ _ _) | split
    | (with_reducible apply Within.fold (l := [.sel]) (g := []); intro _ _) | with_reducible apply Within.set
    | (intro p hp; cases p <;> first | exact absurd (by decide) hp | rfl) | dsimp only

theorem abandonCal_within (s : State) :
    Within [.regs, .ports, .cal, .out] [.port, .cal] s (abandonCal s) := by
  unfold abandonCal
  try dsimp only
  repeat' first
    | decide | with_reducible apply Within.refl | with_reducible apply Within.ite | with_reducible apply setF_in | with_reducible apply raise_in
    | (rw [hits_cons]; simp only [hits_nil, hits_cons, Area.has, portBase, Reg.CAL_EVENTS_ABANDONED, Reg.PORT_TT_STATUS_BERM_WAIT]; (try split) <;> omega)
    | split | (with_reducible apply Within.fold (l := [.regs, .ports, .cal, .out]) (g := [.port, .cal]); intro _ _) | with_reducible apply Within.set
    | (intro p hp; cases p <;> first | exact absurd (by decide) hp | rfl) | dsimp only

theorem dropSelection_within (s : State) :
    Within [.regs, .sel] [.ref] s (dropSelection s) := by
  unfold dropSelection
  try dsimp only
  repeat' first
    | decide | with_reducible apply Within.refl | with_reducible apply Within.ite | with_reducible apply setF_in
    | (rw [hits_cons]; simp only [hits_nil, hits_cons, Area.has, Reg.REF_SEL_STATUS_SWITCHING, Reg.REF_SEL_STATUS_COMMITTED, Reg.REF_SEL_STATUS_SELECTED, Reg.REF_SEL_STATUS_TARGET]; omega)
    | split | with_reducible apply Within.set | (intro p hp; cases p <;> first | exact absurd (by decide) hp | rfl) | dsimp only

theorem lossOfAll_within (s : State) (lost : Option Nat) :
    Within [.regs, .mode, .clk, .tim, .sel, .ports, .gauges, .cal, .out, .freeCtr] [.clk, .dll, .time, .ref, .port, .eng, .cal] s (lossOfAll s lost) := by
  unfold lossOfAll
  try dsimp only
  repeat' first
    | decide | with_reducible apply Within.refl | with_reducible apply Within.ite | with_reducible apply Within.after (enterFreerun_within _)
    | with_reducible apply Within.after (enterHoldover_within _) | with_reducible apply Within.after (abandonCal_within _)
    | with_reducible apply Within.after (requestWord_within _ _) | with_reducible apply Within.after (publishHold_within _)
    | with_reducible apply Within.after (rootInput_within _ _) | with_reducible apply Within.after (beginCoast_within _ _)
    | with_reducible apply Within.after (dropSelection_within _) | with_reducible apply raise_in
    | (rw [hits_cons]; simp only [hits_nil, hits_cons, Area.has, Reg.TIME_EVENTS_TRACE_LOST]; omega) | split | with_reducible apply Within.set
    | (intro p hp; cases p <;> first | exact absurd (by decide) hp | rfl) | dsimp only

theorem startSwitch_within (s : State) (b : Nat) (src : Int × Int) (live fo : Bool) :
    Within [.regs, .sel] [.ref] s (startSwitch s b src live fo) := by
  unfold startSwitch
  try dsimp only
  repeat' first
    | decide | with_reducible apply Within.refl | with_reducible apply Within.ite | with_reducible apply setF_in
    | (rw [hits_cons]; simp only [hits_nil, hits_cons, Area.has, Reg.REF_SEL_STATUS_SWITCHING, Reg.REF_SEL_STATUS_COMMITTED, Reg.REF_SEL_STATUS_TARGET]; omega)
    | split | with_reducible apply Within.set | (intro p hp; cases p <;> first | exact absurd (by decide) hp | rfl) | dsimp only

theorem abortSwitch_within (s : State) :
    Within [.regs, .sel, .out] [.ref] s (abortSwitch s) := by
  unfold abortSwitch
  try dsimp only
  repeat' first
    | decide | with_reducible apply Within.refl | with_reducible apply Within.ite | with_reducible apply setF_in | with_reducible apply raise_in
    | (rw [hits_cons]; simp only [hits_nil, hits_cons, Area.has, Reg.REF_SEL_STATUS_SWITCHING, Reg.REF_SEL_STATUS_COMMITTED, Reg.REF_SEL_STATUS_TARGET, Reg.REF_SEL_EVENTS_SWITCH_ABORTED]; omega)
    | split | with_reducible apply Within.set | (intro p hp; cases p <;> first | exact absurd (by decide) hp | rfl) | dsimp only

theorem jumpTest_within (s : State) (n : Nat) (x : Int) :
    Within [.regs, .out] [.ref, .slot] s (jumpTest s n x) := by
  unfold jumpTest
  try dsimp only
  repeat' first
    | decide | with_reducible apply Within.refl | with_reducible apply Within.ite | with_reducible apply setF_in | with_reducible apply raise_in
    | (rw [hits_cons]; simp only [hits_nil, hits_cons, Area.has, Reg.SLOT_SLOT_STATUS_PHASE_SUSPECT, Reg.REF_SEL_EVENTS_SUSPECT_SET, Reg.SLOT_JUMP]; omega)
    | split | dsimp only

theorem testedChoice_within (fuel : Nat) (s : State) :
    Within [.regs, .out] [.ref, .slot] s (testedChoice fuel s).1 := by
  induction fuel generalizing s with
  | zero => exact .refl
  | succ k ih =>
    unfold testedChoice
    split
    · exact .refl
    · dsimp only
      split
      · exact jumpTest_within _ _ _
      · exact (ih _).after (jumpTest_within _ _ _) (by decide) (by decide)

theorem selectDirect_within (s : State) (b : Nat) :
    Within [.regs, .clk, .tim, .sel, .gauges, .out, .freeCtr] [.clk, .dll, .time, .ref] s (selectDirect s b) := by
  unfold selectDirect
  try dsimp only
  repeat' first
    | decide | with_reducible apply Within.refl | with_reducible apply Within.ite | with_reducible apply Within.after (firstAlign_within _ _ _ _ _)
    | with_reducible apply Within.after (takeOffset_within _ _ _) | with_reducible apply Within.after (follow_within _)
    | with_reducible apply Within.after (requestWord_within _ _) | with_reducible apply setF_in
    | (rw [hits_cons]; simp only [hits_nil, hits_cons, Area.has, Reg.REF_SEL_STATUS_SELECTED]; omega) | split | with_reducible apply Within.set
    | (intro p hp; cases p <;> first | exact absurd (by decide) hp | rfl) | dsimp only

theorem suspectLoss_within (s : State) (a : Nat) :
    Within [.regs, .mode, .clk, .tim, .sel, .ports, .gauges, .cal, .out, .freeCtr] [.clk, .dll, .time, .ref, .port, .eng, .cal] s (suspectLoss s a) := by
  unfold suspectLoss
  try dsimp only
  repeat' first
    | decide | with_reducible apply Within.refl | with_reducible apply Within.ite | with_reducible apply Within.after (lossOfAll_within _ _) | split
    | with_reducible apply Within.set | (intro p hp; cases p <;> first | exact absurd (by decide) hp | rfl) | dsimp only

theorem dropPending_within (s : State) :
    Within [.tim] [] s (dropPending s) := by
  unfold dropPending
  try dsimp only
  repeat' first
    | decide | with_reducible apply Within.refl | with_reducible apply Within.ite | split | with_reducible apply Within.set
    | (intro p hp; cases p <;> first | exact absurd (by decide) hp | rfl) | dsimp only

theorem switchLost_within (s : State) (b : Nat) (src : Int × Int) (fo : Bool) :
    Within [.regs, .tim, .sel] [.ref] s (switchLost s b src fo) := by
  unfold switchLost
  try dsimp only
  repeat' first
    | decide | with_reducible apply Within.refl | with_reducible apply Within.ite | with_reducible apply Within.after (dropPending_within _)
    | with_reducible apply Within.after (startSwitch_within _ _ _ _ _) | split | dsimp only

theorem switchFrom_within (s : State) (a b : Nat) :
    Within [.regs, .tim, .sel] [.ref] s (switchFrom s a b) := by
  unfold switchFrom
  try dsimp only
  repeat' first
    | decide | with_reducible apply Within.refl | with_reducible apply Within.ite | with_reducible apply Within.after (switchLost_within _ _ _ _)
    | with_reducible apply Within.after (startSwitch_within _ _ _ _ _) | split | dsimp only

theorem settleChoice_within (s : State) :
    Within [.regs, .mode, .clk, .tim, .sel, .ports, .gauges, .cal, .out, .freeCtr] [.clk, .dll, .time, .ref, .slot, .port, .eng, .cal] s (settleChoice s) := by
  unfold settleChoice
  try dsimp only
  repeat' first
    | decide | with_reducible apply Within.refl | with_reducible apply Within.ite | with_reducible apply Within.after (lossOfAll_within _ _)
    | with_reducible apply Within.after (switchFrom_within _ _ _) | with_reducible apply Within.after (suspectLoss_within _ _)
    | with_reducible apply Within.after (selectDirect_within _ _) | with_reducible apply Within.after (testedChoice_within _ _)
    | with_reducible apply Within.afterFst (testedChoice_within _ _) (by assumption) | split | dsimp only

theorem sourceLost_within (s : State) :
    Within [.tim, .sel] [] s (sourceLost s) := by
  unfold sourceLost
  try dsimp only
  repeat' first
    | decide | with_reducible apply Within.refl | with_reducible apply Within.ite | with_reducible apply Within.after (dropPending_within _) | split
    | with_reducible apply Within.set | (intro p hp; cases p <;> first | exact absurd (by decide) hp | rfl) | dsimp only

theorem abortTo_within (s : State) (w : Switch) :
    Within [.regs, .mode, .clk, .tim, .sel, .ports, .gauges, .cal, .out, .freeCtr] [.clk, .dll, .time, .ref, .slot, .port, .eng, .cal] s (abortTo s w) := by
  unfold abortTo
  try dsimp only
  repeat' first
    | decide | with_reducible apply Within.refl | with_reducible apply Within.ite | with_reducible apply Within.after (lossOfAll_within _ _)
    | with_reducible apply Within.after (switchLost_within _ _ _ _) | with_reducible apply Within.after (settleChoice_within _)
    | with_reducible apply Within.after (abortSwitch_within _) | split | dsimp only

theorem switchChoice_within (s : State) (w : Switch) :
    Within [.regs, .mode, .clk, .tim, .sel, .ports, .gauges, .cal, .out, .freeCtr] [.clk, .dll, .time, .ref, .slot, .port, .eng, .cal] s (switchChoice s w) := by
  unfold switchChoice
  try dsimp only
  repeat' first
    | decide | with_reducible apply Within.refl | with_reducible apply Within.ite | with_reducible apply Within.after (abortSwitch_within _)
    | with_reducible apply Within.after (startSwitch_within _ _ _ _ _) | with_reducible apply Within.after (abortTo_within _ _)
    | with_reducible apply Within.after (lossOfAll_within _ _) | with_reducible apply Within.after (switchLost_within _ _ _ _)
    | with_reducible apply Within.after (suspectLoss_within _ _) | split | dsimp only

theorem applyChoice_within (s : State) :
    Within [.regs, .mode, .clk, .tim, .sel, .ports, .gauges, .cal, .out, .freeCtr] [.clk, .dll, .time, .ref, .slot, .port, .eng, .cal] s (applyChoice s) := by
  unfold applyChoice
  try dsimp only
  repeat' first
    | decide | with_reducible apply Within.refl | with_reducible apply Within.ite | with_reducible apply Within.after (settleChoice_within _)
    | with_reducible apply Within.after (switchChoice_within _ _) | with_reducible apply Within.after (sourceLost_within _) | split | dsimp only

theorem noteEligible_within (s : State) :
    Within [.sel] [] s (noteEligible s) := by
  unfold noteEligible
  try dsimp only
  repeat' first
    | decide | with_reducible apply Within.refl | with_reducible apply Within.ite | split | with_reducible apply Within.set
    | (intro p hp; cases p <;> first | exact absurd (by decide) hp | rfl) | dsimp only

theorem reselect_within (s00 : State) :
    Within [.regs, .mode, .clk, .tim, .sel, .ports, .gauges, .cal, .out, .freeCtr] [.clk, .dll, .time, .ref, .slot, .port, .eng, .cal] s00 (reselect s00) := by
  unfold reselect
  try dsimp only
  repeat' first
    | decide | with_reducible apply Within.refl | with_reducible apply Within.ite | with_reducible apply Within.after (enterMode_within _ _)
    | with_reducible apply Within.after (applyChoice_within _) | with_reducible apply Within.after (noteEligible_within _) | split | dsimp only

theorem clearTrims_within (s : State) :
    Within [.regs, .clk, .tim, .engs, .out] [.clk] s (clearTrims s) := by
  unfold clearTrims
  try dsimp only
  repeat' first
    | decide | with_reducible apply Within.refl | with_reducible apply Within.ite | with_reducible apply Within.after (setWeir_within _ _)
    | with_reducible apply Within.after (setRequest_within _ _) | split | with_reducible apply Within.set
    | (intro p hp; cases p <;> first | exact absurd (by decide) hp | rfl) | dsimp only

theorem steer_within (s : State) :
    Within [.regs, .clk, .tim, .sel, .out] [.clk, .time] s (steer s) := by
  unfold steer
  try dsimp only
  repeat' first
    | decide | with_reducible apply Within.refl | with_reducible apply Within.ite | with_reducible apply Within.after (giveWeir_within _ _ _)
    | with_reducible apply Within.after (setPending_within _ _) | with_reducible apply Within.after (takeOffset_within _ _ _)
    | with_reducible apply Within.after (requestWord_within _ _) | split | dsimp only

theorem sourceSeen_within (s : State) (n : Nat) :
    Within [.regs] [.slot] s (sourceSeen s n) := by
  unfold sourceSeen
  try dsimp only
  repeat' first
    | decide | with_reducible apply Within.refl | with_reducible apply Within.ite | with_reducible apply setF_in
    | (rw [hits_cons]; simp only [hits_nil, hits_cons, Area.has, Reg.SLOT_SLOT_STATUS_TIMER_S, Reg.SLOT_SLOT_STATUS_SRC_VALID]; omega) | split
    | dsimp only

theorem storeMeas_within (s : State) (n : Nat) (m : Option SlotMeas) :
    Within [.regs, .sel] [.slot] s (storeMeas s n m) := by
  unfold storeMeas
  try dsimp only
  repeat' first
    | decide | with_reducible apply Within.refl | with_reducible apply Within.ite | with_reducible apply Within.after (sourceSeen_within _ _)
    | with_reducible apply setHL_in
    | (rw [hits_cons]; simp only [hits_nil, hits_cons, Area.has, Reg.SLOT_OFS_LO, Reg.SLOT_OFS_HI, Reg.SLOT_FREQ_LO, Reg.SLOT_FREQ_HI]; omega)
    | with_reducible apply Within.after (updSlot_within _ _ _) | split | dsimp only

theorem clearSuspect_within (s : State) (l : List Nat) :
    Within [.regs, .out] [.ref, .slot] s (clearSuspect s l) := by
  unfold clearSuspect
  try dsimp only
  repeat' first
    | decide | with_reducible apply Within.refl | with_reducible apply Within.ite | with_reducible apply setF_in | with_reducible apply raiseIf_in
    | (rw [hits_cons]; simp only [hits_nil, hits_cons, Area.has, Reg.SLOT_SLOT_STATUS_PHASE_SUSPECT, Reg.REF_SEL_EVENTS_SUSPECT_CLEARED]; omega)
    | split | (with_reducible apply Within.fold (l := [.regs, .out]) (g := [.ref, .slot]); intro _ _) | dsimp only

theorem confirmSuspects_within (s : State) :
    Within [.regs, .out] [.ref, .slot] s (confirmSuspects s) := by
  unfold confirmSuspects
  try dsimp only
  repeat' first
    | decide | with_reducible apply Within.refl | with_reducible apply Within.ite | with_reducible apply Within.after (clearSuspect_within _ _)
    | split | dsimp only

theorem evalDisagree_within (s : State) :
    Within [.regs, .out] [.ref, .slot] s (evalDisagree s) := by
  unfold evalDisagree
  try dsimp only
  repeat' first
    | decide | with_reducible apply Within.refl | with_reducible apply Within.ite | with_reducible apply setB_in | with_reducible apply raiseIf_in
    | (rw [hits_cons]; simp only [hits_nil, hits_cons, Area.has, Reg.REF_SEL_EVENTS_DISAGREE_SET, Reg.REF_SEL_STATUS_DISAGREE, Reg.SLOT_SLOT_STATUS_DISAGREE]; omega)
    | split | (with_reducible apply Within.fold (l := [.regs, .out]) (g := [.ref, .slot]); intro _ _) | dsimp only

theorem engEvent_within (s : State) (b : Nat) :
    Within [.engs] [] s (engEvent s b) := by
  unfold engEvent
  try dsimp only
  repeat' first
    | decide | with_reducible apply Within.refl | with_reducible apply Within.ite | split | with_reducible apply Within.set
    | (intro p hp; cases p <;> first | exact absurd (by decide) hp | rfl) | dsimp only

theorem tryLock_within (s : State) :
    Within [.regs, .mode, .clk, .tim, .sel, .out, .freeCtr] [.ref, .eng] s (tryLock s) := by
  unfold tryLock
  try dsimp only
  repeat' first
    | decide | with_reducible apply Within.refl | with_reducible apply Within.ite | with_reducible apply Within.after (enterMode_within _ _)
    | with_reducible apply Within.after (draw_within _) | split | dsimp only

theorem execSelectorEvaluation_within (meas : List (Option SlotMeas)) (s : State) :
    Within [.regs, .mode, .clk, .tim, .sel, .ports, .gauges, .engs, .cal, .out, .freeCtr] [.clk, .dll, .time, .ref, .slot, .port, .eng, .perf, .cal] s (outcomeOr s (execSelectorEvaluation meas s)) := by
  unfold execSelectorEvaluation
  try dsimp only
  repeat' first
    | decide | with_reducible apply Within.refl | with_reducible apply Within.ite | with_reducible apply Within.after (evalDisagree_within _)
    | with_reducible apply Within.after (confirmSuspects_within _) | with_reducible apply Within.after (reselect_within _)
    | with_reducible apply Within.after (evalTrims_within _) | with_reducible apply Within.after (steer_within _)
    | with_reducible apply Within.after (tryLock_within _) | with_reducible apply Within.after (engEvent_within _ _)
    | with_reducible apply Within.after (perf_within _ _ _ _ _ _) | with_reducible apply Within.after (storeMeas_within _ _ _) | rw [outcomeOr_ok]
    | rw [outcomeOr_fault] | split
    | (with_reducible apply Within.fold (l := [.regs, .mode, .clk, .tim, .sel, .ports, .gauges, .engs, .cal, .out, .freeCtr]) (g := [.clk, .dll, .time, .ref, .slot, .port, .eng, .perf, .cal]); intro _ _)
    | dsimp only

theorem execSlotQualified_within (n : Nat) (m : SlotMeas) (s : State) :
    Within [.regs, .mode, .clk, .tim, .sel, .ports, .gauges, .cal, .out, .freeCtr] [.clk, .dll, .time, .ref, .slot, .port, .eng, .cal] s (outcomeOr s (execSlotQualified n m s)) := by
  unfold execSlotQualified
  try dsimp only
  repeat' first
    | decide | with_reducible apply Within.refl | with_reducible apply Within.ite | with_reducible apply Within.after (jumpTest_within _ _ _)
    | with_reducible apply Within.after (slopeWatch_within _) | with_reducible apply Within.after (reselect_within _)
    | with_reducible apply Within.after (storeMeas_within _ _ _) | rw [outcomeOr_ok] | rw [outcomeOr_fault] | with_reducible apply setF_in
    | (rw [hits_cons]; simp only [hits_nil, hits_cons, Area.has, Reg.SLOT_SLOT_STATUS_WTR_RUN, Reg.SLOT_SLOT_STATUS_TIMER_S, Reg.SLOT_SLOT_STATUS_QUALIFIED, Reg.SLOT_SLOT_STATUS_SRC_VALID]; omega)
    | with_reducible apply Within.after (updSlot_within _ _ _) | split | dsimp only

theorem loseSlot_within (s : State) (n : Nat) (count : Bool) :
    Within [.regs, .clk, .sel] [.slot] s (loseSlot s n count) := by
  unfold loseSlot
  try dsimp only
  repeat' first
    | decide | with_reducible apply Within.refl | with_reducible apply Within.ite | with_reducible apply Within.after (slopeWatch_within _)
    | with_reducible apply setF_in
    | (rw [hits_cons]; simp only [hits_nil, hits_cons, Area.has, Reg.SLOT_SLOT_STATUS_TIMER_S, Reg.SLOT_SLOT_STATUS_QUALIFIED, Reg.SLOT_SLOT_STATUS_WTR_RUN, Reg.SLOT_SLOT_STATUS_PHASE_SUSPECT]; omega)
    | with_reducible apply Within.after (updSlot_within _ _ _) | split | dsimp only

theorem loseSlots_within (s : State) (l : List Nat) :
    Within [.regs, .mode, .clk, .tim, .sel, .ports, .gauges, .cal, .out, .freeCtr] [.clk, .dll, .time, .ref, .slot, .port, .eng, .cal] s (loseSlots s l) := by
  unfold loseSlots
  try dsimp only
  repeat' first
    | decide | with_reducible apply Within.refl | with_reducible apply Within.ite | with_reducible apply Within.after (loseSlot_within _ _ _)
    | with_reducible apply Within.after (reselect_within _) | with_reducible apply raise_in
    | (rw [hits_cons]; simp only [hits_nil, hits_cons, Area.has, Reg.REF_SEL_EVENTS_QUAL_LOST]; omega) | split
    | (with_reducible apply Within.fold (l := [.regs, .mode, .clk, .tim, .sel, .ports, .gauges, .cal, .out, .freeCtr]) (g := [.clk, .dll, .time, .ref, .slot, .port, .eng, .cal]); intro _ _)
    | dsimp only

theorem loseSource_within (s : State) (ty ix : Nat) :
    Within [.regs, .mode, .clk, .tim, .sel, .ports, .gauges, .cal, .out, .freeCtr] [.clk, .dll, .time, .ref, .slot, .port, .eng, .cal] s (loseSource s ty ix) := by
  unfold loseSource
  try dsimp only
  repeat' first
    | decide | with_reducible apply Within.refl | with_reducible apply Within.ite | with_reducible apply Within.after (loseSlots_within _ _)
    | with_reducible apply setF_in | (rw [hits_cons]; simp only [hits_nil, hits_cons, Area.has, Reg.SLOT_SLOT_STATUS_SRC_VALID]; omega) | split
    | (with_reducible apply Within.fold (l := [.regs, .mode, .clk, .tim, .sel, .ports, .gauges, .cal, .out, .freeCtr]) (g := [.clk, .dll, .time, .ref, .slot, .port, .eng, .cal]); intro _ _)
    | dsimp only

theorem slotRestart_within (s : State) (n : Nat) :
    Within [.regs, .mode, .clk, .tim, .sel, .ports, .gauges, .cal, .out, .freeCtr] [.clk, .dll, .time, .ref, .slot, .port, .eng, .cal] s (slotRestart s n) := by
  unfold slotRestart
  try dsimp only
  repeat' first
    | decide | with_reducible apply Within.refl | with_reducible apply Within.ite | with_reducible apply Within.after (loseSlot_within _ _ _)
    | with_reducible apply Within.after (reselect_within _) | with_reducible apply setF_in | with_reducible apply raiseIf_in
    | (rw [hits_cons]; simp only [hits_nil, hits_cons, Area.has, Reg.SLOT_SLOT_STATUS_SRC_VALID, Reg.SLOT_SLOT_STATUS_TIMER_S, Reg.REF_SEL_EVENTS_QUAL_LOST]; omega)
    | with_reducible apply Within.after (updSlot_within _ _ _) | split | dsimp only

theorem restartSource_within (s : State) (ty ix : Nat) :
    Within [.regs, .mode, .clk, .tim, .sel, .ports, .gauges, .cal, .out, .freeCtr] [.clk, .dll, .time, .ref, .slot, .port, .eng, .cal] s (restartSource s ty ix) := by
  unfold restartSource
  try dsimp only
  repeat' first
    | decide | with_reducible apply Within.refl | with_reducible apply Within.ite | with_reducible apply Within.after (slotRestart_within _ _) | split
    | (with_reducible apply Within.fold (l := [.regs, .mode, .clk, .tim, .sel, .ports, .gauges, .cal, .out, .freeCtr]) (g := [.clk, .dll, .time, .ref, .slot, .port, .eng, .cal]); intro _ _)
    | dsimp only

theorem execSlotQualLost_within (n : Nat) (cause : LossCause) (s : State) :
    Within [.regs, .mode, .clk, .tim, .sel, .ports, .gauges, .cal, .out, .freeCtr] [.clk, .dll, .time, .ref, .slot, .port, .eng, .cal] s (outcomeOr s (execSlotQualLost n cause s)) := by
  unfold execSlotQualLost
  try dsimp only
  repeat' first
    | decide | with_reducible apply Within.refl | with_reducible apply Within.ite | with_reducible apply Within.after (loseSlots_within _ _)
    | rw [outcomeOr_ok] | rw [outcomeOr_fault] | with_reducible apply setF_in
    | (rw [hits_cons]; simp only [hits_nil, hits_cons, Area.has, Reg.SLOT_SLOT_STATUS_TIMER_S, Reg.SLOT_SLOT_STATUS_SRC_VALID]; omega) | split
    | dsimp only

theorem gnssSecond_within (s : State) (n : Nat) :
    Within [.sel] [] s (gnssSecond s n) := by
  unfold gnssSecond
  try dsimp only
  repeat' first
    | decide | with_reducible apply Within.refl | with_reducible apply Within.ite | with_reducible apply Within.after (updSlot_within _ _ _) | split
    | dsimp only

theorem execGnssIncons_within (n : Nat) (s : State) :
    Within [.regs, .mode, .clk, .tim, .sel, .ports, .gauges, .cal, .out, .freeCtr] [.clk, .dll, .time, .ref, .slot, .port, .eng, .cal] s (outcomeOr s (execGnssIncons n s)) := by
  unfold execGnssIncons
  try dsimp only
  repeat' first
    | decide | with_reducible apply Within.refl | with_reducible apply Within.ite | with_reducible apply Within.after (loseSlots_within _ _)
    | rw [outcomeOr_ok] | rw [outcomeOr_fault] | with_reducible apply raise_in
    | (rw [hits_cons]; simp only [hits_nil, hits_cons, Area.has, Reg.REF_SEL_EVENTS_GNSS_INCONS]; omega) | split | dsimp only

theorem slotSecond_within (s : State) (n : Nat) :
    Within [.regs, .sel] [.slot] s (slotSecond s n) := by
  unfold slotSecond
  try dsimp only
  repeat' first
    | decide | with_reducible apply Within.refl | with_reducible apply Within.ite | with_reducible apply setF_in
    | (rw [hits_cons]; simp only [hits_nil, hits_cons, Area.has, Reg.SLOT_SLOT_STATUS_TIMER_S]; omega)
    | with_reducible apply Within.after (updSlot_within _ _ _) | split | dsimp only

theorem slotsSecond_within (s : State) :
    Within [.regs, .mode, .clk, .tim, .sel, .ports, .gauges, .cal, .out, .freeCtr] [.clk, .dll, .time, .ref, .slot, .port, .eng, .cal] s (slotsSecond s) := by
  unfold slotsSecond
  try dsimp only
  repeat' first
    | decide | with_reducible apply Within.refl | with_reducible apply Within.ite | with_reducible apply Within.after (loseSlots_within _ _)
    | with_reducible apply Within.after (gnssSecond_within _ _) | with_reducible apply Within.after (slotSecond_within _ _) | split
    | (with_reducible apply Within.fold (l := [.regs, .mode, .clk, .tim, .sel, .ports, .gauges, .cal, .out, .freeCtr]) (g := [.clk, .dll, .time, .ref, .slot, .port, .eng, .cal]); intro _ _)
    | dsimp only

theorem execWtrExpiry_within (n : Nat) (s : State) :
    Within [.regs, .mode, .clk, .tim, .sel, .ports, .gauges, .cal, .out, .freeCtr] [.clk, .dll, .time, .ref, .slot, .port, .eng, .cal] s (outcomeOr s (execWtrExpiry n s)) := by
  unfold execWtrExpiry
  try dsimp only
  repeat' first
    | decide | with_reducible apply Within.refl | with_reducible apply Within.ite | with_reducible apply Within.after (reselect_within _)
    | rw [outcomeOr_ok] | rw [outcomeOr_fault] | with_reducible apply setF_in
    | (rw [hits_cons]; simp only [hits_nil, hits_cons, Area.has, Reg.SLOT_SLOT_STATUS_WTR_RUN, Reg.SLOT_SLOT_STATUS_TIMER_S]; omega) | split
    | dsimp only

theorem execRecoveryWindowClose_within (s : State) :
    Within [.regs] [.ref] s (outcomeOr s (execRecoveryWindowClose s)) := by
  unfold execRecoveryWindowClose
  try dsimp only
  repeat' first
    | decide | with_reducible apply Within.refl | with_reducible apply Within.ite | rw [outcomeOr_ok] | rw [outcomeOr_fault]
    | with_reducible apply setF_in | (rw [hits_cons]; simp only [hits_nil, hits_cons, Area.has, Reg.REF_LOSS_CTRL_WINDOW_OPEN]; omega) | split
    | dsimp only

theorem execSwitchCommit_within (s : State) :
    Within [.regs, .mode, .clk, .tim, .sel, .ports, .gauges, .cal, .out, .freeCtr] [.clk, .dll, .time, .ref, .slot, .port, .eng, .cal] s (outcomeOr s (execSwitchCommit s)) := by
  unfold execSwitchCommit
  try dsimp only
  repeat' first
    | decide | with_reducible apply Within.refl | with_reducible apply Within.ite | with_reducible apply Within.after (reselect_within _)
    | rw [outcomeOr_ok] | rw [outcomeOr_fault] | with_reducible apply setF_in
    | (rw [hits_cons]; simp only [hits_nil, hits_cons, Area.has, Reg.REF_SEL_STATUS_COMMITTED]; omega) | split | with_reducible apply Within.set
    | (intro p hp; cases p <;> first | exact absurd (by decide) hp | rfl) | dsimp only

theorem switchSelect_within (s : State) (b : Nat) :
    Within [.regs, .clk, .sel, .gauges, .out, .freeCtr] [.clk, .dll, .ref] s (switchSelect s b) := by
  unfold switchSelect
  try dsimp only
  repeat' first
    | decide | with_reducible apply Within.refl | with_reducible apply Within.ite | with_reducible apply Within.after (requestWord_within _ _)
    | with_reducible apply Within.after (follow_within _) | with_reducible apply setF_in | with_reducible apply raise_in
    | (rw [hits_cons]; simp only [hits_nil, hits_cons, Area.has, Reg.REF_SEL_EVENTS_SWITCHED, Reg.REF_SEL_STATUS_SWITCHING, Reg.REF_SEL_STATUS_COMMITTED, Reg.REF_SEL_STATUS_TARGET, Reg.REF_SEL_STATUS_SELECTED]; omega)
    | split | with_reducible apply Within.set | (intro p hp; cases p <;> first | exact absurd (by decide) hp | rfl) | dsimp only

theorem switchOffset_within (s : State) (b : Nat) (bOut ofs : Int) :
    Within [.regs, .tim, .sel, .out] [.time] s (switchOffset s b bOut ofs) := by
  unfold switchOffset
  try dsimp only
  repeat' first
    | decide | with_reducible apply Within.refl | with_reducible apply Within.ite | with_reducible apply Within.after (takeOffset_within _ _ _)
    | with_reducible apply Within.after (setPending_within _ _) | split | dsimp only

theorem execSwitchWindowEnd_within (m : SlotMeas) (s : State) :
    Within [.regs, .clk, .tim, .sel, .gauges, .out, .freeCtr] [.clk, .dll, .time, .ref, .slot] s (outcomeOr s (execSwitchWindowEnd m s)) := by
  unfold execSwitchWindowEnd
  try dsimp only
  repeat' first
    | decide | with_reducible apply Within.refl | with_reducible apply Within.ite | with_reducible apply Within.after (switchSelect_within _ _)
    | with_reducible apply Within.after (switchOffset_within _ _ _ _) | with_reducible apply Within.after (storeMeas_within _ _ _) | rw [outcomeOr_ok]
    | rw [outcomeOr_fault] | split | dsimp only

theorem execHoldOffEnd_within (s : State) :
    Within [.regs, .mode, .clk, .tim, .sel, .ports, .gauges, .cal, .out, .freeCtr] [.clk, .dll, .time, .ref, .slot, .port, .eng, .cal] s (outcomeOr s (execHoldOffEnd s)) := by
  unfold execHoldOffEnd
  try dsimp only
  repeat' first
    | decide | with_reducible apply Within.refl | with_reducible apply Within.ite | with_reducible apply Within.after (reselect_within _)
    | rw [outcomeOr_ok] | rw [outcomeOr_fault] | split | with_reducible apply Within.set
    | (intro p hp; cases p <;> first | exact absurd (by decide) hp | rfl) | dsimp only

theorem execHistoryRecord_within (wholeSecond : Bool) (s : State) :
    Within [.regs, .sel] [.ref] s (outcomeOr s (execHistoryRecord wholeSecond s)) := by
  unfold execHistoryRecord
  try dsimp only
  repeat' first
    | decide | with_reducible apply Within.refl | with_reducible apply Within.ite | with_reducible apply Within.after (publishHold_within _)
    | rw [outcomeOr_ok] | rw [outcomeOr_fault] | split | with_reducible apply Within.set
    | (intro p hp; cases p <;> first | exact absurd (by decide) hp | rfl) | dsimp only

theorem execHoldSpecExpiry_within (s : State) :
    Within [.sel] [] s (outcomeOr s (execHoldSpecExpiry s)) := by
  unfold execHoldSpecExpiry
  try dsimp only
  repeat' first
    | decide | with_reducible apply Within.refl | with_reducible apply Within.ite | rw [outcomeOr_ok] | rw [outcomeOr_fault] | split
    | with_reducible apply Within.set | (intro p hp; cases p <;> first | exact absurd (by decide) hp | rfl) | dsimp only

theorem sendBlock_within (s : State) (n type payload : Nat) :
    Within [.jieth, .out] [] s (sendBlock s n type payload) := by
  unfold sendBlock
  try dsimp only
  repeat' first
    | decide | with_reducible apply Within.refl | with_reducible apply Within.ite | with_reducible apply Within.after (emit_within _ _)
    | with_reducible apply Within.after (updLink_within _ _ _) | split | dsimp only

theorem takeBlock_within (s : State) (n type payload : Nat) :
    Within [.jieth] [] s (takeBlock s n type payload) := by
  unfold takeBlock
  try dsimp only
  repeat' first
    | decide | with_reducible apply Within.refl | with_reducible apply Within.ite | with_reducible apply Within.after (updLink_within _ _ _) | split
    | dsimp only

theorem sendHello_within (s : State) (n : Nat) (h : HelloIn) :
    Within [.jieth, .out] [] s (sendHello s n h) := by
  unfold sendHello
  try dsimp only
  repeat' first
    | decide | with_reducible apply Within.refl | with_reducible apply Within.ite | with_reducible apply Within.after (sendBlock_within _ _ _ _)
    | with_reducible apply Within.after (emit_within _ _) | split | dsimp only

theorem sendFlow_within (s : State) (n : Nat) :
    Within [.jieth, .out] [] s (sendFlow s n) := by
  unfold sendFlow
  try dsimp only
  repeat' first
    | decide | with_reducible apply Within.refl | with_reducible apply Within.ite | with_reducible apply Within.after (sendBlock_within _ _ _ _)
    | with_reducible apply Within.after (emit_within _ _) | split | dsimp only

theorem countBlockErr_within (s : State) (n k : Nat) :
    Within [.regs] [.link] s (countBlockErr s n k) := by
  unfold countBlockErr
  try dsimp only
  repeat' first
    | decide | with_reducible apply Within.refl | with_reducible apply Within.ite | with_reducible apply incF_in
    | (rw [hits_cons]; simp only [hits_nil, hits_cons, Area.has, Reg.LINK_BLOCK_ERR]; omega) | split | dsimp only

theorem ptpAuth_within (s : State) (p : Nat) (fr : FrameIn) :
    Within [.regs, .out] [.port, .sec] s (ptpAuth s p fr).1 := by
  unfold ptpAuth
  try dsimp only
  repeat' first
    | decide | with_reducible apply Within.refl | with_reducible apply Within.ite | with_reducible apply raise_in
    | (rw [hits_cons]; simp only [hits_nil, hits_cons, Area.has, portBase, Reg.SEC_EVENTS_AUTH_KEY_MISSING, Reg.PORT_TT_EVENTS_AUTH_FAIL]; (try split) <;> omega)
    | split | dsimp only

theorem sendMessage_within (s : State) (p : Nat) (m : PtpTx) :
    Within [.out] [] s (sendMessage s p m) := by
  unfold sendMessage
  try dsimp only
  repeat' first
    | decide | with_reducible apply Within.refl | with_reducible apply Within.ite | with_reducible apply Within.after (emit_within _ _) | split
    | dsimp only

theorem setReplySlot_within (s : State) (q slot : Nat) (ws : List Word) :
    Within [.cmd] [] s (setReplySlot s q slot ws) := by
  unfold setReplySlot
  try dsimp only
  repeat' first
    | decide | with_reducible apply Within.refl | with_reducible apply Within.ite | split | with_reducible apply Within.set
    | (intro p hp; cases p <;> first | exact absurd (by decide) hp | rfl) | dsimp only

theorem ctlOut_within (s : State) (n : Nat) (h : Word) (words : List Word) :
    Within [.jieth, .out] [] s (ctlOut s n h words) := by
  unfold ctlOut
  try dsimp only
  repeat' first
    | decide | with_reducible apply Within.refl | with_reducible apply Within.ite | with_reducible apply Within.after (jiethSend_within _ _ _ _)
    | with_reducible apply Within.after (emit_within _ _) | split | dsimp only

theorem ctlSend_within (s : State) (n kind hops path : Nat) (words : List Word) (tag : Word → List Word) :
    Within [.jieth, .out] [] s (ctlSend s n kind hops path words tag) := by
  unfold ctlSend
  try dsimp only
  repeat' first
    | decide | with_reducible apply Within.refl | with_reducible apply Within.ite | with_reducible apply Within.after (ctlOut_within _ _ _ _)
    | with_reducible apply Within.after (updLink_within _ _ _) | split | dsimp only

theorem ctlReply_within (s : State) (n : Nat) (words : List Word) :
    Within [.jieth, .out] [] s (ctlReply s n words) := by
  unfold ctlReply
  try dsimp only
  repeat' first
    | decide | with_reducible apply Within.refl | with_reducible apply Within.ite | with_reducible apply Within.after (ctlSend_within _ _ _ _ _ _ _)
    | with_reducible apply Within.after (emit_within _ _) | split | dsimp only

theorem writeReply_within (s : State) (p : Packet) (final : Bool) (st : Status) (ws : List Word) :
    Within [.jieth, .cmd, .out] [] s (writeReply s p final st ws) := by
  unfold writeReply
  try dsimp only
  repeat' first
    | decide | with_reducible apply Within.refl | with_reducible apply Within.ite | with_reducible apply Within.after (ctlReply_within _ _ _)
    | with_reducible apply Within.after (setReplySlot_within _ _ _ _) | with_reducible apply Within.after (emit_within _ _)
    | with_reducible apply Within.after (msixEdges_within _ _) | split | with_reducible apply Within.set
    | (intro p hp; cases p <;> first | exact absurd (by decide) hp | rfl) | dsimp only

theorem auditAddr_within (s : State) (p : Packet) :
    Within [.aud] [] s (auditAddr s p) := by
  unfold auditAddr
  split
  · exact Within.aud rfl (Nat.le_refl _) .refl (by decide)
  · exact .refl

theorem auditCommand_within (s : State) (p : Packet) (st : Status) :
    Within [.regs, .aud, .out] [.aud] s (auditCommand s p st) := by
  unfold auditCommand
  try dsimp only
  repeat' first
    | decide | with_reducible apply Within.refl | with_reducible apply Within.ite | with_reducible apply Within.after (auditAddr_within _ _)
    | with_reducible apply Within.after (audit_within _ _ _ _ _ _ _ _ _) | split | dsimp only

theorem cpLate_within (s : State) (late : Bool) (p : Packet) :
    Within [.regs, .out] [.perf, .cmd] s (cpLate s late p) := by
  unfold cpLate
  try dsimp only
  repeat' first
    | decide | with_reducible apply Within.refl | with_reducible apply Within.ite | with_reducible apply Within.after (perf_within _ _ _ _ _ _)
    | with_reducible apply incF_in | with_reducible apply raise_in
    | (rw [hits_cons]; simp only [hits_nil, hits_cons, Area.has, Reg.CMD_LATE_CNT, Reg.CMD_EVENTS_CP_LATE]; omega) | split | dsimp only

theorem finish_within (s0 : State) (p : Packet) (st : Status) (ws : List Word) :
    Within [.regs, .jieth, .cmd, .aud, .out] [.perf, .aud, .cmd] s0 (finish s0 p st ws) := by
  unfold finish
  try dsimp only
  repeat' first
    | decide | with_reducible apply Within.refl | with_reducible apply Within.ite | with_reducible apply Within.after (writeReply_within _ _ _ _ _)
    | with_reducible apply Within.after (histOffer_within _ _ _ _) | with_reducible apply Within.after (perf_within _ _ _ _ _ _)
    | with_reducible apply Within.after (auditCommand_within _ _ _) | with_reducible apply Within.after (cpLate_within _ _ _) | split
    | with_reducible apply Within.set | (intro p hp; cases p <;> first | exact absurd (by decide) hp | rfl) | dsimp only

theorem done_within (s : State) :
    Within [] [] s (done s).1 := by
  unfold done
  try dsimp only
  repeat' first
    | decide | with_reducible apply Within.refl | with_reducible apply Within.ite | split | dsimp only

theorem answer_within (s : State) (ws : List Word) :
    Within [] [] s (answer s ws).1 := by
  unfold answer
  try dsimp only
  repeat' first
    | decide | with_reducible apply Within.refl | with_reducible apply Within.ite | split | dsimp only

theorem deny_within (s : State) (st : Status) :
    Within [] [] s (deny s st).1 := by
  unfold deny
  try dsimp only
  repeat' first
    | decide | with_reducible apply Within.refl | with_reducible apply Within.ite | split | dsimp only

theorem closeDebug_within (s : State) :
    Within [.regs, .out] [.sec] s (closeDebug s) := by
  unfold closeDebug
  try dsimp only
  repeat' first
    | decide | with_reducible apply Within.refl | with_reducible apply Within.ite | with_reducible apply setF_in | with_reducible apply raise_in
    | (rw [hits_cons]; simp only [hits_nil, hits_cons, Area.has, Reg.SEC_STATUS_DEBUG_OPEN, Reg.SEC_EVENTS_DEBUG_CLOSED]; omega) | split | dsimp only

theorem stopLinks_within (s : State) :
    Within [.regs] [.link] s (stopLinks s) := by
  unfold stopLinks
  try dsimp only
  repeat' first
    | decide | with_reducible apply Within.refl | with_reducible apply Within.ite | with_reducible apply setF_in
    | (rw [hits_cons]; simp only [hits_nil, hits_cons, Area.has, Reg.LINK_LINK_STATUS_STATE, Reg.LINK_LINK_STATUS_FWD_CLK_OK]; omega) | split
    | (with_reducible apply Within.fold (l := [.regs]) (g := [.link]); intro _ _) | dsimp only

theorem setCopy_within (s : State) (k : Nat) (c : CalCopy) :
    Within [.flash] [] s (setCopy s k c) := by
  unfold setCopy
  try dsimp only
  repeat' first
    | decide | with_reducible apply Within.refl | with_reducible apply Within.ite | split | with_reducible apply Within.set
    | (intro p hp; cases p <;> first | exact absurd (by decide) hp | rfl) | dsimp only

theorem cutStore_within (s : State) :
    Within [.flash, .cal, .freeCtr] [] s (cutStore s) := by
  unfold cutStore
  try dsimp only
  repeat' first
    | decide | with_reducible apply Within.refl | with_reducible apply Within.ite | with_reducible apply Within.after (setCopy_within _ _ _)
    | with_reducible apply Within.after (draw_within _) | split
    | (with_reducible apply Within.fold (l := [.flash, .cal, .freeCtr]) (g := []); intro _ _) | with_reducible apply Within.set
    | (intro p hp; cases p <;> first | exact absurd (by decide) hp | rfl) | dsimp only

theorem faultMode_within (s : State) :
    Within [.mode, .powerTo, .domains, .boot, .waking, .pcieUp, .hb, .ports] [] s (faultMode s) := by
  unfold faultMode
  try dsimp only
  repeat' first
    | decide | with_reducible apply Within.refl | with_reducible apply Within.ite | split | with_reducible apply Within.set
    | (intro p hp; cases p <;> first | exact absurd (by decide) hp | rfl) | dsimp only

theorem faultStops_within (s : State) :
    Within [.flash, .jieth, .cal, .freeCtr] [] s (faultStops s) := by
  unfold faultStops
  try dsimp only
  repeat' first
    | decide | with_reducible apply Within.refl | with_reducible apply Within.ite | with_reducible apply Within.after (cutStore_within _) | split
    | with_reducible apply Within.set | (intro p hp; cases p <;> first | exact absurd (by decide) hp | rfl) | dsimp only

theorem enterFault_within (s : State) (c : FaultCause) :
    Within [.regs, .mode, .powerTo, .domains, .boot, .waking, .flash, .pcieUp, .hb, .ports, .jieth, .cal, .cmd, .aud, .out, .freeCtr] [.sys, .link, .perf, .aud, .cmd] s (enterFault s c) := by
  unfold enterFault
  try dsimp only
  repeat' first
    | decide | with_reducible apply Within.refl | with_reducible apply Within.ite | with_reducible apply Within.after (finish_within _ _ _ _)
    | with_reducible apply Within.after (auditEvent_within _ _ _ _ _) | with_reducible apply Within.after (faultMode_within _)
    | with_reducible apply Within.after (stopLinks_within _) | with_reducible apply Within.after (faultStops_within _) | with_reducible apply setF_in
    | (rw [hits_cons]; simp only [hits_nil, hits_cons, Area.has, Reg.SYS_FAULT_CAUSE_CODE]; omega) | split
    | (with_reducible apply Within.fold (l := [.regs, .mode, .powerTo, .domains, .boot, .waking, .flash, .pcieUp, .hb, .ports, .jieth, .cal, .cmd, .aud, .out, .freeCtr]) (g := [.sys, .link, .perf, .aud, .cmd]); intro _ _)
    | dsimp only

theorem execOscLos_within (s : State) :
    Within [.regs, .gauges, .out] [.clk, .dll] s (outcomeOr s (execOscLos s)) := by
  unfold execOscLos
  try dsimp only
  repeat' first
    | decide | with_reducible apply Within.refl | with_reducible apply Within.ite | with_reducible apply Within.after (gateAll_within _)
    | rw [outcomeOr_ok] | rw [outcomeOr_fault] | with_reducible apply setF_in | with_reducible apply raise_in
    | (rw [hits_cons]; simp only [hits_nil, hits_cons, Area.has, Reg.CLK_EVENTS_OSC_LOS_SEEN, Reg.CLK_ROOT_STATUS_OSC_LOS, Reg.CLK_ROOT_STATUS_ROOT_LOCK]; omega)
    | split | with_reducible apply Within.set | (intro p hp; cases p <;> first | exact absurd (by decide) hp | rfl) | dsimp only

theorem execOscLosTimeout_within (s : State) :
    Within [.regs, .mode, .powerTo, .domains, .boot, .waking, .flash, .pcieUp, .hb, .ports, .jieth, .cal, .cmd, .aud, .out, .freeCtr] [.sys, .link, .perf, .aud, .cmd] s (outcomeOr s (execOscLosTimeout s)) := by
  unfold execOscLosTimeout
  try dsimp only
  repeat' first
    | decide | with_reducible apply Within.refl | with_reducible apply Within.ite | with_reducible apply Within.after (enterFault_within _ _)
    | rw [outcomeOr_ok] | rw [outcomeOr_fault] | split | dsimp only

theorem execOvenOkChange_within (level : Bool) (s : State) :
    Within [.regs, .clk] [.clk] s (outcomeOr s (execOvenOkChange level s)) := by
  unfold execOvenOkChange
  try dsimp only
  repeat' first
    | decide | with_reducible apply Within.refl | with_reducible apply Within.ite | rw [outcomeOr_ok] | rw [outcomeOr_fault]
    | with_reducible apply setB_in | (rw [hits_cons]; simp only [hits_nil, hits_cons, Area.has, Reg.CLK_ROOT_STATUS_OVEN_OK]; omega) | split
    | with_reducible apply Within.set | (intro p hp; cases p <;> first | exact absurd (by decide) hp | rfl) | dsimp only

theorem warmRestart_within (s : State) :
    Within [.clk] [] s (warmRestart s) := by
  unfold warmRestart
  try dsimp only
  repeat' first
    | decide | with_reducible apply Within.refl | with_reducible apply Within.ite | split | with_reducible apply Within.set
    | (intro p hp; cases p <;> first | exact absurd (by decide) hp | rfl) | dsimp only

theorem execOvenLowTimeout_within (s : State) :
    Within [.regs, .clk, .out] [.clk] s (outcomeOr s (execOvenLowTimeout s)) := by
  unfold execOvenLowTimeout
  try dsimp only
  repeat' first
    | decide | with_reducible apply Within.refl | with_reducible apply Within.ite | with_reducible apply Within.after (warmRestart_within _)
    | rw [outcomeOr_ok] | rw [outcomeOr_fault] | with_reducible apply setF_in | with_reducible apply raise_in
    | (rw [hits_cons]; simp only [hits_nil, hits_cons, Area.has, Reg.CLK_ROOT_STATUS_TB_WARM, Reg.CLK_EVENTS_WARM_LOST]; omega) | split | dsimp only

theorem slopeSecond_within (s : State) :
    Within [.clk] [] s (slopeSecond s) := by
  unfold slopeSecond
  try dsimp only
  repeat' first
    | decide | with_reducible apply Within.refl | with_reducible apply Within.ite | with_reducible apply Within.after (slopeRestart_within _)
    | with_reducible apply Within.after (slopeWatch_within _) | split | with_reducible apply Within.set
    | (intro p hp; cases p <;> first | exact absurd (by decide) hp | rfl) | dsimp only

theorem execSlopeEvaluation_within (samples : Nat) (drift : Int) (s : State) :
    Within [.clk] [] s (outcomeOr s (execSlopeEvaluation samples drift s)) := by
  unfold execSlopeEvaluation
  try dsimp only
  repeat' first
    | decide | with_reducible apply Within.refl | with_reducible apply Within.ite | with_reducible apply Within.after (slopeWatch_within _)
    | rw [outcomeOr_ok] | rw [outcomeOr_fault] | split | with_reducible apply Within.set
    | (intro p hp; cases p <;> first | exact absurd (by decide) hp | rfl) | dsimp only

theorem execTbWarmRise_within (seconds : Nat) (s : State) :
    Within [.regs] [.clk] s (outcomeOr s (execTbWarmRise seconds s)) := by
  unfold execTbWarmRise
  try dsimp only
  repeat' first
    | decide | with_reducible apply Within.refl | with_reducible apply Within.ite | rw [outcomeOr_ok] | rw [outcomeOr_fault]
    | with_reducible apply setF_in | with_reducible apply setB_in
    | (rw [hits_cons]; simp only [hits_nil, hits_cons, Area.has, Reg.CLK_ROOT_STATUS_TB_WARM, Reg.CLK_ROOT_STATUS_WARM_BY]; omega) | split
    | dsimp only

theorem phaseLose_within (s : State) (p : Nat) :
    Within [.regs, .mode, .clk, .tim, .sel, .ports, .gauges, .cal, .out, .freeCtr] [.clk, .dll, .time, .ref, .slot, .port, .eng, .cal] s (phaseLose s p) := by
  unfold phaseLose
  try dsimp only
  repeat' first
    | decide | with_reducible apply Within.refl | with_reducible apply Within.ite | with_reducible apply Within.after (loseSource_within _ _ _)
    | with_reducible apply setF_in | with_reducible apply raise_in
    | (rw [hits_cons]; simp only [hits_nil, hits_cons, Area.has, portBase, Reg.PORT_PHASE_VALID, Reg.PORT_TT_EVENTS_PHASE_LOST]; (try split) <;> omega)
    | with_reducible apply Within.after (updPort_within _ _ _) | split | dsimp only

theorem phaseClean_within (s : State) (p : Nat) :
    Within [.ports] [] s (phaseClean s p) := by
  unfold phaseClean
  try dsimp only
  repeat' first
    | decide | with_reducible apply Within.refl | with_reducible apply Within.ite | with_reducible apply Within.after (updPort_within _ _ _) | split
    | dsimp only

theorem execHelperLock_within (locked : Bool) (s : State) :
    Within [.regs, .mode, .clk, .tim, .sel, .ports, .gauges, .cal, .out, .freeCtr] [.clk, .dll, .time, .ref, .slot, .port, .eng, .cal] s (outcomeOr s (execHelperLock locked s)) := by
  unfold execHelperLock
  try dsimp only
  repeat' first
    | decide | with_reducible apply Within.refl | with_reducible apply Within.ite | with_reducible apply Within.after (phaseClean_within _ _)
    | with_reducible apply Within.after (phaseLose_within _ _) | rw [outcomeOr_ok] | rw [outcomeOr_fault] | with_reducible apply setB_in
    | (rw [hits_cons]; simp only [hits_nil, hits_cons, Area.has, Reg.CLK_ROOT_STATUS_HELPER_LOCK]; omega) | split
    | (with_reducible apply Within.fold (l := [.regs, .mode, .clk, .tim, .sel, .ports, .gauges, .cal, .out, .freeCtr]) (g := [.clk, .dll, .time, .ref, .slot, .port, .eng, .cal]); intro _ _)
    | dsimp only

theorem execDllLock_within (n : Nat) (s : State) :
    Within [.regs, .tim] [.dll] s (outcomeOr s (execDllLock n s)) := by
  unfold execDllLock
  try dsimp only
  repeat' first
    | decide | with_reducible apply Within.refl | with_reducible apply Within.ite | with_reducible apply Within.after (startOut_within _ _ _)
    | rw [outcomeOr_ok] | rw [outcomeOr_fault] | with_reducible apply setF_in
    | (rw [hits_cons]; simp only [hits_nil, hits_cons, Area.has, Reg.DLL_STAT_LOCK]; omega) | split | dsimp only

theorem execDllUnlock_within (n : Nat) (s : State) :
    Within [.regs, .out] [.clk, .dll] s (outcomeOr s (execDllUnlock n s)) := by
  unfold execDllUnlock
  try dsimp only
  repeat' first
    | decide | with_reducible apply Within.refl | with_reducible apply Within.ite | with_reducible apply Within.after (dllLose_within _ _)
    | rw [outcomeOr_ok] | rw [outcomeOr_fault] | split | dsimp only

theorem fireNext_within (s : State) (n : Nat) :
    Within [.regs, .clk, .tim, .sel, .coarse, .now, .out, .tod] [.dll, .time, .outw, .gauge, .perf] s (fireNext s n) := by
  unfold fireNext
  try dsimp only
  repeat' first
    | decide | with_reducible apply Within.refl | with_reducible apply Within.ite | with_reducible apply Within.after (advance_within _ _)
    | with_reducible apply Within.after (tick_within _) | with_reducible apply Within.after (outFire_within _ _ _ _) | split | dsimp only

theorem execCompareFire_within (n : Nat) (s : State) :
    Within [.regs, .clk, .tim, .sel, .coarse, .cal, .now, .out, .tod] [.dll, .time, .outw, .gauge, .perf] s (outcomeOr s (execCompareFire n s)) := by
  unfold execCompareFire
  try dsimp only
  repeat' first
    | decide | with_reducible apply Within.refl | with_reducible apply Within.ite | with_reducible apply Within.after (openAhead_within _ _)
    | with_reducible apply Within.after (fireNext_within _ _) | rw [outcomeOr_ok] | rw [outcomeOr_fault]
    | with_reducible apply Within.after (updOut_within _ _ _) | split | dsimp only

theorem engLoad_within (s : State) (e : Nat) :
    Within [.regs, .engs] [.ue] s (engLoad s e) := by
  unfold engLoad
  try dsimp only
  repeat' first
    | decide | with_reducible apply Within.refl | with_reducible apply Within.ite | with_reducible apply setF_in
    | (rw [hits_cons]; simp only [hits_nil, hits_cons, Area.has, Reg.UE_LOAD]; omega) | with_reducible apply Within.after (updEng_within _ _ _)
    | split | dsimp only

theorem bermAges_within (s : State) :
    Within [.regs] [.port] s (bermAges s) := by
  unfold bermAges
  try dsimp only
  repeat' first
    | decide | with_reducible apply Within.refl | with_reducible apply Within.ite | with_reducible apply setF_in
    | (rw [hits_cons]; simp only [hits_nil, hits_cons, Area.has, portBase, Reg.PORT_BERM_AGE]; (try split) <;> omega) | split
    | (with_reducible apply Within.fold (l := [.regs]) (g := [.port]); intro _ _) | dsimp only

theorem execTodSecondBoundary_within (s : State) :
    Within [.regs, .mode, .clk, .tim, .sel, .ports, .coarse, .gauges, .engs, .cal, .now, .out, .freeCtr, .tod] [.clk, .dll, .time, .ref, .slot, .port, .gauge, .eng, .ue, .perf, .cal] s (outcomeOr s (execTodSecondBoundary s)) := by
  unfold execTodSecondBoundary
  try dsimp only
  repeat' first
    | decide | with_reducible apply Within.refl | with_reducible apply Within.ite | with_reducible apply Within.after (engLoad_within _ _)
    | with_reducible apply Within.after (bermAges_within _) | with_reducible apply Within.after (slotsSecond_within _)
    | with_reducible apply Within.after (slopeSecond_within _) | with_reducible apply Within.after (advance_within _ _)
    | with_reducible apply Within.after (engEvent_within _ _) | rw [outcomeOr_ok]
    | rw [outcomeOr_fault] | split
    | (with_reducible apply Within.fold (l := [.regs, .mode, .clk, .tim, .sel, .ports, .coarse, .gauges, .engs, .cal, .now, .out, .freeCtr, .tod]) (g := [.clk, .dll, .time, .ref, .slot, .port, .gauge, .eng, .ue, .perf, .cal]); intro _ _)
    | dsimp only

theorem countMs_within (s : State) :
    Within [.pair, .engs] [] s (countMs s) := by
  unfold countMs
  try dsimp only
  repeat' first
    | decide | with_reducible apply Within.refl | with_reducible apply Within.ite | split | with_reducible apply Within.set
    | (intro p hp; cases p <;> first | exact absurd (by decide) hp | rfl) | dsimp only

theorem mirrorAge_within (s : State) :
    Within [.regs] [.pair] s (mirrorAge s) := by
  unfold mirrorAge
  try dsimp only
  repeat' first
    | decide | with_reducible apply Within.refl | with_reducible apply Within.ite | with_reducible apply setF_in
    | (rw [hits_cons]; simp only [hits_nil, hits_cons, Area.has, Reg.PAIR_MIRROR_AGE]; omega) | split | dsimp only

theorem execTodMillisecondBoundary_within (s : State) :
    Within [.regs, .clk, .tim, .sel, .pair, .coarse, .engs, .now, .out, .tod] [.pair, .gauge, .perf] s (outcomeOr s (execTodMillisecondBoundary s)) := by
  unfold execTodMillisecondBoundary
  try dsimp only
  repeat' first
    | decide | with_reducible apply Within.refl | with_reducible apply Within.ite | with_reducible apply Within.after (advance_within _ _)
    | with_reducible apply Within.after (engEvent_within _ _) | with_reducible apply Within.after (mirrorAge_within _)
    | with_reducible apply Within.after (countMs_within _) | rw [outcomeOr_ok] | rw [outcomeOr_fault] | split | dsimp only

theorem execWeirSlewEnd_within (s : State) :
    Within [.regs, .clk, .tim, .sel, .coarse, .now, .out, .tod] [.gauge, .perf] s (outcomeOr s (execWeirSlewEnd s)) := by
  unfold execWeirSlewEnd
  try dsimp only
  repeat' first
    | decide | with_reducible apply Within.refl | with_reducible apply Within.ite | with_reducible apply Within.after (advance_within _ _)
    | rw [outcomeOr_ok] | rw [outcomeOr_fault] | split | dsimp only

theorem execRampEnd_within (s : State) :
    Within [.regs, .clk, .tim, .sel, .coarse, .now, .out, .tod] [.gauge, .perf] s (outcomeOr s (execRampEnd s)) := by
  unfold execRampEnd
  try dsimp only
  repeat' first
    | decide | with_reducible apply Within.refl | with_reducible apply Within.ite | with_reducible apply Within.after (advance_within _ _)
    | rw [outcomeOr_ok] | rw [outcomeOr_fault] | split | dsimp only

end Sys2Proof.Machine
end

