-- ==== Sys2Proof/Laws/WithinNet.lean ====
section
/-! SUPPORT. What each operation may touch: ports and the switch core. -/

set_option linter.unusedSimpArgs false
set_option linter.unusedTactic false
set_option linter.unreachableTactic false
set_option linter.unnecessarySeqFocus false
set_option linter.style.multiGoal false

namespace Sys2Proof.Machine

theorem evalMismatch_within (s : State) :
    Within [.regs] [.port, .cal] s (evalMismatch s) := by
  unfold evalMismatch
  try dsimp only
  repeat' first
    | decide | with_reducible apply Within.refl | with_reducible apply Within.ite | with_reducible apply setF_in | with_reducible apply setB_in
    | (rw [hits_cons]; simp only [hits_nil, hits_cons, Area.has, portBase, Reg.CAL_MISMATCH_LO, Reg.CAL_MISMATCH_HI, Reg.CAL_STATUS_CAL_LOAD_MISMATCH, Reg.PORT_U_STATED]; (try split) <;> omega)
    | split | (with_reducible apply Within.fold (l := [.regs]) (g := [.port, .cal]); intro _ _) | dsimp only

theorem bermAsk_within (s : State) (r : BermReq) :
    Within [.regs, .ports] [.port] s (bermAsk s r) := by
  unfold bermAsk
  try dsimp only
  repeat' first
    | decide | with_reducible apply Within.refl | with_reducible apply Within.ite | with_reducible apply setF_in
    | (rw [hits_cons]; simp only [hits_nil, hits_cons, Area.has, portBase, Reg.PORT_TT_STATUS_BERM_WAIT]; (try split) <;> omega) | split
    | with_reducible apply Within.set | (intro p hp; cases p <;> first | exact absurd (by decide) hp | rfl) | dsimp only

theorem endCal_within (s : State) :
    Within [.regs, .mode, .clk, .tim, .sel, .out] [.ref, .eng] s (endCal s) := by
  unfold endCal
  try dsimp only
  repeat' first
    | decide | with_reducible apply Within.refl | with_reducible apply Within.ite | with_reducible apply Within.after (enterMode_within _ _) | split
    | dsimp only

theorem startHead_within (s : State) :
    Within [.regs, .ports] [.port] s (startHead s) := by
  unfold startHead
  try dsimp only
  repeat' first
    | decide | with_reducible apply Within.refl | with_reducible apply Within.ite | with_reducible apply setF_in
    | (rw [hits_cons]; simp only [hits_nil, hits_cons, Area.has, portBase, Reg.PORT_TT_STATUS_BERM_WAIT]; (try split) <;> omega) | split
    | with_reducible apply Within.set | (intro p hp; cases p <;> first | exact absurd (by decide) hp | rfl) | dsimp only

theorem headDone_within (s : State) :
    Within [.regs, .mode, .clk, .tim, .sel, .ports, .cal, .out] [.ref, .port, .eng] s (headDone s) := by
  unfold headDone
  try dsimp only
  repeat' first
    | decide | with_reducible apply Within.refl | with_reducible apply Within.ite | with_reducible apply Within.after (startHead_within _)
    | with_reducible apply Within.after (endCal_within _) | split | with_reducible apply Within.set
    | (intro p hp; cases p <;> first | exact absurd (by decide) hp | rfl) | dsimp only

theorem headFail_within (s : State) :
    Within [.regs, .mode, .clk, .tim, .sel, .ports, .cal, .out] [.ref, .port, .eng, .cal] s (headFail s) := by
  unfold headFail
  try dsimp only
  repeat' first
    | decide | with_reducible apply Within.refl | with_reducible apply Within.ite | with_reducible apply Within.after (startHead_within _)
    | with_reducible apply Within.after (headDone_within _) | with_reducible apply raise_in
    | (rw [hits_cons]; simp only [hits_nil, hits_cons, Area.has, Reg.CAL_EVENTS_ITEM_FAIL]; omega) | split | with_reducible apply Within.set
    | (intro p hp; cases p <;> first | exact absurd (by decide) hp | rfl) | dsimp only

theorem autoRecal_within (s : State) :
    Within [.regs, .ports] [.port] s (autoRecal s) := by
  unfold autoRecal
  try dsimp only
  repeat' first
    | decide | with_reducible apply Within.refl | with_reducible apply Within.ite | with_reducible apply Within.after (bermAsk_within _ _)
    | with_reducible apply Within.after (updPort_within _ _ _) | split
    | (with_reducible apply Within.fold (l := [.regs, .ports]) (g := [.port]); intro _ _) | dsimp only

theorem publishPhase_within (s : State) (p w : Nat) :
    Within [.regs, .ports] [.port] s (publishPhase s p w) := by
  unfold publishPhase
  try dsimp only
  repeat' first
    | decide | with_reducible apply Within.refl | with_reducible apply Within.ite | with_reducible apply setF_in
    | (rw [hits_cons]; simp only [hits_nil, hits_cons, Area.has, portBase, Reg.PORT_PHASE_PHASE, Reg.PORT_PHASE_VALID, Reg.PORT_PHASE_STALE]; (try split) <;> omega)
    | with_reducible apply Within.after (updPort_within _ _ _) | split | dsimp only

theorem execPhaseWord_within (p : Nat) (beats : List Beat) (s : State) :
    Within [.regs, .ports, .out] [.port, .perf] s (outcomeOr s (execPhaseWord p beats s)) := by
  unfold execPhaseWord
  try dsimp only
  repeat' first
    | decide | with_reducible apply Within.refl | with_reducible apply Within.ite | with_reducible apply Within.after (publishPhase_within _ _ _)
    | with_reducible apply Within.after (perf_within _ _ _ _ _ _) | rw [outcomeOr_ok] | rw [outcomeOr_fault] | with_reducible apply setF_in
    | with_reducible apply incF_in
    | (rw [hits_cons]; simp only [hits_nil, hits_cons, Area.has, portBase, Reg.PORT_PHASE_STALE, Reg.PORT_PHASE_SEQ]; (try split) <;> omega)
    | with_reducible apply Within.after (updPort_within _ _ _) | split | dsimp only

theorem cdrLose_within (s : State) (p : Nat) :
    Within [.regs, .mode, .clk, .tim, .sel, .ports, .gauges, .cal, .out, .freeCtr] [.clk, .dll, .time, .ref, .slot, .port, .eng, .cal] s (cdrLose s p) := by
  unfold cdrLose
  try dsimp only
  repeat' first
    | decide | with_reducible apply Within.refl | with_reducible apply Within.ite | with_reducible apply Within.after (phaseLose_within _ _)
    | with_reducible apply setF_in
    | (rw [hits_cons]; simp only [hits_nil, hits_cons, Area.has, portBase, Reg.PORT_TT_STATUS_CDR_LOCK]; (try split) <;> omega)
    | with_reducible apply Within.after (updPort_within _ _ _) | split | dsimp only

theorem execPortSignalLoss_within (p : Nat) (s : State) :
    Within [.regs, .mode, .clk, .tim, .sel, .ports, .gauges, .cal, .out, .freeCtr] [.clk, .dll, .time, .ref, .slot, .port, .eng, .cal] s (outcomeOr s (execPortSignalLoss p s)) := by
  unfold execPortSignalLoss
  try dsimp only
  repeat' first
    | decide | with_reducible apply Within.refl | with_reducible apply Within.ite | with_reducible apply Within.after (cdrLose_within _ _)
    | rw [outcomeOr_ok] | rw [outcomeOr_fault] | split | dsimp only

theorem execLinkDelayUpdate_within (p : Nat) (t1 t2 t3 t4 : Int) (s : State) :
    Within [.ports] [] s (outcomeOr s (execLinkDelayUpdate p t1 t2 t3 t4 s)) := by
  unfold execLinkDelayUpdate
  try dsimp only
  repeat' first
    | decide | with_reducible apply Within.refl | with_reducible apply Within.ite | rw [outcomeOr_ok] | rw [outcomeOr_fault]
    | with_reducible apply Within.after (updPort_within _ _ _) | split | dsimp only

theorem publishLink_within (s : State) (p : Nat) :
    Within [.regs, .ports] [.port] s (publishLink s p) := by
  unfold publishLink
  try dsimp only
  repeat' first
    | decide | with_reducible apply Within.refl | with_reducible apply Within.ite | with_reducible apply setHL_in
    | (rw [hits_cons]; simp only [hits_nil, hits_cons, Area.has, portBase, Reg.PORT_OFFSET_LO, Reg.PORT_OFFSET_HI, Reg.PORT_LINK_DLY_LO, Reg.PORT_LINK_DLY_HI]; (try split) <;> omega)
    | with_reducible apply Within.after (updPort_within _ _ _) | split | dsimp only

theorem applyBerm_within (s : State) (p : Nat) :
    Within [.regs, .ports] [.port] s (applyBerm s p) := by
  unfold applyBerm
  try dsimp only
  repeat' first
    | decide | with_reducible apply Within.refl | with_reducible apply Within.ite | with_reducible apply setF_in
    | (rw [hits_cons]; simp only [hits_nil, hits_cons, Area.has, portBase, Reg.PORT_BERM_TX, Reg.PORT_BERM_RX, Reg.PORT_BERM_AGE]; (try split) <;> omega)
    | with_reducible apply Within.after (updPort_within _ _ _) | split | dsimp only

theorem applyPortItems_within (s : State) (p : Nat) :
    Within [.regs, .ports, .cal] [.port] s (applyPortItems s p) := by
  unfold applyPortItems
  try dsimp only
  repeat' first
    | decide | with_reducible apply Within.refl | with_reducible apply Within.ite | with_reducible apply Within.after (applyItem_within _ _)
    | with_reducible apply setF_in
    | (rw [hits_cons]; simp only [hits_nil, hits_cons, Area.has, portBase, Reg.PORT_BERM_TX, Reg.PORT_BERM_RX]; (try split) <;> omega)
    | with_reducible apply Within.after (updPort_within _ _ _) | split
    | (with_reducible apply Within.fold (l := [.regs, .ports, .cal]) (g := [.port]); intro _ _) | dsimp only

theorem applyPtpPort_within (s : State) (p q : Nat) :
    Within [.ports] [] s (applyPtpPort s p q) := by
  unfold applyPtpPort
  try dsimp only
  repeat' first
    | decide | with_reducible apply Within.refl | with_reducible apply Within.ite | with_reducible apply Within.after (updPort_within _ _ _) | split
    | dsimp only

theorem portQuality_within (s : State) (p : Nat) :
    Within [.regs] [.port] s (portQuality s p) := by
  unfold portQuality
  try dsimp only
  repeat' first
    | decide | with_reducible apply Within.refl | with_reducible apply Within.ite | with_reducible apply setF_in | with_reducible apply setB_in
    | (rw [hits_cons]; simp only [hits_nil, hits_cons, Area.has, portBase, Reg.PORT_U_STATED, Reg.PORT_PHASE_STALE, Reg.PORT_TT_STATUS_CAL_STALE]; (try split) <;> omega)
    | split | dsimp only

theorem runToSync_within (s : State) (p : Nat) :
    Within [.regs, .clk, .tim, .sel, .coarse, .now, .out, .tod] [.gauge, .perf] s (runToSync s p) := by
  unfold runToSync
  try dsimp only
  repeat' first
    | decide | with_reducible apply Within.refl | with_reducible apply Within.ite | with_reducible apply Within.after (advance_within _ _) | split
    | dsimp only

theorem execBermRequest_within (p : Nat) (t : BermTrig) (s : State) :
    Within [.regs, .ports] [.port] s (outcomeOr s (execBermRequest p t s)) := by
  unfold execBermRequest
  try dsimp only
  repeat' first
    | decide | with_reducible apply Within.refl | with_reducible apply Within.ite | with_reducible apply Within.after (bermAsk_within _ _)
    | rw [outcomeOr_ok] | rw [outcomeOr_fault] | split | dsimp only

theorem execBermGapRequest_within (p : Nat) (a : GapAsk) (s : State) :
    Within [.regs, .ports, .out] [.port] s (outcomeOr s (execBermGapRequest p a s)) := by
  unfold execBermGapRequest
  try dsimp only
  repeat' first
    | decide | with_reducible apply Within.refl | with_reducible apply Within.ite | rw [outcomeOr_ok] | rw [outcomeOr_fault]
    | with_reducible apply setB_in
    | (rw [hits_cons]; simp only [hits_nil, hits_cons, Area.has, portBase, Reg.PORT_TT_STATUS_PARTNER_TMR]; (try split) <;> omega)
    | with_reducible apply Within.after (emit_within _ _) | with_reducible apply Within.after (updPort_within _ _ _) | split | dsimp only

theorem execBermWindowStart_within (p : Nat) (s : State) :
    Within [.regs, .clk, .tim, .sel, .ports, .coarse, .now, .out, .tod] [.port, .gauge, .perf] s (outcomeOr s (execBermWindowStart p s)) := by
  unfold execBermWindowStart
  try dsimp only
  repeat' first
    | decide | with_reducible apply Within.refl | with_reducible apply Within.ite | with_reducible apply Within.after (perf_within _ _ _ _ _ _)
    | with_reducible apply Within.after (runTo_within _ _) | rw [outcomeOr_ok] | rw [outcomeOr_fault] | with_reducible apply setF_in
    | (rw [hits_cons]; simp only [hits_nil, hits_cons, Area.has, portBase, Reg.PORT_TT_STATUS_BERM_WAIT, Reg.PORT_TT_STATUS_BERM_BUSY, Reg.PORT_PHASE_STALE]; (try split) <;> omega)
    | with_reducible apply Within.after (updPort_within _ _ _) | split | with_reducible apply Within.set
    | (intro p hp; cases p <;> first | exact absurd (by decide) hp | rfl) | dsimp only

theorem takeClass_within (s : State) (p : Nat) :
    Within [.regs, .ports] [.port, .cal] s (takeClass s p) := by
  unfold takeClass
  try dsimp only
  repeat' first
    | decide | with_reducible apply Within.refl | with_reducible apply Within.ite | with_reducible apply Within.after (evalMismatch_within _)
    | with_reducible apply Within.after (updPort_within _ _ _) | split | dsimp only

theorem execBermWindowEnd_within (txA loopA txB loopB : Nat) (dieTemp : Int) (s : State) :
    Within [.regs, .ports, .out] [.port, .cal] s (outcomeOr s (execBermWindowEnd txA loopA txB loopB dieTemp s)) := by
  unfold execBermWindowEnd
  try dsimp only
  repeat' first
    | decide | with_reducible apply Within.refl | with_reducible apply Within.ite | with_reducible apply Within.after (bermAsk_within _ _)
    | with_reducible apply Within.after (takeClass_within _ _) | rw [outcomeOr_ok] | rw [outcomeOr_fault] | with_reducible apply setF_in
    | with_reducible apply raise_in
    | (rw [hits_cons]; simp only [hits_nil, hits_cons, Area.has, portBase, Reg.PORT_TT_EVENTS_BERM_DISAGREE, Reg.PORT_TT_EVENTS_BERM_DONE, Reg.PORT_TT_STATUS_BERM_BUSY, Reg.CAL_DIE_TEMP]; (try split) <;> omega)
    | with_reducible apply Within.after (updPort_within _ _ _) | split | with_reducible apply Within.set
    | (intro p hp; cases p <;> first | exact absurd (by decide) hp | rfl) | dsimp only

theorem bermAbandon_within (s : State) (p : Nat) :
    Within [.regs, .mode, .clk, .tim, .sel, .ports, .cal, .out] [.ref, .port, .eng, .cal] s (bermAbandon s p) := by
  unfold bermAbandon
  try dsimp only
  repeat' first
    | decide | with_reducible apply Within.refl | with_reducible apply Within.ite | with_reducible apply Within.after (bermAsk_within _ _)
    | with_reducible apply Within.after (headFail_within _) | with_reducible apply setF_in | with_reducible apply raise_in
    | (rw [hits_cons]; simp only [hits_nil, hits_cons, Area.has, portBase, Reg.PORT_TT_STATUS_BERM_BUSY, Reg.PORT_TT_EVENTS_BERM_ABANDONED]; (try split) <;> omega)
    | with_reducible apply Within.after (updPort_within _ _ _) | split | with_reducible apply Within.set
    | (intro p hp; cases p <;> first | exact absurd (by decide) hp | rfl) | dsimp only

theorem spillCheck_within (s : State) (q : Nat) :
    Within [.regs] [.queue] s (spillCheck s q) := by
  unfold spillCheck
  try dsimp only
  repeat' first
    | decide | with_reducible apply Within.refl | with_reducible apply Within.ite | with_reducible apply setF_in
    | (rw [hits_cons]; simp only [hits_nil, hits_cons, Area.has, Reg.Q_Q_CFG_SPILLING]; omega) | split | dsimp only

theorem takeList_within (s : State) (f : Nat) :
    Within [.fab] [] s (takeList s f) := by
  unfold takeList
  try dsimp only
  repeat' first
    | decide | with_reducible apply Within.refl | with_reducible apply Within.ite | with_reducible apply Within.after (updGate_within _ _ _) | split
    | dsimp only

theorem execGateChange_within (f : Nat) (s : State) :
    Within [.regs, .clk, .tim, .sel, .fab, .coarse, .now, .out, .tod] [.gauge, .perf] s (outcomeOr s (execGateChange f s)) := by
  unfold execGateChange
  try dsimp only
  repeat' first
    | decide | with_reducible apply Within.refl | with_reducible apply Within.ite | with_reducible apply Within.after (runTo_within _ _)
    | with_reducible apply Within.after (takeList_within _ _) | rw [outcomeOr_ok] | rw [outcomeOr_fault] | split | dsimp only

theorem execGateListTakeEffect_within (f : Nat) (s : State) :
    Within [.regs, .clk, .tim, .sel, .fab, .coarse, .now, .out, .tod] [.gauge, .perf] s (outcomeOr s (execGateListTakeEffect f s)) := by
  unfold execGateListTakeEffect
  try dsimp only
  repeat' first
    | decide | with_reducible apply Within.refl | with_reducible apply Within.ite | with_reducible apply Within.after (runTo_within _ _)
    | rw [outcomeOr_ok] | rw [outcomeOr_fault] | with_reducible apply Within.after (updGate_within _ _ _) | split | dsimp only

theorem takeLists_within (s : State) :
    Within [.fab] [] s (takeLists s) := by
  unfold takeLists
  try dsimp only
  repeat' first
    | decide | with_reducible apply Within.refl | with_reducible apply Within.ite | with_reducible apply Within.after (takeList_within _ _) | split
    | (with_reducible apply Within.fold (l := [.fab]) (g := []); intro _ _) | dsimp only

theorem perfDrop_within (s : State) (f tc : Nat) :
    Within [.regs, .out] [.perf] s (perfDrop s f tc) := by
  unfold perfDrop
  try dsimp only
  repeat' first
    | decide | with_reducible apply Within.refl | with_reducible apply Within.ite | with_reducible apply Within.after (perf_within _ _ _ _ _ _)
    | split | dsimp only

theorem countDiscard_within (s : State) (f : Nat) :
    Within [.regs, .out] [.fport, .perf] s (countDiscard s f) := by
  unfold countDiscard
  try dsimp only
  repeat' first
    | decide | with_reducible apply Within.refl | with_reducible apply Within.ite | with_reducible apply Within.after (perfDrop_within _ _ _)
    | with_reducible apply incHL_in | (rw [hits_cons]; simp only [hits_nil, hits_cons, Area.has, Reg.FP_RX_DISCARD_LO, Reg.FP_RX_DISCARD_HI]; omega)
    | split | dsimp only

theorem countAdmit_within (s : State) (f tc : Nat) :
    Within [.regs, .out] [.fport, .perf] s (countAdmit s f tc) := by
  unfold countAdmit
  try dsimp only
  repeat' first
    | decide | with_reducible apply Within.refl | with_reducible apply Within.ite | with_reducible apply Within.after (perfDrop_within _ _ _)
    | with_reducible apply incHL_in | (rw [hits_cons]; simp only [hits_nil, hits_cons, Area.has, Reg.FP_DROP_ADMIT_LO, Reg.FP_DROP_ADMIT_HI]; omega)
    | split | dsimp only

theorem countSluiceDrop_within (s : State) (f : Nat) :
    Within [.regs, .out] [.fport, .perf] s (countSluiceDrop s f) := by
  unfold countSluiceDrop
  try dsimp only
  repeat' first
    | decide | with_reducible apply Within.refl | with_reducible apply Within.ite | with_reducible apply Within.after (perfDrop_within _ _ _)
    | with_reducible apply incHL_in | (rw [hits_cons]; simp only [hits_nil, hits_cons, Area.has, Reg.FP_SLUICE_DROP_LO, Reg.FP_SLUICE_DROP_HI]; omega)
    | split | dsimp only

theorem countFlushed_within (s : State) (f k : Nat) :
    Within [.regs] [.fport] s (countFlushed s f k) := by
  unfold countFlushed
  try dsimp only
  repeat' first
    | decide | with_reducible apply Within.refl | with_reducible apply Within.ite | with_reducible apply incHL_in
    | (rw [hits_cons]; simp only [hits_nil, hits_cons, Area.has, Reg.FP_FLUSHED_LO, Reg.FP_FLUSHED_HI]; omega) | split | dsimp only

theorem countTx_within (s : State) (f len : Nat) :
    Within [.regs] [.fport] s (countTx s f len) := by
  unfold countTx
  try dsimp only
  repeat' first
    | decide | with_reducible apply Within.refl | with_reducible apply Within.ite | with_reducible apply incHL_in
    | (rw [hits_cons]; simp only [hits_nil, hits_cons, Area.has, Reg.FP_TX_FRAMES_LO, Reg.FP_TX_FRAMES_HI, Reg.FP_TX_BYTES_LO, Reg.FP_TX_BYTES_HI]; omega)
    | split | dsimp only

theorem updEg_within (s : State) (f : Nat) (g : EgS → EgS) :
    Within [.fab] [] s (updEg s f g) := by
  unfold updEg
  try dsimp only
  repeat' first
    | decide | with_reducible apply Within.refl | with_reducible apply Within.ite | split | with_reducible apply Within.set
    | (intro p hp; cases p <;> first | exact absurd (by decide) hp | rfl) | dsimp only

theorem runPs_within (s : State) (ps : Nat) :
    Within [.regs, .clk, .tim, .sel, .coarse, .now, .out, .tod] [.gauge, .perf] s (runPs s ps) := by
  unfold runPs
  try dsimp only
  repeat' first
    | decide | with_reducible apply Within.refl | with_reducible apply Within.ite | with_reducible apply Within.after (advance_within _ _) | split
    | dsimp only

theorem spillMark_within (s : State) (q : Nat) :
    Within [.regs] [.queue] s (spillMark s q) := by
  unfold spillMark
  try dsimp only
  repeat' first
    | decide | with_reducible apply Within.refl | with_reducible apply Within.ite | with_reducible apply setF_in
    | (rw [hits_cons]; simp only [hits_nil, hits_cons, Area.has, Reg.Q_Q_CFG_SPILLING]; omega) | split | dsimp only

theorem spillMarks_within (s : State) :
    Within [.regs] [.queue] s (spillMarks s) := by
  unfold spillMarks
  try dsimp only
  repeat' first
    | decide | with_reducible apply Within.refl | with_reducible apply Within.ite | with_reducible apply Within.after (spillMark_within _ _) | split
    | (with_reducible apply Within.fold (l := [.regs]) (g := [.queue]); intro _ _) | dsimp only

theorem polderLow_within (old : State) (s : State) :
    Within [.regs, .out] [.fab] s (polderLow old s) := by
  unfold polderLow
  try dsimp only
  repeat' first
    | decide | with_reducible apply Within.refl | with_reducible apply Within.ite | with_reducible apply raiseIf_in
    | (rw [hits_cons]; simp only [hits_nil, hits_cons, Area.has, Reg.FAB_EVENTS_POLDER_LOW]; omega) | split | dsimp only

theorem enqueue_within (s : State) (fr : QFrame) :
    Within [.regs, .fab, .out] [.fab, .fport, .queue, .perf] s (enqueue s fr) := by
  unfold enqueue
  extract_lets q n free rsv split over_ stage full max_ limit noStage s0
  have h0 : Within [.regs, .fab, .out] [.fab, .fport, .queue, .perf] s s0 :=
    .ite .refl (setF_in .refl (by decide) (by simp only [hits_nil, hits_cons, Area.has, Reg.Q_Q_CFG_SPILLING]; omega))
  clear_value s0 noStage limit
  split
  · exact (countAdmit_within _ _ _).after
      (raiseIf_in h0 (by decide) (by decide) (by simp only [hits_nil, hits_cons, Area.has, Reg.FAB_EVENTS_SPILL_FULL]; omega)) (by decide) (by decide)
  · rename_i fr1 src s1 s3 s4 hc
    clear_value fr1
    have h1 : Within [.regs, .fab, .out] [.fab, .fport, .queue, .perf] s s1 :=
      .upd (t := s0) rfl rfl h0 (fun p hp => by cases p <;> first | exact absurd (by decide) hp | rfl)
    have h3 : Within [.regs, .fab, .out] [.fab, .fport, .queue, .perf] s s3 := (perf_within _ _ _ _ _ _).after h1 (by decide) (by decide)
    have h4 : Within [.regs, .fab, .out] [.fab, .fport, .queue, .perf] s s4 :=
      .ite h3 ((perf_within _ _ _ _ _ _).after h3 (by decide) (by decide))
    exact (spillMarks_within _).after ((polderLow_within _ _).after h4 (by decide) (by decide)) (by decide) (by decide)

theorem admitSluice_within (s : State) (fr : SFrame) :
    Within [.regs, .fab, .out] [.fab, .fport, .queue, .perf] s (admitSluice s fr) := by
  unfold admitSluice
  try dsimp only
  repeat' first
    | decide | with_reducible apply Within.refl | with_reducible apply Within.ite | with_reducible apply Within.after (perf_within _ _ _ _ _ _)
    | with_reducible apply Within.after (polderLow_within _ _) | with_reducible apply Within.after (spillMarks_within _)
    | with_reducible apply Within.after (countSluiceDrop_within _ _) | split | with_reducible apply Within.set
    | (intro p hp; cases p <;> first | exact absurd (by decide) hp | rfl) | dsimp only

theorem macSet_within (s : State) (e : MacEntry) :
    Within [.fab] [] s (macSet s e) := by
  unfold macSet
  try dsimp only
  repeat' first
    | decide | with_reducible apply Within.refl | with_reducible apply Within.ite | split | with_reducible apply Within.set
    | (intro p hp; cases p <;> first | exact absurd (by decide) hp | rfl) | dsimp only

theorem learn_within (s : State) (f vid mac : Nat) :
    Within [.regs, .fab] [.fab] s (learn s f vid mac) := by
  unfold learn
  try dsimp only
  repeat' first
    | decide | with_reducible apply Within.refl | with_reducible apply Within.ite | with_reducible apply Within.after (macSet_within _ _)
    | with_reducible apply incF_in | (rw [hits_cons]; simp only [hits_nil, hits_cons, Area.has, Reg.FAB_LEARN_FAIL]; omega) | split | dsimp only

theorem execMacAgeOut_within (vid mac : Nat) (s : State) :
    Within [.fab] [] s (outcomeOr s (execMacAgeOut vid mac s)) := by
  unfold execMacAgeOut
  try dsimp only
  repeat' first
    | decide | with_reducible apply Within.refl | with_reducible apply Within.ite | rw [outcomeOr_ok] | rw [outcomeOr_fault] | split
    | with_reducible apply Within.set | (intro p hp; cases p <;> first | exact absurd (by decide) hp | rfl) | dsimp only

theorem originate_within (s : State) (p : Nat) (k : PtpKind) :
    Within [.regs, .fab, .out] [.fab, .fport, .queue, .perf, .sec] s (originate s p k) := by
  unfold originate
  try dsimp only
  repeat' first
    | decide | with_reducible apply Within.refl | with_reducible apply Within.ite | with_reducible apply Within.after (admitSluice_within _ _)
    | with_reducible apply raise_in | (rw [hits_cons]; simp only [hits_nil, hits_cons, Area.has, Reg.SEC_EVENTS_AUTH_KEY_MISSING]; omega) | split
    | dsimp only

theorem takeAnnounce_within (s : State) (f : Nat) (fr : FrameIn) :
    Within [.ports] [] s (takeAnnounce s f fr) := by
  unfold takeAnnounce
  try dsimp only
  repeat' first
    | decide | with_reducible apply Within.refl | with_reducible apply Within.ite | with_reducible apply Within.after (updPort_within _ _ _) | split
    | dsimp only

theorem firmwarePtp_within (s : State) (f : Nat) (fr : FrameIn) (h : PtpHdr) (a : Arrive) :
    Within [.regs, .ports, .fab, .out] [.port, .fab, .fport, .queue, .perf, .sec] s (firmwarePtp s f fr h a) := by
  unfold firmwarePtp
  try dsimp only
  repeat' first
    | decide | with_reducible apply Within.refl | with_reducible apply Within.ite | with_reducible apply Within.after (takeAnnounce_within _ _ _)
    | with_reducible apply Within.after (originate_within _ _ _) | with_reducible apply Within.after (sendMessage_within _ _ _)
    | with_reducible apply setF_in
    | (rw [hits_cons]; simp only [hits_nil, hits_cons, Area.has, portBase, Reg.PORT_TT_STATUS_L1SYNC_UP]; (try split) <;> omega)
    | with_reducible apply Within.after (updPort_within _ _ _) | split | with_reducible apply Within.set
    | (intro p hp; cases p <;> first | exact absurd (by decide) hp | rfl) | dsimp only

theorem hostPtp_within (s : State) (f : Nat) (fr : FrameIn) (a : Arrive) :
    Within [.regs, .ports] [.cmd] s (hostPtp s f fr a) := by
  unfold hostPtp
  try dsimp only
  repeat' first
    | decide | with_reducible apply Within.refl | with_reducible apply Within.ite | with_reducible apply incF_in
    | (rw [hits_cons]; simp only [hits_nil, hits_cons, Area.has, Reg.CMD_PTP_RX_DROP]; omega) | split | with_reducible apply Within.set
    | (intro p hp; cases p <;> first | exact absurd (by decide) hp | rfl) | dsimp only

theorem toDevice_within (s : State) (f : Nat) (fr : FrameIn) (a : Arrive) :
    Within [.regs, .ports, .fab, .out] [.port, .fab, .fport, .queue, .perf, .sec, .cmd] s (toDevice s f fr a) := by
  unfold toDevice
  try dsimp only
  repeat' first
    | decide | with_reducible apply Within.refl | with_reducible apply Within.ite | with_reducible apply Within.after (firmwarePtp_within _ _ _ _ _)
    | with_reducible apply Within.after (hostPtp_within _ _ _ _) | with_reducible apply Within.after (emit_within _ _) | split | dsimp only

theorem offerLatency_within (s : State) (f tc ingTs : Nat) :
    Within [.regs] [.perf] s (offerLatency s f tc ingTs) := by
  unfold offerLatency
  try dsimp only
  repeat' first
    | decide | with_reducible apply Within.refl | with_reducible apply Within.ite | with_reducible apply Within.after (histOffer_within _ _ _ _)
    | split | dsimp only

theorem sendRecord_within (s : State) (f : Nat) (fr : QFrame) (len : Nat) (good : Bool) (stamp : Option Nat) :
    Within [.ports, .out] [] s (sendRecord s f fr len good stamp) := by
  unfold sendRecord
  try dsimp only
  repeat' first
    | decide | with_reducible apply Within.refl | with_reducible apply Within.ite | with_reducible apply Within.after (emit_within _ _) | split
    | with_reducible apply Within.set | (intro p hp; cases p <;> first | exact absurd (by decide) hp | rfl) | dsimp only

theorem sendFrame_within (s : State) (f tc len : Nat) (fr : QFrame) (good : Bool) (stamp : Option Nat) :
    Within [.regs, .ports, .jieth, .out] [.fport, .perf] s (sendFrame s f tc len fr good stamp) := by
  unfold sendFrame
  try dsimp only
  repeat' first
    | decide | with_reducible apply Within.refl | with_reducible apply Within.ite | with_reducible apply Within.after (offerLatency_within _ _ _ _)
    | with_reducible apply Within.after (jiethSend_within _ _ _ _) | with_reducible apply Within.after (sendRecord_within _ _ _ _ _ _)
    | with_reducible apply Within.after (countTx_within _ _ _) | split | dsimp only

theorem egTake_within (s : State) (f : Nat) (fr : QFrame) (sent upto : Nat) (last : Bool) :
    Within [.fab] [] s (egTake s f fr sent upto last) := by
  unfold egTake
  try dsimp only
  repeat' first
    | decide | with_reducible apply Within.refl | with_reducible apply Within.ite | with_reducible apply Within.after (updEg_within _ _ _) | split
    | dsimp only

theorem toEgress_within (s : State) (f : Nat) (fr : FrameIn) (a : Arrive) (v : Vlan) (g : Nat) :
    Within [.regs, .ports, .jieth, .fab, .out] [.fab, .fport, .queue, .perf, .sec] s (toEgress s f fr a v g) := by
  unfold toEgress
  try dsimp only
  repeat' first
    | decide | with_reducible apply Within.refl | with_reducible apply Within.ite | with_reducible apply Within.after (enqueue_within _ _)
    | with_reducible apply Within.after (admitSluice_within _ _) | with_reducible apply Within.after (countFlushed_within _ _ _)
    | with_reducible apply Within.after (perfDrop_within _ _ _) | with_reducible apply Within.after (countDiscard_within _ _)
    | with_reducible apply Within.after (sendFrame_within _ _ _ _ _ _ _) | with_reducible apply Within.after (egTake_within _ _ _ _ _ _)
    | with_reducible apply incHL_in | with_reducible apply raise_in
    | (rw [hits_cons]; simp only [hits_nil, hits_cons, Area.has, Reg.SEC_EVENTS_AUTH_KEY_MISSING, Reg.FP_CT_TRUNCATED_LO, Reg.FP_CT_TRUNCATED_HI]; omega)
    | split | dsimp only

theorem rxFrame_within (s0 : State) (f : Nat) (fr : FrameIn) (a : Arrive) :
    Within [.regs, .ports, .jieth, .fab, .out] [.port, .fab, .fport, .queue, .perf, .sec, .cmd] s0 (rxFrame s0 f fr a) := by
  unfold rxFrame
  try dsimp only
  repeat' first
    | decide | with_reducible apply Within.refl | with_reducible apply Within.ite | with_reducible apply Within.after (toEgress_within _ _ _ _ _ _)
    | with_reducible apply Within.after (toDevice_within _ _ _ _) | with_reducible apply Within.after (learn_within _ _ _ _)
    | with_reducible apply Within.after (ptpAuth_within _ _ _) | with_reducible apply Within.afterFst (ptpAuth_within _ _ _) (by assumption)
    | with_reducible apply Within.after (countDiscard_within _ _) | with_reducible apply Within.after (perfDrop_within _ _ _)
    | with_reducible apply incHL_in
    | (rw [hits_cons]; simp only [hits_nil, hits_cons, Area.has, Reg.FP_RX_OVERSIZE_LO, Reg.FP_RX_OVERSIZE_HI, Reg.FP_RX_FCS_ERR_LO, Reg.FP_RX_FCS_ERR_HI, Reg.FP_RX_FRAMES_LO, Reg.FP_RX_FRAMES_HI, Reg.FP_RX_BYTES_LO, Reg.FP_RX_BYTES_HI, Reg.FP_RX_RUNT_LO, Reg.FP_RX_RUNT_HI]; omega)
    | split
    | (with_reducible apply Within.fold (l := [.regs, .ports, .jieth, .fab, .out]) (g := [.port, .fab, .fport, .queue, .perf, .sec, .cmd]); intro _ _)
    | with_reducible apply Within.set | (intro p hp; cases p <;> first | exact absurd (by decide) hp | rfl) | dsimp only

theorem freeCells_within (s : State) (h : Held) :
    Within [.jieth] [] s (freeCells s h) := by
  unfold freeCells
  try dsimp only
  repeat' first
    | decide | with_reducible apply Within.refl | with_reducible apply Within.ite | with_reducible apply Within.after (updLink_within _ _ _) | split
    | dsimp only

theorem admitAt_within (s : State) (h : Held) (t : Nat) :
    Within [.regs, .ports, .jieth, .fab, .out] [.port, .fab, .fport, .queue, .perf, .sec, .cmd] s (admitAt s h t) := by
  unfold admitAt
  try dsimp only
  repeat' first
    | decide | with_reducible apply Within.refl | with_reducible apply Within.ite | with_reducible apply Within.after (freeCells_within _ _)
    | with_reducible apply Within.after (rxFrame_within _ _ _ _) | split | with_reducible apply Within.set
    | (intro p hp; cases p <;> first | exact absurd (by decide) hp | rfl) | dsimp only

theorem settleIngress_within (s : State) :
    Within [.regs, .ports, .jieth, .fab, .out] [.port, .fab, .fport, .queue, .perf, .sec, .cmd] s (settleIngress s) := by
  unfold settleIngress
  try dsimp only
  repeat' first
    | decide | with_reducible apply Within.refl | with_reducible apply Within.ite | with_reducible apply Within.after (admitAt_within _ _ _) | split
    | (with_reducible apply Within.fold (l := [.regs, .ports, .jieth, .fab, .out]) (g := [.port, .fab, .fport, .queue, .perf, .sec, .cmd]); intro _ _)
    | with_reducible apply Within.set | (intro p hp; cases p <;> first | exact absurd (by decide) hp | rfl) | dsimp only

theorem ingress_within (s : State) (f : Nat) (fr : FrameIn) (cls : Nat) :
    Within [.regs, .ports, .jieth, .fab, .out] [.port, .fab, .fport, .queue, .perf, .sec, .cmd] s (ingress s f fr cls) := by
  unfold ingress
  try dsimp only
  repeat' first
    | decide | with_reducible apply Within.refl | with_reducible apply Within.ite | with_reducible apply Within.after (admitAt_within _ _ _)
    | with_reducible apply Within.after (countAdmit_within _ _ _) | with_reducible apply Within.after (settleIngress_within _)
    | with_reducible apply Within.after (countDiscard_within _ _) | split | with_reducible apply Within.set
    | (intro p hp; cases p <;> first | exact absurd (by decide) hp | rfl) | dsimp only

theorem drainIngress_within (s : State) :
    Within [.regs, .ports, .jieth, .fab, .out] [.port, .fab, .fport, .queue, .perf, .sec, .cmd] s (drainIngress s) := by
  unfold drainIngress
  try dsimp only
  repeat' first
    | decide | with_reducible apply Within.refl | with_reducible apply Within.ite | with_reducible apply Within.after (freeCells_within _ _)
    | with_reducible apply Within.after (rxFrame_within _ _ _ _) | split
    | (with_reducible apply Within.fold (l := [.regs, .ports, .jieth, .fab, .out]) (g := [.port, .fab, .fport, .queue, .perf, .sec, .cmd]); intro _ _)
    | with_reducible apply Within.set | (intro p hp; cases p <;> first | exact absurd (by decide) hp | rfl) | dsimp only

theorem execFrameRx_within (f : Nat) (fr : FrameIn) (s : State) :
    Within [.regs, .ports, .jieth, .fab, .out] [.port, .fab, .fport, .queue, .perf, .sec, .cmd] s (outcomeOr s (execFrameRx f fr s)) := by
  unfold execFrameRx
  try dsimp only
  repeat' first
    | decide | with_reducible apply Within.refl | with_reducible apply Within.ite | with_reducible apply Within.after (ingress_within _ _ _ _)
    | rw [outcomeOr_ok] | rw [outcomeOr_fault] | split | dsimp only

theorem takeGap_within (s : State) (p : Nat) (m : PtpRx) (h : PtpHdr) :
    Within [.regs, .ports, .out] [.port, .sec] s (takeGap s p m h) := by
  unfold takeGap
  try dsimp only
  repeat' first
    | decide | with_reducible apply Within.refl | with_reducible apply Within.ite | with_reducible apply Within.after (ptpAuth_within _ _ _)
    | with_reducible apply Within.afterFst (ptpAuth_within _ _ _) (by assumption) | with_reducible apply Within.after (emit_within _ _)
    | with_reducible apply Within.after (updPort_within _ _ _) | split | dsimp only

theorem execPtpEventRx_within (p : Nat) (m : PtpRx) (s : State) :
    Within [.regs, .ports, .jieth, .fab, .out] [.port, .fab, .fport, .queue, .perf, .sec, .cmd] s (outcomeOr s (execPtpEventRx p m s)) := by
  unfold execPtpEventRx
  try dsimp only
  repeat' first
    | decide | with_reducible apply Within.refl | with_reducible apply Within.ite | with_reducible apply Within.after (ingress_within _ _ _ _)
    | with_reducible apply Within.after (takeGap_within _ _ _ _) | rw [outcomeOr_ok] | rw [outcomeOr_fault] | with_reducible apply raiseIf_in
    | (rw [hits_cons]; simp only [hits_nil, hits_cons, Area.has, portBase, Reg.PORT_TT_EVENTS_TS_UNRESOLVED]; (try split) <;> omega) | split
    | dsimp only

theorem finishId_within (s : State) (id : Option Nat) (st : Status) (ws : List Word) :
    Within [.regs, .jieth, .cmd, .aud, .out] [.perf, .aud, .cmd] s (finishId s id st ws) := by
  unfold finishId
  try dsimp only
  repeat' first
    | decide | with_reducible apply Within.refl | with_reducible apply Within.ite | with_reducible apply Within.after (finish_within _ _ _ _) | split
    | dsimp only

theorem execSpillStagedWrite_within (q : Nat) (s : State) :
    Within [.regs, .jieth, .fab, .cmd, .aud, .out] [.fab, .fport, .perf, .aud, .cmd] s (outcomeOr s (execSpillStagedWrite q s)) := by
  unfold execSpillStagedWrite
  try dsimp only
  repeat' first
    | decide | with_reducible apply Within.refl | with_reducible apply Within.ite | with_reducible apply Within.after (countAdmit_within _ _ _)
    | with_reducible apply Within.after (finishId_within _ _ _ _) | with_reducible apply Within.after (perf_within _ _ _ _ _ _) | rw [outcomeOr_ok]
    | rw [outcomeOr_fault] | with_reducible apply raiseIf_in
    | (rw [hits_cons]; simp only [hits_nil, hits_cons, Area.has, Reg.FAB_EVENTS_SPILL_FULL]; omega) | split
    | (with_reducible apply Within.fold (l := [.regs, .jieth, .fab, .cmd, .aud, .out]) (g := [.fab, .fport, .perf, .aud, .cmd]); intro _ _)
    | with_reducible apply Within.set | (intro p hp; cases p <;> first | exact absurd (by decide) hp | rfl) | dsimp only

theorem execSpillReadback_within (q : Nat) (s : State) :
    Within [.regs, .fab, .out] [.fab, .queue, .perf] s (outcomeOr s (execSpillReadback q s)) := by
  unfold execSpillReadback
  try dsimp only
  repeat' first
    | decide | with_reducible apply Within.refl | with_reducible apply Within.ite | with_reducible apply Within.after (perf_within _ _ _ _ _ _)
    | with_reducible apply Within.after (polderLow_within _ _) | with_reducible apply Within.after (spillCheck_within _ _) | rw [outcomeOr_ok]
    | rw [outcomeOr_fault] | split | with_reducible apply Within.set | (intro p hp; cases p <;> first | exact absurd (by decide) hp | rfl)
    | dsimp only

theorem finishTx_within (s : State) (f : Nat) (id : Option Nat) (c : EgressCap) :
    Within [.regs, .jieth, .cmd, .aud, .out] [.port, .perf, .aud, .cmd] s (finishTx s f id c) := by
  unfold finishTx
  try dsimp only
  repeat' first
    | decide | with_reducible apply Within.refl | with_reducible apply Within.ite | with_reducible apply Within.after (finishId_within _ _ _ _)
    | with_reducible apply raise_in
    | (rw [hits_cons]; simp only [hits_nil, hits_cons, Area.has, portBase, Reg.PORT_TT_EVENTS_TS_UNRESOLVED]; (try split) <;> omega) | split
    | dsimp only

theorem startPart_within (s : State) (f : Nat) (fr : QFrame) (sent upto : Nat) (last : Bool) (c : EgressCap) :
    Within [.regs, .ports, .jieth, .fab, .cmd, .aud, .out] [.port, .fport, .perf, .aud, .cmd] s (startPart s f fr sent upto last c) := by
  unfold startPart
  try dsimp only
  repeat' first
    | decide | with_reducible apply Within.refl | with_reducible apply Within.ite | with_reducible apply Within.after (finishTx_within _ _ _ _)
    | with_reducible apply Within.after (egTake_within _ _ _ _ _ _) | with_reducible apply Within.after (perf_within _ _ _ _ _ _)
    | with_reducible apply Within.after (sendFrame_within _ _ _ _ _ _ _) | with_reducible apply Within.after (emit_within _ _) | split | dsimp only

theorem resumePart_within (s : State) (f : Nat) (c : EgressCap) :
    Within [.regs, .ports, .jieth, .fab, .cmd, .aud, .out] [.port, .fport, .perf, .aud, .cmd] s (resumePart s f c) := by
  unfold resumePart
  try dsimp only
  repeat' first
    | decide | with_reducible apply Within.refl | with_reducible apply Within.ite | with_reducible apply Within.after (startPart_within _ _ _ _ _ _ _)
    | split | dsimp only

theorem execFrameTx_within (x : TxStart) (s0 : State) :
    Within [.regs, .clk, .tim, .sel, .ports, .jieth, .fab, .coarse, .cmd, .aud, .now, .out, .tod] [.port, .fab, .fport, .queue, .gauge, .perf, .sec, .aud, .cmd] s0 (outcomeOr s0 (execFrameTx x s0)) := by
  unfold execFrameTx
  try dsimp only
  repeat' first
    | decide | with_reducible apply Within.refl | with_reducible apply Within.ite | with_reducible apply Within.after (spillCheck_within _ _)
    | with_reducible apply Within.after (updEg_within _ _ _) | with_reducible apply Within.after (startPart_within _ _ _ _ _ _ _)
    | with_reducible apply Within.after (resumePart_within _ _ _) | with_reducible apply Within.after (runPs_within _ _)
    | with_reducible apply Within.after (settleIngress_within _) | rw [outcomeOr_ok] | rw [outcomeOr_fault] | split | with_reducible apply Within.set
    | (intro p hp; cases p <;> first | exact absurd (by decide) hp | rfl) | dsimp only

theorem dropSluice_within (s : State) (x : SFrame) :
    Within [.fab] [] s (dropSluice s x) := by
  unfold dropSluice
  try dsimp only
  repeat' first
    | decide | with_reducible apply Within.refl | with_reducible apply Within.ite | split | with_reducible apply Within.set
    | (intro p hp; cases p <;> first | exact absurd (by decide) hp | rfl) | dsimp only

theorem addResidue_within (s : State) (f : Nat) (x : SFrame) (amount : Int) :
    Within [.ports] [] s (addResidue s f x amount) := by
  unfold addResidue
  try dsimp only
  repeat' first
    | decide | with_reducible apply Within.refl | with_reducible apply Within.ite | split | with_reducible apply Within.set
    | (intro p hp; cases p <;> first | exact absurd (by decide) hp | rfl) | dsimp only

theorem ownStamp_within (s : State) (f : Nat) (k : PtpKind) (plane : Int) :
    Within [.ports] [] s (ownStamp s f k plane) := by
  unfold ownStamp
  try dsimp only
  repeat' first
    | decide | with_reducible apply Within.refl | with_reducible apply Within.ite | with_reducible apply Within.after (updPort_within _ _ _) | split
    | dsimp only

theorem afterOwn_within (s : State) (f : Nat) (x : SFrame) (plane : Int) :
    Within [.ports, .out] [] s (afterOwn s f x plane) := by
  unfold afterOwn
  try dsimp only
  repeat' first
    | decide | with_reducible apply Within.refl | with_reducible apply Within.ite | with_reducible apply Within.after (sendMessage_within _ _ _)
    | with_reducible apply Within.after (ownStamp_within _ _ _ _) | split | dsimp only

theorem sluiceSend_within (s : State) (f : Nat) (x : SFrame) (c : EgressCap) (late : Bool) :
    Within [.regs, .ports, .jieth, .fab, .out] [.fab, .fport, .perf] s (sluiceSend s f x c late) := by
  unfold sluiceSend
  try dsimp only
  repeat' first
    | decide | with_reducible apply Within.refl | with_reducible apply Within.ite | with_reducible apply Within.after (updEg_within _ _ _)
    | with_reducible apply Within.after (histOffer_within _ _ _ _) | with_reducible apply Within.after (afterOwn_within _ _ _ _)
    | with_reducible apply Within.after (jiethSend_within _ _ _ _) | with_reducible apply Within.after (perf_within _ _ _ _ _ _)
    | with_reducible apply Within.after (countTx_within _ _ _) | with_reducible apply Within.after (addResidue_within _ _ _ _)
    | with_reducible apply incHL_in | with_reducible apply raise_in
    | (rw [hits_cons]; simp only [hits_nil, hits_cons, Area.has, Reg.FP_SLUICE_LATE_LO, Reg.FP_SLUICE_LATE_HI, Reg.FAB_EVENTS_SLUICE_LATE_SEEN, Reg.FP_SLUICE_TX_LO, Reg.FP_SLUICE_TX_HI]; omega)
    | with_reducible apply Within.after (emit_within _ _) | split | dsimp only

theorem uncountTx_within (s : State) (f len : Nat) :
    Within [.regs] [.fport] s (uncountTx s f len) := by
  unfold uncountTx
  try dsimp only
  repeat' first
    | decide | with_reducible apply Within.refl | with_reducible apply Within.ite | with_reducible apply setHL_in
    | (rw [hits_cons]; simp only [hits_nil, hits_cons, Area.has, Reg.FP_TX_FRAMES_LO, Reg.FP_TX_FRAMES_HI, Reg.FP_TX_BYTES_LO, Reg.FP_TX_BYTES_HI]; omega)
    | split | dsimp only

theorem cutFor_within (s : State) (f : Nat) (clear : Nat) :
    Within [.regs, .fab, .out] [.fport, .perf] s (cutFor s f clear) := by
  unfold cutFor
  try dsimp only
  repeat' first
    | decide | with_reducible apply Within.refl | with_reducible apply Within.ite | with_reducible apply Within.after (updEg_within _ _ _)
    | with_reducible apply Within.after (perf_within _ _ _ _ _ _) | with_reducible apply Within.after (uncountTx_within _ _ _)
    | with_reducible apply Within.after (emit_within _ _) | split | dsimp only

theorem clearEgress_within (s : State) (f : Nat) :
    Within [.regs, .clk, .tim, .sel, .fab, .coarse, .now, .out, .tod] [.fport, .gauge, .perf] s (clearEgress s f).1 := by
  unfold clearEgress
  try dsimp only
  repeat' first
    | decide | with_reducible apply Within.refl | with_reducible apply Within.ite | with_reducible apply Within.after (runPs_within _ _)
    | with_reducible apply Within.after (cutFor_within _ _ _) | split | dsimp only

theorem execSluiceRelease_within (f : Nat) (c : EgressCap) (s : State) :
    Within [.regs, .clk, .tim, .sel, .ports, .jieth, .fab, .coarse, .cmd, .aud, .now, .out, .tod] [.port, .fab, .fport, .gauge, .perf, .sec, .aud, .cmd] s (outcomeOr s (execSluiceRelease f c s)) := by
  unfold execSluiceRelease
  try dsimp only
  repeat' first
    | decide | with_reducible apply Within.refl | with_reducible apply Within.ite | with_reducible apply Within.after (finishTx_within _ _ _ _)
    | with_reducible apply Within.after (sluiceSend_within _ _ _ _ _) | with_reducible apply Within.after (clearEgress_within _ _)
    | with_reducible apply Within.afterFst (clearEgress_within _ _) (by assumption) | with_reducible apply Within.after (countSluiceDrop_within _ _)
    | with_reducible apply Within.after (finishId_within _ _ _ _) | with_reducible apply Within.after (runTo_within _ _)
    | with_reducible apply Within.after (dropSluice_within _ _) | rw [outcomeOr_ok] | rw [outcomeOr_fault] | with_reducible apply raise_in
    | (rw [hits_cons]; simp only [hits_nil, hits_cons, Area.has, portBase, Reg.PORT_TT_EVENTS_TS_UNRESOLVED, Reg.SEC_EVENTS_AUTH_KEY_MISSING]; (try split) <;> omega)
    | split | dsimp only

theorem stepSluice_within (s : State) :
    Within [.regs, .fab, .out] [.fport, .perf] s (stepSluice s) := by
  unfold stepSluice
  try dsimp only
  repeat' first
    | decide | with_reducible apply Within.refl | with_reducible apply Within.ite | with_reducible apply Within.after (countSluiceDrop_within _ _)
    | split | (with_reducible apply Within.fold (l := [.regs, .fab, .out]) (g := [.fport, .perf]); intro _ _) | with_reducible apply Within.set
    | (intro p hp; cases p <;> first | exact absurd (by decide) hp | rfl) | dsimp only

theorem execLinkUp_within (p : Nat) (x : LinkStart) (s : State) :
    Within [.regs, .ports] [.port, .fport] s (outcomeOr s (execLinkUp p x s)) := by
  unfold execLinkUp
  try dsimp only
  repeat' first
    | decide | with_reducible apply Within.refl | with_reducible apply Within.ite | with_reducible apply Within.after (phaseClean_within _ _)
    | rw [outcomeOr_ok] | rw [outcomeOr_fault] | with_reducible apply setF_in | with_reducible apply setB_in
    | (rw [hits_cons]; simp only [hits_nil, hits_cons, Area.has, portBase, Reg.FP_SW_STATUS_PREEMPT_ACTIVE, Reg.FP_SW_STATUS_LINK_UP, Reg.PORT_PHY_STATUS_LANE1_LOCK, Reg.PORT_PHY_STATUS_AM_LOCK, Reg.PORT_PHY_STATUS_LINK_UP, Reg.PORT_PHY_STATUS_BLOCK_LOCK, Reg.PORT_TT_STATUS_CDR_LOCK]; (try split) <;> omega)
    | with_reducible apply Within.after (updPort_within _ _ _) | split | dsimp only

theorem fabricDown_within (s : State) (f : Nat) :
    Within [.regs, .jieth, .fab, .cmd, .aud, .out] [.fport, .queue, .perf, .aud, .cmd] s (fabricDown s f) := by
  unfold fabricDown
  try dsimp only
  repeat' first
    | decide | with_reducible apply Within.refl | with_reducible apply Within.ite | with_reducible apply Within.after (finishId_within _ _ _ _)
    | with_reducible apply Within.after (updEg_within _ _ _) | with_reducible apply Within.after (perfDrop_within _ _ _)
    | with_reducible apply Within.after (uncountTx_within _ _ _) | with_reducible apply Within.after (countFlushed_within _ _ _)
    | with_reducible apply setF_in
    | (rw [hits_cons]; simp only [hits_nil, hits_cons, Area.has, Reg.FP_SW_STATUS_LINK_UP, Reg.FP_SW_STATUS_FLUSHING, Reg.FP_SW_STATUS_PREEMPT_ACTIVE, Reg.Q_Q_CFG_SPILLING]; omega)
    | split | (with_reducible apply Within.fold (l := [.regs, .jieth, .fab, .cmd, .aud, .out]) (g := [.fport, .queue, .perf, .aud, .cmd]); intro _ _)
    | with_reducible apply Within.set | (intro p hp; cases p <;> first | exact absurd (by decide) hp | rfl) | dsimp only

theorem portDown_within (s : State) (p : Nat) (laneLost : Bool) :
    Within [.regs, .mode, .clk, .tim, .sel, .ports, .jieth, .fab, .cal, .cmd, .aud, .out] [.ref, .port, .fport, .queue, .eng, .perf, .cal, .aud, .cmd] s (portDown s p laneLost) := by
  unfold portDown
  try dsimp only
  repeat' first
    | decide | with_reducible apply Within.refl | with_reducible apply Within.ite | with_reducible apply Within.after (bermAbandon_within _ _)
    | with_reducible apply Within.after (fabricDown_within _ _) | with_reducible apply setF_in | with_reducible apply raise_in
    | (rw [hits_cons]; simp only [hits_nil, hits_cons, Area.has, portBase, Reg.PORT_TT_STATUS_L1SYNC_UP, Reg.PORT_PHY_STATUS_LANE1_LOCK, Reg.PORT_PHY_STATUS_AM_LOCK, Reg.PORT_PHY_EVENTS_LANE_LOST, Reg.PORT_PHY_STATUS_LINK_UP, Reg.PORT_PHY_STATUS_BLOCK_LOCK, Reg.PORT_PHY_EVENTS_LINK_DOWN]; (try split) <;> omega)
    | with_reducible apply Within.after (updPort_within _ _ _) | split | dsimp only

theorem execPortDown_within (f : Nat) (laneLost : Bool) (s : State) :
    Within [.regs, .mode, .clk, .tim, .sel, .ports, .jieth, .fab, .cal, .cmd, .aud, .out] [.ref, .port, .fport, .queue, .eng, .perf, .cal, .aud, .cmd] s (outcomeOr s (execPortDown f laneLost s)) := by
  unfold execPortDown
  try dsimp only
  repeat' first
    | decide | with_reducible apply Within.refl | with_reducible apply Within.ite | with_reducible apply Within.after (fabricDown_within _ _)
    | with_reducible apply Within.after (portDown_within _ _ _) | rw [outcomeOr_ok] | rw [outcomeOr_fault] | split | dsimp only

theorem execFlushDone_within (f : Nat) (s : State) :
    Within [.regs, .out] [.fab, .fport] s (outcomeOr s (execFlushDone f s)) := by
  unfold execFlushDone
  try dsimp only
  repeat' first
    | decide | with_reducible apply Within.refl | with_reducible apply Within.ite | rw [outcomeOr_ok] | rw [outcomeOr_fault]
    | with_reducible apply setF_in | with_reducible apply raise_in
    | (rw [hits_cons]; simp only [hits_nil, hits_cons, Area.has, Reg.FP_SW_STATUS_FLUSHING, Reg.FAB_EVENTS_FLUSH_DONE]; omega) | split | dsimp only

theorem hits_pll {g : List Area} {b : Bool} (h : Area.clk ∈ g) : Hits g (pllFlds b).1 ∧ Hits g (pllFlds b).2.1 ∧ Hits g (pllFlds b).2.2 := by
  cases b <;> exact ⟨⟨.clk, h, by constructor <;> decide⟩, ⟨.clk, h, by constructor <;> decide⟩, ⟨.clk, h, by constructor <;> decide⟩⟩

theorem pllStart_within (s : State) (hbm : Bool) :
    Within [.regs, .clk] [.clk] s (pllStart s hbm) := by
  unfold pllStart
  try dsimp only
  repeat' first
    | decide | with_reducible apply Within.refl | with_reducible apply Within.ite | exact (hits_pll (by decide)).1 | exact (hits_pll (by decide)).2.1
    | exact (hits_pll (by decide)).2.2 | with_reducible apply setF_in | (rw [hits_cons]; simp only [hits_nil, hits_cons, Area.has]; omega) | split
    | with_reducible apply Within.set | (intro p hp; cases p <;> first | exact absurd (by decide) hp | rfl) | dsimp only

theorem execPllLock_within (hbm : Bool) (s : State) :
    Within [.regs, .ports, .jieth, .fab, .out] [.clk, .port, .fab, .fport, .queue, .perf, .sec, .cmd] s (outcomeOr s (execPllLock hbm s)) := by
  unfold execPllLock
  try dsimp only
  repeat' first
    | decide | with_reducible apply Within.refl | with_reducible apply Within.ite | with_reducible apply Within.after (drainIngress_within _)
    | rw [outcomeOr_ok] | rw [outcomeOr_fault] | exact (hits_pll (by decide)).1 | exact (hits_pll (by decide)).2.1 | exact (hits_pll (by decide)).2.2
    | with_reducible apply setF_in | (rw [hits_cons]; simp only [hits_nil, hits_cons, Area.has]; omega) | split | dsimp only

theorem execPllLockTimeout_within (hbm : Bool) (s : State) :
    Within [.regs, .out] [.clk] s (outcomeOr s (execPllLockTimeout hbm s)) := by
  unfold execPllLockTimeout
  try dsimp only
  repeat' first
    | decide | with_reducible apply Within.refl | with_reducible apply Within.ite | rw [outcomeOr_ok] | rw [outcomeOr_fault]
    | exact (hits_pll (by decide)).1 | exact (hits_pll (by decide)).2.1 | exact (hits_pll (by decide)).2.2 | with_reducible apply setF_in
    | with_reducible apply raise_in
    | (rw [hits_cons]; simp only [hits_nil, hits_cons, Area.has, Reg.CLK_EVENTS_HBM_PLL_FAIL, Reg.CLK_EVENTS_FAB_PLL_FAIL]; omega) | split
    | dsimp only

theorem sendAnnounce_within (s : State) (p : Nat) :
    Within [.out] [] s (sendAnnounce s p) := by
  unfold sendAnnounce
  try dsimp only
  repeat' first
    | decide | with_reducible apply Within.refl | with_reducible apply Within.ite | with_reducible apply Within.after (sendMessage_within _ _ _)
    | split | dsimp only

theorem announceRound_within (s : State) (p : Nat) :
    Within [.ports, .out] [] s (announceRound s p) := by
  unfold announceRound
  try dsimp only
  repeat' first
    | decide | with_reducible apply Within.refl | with_reducible apply Within.ite | with_reducible apply Within.after (sendAnnounce_within _ _)
    | with_reducible apply Within.after (updPort_within _ _ _) | split | dsimp only

theorem syncRound_within (s : State) (p : Nat) :
    Within [.regs, .fab, .out] [.fab, .fport, .queue, .perf, .sec] s (syncRound s p) := by
  unfold syncRound
  try dsimp only
  repeat' first
    | decide | with_reducible apply Within.refl | with_reducible apply Within.ite | with_reducible apply Within.after (originate_within _ _ _) | split
    | dsimp only

theorem delayRound_within (s : State) (p : Nat) :
    Within [.regs, .ports, .fab, .out] [.fab, .fport, .queue, .perf, .sec] s (delayRound s p) := by
  unfold delayRound
  try dsimp only
  repeat' first
    | decide | with_reducible apply Within.refl | with_reducible apply Within.ite | with_reducible apply Within.after (originate_within _ _ _)
    | with_reducible apply Within.after (updPort_within _ _ _) | split | dsimp only

theorem l1Round_within (s : State) (p : Nat) :
    Within [.out] [] s (l1Round s p) := by
  unfold l1Round
  try dsimp only
  repeat' first
    | decide | with_reducible apply Within.refl | with_reducible apply Within.ite | with_reducible apply Within.after (sendMessage_within _ _ _)
    | split | dsimp only

theorem ptpRound_within (s : State) (p : Nat) :
    Within [.regs, .ports, .fab, .out] [.fab, .fport, .queue, .perf, .sec] s (ptpRound s p) := by
  unfold ptpRound
  try dsimp only
  repeat' first
    | decide | with_reducible apply Within.refl | with_reducible apply Within.ite | with_reducible apply Within.after (announceRound_within _ _)
    | with_reducible apply Within.after (syncRound_within _ _) | with_reducible apply Within.after (delayRound_within _ _)
    | with_reducible apply Within.after (l1Round_within _ _) | split | dsimp only

theorem ptpResume_within (s : State) :
    Within [.out] [] s (ptpResume s) := by
  unfold ptpResume
  try dsimp only
  repeat' first
    | decide | with_reducible apply Within.refl | with_reducible apply Within.ite | with_reducible apply Within.after (sendAnnounce_within _ _)
    | split | (with_reducible apply Within.fold (l := [.out]) (g := []); intro _ _) | dsimp only

theorem syncApply_within (s : State) (p : Nat) :
    Within [.regs, .ports, .cal] [.port] s (syncApply s p) := by
  unfold syncApply
  try dsimp only
  repeat' first
    | decide | with_reducible apply Within.refl | with_reducible apply Within.ite | with_reducible apply Within.after (applyPortItems_within _ _)
    | with_reducible apply Within.after (publishLink_within _ _) | with_reducible apply Within.after (applyBerm_within _ _)
    | with_reducible apply Within.after (applyPtpPort_within _ _ _) | with_reducible apply Within.after (portQuality_within _ _) | split | dsimp only

theorem execSyncIntervalBoundary_within (p : Nat) (s0 : State) :
    Within [.regs, .mode, .clk, .tim, .sel, .ports, .fab, .coarse, .gauges, .cal, .now, .out, .freeCtr, .tod] [.clk, .dll, .time, .ref, .slot, .port, .fab, .fport, .queue, .gauge, .eng, .perf, .cal, .sec] s0 (outcomeOr s0 (execSyncIntervalBoundary p s0)) := by
  unfold execSyncIntervalBoundary
  try dsimp only
  repeat' first
    | decide | with_reducible apply Within.refl | with_reducible apply Within.ite | with_reducible apply Within.after (loseSource_within _ _ _)
    | with_reducible apply Within.after (ptpRound_within _ _) | with_reducible apply Within.after (syncApply_within _ _)
    | with_reducible apply Within.after (runToSync_within _ _) | rw [outcomeOr_ok] | rw [outcomeOr_fault]
    | with_reducible apply Within.after (updPort_within _ _ _) | split | dsimp only

end Sys2Proof.Machine
end

