-- ==== Sys2Proof/Laws/WithinLink.lean ====
section
/-! SUPPORT. What each operation may touch: links, the pair and their frames. -/

set_option linter.unusedSimpArgs false
set_option linter.unusedTactic false
set_option linter.unreachableTactic false
set_option linter.unnecessarySeqFocus false
set_option linter.style.multiGoal false

namespace Sys2Proof.Machine

theorem setLinkState_within (s : State) (n st : Nat) :
    Within [.regs] [.link] s (setLinkState s n st) := by
  unfold setLinkState
  try dsimp only
  repeat' first
    | decide | with_reducible apply Within.refl | with_reducible apply Within.ite | with_reducible apply setF_in
    | (rw [hits_cons]; simp only [hits_nil, hits_cons, Area.has, Reg.LINK_LINK_STATUS_STATE]; omega) | split | dsimp only

theorem enterClock_within (s : State) (n : Nat) :
    Within [.regs, .jieth] [.link] s (enterClock s n) := by
  unfold enterClock
  try dsimp only
  repeat' first
    | decide | with_reducible apply Within.refl | with_reducible apply Within.ite | with_reducible apply Within.after (setLinkState_within _ _ _)
    | with_reducible apply setF_in
    | (rw [hits_cons]; simp only [hits_nil, hits_cons, Area.has, Reg.LINK_JPHY_LANE_LOCK, Reg.LINK_JPHY_LANE_ALIGNED, Reg.LINK_JPHY_LANE_LOST, Reg.LINK_JPHY_LANE_AW_FOUND, Reg.LINK_LINK_CFG_RETRAIN]; omega)
    | with_reducible apply Within.after (updLink_within _ _ _) | split
    | (with_reducible apply Within.fold (l := [.regs, .jieth]) (g := [.link]); intro _ _) | dsimp only

theorem setSelf_within (s : State) (n : Nat) :
    Within [.regs] [.jg] s (setSelf s n) := by
  unfold setSelf
  try dsimp only
  repeat' first
    | decide | with_reducible apply Within.refl | with_reducible apply Within.ite | with_reducible apply setF_in
    | (rw [hits_cons]; simp only [hits_nil, hits_cons, Area.has, Reg.JG_SELF_ADDR, Reg.JG_GLOBAL_DEPTH]; omega) | split | dsimp only

theorem mirrorGone_within (s : State) :
    Within [.regs, .out] [.pair] s (mirrorGone s) := by
  unfold mirrorGone
  try dsimp only
  repeat' first
    | decide | with_reducible apply Within.refl | with_reducible apply Within.ite | with_reducible apply setF_in | with_reducible apply raise_in
    | (rw [hits_cons]; simp only [hits_nil, hits_cons, Area.has, Reg.PAIR_PAIR_STATUS_MIRROR_OK, Reg.PAIR_PAIR_EVENTS_MIRROR_LOST]; omega) | split
    | dsimp only

theorem hopTimeout_within (s : State) (n tag : Nat) :
    Within [.jieth, .out] [] s (hopTimeout s n tag) := by
  unfold hopTimeout
  try dsimp only
  repeat' first
    | decide | with_reducible apply Within.refl | with_reducible apply Within.ite | with_reducible apply Within.after (ctlReply_within _ _ _) | split
    | dsimp only

theorem failRelays_within (s : State) (n : Nat) :
    Within [.regs, .jieth, .cmd, .aud, .out] [.perf, .aud, .cmd] s (failRelays s n) := by
  unfold failRelays
  try dsimp only
  repeat' first
    | decide | with_reducible apply Within.refl | with_reducible apply Within.ite | with_reducible apply Within.after (finishId_within _ _ _ _)
    | with_reducible apply Within.after (hopTimeout_within _ _ _) | split
    | (with_reducible apply Within.fold (l := [.regs, .jieth, .cmd, .aud, .out]) (g := [.perf, .aud, .cmd]); intro _ _)
    | with_reducible apply Within.set | (intro p hp; cases p <;> first | exact absurd (by decide) hp | rfl) | dsimp only

theorem changeUp_within (s : State) (n : Nat) :
    Within [.regs, .tim, .sel] [.ref] s (changeUp s n) := by
  unfold changeUp
  try dsimp only
  repeat' first
    | decide | with_reducible apply Within.refl | with_reducible apply Within.ite | with_reducible apply Within.after (dropSelection_within _)
    | with_reducible apply Within.after (dropPending_within _) | with_reducible apply setF_in
    | (rw [hits_cons]; simp only [hits_nil, hits_cons, Area.has, Reg.REF_SEL_STATUS_SELECTED]; omega) | split | dsimp only

theorem dropWorkers_within (s : State) (n : Nat) :
    Within [.jieth] [] s (dropWorkers s n) := by
  unfold dropWorkers
  try dsimp only
  repeat' first
    | decide | with_reducible apply Within.refl | with_reducible apply Within.ite | split | with_reducible apply Within.set
    | (intro p hp; cases p <;> first | exact absurd (by decide) hp | rfl) | dsimp only

theorem linkDrop_within (s : State) (n : Nat) :
    Within [.regs, .tim, .jieth, .fab, .cmd, .aud, .out] [.link, .pair, .fport, .queue, .perf, .aud, .cmd] s (linkDrop s n) := by
  unfold linkDrop
  try dsimp only
  repeat' first
    | decide | with_reducible apply Within.refl | with_reducible apply Within.ite | with_reducible apply Within.after (dropPending_within _)
    | with_reducible apply Within.after (mirrorGone_within _) | with_reducible apply Within.after (fabricDown_within _ _)
    | with_reducible apply Within.after (failRelays_within _ _) | with_reducible apply Within.after (dropWorkers_within _ _)
    | with_reducible apply setF_in
    | (rw [hits_cons]; simp only [hits_nil, hits_cons, Area.has, Reg.LINK_JPHY_STATUS_TX_PAIR01_USED, Reg.LINK_JPHY_STATUS_TX_PAIR23_USED, Reg.LINK_LINK_STATUS_PAIR01_OK, Reg.LINK_LINK_STATUS_PAIR23_OK]; omega)
    | with_reducible apply Within.after (updLink_within _ _ _) | split | dsimp only

theorem linkLost_within (s : State) (n : Nat) :
    Within [.regs, .mode, .clk, .tim, .sel, .ports, .gauges, .cal, .out, .freeCtr] [.clk, .dll, .time, .ref, .slot, .port, .jg, .eng, .cal] s (linkLost s n) := by
  unfold linkLost
  try dsimp only
  repeat' first
    | decide | with_reducible apply Within.refl | with_reducible apply Within.ite | with_reducible apply Within.after (follow_within _)
    | with_reducible apply Within.after (setSelf_within _ _) | with_reducible apply Within.after (lossOfAll_within _ _)
    | with_reducible apply Within.after (rootInput_within _ _) | with_reducible apply Within.after (changeUp_within _ _)
    | with_reducible apply Within.after (loseSource_within _ _ _) | split | dsimp only

theorem failLink_within (s : State) (n : Nat) :
    Within [.regs, .mode, .clk, .tim, .sel, .ports, .jieth, .fab, .gauges, .cal, .cmd, .aud, .out, .freeCtr] [.clk, .dll, .time, .ref, .slot, .port, .link, .jg, .pair, .fport, .queue, .eng, .perf, .cal, .aud, .cmd] s (failLink s n) := by
  unfold failLink
  try dsimp only
  repeat' first
    | decide | with_reducible apply Within.refl | with_reducible apply Within.ite | with_reducible apply Within.after (linkLost_within _ _)
    | with_reducible apply Within.after (linkDrop_within _ _) | with_reducible apply Within.after (setLinkState_within _ _ _)
    | with_reducible apply setF_in | with_reducible apply incF_in | with_reducible apply raise_in
    | (rw [hits_cons]; simp only [hits_nil, hits_cons, Area.has, Reg.LINK_FAIL_CNT, Reg.LINK_LINK_EVENTS_LINK_FAILED, Reg.LINK_LINK_STATUS_FWD_CLK_OK]; omega)
    | split | dsimp only

theorem retrainLink_within (s : State) (n : Nat) :
    Within [.regs, .mode, .clk, .tim, .sel, .ports, .jieth, .fab, .gauges, .cal, .cmd, .aud, .out, .freeCtr] [.clk, .dll, .time, .ref, .slot, .port, .link, .jg, .pair, .fport, .queue, .eng, .perf, .cal, .aud, .cmd] s (retrainLink s n) := by
  unfold retrainLink
  try dsimp only
  repeat' first
    | decide | with_reducible apply Within.refl | with_reducible apply Within.ite | with_reducible apply Within.after (linkDrop_within _ _)
    | with_reducible apply Within.after (linkLost_within _ _) | with_reducible apply Within.after (enterClock_within _ _)
    | with_reducible apply setF_in | (rw [hits_cons]; simp only [hits_nil, hits_cons, Area.has, Reg.LINK_LINK_CFG_RETRAIN]; omega) | split
    | dsimp only

theorem fillRole_within (s : State) (role : Nat) :
    Within [.regs, .jieth] [.link] s (fillRole s role) := by
  unfold fillRole
  try dsimp only
  repeat' first
    | decide | with_reducible apply Within.refl | with_reducible apply Within.ite | with_reducible apply Within.after (enterClock_within _ _)
    | with_reducible apply Within.after (updLink_within _ _ _) | split
    | (with_reducible apply Within.fold (l := [.regs, .jieth]) (g := [.link]); intro _ _) | dsimp only

theorem setLinkRole_within (s : State) (n role : Nat) :
    Within [.regs, .mode, .clk, .tim, .sel, .ports, .jieth, .fab, .gauges, .cal, .cmd, .aud, .out, .freeCtr] [.clk, .dll, .time, .ref, .slot, .port, .link, .jg, .pair, .fport, .queue, .eng, .perf, .cal, .aud, .cmd] s (setLinkRole s n role) := by
  unfold setLinkRole
  try dsimp only
  repeat' first
    | decide | with_reducible apply Within.refl | with_reducible apply Within.ite | with_reducible apply Within.after (fillRole_within _ _)
    | with_reducible apply Within.after (reselect_within _) | with_reducible apply Within.after (enterClock_within _ _)
    | with_reducible apply Within.after (failLink_within _ _) | with_reducible apply setF_in
    | (rw [hits_cons]; simp only [hits_nil, hits_cons, Area.has, Reg.LINK_LINK_CFG_ROLE]; omega)
    | with_reducible apply Within.after (updLink_within _ _ _) | split | dsimp only

theorem execJiethClockLock_within (n : Nat) (s : State) :
    Within [.regs] [.link] s (outcomeOr s (execJiethClockLock n s)) := by
  unfold execJiethClockLock
  try dsimp only
  repeat' first
    | decide | with_reducible apply Within.refl | with_reducible apply Within.ite | with_reducible apply Within.after (setLinkState_within _ _ _)
    | rw [outcomeOr_ok] | rw [outcomeOr_fault] | with_reducible apply setF_in
    | (rw [hits_cons]; simp only [hits_nil, hits_cons, Area.has, Reg.LINK_JPHY_LANE_LOCK, Reg.LINK_LINK_STATUS_FWD_CLK_OK, Reg.LINK_JPHY_LC_DETECT]; omega)
    | split | (with_reducible apply Within.fold (l := [.regs]) (g := [.link]); intro _ _) | dsimp only

theorem execJiethAlignDone_within (n : Nat) (words : List Nat) (skew : Nat) (s : State) :
    Within [.regs, .jieth, .out] [.link] s (outcomeOr s (execJiethAlignDone n words skew s)) := by
  unfold execJiethAlignDone
  try dsimp only
  repeat' first
    | decide | with_reducible apply Within.refl | with_reducible apply Within.ite | with_reducible apply Within.after (setLinkState_within _ _ _)
    | with_reducible apply Within.after (sendHello_within _ _ _) | rw [outcomeOr_ok] | rw [outcomeOr_fault] | with_reducible apply setF_in
    | with_reducible apply setB_in | with_reducible apply raise_in | with_reducible apply raiseIf_in
    | (rw [hits_cons]; simp only [hits_nil, hits_cons, Area.has, Reg.LINK_JPHY_STATUS_TX_PAIR01_USED, Reg.LINK_JPHY_STATUS_TX_PAIR23_USED, Reg.LINK_LINK_STATUS_PAIR01_OK, Reg.LINK_LINK_STATUS_PAIR23_OK, Reg.LINK_JPHY_EVENTS_SKEW_ERR, Reg.LINK_JPHY_EVENTS_LANE_ORDER, Reg.LINK_JPHY_LANE_AW_FOUND, Reg.LINK_JPHY_LANE_ALIGNED]; omega)
    | split | (with_reducible apply Within.fold (l := [.regs, .jieth, .out]) (g := [.link]); intro _ _) | dsimp only

theorem setPeerEpoch_within (s : State) (e : Nat) :
    Within [.regs, .pair] [.pair] s (setPeerEpoch s e) := by
  unfold setPeerEpoch
  try dsimp only
  repeat' first
    | decide | with_reducible apply Within.refl | with_reducible apply Within.ite | with_reducible apply setF_in
    | (rw [hits_cons]; simp only [hits_nil, hits_cons, Area.has, Reg.PAIR_PEER_EPOCH]; omega) | split | with_reducible apply Within.set
    | (intro p hp; cases p <;> first | exact absurd (by decide) hp | rfl) | dsimp only

theorem register_within (s : State) (a : Nat) :
    Within [.jieth] [] s (register s a) := by
  unfold register
  try dsimp only
  repeat' first
    | decide | with_reducible apply Within.refl | with_reducible apply Within.ite | split | with_reducible apply Within.set
    | (intro p hp; cases p <;> first | exact absurd (by decide) hp | rfl) | dsimp only

theorem passUp_within (s : State) (n : Nat) (h : HelloIn) :
    Within [.regs, .jieth, .out] [.link] s (passUp s n h) := by
  unfold passUp
  try dsimp only
  repeat' first
    | decide | with_reducible apply Within.refl | with_reducible apply Within.ite | with_reducible apply Within.after (register_within _ _)
    | with_reducible apply Within.after (sendHello_within _ _ _) | with_reducible apply raise_in
    | (rw [hits_cons]; simp only [hits_nil, hits_cons, Area.has, Reg.LINK_LINK_EVENTS_TOO_MANY]; omega) | split | with_reducible apply Within.set
    | (intro p hp; cases p <;> first | exact absurd (by decide) hp | rfl) | dsimp only

theorem passDown_within (s : State) (h : HelloIn) :
    Within [.regs, .tim, .jieth, .fab, .cmd, .aud, .out] [.link, .pair, .fport, .queue, .perf, .aud, .cmd] s (passDown s h) := by
  unfold passDown
  try dsimp only
  repeat' first
    | decide | with_reducible apply Within.refl | with_reducible apply Within.ite | with_reducible apply Within.after (setLinkState_within _ _ _)
    | with_reducible apply Within.after (linkDrop_within _ _) | with_reducible apply Within.after (sendHello_within _ _ _)
    | with_reducible apply raise_in | (rw [hits_cons]; simp only [hits_nil, hits_cons, Area.has, Reg.LINK_LINK_EVENTS_TOO_MANY]; omega)
    | with_reducible apply Within.after (updLink_within _ _ _) | split | dsimp only

theorem takeHello_within (s : State) (n : Nat) (h : HelloIn) :
    Within [.regs, .jieth, .pair, .out] [.link, .jg, .pair] s (takeHello s n h) := by
  unfold takeHello
  try dsimp only
  repeat' first
    | decide | with_reducible apply Within.refl | with_reducible apply Within.ite | with_reducible apply Within.after (setLinkState_within _ _ _)
    | with_reducible apply Within.after (passUp_within _ _ _) | with_reducible apply Within.after (sendHello_within _ _ _)
    | with_reducible apply Within.after (setPeerEpoch_within _ _) | with_reducible apply Within.after (setSelf_within _ _)
    | with_reducible apply setF_in | with_reducible apply raise_in | with_reducible apply raiseIf_in
    | (rw [hits_cons]; simp only [hits_nil, hits_cons, Area.has, Reg.LINK_LINK_EVENTS_TOO_DEEP, Reg.LINK_LINK_EVENTS_TOO_MANY, Reg.LINK_LINK_EVENTS_ROLE_MISMATCH, Reg.LINK_LINK_STATUS_PEER_DEPTH]; omega)
    | with_reducible apply Within.after (updLink_within _ _ _) | split | dsimp only

theorem execJiethHello_within (n : Nat) (h : HelloIn) (s : State) :
    Within [.regs, .tim, .jieth, .pair, .fab, .cmd, .aud, .out] [.link, .jg, .pair, .fport, .queue, .perf, .aud, .cmd] s (outcomeOr s (execJiethHello n h s)) := by
  unfold execJiethHello
  try dsimp only
  repeat' first
    | decide | with_reducible apply Within.refl | with_reducible apply Within.ite | with_reducible apply Within.after (passDown_within _ _)
    | with_reducible apply Within.after (passUp_within _ _ _) | with_reducible apply Within.after (takeBlock_within _ _ _ _)
    | with_reducible apply Within.after (takeHello_within _ _ _) | rw [outcomeOr_ok] | rw [outcomeOr_fault] | split | dsimp only

theorem publishLoop_within (s : State) (n : Nat) (rt dw : Int) (th : Nat) :
    Within [.regs, .jieth] [.link] s (publishLoop s n rt dw th) := by
  unfold publishLoop
  try dsimp only
  repeat' first
    | decide | with_reducible apply Within.refl | with_reducible apply Within.ite | with_reducible apply setF_in | with_reducible apply setHL_in
    | (rw [hits_cons]; simp only [hits_nil, hits_cons, Area.has, Reg.LINK_THETA, Reg.LINK_DW_LO, Reg.LINK_DW_HI, Reg.LINK_RT_LO, Reg.LINK_RT_HI]; omega)
    | with_reducible apply Within.after (updLink_within _ _ _) | split | dsimp only

theorem settleLoop_within (s : State) (n : Nat) :
    Within [.regs, .jieth] [.link] s (settleLoop s n) := by
  unfold settleLoop
  try dsimp only
  repeat' first
    | decide | with_reducible apply Within.refl | with_reducible apply Within.ite | with_reducible apply Within.after (publishLoop_within _ _ _ _ _)
    | split | dsimp only

theorem enterUp_within (s : State) (n : Nat) :
    Within [.regs, .clk, .jieth, .gauges, .freeCtr] [.clk, .dll, .link, .jg, .fport] s (enterUp s n) := by
  unfold enterUp
  try dsimp only
  repeat' first
    | decide | with_reducible apply Within.refl | with_reducible apply Within.ite | with_reducible apply Within.after (follow_within _)
    | with_reducible apply Within.after (setSelf_within _ _) | with_reducible apply Within.after (register_within _ _)
    | with_reducible apply Within.after (setLinkState_within _ _ _) | with_reducible apply setF_in
    | (rw [hits_cons]; simp only [hits_nil, hits_cons, Area.has, Reg.FP_SW_STATUS_LINK_UP]; omega) | split | dsimp only

theorem execJiethDelayDone_within (n : Nat) (r1 r2 : LoopMeas) (s : State) :
    Within [.regs, .mode, .clk, .tim, .sel, .ports, .jieth, .fab, .gauges, .cal, .cmd, .aud, .out, .freeCtr] [.clk, .dll, .time, .ref, .slot, .port, .link, .jg, .pair, .fport, .queue, .eng, .perf, .cal, .aud, .cmd] s (outcomeOr s (execJiethDelayDone n r1 r2 s)) := by
  unfold execJiethDelayDone
  try dsimp only
  repeat' first
    | decide | with_reducible apply Within.refl | with_reducible apply Within.ite | with_reducible apply Within.after (failLink_within _ _)
    | with_reducible apply Within.after (publishLoop_within _ _ _ _ _) | with_reducible apply Within.after (enterUp_within _ _) | rw [outcomeOr_ok]
    | rw [outcomeOr_fault] | with_reducible apply raise_in
    | (rw [hits_cons]; simp only [hits_nil, hits_cons, Area.has, Reg.LINK_LINK_EVENTS_DLY_DISAGREE]; omega)
    | with_reducible apply Within.after (updLink_within _ _ _) | split | dsimp only

theorem execJiethTrainingTimeout_within (n : Nat) (s : State) :
    Within [.regs, .mode, .clk, .tim, .sel, .ports, .jieth, .fab, .gauges, .cal, .cmd, .aud, .out, .freeCtr] [.clk, .dll, .time, .ref, .slot, .port, .link, .jg, .pair, .fport, .queue, .eng, .perf, .cal, .aud, .cmd] s (outcomeOr s (execJiethTrainingTimeout n s)) := by
  unfold execJiethTrainingTimeout
  try dsimp only
  repeat' first
    | decide | with_reducible apply Within.refl | with_reducible apply Within.ite | with_reducible apply Within.after (failLink_within _ _)
    | rw [outcomeOr_ok] | rw [outcomeOr_fault] | split | dsimp only

theorem execFailedTimeout_within (n : Nat) (s : State) :
    Within [.regs, .jieth] [.link] s (outcomeOr s (execFailedTimeout n s)) := by
  unfold execFailedTimeout
  try dsimp only
  repeat' first
    | decide | with_reducible apply Within.refl | with_reducible apply Within.ite | with_reducible apply Within.after (enterClock_within _ _)
    | with_reducible apply Within.after (setLinkState_within _ _ _) | rw [outcomeOr_ok] | rw [outcomeOr_fault] | with_reducible apply setF_in
    | (rw [hits_cons]; simp only [hits_nil, hits_cons, Area.has, Reg.LINK_LINK_CFG_RETRAIN]; omega) | split | dsimp only

theorem takeMirror_within (s : State) (x : Int) :
    Within [.regs, .tim, .sel, .pair, .out] [.dll, .time, .pair] s (takeMirror s x) := by
  unfold takeMirror
  try dsimp only
  repeat' first
    | decide | with_reducible apply Within.refl | with_reducible apply Within.ite | with_reducible apply Within.after (firstAlign_within _ _ _ _ _)
    | with_reducible apply Within.after (takeOffset_within _ _ _) | with_reducible apply setF_in
    | (rw [hits_cons]; simp only [hits_nil, hits_cons, Area.has, Reg.PAIR_MIRROR_OFS]; omega) | split | with_reducible apply Within.set
    | (intro p hp; cases p <;> first | exact absurd (by decide) hp | rfl) | dsimp only

theorem markerFreq_within (s : State) (n : Nat) (freq : Int) :
    Within [.regs, .clk, .out] [.clk] s (markerFreq s n freq) := by
  unfold markerFreq
  try dsimp only
  repeat' first
    | decide | with_reducible apply Within.refl | with_reducible apply Within.ite | with_reducible apply Within.after (takeWord_within _ _) | split
    | dsimp only

theorem markerOffset_within (s : State) (n : Nat) (n1 : Nat) (tod : Int) :
    Within [.regs, .tim, .sel, .jieth, .pair, .out] [.dll, .time, .pair] s (markerOffset s n n1 tod) := by
  unfold markerOffset
  try dsimp only
  repeat' first
    | decide | with_reducible apply Within.refl | with_reducible apply Within.ite | with_reducible apply Within.after (takeMirror_within _ _)
    | with_reducible apply Within.after (updLink_within _ _ _) | split | dsimp only

theorem mirrorTiming_within (s : State) (r : TimingRec) :
    Within [.regs, .pair, .out] [.pair] s (mirrorTiming s r) := by
  unfold mirrorTiming
  try dsimp only
  repeat' first
    | decide | with_reducible apply Within.refl | with_reducible apply Within.ite | with_reducible apply Within.after (setPeerEpoch_within _ _)
    | with_reducible apply setF_in | with_reducible apply incF_in | with_reducible apply raise_in
    | (rw [hits_cons]; simp only [hits_nil, hits_cons, Area.has, Reg.PAIR_DUAL_ACTIVE_CNT, Reg.PAIR_PAIR_STATUS_DUAL_ACTIVE, Reg.PAIR_PAIR_EVENTS_DUAL_ACTIVE_SET]; omega)
    | split | with_reducible apply Within.set | (intro p hp; cases p <;> first | exact absurd (by decide) hp | rfl) | dsimp only

theorem takeTiming_within (s : State) (n : Nat) (r : TimingRec) :
    Within [.regs, .clk, .jieth, .pair, .gauges, .out, .freeCtr] [.clk, .dll, .link, .jg, .pair] s (takeTiming s n r) := by
  unfold takeTiming
  try dsimp only
  repeat' first
    | decide | with_reducible apply Within.refl | with_reducible apply Within.ite | with_reducible apply Within.after (mirrorTiming_within _ _)
    | with_reducible apply Within.after (follow_within _) | with_reducible apply Within.after (setSelf_within _ _) | with_reducible apply setF_in
    | (rw [hits_cons]; simp only [hits_nil, hits_cons, Area.has, Reg.LINK_LINK_STATUS_PEER_EPOCH]; omega)
    | with_reducible apply Within.after (updLink_within _ _ _) | split | dsimp only

theorem takeWaiting_within (s : State) (n m : Nat) :
    Within [.regs, .clk, .jieth, .pair, .gauges, .out, .freeCtr] [.clk, .dll, .link, .jg, .pair] s (takeWaiting s n m) := by
  unfold takeWaiting
  try dsimp only
  repeat' first
    | decide | with_reducible apply Within.refl | with_reducible apply Within.ite | with_reducible apply Within.after (takeTiming_within _ _ _)
    | split | dsimp only

theorem takeMarker_within (s : State) (n : Nat) (m : MarkerIn) :
    Within [.regs, .clk, .tim, .sel, .jieth, .pair, .gauges, .out, .freeCtr] [.clk, .dll, .time, .link, .jg, .pair] s (takeMarker s n m) := by
  unfold takeMarker
  try dsimp only
  repeat' first
    | decide | with_reducible apply Within.refl | with_reducible apply Within.ite | with_reducible apply Within.after (markerFreq_within _ _ _)
    | with_reducible apply Within.after (markerOffset_within _ _ _ _) | with_reducible apply Within.after (settleLoop_within _ _)
    | with_reducible apply Within.after (takeWaiting_within _ _ _) | with_reducible apply Within.after (updLink_within _ _ _) | split | dsimp only

theorem execMarkerRx_within (n : Nat) (m : MarkerIn) (s : State) :
    Within [.regs, .mode, .clk, .tim, .sel, .ports, .jieth, .pair, .fab, .gauges, .cal, .cmd, .aud, .out, .freeCtr] [.clk, .dll, .time, .ref, .slot, .port, .link, .jg, .pair, .fport, .queue, .eng, .perf, .cal, .aud, .cmd] s (outcomeOr s (execMarkerRx n m s)) := by
  unfold execMarkerRx
  try dsimp only
  repeat' first
    | decide | with_reducible apply Within.refl | with_reducible apply Within.ite | with_reducible apply Within.after (takeBlock_within _ _ _ _)
    | with_reducible apply Within.after (takeMarker_within _ _ _) | with_reducible apply Within.after (failLink_within _ _)
    | with_reducible apply Within.after (countBlockErr_within _ _ _) | rw [outcomeOr_ok] | rw [outcomeOr_fault] | split | dsimp only

theorem sendMarkerFrame_within (s : State) (n k tod : Nat) :
    Within [.jieth, .out, .freeCtr] [] s (sendMarkerFrame s n k tod) := by
  unfold sendMarkerFrame
  try dsimp only
  repeat' first
    | decide | with_reducible apply Within.refl | with_reducible apply Within.ite | with_reducible apply Within.after (sendBlock_within _ _ _ _)
    | with_reducible apply Within.after (emit_within _ _) | with_reducible apply Within.after (draw_within _) | split
    | (with_reducible apply Within.fold (l := [.jieth, .out, .freeCtr]) (g := []); intro _ _) | dsimp only

theorem sendTiming_within (s : State) (n : Nat) :
    Within [.jieth, .out, .freeCtr] [] s (sendTiming s n) := by
  unfold sendTiming
  try dsimp only
  repeat' first
    | decide | with_reducible apply Within.refl | with_reducible apply Within.ite | with_reducible apply Within.after (sendMarkerFrame_within _ _ _ _)
    | split | dsimp only

theorem sendTimingAll_within (s : State) :
    Within [.jieth, .out, .freeCtr] [] s (sendTimingAll s) := by
  unfold sendTimingAll
  try dsimp only
  repeat' first
    | decide | with_reducible apply Within.refl | with_reducible apply Within.ite | with_reducible apply Within.after (sendTiming_within _ _) | split
    | (with_reducible apply Within.fold (l := [.jieth, .out, .freeCtr]) (g := []); intro _ _) | dsimp only

theorem execTimingFrameTx_within (n : Nat) (s : State) :
    Within [.regs, .clk, .tim, .sel, .jieth, .coarse, .now, .out, .freeCtr, .tod] [.gauge, .perf] s (outcomeOr s (execTimingFrameTx n s)) := by
  unfold execTimingFrameTx
  try dsimp only
  repeat' first
    | decide | with_reducible apply Within.refl | with_reducible apply Within.ite | with_reducible apply Within.after (sendMarkerFrame_within _ _ _ _)
    | with_reducible apply Within.after (advance_within _ _) | rw [outcomeOr_ok] | rw [outcomeOr_fault]
    | with_reducible apply Within.after (updLink_within _ _ _) | split | dsimp only

theorem execTimingFrameRx_within (n : Nat) (r0 r1 : List Word) (s : State) :
    Within [.regs, .clk, .jieth, .pair, .gauges, .out, .freeCtr] [.clk, .dll, .link, .jg, .pair] s (outcomeOr s (execTimingFrameRx n r0 r1 s)) := by
  unfold execTimingFrameRx
  try dsimp only
  repeat' first
    | decide | with_reducible apply Within.refl | with_reducible apply Within.ite | with_reducible apply Within.after (takeTiming_within _ _ _)
    | rw [outcomeOr_ok] | rw [outcomeOr_fault] | with_reducible apply incF_in
    | (rw [hits_cons]; simp only [hits_nil, hits_cons, Area.has, Reg.LINK_TF_DISCARD]; omega)
    | with_reducible apply Within.after (updLink_within _ _ _) | split | dsimp only

theorem execRtUpdate_within (n : Nat) (m : LoopMeas) (s : State) :
    Within [.regs, .jieth, .cal, .out] [.link] s (outcomeOr s (execRtUpdate n m s)) := by
  unfold execRtUpdate
  try dsimp only
  repeat' first
    | decide | with_reducible apply Within.refl | with_reducible apply Within.ite | with_reducible apply Within.after (sendBlock_within _ _ _ _)
    | with_reducible apply Within.after (settleLoop_within _ _) | with_reducible apply Within.after (applyItem_within _ _) | rw [outcomeOr_ok]
    | rw [outcomeOr_fault] | with_reducible apply Within.after (updLink_within _ _ _) | split | dsimp only

theorem bypassAll_within (s : State) :
    Within [.regs] [.dll] s (bypassAll s) := by
  unfold bypassAll
  try dsimp only
  repeat' first
    | decide | with_reducible apply Within.refl | with_reducible apply Within.ite | with_reducible apply setF_in
    | (rw [hits_cons]; simp only [hits_nil, hits_cons, Area.has, Reg.DLL_STAT_LOCK, Reg.DLL_STAT_BYPASS]; omega) | split
    | (with_reducible apply Within.fold (l := [.regs]) (g := [.dll]); intro _ _) | dsimp only

theorem execFwdClkLost_within (n : Nat) (s : State) :
    Within [.regs, .mode, .clk, .tim, .sel, .ports, .jieth, .fab, .gauges, .cal, .cmd, .aud, .out, .freeCtr] [.clk, .dll, .time, .ref, .slot, .port, .link, .jg, .pair, .fport, .queue, .eng, .perf, .cal, .aud, .cmd] s (outcomeOr s (execFwdClkLost n s)) := by
  unfold execFwdClkLost
  try dsimp only
  repeat' first
    | decide | with_reducible apply Within.refl | with_reducible apply Within.ite | with_reducible apply Within.after (failLink_within _ _)
    | with_reducible apply Within.after (bypassAll_within _) | rw [outcomeOr_ok] | rw [outcomeOr_fault] | with_reducible apply setF_in
    | with_reducible apply raise_in
    | (rw [hits_cons]; simp only [hits_nil, hits_cons, Area.has, Reg.LINK_LINK_EVENTS_FWD_CLK_LOST, Reg.LINK_LINK_STATUS_FWD_CLK_OK, Reg.LINK_JPHY_LC_DETECT]; omega)
    | split | with_reducible apply Within.set | (intro p hp; cases p <;> first | exact absurd (by decide) hp | rfl) | dsimp only

theorem execJiethFrameRx_within (n : Nat) (f : JFrameIn) (s : State) :
    Within [.regs, .ports, .jieth, .fab, .out] [.port, .link, .fab, .fport, .queue, .perf, .sec, .cmd] s (outcomeOr s (execJiethFrameRx n f s)) := by
  unfold execJiethFrameRx
  try dsimp only
  repeat' first
    | decide | with_reducible apply Within.refl | with_reducible apply Within.ite | with_reducible apply Within.after (ingress_within _ _ _ _)
    | with_reducible apply Within.after (sendFlow_within _ _) | with_reducible apply Within.after (countBlockErr_within _ _ _) | rw [outcomeOr_ok]
    | rw [outcomeOr_fault] | with_reducible apply incF_in | with_reducible apply raise_in
    | (rw [hits_cons]; simp only [hits_nil, hits_cons, Area.has, Reg.LINK_CRC_ERR, Reg.LINK_JPHY_EVENTS_CRC_ERR_SEEN]; omega)
    | with_reducible apply Within.after (updLink_within _ _ _) | split | dsimp only

theorem execFlowRx_within (n : Nat) (f : FlowIn) (s : State) :
    Within [.regs, .jieth] [.link] s (outcomeOr s (execFlowRx n f s)) := by
  unfold execFlowRx
  try dsimp only
  repeat' first
    | decide | with_reducible apply Within.refl | with_reducible apply Within.ite | with_reducible apply Within.after (takeBlock_within _ _ _ _)
    | rw [outcomeOr_ok] | rw [outcomeOr_fault] | with_reducible apply incF_in
    | (rw [hits_cons]; simp only [hits_nil, hits_cons, Area.has, Reg.LINK_REPLAY_CNT]; omega)
    | with_reducible apply Within.after (updLink_within _ _ _) | split | dsimp only

theorem hits_pairOk {g : List Area} {n k : Nat} (h : Area.link ∈ g) : Hits g (pairOk n k) := by
  refine ⟨.link, h, ?_⟩
  unfold pairOk
  split <;> simp only [Area.has, Reg.LINK_LINK_STATUS_PAIR01_OK, Reg.LINK_LINK_STATUS_PAIR23_OK] <;> omega

theorem execLaneLost_within (n : Nat) (k : Nat) (s : State) :
    Within [.regs, .mode, .clk, .tim, .sel, .ports, .jieth, .fab, .gauges, .cal, .cmd, .aud, .out, .freeCtr] [.clk, .dll, .time, .ref, .slot, .port, .link, .jg, .pair, .fport, .queue, .eng, .perf, .cal, .aud, .cmd] s (outcomeOr s (execLaneLost n k s)) := by
  unfold execLaneLost
  try dsimp only
  repeat' first
    | decide | with_reducible apply Within.refl | with_reducible apply Within.ite | with_reducible apply Within.after (sendFlow_within _ _)
    | with_reducible apply Within.after (failLink_within _ _) | rw [outcomeOr_ok] | rw [outcomeOr_fault] | exact hits_pairOk (by decide)
    | with_reducible apply setF_in | with_reducible apply raise_in
    | (rw [hits_cons]; simp only [hits_nil, hits_cons, Area.has, Reg.LINK_JPHY_EVENTS_LANE_LOST, Reg.LINK_JPHY_LANE_LOST, Reg.LINK_JPHY_LANE_ALIGNED]; omega)
    | with_reducible apply Within.after (updLink_within _ _ _) | split | dsimp only

theorem execPairSwitch_within (n : Nat) (s : State) :
    Within [.regs] [.link] s (outcomeOr s (execPairSwitch n s)) := by
  unfold execPairSwitch
  try dsimp only
  repeat' first
    | decide | with_reducible apply Within.refl | with_reducible apply Within.ite | with_reducible apply Within.after (setLinkState_within _ _ _)
    | rw [outcomeOr_ok] | rw [outcomeOr_fault] | with_reducible apply setB_in | with_reducible apply incF_in
    | (rw [hits_cons]; simp only [hits_nil, hits_cons, Area.has, Reg.LINK_DEGRADE_CNT, Reg.LINK_JPHY_STATUS_TX_PAIR01_USED, Reg.LINK_JPHY_STATUS_TX_PAIR23_USED]; omega)
    | split | dsimp only

theorem execLaneRejoined_within (n : Nat) (k : Nat) (s : State) :
    Within [.regs, .jieth, .out] [.link] s (outcomeOr s (execLaneRejoined n k s)) := by
  unfold execLaneRejoined
  try dsimp only
  repeat' first
    | decide | with_reducible apply Within.refl | with_reducible apply Within.ite | with_reducible apply Within.after (setLinkState_within _ _ _)
    | with_reducible apply Within.after (sendFlow_within _ _) | rw [outcomeOr_ok] | rw [outcomeOr_fault] | exact hits_pairOk (by decide)
    | with_reducible apply setF_in | with_reducible apply raise_in
    | (rw [hits_cons]; simp only [hits_nil, hits_cons, Area.has, Reg.LINK_JPHY_EVENTS_LANE_REJOINED, Reg.LINK_JPHY_LANE_LOST, Reg.LINK_JPHY_LANE_ALIGNED]; omega)
    | with_reducible apply Within.after (updLink_within _ _ _) | split | dsimp only

theorem auditRole_within (s : State) :
    Within [.regs, .aud, .out] [.aud] s (auditRole s) := by
  unfold auditRole
  try dsimp only
  repeat' first
    | decide | with_reducible apply Within.refl | with_reducible apply Within.ite | with_reducible apply Within.after (auditEvent_within _ _ _ _ _)
    | split | dsimp only

theorem enterStandby_within (s : State) :
    Within [.regs, .mode, .clk, .tim, .sel, .ports, .pair, .gauges, .cal, .out, .freeCtr] [.clk, .dll, .ref, .port, .eng, .cal] s (enterStandby s) := by
  unfold enterStandby
  try dsimp only
  repeat' first
    | decide | with_reducible apply Within.refl | with_reducible apply Within.ite | with_reducible apply Within.after (follow_within _)
    | with_reducible apply Within.after (dropSelection_within _) | with_reducible apply Within.after (enterMode_within _ _)
    | with_reducible apply Within.after (abandonCal_within _) | split | with_reducible apply Within.set
    | (intro p hp; cases p <;> first | exact absurd (by decide) hp | rfl) | dsimp only

theorem enterStandbyRole_within (s : State) :
    Within [.regs, .mode, .clk, .tim, .sel, .ports, .jieth, .pair, .gauges, .cal, .aud, .out, .freeCtr] [.clk, .dll, .ref, .port, .eng, .cal, .aud] s (enterStandbyRole s) := by
  unfold enterStandbyRole
  try dsimp only
  repeat' first
    | decide | with_reducible apply Within.refl | with_reducible apply Within.ite | with_reducible apply Within.after (enterStandby_within _)
    | with_reducible apply Within.after (auditRole_within _) | with_reducible apply Within.after (sendTimingAll_within _) | split | dsimp only

theorem toStandby_within (s : State) :
    Within [.regs, .mode, .clk, .tim, .sel, .ports, .jieth, .pair, .gauges, .cal, .aud, .out, .freeCtr] [.clk, .dll, .ref, .port, .pair, .eng, .cal, .aud] s (toStandby s) := by
  unfold toStandby
  try dsimp only
  repeat' first
    | decide | with_reducible apply Within.refl | with_reducible apply Within.ite | with_reducible apply Within.after (enterStandby_within _)
    | with_reducible apply Within.after (auditRole_within _) | with_reducible apply Within.after (sendTimingAll_within _)
    | with_reducible apply raise_in | (rw [hits_cons]; simp only [hits_nil, hits_cons, Area.has, Reg.PAIR_PAIR_EVENTS_BECAME_STANDBY]; omega) | split
    | dsimp only

theorem takeoverLost_within (s : State) :
    Within [.regs, .mode, .clk, .tim, .sel, .out] [.clk, .ref, .eng] s (takeoverLost s) := by
  unfold takeoverLost
  try dsimp only
  repeat' first
    | decide | with_reducible apply Within.refl | with_reducible apply Within.ite | with_reducible apply Within.after (enterFreerun_within _)
    | with_reducible apply Within.after (enterHoldover_within _) | split | dsimp only

theorem takeoverSelect_within (s : State) (n : Nat) :
    Within [.regs, .mode, .clk, .tim, .sel, .gauges, .out, .freeCtr] [.clk, .dll, .time, .ref, .eng] s (takeoverSelect s n) := by
  unfold takeoverSelect
  try dsimp only
  repeat' first
    | decide | with_reducible apply Within.refl | with_reducible apply Within.ite | with_reducible apply Within.after (enterMode_within _ _)
    | with_reducible apply Within.after (firstAlign_within _ _ _ _ _) | with_reducible apply Within.after (follow_within _)
    | with_reducible apply setF_in | (rw [hits_cons]; simp only [hits_nil, hits_cons, Area.has, Reg.REF_SEL_STATUS_SELECTED]; omega) | split
    | with_reducible apply Within.set | (intro p hp; cases p <;> first | exact absurd (by decide) hp | rfl) | dsimp only

theorem takeoverLocked_within (s : State) :
    Within [.regs, .mode, .clk, .tim, .sel, .gauges, .out, .freeCtr] [.clk, .dll, .time, .ref, .eng] s (takeoverLocked s) := by
  unfold takeoverLocked
  try dsimp only
  repeat' first
    | decide | with_reducible apply Within.refl | with_reducible apply Within.ite | with_reducible apply Within.after (takeoverLost_within _)
    | with_reducible apply Within.after (takeoverSelect_within _ _) | split | dsimp only

theorem dropHist_within (s : State) :
    Within [.sel] [] s (dropHist s) := by
  unfold dropHist
  try dsimp only
  repeat' first
    | decide | with_reducible apply Within.refl | with_reducible apply Within.ite | split | with_reducible apply Within.set
    | (intro p hp; cases p <;> first | exact absurd (by decide) hp | rfl) | dsimp only

theorem dropElig_within (s : State) :
    Within [.sel] [] s (dropElig s) := by
  unfold dropElig
  try dsimp only
  repeat' first
    | decide | with_reducible apply Within.refl | with_reducible apply Within.ite | split | with_reducible apply Within.set
    | (intro p hp; cases p <;> first | exact absurd (by decide) hp | rfl) | dsimp only

theorem takeoverMode_within (s : State) :
    Within [.regs, .mode, .clk, .tim, .sel, .gauges, .out, .freeCtr] [.clk, .dll, .time, .ref, .eng] s (takeoverMode s) := by
  unfold takeoverMode
  generalize mirroredMode s = m
  rcases m with _ | m
  · exact (dropElig_within _).after ((enterHoldover_within _).after ((dropHist_within _).mono (by decide) (by decide)) (by decide) (by decide)) (by decide) (by decide)
  · cases m
    all_goals first
      | exact (takeoverLocked_within s).mono (by decide) (by decide)
      | exact (enterFreerun_within s).mono (by decide) (by decide)
      | exact (enterHoldover_within s).mono (by decide) (by decide)

theorem takeoverRoot_within (s : State) :
    Within [.regs, .clk, .tim, .pair, .gauges, .freeCtr] [.clk, .dll] s (takeoverRoot s) := by
  unfold takeoverRoot
  try dsimp only
  repeat' first
    | decide | with_reducible apply Within.refl | with_reducible apply Within.ite | with_reducible apply Within.after (rootInput_within _ _) | split
    | with_reducible apply Within.set | (intro p hp; cases p <;> first | exact absurd (by decide) hp | rfl) | dsimp only

theorem takeover_within (s : State) :
    Within [.regs, .mode, .clk, .tim, .sel, .jieth, .pair, .gauges, .aud, .out, .freeCtr] [.clk, .dll, .time, .ref, .pair, .eng, .aud] s (takeover s) := by
  unfold takeover
  try dsimp only
  repeat' first
    | decide | with_reducible apply Within.refl | with_reducible apply Within.ite | with_reducible apply Within.after (auditRole_within _)
    | with_reducible apply Within.after (sendTimingAll_within _) | with_reducible apply Within.after (ptpResume_within _)
    | with_reducible apply Within.after (openWindow_within _) | with_reducible apply Within.after (takeoverMode_within _)
    | with_reducible apply Within.after (takeoverRoot_within _) | with_reducible apply Within.after (takeWord_within _ _)
    | with_reducible apply incF_in | with_reducible apply raise_in | with_reducible apply raiseIf_in
    | (rw [hits_cons]; simp only [hits_nil, hits_cons, Area.has, Reg.PAIR_PAIR_EVENTS_UNREADY_TAKEOVER, Reg.PAIR_TAKEOVER_CNT, Reg.PAIR_PAIR_EVENTS_TOOK_OVER]; omega)
    | split | with_reducible apply Within.set | (intro p hp; cases p <;> first | exact absurd (by decide) hp | rfl) | dsimp only

theorem isolate_within (s : State) :
    Within [.regs, .mode, .clk, .tim, .sel, .ports, .jieth, .gauges, .cal, .aud, .out, .freeCtr] [.clk, .dll, .ref, .port, .eng, .cal, .aud] s (isolate s) := by
  unfold isolate
  try dsimp only
  repeat' first
    | decide | with_reducible apply Within.refl | with_reducible apply Within.ite | with_reducible apply Within.after (auditRole_within _)
    | with_reducible apply Within.after (sendTimingAll_within _) | with_reducible apply Within.after (rootInput_within _ _)
    | with_reducible apply Within.after (dropSelection_within _) | with_reducible apply Within.after (enterMode_within _ _)
    | with_reducible apply Within.after (abandonCal_within _) | split | with_reducible apply Within.set
    | (intro p hp; cases p <;> first | exact absurd (by decide) hp | rfl) | dsimp only

theorem roleTaken_within (s : State) (v : Nat) :
    Within [.regs, .pair, .out] [.pair] s (roleTaken s v) := by
  unfold roleTaken
  try dsimp only
  repeat' first
    | decide | with_reducible apply Within.refl | with_reducible apply Within.ite | with_reducible apply setF_in | with_reducible apply raise_in
    | with_reducible apply raiseIf_in
    | (rw [hits_cons]; simp only [hits_nil, hits_cons, Area.has, Reg.PAIR_PAIR_EVENTS_ROLE_CHANGED, Reg.PAIR_PAIR_EVENTS_ROLE_RESERVED, Reg.PAIR_PAIR_STATUS_ROLE_IN]; omega)
    | split | with_reducible apply Within.set | (intro p hp; cases p <;> first | exact absurd (by decide) hp | rfl) | dsimp only

theorem execRoleInTaken_within (v : BitVec 2) (s : State) :
    Within [.regs, .mode, .clk, .tim, .sel, .ports, .jieth, .pair, .gauges, .cal, .aud, .out, .freeCtr] [.clk, .dll, .time, .ref, .port, .pair, .eng, .cal, .aud] s (outcomeOr s (execRoleInTaken v s)) := by
  unfold execRoleInTaken
  try dsimp only
  repeat' first
    | decide | with_reducible apply Within.refl | with_reducible apply Within.ite | with_reducible apply Within.after (isolate_within _)
    | with_reducible apply Within.after (takeover_within _) | with_reducible apply Within.after (toStandby_within _)
    | with_reducible apply Within.after (roleTaken_within _ _) | rw [outcomeOr_ok] | rw [outcomeOr_fault] | split | dsimp only

theorem yieldNow_within (s : State) :
    Within [.regs, .mode, .clk, .tim, .sel, .ports, .jieth, .pair, .gauges, .cal, .aud, .out, .freeCtr] [.clk, .dll, .ref, .port, .pair, .eng, .cal, .aud] s (yieldNow s) := by
  unfold yieldNow
  try dsimp only
  repeat' first
    | decide | with_reducible apply Within.refl | with_reducible apply Within.ite | with_reducible apply Within.after (auditRole_within _)
    | with_reducible apply Within.after (sendTimingAll_within _) | with_reducible apply Within.after (enterStandby_within _)
    | with_reducible apply raise_in | (rw [hits_cons]; simp only [hits_nil, hits_cons, Area.has, Reg.PAIR_PAIR_EVENTS_YIELDED]; omega) | split
    | with_reducible apply Within.set | (intro p hp; cases p <;> first | exact absurd (by decide) hp | rfl) | dsimp only

theorem execYieldTimerExpiry_within (s : State) :
    Within [.regs, .mode, .clk, .tim, .sel, .ports, .jieth, .pair, .coarse, .gauges, .cal, .aud, .now, .out, .freeCtr, .tod] [.clk, .dll, .ref, .port, .pair, .gauge, .eng, .perf, .cal, .aud] s (outcomeOr s (execYieldTimerExpiry s)) := by
  unfold execYieldTimerExpiry
  try dsimp only
  repeat' first
    | decide | with_reducible apply Within.refl | with_reducible apply Within.ite | with_reducible apply Within.after (yieldNow_within _)
    | with_reducible apply Within.after (advance_within _ _) | rw [outcomeOr_ok] | rw [outcomeOr_fault] | split | with_reducible apply Within.set
    | (intro p hp; cases p <;> first | exact absurd (by decide) hp | rfl) | dsimp only

theorem execDualActiveClear_within (s : State) :
    Within [.regs, .clk, .tim, .sel, .coarse, .now, .out, .tod] [.pair, .gauge, .perf] s (outcomeOr s (execDualActiveClear s)) := by
  unfold execDualActiveClear
  try dsimp only
  repeat' first
    | decide | with_reducible apply Within.refl | with_reducible apply Within.ite | with_reducible apply Within.after (advance_within _ _)
    | rw [outcomeOr_ok] | rw [outcomeOr_fault] | with_reducible apply setF_in
    | (rw [hits_cons]; simp only [hits_nil, hits_cons, Area.has, Reg.PAIR_PAIR_STATUS_DUAL_ACTIVE]; omega) | split | dsimp only

theorem execMirrorStateFrameTx_within (s : State) :
    Within [.out] [] s (outcomeOr s (execMirrorStateFrameTx s)) := by
  unfold execMirrorStateFrameTx
  try dsimp only
  repeat' first
    | decide | with_reducible apply Within.refl | with_reducible apply Within.ite | rw [outcomeOr_ok] | rw [outcomeOr_fault]
    | with_reducible apply Within.after (emit_within _ _) | split | dsimp only

theorem mirrorValid_within (s : State) (f : MirrorFrame) :
    Within [.regs, .pair] [.pair] s (mirrorValid s f) := by
  unfold mirrorValid
  try dsimp only
  repeat' first
    | decide | with_reducible apply Within.refl | with_reducible apply Within.ite | with_reducible apply Within.after (setPeerEpoch_within _ _)
    | with_reducible apply setF_in
    | (rw [hits_cons]; simp only [hits_nil, hits_cons, Area.has, Reg.PAIR_PAIR_STATUS_MIRROR_OK, Reg.PAIR_MIRROR_AGE]; omega) | split
    | with_reducible apply Within.set | (intro p hp; cases p <;> first | exact absurd (by decide) hp | rfl) | dsimp only

theorem mirrorStore_within (s : State) (f : MirrorFrame) :
    Within [.regs, .sel, .pair] [.ref, .slot, .pair] s (mirrorStore s f) := by
  unfold mirrorStore
  try dsimp only
  repeat' first
    | decide | with_reducible apply Within.refl | with_reducible apply Within.ite | with_reducible apply setF_in | with_reducible apply setB_in
    | (rw [hits_cons]; simp only [hits_nil, hits_cons, Area.has, Reg.SLOT_SLOT_CFG_LOCKOUT, Reg.REF_SEL_STATUS_FORCE_SLOT, Reg.PAIR_PAIR_STATUS_CAL_MATCH]; omega)
    | split | (with_reducible apply Within.fold (l := [.regs, .sel, .pair]) (g := [.ref, .slot, .pair]); intro _ _) | with_reducible apply Within.set
    | (intro p hp; cases p <;> first | exact absurd (by decide) hp | rfl) | dsimp only

theorem execMirrorStateFrameRx_within (f : MirrorFrame) (s : State) :
    Within [.regs, .sel, .pair] [.ref, .slot, .pair] s (outcomeOr s (execMirrorStateFrameRx f s)) := by
  unfold execMirrorStateFrameRx
  try dsimp only
  repeat' first
    | decide | with_reducible apply Within.refl | with_reducible apply Within.ite | with_reducible apply Within.after (mirrorValid_within _ _)
    | with_reducible apply Within.after (mirrorStore_within _ _) | rw [outcomeOr_ok] | rw [outcomeOr_fault] | with_reducible apply incF_in
    | (rw [hits_cons]; simp only [hits_nil, hits_cons, Area.has, Reg.PAIR_MIRROR_DISCARD]; omega) | split | dsimp only

theorem execMirrorLost_within (s : State) :
    Within [.regs, .out] [.pair] s (outcomeOr s (execMirrorLost s)) := by
  unfold execMirrorLost
  try dsimp only
  repeat' first
    | decide | with_reducible apply Within.refl | with_reducible apply Within.ite | with_reducible apply Within.after (mirrorGone_within _)
    | rw [outcomeOr_ok] | rw [outcomeOr_fault] | split | dsimp only

end Sys2Proof.Machine
end

