-- ==== Sys2Proof/Laws/WithinInst.lean ====
section
/-! SUPPORT. What each operation may touch: gauges, GNSS, calibration and engines. -/

set_option linter.unusedSimpArgs false
set_option linter.unusedTactic false
set_option linter.unreachableTactic false
set_option linter.unnecessarySeqFocus false
set_option linter.style.multiGoal false

namespace Sys2Proof.Machine

theorem execGaugeEdge_within (n ps : Nat) (s : State) :
    Within [.regs, .clk, .tim, .sel, .coarse, .gauges, .now, .out, .tod] [.gauge, .ga, .perf] s (outcomeOr s (execGaugeEdge n ps s)) := by
  unfold execGaugeEdge
  try dsimp only
  repeat' first
    | decide | with_reducible apply Within.refl | with_reducible apply Within.ite | with_reducible apply Within.after (runPs_within _ _)
    | rw [outcomeOr_ok] | rw [outcomeOr_fault] | with_reducible apply incF_in
    | (rw [hits_cons]; simp only [hits_nil, hits_cons, Area.has, Reg.GA_MISSED]; omega) | with_reducible apply Within.after (updGauge_within _ _ _)
    | split | dsimp only

theorem pushResult_within (s : State) (n : Nat) (es : List GEdge) (w : Nat) (ws : List Word) :
    Within [.regs, .gauges, .out] [.gauge, .ga] s (pushResult s n es w ws) := by
  unfold pushResult
  try dsimp only
  repeat' first
    | decide | with_reducible apply Within.refl | with_reducible apply Within.ite | with_reducible apply incF_in | with_reducible apply raise_in
    | (rw [hits_cons]; simp only [hits_nil, hits_cons, Area.has, Reg.GA_OVERRUN, Reg.GAUGE_EVENTS_OVERRUN_SEEN]; omega)
    | with_reducible apply Within.after (updGauge_within _ _ _) | split | dsimp only

theorem pushInterval_within (s : State) (n : Nat) (a b : GEdge) :
    Within [.regs, .gauges, .out] [.gauge, .ga] s (pushInterval s n a b) := by
  unfold pushInterval
  try dsimp only
  repeat' first
    | decide | with_reducible apply Within.refl | with_reducible apply Within.ite | with_reducible apply Within.after (pushResult_within _ _ _ _ _)
    | split | dsimp only

theorem pushStamp_within (s : State) (n : Nat) (x : Nat) (e : GEdge) :
    Within [.regs, .gauges, .out] [.gauge, .ga] s (pushStamp s n x e) := by
  unfold pushStamp
  try dsimp only
  repeat' first
    | decide | with_reducible apply Within.refl | with_reducible apply Within.ite | with_reducible apply Within.after (pushResult_within _ _ _ _ _)
    | split | dsimp only

theorem closeGate_within (s : State) (n : Nat) :
    Within [.regs, .gauges, .out] [.gauge, .ga] s (closeGate s n) := by
  unfold closeGate
  try dsimp only
  repeat' first
    | decide | with_reducible apply Within.refl | with_reducible apply Within.ite | with_reducible apply Within.after (pushResult_within _ _ _ _ _)
    | with_reducible apply Within.after (pushInterval_within _ _ _ _) | with_reducible apply Within.after (updGauge_within _ _ _) | split | dsimp only

theorem closeGates_within (s : State) (n x : Nat) (fuel : Nat) :
    Within [.regs, .gauges, .out] [.gauge, .ga] s (closeGates s n x fuel) := by
  induction fuel generalizing s with
  | zero => exact .refl
  | succ k ih =>
    unfold closeGates
    dsimp only
    split
    · exact (ih _).after (closeGate_within _ _) (by decide) (by decide)
    · exact .refl

theorem execFreqGateEnd_within (n : Nat) (s : State) :
    Within [.regs, .clk, .tim, .sel, .coarse, .gauges, .now, .out, .tod] [.gauge, .ga, .perf] s (outcomeOr s (execFreqGateEnd n s)) := by
  unfold execFreqGateEnd
  try dsimp only
  repeat' first
    | decide | with_reducible apply Within.refl | with_reducible apply Within.ite | with_reducible apply Within.after (advance_within _ _)
    | with_reducible apply Within.after (closeGate_within _ _) | rw [outcomeOr_ok] | rw [outcomeOr_fault] | split | dsimp only

theorem ignoreEdge_within (s : State) (n : Nat) :
    Within [.regs] [.ga] s (ignoreEdge s n) := by
  unfold ignoreEdge
  try dsimp only
  repeat' first
    | decide | with_reducible apply Within.refl | with_reducible apply Within.ite | with_reducible apply incF_in
    | (rw [hits_cons]; simp only [hits_nil, hits_cons, Area.has, Reg.GA_IGNORED]; omega) | split | dsimp only

theorem settleStart_within (s : State) (n : Nat) :
    Within [.regs, .gauges, .out] [.gauge, .ga] s (settleStart s n) := by
  unfold settleStart
  try dsimp only
  repeat' first
    | decide | with_reducible apply Within.refl | with_reducible apply Within.ite | with_reducible apply Within.after (ignoreEdge_within _ _)
    | with_reducible apply Within.after (pushInterval_within _ _ _ _) | with_reducible apply Within.after (updGauge_within _ _ _) | split | dsimp only

theorem settleStarts_within (s : State) (n : Nat) (fuel : Nat) :
    Within [.regs, .gauges, .out] [.gauge, .ga] s (settleStarts s n fuel) := by
  induction fuel generalizing s with
  | zero => exact .refl
  | succ k ih =>
    unfold settleStarts
    dsimp only
    split
    · exact .refl
    · split
      · exact (ih _).after (settleStart_within _ _) (by decide) (by decide)
      · exact .refl

theorem startEdge_within (s : State) (n : Nat) (t : GEdge) :
    Within [.regs, .gauges, .out] [.gauge, .ga] s (startEdge s n t) := by
  unfold startEdge
  try dsimp only
  repeat' first
    | decide | with_reducible apply Within.refl | with_reducible apply Within.ite | with_reducible apply Within.after (settleStarts_within _ _ _)
    | with_reducible apply Within.after (pushInterval_within _ _ _ _) | with_reducible apply Within.after (ignoreEdge_within _ _)
    | with_reducible apply incF_in | (rw [hits_cons]; simp only [hits_nil, hits_cons, Area.has, Reg.GA_IGNORED]; omega)
    | with_reducible apply Within.after (updGauge_within _ _ _) | split | dsimp only

theorem stopEdge_within (s : State) (n : Nat) (u : GEdge) :
    Within [.regs, .gauges, .out] [.gauge, .ga] s (stopEdge s n u) := by
  unfold stopEdge
  try dsimp only
  repeat' first
    | decide | with_reducible apply Within.refl | with_reducible apply Within.ite | with_reducible apply Within.after (settleStarts_within _ _ _)
    | with_reducible apply Within.after (ignoreEdge_within _ _) | with_reducible apply Within.after (pushInterval_within _ _ _ _)
    | with_reducible apply Within.after (updGauge_within _ _ _) | split | dsimp only

theorem ownEdge_within (s : State) (n x : Nat) (t : GEdge) :
    Within [.regs, .gauges, .out] [.gauge, .ga] s (ownEdge s n x t) := by
  unfold ownEdge
  try dsimp only
  repeat' first
    | decide | with_reducible apply Within.refl | with_reducible apply Within.ite | with_reducible apply Within.after (closeGates_within _ _ _ _)
    | with_reducible apply Within.after (pushInterval_within _ _ _ _) | with_reducible apply Within.after (startEdge_within _ _ _)
    | with_reducible apply Within.after (pushStamp_within _ _ _ _) | with_reducible apply Within.after (updGauge_within _ _ _) | split | dsimp only

theorem execGaugeConversionDone_within (n : Nat) (coarse sub count : Nat) (s : State) :
    Within [.regs, .gauges, .out] [.gauge, .ga] s (outcomeOr s (execGaugeConversionDone n coarse sub count s)) := by
  unfold execGaugeConversionDone
  try dsimp only
  repeat' first
    | decide | with_reducible apply Within.refl | with_reducible apply Within.ite | with_reducible apply Within.after (stopEdge_within _ _ _)
    | with_reducible apply Within.after (ownEdge_within _ _ _ _) | rw [outcomeOr_ok] | rw [outcomeOr_fault]
    | with_reducible apply Within.after (updGauge_within _ _ _) | split
    | (with_reducible apply Within.fold (l := [.regs, .gauges, .out]) (g := [.gauge, .ga]); intro _ _) | dsimp only

theorem execSignedPairWindowEnd_within (n : Nat) (s : State) :
    Within [.regs, .clk, .tim, .sel, .coarse, .gauges, .now, .out, .tod] [.gauge, .ga, .perf] s (outcomeOr s (execSignedPairWindowEnd n s)) := by
  unfold execSignedPairWindowEnd
  try dsimp only
  repeat' first
    | decide | with_reducible apply Within.refl | with_reducible apply Within.ite | with_reducible apply Within.after (advance_within _ _)
    | with_reducible apply Within.after (settleStart_within _ _) | rw [outcomeOr_ok] | rw [outcomeOr_fault] | split | dsimp only

theorem execCoarseWrap_within (s : State) :
    Within [.regs, .clk, .tim, .sel, .coarse, .now, .out, .tod] [.gauge, .perf] s (outcomeOr s (execCoarseWrap s)) := by
  unfold execCoarseWrap
  try dsimp only
  repeat' first
    | decide | with_reducible apply Within.refl | with_reducible apply Within.ite | with_reducible apply Within.after (advance_within _ _)
    | rw [outcomeOr_ok] | rw [outcomeOr_fault] | split | dsimp only

theorem execGaugeCorrectionApply_within (n : Nat) (s : State) :
    Within [.regs, .clk, .tim, .sel, .coarse, .cal, .now, .out, .tod] [.gauge, .perf] s (outcomeOr s (execGaugeCorrectionApply n s)) := by
  unfold execGaugeCorrectionApply
  try dsimp only
  repeat' first
    | decide | with_reducible apply Within.refl | with_reducible apply Within.ite | with_reducible apply Within.after (applyItem_within _ _)
    | with_reducible apply Within.after (runPs_within _ _) | rw [outcomeOr_ok] | rw [outcomeOr_fault] | split | dsimp only

theorem gaugeStart_within (s : State) (n : Nat) :
    Within [.regs, .gauges] [.ga] s (gaugeStart s n) := by
  unfold gaugeStart
  try dsimp only
  repeat' first
    | decide | with_reducible apply Within.refl | with_reducible apply Within.ite | with_reducible apply setF_in
    | (rw [hits_cons]; simp only [hits_nil, hits_cons, Area.has, Reg.GA_STATUS_RUNNING]; omega)
    | with_reducible apply Within.after (updGauge_within _ _ _) | split | dsimp only

theorem gaugeStop_within (s : State) (n : Nat) :
    Within [.regs, .gauges] [.ga] s (gaugeStop s n) := by
  unfold gaugeStop
  try dsimp only
  repeat' first
    | decide | with_reducible apply Within.refl | with_reducible apply Within.ite | with_reducible apply setF_in
    | (rw [hits_cons]; simp only [hits_nil, hits_cons, Area.has, Reg.GA_STATUS_RUNNING]; omega)
    | with_reducible apply Within.after (updGauge_within _ _ _) | split | dsimp only

theorem gaugesOff_within (s : State) :
    Within [.regs, .gauges] [.ga] s (gaugesOff s) := by
  unfold gaugesOff
  try dsimp only
  repeat' first
    | decide | with_reducible apply Within.refl | with_reducible apply Within.ite | with_reducible apply Within.after (gaugeStop_within _ _) | split
    | (with_reducible apply Within.fold (l := [.regs, .gauges]) (g := [.ga]); intro _ _) | with_reducible apply Within.set
    | (intro p hp; cases p <;> first | exact absurd (by decide) hp | rfl) | dsimp only

theorem coarseRestart_within (s : State) :
    Within [.regs, .coarse, .out] [.gauge] s (coarseRestart s) := by
  unfold coarseRestart
  try dsimp only
  repeat' first
    | decide | with_reducible apply Within.refl | with_reducible apply Within.ite | with_reducible apply raise_in
    | (rw [hits_cons]; simp only [hits_nil, hits_cons, Area.has, Reg.GAUGE_EVENTS_COARSE_RESTART]; omega) | split | with_reducible apply Within.set
    | (intro p hp; cases p <;> first | exact absurd (by decide) hp | rfl) | dsimp only

theorem popResult_within (s : State) (n : Nat) :
    Within [.gauges] [] s (popResult s n).1 := by
  unfold popResult
  try dsimp only
  repeat' first
    | decide | with_reducible apply Within.refl | with_reducible apply Within.ite | with_reducible apply Within.after (updGauge_within _ _ _) | split
    | dsimp only

theorem setChanFlag_within (s : State) (ch b : Nat) (v : Bool) :
    Within [.regs] [.chan] s (setChanFlag s ch b v) := by
  unfold setChanFlag
  try dsimp only
  repeat' first
    | decide | with_reducible apply Within.refl | with_reducible apply Within.ite | with_reducible apply setB_in
    | (rw [hits_cons]; simp only [hits_nil, hits_cons, Area.has, Reg.CH_CH_STATUS_FLAGS]; omega) | split | dsimp only

theorem updGnss_within (s : State) (f : Gnss → Gnss) :
    Within [.gnss] [] s (updGnss s f) := by
  unfold updGnss
  try dsimp only
  repeat' first
    | decide | with_reducible apply Within.refl | with_reducible apply Within.ite | split | with_reducible apply Within.set
    | (intro p hp; cases p <;> first | exact absurd (by decide) hp | rfl) | dsimp only

theorem releaseNotch_within (s : State) (n : Nat) :
    Within [.regs, .gnss] [.gnss] s (releaseNotch s n) := by
  unfold releaseNotch
  try dsimp only
  repeat' first
    | decide | with_reducible apply Within.refl | with_reducible apply Within.ite | with_reducible apply Within.after (updGnss_within _ _)
    | with_reducible apply setF_in | (rw [hits_cons]; simp only [hits_nil, hits_cons, Area.has, Reg.NOTCH_STAT_ACTIVE, Reg.NOTCH_STAT_FREQ]; omega)
    | split | dsimp only

theorem placeNotch_within (s : State) (n : Nat) (hz : Int) :
    Within [.regs, .gnss] [.gnss] s (placeNotch s n hz) := by
  unfold placeNotch
  try dsimp only
  repeat' first
    | decide | with_reducible apply Within.refl | with_reducible apply Within.ite | with_reducible apply Within.after (updGnss_within _ _)
    | with_reducible apply setF_in | (rw [hits_cons]; simp only [hits_nil, hits_cons, Area.has, Reg.NOTCH_STAT_ACTIVE, Reg.NOTCH_STAT_FREQ]; omega)
    | split | dsimp only

theorem takeLine_within (s : State) (l : Line) :
    Within [.regs, .gnss] [.gnss] s (takeLine s l) := by
  unfold takeLine
  try dsimp only
  repeat' first
    | decide | with_reducible apply Within.refl | with_reducible apply Within.ite | with_reducible apply Within.after (placeNotch_within _ _ _)
    | with_reducible apply setF_in | (rw [hits_cons]; simp only [hits_nil, hits_cons, Area.has, Reg.NOTCH_STAT_FREQ]; omega) | split | dsimp only

theorem ageNotch_within (lines : List Line) (s : State) (n : Nat) :
    Within [.regs, .gnss] [.gnss] s (ageNotch lines s n) := by
  unfold ageNotch
  try dsimp only
  repeat' first
    | decide | with_reducible apply Within.refl | with_reducible apply Within.ite | with_reducible apply Within.after (updGnss_within _ _)
    | with_reducible apply Within.after (releaseNotch_within _ _) | split | dsimp only

theorem execSpectralScan_within (lines : List Line) (s : State) :
    Within [.regs, .gnss] [.gnss] s (outcomeOr s (execSpectralScan lines s)) := by
  unfold execSpectralScan
  try dsimp only
  repeat' first
    | decide | with_reducible apply Within.refl | with_reducible apply Within.ite | with_reducible apply Within.after (ageNotch_within _ _ _)
    | with_reducible apply Within.after (takeLine_within _ _) | rw [outcomeOr_ok] | rw [outcomeOr_fault] | split
    | (with_reducible apply Within.fold (l := [.regs, .gnss]) (g := [.gnss]); intro _ _) | dsimp only

theorem execJamUpdate_within (power : Nat) (follows : Bool) (s : State) :
    Within [.regs, .gnss, .out] [.gnss] s (outcomeOr s (execJamUpdate power follows s)) := by
  unfold execJamUpdate
  try dsimp only
  repeat' first
    | decide | with_reducible apply Within.refl | with_reducible apply Within.ite | with_reducible apply Within.after (updGnss_within _ _)
    | rw [outcomeOr_ok] | rw [outcomeOr_fault] | with_reducible apply setF_in | with_reducible apply raise_in
    | (rw [hits_cons]; simp only [hits_nil, hits_cons, Area.has, Reg.GNSS_STATUS_JAM, Reg.GNSS_EVENTS_JAM_SET, Reg.GNSS_STATUS_JN]; omega) | split
    | dsimp only

theorem execNoiseRefDone_within (power : Nat) (s : State) :
    Within [.gnss] [] s (outcomeOr s (execNoiseRefDone power s)) := by
  unfold execNoiseRefDone
  try dsimp only
  repeat' first
    | decide | with_reducible apply Within.refl | with_reducible apply Within.ite | with_reducible apply Within.after (updGnss_within _ _)
    | rw [outcomeOr_ok] | rw [outcomeOr_fault] | split | dsimp only

theorem updChan_within (s : State) (ch : Nat) (f : GnssChan → GnssChan) :
    Within [.gnss] [] s (updChan s ch f) := by
  unfold updChan
  try dsimp only
  repeat' first
    | decide | with_reducible apply Within.refl | with_reducible apply Within.ite | with_reducible apply Within.after (updGnss_within _ _) | split
    | dsimp only

theorem idleChan_within (s0 : State) (ch : Nat) :
    Within [.regs, .gnss] [.chan] s0 (idleChan s0 ch) := by
  unfold idleChan
  try dsimp only
  repeat' first
    | decide | with_reducible apply Within.refl | with_reducible apply Within.ite | with_reducible apply Within.after (updChan_within _ _ _)
    | with_reducible apply setF_in
    | (rw [hits_cons]; simp only [hits_nil, hits_cons, Area.has, Reg.CH_CH_STATUS_STATE, Reg.CH_CH_STATUS_PRN, Reg.CH_CH_STATUS_FLAGS, Reg.CH_CH_STATUS_CN0, Reg.CH_DOPPLER, Reg.CH_ELEV, Reg.CH_RESIDUAL]; omega)
    | split | dsimp only

theorem pullIn_within (s : State) (prn : Nat) (bin : Int) (code : Nat) :
    Within [.regs, .gnss] [.chan] s (pullIn s prn bin code) := by
  unfold pullIn
  try dsimp only
  repeat' first
    | decide | with_reducible apply Within.refl | with_reducible apply Within.ite | with_reducible apply Within.after (idleChan_within _ _)
    | with_reducible apply Within.after (updChan_within _ _ _) | with_reducible apply setF_in
    | (rw [hits_cons]; simp only [hits_nil, hits_cons, Area.has, Reg.CH_CH_STATUS_STATE, Reg.CH_CH_STATUS_PRN, Reg.CH_DOPPLER]; omega) | split
    | dsimp only

theorem execAcquisitionDone_within (prn : Nat) (c : SearchCell) (peak next : Nat) (s : State) :
    Within [.regs, .gnss] [.chan] s (outcomeOr s (execAcquisitionDone prn c peak next s)) := by
  unfold execAcquisitionDone
  try dsimp only
  repeat' first
    | decide | with_reducible apply Within.refl | with_reducible apply Within.ite | with_reducible apply Within.after (pullIn_within _ _ _ _)
    | with_reducible apply Within.after (updGnss_within _ _) | rw [outcomeOr_ok] | rw [outcomeOr_fault] | split | dsimp only

theorem execChannelTrack_within (ch : Nat) (s : State) :
    Within [.regs, .gnss] [.chan] s (outcomeOr s (execChannelTrack ch s)) := by
  unfold execChannelTrack
  try dsimp only
  repeat' first
    | decide | with_reducible apply Within.refl | with_reducible apply Within.ite | with_reducible apply Within.after (updChan_within _ _ _)
    | rw [outcomeOr_ok] | rw [outcomeOr_fault] | with_reducible apply setF_in
    | (rw [hits_cons]; simp only [hits_nil, hits_cons, Area.has, Reg.CH_CH_STATUS_STATE]; omega) | split | dsimp only

theorem execChannelLost_within (ch : Nat) (s : State) :
    Within [.regs] [.chan] s (outcomeOr s (execChannelLost ch s)) := by
  unfold execChannelLost
  try dsimp only
  repeat' first
    | decide | with_reducible apply Within.refl | with_reducible apply Within.ite | rw [outcomeOr_ok] | rw [outcomeOr_fault]
    | with_reducible apply setF_in | (rw [hits_cons]; simp only [hits_nil, hits_cons, Area.has, Reg.CH_CH_STATUS_STATE]; omega) | split | dsimp only

theorem navData_within (s : State) (ch : Nat) (d : NavIn) :
    Within [.regs, .gnss] [.chan] s (navData s ch d) := by
  unfold navData
  try dsimp only
  repeat' first
    | decide | with_reducible apply Within.refl | with_reducible apply Within.ite | with_reducible apply Within.after (setChanFlag_within _ _ _ _)
    | with_reducible apply Within.after (updGnss_within _ _) | split | dsimp only

theorem navUtc_within (s : State) (ls lsf : Int) (last : Bool) :
    Within [.ports] [] s (navUtc s ls lsf last) := by
  unfold navUtc
  try dsimp only
  repeat' first
    | decide | with_reducible apply Within.refl | with_reducible apply Within.ite | split | with_reducible apply Within.set
    | (intro p hp; cases p <;> first | exact absurd (by decide) hp | rfl) | dsimp only

theorem execNavDataDecode_within (d : NavIn) (s : State) :
    Within [.regs, .ports, .gnss] [.chan] s (outcomeOr s (execNavDataDecode d s)) := by
  unfold execNavDataDecode
  try dsimp only
  repeat' first
    | decide | with_reducible apply Within.refl | with_reducible apply Within.ite | with_reducible apply Within.after (navUtc_within _ _ _ _)
    | with_reducible apply Within.after (navData_within _ _ _) | rw [outcomeOr_ok] | rw [outcomeOr_fault] | split | dsimp only

theorem solutionLost_within (s : State) :
    Within [.regs, .mode, .clk, .tim, .sel, .ports, .gauges, .gnss, .cal, .out, .freeCtr] [.clk, .dll, .time, .ref, .slot, .port, .gnss, .eng, .cal] s (solutionLost s) := by
  unfold solutionLost
  try dsimp only
  repeat' first
    | decide | with_reducible apply Within.refl | with_reducible apply Within.ite | with_reducible apply Within.after (loseSource_within _ _ _)
    | with_reducible apply Within.after (updGnss_within _ _) | with_reducible apply setF_in | with_reducible apply raise_in
    | (rw [hits_cons]; simp only [hits_nil, hits_cons, Area.has, Reg.GNSS_EVENTS_SOL_LOST, Reg.GNSS_STATUS_SOL_VALID]; omega) | split | dsimp only

theorem takeChan_within (s0 : State) (m : ChanMeas) :
    Within [.regs, .gnss] [.chan] s0 (takeChan s0 m) := by
  unfold takeChan
  try dsimp only
  repeat' first
    | decide | with_reducible apply Within.refl | with_reducible apply Within.ite | with_reducible apply Within.after (setChanFlag_within _ _ _ _)
    | with_reducible apply Within.after (updChan_within _ _ _) | with_reducible apply setF_in
    | (rw [hits_cons]; simp only [hits_nil, hits_cons, Area.has, Reg.CH_CH_STATUS_CN0, Reg.CH_DOPPLER, Reg.CH_ELEV]; omega) | split | dsimp only

theorem execCodeEpoch_within (meas : List ChanMeas) (s0 : State) :
    Within [.regs, .mode, .clk, .tim, .sel, .ports, .coarse, .gauges, .gnss, .cal, .now, .out, .freeCtr, .tod] [.clk, .dll, .time, .ref, .slot, .port, .gauge, .gnss, .chan, .eng, .perf, .cal] s0 (outcomeOr s0 (execCodeEpoch meas s0)) := by
  unfold execCodeEpoch
  try dsimp only
  repeat' first
    | decide | with_reducible apply Within.refl | with_reducible apply Within.ite | with_reducible apply Within.after (solutionLost_within _)
    | with_reducible apply Within.after (idleChan_within _ _) | with_reducible apply Within.after (takeChan_within _ _)
    | with_reducible apply Within.after (updGnss_within _ _) | with_reducible apply Within.after (applyItem_within _ _)
    | with_reducible apply Within.after (runToGrid_within _ _) | rw [outcomeOr_ok] | rw [outcomeOr_fault] | with_reducible apply raiseIf_in
    | (rw [hits_cons]; simp only [hits_nil, hits_cons, Area.has, Reg.GNSS_EVENTS_CAL_APPLIED]; omega) | split
    | (with_reducible apply Within.fold (l := [.regs, .mode, .clk, .tim, .sel, .ports, .coarse, .gauges, .gnss, .cal, .now, .out, .freeCtr, .tod]) (g := [.clk, .dll, .time, .ref, .slot, .port, .gauge, .gnss, .chan, .eng, .perf, .cal]); intro _ _)
    | dsimp only

theorem publishGnss_within (s : State) (x rate : Int) :
    Within [.regs, .sel, .gnss] [.slot] s (publishGnss s x rate) := by
  unfold publishGnss
  try dsimp only
  repeat' first
    | decide | with_reducible apply Within.refl | with_reducible apply Within.ite | with_reducible apply Within.after (updGnss_within _ _)
    | with_reducible apply Within.after (storeMeas_within _ _ _) | split
    | (with_reducible apply Within.fold (l := [.regs, .sel, .gnss]) (g := [.slot]); intro _ _) | dsimp only

theorem surveyFix_within (s : State) (x : Int × Int × Int) :
    Within [.regs, .gnss] [.gnss] s (surveyFix s x) := by
  unfold surveyFix
  try dsimp only
  repeat' first
    | decide | with_reducible apply Within.refl | with_reducible apply Within.ite | with_reducible apply Within.after (updGnss_within _ _)
    | with_reducible apply setF_in | (rw [hits_cons]; simp only [hits_nil, hits_cons, Area.has, Reg.GNSS_SURVEY_LEFT]; omega) | split | dsimp only

theorem execGnssSolution_within (fits : List Fit) (s : State) :
    Within [.regs, .mode, .clk, .tim, .sel, .ports, .gauges, .gnss, .cal, .out, .freeCtr] [.clk, .dll, .time, .ref, .slot, .port, .gnss, .chan, .eng, .cal] s (outcomeOr s (execGnssSolution fits s)) := by
  unfold execGnssSolution
  try dsimp only
  repeat' first
    | decide | with_reducible apply Within.refl | with_reducible apply Within.ite | with_reducible apply Within.after (publishGnss_within _ _ _)
    | with_reducible apply Within.after (surveyFix_within _ _) | with_reducible apply Within.after (solutionLost_within _)
    | with_reducible apply Within.after (setChanFlag_within _ _ _ _) | rw [outcomeOr_ok] | rw [outcomeOr_fault] | with_reducible apply setF_in
    | with_reducible apply raiseIf_in
    | (rw [hits_cons]; simp only [hits_nil, hits_cons, Area.has, Reg.GNSS_STATUS_SOL_VALID, Reg.GNSS_STATUS_SV_USED, Reg.CH_RESIDUAL, Reg.GNSS_EVENTS_SV_EXCLUDED]; omega)
    | split
    | (with_reducible apply Within.fold (l := [.regs, .mode, .clk, .tim, .sel, .ports, .gauges, .gnss, .cal, .out, .freeCtr]) (g := [.clk, .dll, .time, .ref, .slot, .port, .gnss, .chan, .eng, .cal]); intro _ _)
    | dsimp only

theorem setPosition_within (s : State) (x y z : Int) :
    Within [.regs] [.gnss] s (setPosition s x y z) := by
  unfold setPosition
  try dsimp only
  repeat' first
    | decide | with_reducible apply Within.refl | with_reducible apply Within.ite | with_reducible apply setHL_in
    | (rw [hits_cons]; simp only [hits_nil, hits_cons, Area.has, Reg.GNSS_POS_X_LO, Reg.GNSS_POS_X_HI, Reg.GNSS_POS_Y_LO, Reg.GNSS_POS_Y_HI, Reg.GNSS_POS_Z_LO, Reg.GNSS_POS_Z_HI]; omega)
    | split | dsimp only

theorem holdPosition_within (s : State) (x y z : Int) :
    Within [.regs, .mode, .clk, .tim, .sel, .ports, .gauges, .gnss, .cal, .out, .freeCtr] [.clk, .dll, .time, .ref, .slot, .port, .gnss, .eng, .cal] s (holdPosition s x y z) := by
  unfold holdPosition
  try dsimp only
  repeat' first
    | decide | with_reducible apply Within.refl | with_reducible apply Within.ite | with_reducible apply Within.after (restartSource_within _ _ _)
    | with_reducible apply Within.after (updGnss_within _ _) | with_reducible apply Within.after (setPosition_within _ _ _ _)
    | with_reducible apply setF_in
    | (rw [hits_cons]; simp only [hits_nil, hits_cons, Area.has, Reg.GNSS_STATUS_POS_MODE, Reg.GNSS_SURVEY_LEFT]; omega) | split | dsimp only

theorem startSurvey_within (s0 : State) :
    Within [.regs, .gnss] [.gnss] s0 (startSurvey s0) := by
  unfold startSurvey
  try dsimp only
  repeat' first
    | decide | with_reducible apply Within.refl | with_reducible apply Within.ite | with_reducible apply Within.after (setPosition_within _ _ _ _)
    | with_reducible apply Within.after (updGnss_within _ _) | with_reducible apply setF_in
    | (rw [hits_cons]; simp only [hits_nil, hits_cons, Area.has, Reg.GNSS_SURVEY_LEFT, Reg.GNSS_STATUS_POS_MODE]; omega) | split | dsimp only

theorem execSurveyDone_within (x y z : Int) (s : State) :
    Within [.regs, .mode, .clk, .tim, .sel, .ports, .gauges, .gnss, .cal, .out, .freeCtr] [.clk, .dll, .time, .ref, .slot, .port, .gnss, .eng, .cal] s (outcomeOr s (execSurveyDone x y z s)) := by
  unfold execSurveyDone
  try dsimp only
  repeat' first
    | decide | with_reducible apply Within.refl | with_reducible apply Within.ite | with_reducible apply Within.after (holdPosition_within _ _ _ _)
    | rw [outcomeOr_ok] | rw [outcomeOr_fault] | with_reducible apply raise_in
    | (rw [hits_cons]; simp only [hits_nil, hits_cons, Area.has, Reg.GNSS_EVENTS_SURVEY_DONE]; omega) | split | dsimp only

theorem runToRaw_within (s : State) :
    Within [.regs, .clk, .tim, .sel, .coarse, .now, .out, .tod] [.gauge, .perf] s (runToRaw s) := by
  unfold runToRaw
  try dsimp only
  repeat' first
    | decide | with_reducible apply Within.refl | with_reducible apply Within.ite | with_reducible apply Within.after (runToGrid_within _ _)
    | with_reducible apply Within.after (advance_within _ _) | split | dsimp only

theorem execRawEpoch_within (recs : List RawChan) (s0 : State) :
    Within [.regs, .clk, .tim, .sel, .coarse, .gnss, .now, .out, .tod] [.gauge, .gnss, .perf] s0 (outcomeOr s0 (execRawEpoch recs s0)) := by
  unfold execRawEpoch
  try dsimp only
  repeat' first
    | decide | with_reducible apply Within.refl | with_reducible apply Within.ite | with_reducible apply Within.after (updGnss_within _ _)
    | with_reducible apply Within.after (runToRaw_within _) | rw [outcomeOr_ok] | rw [outcomeOr_fault] | with_reducible apply incF_in
    | with_reducible apply raise_in | (rw [hits_cons]; simp only [hits_nil, hits_cons, Area.has, Reg.GNSS_RAW_DROP, Reg.GNSS_EVENTS_RAW_DROP]; omega)
    | split | dsimp only

theorem gnssStop_within (s : State) :
    Within [.regs, .mode, .clk, .tim, .sel, .ports, .gauges, .gnss, .cal, .out, .freeCtr] [.clk, .dll, .time, .ref, .slot, .port, .gnss, .chan, .eng, .cal] s (gnssStop s) := by
  unfold gnssStop
  try dsimp only
  repeat' first
    | decide | with_reducible apply Within.refl | with_reducible apply Within.ite | with_reducible apply Within.after (startSurvey_within _)
    | with_reducible apply Within.after (solutionLost_within _) | with_reducible apply Within.after (idleChan_within _ _)
    | with_reducible apply Within.after (releaseNotch_within _ _) | with_reducible apply setF_in
    | (rw [hits_cons]; simp only [hits_nil, hits_cons, Area.has, Reg.GNSS_STATUS_RUNNING, Reg.GNSS_STATUS_SV_USED]; omega) | split
    | (with_reducible apply Within.fold (l := [.regs, .mode, .clk, .tim, .sel, .ports, .gauges, .gnss, .cal, .out, .freeCtr]) (g := [.clk, .dll, .time, .ref, .slot, .port, .gnss, .chan, .eng, .cal]); intro _ _)
    | dsimp only

theorem gnssStart_within (s : State) (keep : Bool) :
    Within [.regs, .mode, .clk, .tim, .sel, .ports, .gauges, .gnss, .cal, .out, .freeCtr] [.clk, .dll, .time, .ref, .slot, .port, .gnss, .chan, .eng, .cal] s (gnssStart s keep) := by
  unfold gnssStart
  try dsimp only
  repeat' first
    | decide | with_reducible apply Within.refl | with_reducible apply Within.ite | with_reducible apply Within.after (startSurvey_within _)
    | with_reducible apply Within.after (updGnss_within _ _) | with_reducible apply Within.after (gnssStop_within _) | with_reducible apply setF_in
    | (rw [hits_cons]; simp only [hits_nil, hits_cons, Area.has, Reg.GNSS_STATUS_RUNNING]; omega) | split | dsimp only

theorem gnssOff_within (s : State) :
    Within [.regs, .mode, .clk, .tim, .sel, .ports, .gauges, .gnss, .cal, .out, .freeCtr] [.clk, .dll, .time, .ref, .slot, .port, .gnss, .chan, .eng, .cal] s (gnssOff s) := by
  unfold gnssOff
  try dsimp only
  repeat' first
    | decide | with_reducible apply Within.refl | with_reducible apply Within.ite | with_reducible apply Within.after (gnssStop_within _) | split
    | with_reducible apply Within.set | (intro p hp; cases p <;> first | exact absurd (by decide) hp | rfl) | dsimp only

theorem gnssWake_within (s : State) :
    Within [.regs, .mode, .clk, .tim, .sel, .ports, .gauges, .gnss, .cal, .out, .freeCtr] [.clk, .dll, .time, .ref, .slot, .port, .gnss, .chan, .eng, .cal] s (gnssWake s) := by
  unfold gnssWake
  try dsimp only
  repeat' first
    | decide | with_reducible apply Within.refl | with_reducible apply Within.ite | with_reducible apply Within.after (startSurvey_within _)
    | with_reducible apply Within.after (gnssStart_within _ _) | with_reducible apply Within.after (updGnss_within _ _) | split | dsimp only

theorem gnssSurvey_within (s : State) :
    Within [.regs, .mode, .clk, .tim, .sel, .ports, .gauges, .gnss, .cal, .out, .freeCtr] [.clk, .dll, .time, .ref, .slot, .port, .gnss, .eng, .cal] s (gnssSurvey s) := by
  unfold gnssSurvey
  try dsimp only
  repeat' first
    | decide | with_reducible apply Within.refl | with_reducible apply Within.ite | with_reducible apply Within.after (restartSource_within _ _ _)
    | with_reducible apply Within.after (updGnss_within _ _) | with_reducible apply Within.after (startSurvey_within _) | split | dsimp only

theorem execPeriodBoundary_within (n : Nat) (s : State) :
    Within [.regs, .clk, .tim, .sel, .coarse, .cal, .now, .out, .tod] [.dll, .time, .gauge, .perf] s (outcomeOr s (execPeriodBoundary n s)) := by
  unfold execPeriodBoundary
  try dsimp only
  repeat' first
    | decide | with_reducible apply Within.refl | with_reducible apply Within.ite | with_reducible apply Within.after (fwdEdge_within _ _)
    | with_reducible apply Within.after (advance_within _ _) | with_reducible apply Within.after (openPeriod_within _ _)
    | with_reducible apply Within.after (outBoundary_within _ _) | rw [outcomeOr_ok] | rw [outcomeOr_fault] | split | dsimp only

theorem afterAccept_within (s : State) (r : CalReq) :
    Within [.regs, .ports, .cal] [.port, .cal] s (afterAccept s r) := by
  unfold afterAccept
  try dsimp only
  repeat' first
    | decide | with_reducible apply Within.refl | with_reducible apply Within.ite | with_reducible apply Within.after (takeClass_within _ _)
    | with_reducible apply Within.after (updPort_within _ _ _) | split | with_reducible apply Within.set
    | (intro p hp; cases p <;> first | exact absurd (by decide) hp | rfl) | dsimp only

theorem execCalMeasurementDone_within (r1 r2 : CalResult) (s : State) :
    Within [.regs, .mode, .clk, .tim, .sel, .ports, .cal, .out] [.ref, .port, .eng, .cal] s (outcomeOr s (execCalMeasurementDone r1 r2 s)) := by
  unfold execCalMeasurementDone
  try dsimp only
  repeat' first
    | decide | with_reducible apply Within.refl | with_reducible apply Within.ite | with_reducible apply Within.after (acceptItem_within _ _ _)
    | with_reducible apply Within.after (afterAccept_within _ _) | with_reducible apply Within.after (headDone_within _)
    | with_reducible apply Within.after (headFail_within _) | rw [outcomeOr_ok] | rw [outcomeOr_fault] | with_reducible apply raise_in
    | (rw [hits_cons]; simp only [hits_nil, hits_cons, Area.has, Reg.CAL_EVENTS_ITEM_DONE, Reg.CAL_EVENTS_CAL_DISAGREE]; omega) | split | dsimp only

theorem calPowerDown_within (s : State) (d : Domain) :
    Within [.regs, .mode, .clk, .tim, .sel, .ports, .cal, .out] [.ref, .port, .eng, .cal] s (calPowerDown s d) := by
  unfold calPowerDown
  try dsimp only
  repeat' first
    | decide | with_reducible apply Within.refl | with_reducible apply Within.ite | with_reducible apply Within.after (startHead_within _)
    | with_reducible apply Within.after (endCal_within _) | with_reducible apply raise_in
    | (rw [hits_cons]; simp only [hits_nil, hits_cons, Area.has, Reg.CAL_EVENTS_ABANDONED]; omega) | split | with_reducible apply Within.set
    | (intro p hp; cases p <;> first | exact absurd (by decide) hp | rfl) | dsimp only

theorem cmdCalRun_within (s : State) (ws : List Word) :
    Within [.regs, .mode, .calEntry, .clk, .tim, .sel, .ports, .cal, .out] [.ref, .port, .eng] s (cmdCalRun s ws).1 := by
  unfold cmdCalRun
  try dsimp only
  repeat' first
    | decide | with_reducible apply Within.refl | with_reducible apply Within.ite | with_reducible apply Within.after (startHead_within _)
    | with_reducible apply Within.after (done_within _) | with_reducible apply Within.afterFst (done_within _) (by assumption)
    | with_reducible apply Within.after (enterMode_within _ _) | with_reducible apply Within.after (deny_within _ _)
    | with_reducible apply Within.afterFst (deny_within _ _) (by assumption) | split | with_reducible apply Within.set
    | (intro p hp; cases p <;> first | exact absurd (by decide) hp | rfl) | dsimp only

theorem adoptRecord_within (s : State) (l : List Word) (atOnce : Bool) :
    Within [.regs, .ports, .cal] [.port, .cal] s (adoptRecord s l atOnce) := by
  unfold adoptRecord
  try dsimp only
  repeat' first
    | decide | with_reducible apply Within.refl | with_reducible apply Within.ite | with_reducible apply Within.after (evalMismatch_within _) | split
    | (with_reducible apply Within.fold (l := [.regs, .ports, .cal]) (g := [.port, .cal]); intro _ _) | with_reducible apply Within.set
    | (intro p hp; cases p <;> first | exact absurd (by decide) hp | rfl) | dsimp only

theorem voteCal_within (s : State) :
    Within [.regs, .flash, .ports, .cal, .out] [.port, .cal] s (voteCal s) := by
  unfold voteCal
  try dsimp only
  repeat' first
    | decide | with_reducible apply Within.refl | with_reducible apply Within.ite | with_reducible apply Within.after (adoptRecord_within _ _ _)
    | with_reducible apply Within.after (setCopy_within _ _ _) | with_reducible apply Within.after (updCal_within _ _)
    | with_reducible apply Within.after (evalMismatch_within _) | with_reducible apply setF_in | with_reducible apply raiseIf_in
    | (rw [hits_cons]; simp only [hits_nil, hits_cons, Area.has, Reg.CAL_EVENTS_COPY_REPAIRED, Reg.CAL_STATUS_CAL_REQUIRED, Reg.CAL_STATUS_COPY_VALID, Reg.CAL_STATUS_COPY_USED]; omega)
    | split | (with_reducible apply Within.fold (l := [.regs, .flash, .ports, .cal, .out]) (g := [.port, .cal]); intro _ _) | dsimp only

theorem cmdCalAccept_within (s : State) (p : Packet) :
    Within [.regs, .ports, .cal] [.port, .cal] s (cmdCalAccept s p).1 := by
  unfold cmdCalAccept
  try dsimp only
  repeat' first
    | decide | with_reducible apply Within.refl | with_reducible apply Within.ite | with_reducible apply Within.after (updCal_within _ _)
    | with_reducible apply Within.after (adoptRecord_within _ _ _) | with_reducible apply Within.after (deny_within _ _)
    | with_reducible apply Within.afterFst (deny_within _ _) (by assumption) | with_reducible apply setF_in
    | (rw [hits_cons]; simp only [hits_nil, hits_cons, Area.has, Reg.CAL_STATUS_COPY_USED, Reg.CAL_STATUS_CAL_REQUIRED]; omega) | split | dsimp only

theorem cmdCalLoad_within (s : State) (ws : List Word) :
    Within [.cal] [] s (cmdCalLoad s ws).1 := by
  unfold cmdCalLoad
  try dsimp only
  repeat' first
    | decide | with_reducible apply Within.refl | with_reducible apply Within.ite | with_reducible apply Within.after (done_within _)
    | with_reducible apply Within.afterFst (done_within _) (by assumption) | with_reducible apply Within.after (deny_within _ _)
    | with_reducible apply Within.afterFst (deny_within _ _) (by assumption) | split | with_reducible apply Within.set
    | (intro p hp; cases p <;> first | exact absurd (by decide) hp | rfl) | dsimp only

theorem cmdCalCommit_within (s : State) (p : Packet) :
    Within [.cal] [] s (cmdCalCommit s p).1 := by
  unfold cmdCalCommit
  try dsimp only
  repeat' first
    | decide | with_reducible apply Within.refl | with_reducible apply Within.ite | with_reducible apply Within.after (deny_within _ _)
    | with_reducible apply Within.afterFst (deny_within _ _) (by assumption) | split | with_reducible apply Within.set
    | (intro p hp; cases p <;> first | exact absurd (by decide) hp | rfl) | dsimp only

theorem cmdCalRead_within (s : State) (ws : List Word) :
    Within [] [] s (cmdCalRead s ws).1 := by
  unfold cmdCalRead
  try dsimp only
  repeat' first
    | decide | with_reducible apply Within.refl | with_reducible apply Within.ite | with_reducible apply Within.after (answer_within _ _)
    | with_reducible apply Within.afterFst (answer_within _ _) (by assumption) | with_reducible apply Within.after (deny_within _ _)
    | with_reducible apply Within.afterFst (deny_within _ _) (by assumption) | split | dsimp only

theorem execCalStoreDone_within (failed : Option Nat) (s : State) :
    Within [.regs, .flash, .ports, .jieth, .cal, .cmd, .aud, .out, .freeCtr] [.port, .perf, .cal, .aud, .cmd] s (outcomeOr s (execCalStoreDone failed s)) := by
  unfold execCalStoreDone
  try dsimp only
  repeat' first
    | decide | with_reducible apply Within.refl | with_reducible apply Within.ite | with_reducible apply Within.after (evalMismatch_within _)
    | with_reducible apply Within.after (adoptRecord_within _ _ _) | with_reducible apply Within.after (finishId_within _ _ _ _)
    | with_reducible apply Within.after (setCopy_within _ _ _) | rw [outcomeOr_ok] | rw [outcomeOr_fault] | with_reducible apply setF_in
    | with_reducible apply raise_in
    | (rw [hits_cons]; simp only [hits_nil, hits_cons, Area.has, Reg.CAL_STATUS_CAL_REQUIRED, Reg.CAL_EVENTS_STORE_DONE]; omega)
    | with_reducible apply Within.after (draw_within _) | split
    | (with_reducible apply Within.fold (l := [.regs, .flash, .ports, .jieth, .cal, .cmd, .aud, .out, .freeCtr]) (g := [.port, .perf, .cal, .aud, .cmd]); intro _ _)
    | with_reducible apply Within.set | (intro p hp; cases p <;> first | exact absurd (by decide) hp | rfl) | dsimp only

theorem loadSecond_within (s : State) :
    Within [.fab] [] s (loadSecond s) := by
  unfold loadSecond
  try dsimp only
  repeat' first
    | decide | with_reducible apply Within.refl | with_reducible apply Within.ite | split | with_reducible apply Within.set
    | (intro p hp; cases p <;> first | exact absurd (by decide) hp | rfl) | dsimp only

theorem takeDieTemp_within (s : State) (t : Option Int) :
    Within [.regs] [.cal] s (takeDieTemp s t) := by
  unfold takeDieTemp
  try dsimp only
  repeat' first
    | decide | with_reducible apply Within.refl | with_reducible apply Within.ite | with_reducible apply setF_in
    | (rw [hits_cons]; simp only [hits_nil, hits_cons, Area.has, Reg.CAL_DIE_TEMP]; omega) | split | dsimp only

theorem execLoadClassEval_within (dieTemp : Option Int) (s0 : State) :
    Within [.regs, .ports, .fab] [.port, .cal] s0 (outcomeOr s0 (execLoadClassEval dieTemp s0)) := by
  unfold execLoadClassEval
  try dsimp only
  repeat' first
    | decide | with_reducible apply Within.refl | with_reducible apply Within.ite | with_reducible apply Within.after (evalMismatch_within _)
    | with_reducible apply Within.after (autoRecal_within _) | with_reducible apply Within.after (loadSecond_within _) | with_reducible apply Within.after (takeDieTemp_within _ _) | rw [outcomeOr_ok]
    | rw [outcomeOr_fault] | with_reducible apply setF_in
    | (rw [hits_cons]; simp only [hits_nil, hits_cons, Area.has, Reg.CAL_LOAD_PERMILLE, Reg.CAL_STATUS_PRESENT_CLASS]; omega) | split | dsimp only

theorem setW_within (s : State) (e : Nat) (r : BitVec 4) (x : EWord) :
    Within [.engs] [] s (setW s e r x) := by
  unfold setW
  try dsimp only
  repeat' first
    | decide | with_reducible apply Within.refl | with_reducible apply Within.ite | with_reducible apply Within.after (updEng_within _ _ _) | split
    | dsimp only

theorem setA_within (s : State) (e : Nat) (r : BitVec 4) (x : Acc) :
    Within [.engs] [] s (setA s e r x) := by
  unfold setA
  try dsimp only
  repeat' first
    | decide | with_reducible apply Within.refl | with_reducible apply Within.ite | with_reducible apply Within.after (updEng_within _ _ _) | split
    | dsimp only

theorem setFlags_within (s : State) (e : Nat) (f : UFlags) :
    Within [.engs] [] s (setFlags s e f) := by
  unfold setFlags
  try dsimp only
  repeat' first
    | decide | with_reducible apply Within.refl | with_reducible apply Within.ite | with_reducible apply Within.after (updEng_within _ _ _) | split
    | dsimp only

theorem tagAdvance_within (s : State) :
    Within [.engs] [] s (tagAdvance s) := by
  unfold tagAdvance
  try dsimp only
  repeat' first
    | decide | with_reducible apply Within.refl | with_reducible apply Within.ite | split | with_reducible apply Within.set
    | (intro p hp; cases p <;> first | exact absurd (by decide) hp | rfl) | dsimp only

theorem samplePush_within (s : State) (kind e : Nat) (pc : BitVec 12) (w : EWord) (w3 : Word) :
    Within [.regs, .engs] [.perf] s (samplePush s kind e pc w w3) := by
  unfold samplePush
  try dsimp only
  repeat' first
    | decide | with_reducible apply Within.refl | with_reducible apply Within.ite | with_reducible apply incF_in
    | (rw [hits_cons]; simp only [hits_nil, hits_cons, Area.has, Reg.PERF_SAMPLE_LOST]; omega) | split | with_reducible apply Within.set
    | (intro p hp; cases p <;> first | exact absurd (by decide) hp | rfl) | dsimp only

theorem sampleTake_within (s : State) (e : Nat) (pc : BitVec 12) (i : UInstr) (lat : Nat) :
    Within [.regs, .engs, .freeCtr] [.perf] s (sampleTake s e pc i lat) := by
  unfold sampleTake
  try dsimp only
  repeat' first
    | decide | with_reducible apply Within.refl | with_reducible apply Within.ite | with_reducible apply Within.after (tagAdvance_within _)
    | with_reducible apply Within.after (samplePush_within _ _ _ _ _ _) | with_reducible apply Within.after (draw_within _) | split
    | with_reducible apply Within.set | (intro p hp; cases p <;> first | exact absurd (by decide) hp | rfl) | dsimp only

theorem sampleRestart_within (s : State) :
    Within [.engs] [] s (sampleRestart s) := by
  unfold sampleRestart
  try dsimp only
  repeat' first
    | decide | with_reducible apply Within.refl | with_reducible apply Within.ite | split | with_reducible apply Within.set
    | (intro p hp; cases p <;> first | exact absurd (by decide) hp | rfl) | dsimp only

theorem sampleReset_within (s : State) :
    Within [.engs] [] s (sampleReset s) := by
  unfold sampleReset
  try dsimp only
  repeat' first
    | decide | with_reducible apply Within.refl | with_reducible apply Within.ite | split | with_reducible apply Within.set
    | (intro p hp; cases p <;> first | exact absurd (by decide) hp | rfl) | dsimp only

theorem engHalt_within (s : State) (e cause : Nat) :
    Within [.regs, .clk, .tim, .engs, .out] [.clk, .eng, .ue] s (engHalt s e cause) := by
  unfold engHalt
  try dsimp only
  repeat' first
    | decide | with_reducible apply Within.refl | with_reducible apply Within.ite | with_reducible apply Within.after (clearTrims_within _)
    | with_reducible apply setF_in | with_reducible apply raiseIf_in
    | (rw [hits_cons]; simp only [hits_nil, hits_cons, Area.has, Reg.ENG_EVENTS_USER_FAULT, Reg.UE_ENG_STATUS_CAUSE, Reg.UE_ENG_STATUS_HALTED, Reg.UE_ENG_STATUS_RUNNING]; omega)
    | with_reducible apply Within.after (updEng_within _ _ _) | split | dsimp only

theorem retire_within (s : State) (e : Nat) (i : UInstr) (lat : Nat) (nxt : BitVec 12) :
    Within [.regs, .engs, .out, .freeCtr] [.ue, .perf] s (retire s e i lat nxt) := by
  unfold retire
  try dsimp only
  repeat' first
    | decide | with_reducible apply Within.refl | with_reducible apply Within.ite | with_reducible apply Within.after (perf_within _ _ _ _ _ _)
    | with_reducible apply Within.after (sampleTake_within _ _ _ _ _) | with_reducible apply setF_in
    | (rw [hits_cons]; simp only [hits_nil, hits_cons, Area.has, Reg.UE_ENG_STATUS_PC]; omega)
    | with_reducible apply Within.after (updEng_within _ _ _) | split | dsimp only

/-- What an instruction of an engine may touch before it retires. -/
def WithinAct (l : List StatePart) (g : List Area) (s : State) : Act → Prop
  | .next t => Within l g s t
  | .jump t _ => Within l g s t
  | .halt => True
  | .fault _ => True
  | .stall t => Within l g s t
  | .slow t _ => Within l g s t

theorem WithinAct.next {l : List StatePart} {g : List Area} {s t : State} (h : Within l g s t) : WithinAct l g s (.next t) := h

theorem WithinAct.jump {l : List StatePart} {g : List Area} {s t : State} {p : BitVec 12} (h : Within l g s t) : WithinAct l g s (.jump t p) := h

theorem WithinAct.stall {l : List StatePart} {g : List Area} {s t : State} (h : Within l g s t) : WithinAct l g s (.stall t) := h

theorem WithinAct.slow {l : List StatePart} {g : List Area} {s t : State} {k : Nat} (h : Within l g s t) : WithinAct l g s (.slow t k) := h

theorem WithinAct.mono {l l' : List StatePart} {g g' : List Area} {s : State} {a : Act} (h : WithinAct l' g' s a) (hl : l' ⊆ l) (hg : g' ⊆ g) :
    WithinAct l g s a := by
  cases a <;> first | exact trivial | exact Within.mono h hl hg

theorem engStep_within {l : List StatePart} {g : List Area} {e : Nat} {i : UInstr} {act : State → Act} {s : State} (h : WithinAct l g s (act s))
    (hl : [.regs, .clk, .tim, .engs, .out, .freeCtr] ⊆ l) (hg : [.clk, .eng, .ue, .perf] ⊆ g) : Within l g s (outcomeOr s (engStep e i act s)) := by
  unfold engStep
  dsimp only
  split
  · exact .refl
  split
  · exact .refl
  split
  · exact (engHalt_within _ _ _).after .refl (List.Subset.trans (by decide) hl) (List.Subset.trans (by decide) hg)
  generalize act s = a at *
  cases a with
  | next t => exact (retire_within _ _ _ _ _).after h (List.Subset.trans (by decide) hl) (List.Subset.trans (by decide) hg)
  | jump t p => exact (retire_within _ _ _ _ _).after h (List.Subset.trans (by decide) hl) (List.Subset.trans (by decide) hg)
  | halt =>
    exact (engHalt_within _ _ _).after ((retire_within _ _ _ _ _).mono (List.Subset.trans (by decide) hl) (List.Subset.trans (by decide) hg))
      (List.Subset.trans (by decide) hl) (List.Subset.trans (by decide) hg)
  | fault c => exact (engHalt_within _ _ _).after .refl (List.Subset.trans (by decide) hl) (List.Subset.trans (by decide) hg)
  | stall t => exact h
  | slow t k => exact (retire_within _ _ _ _ _).after h (List.Subset.trans (by decide) hl) (List.Subset.trans (by decide) hg)

theorem alu_within (e : Nat) (d a b : BitVec 4) (op : UFlags → EWord → EWord → EWord × UFlags) (s : State) :
    WithinAct [.engs] [] s (alu e d a b op s) := by
  unfold alu
  try dsimp only
  repeat' first
    | decide | with_reducible apply Within.refl | with_reducible apply Within.ite | with_reducible apply Within.after (setW_within _ _ _ _)
    | with_reducible apply Within.after (setFlags_within _ _ _) | with_reducible apply WithinAct.next | with_reducible apply WithinAct.jump
    | with_reducible apply WithinAct.stall | with_reducible apply WithinAct.slow | exact trivial | split | dsimp only

theorem execEngineNop_within (e : Nat) (s : State) :
    Within [.regs, .clk, .tim, .engs, .out, .freeCtr] [.clk, .eng, .ue, .perf] s (outcomeOr s (execEngineNop e s)) := by
  unfold execEngineNop
  try dsimp only
  repeat' first
    | decide | with_reducible apply Within.refl | with_reducible apply Within.ite | with_reducible apply engStep_within | rw [outcomeOr_ok]
    | rw [outcomeOr_fault] | with_reducible apply WithinAct.next | with_reducible apply WithinAct.jump | with_reducible apply WithinAct.stall
    | with_reducible apply WithinAct.slow | exact trivial | split | dsimp only

theorem execUeAdd_within (e : Nat) (d a b : BitVec 4) (s : State) :
    Within [.regs, .clk, .tim, .engs, .out, .freeCtr] [.clk, .eng, .ue, .perf] s (outcomeOr s (execUeAdd e d a b s)) := by
  unfold execUeAdd
  try dsimp only
  repeat' first
    | decide | with_reducible apply Within.refl | with_reducible apply Within.ite | (with_reducible apply WithinAct.mono (alu_within _ _ _ _ _ _))
    | with_reducible apply engStep_within | rw [outcomeOr_ok] | rw [outcomeOr_fault] | with_reducible apply WithinAct.next
    | with_reducible apply WithinAct.jump | with_reducible apply WithinAct.stall | with_reducible apply WithinAct.slow | exact trivial | split
    | dsimp only

theorem execUeSub_within (e : Nat) (d a b : BitVec 4) (s : State) :
    Within [.regs, .clk, .tim, .engs, .out, .freeCtr] [.clk, .eng, .ue, .perf] s (outcomeOr s (execUeSub e d a b s)) := by
  unfold execUeSub
  try dsimp only
  repeat' first
    | decide | with_reducible apply Within.refl | with_reducible apply Within.ite | (with_reducible apply WithinAct.mono (alu_within _ _ _ _ _ _))
    | with_reducible apply engStep_within | rw [outcomeOr_ok] | rw [outcomeOr_fault] | with_reducible apply WithinAct.next
    | with_reducible apply WithinAct.jump | with_reducible apply WithinAct.stall | with_reducible apply WithinAct.slow | exact trivial | split
    | dsimp only

theorem execUeAdds_within (e : Nat) (d a b : BitVec 4) (s : State) :
    Within [.regs, .clk, .tim, .engs, .out, .freeCtr] [.clk, .eng, .ue, .perf] s (outcomeOr s (execUeAdds e d a b s)) := by
  unfold execUeAdds
  try dsimp only
  repeat' first
    | decide | with_reducible apply Within.refl | with_reducible apply Within.ite | (with_reducible apply WithinAct.mono (alu_within _ _ _ _ _ _))
    | with_reducible apply engStep_within | rw [outcomeOr_ok] | rw [outcomeOr_fault] | with_reducible apply WithinAct.next
    | with_reducible apply WithinAct.jump | with_reducible apply WithinAct.stall | with_reducible apply WithinAct.slow | exact trivial | split
    | dsimp only

theorem execUeSubs_within (e : Nat) (d a b : BitVec 4) (s : State) :
    Within [.regs, .clk, .tim, .engs, .out, .freeCtr] [.clk, .eng, .ue, .perf] s (outcomeOr s (execUeSubs e d a b s)) := by
  unfold execUeSubs
  try dsimp only
  repeat' first
    | decide | with_reducible apply Within.refl | with_reducible apply Within.ite | (with_reducible apply WithinAct.mono (alu_within _ _ _ _ _ _))
    | with_reducible apply engStep_within | rw [outcomeOr_ok] | rw [outcomeOr_fault] | with_reducible apply WithinAct.next
    | with_reducible apply WithinAct.jump | with_reducible apply WithinAct.stall | with_reducible apply WithinAct.slow | exact trivial | split
    | dsimp only

theorem execUeAnd_within (e : Nat) (d a b : BitVec 4) (s : State) :
    Within [.regs, .clk, .tim, .engs, .out, .freeCtr] [.clk, .eng, .ue, .perf] s (outcomeOr s (execUeAnd e d a b s)) := by
  unfold execUeAnd
  try dsimp only
  repeat' first
    | decide | with_reducible apply Within.refl | with_reducible apply Within.ite | (with_reducible apply WithinAct.mono (alu_within _ _ _ _ _ _))
    | with_reducible apply engStep_within | rw [outcomeOr_ok] | rw [outcomeOr_fault] | with_reducible apply WithinAct.next
    | with_reducible apply WithinAct.jump | with_reducible apply WithinAct.stall | with_reducible apply WithinAct.slow | exact trivial | split
    | dsimp only

theorem execUeOr_within (e : Nat) (d a b : BitVec 4) (s : State) :
    Within [.regs, .clk, .tim, .engs, .out, .freeCtr] [.clk, .eng, .ue, .perf] s (outcomeOr s (execUeOr e d a b s)) := by
  unfold execUeOr
  try dsimp only
  repeat' first
    | decide | with_reducible apply Within.refl | with_reducible apply Within.ite | (with_reducible apply WithinAct.mono (alu_within _ _ _ _ _ _))
    | with_reducible apply engStep_within | rw [outcomeOr_ok] | rw [outcomeOr_fault] | with_reducible apply WithinAct.next
    | with_reducible apply WithinAct.jump | with_reducible apply WithinAct.stall | with_reducible apply WithinAct.slow | exact trivial | split
    | dsimp only

theorem execUeXor_within (e : Nat) (d a b : BitVec 4) (s : State) :
    Within [.regs, .clk, .tim, .engs, .out, .freeCtr] [.clk, .eng, .ue, .perf] s (outcomeOr s (execUeXor e d a b s)) := by
  unfold execUeXor
  try dsimp only
  repeat' first
    | decide | with_reducible apply Within.refl | with_reducible apply Within.ite | (with_reducible apply WithinAct.mono (alu_within _ _ _ _ _ _))
    | with_reducible apply engStep_within | rw [outcomeOr_ok] | rw [outcomeOr_fault] | with_reducible apply WithinAct.next
    | with_reducible apply WithinAct.jump | with_reducible apply WithinAct.stall | with_reducible apply WithinAct.slow | exact trivial | split
    | dsimp only

theorem execUeShl_within (e : Nat) (d a b : BitVec 4) (s : State) :
    Within [.regs, .clk, .tim, .engs, .out, .freeCtr] [.clk, .eng, .ue, .perf] s (outcomeOr s (execUeShl e d a b s)) := by
  unfold execUeShl
  try dsimp only
  repeat' first
    | decide | with_reducible apply Within.refl | with_reducible apply Within.ite | (with_reducible apply WithinAct.mono (alu_within _ _ _ _ _ _))
    | with_reducible apply engStep_within | rw [outcomeOr_ok] | rw [outcomeOr_fault] | with_reducible apply WithinAct.next
    | with_reducible apply WithinAct.jump | with_reducible apply WithinAct.stall | with_reducible apply WithinAct.slow | exact trivial | split
    | dsimp only

theorem execUeShr_within (e : Nat) (d a b : BitVec 4) (s : State) :
    Within [.regs, .clk, .tim, .engs, .out, .freeCtr] [.clk, .eng, .ue, .perf] s (outcomeOr s (execUeShr e d a b s)) := by
  unfold execUeShr
  try dsimp only
  repeat' first
    | decide | with_reducible apply Within.refl | with_reducible apply Within.ite | (with_reducible apply WithinAct.mono (alu_within _ _ _ _ _ _))
    | with_reducible apply engStep_within | rw [outcomeOr_ok] | rw [outcomeOr_fault] | with_reducible apply WithinAct.next
    | with_reducible apply WithinAct.jump | with_reducible apply WithinAct.stall | with_reducible apply WithinAct.slow | exact trivial | split
    | dsimp only

theorem execUeSar_within (e : Nat) (d a b : BitVec 4) (s : State) :
    Within [.regs, .clk, .tim, .engs, .out, .freeCtr] [.clk, .eng, .ue, .perf] s (outcomeOr s (execUeSar e d a b s)) := by
  unfold execUeSar
  try dsimp only
  repeat' first
    | decide | with_reducible apply Within.refl | with_reducible apply Within.ite | (with_reducible apply WithinAct.mono (alu_within _ _ _ _ _ _))
    | with_reducible apply engStep_within | rw [outcomeOr_ok] | rw [outcomeOr_fault] | with_reducible apply WithinAct.next
    | with_reducible apply WithinAct.jump | with_reducible apply WithinAct.stall | with_reducible apply WithinAct.slow | exact trivial | split
    | dsimp only

theorem execUeCmp_within (e : Nat) (d a b : BitVec 4) (s : State) :
    Within [.regs, .clk, .tim, .engs, .out, .freeCtr] [.clk, .eng, .ue, .perf] s (outcomeOr s (execUeCmp e d a b s)) := by
  unfold execUeCmp
  try dsimp only
  repeat' first
    | decide | with_reducible apply Within.refl | with_reducible apply Within.ite | with_reducible apply Within.after (setFlags_within _ _ _)
    | with_reducible apply engStep_within | rw [outcomeOr_ok] | rw [outcomeOr_fault] | with_reducible apply WithinAct.next
    | with_reducible apply WithinAct.jump | with_reducible apply WithinAct.stall | with_reducible apply WithinAct.slow | exact trivial | split
    | dsimp only

theorem accumulate_within (e : Nat) (d : BitVec 4) (x : State → Int) (s : State) :
    WithinAct [.engs] [] s (accumulate e d x s) := by
  unfold accumulate
  try dsimp only
  repeat' first
    | decide | with_reducible apply Within.refl | with_reducible apply Within.ite | with_reducible apply Within.after (setA_within _ _ _ _)
    | with_reducible apply Within.after (setFlags_within _ _ _) | with_reducible apply WithinAct.next | with_reducible apply WithinAct.jump
    | with_reducible apply WithinAct.stall | with_reducible apply WithinAct.slow | exact trivial | split | dsimp only

theorem execUeMul_within (e : Nat) (d a b : BitVec 4) (s : State) :
    Within [.regs, .clk, .tim, .engs, .out, .freeCtr] [.clk, .eng, .ue, .perf] s (outcomeOr s (execUeMul e d a b s)) := by
  unfold execUeMul
  try dsimp only
  repeat' first
    | decide | with_reducible apply Within.refl | with_reducible apply Within.ite | with_reducible apply Within.after (setA_within _ _ _ _)
    | with_reducible apply engStep_within | rw [outcomeOr_ok] | rw [outcomeOr_fault] | with_reducible apply WithinAct.next
    | with_reducible apply WithinAct.jump | with_reducible apply WithinAct.stall | with_reducible apply WithinAct.slow | exact trivial | split
    | dsimp only

theorem execUeMac_within (e : Nat) (d a b : BitVec 4) (s : State) :
    Within [.regs, .clk, .tim, .engs, .out, .freeCtr] [.clk, .eng, .ue, .perf] s (outcomeOr s (execUeMac e d a b s)) := by
  unfold execUeMac
  try dsimp only
  repeat' first
    | decide | with_reducible apply Within.refl | with_reducible apply Within.ite | (with_reducible apply WithinAct.mono (accumulate_within _ _ _ _))
    | with_reducible apply engStep_within | rw [outcomeOr_ok] | rw [outcomeOr_fault] | with_reducible apply WithinAct.next
    | with_reducible apply WithinAct.jump | with_reducible apply WithinAct.stall | with_reducible apply WithinAct.slow | exact trivial | split
    | dsimp only

theorem execUeMsu_within (e : Nat) (d a b : BitVec 4) (s : State) :
    Within [.regs, .clk, .tim, .engs, .out, .freeCtr] [.clk, .eng, .ue, .perf] s (outcomeOr s (execUeMsu e d a b s)) := by
  unfold execUeMsu
  try dsimp only
  repeat' first
    | decide | with_reducible apply Within.refl | with_reducible apply Within.ite | (with_reducible apply WithinAct.mono (accumulate_within _ _ _ _))
    | with_reducible apply engStep_within | rw [outcomeOr_ok] | rw [outcomeOr_fault] | with_reducible apply WithinAct.next
    | with_reducible apply WithinAct.jump | with_reducible apply WithinAct.stall | with_reducible apply WithinAct.slow | exact trivial | split
    | dsimp only

theorem execUeMulu_within (e : Nat) (d a b : BitVec 4) (s : State) :
    Within [.regs, .clk, .tim, .engs, .out, .freeCtr] [.clk, .eng, .ue, .perf] s (outcomeOr s (execUeMulu e d a b s)) := by
  unfold execUeMulu
  try dsimp only
  repeat' first
    | decide | with_reducible apply Within.refl | with_reducible apply Within.ite | with_reducible apply Within.after (setA_within _ _ _ _)
    | with_reducible apply engStep_within | rw [outcomeOr_ok] | rw [outcomeOr_fault] | with_reducible apply WithinAct.next
    | with_reducible apply WithinAct.jump | with_reducible apply WithinAct.stall | with_reducible apply WithinAct.slow | exact trivial | split
    | dsimp only

theorem execUeMacu_within (e : Nat) (d a b : BitVec 4) (s : State) :
    Within [.regs, .clk, .tim, .engs, .out, .freeCtr] [.clk, .eng, .ue, .perf] s (outcomeOr s (execUeMacu e d a b s)) := by
  unfold execUeMacu
  try dsimp only
  repeat' first
    | decide | with_reducible apply Within.refl | with_reducible apply Within.ite | (with_reducible apply WithinAct.mono (accumulate_within _ _ _ _))
    | with_reducible apply engStep_within | rw [outcomeOr_ok] | rw [outcomeOr_fault] | with_reducible apply WithinAct.next
    | with_reducible apply WithinAct.jump | with_reducible apply WithinAct.stall | with_reducible apply WithinAct.slow | exact trivial | split
    | dsimp only

theorem execUeAccx_within (e : Nat) (d a b : BitVec 4) (s : State) :
    Within [.regs, .clk, .tim, .engs, .out, .freeCtr] [.clk, .eng, .ue, .perf] s (outcomeOr s (execUeAccx e d a b s)) := by
  unfold execUeAccx
  try dsimp only
  repeat' first
    | decide | with_reducible apply Within.refl | with_reducible apply Within.ite | with_reducible apply Within.after (setW_within _ _ _ _)
    | with_reducible apply Within.after (setFlags_within _ _ _) | with_reducible apply engStep_within | rw [outcomeOr_ok] | rw [outcomeOr_fault]
    | with_reducible apply WithinAct.next | with_reducible apply WithinAct.jump | with_reducible apply WithinAct.stall
    | with_reducible apply WithinAct.slow | exact trivial | split | dsimp only

theorem execUeAccl_within (e : Nat) (d a b : BitVec 4) (s : State) :
    Within [.regs, .clk, .tim, .engs, .out, .freeCtr] [.clk, .eng, .ue, .perf] s (outcomeOr s (execUeAccl e d a b s)) := by
  unfold execUeAccl
  try dsimp only
  repeat' first
    | decide | with_reducible apply Within.refl | with_reducible apply Within.ite | with_reducible apply Within.after (setA_within _ _ _ _)
    | with_reducible apply engStep_within | rw [outcomeOr_ok] | rw [outcomeOr_fault] | with_reducible apply WithinAct.next
    | with_reducible apply WithinAct.jump | with_reducible apply WithinAct.stall | with_reducible apply WithinAct.slow | exact trivial | split
    | dsimp only

theorem execUeAsra_within (e : Nat) (d a b : BitVec 4) (s : State) :
    Within [.regs, .clk, .tim, .engs, .out, .freeCtr] [.clk, .eng, .ue, .perf] s (outcomeOr s (execUeAsra e d a b s)) := by
  unfold execUeAsra
  try dsimp only
  repeat' first
    | decide | with_reducible apply Within.refl | with_reducible apply Within.ite | with_reducible apply Within.after (setA_within _ _ _ _)
    | with_reducible apply engStep_within | rw [outcomeOr_ok] | rw [outcomeOr_fault] | with_reducible apply WithinAct.next
    | with_reducible apply WithinAct.jump | with_reducible apply WithinAct.stall | with_reducible apply WithinAct.slow | exact trivial | split
    | dsimp only

theorem execUeAcca_within (e : Nat) (d a b : BitVec 4) (s : State) :
    Within [.regs, .clk, .tim, .engs, .out, .freeCtr] [.clk, .eng, .ue, .perf] s (outcomeOr s (execUeAcca e d a b s)) := by
  unfold execUeAcca
  try dsimp only
  repeat' first
    | decide | with_reducible apply Within.refl | with_reducible apply Within.ite | (with_reducible apply WithinAct.mono (accumulate_within _ _ _ _))
    | with_reducible apply engStep_within | rw [outcomeOr_ok] | rw [outcomeOr_fault] | with_reducible apply WithinAct.next
    | with_reducible apply WithinAct.jump | with_reducible apply WithinAct.stall | with_reducible apply WithinAct.slow | exact trivial | split
    | dsimp only

theorem execUeLd_within (e : Nat) (d a b : BitVec 4) (s : State) :
    Within [.regs, .clk, .tim, .engs, .out, .freeCtr] [.clk, .eng, .ue, .perf] s (outcomeOr s (execUeLd e d a b s)) := by
  unfold execUeLd
  try dsimp only
  repeat' first
    | decide | with_reducible apply Within.refl | with_reducible apply Within.ite | with_reducible apply Within.after (setW_within _ _ _ _)
    | with_reducible apply engStep_within | rw [outcomeOr_ok] | rw [outcomeOr_fault] | with_reducible apply WithinAct.next
    | with_reducible apply WithinAct.jump | with_reducible apply WithinAct.stall | with_reducible apply WithinAct.slow | exact trivial | split
    | dsimp only

theorem execUeSt_within (e : Nat) (d a b : BitVec 4) (s : State) :
    Within [.regs, .clk, .tim, .engs, .out, .freeCtr] [.clk, .eng, .ue, .perf] s (outcomeOr s (execUeSt e d a b s)) := by
  unfold execUeSt
  try dsimp only
  repeat' first
    | decide | with_reducible apply Within.refl | with_reducible apply Within.ite | with_reducible apply engStep_within | rw [outcomeOr_ok]
    | rw [outcomeOr_fault] | with_reducible apply WithinAct.next | with_reducible apply WithinAct.jump | with_reducible apply WithinAct.stall
    | with_reducible apply WithinAct.slow | exact trivial | with_reducible apply Within.after (updEng_within _ _ _) | split | dsimp only

theorem execUeLdi_within (e : Nat) (d : BitVec 4) (imm : BitVec 8) (s : State) :
    Within [.regs, .clk, .tim, .engs, .out, .freeCtr] [.clk, .eng, .ue, .perf] s (outcomeOr s (execUeLdi e d imm s)) := by
  unfold execUeLdi
  try dsimp only
  repeat' first
    | decide | with_reducible apply Within.refl | with_reducible apply Within.ite | with_reducible apply Within.after (setW_within _ _ _ _)
    | with_reducible apply engStep_within | rw [outcomeOr_ok] | rw [outcomeOr_fault] | with_reducible apply WithinAct.next
    | with_reducible apply WithinAct.jump | with_reducible apply WithinAct.stall | with_reducible apply WithinAct.slow | exact trivial | split
    | dsimp only

theorem execUeLim_within (e : Nat) (d : BitVec 4) (imm : BitVec 8) (s : State) :
    Within [.regs, .clk, .tim, .engs, .out, .freeCtr] [.clk, .eng, .ue, .perf] s (outcomeOr s (execUeLim e d imm s)) := by
  unfold execUeLim
  try dsimp only
  repeat' first
    | decide | with_reducible apply Within.refl | with_reducible apply Within.ite | with_reducible apply Within.after (setW_within _ _ _ _)
    | with_reducible apply engStep_within | rw [outcomeOr_ok] | rw [outcomeOr_fault] | with_reducible apply WithinAct.next
    | with_reducible apply WithinAct.jump | with_reducible apply WithinAct.stall | with_reducible apply WithinAct.slow | exact trivial | split
    | dsimp only

theorem execUeLit_within (e : Nat) (d : BitVec 4) (imm : BitVec 8) (s : State) :
    Within [.regs, .clk, .tim, .engs, .out, .freeCtr] [.clk, .eng, .ue, .perf] s (outcomeOr s (execUeLit e d imm s)) := by
  unfold execUeLit
  try dsimp only
  repeat' first
    | decide | with_reducible apply Within.refl | with_reducible apply Within.ite | with_reducible apply Within.after (setW_within _ _ _ _)
    | with_reducible apply engStep_within | rw [outcomeOr_ok] | rw [outcomeOr_fault] | with_reducible apply WithinAct.next
    | with_reducible apply WithinAct.jump | with_reducible apply WithinAct.stall | with_reducible apply WithinAct.slow | exact trivial | split
    | dsimp only

theorem aluI_within (e : Nat) (d : BitVec 4) (op : UFlags → EWord → EWord × UFlags) (s : State) :
    WithinAct [.engs] [] s (aluI e d op s) := by
  unfold aluI
  try dsimp only
  repeat' first
    | decide | with_reducible apply Within.refl | with_reducible apply Within.ite | with_reducible apply Within.after (setW_within _ _ _ _)
    | with_reducible apply Within.after (setFlags_within _ _ _) | with_reducible apply WithinAct.next | with_reducible apply WithinAct.jump
    | with_reducible apply WithinAct.stall | with_reducible apply WithinAct.slow | exact trivial | split | dsimp only

theorem execUeAddi_within (e : Nat) (d : BitVec 4) (imm : BitVec 8) (s : State) :
    Within [.regs, .clk, .tim, .engs, .out, .freeCtr] [.clk, .eng, .ue, .perf] s (outcomeOr s (execUeAddi e d imm s)) := by
  unfold execUeAddi
  try dsimp only
  repeat' first
    | decide | with_reducible apply Within.refl | with_reducible apply Within.ite | (with_reducible apply WithinAct.mono (aluI_within _ _ _ _))
    | with_reducible apply engStep_within | rw [outcomeOr_ok] | rw [outcomeOr_fault] | with_reducible apply WithinAct.next
    | with_reducible apply WithinAct.jump | with_reducible apply WithinAct.stall | with_reducible apply WithinAct.slow | exact trivial | split
    | dsimp only

theorem execUeShli_within (e : Nat) (d : BitVec 4) (imm : BitVec 8) (s : State) :
    Within [.regs, .clk, .tim, .engs, .out, .freeCtr] [.clk, .eng, .ue, .perf] s (outcomeOr s (execUeShli e d imm s)) := by
  unfold execUeShli
  try dsimp only
  repeat' first
    | decide | with_reducible apply Within.refl | with_reducible apply Within.ite | (with_reducible apply WithinAct.mono (aluI_within _ _ _ _))
    | with_reducible apply engStep_within | rw [outcomeOr_ok] | rw [outcomeOr_fault] | with_reducible apply WithinAct.next
    | with_reducible apply WithinAct.jump | with_reducible apply WithinAct.stall | with_reducible apply WithinAct.slow | exact trivial | split
    | dsimp only

theorem execUeSari_within (e : Nat) (d : BitVec 4) (imm : BitVec 8) (s : State) :
    Within [.regs, .clk, .tim, .engs, .out, .freeCtr] [.clk, .eng, .ue, .perf] s (outcomeOr s (execUeSari e d imm s)) := by
  unfold execUeSari
  try dsimp only
  repeat' first
    | decide | with_reducible apply Within.refl | with_reducible apply Within.ite | (with_reducible apply WithinAct.mono (aluI_within _ _ _ _))
    | with_reducible apply engStep_within | rw [outcomeOr_ok] | rw [outcomeOr_fault] | with_reducible apply WithinAct.next
    | with_reducible apply WithinAct.jump | with_reducible apply WithinAct.stall | with_reducible apply WithinAct.slow | exact trivial | split
    | dsimp only

theorem latchObject_within (s : State) (e : Nat) :
    Within [.regs, .engs] [.ue] s (latchObject s e) := by
  unfold latchObject
  try dsimp only
  repeat' first
    | decide | with_reducible apply Within.refl | with_reducible apply Within.ite | with_reducible apply incF_in
    | (rw [hits_cons]; simp only [hits_nil, hits_cons, Area.has, Reg.UE_DENIED_RD]; omega) | with_reducible apply Within.after (updEng_within _ _ _)
    | split | dsimp only

theorem inPort_within (s : State) (e : Nat) (port : Nat) :
    Within [.regs, .engs] [.ue] s (((inPort s e port).map Prod.fst).getD s) := by
  unfold inPort
  try dsimp only
  repeat' first
    | decide | with_reducible apply Within.refl | with_reducible apply Within.ite | with_reducible apply Within.after (latchObject_within _ _)
    | rw [Option.getD_some] | rw [Option.getD_none] | rw [Option.map_some] | rw [Option.map_none]
    | with_reducible apply Within.after (updEng_within _ _ _) | split | dsimp only

theorem execUeIn_within (e : Nat) (d : BitVec 4) (imm : BitVec 8) (s : State) :
    Within [.regs, .clk, .tim, .engs, .out, .freeCtr] [.clk, .eng, .ue, .perf] s (outcomeOr s (execUeIn e d imm s)) := by
  unfold execUeIn
  try dsimp only
  repeat' first
    | decide | with_reducible apply Within.refl | with_reducible apply Within.ite | with_reducible apply Within.after (setW_within _ _ _ _)
    | with_reducible apply Within.afterPair (inPort_within _ _ _) (by assumption) | with_reducible apply engStep_within | rw [outcomeOr_ok]
    | rw [outcomeOr_fault] | with_reducible apply WithinAct.next | with_reducible apply WithinAct.jump | with_reducible apply WithinAct.stall
    | with_reducible apply WithinAct.slow | exact trivial | with_reducible apply Within.after (draw_within _) | split | dsimp only

theorem commitTrim_within (s : State) (e : Nat) (phase : Bool) (x : EWord) :
    Within [.regs, .engs, .out] [.eng] s (commitTrim s e phase x) := by
  unfold commitTrim
  try dsimp only
  repeat' first
    | decide | with_reducible apply Within.refl | with_reducible apply Within.ite | with_reducible apply raise_in
    | (rw [hits_cons]; simp only [hits_nil, hits_cons, Area.has, Reg.ENG_EVENTS_STEER_IGNORED]; omega) | split | with_reducible apply Within.set
    | (intro p hp; cases p <;> first | exact absurd (by decide) hp | rfl) | dsimp only

theorem pushMbox_within (s : State) (e : Nat) (x : EWord) :
    Within [.regs, .engs, .out] [.eng] s (pushMbox s e x) := by
  unfold pushMbox
  try dsimp only
  repeat' first
    | decide | with_reducible apply Within.refl | with_reducible apply Within.ite | with_reducible apply raise_in
    | (rw [hits_cons]; simp only [hits_nil, hits_cons, Area.has, Reg.ENG_EVENTS_MBOX_OUT_OVR]; omega)
    | with_reducible apply Within.after (updEng_within _ _ _) | split | dsimp only

theorem outPort_within (s : State) (e : Nat) (port : Nat) (x : EWord) :
    Within [.regs, .engs, .out] [.eng] s ((outPort s e port x).getD s) := by
  unfold outPort
  try dsimp only
  repeat' first
    | decide | with_reducible apply Within.refl | with_reducible apply Within.ite | with_reducible apply Within.after (commitTrim_within _ _ _ _)
    | with_reducible apply Within.after (pushMbox_within _ _ _) | rw [Option.getD_some] | rw [Option.getD_none] | with_reducible apply setF_in
    | with_reducible apply raise_in
    | (rw [hits_cons]; simp only [hits_nil, hits_cons, Area.has, Reg.ENG_IRQ_CODE_ENGINE, Reg.ENG_IRQ_CODE_CODE, Reg.ENG_EVENTS_USER_IRQ]; omega)
    | with_reducible apply Within.after (updEng_within _ _ _) | split | dsimp only

theorem engOut_within (e : Nat) (d : BitVec 4) (imm : BitVec 8) (s : State) :
    Within [.regs, .clk, .tim, .engs, .out, .freeCtr] [.clk, .eng, .ue, .perf] s (outcomeOr s (engOut e d imm s)) := by
  unfold engOut
  try dsimp only
  repeat' first
    | decide | with_reducible apply Within.refl | with_reducible apply Within.ite
    | with_reducible apply Within.afterSome (outPort_within _ _ _ _) (by assumption) | with_reducible apply engStep_within | rw [outcomeOr_ok]
    | rw [outcomeOr_fault] | with_reducible apply WithinAct.next | with_reducible apply WithinAct.jump | with_reducible apply WithinAct.stall
    | with_reducible apply WithinAct.slow | exact trivial | split | dsimp only

theorem execUeOutSel_within (e : Nat) (d : BitVec 4) (s : State) :
    Within [.regs, .clk, .tim, .engs, .out, .freeCtr] [.clk, .eng, .ue, .perf] s (outcomeOr s (execUeOutSel e d s)) := by
  unfold execUeOutSel
  try dsimp only
  repeat' first
    | decide | with_reducible apply Within.refl | with_reducible apply Within.ite | with_reducible apply Within.orAfter (engOut_within _ _ _ _)
    | rw [outcomeOr_ok] | rw [outcomeOr_fault] | split | dsimp only

theorem execUeOutMboxOut_within (e : Nat) (d : BitVec 4) (s : State) :
    Within [.regs, .clk, .tim, .engs, .out, .freeCtr] [.clk, .eng, .ue, .perf] s (outcomeOr s (execUeOutMboxOut e d s)) := by
  unfold execUeOutMboxOut
  try dsimp only
  repeat' first
    | decide | with_reducible apply Within.refl | with_reducible apply Within.ite | with_reducible apply Within.orAfter (engOut_within _ _ _ _)
    | rw [outcomeOr_ok] | rw [outcomeOr_fault] | split | dsimp only

theorem execUeOutTrimStage_within (e : Nat) (d : BitVec 4) (imm : BitVec 8) (s : State) :
    Within [.regs, .clk, .tim, .engs, .out, .freeCtr] [.clk, .eng, .ue, .perf] s (outcomeOr s (execUeOutTrimStage e d imm s)) := by
  unfold execUeOutTrimStage
  try dsimp only
  repeat' first
    | decide | with_reducible apply Within.refl | with_reducible apply Within.ite | with_reducible apply Within.orAfter (engOut_within _ _ _ _)
    | rw [outcomeOr_ok] | rw [outcomeOr_fault] | split | dsimp only

theorem execUeFtrimCommit_within (e : Nat) (d : BitVec 4) (s : State) :
    Within [.regs, .clk, .tim, .engs, .out, .freeCtr] [.clk, .eng, .ue, .perf] s (outcomeOr s (execUeFtrimCommit e d s)) := by
  unfold execUeFtrimCommit
  try dsimp only
  repeat' first
    | decide | with_reducible apply Within.refl | with_reducible apply Within.ite | with_reducible apply Within.orAfter (engOut_within _ _ _ _)
    | rw [outcomeOr_ok] | rw [outcomeOr_fault] | split | dsimp only

theorem execUePtrimCommit_within (e : Nat) (d : BitVec 4) (s : State) :
    Within [.regs, .clk, .tim, .engs, .out, .freeCtr] [.clk, .eng, .ue, .perf] s (outcomeOr s (execUePtrimCommit e d s)) := by
  unfold execUePtrimCommit
  try dsimp only
  repeat' first
    | decide | with_reducible apply Within.refl | with_reducible apply Within.ite | with_reducible apply Within.orAfter (engOut_within _ _ _ _)
    | rw [outcomeOr_ok] | rw [outcomeOr_fault] | split | dsimp only

theorem execUeOutTimer_within (e : Nat) (d : BitVec 4) (s : State) :
    Within [.regs, .clk, .tim, .engs, .out, .freeCtr] [.clk, .eng, .ue, .perf] s (outcomeOr s (execUeOutTimer e d s)) := by
  unfold execUeOutTimer
  try dsimp only
  repeat' first
    | decide | with_reducible apply Within.refl | with_reducible apply Within.ite | with_reducible apply Within.orAfter (engOut_within _ _ _ _)
    | rw [outcomeOr_ok] | rw [outcomeOr_fault] | split | dsimp only

theorem execUeOutIrq_within (e : Nat) (d : BitVec 4) (s : State) :
    Within [.regs, .clk, .tim, .engs, .out, .freeCtr] [.clk, .eng, .ue, .perf] s (outcomeOr s (execUeOutIrq e d s)) := by
  unfold execUeOutIrq
  try dsimp only
  repeat' first
    | decide | with_reducible apply Within.refl | with_reducible apply Within.ite | with_reducible apply Within.orAfter (engOut_within _ _ _ _)
    | rw [outcomeOr_ok] | rw [outcomeOr_fault] | split | dsimp only

theorem execUeWait_within (e : Nat) (imm : BitVec 8) (s : State) :
    Within [.regs, .clk, .tim, .engs, .out, .freeCtr] [.clk, .eng, .ue, .perf] s (outcomeOr s (execUeWait e imm s)) := by
  unfold execUeWait
  try dsimp only
  repeat' first
    | decide | with_reducible apply Within.refl | with_reducible apply Within.ite | with_reducible apply engStep_within | rw [outcomeOr_ok]
    | rw [outcomeOr_fault] | with_reducible apply WithinAct.next | with_reducible apply WithinAct.jump | with_reducible apply WithinAct.stall
    | with_reducible apply WithinAct.slow | exact trivial | with_reducible apply Within.after (updEng_within _ _ _) | split | dsimp only

theorem execWaitWake_within (e : Nat) (s : State) :
    Within [.regs, .engs, .out, .freeCtr] [.ue, .perf] s (outcomeOr s (execWaitWake e s)) := by
  unfold execWaitWake
  try dsimp only
  repeat' first
    | decide | with_reducible apply Within.refl | with_reducible apply Within.ite | with_reducible apply Within.after (retire_within _ _ _ _ _)
    | with_reducible apply Within.after (perf_within _ _ _ _ _ _) | rw [outcomeOr_ok] | rw [outcomeOr_fault]
    | with_reducible apply Within.after (updEng_within _ _ _) | split | dsimp only

theorem execUeMark_within (e : Nat) (imm : BitVec 8) (s : State) :
    Within [.regs, .clk, .tim, .engs, .out, .freeCtr] [.clk, .eng, .ue, .perf] s (outcomeOr s (execUeMark e imm s)) := by
  unfold execUeMark
  try dsimp only
  repeat' first
    | decide | with_reducible apply Within.refl | with_reducible apply Within.ite | with_reducible apply Within.after (histOffer_within _ _ _ _)
    | with_reducible apply engStep_within | rw [outcomeOr_ok] | rw [outcomeOr_fault] | with_reducible apply WithinAct.next
    | with_reducible apply WithinAct.jump | with_reducible apply WithinAct.stall | with_reducible apply WithinAct.slow | exact trivial
    | with_reducible apply Within.after (updEng_within _ _ _) | split | dsimp only

theorem branch_within (e : Nat) (op : JOp) (target : BitVec 12) (cond : UFlags → Bool) (s : State) :
    Within [.regs, .clk, .tim, .engs, .out, .freeCtr] [.clk, .eng, .ue, .perf] s (outcomeOr s (branch e op target cond s)) := by
  unfold branch
  try dsimp only
  repeat' first
    | decide | with_reducible apply Within.refl | with_reducible apply Within.ite | with_reducible apply engStep_within | rw [outcomeOr_ok]
    | rw [outcomeOr_fault] | with_reducible apply WithinAct.next | with_reducible apply WithinAct.jump | with_reducible apply WithinAct.stall
    | with_reducible apply WithinAct.slow | exact trivial | split | dsimp only

theorem execUeJ_within (e : Nat) (target : BitVec 12) (s : State) :
    Within [.regs, .clk, .tim, .engs, .out, .freeCtr] [.clk, .eng, .ue, .perf] s (outcomeOr s (execUeJ e target s)) := by
  unfold execUeJ
  try dsimp only
  repeat' first
    | decide | with_reducible apply Within.refl | with_reducible apply Within.ite | with_reducible apply Within.orAfter (branch_within _ _ _ _ _)
    | rw [outcomeOr_ok] | rw [outcomeOr_fault] | split | dsimp only

theorem execUeBz_within (e : Nat) (target : BitVec 12) (s : State) :
    Within [.regs, .clk, .tim, .engs, .out, .freeCtr] [.clk, .eng, .ue, .perf] s (outcomeOr s (execUeBz e target s)) := by
  unfold execUeBz
  try dsimp only
  repeat' first
    | decide | with_reducible apply Within.refl | with_reducible apply Within.ite | with_reducible apply Within.orAfter (branch_within _ _ _ _ _)
    | rw [outcomeOr_ok] | rw [outcomeOr_fault] | split | dsimp only

theorem execUeBnz_within (e : Nat) (target : BitVec 12) (s : State) :
    Within [.regs, .clk, .tim, .engs, .out, .freeCtr] [.clk, .eng, .ue, .perf] s (outcomeOr s (execUeBnz e target s)) := by
  unfold execUeBnz
  try dsimp only
  repeat' first
    | decide | with_reducible apply Within.refl | with_reducible apply Within.ite | with_reducible apply Within.orAfter (branch_within _ _ _ _ _)
    | rw [outcomeOr_ok] | rw [outcomeOr_fault] | split | dsimp only

theorem execUeBlt_within (e : Nat) (target : BitVec 12) (s : State) :
    Within [.regs, .clk, .tim, .engs, .out, .freeCtr] [.clk, .eng, .ue, .perf] s (outcomeOr s (execUeBlt e target s)) := by
  unfold execUeBlt
  try dsimp only
  repeat' first
    | decide | with_reducible apply Within.refl | with_reducible apply Within.ite | with_reducible apply Within.orAfter (branch_within _ _ _ _ _)
    | rw [outcomeOr_ok] | rw [outcomeOr_fault] | split | dsimp only

theorem execUeBge_within (e : Nat) (target : BitVec 12) (s : State) :
    Within [.regs, .clk, .tim, .engs, .out, .freeCtr] [.clk, .eng, .ue, .perf] s (outcomeOr s (execUeBge e target s)) := by
  unfold execUeBge
  try dsimp only
  repeat' first
    | decide | with_reducible apply Within.refl | with_reducible apply Within.ite | with_reducible apply Within.orAfter (branch_within _ _ _ _ _)
    | rw [outcomeOr_ok] | rw [outcomeOr_fault] | split | dsimp only

theorem execUeCall_within (e : Nat) (target : BitVec 12) (s : State) :
    Within [.regs, .clk, .tim, .engs, .out, .freeCtr] [.clk, .eng, .ue, .perf] s (outcomeOr s (execUeCall e target s)) := by
  unfold execUeCall
  try dsimp only
  repeat' first
    | decide | with_reducible apply Within.refl | with_reducible apply Within.ite | with_reducible apply engStep_within | rw [outcomeOr_ok]
    | rw [outcomeOr_fault] | with_reducible apply WithinAct.next | with_reducible apply WithinAct.jump | with_reducible apply WithinAct.stall
    | with_reducible apply WithinAct.slow | exact trivial | with_reducible apply Within.after (updEng_within _ _ _) | split | dsimp only

theorem execUeRet_within (e : Nat) (s : State) :
    Within [.regs, .clk, .tim, .engs, .out, .freeCtr] [.clk, .eng, .ue, .perf] s (outcomeOr s (execUeRet e s)) := by
  unfold execUeRet
  try dsimp only
  repeat' first
    | decide | with_reducible apply Within.refl | with_reducible apply Within.ite | with_reducible apply engStep_within | rw [outcomeOr_ok]
    | rw [outcomeOr_fault] | with_reducible apply WithinAct.next | with_reducible apply WithinAct.jump | with_reducible apply WithinAct.stall
    | with_reducible apply WithinAct.slow | exact trivial | with_reducible apply Within.after (updEng_within _ _ _) | split | dsimp only

theorem execUeHalt_within (e : Nat) (s : State) :
    Within [.regs, .clk, .tim, .engs, .out, .freeCtr] [.clk, .eng, .ue, .perf] s (outcomeOr s (execUeHalt e s)) := by
  unfold execUeHalt
  try dsimp only
  repeat' first
    | decide | with_reducible apply Within.refl | with_reducible apply Within.ite | with_reducible apply engStep_within | rw [outcomeOr_ok]
    | rw [outcomeOr_fault] | with_reducible apply WithinAct.next | with_reducible apply WithinAct.jump | with_reducible apply WithinAct.stall
    | with_reducible apply WithinAct.slow | exact trivial | split | dsimp only

theorem execEngineTimerExpiry_within (e : Nat) (s : State) :
    Within [.engs] [] s (outcomeOr s (execEngineTimerExpiry e s)) := by
  unfold execEngineTimerExpiry
  try dsimp only
  repeat' first
    | decide | with_reducible apply Within.refl | with_reducible apply Within.ite | rw [outcomeOr_ok] | rw [outcomeOr_fault]
    | with_reducible apply Within.after (updEng_within _ _ _) | split | dsimp only

theorem execUserWatchdogExpiry_within (e : Nat) (s : State) :
    Within [.regs, .clk, .tim, .engs, .out] [.clk, .eng, .ue] s (outcomeOr s (execUserWatchdogExpiry e s)) := by
  unfold execUserWatchdogExpiry
  try dsimp only
  repeat' first
    | decide | with_reducible apply Within.refl | with_reducible apply Within.ite | with_reducible apply Within.after (engHalt_within _ _ _)
    | rw [outcomeOr_ok] | rw [outcomeOr_fault] | split | dsimp only

theorem execSteerTimeout_within (s : State) :
    Within [.regs, .clk, .tim, .engs, .out] [.clk, .eng] s (outcomeOr s (execSteerTimeout s)) := by
  unfold execSteerTimeout
  try dsimp only
  repeat' first
    | decide | with_reducible apply Within.refl | with_reducible apply Within.ite | with_reducible apply Within.after (clearTrims_within _)
    | rw [outcomeOr_ok] | rw [outcomeOr_fault] | with_reducible apply raise_in
    | (rw [hits_cons]; simp only [hits_nil, hits_cons, Area.has, Reg.ENG_EVENTS_STEER_TIMEOUT]; omega) | split | with_reducible apply Within.set
    | (intro p hp; cases p <;> first | exact absurd (by decide) hp | rfl) | dsimp only

theorem execCounterWrap_within (n : Nat) (s : State) :
    Within [.regs, .out] [.perf] s (outcomeOr s (execCounterWrap n s)) := by
  unfold execCounterWrap
  try dsimp only
  repeat' first
    | decide | with_reducible apply Within.refl | with_reducible apply Within.ite | with_reducible apply Within.after (cntAdd_within _ _ _)
    | rw [outcomeOr_ok] | rw [outcomeOr_fault] | split | dsimp only

theorem mboxWrite_within (s : State) (e : Nat) :
    Within [.regs, .engs, .out] [.eng] s (mboxWrite s e) := by
  unfold mboxWrite
  try dsimp only
  repeat' first
    | decide | with_reducible apply Within.refl | with_reducible apply Within.ite | with_reducible apply raiseIf_in
    | (rw [hits_cons]; simp only [hits_nil, hits_cons, Area.has, Reg.ENG_EVENTS_MBOX_IN_OVR]; omega)
    | with_reducible apply Within.after (updEng_within _ _ _) | split | dsimp only

theorem mboxPop_within (s : State) (e : Nat) :
    Within [.engs] [] s (mboxPop s e) := by
  unfold mboxPop
  try dsimp only
  repeat' first
    | decide | with_reducible apply Within.refl | with_reducible apply Within.ite | with_reducible apply Within.after (updEng_within _ _ _) | split
    | dsimp only

theorem engsOff_within (s : State) :
    Within [.regs, .clk, .tim, .engs, .out] [.clk, .ue] s (engsOff s) := by
  unfold engsOff
  try dsimp only
  repeat' first
    | decide | with_reducible apply Within.refl | with_reducible apply Within.ite | with_reducible apply Within.after (clearTrims_within _)
    | with_reducible apply setF_in
    | (rw [hits_cons]; simp only [hits_nil, hits_cons, Area.has, Reg.UE_ENG_STATUS_LOST, Reg.UE_ENG_STATUS_RUNNING, Reg.UE_ENG_STATUS_HALTED, Reg.UE_ENG_STATUS_CAUSE]; omega)
    | split | (with_reducible apply Within.fold (l := [.regs, .clk, .tim, .engs, .out]) (g := [.clk, .ue]); intro _ _)
    | with_reducible apply Within.set | (intro p hp; cases p <;> first | exact absurd (by decide) hp | rfl) | dsimp only

theorem engExec_within (e : Nat) (i : UInstr) (s : State) :
    Within [.regs, .clk, .tim, .engs, .out, .freeCtr] [.clk, .eng, .ue, .perf] s (outcomeOr s (engExec e i s)) := by
  unfold engExec
  try dsimp only
  repeat' first
    | decide | with_reducible apply Within.refl | with_reducible apply Within.ite | with_reducible apply Within.orAfter (execUeCall_within _ _ _)
    | with_reducible apply Within.orAfter (execUeBge_within _ _ _) | with_reducible apply Within.orAfter (execUeBlt_within _ _ _)
    | with_reducible apply Within.orAfter (execUeBnz_within _ _ _) | with_reducible apply Within.orAfter (execUeBz_within _ _ _)
    | with_reducible apply Within.orAfter (execUeJ_within _ _ _) | with_reducible apply Within.orAfter (execUeMark_within _ _ _)
    | with_reducible apply Within.orAfter (execUeWait_within _ _ _) | with_reducible apply Within.orAfter (engOut_within _ _ _ _)
    | with_reducible apply Within.orAfter (execUeIn_within _ _ _ _) | with_reducible apply Within.orAfter (execUeSari_within _ _ _ _)
    | with_reducible apply Within.orAfter (execUeShli_within _ _ _ _) | with_reducible apply Within.orAfter (execUeAddi_within _ _ _ _)
    | with_reducible apply Within.orAfter (execUeLit_within _ _ _ _) | with_reducible apply Within.orAfter (execUeLim_within _ _ _ _)
    | with_reducible apply Within.orAfter (execUeLdi_within _ _ _ _) | with_reducible apply Within.orAfter (execUeHalt_within _ _)
    | with_reducible apply Within.orAfter (execUeRet_within _ _) | with_reducible apply Within.orAfter (execUeSt_within _ _ _ _ _)
    | with_reducible apply Within.orAfter (execUeLd_within _ _ _ _ _) | with_reducible apply Within.orAfter (execUeAcca_within _ _ _ _ _)
    | with_reducible apply Within.orAfter (execUeAsra_within _ _ _ _ _) | with_reducible apply Within.orAfter (execUeAccl_within _ _ _ _ _)
    | with_reducible apply Within.orAfter (execUeAccx_within _ _ _ _ _) | with_reducible apply Within.orAfter (execUeMacu_within _ _ _ _ _)
    | with_reducible apply Within.orAfter (execUeMulu_within _ _ _ _ _) | with_reducible apply Within.orAfter (execUeMsu_within _ _ _ _ _)
    | with_reducible apply Within.orAfter (execUeMac_within _ _ _ _ _) | with_reducible apply Within.orAfter (execUeMul_within _ _ _ _ _)
    | with_reducible apply Within.orAfter (execUeCmp_within _ _ _ _ _) | with_reducible apply Within.orAfter (execUeSar_within _ _ _ _ _)
    | with_reducible apply Within.orAfter (execUeShr_within _ _ _ _ _) | with_reducible apply Within.orAfter (execUeShl_within _ _ _ _ _)
    | with_reducible apply Within.orAfter (execUeXor_within _ _ _ _ _) | with_reducible apply Within.orAfter (execUeOr_within _ _ _ _ _)
    | with_reducible apply Within.orAfter (execUeAnd_within _ _ _ _ _) | with_reducible apply Within.orAfter (execUeSubs_within _ _ _ _ _)
    | with_reducible apply Within.orAfter (execUeAdds_within _ _ _ _ _) | with_reducible apply Within.orAfter (execUeSub_within _ _ _ _ _)
    | with_reducible apply Within.orAfter (execUeAdd_within _ _ _ _ _) | with_reducible apply Within.orAfter (execEngineNop_within _ _)
    | rw [outcomeOr_ok] | rw [outcomeOr_fault] | split | dsimp only

theorem cmdEngLoad_within (s : State) (ws : List Word) :
    Within [.regs, .engs] [.ue] s (cmdEngLoad s ws).1 := by
  unfold cmdEngLoad
  try dsimp only
  repeat' first
    | decide | with_reducible apply Within.refl | with_reducible apply Within.ite | with_reducible apply Within.after (done_within _)
    | with_reducible apply Within.afterFst (done_within _) (by assumption) | with_reducible apply Within.after (deny_within _ _)
    | with_reducible apply Within.afterFst (deny_within _ _) (by assumption) | with_reducible apply setF_in
    | (rw [hits_cons]; simp only [hits_nil, hits_cons, Area.has, Reg.UE_ENG_STATUS_LOST]; omega)
    | with_reducible apply Within.after (updEng_within _ _ _) | split | dsimp only

theorem startEng_within (start : BitVec 12) (s : State) (e : Nat) :
    Within [.regs, .clk, .tim, .engs, .out] [.clk, .ue] s (startEng start s e) := by
  unfold startEng
  try dsimp only
  repeat' first
    | decide | with_reducible apply Within.refl | with_reducible apply Within.ite | with_reducible apply Within.after (clearTrims_within _)
    | with_reducible apply setF_in
    | (rw [hits_cons]; simp only [hits_nil, hits_cons, Area.has, Reg.UE_ENG_STATUS_RUNNING, Reg.UE_ENG_STATUS_HALTED, Reg.UE_ENG_STATUS_CAUSE, Reg.UE_ENG_STATUS_LOST]; omega)
    | with_reducible apply Within.after (updEng_within _ _ _) | split | dsimp only

theorem cmdEngStart_within (s : State) (ws : List Word) :
    Within [.regs, .clk, .tim, .engs, .out] [.clk, .ue] s (cmdEngStart s ws).1 := by
  unfold cmdEngStart
  try dsimp only
  repeat' first
    | decide | with_reducible apply Within.refl | with_reducible apply Within.ite | with_reducible apply Within.after (startEng_within _ _ _)
    | with_reducible apply Within.after (done_within _) | with_reducible apply Within.afterFst (done_within _) (by assumption)
    | with_reducible apply Within.after (deny_within _ _) | with_reducible apply Within.afterFst (deny_within _ _) (by assumption) | split
    | (with_reducible apply Within.fold (l := [.regs, .clk, .tim, .engs, .out]) (g := [.clk, .ue]); intro _ _) | dsimp only

theorem stopEng_within (s : State) (e : Nat) :
    Within [.regs, .clk, .tim, .engs, .out] [.clk, .ue] s (stopEng s e) := by
  unfold stopEng
  try dsimp only
  repeat' first
    | decide | with_reducible apply Within.refl | with_reducible apply Within.ite | with_reducible apply Within.after (clearTrims_within _)
    | with_reducible apply setF_in | (rw [hits_cons]; simp only [hits_nil, hits_cons, Area.has, Reg.UE_ENG_STATUS_RUNNING]; omega)
    | with_reducible apply Within.after (updEng_within _ _ _) | split | dsimp only

theorem cmdEngStop_within (s : State) (ws : List Word) :
    Within [.regs, .clk, .tim, .engs, .out] [.clk, .ue] s (cmdEngStop s ws).1 := by
  unfold cmdEngStop
  try dsimp only
  repeat' first
    | decide | with_reducible apply Within.refl | with_reducible apply Within.ite | with_reducible apply Within.after (stopEng_within _ _)
    | with_reducible apply Within.after (done_within _) | with_reducible apply Within.afterFst (done_within _) (by assumption)
    | with_reducible apply Within.after (deny_within _ _) | with_reducible apply Within.afterFst (deny_within _ _) (by assumption) | split
    | (with_reducible apply Within.fold (l := [.regs, .clk, .tim, .engs, .out]) (g := [.clk, .ue]); intro _ _) | dsimp only

theorem cmdEngRead_within (s : State) (ws : List Word) :
    Within [] [] s (cmdEngRead s ws).1 := by
  unfold cmdEngRead
  try dsimp only
  repeat' first
    | decide | with_reducible apply Within.refl | with_reducible apply Within.ite | with_reducible apply Within.after (answer_within _ _)
    | with_reducible apply Within.afterFst (answer_within _ _) (by assumption) | with_reducible apply Within.after (deny_within _ _)
    | with_reducible apply Within.afterFst (deny_within _ _) (by assumption) | split | dsimp only

theorem cmdSampleRead_within (s : State) (ws : List Word) :
    Within [.engs] [] s (cmdSampleRead s ws).1 := by
  unfold cmdSampleRead
  try dsimp only
  repeat' first
    | decide | with_reducible apply Within.refl | with_reducible apply Within.ite | with_reducible apply Within.after (answer_within _ _)
    | with_reducible apply Within.afterFst (answer_within _ _) (by assumption) | with_reducible apply Within.after (deny_within _ _)
    | with_reducible apply Within.afterFst (deny_within _ _) (by assumption) | split | with_reducible apply Within.set
    | (intro p hp; cases p <;> first | exact absurd (by decide) hp | rfl) | dsimp only

end Sys2Proof.Machine
end

