-- ==== Sys2Proof/Laws/WithinBus.lean ====
section
/-! SUPPORT. What each operation may touch: registers and power. -/

set_option linter.unusedSimpArgs false
set_option linter.unusedTactic false
set_option linter.unreachableTactic false
set_option linter.unnecessarySeqFocus false
set_option linter.style.multiGoal false

namespace Sys2Proof.Machine

theorem badAddr_within (s : State) :
    Within [.regs, .out] [.sys] s (badAddr s) := by
  unfold badAddr
  try dsimp only
  repeat' first
    | decide | with_reducible apply Within.refl | with_reducible apply Within.ite | with_reducible apply incF_in | with_reducible apply raise_in
    | (rw [hits_cons]; simp only [hits_nil, hits_cons, Area.has, Reg.SYS_BAD_ADDR, Reg.SYS_EVENTS_BAD_ADDR_SEEN]; omega) | split | dsimp only

theorem corClear_within (s : State) (a : Nat) :
    Within [.regs] [.any] s (corClear s a) := by
  unfold corClear
  try dsimp only
  repeat' first
    | decide | with_reducible apply Within.refl | with_reducible apply Within.ite | exact hits_any | with_reducible apply setWord_any | split
    | (with_reducible apply Within.fold (l := [.regs]) (g := [.any]); intro _ _) | dsimp only

theorem readEffect_within (s : State) (a : Nat) :
    Within [.regs, .gauges, .engs] [.any] s (readEffect s a) := by
  unfold readEffect
  try dsimp only
  repeat' first
    | decide | with_reducible apply Within.refl | with_reducible apply Within.ite | with_reducible apply Within.afterAny (mboxPop_within _ _)
    | with_reducible apply Within.afterAny (popResult_within _ _) | with_reducible apply Within.afterFstAny (popResult_within _ _) (by assumption)
    | with_reducible apply Within.afterAny (corClear_within _ _) | exact hits_any | split | dsimp only

theorem busRead_within (s : State) (req a : Nat) :
    Within [.regs, .gauges, .engs, .out] [.any] s (busRead s req a).1 := by
  unfold busRead
  try dsimp only
  repeat' first
    | decide | with_reducible apply Within.refl | with_reducible apply Within.ite | with_reducible apply Within.afterAny (readEffect_within _ _)
    | with_reducible apply Within.afterAny (perf_within _ _ _ _ _ _) | with_reducible apply Within.afterAny (badAddr_within _) | exact hits_any
    | split | dsimp only

theorem normWide_within (s : State) (g : Grp) (n o : Nat) :
    Within [.regs] [.any] s (normWide s g n o) := by
  unfold normWide
  try dsimp only
  repeat' first
    | decide | with_reducible apply Within.refl | with_reducible apply Within.ite | with_reducible apply Within.afterAny (normPer_within _ _)
    | with_reducible apply setF_in | with_reducible apply setHL_in | exact hits_any | split | dsimp only

theorem storeWrite_within (s : State) (a : Nat) (allowed : Bool) (v : Word) :
    Within [.regs, .staged] [.any] s (storeWrite s a allowed v) := by
  unfold storeWrite
  try dsimp only
  repeat' first
    | decide | with_reducible apply Within.refl | with_reducible apply Within.ite | with_reducible apply Within.afterAny (normWide_within _ _ _ _)
    | exact hits_any | with_reducible apply setWord_any | split | (with_reducible apply Within.fold (l := [.regs, .staged]) (g := [.any]); intro _ _)
    | with_reducible apply Within.set | (intro p hp; cases p <;> first | exact absurd (by decide) hp | rfl) | dsimp only

theorem pllApply_within (s : State) (hbm : Bool) :
    Within [.regs, .clk] [.clk] s (pllApply s hbm) := by
  unfold pllApply
  try dsimp only
  repeat' first
    | decide | with_reducible apply Within.refl | with_reducible apply Within.ite | with_reducible apply Within.after (pllStart_within _ _)
    | exact (hits_pll (by decide)).1 | exact (hits_pll (by decide)).2.1 | exact (hits_pll (by decide)).2.2 | with_reducible apply setF_in
    | (rw [hits_cons]; simp only [hits_nil, hits_cons, Area.has]; omega) | split | dsimp only

theorem dllReturn_within (s : State) (n : Nat) :
    Within [.regs] [.dll] s (dllReturn s n) := by
  unfold dllReturn
  try dsimp only
  repeat' first
    | decide | with_reducible apply Within.refl | with_reducible apply Within.ite | with_reducible apply setF_in
    | (rw [hits_cons]; simp only [hits_nil, hits_cons, Area.has, Reg.DLL_CFG_RETURN]; omega) | split | dsimp only

theorem outEnable_within (s : State) (n : Nat) :
    Within [.regs, .tim, .out] [.time, .outw] s (outEnable s n) := by
  unfold outEnable
  try dsimp only
  repeat' first
    | decide | with_reducible apply Within.refl | with_reducible apply Within.ite | with_reducible apply Within.after (outMiss_within _ _)
    | with_reducible apply Within.after (updOut_within _ _ _) | split | dsimp only

theorem outCtrl_within (s0 s : State) (n : Nat) (v : Word) :
    Within [.regs, .staged, .tim, .out] [.time, .outw] s (outCtrl s0 s n v) := by
  unfold outCtrl
  try dsimp only
  repeat' first
    | decide | with_reducible apply Within.refl | with_reducible apply Within.ite | with_reducible apply Within.after (outArm_within _ _)
    | with_reducible apply Within.after (outEnable_within _ _) | split | dsimp only

theorem nominalWrite_within (s0 s : State) (allowed : Bool) :
    Within [.regs, .clk, .sel, .out] [.clk] s (nominalWrite s0 s allowed) := by
  unfold nominalWrite
  try dsimp only
  repeat' first
    | decide | with_reducible apply Within.refl | with_reducible apply Within.ite | with_reducible apply Within.after (requestWord_within _ _) | split
    | with_reducible apply Within.set | (intro p hp; cases p <;> first | exact absurd (by decide) hp | rfl) | dsimp only

theorem alignOfsWrite_within (s : State) (n : Nat) :
    Within [.regs, .tim] [.dll] s (alignOfsWrite s n) := by
  unfold alignOfsWrite
  try dsimp only
  repeat' first
    | decide | with_reducible apply Within.refl | with_reducible apply Within.ite | with_reducible apply Within.after (holdChange_within _ _ _)
    | split | dsimp only

theorem slotWrite_within (s0 s : State) (n : Nat) :
    Within [.regs, .mode, .clk, .tim, .sel, .ports, .gauges, .cal, .out, .freeCtr] [.clk, .dll, .time, .ref, .slot, .port, .eng, .cal] s (slotWrite s0 s n) := by
  unfold slotWrite
  try dsimp only
  repeat' first
    | decide | with_reducible apply Within.refl | with_reducible apply Within.ite | with_reducible apply Within.after (slotRestart_within _ _)
    | with_reducible apply Within.after (loseSlots_within _ _) | with_reducible apply Within.after (reselect_within _)
    | with_reducible apply Within.after (slopeWatch_within _) | split | dsimp only

theorem phyWrite_within (s0 s : State) (p : Nat) :
    Within [.regs, .mode, .clk, .tim, .sel, .ports, .jieth, .fab, .gauges, .cal, .cmd, .aud, .out, .freeCtr] [.clk, .dll, .time, .ref, .slot, .port, .fport, .queue, .eng, .perf, .cal, .aud, .cmd] s (phyWrite s0 s p) := by
  unfold phyWrite
  try dsimp only
  repeat' first
    | decide | with_reducible apply Within.refl | with_reducible apply Within.ite | with_reducible apply Within.after (portDown_within _ _ _)
    | with_reducible apply Within.after (cdrLose_within _ _) | with_reducible apply Within.after (updPort_within _ _ _) | split | dsimp only

theorem ttWrite_within (s0 s : State) (p : Nat) :
    Within [.regs, .mode, .clk, .tim, .sel, .ports, .gauges, .cal, .out, .freeCtr] [.clk, .dll, .time, .ref, .slot, .port, .eng, .cal] s (ttWrite s0 s p) := by
  unfold ttWrite
  try dsimp only
  repeat' first
    | decide | with_reducible apply Within.refl | with_reducible apply Within.ite | with_reducible apply Within.after (phaseLose_within _ _)
    | with_reducible apply Within.after (phaseClean_within _ _) | with_reducible apply setF_in
    | (rw [hits_cons]; simp only [hits_nil, hits_cons, Area.has, portBase, Reg.PORT_TT_STATUS_L1SYNC_UP]; (try split) <;> omega)
    | with_reducible apply Within.after (updPort_within _ _ _) | split | dsimp only

theorem readyRange_within (s : State) :
    Within [.pair] [] s (readyRange s) := by
  unfold readyRange
  try dsimp only
  repeat' first
    | decide | with_reducible apply Within.refl | with_reducible apply Within.ite | split | with_reducible apply Within.set
    | (intro p hp; cases p <;> first | exact absurd (by decide) hp | rfl) | dsimp only

theorem linkWrite_within (s0 s : State) (n : Nat) (v : Word) :
    Within [.regs, .mode, .clk, .tim, .sel, .ports, .jieth, .fab, .gauges, .cal, .cmd, .aud, .out, .freeCtr] [.clk, .dll, .time, .ref, .slot, .port, .link, .jg, .pair, .fport, .queue, .eng, .perf, .cal, .aud, .cmd] s (linkWrite s0 s n v) := by
  unfold linkWrite
  try dsimp only
  repeat' first
    | decide | with_reducible apply Within.refl | with_reducible apply Within.ite | with_reducible apply Within.after (retrainLink_within _ _)
    | with_reducible apply Within.after (setLinkRole_within _ _ _) | with_reducible apply setF_in
    | (rw [hits_cons]; simp only [hits_nil, hits_cons, Area.has, Reg.LINK_LINK_CFG_RETRAIN, Reg.LINK_LINK_CFG_ROLE]; omega) | split | dsimp only

theorem histClear_within (s : State) (h : Nat) :
    Within [.regs] [.perf] s (histClear s h) := by
  unfold histClear
  try dsimp only
  repeat' first
    | decide | with_reducible apply Within.refl | with_reducible apply Within.ite | with_reducible apply setF_in | with_reducible apply setHL_in
    | (rw [hits_cons]; simp only [hits_nil, hits_cons, Area.has, Reg.HIST_COUNT_LO, Reg.HIST_COUNT_HI, Reg.HIST_MIN, Reg.HIST_MAX, Reg.HIST_BIN]; omega)
    | split | (with_reducible apply Within.fold (l := [.regs]) (g := [.perf]); intro _ _) | dsimp only

theorem svnWrite_within (s : State) (x : Nat) :
    Within [.otp] [] s (svnWrite s x) := by
  unfold svnWrite
  try dsimp only
  repeat' first
    | decide | with_reducible apply Within.refl | with_reducible apply Within.ite | split | with_reducible apply Within.set
    | (intro p hp; cases p <;> first | exact absurd (by decide) hp | rfl) | dsimp only

theorem revokeSlot_within (s : State) (k : Nat) :
    Within [.otp] [] s (revokeSlot s k) := by
  unfold revokeSlot
  try dsimp only
  repeat' first
    | decide | with_reducible apply Within.refl | with_reducible apply Within.ite | split | with_reducible apply Within.set
    | (intro p hp; cases p <;> first | exact absurd (by decide) hp | rfl) | dsimp only

theorem writeEffect_within (s0 s : State) (g : Grp) (n o : Nat) (allowed : Bool) (v : Word) :
    Within [.regs, .staged, .mode, .boardSet, .otp, .clk, .tim, .sel, .ports, .jieth, .pair, .fab, .gauges, .engs, .cal, .cmd, .aud, .out, .freeCtr] [.sys, .clk, .dll, .time, .outw, .ref, .slot, .port, .link, .jg, .pair, .fport, .queue, .eng, .perf, .cal, .aud, .cmd] s (writeEffect s0 s g n o allowed v) := by
  unfold writeEffect
  try dsimp only
  repeat' first
    | decide | with_reducible apply Within.refl | with_reducible apply Within.ite | with_reducible apply Within.after (revokeSlot_within _ _)
    | with_reducible apply Within.after (svnWrite_within _ _) | with_reducible apply Within.after (histClear_within _ _)
    | with_reducible apply Within.after (sampleReset_within _) | with_reducible apply Within.after (sampleRestart_within _)
    | with_reducible apply Within.after (mboxWrite_within _ _) | with_reducible apply Within.after (clearTrims_within _)
    | with_reducible apply Within.after (readyRange_within _) | with_reducible apply Within.after (linkWrite_within _ _ _ _)
    | with_reducible apply Within.after (phyWrite_within _ _ _) | with_reducible apply Within.after (ttWrite_within _ _ _)
    | with_reducible apply Within.after (slotWrite_within _ _ _) | with_reducible apply Within.after (holdChange_within _ _ _)
    | with_reducible apply Within.after (alignOfsWrite_within _ _) | with_reducible apply Within.after (outCtrl_within _ _ _ _)
    | with_reducible apply Within.after (dllReturn_within _ _) | with_reducible apply Within.after (pllApply_within _ _)
    | with_reducible apply Within.after (nominalWrite_within _ _ _) | with_reducible apply setF_in | with_reducible apply setB_in
    | with_reducible apply raiseIf_in
    | (rw [hits_cons]; simp only [hits_nil, hits_cons, Area.has, Reg.AUD_EVENTS_HOLD_FULL, Reg.FP_SW_STATUS_PREEMPT_ACTIVE, Reg.SYS_UNLOCK_ARMED]; omega)
    | with_reducible apply Within.after (msixEdges_within _ _) | split
    | (with_reducible apply Within.fold (l := [.regs, .staged, .mode, .boardSet, .otp, .clk, .tim, .sel, .ports, .jieth, .pair, .fab, .gauges, .engs, .cal, .cmd, .aud, .out, .freeCtr]) (g := [.sys, .clk, .dll, .time, .outw, .ref, .slot, .port, .link, .jg, .pair, .fport, .queue, .eng, .perf, .cal, .aud, .cmd]); intro _ _)
    | with_reducible apply Within.set | (intro p hp; cases p <;> first | exact absurd (by decide) hp | rfl) | dsimp only

theorem dropWrite_within (s : State) (full : Bool) :
    Within [.regs, .out] [.sys, .aud] s (dropWrite s full) := by
  unfold dropWrite
  try dsimp only
  repeat' first
    | decide | with_reducible apply Within.refl | with_reducible apply Within.ite | with_reducible apply incF_in | with_reducible apply raise_in
    | (rw [hits_cons]; simp only [hits_nil, hits_cons, Area.has, Reg.AUD_REFUSED, Reg.SYS_WR_DROP, Reg.SYS_EVENTS_WR_DROPPED]; omega) | split
    | dsimp only

theorem auditWrite_within (s : State) (dbg rej : Bool) (req a iss : Nat) (old new : Word) :
    Within [.regs, .aud, .out] [.aud] s (auditWrite s dbg rej req a iss old new) := by
  unfold auditWrite
  try dsimp only
  repeat' first
    | decide | with_reducible apply Within.refl | with_reducible apply Within.ite | with_reducible apply Within.after (audit_within _ _ _ _ _ _ _ _ _)
    | split | dsimp only

theorem writeReg_within (s : State) (dbg : Bool) (req a iss : Nat) (v : Word) :
    Within [.regs, .staged, .mode, .boardSet, .otp, .clk, .tim, .sel, .ports, .jieth, .pair, .fab, .gauges, .engs, .cal, .cmd, .aud, .out, .freeCtr] [.any] s (writeReg s dbg req a iss v).1 := by
  unfold writeReg
  try dsimp only
  repeat' first
    | decide | with_reducible apply Within.refl | with_reducible apply Within.ite
    | with_reducible apply Within.afterAny (writeEffect_within _ _ _ _ _ _ _)
    | with_reducible apply Within.afterAny (auditWrite_within _ _ _ _ _ _ _ _) | with_reducible apply Within.afterAny (storeWrite_within _ _ _ _)
    | with_reducible apply setF_in | with_reducible apply raise_in | exact hits_any | split | dsimp only

theorem busWrite_within (s00 : State) (bar0 dbg : Bool) (req a be : Nat) (v : Word) :
    Within [.regs, .staged, .mode, .boardSet, .otp, .clk, .tim, .sel, .ports, .jieth, .pair, .fab, .gauges, .engs, .cal, .cmd, .aud, .out, .freeCtr] [.any] s00 (busWrite s00 bar0 dbg req a be v).1 := by
  unfold busWrite
  try dsimp only
  repeat' first
    | decide | with_reducible apply Within.refl | with_reducible apply Within.ite | with_reducible apply Within.afterAny (writeReg_within _ _ _ _ _ _)
    | with_reducible apply Within.afterFstAny (writeReg_within _ _ _ _ _ _) (by assumption)
    | with_reducible apply Within.afterAny (dropWrite_within _ _) | with_reducible apply Within.afterAny (perf_within _ _ _ _ _ _)
    | with_reducible apply Within.afterAny (badAddr_within _) | exact hits_any | split | dsimp only

theorem bar0Write_within (addr be : Nat) (v : Word) (s : State) :
    Within [.regs, .staged, .mode, .boardSet, .otp, .clk, .tim, .sel, .ports, .jieth, .pair, .fab, .gauges, .engs, .cal, .cmd, .aud, .out, .freeCtr] [.any] s (outcomeOr s (bar0Write addr be v s)) := by
  unfold bar0Write
  try dsimp only
  repeat' first
    | decide | with_reducible apply Within.refl | with_reducible apply Within.ite
    | with_reducible apply Within.afterAny (busWrite_within _ _ _ _ _ _ _)
    | with_reducible apply Within.afterFstAny (busWrite_within _ _ _ _ _ _ _) (by assumption) | rw [outcomeOr_ok] | rw [outcomeOr_fault]
    | exact hits_any | split | dsimp only

theorem bar0Read_within (addr : Nat) (s : State) :
    Within [.regs, .gauges, .engs, .out] [.any] s (outcomeOr s (bar0Read addr s)) := by
  unfold bar0Read
  try dsimp only
  repeat' first
    | decide | with_reducible apply Within.refl | with_reducible apply Within.ite | with_reducible apply Within.afterAny (busRead_within _ _ _)
    | with_reducible apply Within.afterFstAny (busRead_within _ _ _) (by assumption) | rw [outcomeOr_ok] | rw [outcomeOr_fault] | exact hits_any
    | with_reducible apply Within.afterAny (emit_within _ _) | split | dsimp only

theorem execRegisterWrite_within (addr be : Nat) (v : Word) (s : State) :
    Within [.regs, .staged, .mode, .boardSet, .otp, .clk, .tim, .sel, .ports, .jieth, .pair, .fab, .gauges, .engs, .cal, .cmd, .aud, .out, .freeCtr] [.any] s (outcomeOr s (execRegisterWrite addr be v s)) := by
  unfold execRegisterWrite
  try dsimp only
  repeat' first
    | decide | with_reducible apply Within.refl | with_reducible apply Within.ite | with_reducible apply Within.orAfterAny (bar0Write_within _ _ _ _)
    | rw [outcomeOr_ok] | rw [outcomeOr_fault] | exact hits_any | split | dsimp only

theorem execCorRead_within (addr : Nat) (s : State) :
    Within [.regs, .gauges, .engs, .out] [.any] s (outcomeOr s (execCorRead addr s)) := by
  unfold execCorRead
  try dsimp only
  repeat' first
    | decide | with_reducible apply Within.refl | with_reducible apply Within.ite | with_reducible apply Within.orAfterAny (bar0Read_within _ _)
    | rw [outcomeOr_ok] | rw [outcomeOr_fault] | exact hits_any | split | dsimp only

theorem execUnlock_within (v : Word) (s : State) :
    Within [.regs, .staged, .mode, .boardSet, .otp, .clk, .tim, .sel, .ports, .jieth, .pair, .fab, .gauges, .engs, .cal, .cmd, .aud, .out, .freeCtr] [.any] s (outcomeOr s (execUnlock v s)) := by
  unfold execUnlock
  try dsimp only
  repeat' first
    | decide | with_reducible apply Within.refl | with_reducible apply Within.ite | with_reducible apply Within.orAfterAny (bar0Write_within _ _ _ _)
    | rw [outcomeOr_ok] | rw [outcomeOr_fault] | exact hits_any | split | dsimp only

theorem execNominalLoWrite_within (v : Word) (s : State) :
    Within [.regs, .staged, .mode, .boardSet, .otp, .clk, .tim, .sel, .ports, .jieth, .pair, .fab, .gauges, .engs, .cal, .cmd, .aud, .out, .freeCtr] [.any] s (outcomeOr s (execNominalLoWrite v s)) := by
  unfold execNominalLoWrite
  try dsimp only
  repeat' first
    | decide | with_reducible apply Within.refl | with_reducible apply Within.ite | with_reducible apply Within.orAfterAny (bar0Write_within _ _ _ _)
    | rw [outcomeOr_ok] | rw [outcomeOr_fault] | exact hits_any | split | dsimp only

theorem execIncLoWrite_within (v : Word) (s : State) :
    Within [.regs, .staged, .mode, .boardSet, .otp, .clk, .tim, .sel, .ports, .jieth, .pair, .fab, .gauges, .engs, .cal, .cmd, .aud, .out, .freeCtr] [.any] s (outcomeOr s (execIncLoWrite v s)) := by
  unfold execIncLoWrite
  try dsimp only
  repeat' first
    | decide | with_reducible apply Within.refl | with_reducible apply Within.ite | with_reducible apply Within.orAfterAny (bar0Write_within _ _ _ _)
    | rw [outcomeOr_ok] | rw [outcomeOr_fault] | exact hits_any | split | dsimp only

theorem execOutPstepLoWrite_within (n : Nat) (v : Word) (s : State) :
    Within [.regs, .staged, .mode, .boardSet, .otp, .clk, .tim, .sel, .ports, .jieth, .pair, .fab, .gauges, .engs, .cal, .cmd, .aud, .out, .freeCtr] [.any] s (outcomeOr s (execOutPstepLoWrite n v s)) := by
  unfold execOutPstepLoWrite
  try dsimp only
  repeat' first
    | decide | with_reducible apply Within.refl | with_reducible apply Within.ite | with_reducible apply Within.orAfterAny (bar0Write_within _ _ _ _)
    | rw [outcomeOr_ok] | rw [outcomeOr_fault] | exact hits_any | split | dsimp only

theorem execApplyWrite_within (hbm : Bool) (v : Word) (s : State) :
    Within [.regs, .staged, .mode, .boardSet, .otp, .clk, .tim, .sel, .ports, .jieth, .pair, .fab, .gauges, .engs, .cal, .cmd, .aud, .out, .freeCtr] [.any] s (outcomeOr s (execApplyWrite hbm v s)) := by
  unfold execApplyWrite
  try dsimp only
  repeat' first
    | decide | with_reducible apply Within.refl | with_reducible apply Within.ite | with_reducible apply Within.orAfterAny (bar0Write_within _ _ _ _)
    | rw [outcomeOr_ok] | rw [outcomeOr_fault] | exact hits_any | split | dsimp only

theorem execReturnWrite_within (n : Nat) (v : Word) (s : State) :
    Within [.regs, .staged, .mode, .boardSet, .otp, .clk, .tim, .sel, .ports, .jieth, .pair, .fab, .gauges, .engs, .cal, .cmd, .aud, .out, .freeCtr] [.any] s (outcomeOr s (execReturnWrite n v s)) := by
  unfold execReturnWrite
  try dsimp only
  repeat' first
    | decide | with_reducible apply Within.refl | with_reducible apply Within.ite | with_reducible apply Within.orAfterAny (bar0Write_within _ _ _ _)
    | rw [outcomeOr_ok] | rw [outcomeOr_fault] | exact hits_any | split | dsimp only

theorem execArmWrite_within (n : Nat) (v : Word) (s : State) :
    Within [.regs, .staged, .mode, .boardSet, .otp, .clk, .tim, .sel, .ports, .jieth, .pair, .fab, .gauges, .engs, .cal, .cmd, .aud, .out, .freeCtr] [.any] s (outcomeOr s (execArmWrite n v s)) := by
  unfold execArmWrite
  try dsimp only
  repeat' first
    | decide | with_reducible apply Within.refl | with_reducible apply Within.ite | with_reducible apply Within.orAfterAny (bar0Write_within _ _ _ _)
    | rw [outcomeOr_ok] | rw [outcomeOr_fault] | exact hits_any | split | dsimp only

theorem execOutEnWrite_within (n : Nat) (v : Word) (s : State) :
    Within [.regs, .staged, .mode, .boardSet, .otp, .clk, .tim, .sel, .ports, .jieth, .pair, .fab, .gauges, .engs, .cal, .cmd, .aud, .out, .freeCtr] [.any] s (outcomeOr s (execOutEnWrite n v s)) := by
  unfold execOutEnWrite
  try dsimp only
  repeat' first
    | decide | with_reducible apply Within.refl | with_reducible apply Within.ite | with_reducible apply Within.orAfterAny (bar0Write_within _ _ _ _)
    | rw [outcomeOr_ok] | rw [outcomeOr_fault] | exact hits_any | split | dsimp only

theorem execRetrain_within (n : Nat) (v : Word) (s : State) :
    Within [.regs, .staged, .mode, .boardSet, .otp, .clk, .tim, .sel, .ports, .jieth, .pair, .fab, .gauges, .engs, .cal, .cmd, .aud, .out, .freeCtr] [.any] s (outcomeOr s (execRetrain n v s)) := by
  unfold execRetrain
  try dsimp only
  repeat' first
    | decide | with_reducible apply Within.refl | with_reducible apply Within.ite | with_reducible apply Within.orAfterAny (bar0Write_within _ _ _ _)
    | rw [outcomeOr_ok] | rw [outcomeOr_fault] | exact hits_any | split | dsimp only

theorem execLinkRoleWrite_within (n : Nat) (v : Word) (s : State) :
    Within [.regs, .staged, .mode, .boardSet, .otp, .clk, .tim, .sel, .ports, .jieth, .pair, .fab, .gauges, .engs, .cal, .cmd, .aud, .out, .freeCtr] [.any] s (outcomeOr s (execLinkRoleWrite n v s)) := by
  unfold execLinkRoleWrite
  try dsimp only
  repeat' first
    | decide | with_reducible apply Within.refl | with_reducible apply Within.ite | with_reducible apply Within.orAfterAny (bar0Write_within _ _ _ _)
    | rw [outcomeOr_ok] | rw [outcomeOr_fault] | exact hits_any | split | dsimp only

theorem execSlotCfgWrite_within (n : Nat) (v : Word) (s : State) :
    Within [.regs, .staged, .mode, .boardSet, .otp, .clk, .tim, .sel, .ports, .jieth, .pair, .fab, .gauges, .engs, .cal, .cmd, .aud, .out, .freeCtr] [.any] s (outcomeOr s (execSlotCfgWrite n v s)) := by
  unfold execSlotCfgWrite
  try dsimp only
  repeat' first
    | decide | with_reducible apply Within.refl | with_reducible apply Within.ite | with_reducible apply Within.orAfterAny (bar0Write_within _ _ _ _)
    | rw [outcomeOr_ok] | rw [outcomeOr_fault] | exact hits_any | split | dsimp only

theorem execPhyCfgWrite_within (p : Nat) (v : Word) (s : State) :
    Within [.regs, .staged, .mode, .boardSet, .otp, .clk, .tim, .sel, .ports, .jieth, .pair, .fab, .gauges, .engs, .cal, .cmd, .aud, .out, .freeCtr] [.any] s (outcomeOr s (execPhyCfgWrite p v s)) := by
  unfold execPhyCfgWrite
  try dsimp only
  repeat' first
    | decide | with_reducible apply Within.refl | with_reducible apply Within.ite | with_reducible apply Within.orAfterAny (bar0Write_within _ _ _ _)
    | rw [outcomeOr_ok] | rw [outcomeOr_fault] | exact hits_any | split | dsimp only

theorem execMboxInWrite_within (e : Nat) (v : Word) (s : State) :
    Within [.regs, .staged, .mode, .boardSet, .otp, .clk, .tim, .sel, .ports, .jieth, .pair, .fab, .gauges, .engs, .cal, .cmd, .aud, .out, .freeCtr] [.any] s (outcomeOr s (execMboxInWrite e v s)) := by
  unfold execMboxInWrite
  try dsimp only
  repeat' first
    | decide | with_reducible apply Within.refl | with_reducible apply Within.ite | with_reducible apply Within.orAfterAny (bar0Write_within _ _ _ _)
    | rw [outcomeOr_ok] | rw [outcomeOr_fault] | exact hits_any | split | dsimp only

theorem execMboxOutRead_within (e : Nat) (s : State) :
    Within [.regs, .gauges, .engs, .out] [.any] s (outcomeOr s (execMboxOutRead e s)) := by
  unfold execMboxOutRead
  try dsimp only
  repeat' first
    | decide | with_reducible apply Within.refl | with_reducible apply Within.ite | with_reducible apply Within.orAfterAny (bar0Read_within _ _)
    | rw [outcomeOr_ok] | rw [outcomeOr_fault] | exact hits_any | split | dsimp only

theorem execResult3Read_within (n : Nat) (s : State) :
    Within [.regs, .gauges, .engs, .out] [.any] s (outcomeOr s (execResult3Read n s)) := by
  unfold execResult3Read
  try dsimp only
  repeat' first
    | decide | with_reducible apply Within.refl | with_reducible apply Within.ite | with_reducible apply Within.orAfterAny (bar0Read_within _ _)
    | rw [outcomeOr_ok] | rw [outcomeOr_fault] | exact hits_any | split | dsimp only

theorem execSvnSet_within (v : Word) (s : State) :
    Within [.regs, .staged, .mode, .boardSet, .otp, .clk, .tim, .sel, .ports, .jieth, .pair, .fab, .gauges, .engs, .cal, .cmd, .aud, .out, .freeCtr] [.any] s (outcomeOr s (execSvnSet v s)) := by
  unfold execSvnSet
  try dsimp only
  repeat' first
    | decide | with_reducible apply Within.refl | with_reducible apply Within.ite | with_reducible apply Within.orAfterAny (bar0Write_within _ _ _ _)
    | rw [outcomeOr_ok] | rw [outcomeOr_fault] | exact hits_any | split | dsimp only

theorem execKeyRevoke_within (v : Word) (s : State) :
    Within [.regs, .staged, .mode, .boardSet, .otp, .clk, .tim, .sel, .ports, .jieth, .pair, .fab, .gauges, .engs, .cal, .cmd, .aud, .out, .freeCtr] [.any] s (outcomeOr s (execKeyRevoke v s)) := by
  unfold execKeyRevoke
  try dsimp only
  repeat' first
    | decide | with_reducible apply Within.refl | with_reducible apply Within.ite | with_reducible apply Within.orAfterAny (bar0Write_within _ _ _ _)
    | rw [outcomeOr_ok] | rw [outcomeOr_fault] | exact hits_any | split | dsimp only

theorem execFreeze_within (v : Word) (s : State) :
    Within [.regs, .staged, .mode, .boardSet, .otp, .clk, .tim, .sel, .ports, .jieth, .pair, .fab, .gauges, .engs, .cal, .cmd, .aud, .out, .freeCtr] [.any] s (outcomeOr s (execFreeze v s)) := by
  unfold execFreeze
  try dsimp only
  repeat' first
    | decide | with_reducible apply Within.refl | with_reducible apply Within.ite | with_reducible apply Within.orAfterAny (bar0Write_within _ _ _ _)
    | rw [outcomeOr_ok] | rw [outcomeOr_fault] | exact hits_any | split | dsimp only

theorem execSampleReset_within (v : Word) (s : State) :
    Within [.regs, .staged, .mode, .boardSet, .otp, .clk, .tim, .sel, .ports, .jieth, .pair, .fab, .gauges, .engs, .cal, .cmd, .aud, .out, .freeCtr] [.any] s (outcomeOr s (execSampleReset v s)) := by
  unfold execSampleReset
  try dsimp only
  repeat' first
    | decide | with_reducible apply Within.refl | with_reducible apply Within.ite | with_reducible apply Within.orAfterAny (bar0Write_within _ _ _ _)
    | rw [outcomeOr_ok] | rw [outcomeOr_fault] | exact hits_any | split | dsimp only

theorem execClrWrite_within (h : Nat) (v : Word) (s : State) :
    Within [.regs, .staged, .mode, .boardSet, .otp, .clk, .tim, .sel, .ports, .jieth, .pair, .fab, .gauges, .engs, .cal, .cmd, .aud, .out, .freeCtr] [.any] s (outcomeOr s (execClrWrite h v s)) := by
  unfold execClrWrite
  try dsimp only
  repeat' first
    | decide | with_reducible apply Within.refl | with_reducible apply Within.ite | with_reducible apply Within.orAfterAny (bar0Write_within _ _ _ _)
    | rw [outcomeOr_ok] | rw [outcomeOr_fault] | exact hits_any | split | dsimp only

theorem execSteerCfgWrite_within (v : Word) (s : State) :
    Within [.regs, .staged, .mode, .boardSet, .otp, .clk, .tim, .sel, .ports, .jieth, .pair, .fab, .gauges, .engs, .cal, .cmd, .aud, .out, .freeCtr] [.any] s (outcomeOr s (execSteerCfgWrite v s)) := by
  unfold execSteerCfgWrite
  try dsimp only
  repeat' first
    | decide | with_reducible apply Within.refl | with_reducible apply Within.ite | with_reducible apply Within.orAfterAny (bar0Write_within _ _ _ _)
    | rw [outcomeOr_ok] | rw [outcomeOr_fault] | exact hits_any | split | dsimp only

theorem debugHalt_within (s : State) (e : Nat) :
    Within [.regs, .clk, .tim, .engs, .out] [.clk, .eng, .ue] s (debugHalt s e) := by
  unfold debugHalt
  try dsimp only
  repeat' first
    | decide | with_reducible apply Within.refl | with_reducible apply Within.ite | with_reducible apply Within.after (engHalt_within _ _ _) | split
    | dsimp only

theorem debugStep_within (s : State) (e : Nat) :
    Within [.regs, .clk, .tim, .engs, .out, .freeCtr] [.clk, .eng, .ue, .perf] s (debugStep s e) := by
  unfold debugStep
  try dsimp only
  repeat' first
    | decide | with_reducible apply Within.refl | with_reducible apply Within.ite | with_reducible apply Within.orAfter (engExec_within _ _ _)
    | with_reducible apply setF_in | (rw [hits_cons]; simp only [hits_nil, hits_cons, Area.has, Reg.UE_ENG_STATUS_RUNNING]; omega) | split
    | dsimp only

theorem debugMac_within (s : State) (b way : Nat) (e : MacEntry) :
    Within [.fab] [] s (debugMac s b way e) := by
  unfold debugMac
  try dsimp only
  repeat' first
    | decide | with_reducible apply Within.refl | with_reducible apply Within.ite | with_reducible apply Within.after (macSet_within _ _) | split
    | with_reducible apply Within.set | (intro p hp; cases p <;> first | exact absurd (by decide) hp | rfl) | dsimp only

theorem debugEffect_within (s : State) (t : DebugTarget) (v : Word) :
    Within [.regs, .clk, .tim, .fab, .engs, .out, .freeCtr] [.clk, .eng, .ue, .perf] s (debugEffect s t v).1 := by
  unfold debugEffect
  try dsimp only
  repeat' first
    | decide | with_reducible apply Within.refl | with_reducible apply Within.ite | with_reducible apply Within.after (debugStep_within _ _)
    | with_reducible apply Within.after (debugHalt_within _ _) | with_reducible apply Within.after (setW_within _ _ _ _)
    | with_reducible apply Within.after (debugMac_within _ _ _ _) | with_reducible apply Within.after (draw_within _)
    | with_reducible apply Within.after (updEng_within _ _ _) | split | dsimp only

theorem execDebugWrite_within (t : DebugTarget) (v : Word) (s : State) :
    Within [.regs, .staged, .mode, .boardSet, .otp, .clk, .tim, .sel, .ports, .jieth, .pair, .fab, .gauges, .engs, .cal, .cmd, .aud, .out, .freeCtr] [.any] s (outcomeOr s (execDebugWrite t v s)) := by
  unfold execDebugWrite
  try dsimp only
  repeat' first
    | decide | with_reducible apply Within.refl | with_reducible apply Within.ite
    | with_reducible apply Within.afterAny (audit_within _ _ _ _ _ _ _ _ _) | with_reducible apply Within.afterAny (debugEffect_within _ _ _)
    | with_reducible apply Within.afterFstAny (debugEffect_within _ _ _) (by assumption) | with_reducible apply Within.afterAny (dropWrite_within _ _)
    | with_reducible apply Within.afterAny (busWrite_within _ _ _ _ _ _ _)
    | with_reducible apply Within.afterFstAny (busWrite_within _ _ _ _ _ _ _) (by assumption) | rw [outcomeOr_ok] | rw [outcomeOr_fault]
    | exact hits_any | with_reducible apply Within.afterAny (draw_within _) | split | dsimp only

theorem regsOff_within (s : State) (ds : List Domain) :
    Within [.regs, .staged] [.any] s (regsOff s ds) := by
  refine Within.regsAny (fun w => spWf_filter _ _ w) rfl (fun p hp => ?_)
  cases p <;> first | exact absurd (by decide) hp | rfl

theorem bermGone_within (s : State) (p : Nat) :
    Within [.ports] [] s (bermGone s p) := by
  unfold bermGone
  try dsimp only
  repeat' first
    | decide | with_reducible apply Within.refl | with_reducible apply Within.ite | split | with_reducible apply Within.set
    | (intro p hp; cases p <;> first | exact absurd (by decide) hp | rfl) | dsimp only

theorem portOff_within (s : State) (p : Nat) :
    Within [.regs, .mode, .clk, .tim, .sel, .ports, .jieth, .fab, .gauges, .cal, .cmd, .aud, .out, .freeCtr] [.clk, .dll, .time, .ref, .slot, .port, .fport, .queue, .eng, .perf, .cal, .aud, .cmd] s (portOff s p) := by
  unfold portOff
  try dsimp only
  repeat' first
    | decide | with_reducible apply Within.refl | with_reducible apply Within.ite | with_reducible apply Within.after (portDown_within _ _ _)
    | with_reducible apply Within.after (phaseLose_within _ _) | with_reducible apply Within.after (loseSource_within _ _ _)
    | with_reducible apply Within.after (bermGone_within _ _) | with_reducible apply Within.after (updPort_within _ _ _) | split | dsimp only

theorem pllOff_within (s : State) (hbm : Bool) :
    Within [.regs] [.clk] s (pllOff s hbm) := by
  unfold pllOff
  try dsimp only
  repeat' first
    | decide | with_reducible apply Within.refl | with_reducible apply Within.ite | exact (hits_pll (by decide)).1 | exact (hits_pll (by decide)).2.1
    | exact (hits_pll (by decide)).2.2 | with_reducible apply setF_in | (rw [hits_cons]; simp only [hits_nil, hits_cons, Area.has]; omega) | split
    | dsimp only

theorem linkOff_within (s : State) (n : Nat) :
    Within [.regs, .mode, .clk, .tim, .sel, .ports, .jieth, .fab, .gauges, .cal, .cmd, .aud, .out, .freeCtr] [.clk, .dll, .time, .ref, .slot, .port, .link, .jg, .pair, .fport, .queue, .eng, .perf, .cal, .aud, .cmd] s (linkOff s n) := by
  unfold linkOff
  try dsimp only
  repeat' first
    | decide | with_reducible apply Within.refl | with_reducible apply Within.ite | with_reducible apply Within.after (linkDrop_within _ _)
    | with_reducible apply Within.after (linkLost_within _ _) | split | dsimp only

theorem ptpOff_within (s : State) :
    Within [.ports] [] s (ptpOff s) := by
  unfold ptpOff
  try dsimp only
  repeat' first
    | decide | with_reducible apply Within.refl | with_reducible apply Within.ite | split | with_reducible apply Within.set
    | (intro p hp; cases p <;> first | exact absurd (by decide) hp | rfl) | dsimp only

theorem fabOff_within (s : State) :
    Within [.fab] [] s (fabOff s) := by
  unfold fabOff
  try dsimp only
  repeat' first
    | decide | with_reducible apply Within.refl | with_reducible apply Within.ite | split | with_reducible apply Within.set
    | (intro p hp; cases p <;> first | exact absurd (by decide) hp | rfl) | dsimp only

theorem jiethOff_within (s : State) :
    Within [.jieth] [] s (jiethOff s) := by
  unfold jiethOff
  try dsimp only
  repeat' first
    | decide | with_reducible apply Within.refl | with_reducible apply Within.ite | split | with_reducible apply Within.set
    | (intro p hp; cases p <;> first | exact absurd (by decide) hp | rfl) | dsimp only

theorem domainOff_within (s : State) (d : Domain) :
    Within [.regs, .mode, .pcieUp, .clk, .tim, .sel, .ports, .jieth, .fab, .gauges, .gnss, .cal, .cmd, .aud, .out, .freeCtr] [.clk, .dll, .time, .ref, .slot, .port, .link, .jg, .pair, .fport, .queue, .ga, .gnss, .chan, .eng, .perf, .cal, .aud, .cmd] s (domainOff s d) := by
  unfold domainOff
  try dsimp only
  repeat' first
    | decide | with_reducible apply Within.refl | with_reducible apply Within.ite | with_reducible apply Within.after (loseSource_within _ _ _)
    | with_reducible apply Within.after (gnssOff_within _) | with_reducible apply Within.after (gaugesOff_within _)
    | with_reducible apply Within.after (linkOff_within _ _) | with_reducible apply Within.after (jiethOff_within _)
    | with_reducible apply Within.after (fabricDown_within _ _) | with_reducible apply Within.after (fabOff_within _)
    | with_reducible apply Within.after (pllOff_within _ _) | with_reducible apply Within.after (ptpOff_within _)
    | with_reducible apply Within.after (portOff_within _ _) | split
    | (with_reducible apply Within.fold (l := [.regs, .mode, .pcieUp, .clk, .tim, .sel, .ports, .jieth, .fab, .gauges, .gnss, .cal, .cmd, .aud, .out, .freeCtr]) (g := [.clk, .dll, .time, .ref, .slot, .port, .link, .jg, .pair, .fport, .queue, .ga, .gnss, .chan, .eng, .perf, .cal, .aud, .cmd]); intro _ _)
    | with_reducible apply Within.set | (intro p hp; cases p <;> first | exact absurd (by decide) hp | rfl) | dsimp only

theorem unpower_within (s : State) (ds : List Domain) :
    Within [.domains] [] s (unpower s ds) := by
  unfold unpower
  try dsimp only
  repeat' first
    | decide | with_reducible apply Within.refl | with_reducible apply Within.ite | split | with_reducible apply Within.set
    | (intro p hp; cases p <;> first | exact absurd (by decide) hp | rfl) | dsimp only

theorem domainsOff_within (s : State) (ds : List Domain) :
    Within [.regs, .staged, .mode, .domains, .pcieUp, .clk, .tim, .sel, .ports, .jieth, .fab, .gauges, .gnss, .cal, .cmd, .aud, .out, .freeCtr] [.any] s (domainsOff s ds) := by
  unfold domainsOff
  try dsimp only
  repeat' first
    | decide | with_reducible apply Within.refl | with_reducible apply Within.ite | with_reducible apply Within.afterAny (calPowerDown_within _ _)
    | with_reducible apply Within.afterAny (domainOff_within _ _) | with_reducible apply Within.afterAny (unpower_within _ _)
    | with_reducible apply Within.afterAny (regsOff_within _ _) | exact hits_any | split
    | (with_reducible apply Within.fold (l := [.regs, .staged, .mode, .domains, .pcieUp, .clk, .tim, .sel, .ports, .jieth, .fab, .gauges, .gnss, .cal, .cmd, .aud, .out, .freeCtr]) (g := [.any]); intro _ _)
    | dsimp only

theorem eqLoad_within (s : State) (ds : List Domain) :
    Within [.regs] [.any] s (eqLoad s ds) := by
  unfold eqLoad
  try dsimp only
  repeat' first
    | decide | with_reducible apply Within.refl | with_reducible apply Within.ite | with_reducible apply setF_in | with_reducible apply setB_in
    | exact hits_any | with_reducible apply setWord_any | split | (with_reducible apply Within.fold (l := [.regs]) (g := [.any]); intro _ _)
    | dsimp only

theorem powerDomains_within (s : State) (ds : List Domain) :
    Within [.domains] [] s (powerDomains s ds) := by
  unfold powerDomains
  try dsimp only
  repeat' first
    | decide | with_reducible apply Within.refl | with_reducible apply Within.ite | split | with_reducible apply Within.set
    | (intro p hp; cases p <;> first | exact absurd (by decide) hp | rfl) | dsimp only

theorem fabFresh_within (s : State) :
    Within [.fab] [] s (fabFresh s) := by
  unfold fabFresh
  try dsimp only
  repeat' first
    | decide | with_reducible apply Within.refl | with_reducible apply Within.ite | split | with_reducible apply Within.set
    | (intro p hp; cases p <;> first | exact absurd (by decide) hp | rfl) | dsimp only

theorem pllOn_within (s : State) (ds : List Domain) (hbm : Bool) :
    Within [.regs, .clk] [.clk] s (pllOn s ds hbm) := by
  unfold pllOn
  try dsimp only
  repeat' first
    | decide | with_reducible apply Within.refl | with_reducible apply Within.ite | with_reducible apply Within.after (pllStart_within _ _) | split
    | dsimp only

theorem domainsOn_within (s : State) (l : List Domain) :
    Within [.regs, .staged, .domains, .clk, .fab, .coarse, .out] [.any] s (domainsOn s l) := by
  unfold domainsOn
  try dsimp only
  repeat' first
    | decide | with_reducible apply Within.refl | with_reducible apply Within.ite | with_reducible apply Within.afterAny (coarseRestart_within _)
    | with_reducible apply Within.afterAny (pllOn_within _ _ _) | with_reducible apply Within.afterAny (fabFresh_within _)
    | with_reducible apply Within.afterAny (powerDomains_within _ _) | with_reducible apply Within.afterAny (regsOff_within _ _)
    | with_reducible apply Within.afterAny (eqLoad_within _ _) | with_reducible apply Within.afterAny (evalMismatch_within _) | exact hits_any | split
    | dsimp only

theorem resetParts_within (s : State) :
    Within [.regs, .staged, .mode, .powerTo, .domains, .calEntry, .boot, .image, .cpUp, .wakeS, .waking, .pcieUp, .hb, .hbAt, .clk, .tim, .sel, .ports, .jieth, .pair, .fab, .coarse, .gauges, .gnss, .engs, .cal, .cmd, .sec, .tod] [.any] s (resetParts s) := by
  refine Within.regsAny (fun w => spWf_filter _ _ w) rfl (fun p hp => ?_)
  cases p <;> first | exact absurd (by decide) hp | rfl

theorem resetCore_within (s : State) :
    Within [.regs, .staged, .mode, .powerTo, .domains, .calEntry, .boot, .image, .cpUp, .wakeS, .waking, .flash, .pcieUp, .hb, .hbAt, .clk, .tim, .sel, .ports, .jieth, .pair, .fab, .coarse, .gauges, .gnss, .engs, .cal, .cmd, .sec, .out, .freeCtr, .tod] [.any] s (resetCore s) := by
  unfold resetCore
  try dsimp only
  repeat' first
    | decide | with_reducible apply Within.refl | with_reducible apply Within.ite | with_reducible apply Within.afterAny (cutStore_within _)
    | with_reducible apply Within.afterAny (closeDebug_within _) | with_reducible apply Within.afterAny (resetParts_within _)
    | with_reducible apply setF_in | exact hits_any | split | dsimp only

theorem sysRegs_within (s : State) :
    Within [.regs, .idLoaded, .boardSet] [.any] s (sysRegs s) := by
  refine Within.regsAny (fun w => spWf_filter _ _ w) rfl (fun p hp => ?_)
  cases p <;> first | exact absurd (by decide) hp | rfl

theorem sysReset_within (s : State) (code : Nat) :
    Within [.regs, .idLoaded, .boardSet] [.any] s (sysReset s code) := by
  unfold sysReset
  try dsimp only
  repeat' first
    | decide | with_reducible apply Within.refl | with_reducible apply Within.ite | with_reducible apply Within.afterAny (sysRegs_within _)
    | with_reducible apply setF_in | exact hits_any | with_reducible apply setWord_any | split | dsimp only

theorem resetDevice_within (s : State) (code : Nat) :
    Within [.regs, .staged, .mode, .powerTo, .domains, .calEntry, .boot, .image, .cpUp, .wakeS, .idLoaded, .boardSet, .waking, .flash, .pcieUp, .hb, .hbAt, .clk, .tim, .sel, .ports, .jieth, .pair, .fab, .coarse, .gauges, .gnss, .engs, .cal, .cmd, .sec, .out, .freeCtr, .tod] [.any] s (resetDevice s code) := by
  unfold resetDevice
  try dsimp only
  repeat' first
    | decide | with_reducible apply Within.refl | with_reducible apply Within.ite | with_reducible apply Within.afterAny (resetCore_within _)
    | with_reducible apply Within.afterAny (sysReset_within _ _) | exact hits_any | split | dsimp only

theorem afterPower_within (s : State) :
    Within [.regs, .staged, .mode, .power, .powerTo, .domains, .calEntry, .boot, .image, .cpUp, .wakeS, .idLoaded, .boardSet, .waking, .collapsed, .straps, .pcieUp, .hb, .hbAt, .clk, .tim, .sel, .ports, .jieth, .pair, .fab, .coarse, .gauges, .gnss, .engs, .cal, .cmd, .sec, .aud, .tod] [.any] s (afterPower s) := by
  refine ⟨fun p hp => ?_, fun _ k => absurd trivial (k .any (by simp)), fun _ => rfl, fun _ => ⟨Nat.zero_le _, Nat.zero_le _⟩⟩
  cases p <;> first | exact absurd (by decide) hp | rfl

theorem execResetNLow_within (s : State) :
    Within [.regs, .staged, .mode, .powerTo, .domains, .calEntry, .boot, .image, .cpUp, .wakeS, .idLoaded, .boardSet, .waking, .flash, .pins, .pcieUp, .hb, .hbAt, .clk, .tim, .sel, .ports, .jieth, .pair, .fab, .coarse, .gauges, .gnss, .engs, .cal, .cmd, .sec, .out, .freeCtr, .tod] [.any] s (outcomeOr s (execResetNLow s)) := by
  unfold execResetNLow
  try dsimp only
  repeat' first
    | decide | with_reducible apply Within.refl | with_reducible apply Within.ite | with_reducible apply Within.afterAny (resetDevice_within _ _)
    | rw [outcomeOr_ok] | rw [outcomeOr_fault] | exact hits_any | split | with_reducible apply Within.set
    | (intro p hp; cases p <;> first | exact absurd (by decide) hp | rfl) | dsimp only

theorem execPowerOn_within (s : State) :
    Within [.regs, .staged, .mode, .power, .powerTo, .domains, .calEntry, .boot, .image, .cpUp, .wakeS, .idLoaded, .boardSet, .waking, .collapsed, .straps, .pcieUp, .hb, .hbAt, .clk, .tim, .sel, .ports, .jieth, .pair, .fab, .coarse, .gauges, .gnss, .engs, .cal, .cmd, .sec, .aud, .tod] [.any] s (outcomeOr s (execPowerOn s)) := by
  unfold execPowerOn
  try dsimp only
  repeat' first
    | decide | with_reducible apply Within.refl | with_reducible apply Within.ite | with_reducible apply Within.afterAny (afterPower_within _)
    | rw [outcomeOr_ok] | rw [outcomeOr_fault] | exact hits_any | split | dsimp only

theorem execAonSupplyLoss_within (s : State) :
    Within [.regs, .staged, .mode, .power, .powerTo, .domains, .calEntry, .boot, .image, .cpUp, .wakeS, .idLoaded, .boardSet, .waking, .collapsed, .straps, .flash, .pcieUp, .hb, .hbAt, .clk, .tim, .sel, .ports, .jieth, .pair, .fab, .coarse, .gauges, .gnss, .engs, .cal, .cmd, .sec, .aud, .freeCtr, .tod] [.any] s (outcomeOr s (execAonSupplyLoss s)) := by
  unfold execAonSupplyLoss
  try dsimp only
  repeat' first
    | decide | with_reducible apply Within.refl | with_reducible apply Within.ite | with_reducible apply Within.afterAny (cutStore_within _)
    | with_reducible apply Within.afterAny (afterPower_within _) | rw [outcomeOr_ok] | rw [outcomeOr_fault] | exact hits_any | split
    | with_reducible apply Within.set | (intro p hp; cases p <;> first | exact absurd (by decide) hp | rfl) | dsimp only

theorem execRailOutOfWindow_within (r : Rail) (s : State) :
    Within [.regs, .mode, .powerTo, .domains, .boot, .waking, .flash, .pcieUp, .hb, .ports, .jieth, .cal, .cmd, .aud, .out, .freeCtr] [.sys, .link, .perf, .aud, .cmd] s (outcomeOr s (execRailOutOfWindow r s)) := by
  unfold execRailOutOfWindow
  try dsimp only
  repeat' first
    | decide | with_reducible apply Within.refl | with_reducible apply Within.ite | with_reducible apply Within.after (enterFault_within _ _)
    | rw [outcomeOr_ok] | rw [outcomeOr_fault] | split | dsimp only

theorem execSupplyCollapse_within (r : Rail) (s : State) :
    Within [.regs, .staged, .mode, .power, .powerTo, .domains, .calEntry, .boot, .image, .cpUp, .wakeS, .waking, .collapsed, .flash, .pcieUp, .hb, .hbAt, .clk, .tim, .sel, .ports, .jieth, .pair, .fab, .coarse, .gauges, .gnss, .engs, .cal, .cmd, .sec, .out, .freeCtr, .tod] [.any] s (outcomeOr s (execSupplyCollapse r s)) := by
  unfold execSupplyCollapse
  try dsimp only
  repeat' first
    | decide | with_reducible apply Within.refl | with_reducible apply Within.ite | with_reducible apply Within.afterAny (resetCore_within _)
    | rw [outcomeOr_ok] | rw [outcomeOr_fault] | exact hits_any | split | with_reducible apply Within.set
    | (intro p hp; cases p <;> first | exact absurd (by decide) hp | rfl) | dsimp only

theorem execPerstNLow_within (s : State) :
    Within [.pins, .pcieUp, .cmd] [] s (outcomeOr s (execPerstNLow s)) := by
  unfold execPerstNLow
  try dsimp only
  repeat' first
    | decide | with_reducible apply Within.refl | with_reducible apply Within.ite | rw [outcomeOr_ok] | rw [outcomeOr_fault] | split
    | with_reducible apply Within.set | (intro p hp; cases p <;> first | exact absurd (by decide) hp | rfl) | dsimp only

theorem execTrstNLow_within (s : State) :
    Within [] [] s (outcomeOr s (execTrstNLow s)) := by
  unfold execTrstNLow
  try dsimp only
  repeat' first
    | decide | with_reducible apply Within.refl | with_reducible apply Within.ite | rw [outcomeOr_ok] | rw [outcomeOr_fault] | split | dsimp only

theorem execDebugClose_within (s : State) :
    Within [.regs, .pins, .out] [.sec] s (outcomeOr s (execDebugClose s)) := by
  unfold execDebugClose
  try dsimp only
  repeat' first
    | decide | with_reducible apply Within.refl | with_reducible apply Within.ite | with_reducible apply Within.after (closeDebug_within _)
    | rw [outcomeOr_ok] | rw [outcomeOr_fault] | split | with_reducible apply Within.set
    | (intro p hp; cases p <;> first | exact absurd (by decide) hp | rfl) | dsimp only

theorem execFaultEntry_within (c : FaultCause) (s : State) :
    Within [.regs, .mode, .powerTo, .domains, .boot, .waking, .flash, .pcieUp, .hb, .ports, .jieth, .cal, .cmd, .aud, .out, .freeCtr] [.sys, .link, .perf, .aud, .cmd] s (outcomeOr s (execFaultEntry c s)) := by
  unfold execFaultEntry
  try dsimp only
  repeat' first
    | decide | with_reducible apply Within.refl | with_reducible apply Within.ite | with_reducible apply Within.after (enterFault_within _ _)
    | rw [outcomeOr_ok] | rw [outcomeOr_fault] | split | dsimp only

theorem firmwareEngines_within (s : State) :
    Within [.regs] [.ue] s (firmwareEngines s) := by
  unfold firmwareEngines
  try dsimp only
  repeat' first
    | decide | with_reducible apply Within.refl | with_reducible apply Within.ite | with_reducible apply setF_in
    | (rw [hits_cons]; simp only [hits_nil, hits_cons, Area.has, Reg.UE_ENG_STATUS_RUNNING]; omega) | split
    | (with_reducible apply Within.fold (l := [.regs]) (g := [.ue]); intro _ _) | dsimp only

theorem imageInfo_within (s : State) (img : Nat) (f : FwImage) :
    Within [.regs] [.sys, .sec] s (imageInfo s img f) := by
  unfold imageInfo
  try dsimp only
  repeat' first
    | decide | with_reducible apply Within.refl | with_reducible apply Within.ite | with_reducible apply setF_in
    | (rw [hits_cons]; simp only [hits_nil, hits_cons, Area.has, Reg.SYS_BOOT_STATUS_IMAGE, Reg.SYS_BOOT_STATUS_FW_VERSION, Reg.SEC_BOOT_INFO_SVN_RUN, Reg.SEC_BOOT_INFO_KEY_SLOT_RUN]; omega)
    | split | dsimp only

theorem cpStart_within (s : State) :
    Within [.boot, .cpUp] [] s (cpStart s) := by
  unfold cpStart
  try dsimp only
  repeat' first
    | decide | with_reducible apply Within.refl | with_reducible apply Within.ite | split | with_reducible apply Within.set
    | (intro p hp; cases p <;> first | exact absurd (by decide) hp | rfl) | dsimp only

theorem bootEnd_within (s : State) (f : FwImage) :
    Within [.regs, .mode, .hb, .hbAt, .aud, .out] [.aud] s (bootEnd s f) := by
  unfold bootEnd
  try dsimp only
  repeat' first
    | decide | with_reducible apply Within.refl | with_reducible apply Within.ite | with_reducible apply Within.after (auditEvent_within _ _ _ _ _)
    | split | with_reducible apply Within.set | (intro p hp; cases p <;> first | exact absurd (by decide) hp | rfl) | dsimp only

theorem bootFinish_within (s : State) (img : Nat) (f : FwImage) :
    Within [.regs, .staged, .mode, .domains, .boot, .cpUp, .flash, .hb, .hbAt, .clk, .ports, .fab, .coarse, .cal, .aud, .out] [.any] s (bootFinish s img f) := by
  unfold bootFinish
  try dsimp only
  repeat' first
    | decide | with_reducible apply Within.refl | with_reducible apply Within.ite | with_reducible apply Within.afterAny (voteCal_within _)
    | with_reducible apply Within.afterAny (bootEnd_within _ _) | with_reducible apply Within.afterAny (imageInfo_within _ _ _)
    | with_reducible apply Within.afterAny (cpStart_within _) | with_reducible apply Within.afterAny (domainsOn_within _ _)
    | with_reducible apply Within.afterAny (firmwareEngines_within _) | exact hits_any | split | dsimp only

theorem bootFlash_within (s : State) :
    Within [.regs, .staged, .mode, .powerTo, .domains, .boot, .cpUp, .waking, .flash, .pcieUp, .hb, .hbAt, .clk, .ports, .jieth, .fab, .coarse, .cal, .cmd, .aud, .out, .freeCtr] [.any] s (bootFlash s) := by
  unfold bootFlash
  try dsimp only
  repeat' first
    | decide | with_reducible apply Within.refl | with_reducible apply Within.ite | with_reducible apply Within.afterAny (enterFault_within _ _)
    | with_reducible apply Within.afterAny (bootFinish_within _ _ _) | with_reducible apply setF_in | with_reducible apply raiseIf_in | exact hits_any
    | split | dsimp only

theorem hostUp_within (s : State) :
    Within [.pcieUp] [] s (hostUp s) := by
  unfold hostUp
  try dsimp only
  repeat' first
    | decide | with_reducible apply Within.refl | with_reducible apply Within.ite | split | with_reducible apply Within.set
    | (intro p hp; cases p <;> first | exact absurd (by decide) hp | rfl) | dsimp only

theorem dividersStart_within (s : State) :
    Within [.clk] [] s (dividersStart s) := by
  unfold dividersStart
  try dsimp only
  repeat' first
    | decide | with_reducible apply Within.refl | with_reducible apply Within.ite | split | with_reducible apply Within.set
    | (intro p hp; cases p <;> first | exact absurd (by decide) hp | rfl) | dsimp only

theorem rootStarts_within (s : State) :
    Within [.regs, .staged, .domains, .pcieUp, .clk, .fab, .coarse, .out] [.any] s (rootStarts s) := by
  unfold rootStarts
  try dsimp only
  repeat' first
    | decide | with_reducible apply Within.refl | with_reducible apply Within.ite | with_reducible apply Within.afterAny (dividersStart_within _)
    | with_reducible apply Within.afterAny (domainsOn_within _ _) | with_reducible apply Within.afterAny (hostUp_within _)
    | with_reducible apply setF_in | exact hits_any | split | dsimp only

theorem bootRooted_within (s : State) (b : BootEnv) :
    Within [.regs, .staged, .mode, .powerTo, .domains, .boot, .cpUp, .waking, .flash, .pcieUp, .hb, .hbAt, .clk, .ports, .jieth, .fab, .coarse, .cal, .cmd, .aud, .out, .freeCtr] [.any] s (bootRooted s b) := by
  unfold bootRooted
  try dsimp only
  repeat' first
    | decide | with_reducible apply Within.refl | with_reducible apply Within.ite | with_reducible apply Within.afterAny (bootFlash_within _)
    | with_reducible apply Within.afterAny (rootStarts_within _) | exact hits_any | split | with_reducible apply Within.set
    | (intro p hp; cases p <;> first | exact absurd (by decide) hp | rfl) | dsimp only

theorem bootEnter_within (s : State) (b : BootEnv) :
    Within [.mode, .power, .powerTo, .domains, .idLoaded, .collapsed, .straps, .otp, .flash] [] s (bootEnter s b) := by
  unfold bootEnter
  try dsimp only
  repeat' first
    | decide | with_reducible apply Within.refl | with_reducible apply Within.ite | split | with_reducible apply Within.set
    | (intro p hp; cases p <;> first | exact absurd (by decide) hp | rfl) | dsimp only

theorem bootIdentity_within (s : State) (pufOk : Bool) :
    Within [.regs, .sec, .out] [.sec] s (bootIdentity s pufOk) := by
  unfold bootIdentity
  try dsimp only
  repeat' first
    | decide | with_reducible apply Within.refl | with_reducible apply Within.ite | with_reducible apply setB_in | with_reducible apply raise_in
    | (rw [hits_cons]; simp only [hits_nil, hits_cons, Area.has, Reg.SEC_STATUS_ID_VALID, Reg.SEC_EVENTS_ID_FAIL]; omega) | split
    | with_reducible apply Within.set | (intro p hp; cases p <;> first | exact absurd (by decide) hp | rfl) | dsimp only

theorem bootRoot_within (s : State) (b : BootEnv) :
    Within [.regs, .staged, .mode, .powerTo, .domains, .boot, .cpUp, .waking, .flash, .pcieUp, .hb, .hbAt, .clk, .ports, .jieth, .fab, .coarse, .cal, .cmd, .aud, .out, .freeCtr] [.any] s (bootRoot s b) := by
  unfold bootRoot
  try dsimp only
  repeat' first
    | decide | with_reducible apply Within.refl | with_reducible apply Within.ite | with_reducible apply Within.afterAny (bootRooted_within _ _)
    | with_reducible apply setB_in | exact hits_any | split | with_reducible apply Within.set
    | (intro p hp; cases p <;> first | exact absurd (by decide) hp | rfl) | dsimp only

theorem bootStart_within (s : State) (b : BootEnv) :
    Within [.regs, .staged, .mode, .power, .powerTo, .domains, .boot, .cpUp, .idLoaded, .waking, .collapsed, .straps, .otp, .flash, .pcieUp, .hb, .hbAt, .clk, .ports, .jieth, .fab, .coarse, .cal, .cmd, .sec, .aud, .out, .freeCtr] [.any] s (bootStart s b) := by
  unfold bootStart
  try dsimp only
  repeat' first
    | decide | with_reducible apply Within.refl | with_reducible apply Within.ite | with_reducible apply Within.afterAny (domainsOn_within _ _)
    | with_reducible apply Within.afterAny (bootRoot_within _ _) | with_reducible apply Within.afterAny (enterFault_within _ _)
    | with_reducible apply Within.afterAny (bootEnter_within _ _) | with_reducible apply Within.afterAny (bootIdentity_within _ _) | exact hits_any
    | split | dsimp only

theorem execAonExit_within (b : BootEnv) (s : State) :
    Within [.regs, .staged, .mode, .power, .powerTo, .domains, .boot, .cpUp, .idLoaded, .boardSet, .waking, .collapsed, .straps, .otp, .flash, .pcieUp, .hb, .hbAt, .clk, .ports, .jieth, .fab, .coarse, .cal, .cmd, .sec, .aud, .out, .freeCtr] [.any] s (outcomeOr s (execAonExit b s)) := by
  unfold execAonExit
  try dsimp only
  repeat' first
    | decide | with_reducible apply Within.refl | with_reducible apply Within.ite | with_reducible apply Within.afterAny (sysReset_within _ _)
    | with_reducible apply Within.afterAny (bootStart_within _ _) | rw [outcomeOr_ok] | rw [outcomeOr_fault] | exact hits_any | split | dsimp only

theorem execResetRelease_within (b : BootEnv) (s : State) :
    Within [.regs, .staged, .mode, .power, .powerTo, .domains, .boot, .cpUp, .idLoaded, .waking, .collapsed, .straps, .otp, .flash, .pins, .pcieUp, .hb, .hbAt, .clk, .ports, .jieth, .fab, .coarse, .cal, .cmd, .sec, .aud, .out, .freeCtr] [.any] s (outcomeOr s (execResetRelease b s)) := by
  unfold execResetRelease
  try dsimp only
  repeat' first
    | decide | with_reducible apply Within.refl | with_reducible apply Within.ite | with_reducible apply Within.afterAny (bootStart_within _ _)
    | rw [outcomeOr_ok] | rw [outcomeOr_fault] | exact hits_any | split | with_reducible apply Within.set
    | (intro p hp; cases p <;> first | exact absurd (by decide) hp | rfl) | dsimp only

theorem execBootRootTimeout_within (s : State) :
    Within [.regs, .mode, .powerTo, .domains, .boot, .waking, .flash, .pcieUp, .hb, .ports, .jieth, .cal, .cmd, .aud, .out, .freeCtr] [.sys, .link, .perf, .aud, .cmd] s (outcomeOr s (execBootRootTimeout s)) := by
  unfold execBootRootTimeout
  try dsimp only
  repeat' first
    | decide | with_reducible apply Within.refl | with_reducible apply Within.ite | with_reducible apply Within.after (enterFault_within _ _)
    | rw [outcomeOr_ok] | rw [outcomeOr_fault] | split | dsimp only

theorem execRootLock_within (s : State) :
    Within [.regs, .staged, .mode, .powerTo, .domains, .boot, .cpUp, .waking, .flash, .pcieUp, .hb, .hbAt, .clk, .ports, .jieth, .fab, .coarse, .cal, .cmd, .aud, .out, .freeCtr] [.any] s (outcomeOr s (execRootLock s)) := by
  unfold execRootLock
  try dsimp only
  repeat' first
    | decide | with_reducible apply Within.refl | with_reducible apply Within.ite | with_reducible apply Within.afterAny (bootRooted_within _ _)
    | rw [outcomeOr_ok] | rw [outcomeOr_fault] | with_reducible apply setF_in | exact hits_any | split | dsimp only

theorem beginWake_within (s : State) :
    Within [.powerTo, .waking] [] s (beginWake s) := by
  unfold beginWake
  try dsimp only
  repeat' first
    | decide | with_reducible apply Within.refl | with_reducible apply Within.ite | split | with_reducible apply Within.set
    | (intro p hp; cases p <;> first | exact absurd (by decide) hp | rfl) | dsimp only

theorem execWakeEvent_within (src : WakeSrc) (s : State) :
    Within [.powerTo, .waking, .pins] [] s (outcomeOr s (execWakeEvent src s)) := by
  unfold execWakeEvent
  try dsimp only
  repeat' first
    | decide | with_reducible apply Within.refl | with_reducible apply Within.ite | with_reducible apply Within.after (beginWake_within _)
    | rw [outcomeOr_ok] | rw [outcomeOr_fault] | split | with_reducible apply Within.set
    | (intro p hp; cases p <;> first | exact absurd (by decide) hp | rfl) | dsimp only

theorem execPerstNDeassertion_within (s : State) :
    Within [.powerTo, .waking, .pins, .pcieUp] [] s (outcomeOr s (execPerstNDeassertion s)) := by
  unfold execPerstNDeassertion
  try dsimp only
  repeat' first
    | decide | with_reducible apply Within.refl | with_reducible apply Within.ite | with_reducible apply Within.after (beginWake_within _)
    | rw [outcomeOr_ok] | rw [outcomeOr_fault] | split | with_reducible apply Within.set
    | (intro p hp; cases p <;> first | exact absurd (by decide) hp | rfl) | dsimp only

theorem inKeep_within (s : State) :
    Within [.power, .powerTo] [] s (inKeep s) := by
  unfold inKeep
  try dsimp only
  repeat' first
    | decide | with_reducible apply Within.refl | with_reducible apply Within.ite | split | with_reducible apply Within.set
    | (intro p hp; cases p <;> first | exact absurd (by decide) hp | rfl) | dsimp only

theorem execKeepPowerDown_within (s : State) :
    Within [.regs, .staged, .mode, .power, .powerTo, .domains, .pcieUp, .clk, .tim, .sel, .ports, .jieth, .fab, .gauges, .gnss, .engs, .cal, .cmd, .aud, .out, .freeCtr] [.any] s (outcomeOr s (execKeepPowerDown s)) := by
  unfold execKeepPowerDown
  try dsimp only
  repeat' first
    | decide | with_reducible apply Within.refl | with_reducible apply Within.ite | with_reducible apply Within.afterAny (closeDebug_within _)
    | with_reducible apply Within.afterAny (domainsOff_within _ _) | with_reducible apply Within.afterAny (engsOff_within _)
    | with_reducible apply Within.afterAny (inKeep_within _) | rw [outcomeOr_ok] | rw [outcomeOr_fault] | exact hits_any | split | dsimp only

theorem wakeEnds_within (s : State) :
    Within [.regs, .power, .powerTo, .wakeS, .waking] [.any] s (wakeEnds s) := by
  refine Within.regsAny (fun w => spWf_filter _ _ w) rfl (fun p hp => ?_)
  cases p <;> first | exact absurd (by decide) hp | rfl

theorem execWakeComplete_within (readOk : Bool) (s : State) :
    Within [.regs, .staged, .mode, .power, .powerTo, .domains, .boot, .wakeS, .waking, .flash, .pcieUp, .hb, .clk, .tim, .sel, .ports, .jieth, .fab, .coarse, .gauges, .gnss, .cal, .cmd, .aud, .out, .freeCtr] [.any] s (outcomeOr s (execWakeComplete readOk s)) := by
  unfold execWakeComplete
  try dsimp only
  repeat' first
    | decide | with_reducible apply Within.refl | with_reducible apply Within.ite | with_reducible apply Within.afterAny (enterMode_within _ _)
    | with_reducible apply Within.afterAny (hostUp_within _) | with_reducible apply Within.afterAny (auditEvent_within _ _ _ _ _)
    | with_reducible apply Within.afterAny (wakeEnds_within _) | with_reducible apply Within.afterAny (domainsOn_within _ _)
    | with_reducible apply Within.afterAny (firmwareEngines_within _) | with_reducible apply Within.afterAny (gnssWake_within _)
    | with_reducible apply Within.afterAny (enterFault_within _ _) | rw [outcomeOr_ok] | rw [outcomeOr_fault] | with_reducible apply setF_in
    | exact hits_any | split | dsimp only

theorem execPowerSequenceDone_within (s : State) :
    Within [.regs, .staged, .power, .powerTo, .domains, .clk, .fab, .coarse, .out] [.any] s (outcomeOr s (execPowerSequenceDone s)) := by
  unfold execPowerSequenceDone
  try dsimp only
  repeat' first
    | decide | with_reducible apply Within.refl | with_reducible apply Within.ite | with_reducible apply Within.afterAny (domainsOn_within _ _)
    | rw [outcomeOr_ok] | rw [outcomeOr_fault] | exact hits_any | split | with_reducible apply Within.set
    | (intro p hp; cases p <;> first | exact absurd (by decide) hp | rfl) | dsimp only

theorem enterBench_within (s : State) :
    Within [.regs, .staged, .mode, .powerTo, .domains, .pcieUp, .clk, .tim, .sel, .ports, .jieth, .fab, .gauges, .gnss, .cal, .cmd, .aud, .out, .freeCtr] [.any] s (enterBench s) := by
  unfold enterBench
  try dsimp only
  repeat' first
    | decide | with_reducible apply Within.refl | with_reducible apply Within.ite | with_reducible apply Within.afterAny (enterMode_within _ _)
    | with_reducible apply Within.afterAny (domainsOff_within _ _) | exact hits_any | split | with_reducible apply Within.set
    | (intro p hp; cases p <;> first | exact absurd (by decide) hp | rfl) | dsimp only

theorem openLoops_within (s : State) :
    Within [.regs, .clk, .tim, .gauges, .freeCtr] [.clk, .dll] s (openLoops s) := by
  unfold openLoops
  try dsimp only
  repeat' first
    | decide | with_reducible apply Within.refl | with_reducible apply Within.ite | with_reducible apply Within.after (rootInput_within _ _) | split
    | with_reducible apply Within.set | (intro p hp; cases p <;> first | exact absurd (by decide) hp | rfl) | dsimp only

theorem endCoast_within (s : State) :
    Within [.sel] [] s (endCoast s) := by
  unfold endCoast
  try dsimp only
  repeat' first
    | decide | with_reducible apply Within.refl | with_reducible apply Within.ite | split | with_reducible apply Within.set
    | (intro p hp; cases p <;> first | exact absurd (by decide) hp | rfl) | dsimp only

theorem towardFull_within (s : State) :
    Within [.powerTo] [] s (towardFull s) := by
  unfold towardFull
  try dsimp only
  repeat' first
    | decide | with_reducible apply Within.refl | with_reducible apply Within.ite | split | with_reducible apply Within.set
    | (intro p hp; cases p <;> first | exact absurd (by decide) hp | rfl) | dsimp only

theorem leaveBench_within (s : State) :
    Within [.regs, .mode, .powerTo, .clk, .tim, .sel, .gauges, .out, .freeCtr] [.clk, .dll, .ref, .eng] s (leaveBench s) := by
  unfold leaveBench
  try dsimp only
  repeat' first
    | decide | with_reducible apply Within.refl | with_reducible apply Within.ite | with_reducible apply Within.after (requestWord_within _ _)
    | with_reducible apply Within.after (evalTrims_within _) | with_reducible apply Within.after (towardFull_within _)
    | with_reducible apply Within.after (dropSelection_within _) | with_reducible apply Within.after (enterMode_within _ _)
    | with_reducible apply Within.after (openLoops_within _) | with_reducible apply Within.after (endCoast_within _) | split | dsimp only

theorem slotQuiet_within (s : State) (n : Nat) :
    Within [.regs, .clk, .sel] [.slot] s (slotQuiet s n) := by
  unfold slotQuiet
  try dsimp only
  repeat' first
    | decide | with_reducible apply Within.refl | with_reducible apply Within.ite | with_reducible apply Within.after (loseSlot_within _ _ _)
    | with_reducible apply setF_in | (rw [hits_cons]; simp only [hits_nil, hits_cons, Area.has, Reg.SLOT_SLOT_STATUS_SRC_VALID]; omega)
    | with_reducible apply Within.after (updSlot_within _ _ _) | split | dsimp only

theorem slotsQuiet_within (s : State) :
    Within [.regs, .clk, .sel] [.slot] s (slotsQuiet s) := by
  unfold slotsQuiet
  try dsimp only
  repeat' first
    | decide | with_reducible apply Within.refl | with_reducible apply Within.ite | with_reducible apply Within.after (slotQuiet_within _ _) | split
    | (with_reducible apply Within.fold (l := [.regs, .clk, .sel]) (g := [.slot]); intro _ _) | dsimp only

theorem keepStarts_within (s : State) (wake : Nat) (cw : Int) :
    Within [.powerTo, .wakeS, .sel] [] s (keepStarts s wake cw) := by
  unfold keepStarts
  try dsimp only
  repeat' first
    | decide | with_reducible apply Within.refl | with_reducible apply Within.ite | split | with_reducible apply Within.set
    | (intro p hp; cases p <;> first | exact absurd (by decide) hp | rfl) | dsimp only

theorem timekeepCoast_within (s : State) :
    Within [.sel] [] s (timekeepCoast s) := by
  unfold timekeepCoast
  try dsimp only
  repeat' first
    | decide | with_reducible apply Within.refl | with_reducible apply Within.ite | with_reducible apply Within.after (beginCoast_within _ _) | split
    | dsimp only

theorem enterTimekeep_within (s : State) (wake : Nat) :
    Within [.regs, .mode, .powerTo, .wakeS, .clk, .tim, .sel, .gauges, .out, .freeCtr] [.clk, .dll, .ref, .slot, .eng] s (enterTimekeep s wake) := by
  unfold enterTimekeep
  try dsimp only
  repeat' first
    | decide | with_reducible apply Within.refl | with_reducible apply Within.ite | with_reducible apply Within.after (openLoops_within _)
    | with_reducible apply Within.after (keepStarts_within _ _ _) | with_reducible apply Within.after (setRequest_within _ _)
    | with_reducible apply Within.after (publishHold_within _) | with_reducible apply Within.after (timekeepCoast_within _)
    | with_reducible apply Within.after (slotsQuiet_within _) | with_reducible apply Within.after (dropSelection_within _)
    | with_reducible apply Within.after (enterMode_within _ _) | with_reducible apply Within.after (evalTrims_within _) | split | dsimp only

theorem becomeActive_within (s : State) :
    Within [.regs, .jieth, .pair, .aud, .out, .freeCtr] [.pair, .aud] s (becomeActive s) := by
  unfold becomeActive
  try dsimp only
  repeat' first
    | decide | with_reducible apply Within.refl | with_reducible apply Within.ite | with_reducible apply Within.after (auditRole_within _)
    | with_reducible apply Within.after (sendTimingAll_within _) | with_reducible apply incF_in
    | (rw [hits_cons]; simp only [hits_nil, hits_cons, Area.has, Reg.PAIR_TAKEOVER_CNT]; omega) | split | with_reducible apply Within.set
    | (intro p hp; cases p <;> first | exact absurd (by decide) hp | rfl) | dsimp only

theorem acquireIdle_within (s : State) :
    Within [.regs, .clk, .sel, .out] [.clk] s (acquireIdle s) := by
  unfold acquireIdle
  try dsimp only
  repeat' first
    | decide | with_reducible apply Within.refl | with_reducible apply Within.ite | with_reducible apply Within.after (requestWord_within _ _) | split
    | dsimp only

theorem enterAcquire_within (s : State) :
    Within [.regs, .mode, .clk, .tim, .sel, .ports, .gauges, .cal, .out, .freeCtr] [.clk, .dll, .time, .ref, .slot, .port, .eng, .cal] s (enterAcquire s) := by
  unfold enterAcquire
  try dsimp only
  repeat' first
    | decide | with_reducible apply Within.refl | with_reducible apply Within.ite | with_reducible apply Within.after (openWindow_within _)
    | with_reducible apply Within.after (reselect_within _) | with_reducible apply Within.after (evalTrims_within _)
    | with_reducible apply Within.after (acquireIdle_within _) | with_reducible apply Within.after (enterMode_within _ _) | split | dsimp only

theorem rolePlaced_within (s : State) :
    Within [.regs, .mode, .clk, .tim, .sel, .ports, .jieth, .pair, .gauges, .cal, .aud, .out, .freeCtr] [.clk, .dll, .ref, .port, .pair, .eng, .cal, .aud] s (rolePlaced s) := by
  unfold rolePlaced
  try dsimp only
  repeat' first
    | decide | with_reducible apply Within.refl | with_reducible apply Within.ite | with_reducible apply Within.after (isolate_within _)
    | with_reducible apply Within.after (toStandby_within _) | with_reducible apply Within.after (enterFreerun_within _)
    | with_reducible apply Within.after (becomeActive_within _) | split | dsimp only

theorem modeTransition_within (s : State) (target : Mode) (wake : Nat) :
    Within [.regs, .staged, .mode, .powerTo, .domains, .wakeS, .pcieUp, .clk, .tim, .sel, .ports, .jieth, .pair, .fab, .gauges, .gnss, .cal, .cmd, .aud, .out, .freeCtr] [.any] s ((modeTransition s target wake).getD s) := by
  unfold modeTransition
  try dsimp only
  repeat' first
    | decide | with_reducible apply Within.refl | with_reducible apply Within.ite | with_reducible apply Within.afterAny (leaveBench_within _)
    | with_reducible apply Within.afterAny (enterTimekeep_within _ _) | with_reducible apply Within.afterAny (enterBench_within _)
    | with_reducible apply Within.afterAny (enterFreerun_within _) | with_reducible apply Within.afterAny (rolePlaced_within _)
    | with_reducible apply Within.afterAny (enterStandbyRole_within _) | with_reducible apply Within.afterAny (becomeActive_within _)
    | with_reducible apply Within.afterAny (enterAcquire_within _) | rw [Option.getD_some] | rw [Option.getD_none] | exact hits_any | split
    | dsimp only

end Sys2Proof.Machine
end

