-- ==== Sys2Proof/Laws/WithinCmd.lean ====
section
/-! SUPPORT. What each operation may touch: packets and their opcodes. -/

set_option linter.unusedSimpArgs false
set_option linter.unusedTactic false
set_option linter.unreachableTactic false
set_option linter.unnecessarySeqFocus false
set_option linter.style.multiGoal false

namespace Sys2Proof.Machine

theorem cmdModeSet_within (s : State) (p : Packet) :
    Within [.regs, .staged, .mode, .powerTo, .domains, .wakeS, .pcieUp, .clk, .tim, .sel, .ports, .jieth, .pair, .fab, .gauges, .gnss, .cal, .cmd, .aud, .out, .freeCtr] [.any] s (cmdModeSet s p).1 := by
  unfold cmdModeSet
  try dsimp only
  repeat' first
    | decide | with_reducible apply Within.refl | with_reducible apply Within.ite | with_reducible apply Within.afterAny (done_within _)
    | with_reducible apply Within.afterFstAny (done_within _) (by assumption)
    | with_reducible apply Within.afterSomeAny (modeTransition_within _ _ _) (by assumption) | with_reducible apply Within.afterAny (deny_within _ _)
    | with_reducible apply Within.afterFstAny (deny_within _ _) (by assumption) | exact hits_any | split | dsimp only

theorem cmdDeviceReset_within (s : State) (p : Packet) :
    Within [.regs, .staged, .mode, .powerTo, .domains, .calEntry, .boot, .image, .cpUp, .wakeS, .idLoaded, .boardSet, .waking, .flash, .pcieUp, .hb, .hbAt, .clk, .tim, .sel, .ports, .jieth, .pair, .fab, .coarse, .gauges, .gnss, .engs, .cal, .cmd, .sec, .aud, .out, .freeCtr, .tod] [.any] s (cmdDeviceReset s p).1 := by
  unfold cmdDeviceReset
  try dsimp only
  repeat' first
    | decide | with_reducible apply Within.refl | with_reducible apply Within.ite | with_reducible apply Within.afterAny (finish_within _ _ _ _)
    | with_reducible apply Within.afterAny (resetDevice_within _ _) | exact hits_any | split | dsimp only

theorem cmdSnapshot_within (s : State) (p : Packet) :
    Within [.regs, .gauges, .engs, .out] [.any] s (cmdSnapshot s p).1 := by
  unfold cmdSnapshot
  try dsimp only
  repeat' first
    | decide | with_reducible apply Within.refl | with_reducible apply Within.ite | with_reducible apply Within.afterAny (busRead_within _ _ _)
    | with_reducible apply Within.afterFstAny (busRead_within _ _ _) (by assumption) | with_reducible apply Within.afterAny (answer_within _ _)
    | with_reducible apply Within.afterFstAny (answer_within _ _) (by assumption) | with_reducible apply Within.afterAny (deny_within _ _)
    | with_reducible apply Within.afterFstAny (deny_within _ _) (by assumption) | exact hits_any | split
    | (with_reducible apply Within.fold (l := [.regs, .gauges, .engs, .out]) (g := [.any]); intro _ _) | dsimp only

theorem cmdBootWrite_within (s : State) (p : Packet) :
    Within [.image] [] s (cmdBootWrite s p).1 := by
  unfold cmdBootWrite
  try dsimp only
  repeat' first
    | decide | with_reducible apply Within.refl | with_reducible apply Within.ite | with_reducible apply Within.after (done_within _)
    | with_reducible apply Within.afterFst (done_within _) (by assumption) | with_reducible apply Within.after (deny_within _ _)
    | with_reducible apply Within.afterFst (deny_within _ _) (by assumption) | split | with_reducible apply Within.set
    | (intro p hp; cases p <;> first | exact absurd (by decide) hp | rfl) | dsimp only

theorem cmdBootGo_within (s : State) (p : Packet) :
    Within [.regs, .staged, .mode, .powerTo, .domains, .boot, .cpUp, .waking, .flash, .pcieUp, .hb, .hbAt, .clk, .ports, .jieth, .fab, .coarse, .cal, .cmd, .aud, .out, .freeCtr] [.any] s (cmdBootGo s p).1 := by
  unfold cmdBootGo
  try dsimp only
  repeat' first
    | decide | with_reducible apply Within.refl | with_reducible apply Within.ite | with_reducible apply Within.afterAny (finish_within _ _ _ _)
    | with_reducible apply Within.afterAny (enterFault_within _ _) | with_reducible apply Within.afterAny (bootFinish_within _ _ _)
    | with_reducible apply Within.afterAny (done_within _) | with_reducible apply Within.afterFstAny (done_within _) (by assumption)
    | with_reducible apply Within.afterAny (deny_within _ _) | with_reducible apply Within.afterFstAny (deny_within _ _) (by assumption)
    | with_reducible apply setF_in | exact hits_any | split | dsimp only

theorem cmdQueueAbort_within (s : State) (p : Packet) :
    Within [.regs, .jieth, .cmd, .aud, .out] [.perf, .aud, .cmd] s (cmdQueueAbort s p).1 := by
  unfold cmdQueueAbort
  try dsimp only
  repeat' first
    | decide | with_reducible apply Within.refl | with_reducible apply Within.ite | with_reducible apply Within.after (finish_within _ _ _ _)
    | with_reducible apply Within.after (done_within _) | with_reducible apply Within.afterFst (done_within _) (by assumption)
    | with_reducible apply Within.after (deny_within _ _) | with_reducible apply Within.afterFst (deny_within _ _) (by assumption) | split
    | (with_reducible apply Within.fold (l := [.regs, .jieth, .cmd, .aud, .out]) (g := [.perf, .aud, .cmd]); intro _ _)
    | with_reducible apply Within.set | (intro p hp; cases p <;> first | exact absurd (by decide) hp | rfl) | dsimp only

theorem cmdRegRead_within (s : State) (p : Packet) :
    Within [.regs, .gauges, .engs, .out] [.any] s (cmdRegRead s p).1 := by
  unfold cmdRegRead
  try dsimp only
  repeat' first
    | decide | with_reducible apply Within.refl | with_reducible apply Within.ite | with_reducible apply Within.afterAny (answer_within _ _)
    | with_reducible apply Within.afterFstAny (answer_within _ _) (by assumption) | with_reducible apply Within.afterAny (busRead_within _ _ _)
    | with_reducible apply Within.afterFstAny (busRead_within _ _ _) (by assumption) | exact hits_any | split | dsimp only

theorem cmdRegWrite_within (s : State) (p : Packet) :
    Within [.regs, .staged, .mode, .boardSet, .otp, .clk, .tim, .sel, .ports, .jieth, .pair, .fab, .gauges, .engs, .cal, .cmd, .aud, .out, .freeCtr] [.any] s (cmdRegWrite s p).1 := by
  unfold cmdRegWrite
  try dsimp only
  repeat' first
    | decide | with_reducible apply Within.refl | with_reducible apply Within.ite
    | with_reducible apply Within.afterAny (busWrite_within _ _ _ _ _ _ _)
    | with_reducible apply Within.afterFstAny (busWrite_within _ _ _ _ _ _ _) (by assumption) | exact hits_any | split | dsimp only

theorem stepTod_within (s : State) (d : Int) :
    Within [.tim, .tod] [] s (stepTod s d) := by
  unfold stepTod
  try dsimp only
  repeat' first
    | decide | with_reducible apply Within.refl | with_reducible apply Within.ite | split | with_reducible apply Within.set
    | (intro p hp; cases p <;> first | exact absurd (by decide) hp | rfl) | dsimp only

theorem stepHeld_within (s : State) (d d16 : Int) :
    Within [.sel, .gnss] [] s (stepHeld s d d16) := by
  unfold stepHeld
  try dsimp only
  repeat' first
    | decide | with_reducible apply Within.refl | with_reducible apply Within.ite | split | with_reducible apply Within.set
    | (intro p hp; cases p <;> first | exact absurd (by decide) hp | rfl) | dsimp only

theorem stepTo_within (s : State) (d : Int) :
    Within [.regs, .mode, .clk, .tim, .sel, .ports, .fab, .gauges, .gnss, .cal, .out, .freeCtr, .tod] [.clk, .dll, .time, .ref, .slot, .port, .fport, .eng, .perf, .cal] s (stepTo s d) := by
  unfold stepTo
  try dsimp only
  repeat' first
    | decide | with_reducible apply Within.refl | with_reducible apply Within.ite | with_reducible apply Within.after (clearSuspect_within _ _)
    | with_reducible apply Within.after (reselect_within _) | with_reducible apply Within.after (evalTrims_within _)
    | with_reducible apply Within.after (takeLists_within _) | with_reducible apply Within.after (stepTod_within _ _)
    | with_reducible apply Within.after (stepHeld_within _ _ _) | with_reducible apply Within.after (moveOutputs_within _ _)
    | with_reducible apply Within.after (stepSluice_within _) | with_reducible apply raise_in
    | (rw [hits_cons]; simp only [hits_nil, hits_cons, Area.has, Reg.TIME_EVENTS_STEPPED]; omega) | split | dsimp only

theorem cmdStep_within (s : State) (ws : List Word) :
    Within [.regs, .mode, .clk, .tim, .sel, .ports, .fab, .coarse, .gauges, .gnss, .cal, .now, .out, .freeCtr, .tod] [.clk, .dll, .time, .ref, .slot, .port, .fport, .gauge, .eng, .perf, .cal] s (cmdStep s ws).1 := by
  unfold cmdStep
  try dsimp only
  repeat' first
    | decide | with_reducible apply Within.refl | with_reducible apply Within.ite | with_reducible apply Within.after (firstAlign_within _ _ _ _ _)
    | with_reducible apply Within.after (done_within _) | with_reducible apply Within.afterFst (done_within _) (by assumption)
    | with_reducible apply Within.after (stepTo_within _ _) | with_reducible apply Within.after (tick_within _)
    | with_reducible apply Within.after (deny_within _ _) | with_reducible apply Within.afterFst (deny_within _ _) (by assumption)
    | with_reducible apply setF_in | (rw [hits_cons]; simp only [hits_nil, hits_cons, Area.has, Reg.TIME_STATUS_SEC_KNOWN]; omega) | split
    | dsimp only

theorem cmdSlewAccept_within (s : State) :
    Within [.regs, .mode, .clk, .tim, .sel, .ports, .gauges, .cal, .out, .freeCtr] [.clk, .dll, .time, .ref, .slot, .port, .eng, .cal] s (cmdSlewAccept s).1 := by
  unfold cmdSlewAccept
  try dsimp only
  repeat' first
    | decide | with_reducible apply Within.refl | with_reducible apply Within.ite | with_reducible apply Within.after (giveWeir_within _ _ _)
    | with_reducible apply Within.after (deny_within _ _) | with_reducible apply Within.afterFst (deny_within _ _) (by assumption)
    | with_reducible apply Within.after (clearSuspect_within _ _) | with_reducible apply Within.after (reselect_within _)
    | with_reducible apply Within.after (evalTrims_within _) | with_reducible apply Within.after (done_within _)
    | with_reducible apply Within.afterFst (done_within _) (by assumption) | split | with_reducible apply Within.set
    | (intro p hp; cases p <;> first | exact absurd (by decide) hp | rfl) | dsimp only

theorem cmdAlignOutputs_within (s : State) (ws : List Word) :
    Within [.regs, .tim, .out] [.dll, .time] s (cmdAlignOutputs s ws).1 := by
  unfold cmdAlignOutputs
  try dsimp only
  repeat' first
    | decide | with_reducible apply Within.refl | with_reducible apply Within.ite | with_reducible apply Within.after (realign_within _ _ _ _ _)
    | with_reducible apply Within.after (answer_within _ _) | with_reducible apply Within.afterFst (answer_within _ _) (by assumption)
    | with_reducible apply Within.after (deny_within _ _) | with_reducible apply Within.afterFst (deny_within _ _) (by assumption) | split
    | dsimp only

theorem cmdRefSelect_within (s : State) (ws : List Word) :
    Within [.regs, .mode, .clk, .tim, .sel, .ports, .gauges, .cal, .out, .freeCtr] [.clk, .dll, .time, .ref, .slot, .port, .eng, .cal] s (cmdRefSelect s ws).1 := by
  unfold cmdRefSelect
  try dsimp only
  repeat' first
    | decide | with_reducible apply Within.refl | with_reducible apply Within.ite | with_reducible apply Within.after (deny_within _ _)
    | with_reducible apply Within.afterFst (deny_within _ _) (by assumption) | with_reducible apply Within.after (reselect_within _)
    | with_reducible apply Within.after (evalTrims_within _) | with_reducible apply Within.after (done_within _)
    | with_reducible apply Within.afterFst (done_within _) (by assumption) | with_reducible apply setF_in
    | (rw [hits_cons]; simp only [hits_nil, hits_cons, Area.has, Reg.SLOT_SLOT_STATUS_WTR_RUN, Reg.SLOT_SLOT_STATUS_TIMER_S, Reg.SLOT_SLOT_CFG_LOCKOUT, Reg.REF_SEL_STATUS_FORCE_SLOT]; omega)
    | split | dsimp only

theorem cmdKeyLoad_within (s : State) (ws : List Word) :
    Within [.sec] [] s (cmdKeyLoad s ws).1 := by
  unfold cmdKeyLoad
  try dsimp only
  repeat' first
    | decide | with_reducible apply Within.refl | with_reducible apply Within.ite | with_reducible apply Within.after (done_within _)
    | with_reducible apply Within.afterFst (done_within _) (by assumption) | with_reducible apply Within.after (deny_within _ _)
    | with_reducible apply Within.afterFst (deny_within _ _) (by assumption) | split | with_reducible apply Within.set
    | (intro p hp; cases p <;> first | exact absurd (by decide) hp | rfl) | dsimp only

theorem cmdKeyZero_within (s : State) (ws : List Word) :
    Within [.regs, .sec, .out] [.sec] s (cmdKeyZero s ws).1 := by
  unfold cmdKeyZero
  try dsimp only
  repeat' first
    | decide | with_reducible apply Within.refl | with_reducible apply Within.ite | with_reducible apply Within.after (deny_within _ _)
    | with_reducible apply Within.afterFst (deny_within _ _) (by assumption) | with_reducible apply Within.after (done_within _)
    | with_reducible apply Within.afterFst (done_within _) (by assumption) | with_reducible apply raise_in
    | (rw [hits_cons]; simp only [hits_nil, hits_cons, Area.has, Reg.SEC_EVENTS_KEY_ZEROED]; omega) | split | with_reducible apply Within.set
    | (intro p hp; cases p <;> first | exact absurd (by decide) hp | rfl) | dsimp only

theorem cmdIdRead_within (s : State) :
    Within [] [] s (cmdIdRead s).1 := by
  unfold cmdIdRead
  try dsimp only
  repeat' first
    | decide | with_reducible apply Within.refl | with_reducible apply Within.ite | with_reducible apply Within.after (answer_within _ _)
    | with_reducible apply Within.afterFst (answer_within _ _) (by assumption) | split | dsimp only

theorem zeroise_within (fuel : Nat) (s : State) :
    Within [.freeCtr] [] s (zeroise fuel s).2 := by
  induction fuel generalizing s with
  | zero => exact .refl
  | succ k ih =>
    unfold zeroise
    dsimp only
    split
    · exact draw_within _
    · exact (ih _).after (draw_within _) (by decide) (by decide)

theorem burnFuse_within (fuses : List Nat) (s : State) :
    Within [.otp, .freeCtr] [] s (burnFuse fuses s).2 := by
  induction fuses generalizing s with
  | nil => exact .refl
  | cons i r ih =>
    unfold burnFuse
    dsimp only
    split
    · exact Within.upd (t := (draw s).2) rfl rfl ((draw_within s).mono (by decide) (by decide)) (fun p hp => by cases p <;> first | exact absurd (by decide) hp | rfl)
    · exact (ih _).after ((draw_within _).mono (by decide) (by decide)) (by decide) (by decide)

theorem debugOpen_within (s : State) :
    Within [.regs, .mode, .powerTo, .domains, .boot, .waking, .otp, .flash, .pcieUp, .hb, .ports, .jieth, .cal, .cmd, .sec, .aud, .out, .freeCtr] [.sys, .link, .perf, .sec, .aud, .cmd] s (debugOpen s).1 := by
  unfold debugOpen
  try dsimp only
  repeat' first
    | decide | with_reducible apply Within.refl | with_reducible apply Within.ite | with_reducible apply Within.after (auditEvent_within _ _ _ _ _)
    | with_reducible apply Within.after (done_within _) | with_reducible apply Within.afterFst (done_within _) (by assumption)
    | with_reducible apply Within.after (deny_within _ _) | with_reducible apply Within.afterFst (deny_within _ _) (by assumption)
    | with_reducible apply Within.after (burnFuse_within _ _) | with_reducible apply Within.after (enterFault_within _ _)
    | with_reducible apply Within.after (zeroise_within _ _) | with_reducible apply setF_in | with_reducible apply raise_in
    | (rw [hits_cons]; simp only [hits_nil, hits_cons, Area.has, Reg.SEC_STATUS_DEBUG_OPEN, Reg.SEC_STATUS_BREACH, Reg.SEC_STATUS_ID_VALID, Reg.SEC_EVENTS_BREACH_SET, Reg.SEC_STATUS_KEYS_LOCKED]; omega)
    | split | with_reducible apply Within.set | (intro p hp; cases p <;> first | exact absurd (by decide) hp | rfl) | dsimp only

theorem cmdDebugOpen_within (s : State) (ws : List Word) :
    Within [.regs, .mode, .powerTo, .domains, .boot, .waking, .otp, .flash, .pcieUp, .hb, .ports, .jieth, .cal, .cmd, .sec, .aud, .out, .freeCtr] [.sys, .link, .perf, .sec, .aud, .cmd] s (cmdDebugOpen s ws).1 := by
  unfold cmdDebugOpen
  try dsimp only
  repeat' first
    | decide | with_reducible apply Within.refl | with_reducible apply Within.ite | with_reducible apply Within.after (debugOpen_within _)
    | with_reducible apply Within.afterFst (debugOpen_within _) (by assumption) | with_reducible apply Within.after (deny_within _ _)
    | with_reducible apply Within.afterFst (deny_within _ _) (by assumption) | with_reducible apply setF_in
    | (rw [hits_cons]; simp only [hits_nil, hits_cons, Area.has, Reg.SYS_UNLOCK_ARMED]; omega) | split | dsimp only

theorem buildBlock_within (s : State) :
    Within [.aud] [] s (buildBlock s) := by
  unfold buildBlock
  dsimp only
  exact Within.aud rfl (Nat.le_refl _) .refl (by decide)

theorem cmdAuditExport_within (s : State) (ws : List Word) :
    Within [.aud] [] s (cmdAuditExport s ws).1 := by
  unfold cmdAuditExport
  try dsimp only
  repeat' first
    | decide | with_reducible apply Within.refl | with_reducible apply Within.ite | with_reducible apply Within.after (answer_within _ _)
    | with_reducible apply Within.afterFst (answer_within _ _) (by assumption) | with_reducible apply Within.after (buildBlock_within _)
    | with_reducible apply Within.after (deny_within _ _) | with_reducible apply Within.afterFst (deny_within _ _) (by assumption) | split
    | dsimp only

theorem cmdAuditAck_within (s : State) (ws : List Word) :
    Within [.aud] [] s (cmdAuditAck s ws).1 := by
  unfold cmdAuditAck
  split
  · exact .refl
  · split
    · exact .refl
    · exact Within.aud (t := s) rfl (Nat.sub_le _ _) .refl (by decide)

theorem cmdPtpSend_within (s : State) (p : Packet) :
    Within [.regs, .fab, .out] [.fab, .fport, .queue, .perf, .sec] s (cmdPtpSend s p).1 := by
  unfold cmdPtpSend
  try dsimp only
  repeat' first
    | decide | with_reducible apply Within.refl | with_reducible apply Within.ite | with_reducible apply Within.after (done_within _)
    | with_reducible apply Within.afterFst (done_within _) (by assumption) | with_reducible apply Within.after (enqueue_within _ _)
    | with_reducible apply Within.after (admitSluice_within _ _) | with_reducible apply Within.after (deny_within _ _)
    | with_reducible apply Within.afterFst (deny_within _ _) (by assumption) | with_reducible apply raise_in
    | (rw [hits_cons]; simp only [hits_nil, hits_cons, Area.has, Reg.SEC_EVENTS_AUTH_KEY_MISSING]; omega) | split | dsimp only

theorem cmdPtpRecv_within (s : State) (ws : List Word) :
    Within [.ports] [] s (cmdPtpRecv s ws).1 := by
  unfold cmdPtpRecv
  try dsimp only
  repeat' first
    | decide | with_reducible apply Within.refl | with_reducible apply Within.ite | with_reducible apply Within.after (answer_within _ _)
    | with_reducible apply Within.afterFst (answer_within _ _) (by assumption) | with_reducible apply Within.after (deny_within _ _)
    | with_reducible apply Within.afterFst (deny_within _ _) (by assumption) | split | with_reducible apply Within.set
    | (intro p hp; cases p <;> first | exact absurd (by decide) hp | rfl) | dsimp only

theorem cmdBermRun_within (s : State) (ws : List Word) :
    Within [.regs, .ports] [.port] s (cmdBermRun s ws).1 := by
  unfold cmdBermRun
  try dsimp only
  repeat' first
    | decide | with_reducible apply Within.refl | with_reducible apply Within.ite | with_reducible apply Within.after (bermAsk_within _ _)
    | with_reducible apply Within.after (done_within _) | with_reducible apply Within.afterFst (done_within _) (by assumption)
    | with_reducible apply Within.after (deny_within _ _) | with_reducible apply Within.afterFst (deny_within _ _) (by assumption) | split
    | dsimp only

theorem cmdMacEdit_within (s : State) (ws : List Word) :
    Within [.fab] [] s (cmdMacEdit s ws).1 := by
  unfold cmdMacEdit
  try dsimp only
  repeat' first
    | decide | with_reducible apply Within.refl | with_reducible apply Within.ite | with_reducible apply Within.after (answer_within _ _)
    | with_reducible apply Within.afterFst (answer_within _ _) (by assumption) | with_reducible apply Within.after (macSet_within _ _)
    | with_reducible apply Within.after (done_within _) | with_reducible apply Within.afterFst (done_within _) (by assumption)
    | with_reducible apply Within.after (deny_within _ _) | with_reducible apply Within.afterFst (deny_within _ _) (by assumption) | split
    | with_reducible apply Within.set | (intro p hp; cases p <;> first | exact absurd (by decide) hp | rfl) | dsimp only

theorem cmdVlanEdit_within (s : State) (ws : List Word) :
    Within [.fab] [] s (cmdVlanEdit s ws).1 := by
  unfold cmdVlanEdit
  try dsimp only
  repeat' first
    | decide | with_reducible apply Within.refl | with_reducible apply Within.ite | with_reducible apply Within.after (done_within _)
    | with_reducible apply Within.afterFst (done_within _) (by assumption) | with_reducible apply Within.after (deny_within _ _)
    | with_reducible apply Within.afterFst (deny_within _ _) (by assumption) | split | with_reducible apply Within.set
    | (intro p hp; cases p <;> first | exact absurd (by decide) hp | rfl) | dsimp only

theorem cmdGateLoad_within (s : State) (ws : List Word) :
    Within [.fab] [] s (cmdGateLoad s ws).1 := by
  unfold cmdGateLoad
  try dsimp only
  repeat' first
    | decide | with_reducible apply Within.refl | with_reducible apply Within.ite | with_reducible apply Within.after (takeList_within _ _)
    | with_reducible apply Within.after (done_within _) | with_reducible apply Within.afterFst (done_within _) (by assumption)
    | with_reducible apply Within.after (deny_within _ _) | with_reducible apply Within.afterFst (deny_within _ _) (by assumption)
    | with_reducible apply Within.after (updGate_within _ _ _) | split | dsimp only

theorem cmdJiethRelay_within (s : State) (p : Packet) :
    Within [.jieth, .out] [] s (cmdJiethRelay s p).1 := by
  unfold cmdJiethRelay
  try dsimp only
  repeat' first
    | decide | with_reducible apply Within.refl | with_reducible apply Within.ite | with_reducible apply Within.after (ctlSend_within _ _ _ _ _ _ _)
    | with_reducible apply Within.after (deny_within _ _) | with_reducible apply Within.afterFst (deny_within _ _) (by assumption) | split
    | with_reducible apply Within.set | (intro p hp; cases p <;> first | exact absurd (by decide) hp | rfl) | dsimp only

theorem laneSearch_within (s : State) (n k : Nat) :
    Within [.regs, .out, .freeCtr] [.link] s (laneSearch s n k) := by
  unfold laneSearch
  try dsimp only
  repeat' first
    | decide | with_reducible apply Within.refl | with_reducible apply Within.ite | with_reducible apply setF_in | with_reducible apply setB_in
    | with_reducible apply raiseIf_in
    | (rw [hits_cons]; simp only [hits_nil, hits_cons, Area.has, Reg.LINK_JPHY_EVENTS_LANE_ORDER, Reg.LINK_JPHY_LANE_ALIGNED, Reg.LINK_JPHY_LANE_AW_FOUND]; omega)
    | with_reducible apply Within.after (draw_within _) | split | dsimp only

theorem cmdLaneSlip_within (s : State) (ws : List Word) :
    Within [.regs, .out, .freeCtr] [.link] s (cmdLaneSlip s ws).1 := by
  unfold cmdLaneSlip
  try dsimp only
  repeat' first
    | decide | with_reducible apply Within.refl | with_reducible apply Within.ite | with_reducible apply Within.after (answer_within _ _)
    | with_reducible apply Within.afterFst (answer_within _ _) (by assumption) | with_reducible apply Within.after (laneSearch_within _ _ _)
    | with_reducible apply Within.after (deny_within _ _) | with_reducible apply Within.afterFst (deny_within _ _) (by assumption)
    | with_reducible apply setF_in | (rw [hits_cons]; simp only [hits_nil, hits_cons, Area.has, Reg.LINK_JPHY_LANE_SLIP_POS]; omega) | split
    | dsimp only

theorem cmdGaugeCtrl_within (s : State) (ws : List Word) :
    Within [.regs, .gauges] [.ga] s (cmdGaugeCtrl s ws).1 := by
  unfold cmdGaugeCtrl
  try dsimp only
  repeat' first
    | decide | with_reducible apply Within.refl | with_reducible apply Within.ite | with_reducible apply Within.after (gaugeStart_within _ _)
    | with_reducible apply Within.after (gaugeStop_within _ _) | with_reducible apply Within.after (done_within _)
    | with_reducible apply Within.afterFst (done_within _) (by assumption) | with_reducible apply Within.after (deny_within _ _)
    | with_reducible apply Within.afterFst (deny_within _ _) (by assumption) | split
    | (with_reducible apply Within.fold (l := [.regs, .gauges]) (g := [.ga]); intro _ _) | dsimp only

theorem cmdGaugeRead_within (s : State) (ws : List Word) :
    Within [.gauges] [] s (cmdGaugeRead s ws).1 := by
  unfold cmdGaugeRead
  try dsimp only
  repeat' first
    | decide | with_reducible apply Within.refl | with_reducible apply Within.ite | with_reducible apply Within.after (answer_within _ _)
    | with_reducible apply Within.afterFst (answer_within _ _) (by assumption) | with_reducible apply Within.after (deny_within _ _)
    | with_reducible apply Within.afterFst (deny_within _ _) (by assumption) | with_reducible apply Within.after (updGauge_within _ _ _) | split
    | dsimp only

theorem cmdGnssCtrl_within (s : State) (ws : List Word) :
    Within [.regs, .mode, .clk, .tim, .sel, .ports, .gauges, .gnss, .cal, .out, .freeCtr] [.clk, .dll, .time, .ref, .slot, .port, .gnss, .chan, .eng, .cal] s (cmdGnssCtrl s ws).1 := by
  unfold cmdGnssCtrl
  try dsimp only
  repeat' first
    | decide | with_reducible apply Within.refl | with_reducible apply Within.ite | with_reducible apply Within.after (deny_within _ _)
    | with_reducible apply Within.afterFst (deny_within _ _) (by assumption) | with_reducible apply Within.after (updGnss_within _ _)
    | with_reducible apply Within.after (gnssSurvey_within _) | with_reducible apply Within.after (gnssStart_within _ _)
    | with_reducible apply Within.after (gnssStop_within _) | with_reducible apply Within.after (done_within _)
    | with_reducible apply Within.afterFst (done_within _) (by assumption) | split | dsimp only

theorem cmdGnssRawRead_within (s : State) (ws : List Word) :
    Within [.gnss] [] s (cmdGnssRawRead s ws).1 := by
  unfold cmdGnssRawRead
  try dsimp only
  repeat' first
    | decide | with_reducible apply Within.refl | with_reducible apply Within.ite | with_reducible apply Within.after (updGnss_within _ _)
    | with_reducible apply Within.after (answer_within _ _) | with_reducible apply Within.afterFst (answer_within _ _) (by assumption)
    | with_reducible apply Within.after (deny_within _ _) | with_reducible apply Within.afterFst (deny_within _ _) (by assumption) | split
    | dsimp only

theorem posSet_within (s : State) (x y z : Int) :
    Within [.regs, .mode, .clk, .tim, .sel, .ports, .gauges, .gnss, .cal, .out, .freeCtr] [.clk, .dll, .time, .ref, .slot, .port, .gnss, .eng, .cal] s (posSet s x y z).1 := by
  unfold posSet
  try dsimp only
  repeat' first
    | decide | with_reducible apply Within.refl | with_reducible apply Within.ite | with_reducible apply Within.after (deny_within _ _)
    | with_reducible apply Within.afterFst (deny_within _ _) (by assumption) | with_reducible apply Within.after (holdPosition_within _ _ _ _)
    | with_reducible apply Within.after (done_within _) | with_reducible apply Within.afterFst (done_within _) (by assumption) | split | dsimp only

theorem cmdGnssPosSet_within (s : State) (ws : List Word) :
    Within [.regs, .mode, .clk, .tim, .sel, .ports, .gauges, .gnss, .cal, .out, .freeCtr] [.clk, .dll, .time, .ref, .slot, .port, .gnss, .eng, .cal] s (cmdGnssPosSet s ws).1 := by
  unfold cmdGnssPosSet
  try dsimp only
  repeat' first
    | decide | with_reducible apply Within.refl | with_reducible apply Within.ite | with_reducible apply Within.after (posSet_within _ _ _ _)
    | with_reducible apply Within.afterFst (posSet_within _ _ _ _) (by assumption) | split | dsimp only

theorem runOpcode_within (s : State) (p : Packet) :
    Within [.regs, .staged, .mode, .powerTo, .domains, .calEntry, .boot, .image, .cpUp, .wakeS, .idLoaded, .boardSet, .waking, .otp, .flash, .pcieUp, .hb, .hbAt, .clk, .tim, .sel, .ports, .jieth, .pair, .fab, .coarse, .gauges, .gnss, .engs, .cal, .cmd, .sec, .aud, .now, .out, .freeCtr, .tod] [.any] s (runOpcode s p).1 := by
  unfold runOpcode
  try dsimp only
  repeat' first
    | decide | with_reducible apply Within.refl | with_reducible apply Within.ite | with_reducible apply Within.afterAny (done_within _)
    | with_reducible apply Within.afterFstAny (done_within _) (by assumption) | with_reducible apply Within.afterAny (cmdSampleRead_within _ _)
    | with_reducible apply Within.afterFstAny (cmdSampleRead_within _ _) (by assumption) | with_reducible apply Within.afterAny (cmdIdRead_within _)
    | with_reducible apply Within.afterFstAny (cmdIdRead_within _) (by assumption) | with_reducible apply Within.afterAny (cmdKeyZero_within _ _)
    | with_reducible apply Within.afterFstAny (cmdKeyZero_within _ _) (by assumption) | with_reducible apply Within.afterAny (cmdKeyLoad_within _ _)
    | with_reducible apply Within.afterFstAny (cmdKeyLoad_within _ _) (by assumption) | with_reducible apply Within.afterAny (cmdAuditAck_within _ _)
    | with_reducible apply Within.afterFstAny (cmdAuditAck_within _ _) (by assumption)
    | with_reducible apply Within.afterAny (cmdAuditExport_within _ _)
    | with_reducible apply Within.afterFstAny (cmdAuditExport_within _ _) (by assumption)
    | with_reducible apply Within.afterAny (cmdDebugOpen_within _ _)
    | with_reducible apply Within.afterFstAny (cmdDebugOpen_within _ _) (by assumption) | with_reducible apply Within.afterAny (cmdCalRead_within _ _)
    | with_reducible apply Within.afterFstAny (cmdCalRead_within _ _) (by assumption) | with_reducible apply Within.afterAny (cmdCalCommit_within _ _)
    | with_reducible apply Within.afterFstAny (cmdCalCommit_within _ _) (by assumption) | with_reducible apply Within.afterAny (cmdCalLoad_within _ _)
    | with_reducible apply Within.afterFstAny (cmdCalLoad_within _ _) (by assumption) | with_reducible apply Within.afterAny (cmdCalAccept_within _ _)
    | with_reducible apply Within.afterFstAny (cmdCalAccept_within _ _) (by assumption) | with_reducible apply Within.afterAny (cmdCalRun_within _ _)
    | with_reducible apply Within.afterFstAny (cmdCalRun_within _ _) (by assumption) | with_reducible apply Within.afterAny (cmdEngRead_within _ _)
    | with_reducible apply Within.afterFstAny (cmdEngRead_within _ _) (by assumption) | with_reducible apply Within.afterAny (cmdEngStop_within _ _)
    | with_reducible apply Within.afterFstAny (cmdEngStop_within _ _) (by assumption) | with_reducible apply Within.afterAny (cmdEngStart_within _ _)
    | with_reducible apply Within.afterFstAny (cmdEngStart_within _ _) (by assumption) | with_reducible apply Within.afterAny (cmdEngLoad_within _ _)
    | with_reducible apply Within.afterFstAny (cmdEngLoad_within _ _) (by assumption)
    | with_reducible apply Within.afterAny (cmdGnssPosSet_within _ _)
    | with_reducible apply Within.afterFstAny (cmdGnssPosSet_within _ _) (by assumption)
    | with_reducible apply Within.afterAny (cmdGnssRawRead_within _ _)
    | with_reducible apply Within.afterFstAny (cmdGnssRawRead_within _ _) (by assumption)
    | with_reducible apply Within.afterAny (cmdGnssCtrl_within _ _) | with_reducible apply Within.afterFstAny (cmdGnssCtrl_within _ _) (by assumption)
    | with_reducible apply Within.afterAny (cmdGaugeRead_within _ _)
    | with_reducible apply Within.afterFstAny (cmdGaugeRead_within _ _) (by assumption)
    | with_reducible apply Within.afterAny (cmdGaugeCtrl_within _ _)
    | with_reducible apply Within.afterFstAny (cmdGaugeCtrl_within _ _) (by assumption)
    | with_reducible apply Within.afterAny (cmdLaneSlip_within _ _) | with_reducible apply Within.afterFstAny (cmdLaneSlip_within _ _) (by assumption)
    | with_reducible apply Within.afterAny (cmdJiethRelay_within _ _)
    | with_reducible apply Within.afterFstAny (cmdJiethRelay_within _ _) (by assumption)
    | with_reducible apply Within.afterAny (cmdGateLoad_within _ _) | with_reducible apply Within.afterFstAny (cmdGateLoad_within _ _) (by assumption)
    | with_reducible apply Within.afterAny (cmdVlanEdit_within _ _) | with_reducible apply Within.afterFstAny (cmdVlanEdit_within _ _) (by assumption)
    | with_reducible apply Within.afterAny (cmdMacEdit_within _ _) | with_reducible apply Within.afterFstAny (cmdMacEdit_within _ _) (by assumption)
    | with_reducible apply Within.afterAny (cmdBermRun_within _ _) | with_reducible apply Within.afterFstAny (cmdBermRun_within _ _) (by assumption)
    | with_reducible apply Within.afterAny (cmdPtpRecv_within _ _) | with_reducible apply Within.afterFstAny (cmdPtpRecv_within _ _) (by assumption)
    | with_reducible apply Within.afterAny (cmdPtpSend_within _ _) | with_reducible apply Within.afterFstAny (cmdPtpSend_within _ _) (by assumption)
    | with_reducible apply Within.afterAny (cmdRefSelect_within _ _)
    | with_reducible apply Within.afterFstAny (cmdRefSelect_within _ _) (by assumption)
    | with_reducible apply Within.afterAny (cmdAlignOutputs_within _ _)
    | with_reducible apply Within.afterFstAny (cmdAlignOutputs_within _ _) (by assumption)
    | with_reducible apply Within.afterAny (cmdSlewAccept_within _) | with_reducible apply Within.afterFstAny (cmdSlewAccept_within _) (by assumption)
    | with_reducible apply Within.afterAny (cmdStep_within _ _) | with_reducible apply Within.afterFstAny (cmdStep_within _ _) (by assumption)
    | with_reducible apply Within.afterAny (cmdRegWrite_within _ _) | with_reducible apply Within.afterFstAny (cmdRegWrite_within _ _) (by assumption)
    | with_reducible apply Within.afterAny (cmdRegRead_within _ _) | with_reducible apply Within.afterFstAny (cmdRegRead_within _ _) (by assumption)
    | with_reducible apply Within.afterAny (cmdQueueAbort_within _ _)
    | with_reducible apply Within.afterFstAny (cmdQueueAbort_within _ _) (by assumption) | with_reducible apply Within.afterAny (cmdBootGo_within _ _)
    | with_reducible apply Within.afterFstAny (cmdBootGo_within _ _) (by assumption) | with_reducible apply Within.afterAny (cmdBootWrite_within _ _)
    | with_reducible apply Within.afterFstAny (cmdBootWrite_within _ _) (by assumption)
    | with_reducible apply Within.afterAny (cmdSnapshot_within _ _) | with_reducible apply Within.afterFstAny (cmdSnapshot_within _ _) (by assumption)
    | with_reducible apply Within.afterAny (cmdDeviceReset_within _ _)
    | with_reducible apply Within.afterFstAny (cmdDeviceReset_within _ _) (by assumption)
    | with_reducible apply Within.afterAny (cmdModeSet_within _ _) | with_reducible apply Within.afterFstAny (cmdModeSet_within _ _) (by assumption)
    | exact hits_any | split | dsimp only

theorem takeUp_within (s : State) (p : Packet) :
    Within [.regs, .cmd, .out] [.perf] s (takeUp s p) := by
  unfold takeUp
  try dsimp only
  repeat' first
    | decide | with_reducible apply Within.refl | with_reducible apply Within.ite | with_reducible apply Within.after (perf_within _ _ _ _ _ _)
    | split | with_reducible apply Within.set | (intro p hp; cases p <;> first | exact absurd (by decide) hp | rfl) | dsimp only

theorem startPacket_within (s : State) (p : Packet) :
    Within [.regs, .staged, .mode, .powerTo, .domains, .calEntry, .boot, .image, .cpUp, .wakeS, .idLoaded, .boardSet, .waking, .otp, .flash, .pcieUp, .hb, .hbAt, .clk, .tim, .sel, .ports, .jieth, .pair, .fab, .coarse, .gauges, .gnss, .engs, .cal, .cmd, .sec, .aud, .now, .out, .freeCtr, .tod] [.any] s (startPacket s p) := by
  unfold startPacket
  try dsimp only
  repeat' first
    | decide | with_reducible apply Within.refl | with_reducible apply Within.ite | with_reducible apply Within.afterAny (runOpcode_within _ _)
    | with_reducible apply Within.afterFstAny (runOpcode_within _ _) (by assumption) | with_reducible apply Within.afterAny (finish_within _ _ _ _)
    | with_reducible apply Within.afterAny (takeUp_within _ _) | with_reducible apply incF_in | exact hits_any | split | dsimp only

theorem occupy_within (s : State) (p : Packet) :
    Within [.cmd] [] s (occupy s p) := by
  unfold occupy
  try dsimp only
  repeat' first
    | decide | with_reducible apply Within.refl | with_reducible apply Within.ite | with_reducible apply Within.after (setReplySlot_within _ _ _ _)
    | split | with_reducible apply Within.set | (intro p hp; cases p <;> first | exact absurd (by decide) hp | rfl) | dsimp only

theorem arrive_within (s : State) (i : Iface) (queue slot words : Nat) (pkt : List Word) :
    Within [.regs, .jieth, .cmd, .out] [.cmd] s (arrive s i queue slot words pkt).1 := by
  unfold arrive
  try dsimp only
  repeat' first
    | decide | with_reducible apply Within.refl | with_reducible apply Within.ite | with_reducible apply Within.after (writeReply_within _ _ _ _ _)
    | with_reducible apply Within.after (occupy_within _ _) | with_reducible apply incF_in | with_reducible apply raise_in
    | (rw [hits_cons]; simp only [hits_nil, hits_cons, Area.has, Reg.CMD_SPI_REJECT, Reg.CMD_EVENTS_SPI_REJECT, Reg.CMD_DB_REJECT, Reg.CMD_EVENTS_DB_BUSY]; omega)
    | split | with_reducible apply Within.set | (intro p hp; cases p <;> first | exact absurd (by decide) hp | rfl) | dsimp only

theorem acknowledge_within (s : State) (p : Packet) :
    Within [.jieth, .cmd, .out] [] s (acknowledge s p) := by
  unfold acknowledge
  try dsimp only
  repeat' first
    | decide | with_reducible apply Within.refl | with_reducible apply Within.ite | with_reducible apply Within.after (writeReply_within _ _ _ _ _)
    | split | dsimp only

theorem doorbell_within (s : State) (i : Iface) (queue slot words : Nat) (pkt : List Word) (late : Bool) :
    Within [.regs, .jieth, .cmd, .out] [.perf, .cmd] s (doorbell s i queue slot words pkt late) := by
  unfold doorbell
  try dsimp only
  repeat' first
    | decide | with_reducible apply Within.refl | with_reducible apply Within.ite | with_reducible apply Within.after (cpLate_within _ _ _)
    | with_reducible apply Within.after (acknowledge_within _ _) | with_reducible apply Within.after (arrive_within _ _ _ _ _ _)
    | with_reducible apply Within.afterFst (arrive_within _ _ _ _ _ _) (by assumption) | split | dsimp only

theorem execPcieDoorbell_within (queue slot words : Nat) (pkt : List Word) (late : Bool) (s : State) :
    Within [.regs, .jieth, .cmd, .out] [.perf, .cmd] s (outcomeOr s (execPcieDoorbell queue slot words pkt late s)) := by
  unfold execPcieDoorbell
  try dsimp only
  repeat' first
    | decide | with_reducible apply Within.refl | with_reducible apply Within.ite | with_reducible apply Within.after (doorbell_within _ _ _ _ _ _ _)
    | rw [outcomeOr_ok] | rw [outcomeOr_fault] | split | dsimp only

theorem execSpiPacketWrite_within (pkt : List Word) (late : Bool) (s : State) :
    Within [.regs, .jieth, .cmd, .out] [.perf, .cmd] s (outcomeOr s (execSpiPacketWrite pkt late s)) := by
  unfold execSpiPacketWrite
  try dsimp only
  repeat' first
    | decide | with_reducible apply Within.refl | with_reducible apply Within.ite | with_reducible apply Within.after (doorbell_within _ _ _ _ _ _ _)
    | rw [outcomeOr_ok] | rw [outcomeOr_fault] | split | dsimp only

theorem execPacketStart_within (late : Bool) (s : State) :
    Within [.regs, .staged, .mode, .powerTo, .domains, .calEntry, .boot, .image, .cpUp, .wakeS, .idLoaded, .boardSet, .waking, .otp, .flash, .pcieUp, .hb, .hbAt, .clk, .tim, .sel, .ports, .jieth, .pair, .fab, .coarse, .gauges, .gnss, .engs, .cal, .cmd, .sec, .aud, .now, .out, .freeCtr, .tod] [.any] s (outcomeOr s (execPacketStart late s)) := by
  unfold execPacketStart
  try dsimp only
  repeat' first
    | decide | with_reducible apply Within.refl | with_reducible apply Within.ite | with_reducible apply Within.afterAny (cpLate_within _ _ _)
    | with_reducible apply Within.afterAny (startPacket_within _ _) | rw [outcomeOr_ok] | rw [outcomeOr_fault] | exact hits_any | split | dsimp only

theorem execSpiReplyRead_within (complete : Bool) (s : State) :
    Within [.cmd, .out] [] s (outcomeOr s (execSpiReplyRead complete s)) := by
  unfold execSpiReplyRead
  try dsimp only
  repeat' first
    | decide | with_reducible apply Within.refl | with_reducible apply Within.ite | rw [outcomeOr_ok] | rw [outcomeOr_fault]
    | with_reducible apply Within.after (emit_within _ _) | with_reducible apply Within.after (msixEdges_within _ _) | split
    | with_reducible apply Within.set | (intro p hp; cases p <;> first | exact absurd (by decide) hp | rfl) | dsimp only

theorem execFenceAllComplete_within (queue : Nat) (s : State) :
    Within [.regs, .jieth, .cmd, .aud, .out] [.perf, .aud, .cmd] s (outcomeOr s (execFenceAllComplete queue s)) := by
  unfold execFenceAllComplete
  try dsimp only
  repeat' first
    | decide | with_reducible apply Within.refl | with_reducible apply Within.ite | with_reducible apply Within.after (finish_within _ _ _ _)
    | rw [outcomeOr_ok] | rw [outcomeOr_fault] | split | dsimp only

theorem execSyncComplete_within (queue : Nat) (s : State) :
    Within [.regs, .jieth, .cmd, .aud, .out] [.perf, .aud, .cmd] s (outcomeOr s (execSyncComplete queue s)) := by
  unfold execSyncComplete
  try dsimp only
  repeat' first
    | decide | with_reducible apply Within.refl | with_reducible apply Within.ite | with_reducible apply Within.after (finish_within _ _ _ _)
    | rw [outcomeOr_ok] | rw [outcomeOr_fault] | split | dsimp only

theorem opPacket_within (op : Nat) (c : CmdCtx) (ws : List Word) (s : State) :
    Within [.regs, .staged, .mode, .powerTo, .domains, .calEntry, .boot, .image, .cpUp, .wakeS, .idLoaded, .boardSet, .waking, .otp, .flash, .pcieUp, .hb, .hbAt, .clk, .tim, .sel, .ports, .jieth, .pair, .fab, .coarse, .gauges, .gnss, .engs, .cal, .cmd, .sec, .aud, .now, .out, .freeCtr, .tod] [.any] s (outcomeOr s (opPacket op c ws s)) := by
  unfold opPacket
  try dsimp only
  repeat' first
    | decide | with_reducible apply Within.refl | with_reducible apply Within.ite | with_reducible apply Within.afterAny (startPacket_within _ _)
    | with_reducible apply Within.afterAny (acknowledge_within _ _) | with_reducible apply Within.afterAny (arrive_within _ _ _ _ _ _)
    | with_reducible apply Within.afterFstAny (arrive_within _ _ _ _ _ _) (by assumption) | rw [outcomeOr_ok] | rw [outcomeOr_fault] | exact hits_any
    | split | dsimp only

theorem execModeSet_within (c : CmdCtx) (ws : List Word) (s : State) :
    Within [.regs, .staged, .mode, .powerTo, .domains, .calEntry, .boot, .image, .cpUp, .wakeS, .idLoaded, .boardSet, .waking, .otp, .flash, .pcieUp, .hb, .hbAt, .clk, .tim, .sel, .ports, .jieth, .pair, .fab, .coarse, .gauges, .gnss, .engs, .cal, .cmd, .sec, .aud, .now, .out, .freeCtr, .tod] [.any] s (outcomeOr s (execModeSet c ws s)) := by
  unfold execModeSet
  try dsimp only
  repeat' first
    | decide | with_reducible apply Within.refl | with_reducible apply Within.ite | with_reducible apply Within.orAfterAny (opPacket_within _ _ _ _)
    | rw [outcomeOr_ok] | rw [outcomeOr_fault] | exact hits_any | split | dsimp only

theorem execDeviceReset_within (c : CmdCtx) (ws : List Word) (s : State) :
    Within [.regs, .staged, .mode, .powerTo, .domains, .calEntry, .boot, .image, .cpUp, .wakeS, .idLoaded, .boardSet, .waking, .otp, .flash, .pcieUp, .hb, .hbAt, .clk, .tim, .sel, .ports, .jieth, .pair, .fab, .coarse, .gauges, .gnss, .engs, .cal, .cmd, .sec, .aud, .now, .out, .freeCtr, .tod] [.any] s (outcomeOr s (execDeviceReset c ws s)) := by
  unfold execDeviceReset
  try dsimp only
  repeat' first
    | decide | with_reducible apply Within.refl | with_reducible apply Within.ite | with_reducible apply Within.orAfterAny (opPacket_within _ _ _ _)
    | rw [outcomeOr_ok] | rw [outcomeOr_fault] | exact hits_any | split | dsimp only

theorem execSnapshot_within (c : CmdCtx) (ws : List Word) (s : State) :
    Within [.regs, .staged, .mode, .powerTo, .domains, .calEntry, .boot, .image, .cpUp, .wakeS, .idLoaded, .boardSet, .waking, .otp, .flash, .pcieUp, .hb, .hbAt, .clk, .tim, .sel, .ports, .jieth, .pair, .fab, .coarse, .gauges, .gnss, .engs, .cal, .cmd, .sec, .aud, .now, .out, .freeCtr, .tod] [.any] s (outcomeOr s (execSnapshot c ws s)) := by
  unfold execSnapshot
  try dsimp only
  repeat' first
    | decide | with_reducible apply Within.refl | with_reducible apply Within.ite | with_reducible apply Within.orAfterAny (opPacket_within _ _ _ _)
    | rw [outcomeOr_ok] | rw [outcomeOr_fault] | exact hits_any | split | dsimp only

theorem execBootWrite_within (c : CmdCtx) (ws : List Word) (s : State) :
    Within [.regs, .staged, .mode, .powerTo, .domains, .calEntry, .boot, .image, .cpUp, .wakeS, .idLoaded, .boardSet, .waking, .otp, .flash, .pcieUp, .hb, .hbAt, .clk, .tim, .sel, .ports, .jieth, .pair, .fab, .coarse, .gauges, .gnss, .engs, .cal, .cmd, .sec, .aud, .now, .out, .freeCtr, .tod] [.any] s (outcomeOr s (execBootWrite c ws s)) := by
  unfold execBootWrite
  try dsimp only
  repeat' first
    | decide | with_reducible apply Within.refl | with_reducible apply Within.ite | with_reducible apply Within.orAfterAny (opPacket_within _ _ _ _)
    | rw [outcomeOr_ok] | rw [outcomeOr_fault] | exact hits_any | split | dsimp only

theorem execBootGo_within (c : CmdCtx) (ws : List Word) (s : State) :
    Within [.regs, .staged, .mode, .powerTo, .domains, .calEntry, .boot, .image, .cpUp, .wakeS, .idLoaded, .boardSet, .waking, .otp, .flash, .pcieUp, .hb, .hbAt, .clk, .tim, .sel, .ports, .jieth, .pair, .fab, .coarse, .gauges, .gnss, .engs, .cal, .cmd, .sec, .aud, .now, .out, .freeCtr, .tod] [.any] s (outcomeOr s (execBootGo c ws s)) := by
  unfold execBootGo
  try dsimp only
  repeat' first
    | decide | with_reducible apply Within.refl | with_reducible apply Within.ite | with_reducible apply Within.orAfterAny (opPacket_within _ _ _ _)
    | rw [outcomeOr_ok] | rw [outcomeOr_fault] | exact hits_any | split | dsimp only

theorem execQueueAbort_within (c : CmdCtx) (ws : List Word) (s : State) :
    Within [.regs, .staged, .mode, .powerTo, .domains, .calEntry, .boot, .image, .cpUp, .wakeS, .idLoaded, .boardSet, .waking, .otp, .flash, .pcieUp, .hb, .hbAt, .clk, .tim, .sel, .ports, .jieth, .pair, .fab, .coarse, .gauges, .gnss, .engs, .cal, .cmd, .sec, .aud, .now, .out, .freeCtr, .tod] [.any] s (outcomeOr s (execQueueAbort c ws s)) := by
  unfold execQueueAbort
  try dsimp only
  repeat' first
    | decide | with_reducible apply Within.refl | with_reducible apply Within.ite | with_reducible apply Within.orAfterAny (opPacket_within _ _ _ _)
    | rw [outcomeOr_ok] | rw [outcomeOr_fault] | exact hits_any | split | dsimp only

theorem execRegRead_within (c : CmdCtx) (ws : List Word) (s : State) :
    Within [.regs, .staged, .mode, .powerTo, .domains, .calEntry, .boot, .image, .cpUp, .wakeS, .idLoaded, .boardSet, .waking, .otp, .flash, .pcieUp, .hb, .hbAt, .clk, .tim, .sel, .ports, .jieth, .pair, .fab, .coarse, .gauges, .gnss, .engs, .cal, .cmd, .sec, .aud, .now, .out, .freeCtr, .tod] [.any] s (outcomeOr s (execRegRead c ws s)) := by
  unfold execRegRead
  try dsimp only
  repeat' first
    | decide | with_reducible apply Within.refl | with_reducible apply Within.ite | with_reducible apply Within.orAfterAny (opPacket_within _ _ _ _)
    | rw [outcomeOr_ok] | rw [outcomeOr_fault] | exact hits_any | split | dsimp only

theorem execRegWrite_within (c : CmdCtx) (ws : List Word) (s : State) :
    Within [.regs, .staged, .mode, .powerTo, .domains, .calEntry, .boot, .image, .cpUp, .wakeS, .idLoaded, .boardSet, .waking, .otp, .flash, .pcieUp, .hb, .hbAt, .clk, .tim, .sel, .ports, .jieth, .pair, .fab, .coarse, .gauges, .gnss, .engs, .cal, .cmd, .sec, .aud, .now, .out, .freeCtr, .tod] [.any] s (outcomeOr s (execRegWrite c ws s)) := by
  unfold execRegWrite
  try dsimp only
  repeat' first
    | decide | with_reducible apply Within.refl | with_reducible apply Within.ite | with_reducible apply Within.orAfterAny (opPacket_within _ _ _ _)
    | rw [outcomeOr_ok] | rw [outcomeOr_fault] | exact hits_any | split | dsimp only

theorem execStep_within (c : CmdCtx) (ws : List Word) (s : State) :
    Within [.regs, .staged, .mode, .powerTo, .domains, .calEntry, .boot, .image, .cpUp, .wakeS, .idLoaded, .boardSet, .waking, .otp, .flash, .pcieUp, .hb, .hbAt, .clk, .tim, .sel, .ports, .jieth, .pair, .fab, .coarse, .gauges, .gnss, .engs, .cal, .cmd, .sec, .aud, .now, .out, .freeCtr, .tod] [.any] s (outcomeOr s (execStep c ws s)) := by
  unfold execStep
  try dsimp only
  repeat' first
    | decide | with_reducible apply Within.refl | with_reducible apply Within.ite | with_reducible apply Within.orAfterAny (opPacket_within _ _ _ _)
    | rw [outcomeOr_ok] | rw [outcomeOr_fault] | exact hits_any | split | dsimp only

theorem execSlewAccept_within (c : CmdCtx) (ws : List Word) (s : State) :
    Within [.regs, .staged, .mode, .powerTo, .domains, .calEntry, .boot, .image, .cpUp, .wakeS, .idLoaded, .boardSet, .waking, .otp, .flash, .pcieUp, .hb, .hbAt, .clk, .tim, .sel, .ports, .jieth, .pair, .fab, .coarse, .gauges, .gnss, .engs, .cal, .cmd, .sec, .aud, .now, .out, .freeCtr, .tod] [.any] s (outcomeOr s (execSlewAccept c ws s)) := by
  unfold execSlewAccept
  try dsimp only
  repeat' first
    | decide | with_reducible apply Within.refl | with_reducible apply Within.ite | with_reducible apply Within.orAfterAny (opPacket_within _ _ _ _)
    | rw [outcomeOr_ok] | rw [outcomeOr_fault] | exact hits_any | split | dsimp only

theorem execAlignOutputs_within (c : CmdCtx) (ws : List Word) (s : State) :
    Within [.regs, .staged, .mode, .powerTo, .domains, .calEntry, .boot, .image, .cpUp, .wakeS, .idLoaded, .boardSet, .waking, .otp, .flash, .pcieUp, .hb, .hbAt, .clk, .tim, .sel, .ports, .jieth, .pair, .fab, .coarse, .gauges, .gnss, .engs, .cal, .cmd, .sec, .aud, .now, .out, .freeCtr, .tod] [.any] s (outcomeOr s (execAlignOutputs c ws s)) := by
  unfold execAlignOutputs
  try dsimp only
  repeat' first
    | decide | with_reducible apply Within.refl | with_reducible apply Within.ite | with_reducible apply Within.orAfterAny (opPacket_within _ _ _ _)
    | rw [outcomeOr_ok] | rw [outcomeOr_fault] | exact hits_any | split | dsimp only

theorem execRefSelect_within (c : CmdCtx) (ws : List Word) (s : State) :
    Within [.regs, .staged, .mode, .powerTo, .domains, .calEntry, .boot, .image, .cpUp, .wakeS, .idLoaded, .boardSet, .waking, .otp, .flash, .pcieUp, .hb, .hbAt, .clk, .tim, .sel, .ports, .jieth, .pair, .fab, .coarse, .gauges, .gnss, .engs, .cal, .cmd, .sec, .aud, .now, .out, .freeCtr, .tod] [.any] s (outcomeOr s (execRefSelect c ws s)) := by
  unfold execRefSelect
  try dsimp only
  repeat' first
    | decide | with_reducible apply Within.refl | with_reducible apply Within.ite | with_reducible apply Within.orAfterAny (opPacket_within _ _ _ _)
    | rw [outcomeOr_ok] | rw [outcomeOr_fault] | exact hits_any | split | dsimp only

theorem execPtpSend_within (c : CmdCtx) (ws : List Word) (s : State) :
    Within [.regs, .staged, .mode, .powerTo, .domains, .calEntry, .boot, .image, .cpUp, .wakeS, .idLoaded, .boardSet, .waking, .otp, .flash, .pcieUp, .hb, .hbAt, .clk, .tim, .sel, .ports, .jieth, .pair, .fab, .coarse, .gauges, .gnss, .engs, .cal, .cmd, .sec, .aud, .now, .out, .freeCtr, .tod] [.any] s (outcomeOr s (execPtpSend c ws s)) := by
  unfold execPtpSend
  try dsimp only
  repeat' first
    | decide | with_reducible apply Within.refl | with_reducible apply Within.ite | with_reducible apply Within.orAfterAny (opPacket_within _ _ _ _)
    | rw [outcomeOr_ok] | rw [outcomeOr_fault] | exact hits_any | split | dsimp only

theorem execPtpRecv_within (c : CmdCtx) (ws : List Word) (s : State) :
    Within [.regs, .staged, .mode, .powerTo, .domains, .calEntry, .boot, .image, .cpUp, .wakeS, .idLoaded, .boardSet, .waking, .otp, .flash, .pcieUp, .hb, .hbAt, .clk, .tim, .sel, .ports, .jieth, .pair, .fab, .coarse, .gauges, .gnss, .engs, .cal, .cmd, .sec, .aud, .now, .out, .freeCtr, .tod] [.any] s (outcomeOr s (execPtpRecv c ws s)) := by
  unfold execPtpRecv
  try dsimp only
  repeat' first
    | decide | with_reducible apply Within.refl | with_reducible apply Within.ite | with_reducible apply Within.orAfterAny (opPacket_within _ _ _ _)
    | rw [outcomeOr_ok] | rw [outcomeOr_fault] | exact hits_any | split | dsimp only

theorem execBermRun_within (c : CmdCtx) (ws : List Word) (s : State) :
    Within [.regs, .staged, .mode, .powerTo, .domains, .calEntry, .boot, .image, .cpUp, .wakeS, .idLoaded, .boardSet, .waking, .otp, .flash, .pcieUp, .hb, .hbAt, .clk, .tim, .sel, .ports, .jieth, .pair, .fab, .coarse, .gauges, .gnss, .engs, .cal, .cmd, .sec, .aud, .now, .out, .freeCtr, .tod] [.any] s (outcomeOr s (execBermRun c ws s)) := by
  unfold execBermRun
  try dsimp only
  repeat' first
    | decide | with_reducible apply Within.refl | with_reducible apply Within.ite | with_reducible apply Within.orAfterAny (opPacket_within _ _ _ _)
    | rw [outcomeOr_ok] | rw [outcomeOr_fault] | exact hits_any | split | dsimp only

theorem execMacEdit_within (c : CmdCtx) (ws : List Word) (s : State) :
    Within [.regs, .staged, .mode, .powerTo, .domains, .calEntry, .boot, .image, .cpUp, .wakeS, .idLoaded, .boardSet, .waking, .otp, .flash, .pcieUp, .hb, .hbAt, .clk, .tim, .sel, .ports, .jieth, .pair, .fab, .coarse, .gauges, .gnss, .engs, .cal, .cmd, .sec, .aud, .now, .out, .freeCtr, .tod] [.any] s (outcomeOr s (execMacEdit c ws s)) := by
  unfold execMacEdit
  try dsimp only
  repeat' first
    | decide | with_reducible apply Within.refl | with_reducible apply Within.ite | with_reducible apply Within.orAfterAny (opPacket_within _ _ _ _)
    | rw [outcomeOr_ok] | rw [outcomeOr_fault] | exact hits_any | split | dsimp only

theorem execVlanEdit_within (c : CmdCtx) (ws : List Word) (s : State) :
    Within [.regs, .staged, .mode, .powerTo, .domains, .calEntry, .boot, .image, .cpUp, .wakeS, .idLoaded, .boardSet, .waking, .otp, .flash, .pcieUp, .hb, .hbAt, .clk, .tim, .sel, .ports, .jieth, .pair, .fab, .coarse, .gauges, .gnss, .engs, .cal, .cmd, .sec, .aud, .now, .out, .freeCtr, .tod] [.any] s (outcomeOr s (execVlanEdit c ws s)) := by
  unfold execVlanEdit
  try dsimp only
  repeat' first
    | decide | with_reducible apply Within.refl | with_reducible apply Within.ite | with_reducible apply Within.orAfterAny (opPacket_within _ _ _ _)
    | rw [outcomeOr_ok] | rw [outcomeOr_fault] | exact hits_any | split | dsimp only

theorem execGateLoad_within (c : CmdCtx) (ws : List Word) (s : State) :
    Within [.regs, .staged, .mode, .powerTo, .domains, .calEntry, .boot, .image, .cpUp, .wakeS, .idLoaded, .boardSet, .waking, .otp, .flash, .pcieUp, .hb, .hbAt, .clk, .tim, .sel, .ports, .jieth, .pair, .fab, .coarse, .gauges, .gnss, .engs, .cal, .cmd, .sec, .aud, .now, .out, .freeCtr, .tod] [.any] s (outcomeOr s (execGateLoad c ws s)) := by
  unfold execGateLoad
  try dsimp only
  repeat' first
    | decide | with_reducible apply Within.refl | with_reducible apply Within.ite | with_reducible apply Within.orAfterAny (opPacket_within _ _ _ _)
    | rw [outcomeOr_ok] | rw [outcomeOr_fault] | exact hits_any | split | dsimp only

theorem execJiethRelay_within (c : CmdCtx) (ws : List Word) (s : State) :
    Within [.regs, .staged, .mode, .powerTo, .domains, .calEntry, .boot, .image, .cpUp, .wakeS, .idLoaded, .boardSet, .waking, .otp, .flash, .pcieUp, .hb, .hbAt, .clk, .tim, .sel, .ports, .jieth, .pair, .fab, .coarse, .gauges, .gnss, .engs, .cal, .cmd, .sec, .aud, .now, .out, .freeCtr, .tod] [.any] s (outcomeOr s (execJiethRelay c ws s)) := by
  unfold execJiethRelay
  try dsimp only
  repeat' first
    | decide | with_reducible apply Within.refl | with_reducible apply Within.ite | with_reducible apply Within.orAfterAny (opPacket_within _ _ _ _)
    | rw [outcomeOr_ok] | rw [outcomeOr_fault] | exact hits_any | split | dsimp only

theorem execLaneSlip_within (c : CmdCtx) (ws : List Word) (s : State) :
    Within [.regs, .staged, .mode, .powerTo, .domains, .calEntry, .boot, .image, .cpUp, .wakeS, .idLoaded, .boardSet, .waking, .otp, .flash, .pcieUp, .hb, .hbAt, .clk, .tim, .sel, .ports, .jieth, .pair, .fab, .coarse, .gauges, .gnss, .engs, .cal, .cmd, .sec, .aud, .now, .out, .freeCtr, .tod] [.any] s (outcomeOr s (execLaneSlip c ws s)) := by
  unfold execLaneSlip
  try dsimp only
  repeat' first
    | decide | with_reducible apply Within.refl | with_reducible apply Within.ite | with_reducible apply Within.orAfterAny (opPacket_within _ _ _ _)
    | rw [outcomeOr_ok] | rw [outcomeOr_fault] | exact hits_any | split | dsimp only

theorem execGaugeCtrl_within (c : CmdCtx) (ws : List Word) (s : State) :
    Within [.regs, .staged, .mode, .powerTo, .domains, .calEntry, .boot, .image, .cpUp, .wakeS, .idLoaded, .boardSet, .waking, .otp, .flash, .pcieUp, .hb, .hbAt, .clk, .tim, .sel, .ports, .jieth, .pair, .fab, .coarse, .gauges, .gnss, .engs, .cal, .cmd, .sec, .aud, .now, .out, .freeCtr, .tod] [.any] s (outcomeOr s (execGaugeCtrl c ws s)) := by
  unfold execGaugeCtrl
  try dsimp only
  repeat' first
    | decide | with_reducible apply Within.refl | with_reducible apply Within.ite | with_reducible apply Within.orAfterAny (opPacket_within _ _ _ _)
    | rw [outcomeOr_ok] | rw [outcomeOr_fault] | exact hits_any | split | dsimp only

theorem execGaugeRead_within (c : CmdCtx) (ws : List Word) (s : State) :
    Within [.regs, .staged, .mode, .powerTo, .domains, .calEntry, .boot, .image, .cpUp, .wakeS, .idLoaded, .boardSet, .waking, .otp, .flash, .pcieUp, .hb, .hbAt, .clk, .tim, .sel, .ports, .jieth, .pair, .fab, .coarse, .gauges, .gnss, .engs, .cal, .cmd, .sec, .aud, .now, .out, .freeCtr, .tod] [.any] s (outcomeOr s (execGaugeRead c ws s)) := by
  unfold execGaugeRead
  try dsimp only
  repeat' first
    | decide | with_reducible apply Within.refl | with_reducible apply Within.ite | with_reducible apply Within.orAfterAny (opPacket_within _ _ _ _)
    | rw [outcomeOr_ok] | rw [outcomeOr_fault] | exact hits_any | split | dsimp only

theorem execGnssCtrl_within (c : CmdCtx) (ws : List Word) (s : State) :
    Within [.regs, .staged, .mode, .powerTo, .domains, .calEntry, .boot, .image, .cpUp, .wakeS, .idLoaded, .boardSet, .waking, .otp, .flash, .pcieUp, .hb, .hbAt, .clk, .tim, .sel, .ports, .jieth, .pair, .fab, .coarse, .gauges, .gnss, .engs, .cal, .cmd, .sec, .aud, .now, .out, .freeCtr, .tod] [.any] s (outcomeOr s (execGnssCtrl c ws s)) := by
  unfold execGnssCtrl
  try dsimp only
  repeat' first
    | decide | with_reducible apply Within.refl | with_reducible apply Within.ite | with_reducible apply Within.orAfterAny (opPacket_within _ _ _ _)
    | rw [outcomeOr_ok] | rw [outcomeOr_fault] | exact hits_any | split | dsimp only

theorem execGnssRawRead_within (c : CmdCtx) (ws : List Word) (s : State) :
    Within [.regs, .staged, .mode, .powerTo, .domains, .calEntry, .boot, .image, .cpUp, .wakeS, .idLoaded, .boardSet, .waking, .otp, .flash, .pcieUp, .hb, .hbAt, .clk, .tim, .sel, .ports, .jieth, .pair, .fab, .coarse, .gauges, .gnss, .engs, .cal, .cmd, .sec, .aud, .now, .out, .freeCtr, .tod] [.any] s (outcomeOr s (execGnssRawRead c ws s)) := by
  unfold execGnssRawRead
  try dsimp only
  repeat' first
    | decide | with_reducible apply Within.refl | with_reducible apply Within.ite | with_reducible apply Within.orAfterAny (opPacket_within _ _ _ _)
    | rw [outcomeOr_ok] | rw [outcomeOr_fault] | exact hits_any | split | dsimp only

theorem execGnssPosSet_within (c : CmdCtx) (ws : List Word) (s : State) :
    Within [.regs, .staged, .mode, .powerTo, .domains, .calEntry, .boot, .image, .cpUp, .wakeS, .idLoaded, .boardSet, .waking, .otp, .flash, .pcieUp, .hb, .hbAt, .clk, .tim, .sel, .ports, .jieth, .pair, .fab, .coarse, .gauges, .gnss, .engs, .cal, .cmd, .sec, .aud, .now, .out, .freeCtr, .tod] [.any] s (outcomeOr s (execGnssPosSet c ws s)) := by
  unfold execGnssPosSet
  try dsimp only
  repeat' first
    | decide | with_reducible apply Within.refl | with_reducible apply Within.ite | with_reducible apply Within.orAfterAny (opPacket_within _ _ _ _)
    | rw [outcomeOr_ok] | rw [outcomeOr_fault] | exact hits_any | split | dsimp only

theorem execEngLoad_within (c : CmdCtx) (ws : List Word) (s : State) :
    Within [.regs, .staged, .mode, .powerTo, .domains, .calEntry, .boot, .image, .cpUp, .wakeS, .idLoaded, .boardSet, .waking, .otp, .flash, .pcieUp, .hb, .hbAt, .clk, .tim, .sel, .ports, .jieth, .pair, .fab, .coarse, .gauges, .gnss, .engs, .cal, .cmd, .sec, .aud, .now, .out, .freeCtr, .tod] [.any] s (outcomeOr s (execEngLoad c ws s)) := by
  unfold execEngLoad
  try dsimp only
  repeat' first
    | decide | with_reducible apply Within.refl | with_reducible apply Within.ite | with_reducible apply Within.orAfterAny (opPacket_within _ _ _ _)
    | rw [outcomeOr_ok] | rw [outcomeOr_fault] | exact hits_any | split | dsimp only

theorem execEngStart_within (c : CmdCtx) (ws : List Word) (s : State) :
    Within [.regs, .staged, .mode, .powerTo, .domains, .calEntry, .boot, .image, .cpUp, .wakeS, .idLoaded, .boardSet, .waking, .otp, .flash, .pcieUp, .hb, .hbAt, .clk, .tim, .sel, .ports, .jieth, .pair, .fab, .coarse, .gauges, .gnss, .engs, .cal, .cmd, .sec, .aud, .now, .out, .freeCtr, .tod] [.any] s (outcomeOr s (execEngStart c ws s)) := by
  unfold execEngStart
  try dsimp only
  repeat' first
    | decide | with_reducible apply Within.refl | with_reducible apply Within.ite | with_reducible apply Within.orAfterAny (opPacket_within _ _ _ _)
    | rw [outcomeOr_ok] | rw [outcomeOr_fault] | exact hits_any | split | dsimp only

theorem execEngStop_within (c : CmdCtx) (ws : List Word) (s : State) :
    Within [.regs, .staged, .mode, .powerTo, .domains, .calEntry, .boot, .image, .cpUp, .wakeS, .idLoaded, .boardSet, .waking, .otp, .flash, .pcieUp, .hb, .hbAt, .clk, .tim, .sel, .ports, .jieth, .pair, .fab, .coarse, .gauges, .gnss, .engs, .cal, .cmd, .sec, .aud, .now, .out, .freeCtr, .tod] [.any] s (outcomeOr s (execEngStop c ws s)) := by
  unfold execEngStop
  try dsimp only
  repeat' first
    | decide | with_reducible apply Within.refl | with_reducible apply Within.ite | with_reducible apply Within.orAfterAny (opPacket_within _ _ _ _)
    | rw [outcomeOr_ok] | rw [outcomeOr_fault] | exact hits_any | split | dsimp only

theorem execEngRead_within (c : CmdCtx) (ws : List Word) (s : State) :
    Within [.regs, .staged, .mode, .powerTo, .domains, .calEntry, .boot, .image, .cpUp, .wakeS, .idLoaded, .boardSet, .waking, .otp, .flash, .pcieUp, .hb, .hbAt, .clk, .tim, .sel, .ports, .jieth, .pair, .fab, .coarse, .gauges, .gnss, .engs, .cal, .cmd, .sec, .aud, .now, .out, .freeCtr, .tod] [.any] s (outcomeOr s (execEngRead c ws s)) := by
  unfold execEngRead
  try dsimp only
  repeat' first
    | decide | with_reducible apply Within.refl | with_reducible apply Within.ite | with_reducible apply Within.orAfterAny (opPacket_within _ _ _ _)
    | rw [outcomeOr_ok] | rw [outcomeOr_fault] | exact hits_any | split | dsimp only

theorem execCalRun_within (c : CmdCtx) (ws : List Word) (s : State) :
    Within [.regs, .staged, .mode, .powerTo, .domains, .calEntry, .boot, .image, .cpUp, .wakeS, .idLoaded, .boardSet, .waking, .otp, .flash, .pcieUp, .hb, .hbAt, .clk, .tim, .sel, .ports, .jieth, .pair, .fab, .coarse, .gauges, .gnss, .engs, .cal, .cmd, .sec, .aud, .now, .out, .freeCtr, .tod] [.any] s (outcomeOr s (execCalRun c ws s)) := by
  unfold execCalRun
  try dsimp only
  repeat' first
    | decide | with_reducible apply Within.refl | with_reducible apply Within.ite | with_reducible apply Within.orAfterAny (opPacket_within _ _ _ _)
    | rw [outcomeOr_ok] | rw [outcomeOr_fault] | exact hits_any | split | dsimp only

theorem execCalAccept_within (c : CmdCtx) (ws : List Word) (s : State) :
    Within [.regs, .staged, .mode, .powerTo, .domains, .calEntry, .boot, .image, .cpUp, .wakeS, .idLoaded, .boardSet, .waking, .otp, .flash, .pcieUp, .hb, .hbAt, .clk, .tim, .sel, .ports, .jieth, .pair, .fab, .coarse, .gauges, .gnss, .engs, .cal, .cmd, .sec, .aud, .now, .out, .freeCtr, .tod] [.any] s (outcomeOr s (execCalAccept c ws s)) := by
  unfold execCalAccept
  try dsimp only
  repeat' first
    | decide | with_reducible apply Within.refl | with_reducible apply Within.ite | with_reducible apply Within.orAfterAny (opPacket_within _ _ _ _)
    | rw [outcomeOr_ok] | rw [outcomeOr_fault] | exact hits_any | split | dsimp only

theorem execCalLoad_within (c : CmdCtx) (ws : List Word) (s : State) :
    Within [.regs, .staged, .mode, .powerTo, .domains, .calEntry, .boot, .image, .cpUp, .wakeS, .idLoaded, .boardSet, .waking, .otp, .flash, .pcieUp, .hb, .hbAt, .clk, .tim, .sel, .ports, .jieth, .pair, .fab, .coarse, .gauges, .gnss, .engs, .cal, .cmd, .sec, .aud, .now, .out, .freeCtr, .tod] [.any] s (outcomeOr s (execCalLoad c ws s)) := by
  unfold execCalLoad
  try dsimp only
  repeat' first
    | decide | with_reducible apply Within.refl | with_reducible apply Within.ite | with_reducible apply Within.orAfterAny (opPacket_within _ _ _ _)
    | rw [outcomeOr_ok] | rw [outcomeOr_fault] | exact hits_any | split | dsimp only

theorem execCalCommit_within (c : CmdCtx) (ws : List Word) (s : State) :
    Within [.regs, .staged, .mode, .powerTo, .domains, .calEntry, .boot, .image, .cpUp, .wakeS, .idLoaded, .boardSet, .waking, .otp, .flash, .pcieUp, .hb, .hbAt, .clk, .tim, .sel, .ports, .jieth, .pair, .fab, .coarse, .gauges, .gnss, .engs, .cal, .cmd, .sec, .aud, .now, .out, .freeCtr, .tod] [.any] s (outcomeOr s (execCalCommit c ws s)) := by
  unfold execCalCommit
  try dsimp only
  repeat' first
    | decide | with_reducible apply Within.refl | with_reducible apply Within.ite | with_reducible apply Within.orAfterAny (opPacket_within _ _ _ _)
    | rw [outcomeOr_ok] | rw [outcomeOr_fault] | exact hits_any | split | dsimp only

theorem execCalRead_within (c : CmdCtx) (ws : List Word) (s : State) :
    Within [.regs, .staged, .mode, .powerTo, .domains, .calEntry, .boot, .image, .cpUp, .wakeS, .idLoaded, .boardSet, .waking, .otp, .flash, .pcieUp, .hb, .hbAt, .clk, .tim, .sel, .ports, .jieth, .pair, .fab, .coarse, .gauges, .gnss, .engs, .cal, .cmd, .sec, .aud, .now, .out, .freeCtr, .tod] [.any] s (outcomeOr s (execCalRead c ws s)) := by
  unfold execCalRead
  try dsimp only
  repeat' first
    | decide | with_reducible apply Within.refl | with_reducible apply Within.ite | with_reducible apply Within.orAfterAny (opPacket_within _ _ _ _)
    | rw [outcomeOr_ok] | rw [outcomeOr_fault] | exact hits_any | split | dsimp only

theorem execDebugOpen_within (c : CmdCtx) (ws : List Word) (s : State) :
    Within [.regs, .staged, .mode, .powerTo, .domains, .calEntry, .boot, .image, .cpUp, .wakeS, .idLoaded, .boardSet, .waking, .otp, .flash, .pcieUp, .hb, .hbAt, .clk, .tim, .sel, .ports, .jieth, .pair, .fab, .coarse, .gauges, .gnss, .engs, .cal, .cmd, .sec, .aud, .now, .out, .freeCtr, .tod] [.any] s (outcomeOr s (execDebugOpen c ws s)) := by
  unfold execDebugOpen
  try dsimp only
  repeat' first
    | decide | with_reducible apply Within.refl | with_reducible apply Within.ite | with_reducible apply Within.orAfterAny (opPacket_within _ _ _ _)
    | rw [outcomeOr_ok] | rw [outcomeOr_fault] | exact hits_any | split | dsimp only

theorem execAuditExport_within (c : CmdCtx) (ws : List Word) (s : State) :
    Within [.regs, .staged, .mode, .powerTo, .domains, .calEntry, .boot, .image, .cpUp, .wakeS, .idLoaded, .boardSet, .waking, .otp, .flash, .pcieUp, .hb, .hbAt, .clk, .tim, .sel, .ports, .jieth, .pair, .fab, .coarse, .gauges, .gnss, .engs, .cal, .cmd, .sec, .aud, .now, .out, .freeCtr, .tod] [.any] s (outcomeOr s (execAuditExport c ws s)) := by
  unfold execAuditExport
  try dsimp only
  repeat' first
    | decide | with_reducible apply Within.refl | with_reducible apply Within.ite | with_reducible apply Within.orAfterAny (opPacket_within _ _ _ _)
    | rw [outcomeOr_ok] | rw [outcomeOr_fault] | exact hits_any | split | dsimp only

theorem execAuditAck_within (c : CmdCtx) (ws : List Word) (s : State) :
    Within [.regs, .staged, .mode, .powerTo, .domains, .calEntry, .boot, .image, .cpUp, .wakeS, .idLoaded, .boardSet, .waking, .otp, .flash, .pcieUp, .hb, .hbAt, .clk, .tim, .sel, .ports, .jieth, .pair, .fab, .coarse, .gauges, .gnss, .engs, .cal, .cmd, .sec, .aud, .now, .out, .freeCtr, .tod] [.any] s (outcomeOr s (execAuditAck c ws s)) := by
  unfold execAuditAck
  try dsimp only
  repeat' first
    | decide | with_reducible apply Within.refl | with_reducible apply Within.ite | with_reducible apply Within.orAfterAny (opPacket_within _ _ _ _)
    | rw [outcomeOr_ok] | rw [outcomeOr_fault] | exact hits_any | split | dsimp only

theorem execKeyLoad_within (c : CmdCtx) (ws : List Word) (s : State) :
    Within [.regs, .staged, .mode, .powerTo, .domains, .calEntry, .boot, .image, .cpUp, .wakeS, .idLoaded, .boardSet, .waking, .otp, .flash, .pcieUp, .hb, .hbAt, .clk, .tim, .sel, .ports, .jieth, .pair, .fab, .coarse, .gauges, .gnss, .engs, .cal, .cmd, .sec, .aud, .now, .out, .freeCtr, .tod] [.any] s (outcomeOr s (execKeyLoad c ws s)) := by
  unfold execKeyLoad
  try dsimp only
  repeat' first
    | decide | with_reducible apply Within.refl | with_reducible apply Within.ite | with_reducible apply Within.orAfterAny (opPacket_within _ _ _ _)
    | rw [outcomeOr_ok] | rw [outcomeOr_fault] | exact hits_any | split | dsimp only

theorem execKeyZero_within (c : CmdCtx) (ws : List Word) (s : State) :
    Within [.regs, .staged, .mode, .powerTo, .domains, .calEntry, .boot, .image, .cpUp, .wakeS, .idLoaded, .boardSet, .waking, .otp, .flash, .pcieUp, .hb, .hbAt, .clk, .tim, .sel, .ports, .jieth, .pair, .fab, .coarse, .gauges, .gnss, .engs, .cal, .cmd, .sec, .aud, .now, .out, .freeCtr, .tod] [.any] s (outcomeOr s (execKeyZero c ws s)) := by
  unfold execKeyZero
  try dsimp only
  repeat' first
    | decide | with_reducible apply Within.refl | with_reducible apply Within.ite | with_reducible apply Within.orAfterAny (opPacket_within _ _ _ _)
    | rw [outcomeOr_ok] | rw [outcomeOr_fault] | exact hits_any | split | dsimp only

theorem execIdRead_within (c : CmdCtx) (ws : List Word) (s : State) :
    Within [.regs, .staged, .mode, .powerTo, .domains, .calEntry, .boot, .image, .cpUp, .wakeS, .idLoaded, .boardSet, .waking, .otp, .flash, .pcieUp, .hb, .hbAt, .clk, .tim, .sel, .ports, .jieth, .pair, .fab, .coarse, .gauges, .gnss, .engs, .cal, .cmd, .sec, .aud, .now, .out, .freeCtr, .tod] [.any] s (outcomeOr s (execIdRead c ws s)) := by
  unfold execIdRead
  try dsimp only
  repeat' first
    | decide | with_reducible apply Within.refl | with_reducible apply Within.ite | with_reducible apply Within.orAfterAny (opPacket_within _ _ _ _)
    | rw [outcomeOr_ok] | rw [outcomeOr_fault] | exact hits_any | split | dsimp only

theorem execSampleRead_within (c : CmdCtx) (ws : List Word) (s : State) :
    Within [.regs, .staged, .mode, .powerTo, .domains, .calEntry, .boot, .image, .cpUp, .wakeS, .idLoaded, .boardSet, .waking, .otp, .flash, .pcieUp, .hb, .hbAt, .clk, .tim, .sel, .ports, .jieth, .pair, .fab, .coarse, .gauges, .gnss, .engs, .cal, .cmd, .sec, .aud, .now, .out, .freeCtr, .tod] [.any] s (outcomeOr s (execSampleRead c ws s)) := by
  unfold execSampleRead
  try dsimp only
  repeat' first
    | decide | with_reducible apply Within.refl | with_reducible apply Within.ite | with_reducible apply Within.orAfterAny (opPacket_within _ _ _ _)
    | rw [outcomeOr_ok] | rw [outcomeOr_fault] | exact hits_any | split | dsimp only

theorem execFenceAll_within (c : CmdCtx) (ws : List Word) (s : State) :
    Within [.regs, .staged, .mode, .powerTo, .domains, .calEntry, .boot, .image, .cpUp, .wakeS, .idLoaded, .boardSet, .waking, .otp, .flash, .pcieUp, .hb, .hbAt, .clk, .tim, .sel, .ports, .jieth, .pair, .fab, .coarse, .gauges, .gnss, .engs, .cal, .cmd, .sec, .aud, .now, .out, .freeCtr, .tod] [.any] s (outcomeOr s (execFenceAll c ws s)) := by
  unfold execFenceAll
  try dsimp only
  repeat' first
    | decide | with_reducible apply Within.refl | with_reducible apply Within.ite | with_reducible apply Within.orAfterAny (opPacket_within _ _ _ _)
    | rw [outcomeOr_ok] | rw [outcomeOr_fault] | exact hits_any | split | dsimp only

theorem execSync_within (c : CmdCtx) (ws : List Word) (s : State) :
    Within [.regs, .staged, .mode, .powerTo, .domains, .calEntry, .boot, .image, .cpUp, .wakeS, .idLoaded, .boardSet, .waking, .otp, .flash, .pcieUp, .hb, .hbAt, .clk, .tim, .sel, .ports, .jieth, .pair, .fab, .coarse, .gauges, .gnss, .engs, .cal, .cmd, .sec, .aud, .now, .out, .freeCtr, .tod] [.any] s (outcomeOr s (execSync c ws s)) := by
  unfold execSync
  try dsimp only
  repeat' first
    | decide | with_reducible apply Within.refl | with_reducible apply Within.ite | with_reducible apply Within.orAfterAny (opPacket_within _ _ _ _)
    | rw [outcomeOr_ok] | rw [outcomeOr_fault] | exact hits_any | split | dsimp only

theorem execNop_within (c : CmdCtx) (ws : List Word) (s : State) :
    Within [.regs, .staged, .mode, .powerTo, .domains, .calEntry, .boot, .image, .cpUp, .wakeS, .idLoaded, .boardSet, .waking, .otp, .flash, .pcieUp, .hb, .hbAt, .clk, .tim, .sel, .ports, .jieth, .pair, .fab, .coarse, .gauges, .gnss, .engs, .cal, .cmd, .sec, .aud, .now, .out, .freeCtr, .tod] [.any] s (outcomeOr s (execNop c ws s)) := by
  unfold execNop
  try dsimp only
  repeat' first
    | decide | with_reducible apply Within.refl | with_reducible apply Within.ite | with_reducible apply Within.orAfterAny (opPacket_within _ _ _ _)
    | rw [outcomeOr_ok] | rw [outcomeOr_fault] | exact hits_any | split | dsimp only

theorem ctlForward_within (s : State) (n : Nat) (f : CtlFrame) :
    Within [.jieth, .out] [] s (ctlForward s n f) := by
  unfold ctlForward
  try dsimp only
  repeat' first
    | decide | with_reducible apply Within.refl | with_reducible apply Within.ite | with_reducible apply Within.after (hopTimeout_within _ _ _)
    | with_reducible apply Within.after (ctlSend_within _ _ _ _ _ _ _) | split | with_reducible apply Within.set
    | (intro p hp; cases p <;> first | exact absurd (by decide) hp | rfl) | dsimp only

theorem ctlDeliver_within (s : State) (n : Nat) (f : CtlFrame) :
    Within [.regs, .jieth, .cmd, .out] [.perf, .cmd] s (ctlDeliver s n f) := by
  unfold ctlDeliver
  try dsimp only
  repeat' first
    | decide | with_reducible apply Within.refl | with_reducible apply Within.ite | with_reducible apply Within.after (doorbell_within _ _ _ _ _ _ _)
    | with_reducible apply Within.after (ctlReply_within _ _ _) | split | dsimp only

theorem ctlTakeReply_within (s : State) (n : Nat) (f : CtlFrame) :
    Within [.regs, .jieth, .cmd, .aud, .out] [.perf, .aud, .cmd] s (ctlTakeReply s n f) := by
  unfold ctlTakeReply
  try dsimp only
  repeat' first
    | decide | with_reducible apply Within.refl | with_reducible apply Within.ite | with_reducible apply Within.after (finishId_within _ _ _ _)
    | with_reducible apply Within.after (ctlReply_within _ _ _) | split | with_reducible apply Within.set
    | (intro p hp; cases p <;> first | exact absurd (by decide) hp | rfl) | dsimp only

theorem execControlFrameRx_within (n : Nat) (f : CtlFrame) (s : State) :
    Within [.regs, .jieth, .cmd, .aud, .out] [.perf, .aud, .cmd] s (outcomeOr s (execControlFrameRx n f s)) := by
  unfold execControlFrameRx
  try dsimp only
  repeat' first
    | decide | with_reducible apply Within.refl | with_reducible apply Within.ite | with_reducible apply Within.after (ctlDeliver_within _ _ _)
    | with_reducible apply Within.after (ctlForward_within _ _ _) | with_reducible apply Within.after (ctlTakeReply_within _ _ _)
    | with_reducible apply Within.after (ctlOut_within _ _ _ _) | rw [outcomeOr_ok] | rw [outcomeOr_fault]
    | with_reducible apply Within.after (updLink_within _ _ _) | split | dsimp only

theorem execControlAckTimeout_within (n : Nat) (s : State) :
    Within [.regs, .mode, .clk, .tim, .sel, .ports, .jieth, .fab, .gauges, .cal, .cmd, .aud, .out, .freeCtr] [.clk, .dll, .time, .ref, .slot, .port, .link, .jg, .pair, .fport, .queue, .eng, .perf, .cal, .aud, .cmd] s (outcomeOr s (execControlAckTimeout n s)) := by
  unfold execControlAckTimeout
  try dsimp only
  repeat' first
    | decide | with_reducible apply Within.refl | with_reducible apply Within.ite | with_reducible apply Within.after (ctlOut_within _ _ _ _)
    | with_reducible apply Within.after (failLink_within _ _) | rw [outcomeOr_ok] | rw [outcomeOr_fault] | with_reducible apply incF_in
    | with_reducible apply raise_in
    | (rw [hits_cons]; simp only [hits_nil, hits_cons, Area.has, Reg.LINK_RETRY_CNT, Reg.LINK_LINK_EVENTS_RETRY]; omega)
    | with_reducible apply Within.after (updLink_within _ _ _) | split | dsimp only

end Sys2Proof.Machine
end

