-- ==== Sys2Proof/Laws/Tod.lean ====
section
/-! SUPPORT. The time of day stays below its wrap (R61): an operation that does not count leaves it alone, one that counts wraps it. -/

namespace Sys2Proof.Machine

theorem todWrap_pos : 0 < todWrap := by unfold todWrap; decide

theorem wrap_below (x : Int) : (x % (todWrap : Int)).toNat < todWrap := by
  have p : (0 : Int) < (todWrap : Int) := Int.natCast_pos.mpr todWrap_pos
  have h := Int.emod_lt_of_pos x p
  have n := Int.emod_nonneg x (Int.ne_of_gt p)
  omega

theorem todBelow_congr {s t : State} (h : t.tim.tod = s.tim.tod) (w : TodBelow s) : TodBelow t := by unfold TodBelow at *; rw [h]; exact w

/-- An operation that does not touch the counter. -/
theorem Within.todBelow {l : List StatePart} {g : List Area} {s t : State} (k : Within l g s t) (h : StatePart.tod ∉ l) (w : TodBelow s) :
    TodBelow t := todBelow_congr (k.parts .tod h) w

theorem countTicks_below (k : Nat) (s : State) : TodBelow (countTicks k s) := wrap_below _

theorem advance_below (k : Nat) {s : State} (w : TodBelow s) : TodBelow (advance k s) := by
  unfold advance
  split
  · have b := (perf_within (countTicks k s) 0x43 0x23 0 0 (weirTicks s k)).todBelow (by decide) (countTicks_below k s)
    dsimp only
    split
    · exact (coarseAdvance_within _ _).todBelow (by decide) b
    · exact b
  · exact w

theorem tick_below {s : State} (w : TodBelow s) : TodBelow (tick s) := advance_below 1 w

theorem runTo_below (goal : Nat) {s : State} (w : TodBelow s) : TodBelow (runTo s goal) := by
  unfold runTo
  split
  · exact w
  · exact advance_below _ w

theorem stepTod_below (s : State) (d : Int) : TodBelow (stepTod s d) := wrap_below _

theorem stepTo_below (s : State) (d : Int) : TodBelow (stepTo s d) := by
  unfold stepTo
  dsimp only
  refine (evalTrims_within _).todBelow (by decide) ((reselect_within _).todBelow (by decide) ?_)
  generalize he : clearSuspect _ slotNos = u
  have h : TodBelow u := by
    rw [← he]
    exact (clearSuspect_within _ _).todBelow (by decide) ((stepSluice_within _).todBelow (by decide)
      ((moveOutputs_within _ _).todBelow (by decide) ((stepHeld_within _ _ _).todBelow (by decide) (stepTod_below _ d))))
  exact todBelow_congr (congrArg Tim.tod (raise_tim u _)) h

theorem resetParts_below (s : State) : TodBelow (resetParts s) := todWrap_pos

theorem afterPower_below (s : State) : TodBelow (afterPower s) := todWrap_pos

end Sys2Proof.Machine
end

