-- ==== Sys2Proof/Machine/Pins.lean ====
section
/-! DEFINITION. What the device drives on its balls (R37, R165, R220, R245), where the balls lie (R357 to R359), and the rail windows and
internal pulls (R360, R364). Readouts of `State`: no command's meaning rests on them. -/

namespace Sys2Proof.Machine

/-! ### Levels and activity at the interfaces -/

/-- The interfaces stand at the levels of an absent device (R37): in RESET, in BOOT and in FAULT. -/
def absent (s : State) : Bool :=
  match s.mode with
  | .reset | .boot | .fault => true
  | _ => false

/-- The line or trunk transmitter sends; otherwise it is at electrical idle, or gives no signal unpowered (R37, R334, TX_SQUELCH). -/
def portDrives (s : State) (p : Nat) : Bool := powered s (portDomain p) && !absent s && phyEnabled s p

/-- The data lanes and the forwarded clock of link n are driven (R37, R220): not at electrical idle as in OFF and FAILED. -/
def linkDrives (s : State) (n : Nat) : Bool :=
  powered s .jieth && !absent s && decide (linkState s n ≠ 0) && decide (linkState s n ≠ 7)

/-- Level of HB_OUT (R165): 313 ticks high and 312 low from the entry to CONFIG on, low while stopped. -/
def hbLevel (s : State) : Bool := s.hb && decide ((s.now - s.hbAt) % 625 < 313)

/-- GNSS_CLK is driven out (R37, R245): from the first exit from BOOT, while CLK_EN = 1. -/
def gnssClkRuns (s : State) : Bool := powered s .gnss && !absent s && getB s Reg.GNSS_CFG_CLK_EN

/-- PPS_OUT, TO and CLK10_OUT are held low by their driver (R37). -/
def outHeldLow (s : State) (n : Nat) : Bool := absent s && !outRunning s n

/-- The PCI Express endpoint is out of reset (R33, R35, R37). -/
def pcieAnswers (s : State) : Bool := ifaceUp s .pcie

/-- SPI_MISO leaves high impedance when selected (R33, R35, R37). -/
def spiAnswers (s : State) : Bool := ifaceUp s .spi

/-- The I²C controllers leave high impedance (R37). -/
def i2cDrives (s : State) : Bool := !absent s

/-! ### The ball map (R357 to R359) -/

/-- The rows of the array in order (R9): the nineteen letters, the same after A, and four after B. -/
def rowNames : List String :=
  ["A", "B", "C", "D", "E", "F", "G", "H", "J", "K", "L", "M", "N", "P", "T", "U", "V", "W", "Y",
   "AA", "AB", "AC", "AD", "AE", "AF", "AG", "AH", "AJ", "AK", "AL", "AM", "AN", "AP", "AT", "AU", "AV", "AW", "AY",
   "BA", "BB", "BC", "BD"]

/-- A ball: index of its row from 1, column from 1 (R9, chapter 18). -/
structure Ball where
  /-- Row index, 1 to 42. -/
  row : Nat
  /-- Column, 1 to 42. -/
  col : Nat
  deriving DecidableEq, Repr

/-- Name of a ball (R9). -/
def Ball.name (b : Ball) : String := rowNames.getD (b.row - 1) "" ++ toString b.col

/-- The balls of a serial lane (R357). -/
structure LaneBalls where
  /-- Transmit, true. -/
  txp : Ball
  /-- Transmit, complement. -/
  txn : Ball
  /-- Receive, true. -/
  rxp : Ball
  /-- Receive, complement. -/
  rxn : Ball
  deriving DecidableEq, Repr

/-- A lane along a row: transmit in row r, receive in row r + 2. -/
def laneInRow (r m : Nat) : LaneBalls := ⟨⟨r, 3 + 2 * m⟩, ⟨r, 4 + 2 * m⟩, ⟨r + 2, 3 + 2 * m⟩, ⟨r + 2, 4 + 2 * m⟩⟩

/-- A lane along a column: transmit in column c, receive in column d. -/
def laneInColumn (c d r : Nat) : LaneBalls := ⟨⟨r, c⟩, ⟨r + 1, c⟩, ⟨r, d⟩, ⟨r + 1, d⟩⟩

/-- Lane of line port n: rows A and C, or E and G. -/
def lineLane (n : Nat) : LaneBalls := if n < 16 then laneInRow 1 n else laneInRow 5 (n - 16)

/-- Lane k of trunk n: rows J and L. -/
def trunkLane (n k : Nat) : LaneBalls := laneInRow 9 (2 * n + k)

/-- Lane k of link n, 4 the clock lane. -/
def linkLane (n k : Nat) : LaneBalls :=
  let m := 5 * n + k
  if m < 15 then laneInColumn 42 40 (2 + 2 * m) else laneInColumn 38 36 (2 + 2 * (m - 15))

/-- PCI Express lane l. -/
def pcieLane (l : Nat) : LaneBalls := laneInColumn 1 3 (30 + 2 * l)

/-- The serial lanes in order. -/
def serialLanes : List LaneBalls :=
  (List.range 32).map lineLane ++ (List.range 8).map (fun m => trunkLane (m / 2) (m % 2)) ++
  (List.range 30).map (fun m => linkLane (m / 5) (m % 5)) ++ (List.range 4).map pcieLane

/-- A run of single balls along a row: signal, row index, first column, number of balls in the order the manual names them (R358). -/
def signalRuns : List (String × Nat × Nat × Nat) :=
  [("OSC_IN_P, OSC_IN_N", 42, 20, 2), ("XREF_CLK0-1 P, N", 42, 14, 4), ("XREF_CLK2-3 P, N", 42, 24, 4), ("XREF_PPS0-3", 41, 14, 4),
   ("OVEN_OK", 41, 20, 1), ("CLK10_OUT0-1", 41, 22, 2), ("PPS_OUT0-3", 41, 24, 4), ("TO0-TO7", 40, 14, 8), ("GNSS_CLK", 40, 23, 1),
   ("GNSS_I3-0", 40, 24, 4), ("GNSS_Q3-0", 40, 28, 4), ("EV0-5 P, N", 39, 14, 12), ("EV6-11 P, N", 38, 14, 12),
   ("SPI_SCK, SPI_CS_N, SPI_MOSI, SPI_MISO, INT_N", 42, 2, 5), ("QSPI_CLK, QSPI_CS_N", 42, 8, 2), ("QSPI_IO3-0", 41, 8, 4),
   ("I2C0-1 SCL, SDA", 41, 2, 4), ("I2C2-3 SCL, SDA", 40, 2, 4), ("HB_OUT, ROLE_IN0, ROLE_IN1, ROLE_ACK", 42, 32, 4)] ++
  [("TCK, TMS, TDI, TDO, TRST_N, DBG_EN", 41, 32, 6),
   ("RESET_N, PERST_N, BOOT_SRC0, BOOT_SRC1, JROLE0, JROLE1, PAIR_EN, OVEN_USE", 40, 32, 8), ("TDIODE_P, TDIODE_N", 39, 32, 2),
   ("PCIE_REFCLK_P", 38, 1, 1), ("PCIE_REFCLK_N", 39, 1, 1)]

/-- Every ball that a lane or a signal takes (R357, R358). -/
def signalBalls : List Ball :=
  serialLanes.flatMap (fun l => [l.txp, l.txn, l.rxp, l.rxn]) ++
  signalRuns.flatMap (fun r => (List.range r.2.2.2).map (fun k => ⟨r.2.1, r.2.2.1 + k⟩))

/-- A supply rectangle: rail, first and last row index, first and last column (R359). -/
structure Region where
  /-- The rail. -/
  rail : Rail
  /-- First row index. -/
  r0 : Nat
  /-- Last row index. -/
  r1 : Nat
  /-- First column. -/
  c0 : Nat
  /-- Last column. -/
  c1 : Nat
  deriving DecidableEq, Repr

/-- The supply rectangles (R359). -/
def supplyRegions : List Region :=
  [⟨.vddCore, 12, 27, 12, 31⟩, ⟨.vddHbm, 13, 24, 2, 11⟩, ⟨.vppHbm, 25, 26, 2, 7⟩, ⟨.vddSrds, 32, 37, 33, 42⟩, ⟨.vddhSrds, 12, 19, 32, 35⟩,
   ⟨.vddaClk, 30, 33, 14, 19⟩, ⟨.vddio, 34, 37, 14, 19⟩, ⟨.vddAon, 34, 37, 30, 31⟩, ⟨.vddioAon, 30, 31, 30, 31⟩]

/-- The rail of a supply ball (R359): in a rectangle, where row index plus column is even. -/
def railAt (b : Ball) : Option Rail :=
  (supplyRegions.find? (fun g => decide (g.r0 ≤ b.row ∧ b.row ≤ g.r1 ∧ g.c0 ≤ b.col ∧ b.col ≤ g.c1) && decide ((b.row + b.col) % 2 = 0))).map
    (·.rail)

/-- A ball is ground (R359): neither a signal nor a rail. -/
def isVss (b : Ball) : Bool := !signalBalls.contains b && (railAt b).isNone

/-! ### Rails and pulls -/

/-- Window of a rail in units of 0.1 mV (R360). -/
def Rail.window : Rail → Nat × Nat
  | .vddAon => (7275, 7725)
  | .vddioAon => (17100, 18900)
  | .vddCore => (7275, 7725)
  | .vddaClk => (11640, 12360)
  | .vddSrds => (8730, 9270)
  | .vddhSrds => (11640, 12360)
  | .vddHbm => (10670, 11330)
  | .vppHbm => (17100, 18900)
  | .vddio => (17100, 18900)

/-- Largest current of a rail in mA (R360). -/
def Rail.maxCurrent : Rail → Nat
  | .vddAon => 450
  | .vddioAon => 20
  | .vddCore => 44000
  | .vddaClk => 1500
  | .vddSrds => 12000
  | .vddhSrds => 4000
  | .vddHbm => 6000
  | .vppHbm => 300
  | .vddio => 200

/-- Typical and largest power of a state in mW (R367); OFF is unpowered. -/
def Power.draw : Power → Nat × Nat
  | .full => (42000, 58000)
  | .quiet => (9000, 13000)
  | .keep => (3500, 5000)
  | .aon => (250, 400)
  | .off => (0, 0)

/-- The straps and role inputs with no board connection, by their internal pull-downs (R364): isolate, BOOT_SRC 0b00, JROLE 0b00, PAIR_EN
and OVEN_USE 0. -/
def unconnected : Straps × Nat := ({ bootSrc := 0, jrole := 0, pairEn := false, ovenUse := false }, 0)

end Sys2Proof.Machine
end

