-- ==== Sys2Proof/Tests/Slice0.lean ====
section
/-! SUPPORT. Tests: helpers, ill-formed commands that WellFormed refuses, the manual's worked examples, and for every statement with
hypotheses a theorem `witness_<name>` that meets the hypotheses of each of its clauses on a concrete state. -/

section
set_option linter.unusedVariables false
set_option Elab.async false

/-! ### Helpers: small states, and the readiness premises as Bools -/

namespace Sys2Proof.Tests
open Sys2Proof Sys2Proof.Machine

/-- Set fields of a state, in order. -/
def put (s : State) (l : List (Fld × Nat)) : State := l.foldl (fun t p => setF t p.1 p.2) s

/-- A device in a mode, every domain powered, PCI Express up, calibration done. -/
def live (m : Mode) : State :=
  put { State.reset with mode := m, power := .full, domains := .aon :: mainDomains, cpUp := true, hb := true, pcieUp := true, clk := { State.reset.clk with started := true } } [(Reg.CAL_STATUS_CAL_REQUIRED, 0)]

/-- FREERUN. -/
def free : State := live .freerun

/-- CONFIG. -/
def conf : State := live .config

/-- PlaceFree as a Bool. -/
def placeB (c : CmdCtx) (s : State) : Bool :=
  decide (c.queue < 4) && decide (c.slot < 16) &&
  match c.iface with
  | .pcie => s.pcieUp && decide ((c.queue, c.slot) ∉ s.cmd.slots)
  | .spi => powered s .host && decide (s.cmd.spi.length < 8)
  | .jieth n => decide (n < 6) && linkCarries s n

/-- CanStart as a Bool. -/
def canB (op : Nat) (c : CmdCtx) (s : State) : Bool :=
  placeB c s && cpServes s && decide ((∀ r ∈ s.cmd.waiting, r.queue ≠ c.queue ∧ r.opcode ≠ 0xF0) ∧
  (∀ r ∈ s.cmd.running, r.opcode ≠ 0xF0 ∧ (r.queue = c.queue → r.opcode ≠ 0xF1 ∧ decide (op = 0xF1) = false)))

/-- Ready as a Bool. -/
def readyB (op : Nat) (c : CmdCtx) (ws : List Word) (s : State) : Bool :=
  canB op c s && match opInfo op with
  | some i => i.legal s.mode && (!i.audited || !auditFull s) && i.len ws.length
  | none => false

theorem placeB_iff (c : CmdCtx) (s : State) : placeB c s = true ↔ PlaceFree c s := by
  unfold placeB PlaceFree
  cases c.iface <;> simp [and_assoc]

theorem canB_iff (op : Nat) (c : CmdCtx) (s : State) : canB op c s = true ↔ CanStart op c s := by
  unfold canB CanStart NothingHolds
  rw [Bool.and_eq_true, Bool.and_eq_true, placeB_iff, decide_eq_true_iff, and_assoc]

theorem readyB_iff (op : Nat) (c : CmdCtx) (ws : List Word) (s : State) : readyB op c ws s = true ↔ Ready op c ws s := by
  unfold readyB Ready
  rw [Bool.and_eq_true, canB_iff]
  refine and_congr_right fun _ => ?_
  cases h : opInfo op with
  | none => simp
  | some i =>
    cases ha : i.audited <;> simp [ha, and_assoc]

/-- EngReady as a Bool. -/
def engB (e : Nat) (s : State) : Bool :=
  decide (e < 16) && engIssues s e && (UInstr.decode (memGet (engS s e).iram (engS s e).pc.toNat)).isSome

theorem engB_iff (e : Nat) (s : State) : engB e s = true ↔ EngReady e s := by
  unfold engB EngReady
  simp [and_assoc]

/-- BarWrites as a Bool. -/
def barB (d : Domain) (s : State) : Bool :=
  s.pcieUp && decide (s.mode ≠ .boot) && decide (s.mode ≠ .fault) && !auditFull s && powered s d

theorem barB_iff (d : Domain) (s : State) : barB d s = true ↔ BarWrites d s := by
  unfold barB BarWrites
  simp [and_assoc]

/-- A packet for a queue and slot. -/
def pkt (op : Nat) (q slot : Nat) (ws : List Word) : Packet := ⟨100, .pcie, q, slot, 7, op, false, false, ws, 0, 0, 0, false, false⟩

/-- A packet over SPI. -/
def x_spi : CmdCtx := { iface := .spi, tag := 5, queue := 3, slot := 15 }

/-- A packet over link 5. -/
def x_jieth : CmdCtx := { iface := .jieth 5, tag := 3 }

/-- Link 5 is UP. -/
def L5 : List (Fld × Nat) := [(Reg.LINK_LINK_STATUS_STATE 5, 5)]

/-- A firmware image of one word of body: its header, the signing key's public key, the body's SHA-256 and the ECDSA signature, worked out
apart from the model (R346). -/
def signed : List Word :=
  [0x494D4731, 0x01230001, 0x00000001, 0x00000000, 0x088BB9FF, 0x22AB291A, 0x74C86FC6, 0x77BA897B,
   0xAADEE370, 0xCC6129B8, 0x2D170BA3, 0xFC26415C, 0x442DA9A7, 0x16067956, 0xD91EAA02, 0xB93AD409,
   0x490E87CD, 0x5E758EA6, 0xA331A1DE, 0xB75BA846, 0xB2ED9921, 0x86A5CB19, 0xF6668AAD, 0xE821F502,
   0xC1D00970, 0xDFD0E351, 0x28D51BAC, 0x4649916C, 0x73344442, 0xD96AB800, 0x1C245316, 0x229CB9FC,
   0x1FC36286, 0xBFFD86FE, 0x73FDDA7C, 0xC33FB37D, 0x7C9A5643, 0x917E0807, 0x6A00FC0B, 0x27461548,
   0xE9704A59, 0xBCE8FEA8, 0xBE80A541, 0xE1A94EE3] ++ List.replicate 20 0 ++ [0x12345678]

/-- SHA-256 of that public key (R347). -/
def keyH : List Word := [0x0F8A212D, 0x4F085087, 0xC3547AAE, 0x01E8F656, 0xE297A664, 0xB1373995, 0xBD4E554E, 0xFB036244]
end Sys2Proof.Tests

/-! ### Ill-formed commands are refused by WellFormed -/

namespace Sys2Proof.Tests.IllFormed
open Sys2Proof Sys2Proof.Machine

/-- The commands that are packets. -/
def packets : List (CmdCtx → List Word → Instr) :=
  [.modeSet, .deviceReset, .snapshot, .bootWrite, .bootGo, .queueAbort, .regRead, .regWrite, .stepTod, .slewAccept, .alignOutputs, .refSelect,
    .ptpSend, .ptpRecv, .bermRun, .macEdit, .vlanEdit, .gateLoad, .jiethRelay, .laneSlip, .gaugeCtrl, .gaugeRead, .gnssCtrl, .gnssRawRead,
    .gnssPosSet, .engLoad, .engStart, .engStop, .engRead, .calRun, .calAccept, .calLoad, .calCommit, .calRead, .debugOpen, .auditExport, .auditAck,
    .keyLoad, .keyZero, .idRead, .sampleRead, .fenceAll, .sync, .nop]

/-- A queue, a slot, a link that do not exist, and 1,024 parameter words, each refused of every packet. -/
theorem test_ill_formed_packets :
    packets.all (fun f => !(f { queue := 4 } []).wf && !(f { slot := 16 } []).wf && !(f { iface := .jieth 6 } []).wf &&
      !(f {} (List.replicate 1024 0)).wf && (f { queue := 3, slot := 15, iface := .jieth 5 } (List.replicate 1023 0)).wf) = true := by
  decide +kernel

/-- A PTP frame. -/
def w_ptp : PtpRx := { rise := 0, fall := 0, uis := 0, fr := { dst := 0, src := 0, len := 64 } }

/-- Commands that name what does not exist, part 1. -/
theorem test_ill_formed_1 :
    ([.fenceAllComplete 4, .syncComplete 4, .pcieDoorbell 4 0 0 [] false, .pcieDoorbell 0 16 0 [] false, .pcieDoorbell 0 0 1024 [] false,
    .registerWrite 0 16 0, .outPstepLoWrite 14 0, .returnWrite 20 0, .armWrite 14 0, .outEnWrite 14 0, .retrain 6 0, .linkRoleWrite 6 0,
    .slotCfgWrite 8 0, .phyCfgWrite 36 0, .mboxInWrite 16 0, .mboxOutRead 16, .result3Read 12, .clrWrite 8 0, .dllLock 20, .dllUnlock 20,
    .periodBoundary 20, .compareFire 14, .slotQualified 8 ⟨0, 0, 0⟩, .slotQualLost 8 .signal, .gnssIncons 8, .wtrExpiry 8, .phaseWord 36 [],
    .portSignalLoss 36, .ptpEventRx 36 w_ptp, .linkDelayUpdate 36 0 0 0 0, .syncIntervalBoundary 36, .bermRequest 36 .period,
    .bermGapRequest 36 ⟨0, false⟩, .bermWindowStart 36, .frameRx 42 { dst := 0, src := 0, len := 64 }, .spillStagedWrite 336, .spillReadback 336,
    .frameTx ⟨42, {}⟩, .gateChange 36, .gateListTakeEffect 36, .sluiceRelease 42 {}, .linkUp 36 {}, .portDown 42 false, .flushDone 42, .jiethClockLock 6] : List Instr).all (fun i => !i.wf) = true := by
  decide +kernel

/-- Commands that name what does not exist, part 2. -/
theorem test_ill_formed_2 :
    ([.jiethAlignDone 6 [] 0, .jiethHello 6 { role := 0, depth := 0, epoch := 0 }, .jiethDelayDone 6 ⟨0, 0, 0, 0, 0⟩ ⟨0, 0, 0, 0, 0⟩,
    .jiethTrainingTimeout 6, .failedTimeout 6, .markerRx 6 { n1 := 0, c1 := 0, n2 := 0, c2 := 0 }, .timingFrameTx 6, .timingFrameRx 6 [] [],
    .rtUpdate 6 ⟨0, 0, 0, 0, 0⟩, .fwdClkLost 6, .controlFrameRx 6 { header := 0 }, .controlAckTimeout 6,
    .jiethFrameRx 6 { hdrs := [], desc := 0, body := [], crc := 0 }, .flowRx 6 ⟨0, false, false, false, 0⟩, .laneLost 6 0, .laneLost 0 4,
    .pairSwitch 6, .laneRejoined 6 0, .laneRejoined 0 4, .gaugeEdge 12 0, .gaugeConversionDone 12 0 0 0, .freqGateEnd 12, .gaugeCorrectionApply 12,
    .acquisitionDone 0 ⟨0, 0⟩ 0 0, .acquisitionDone 33 ⟨0, 0⟩ 0 0, .acquisitionDone 1 ⟨21, 0⟩ 0 0, .acquisitionDone 1 ⟨0, 32768⟩ 0 0, .channelTrack 24, .channelLost 24, .ueAdd 16 0 0 0,
    .ueSub 16 0 0 0, .ueAdds 16 0 0 0, .ueSubs 16 0 0 0, .ueAnd 16 0 0 0, .ueOr 16 0 0 0, .ueXor 16 0 0 0, .ueShl 16 0 0 0, .ueShr 16 0 0 0,
    .ueSar 16 0 0 0, .ueCmp 16 0 0 0, .ueMul 16 0 0 0, .ueMac 16 0 0 0, .ueMsu 16 0 0 0, .ueMulu 16 0 0 0, .ueMacu 16 0 0 0, .ueAccx 16 0 0 0] : List Instr).all (fun i => !i.wf) = true := by
  decide +kernel

/-- Commands that name what does not exist, part 3. -/
theorem test_ill_formed_3 :
    ([.ueAccl 16 0 0 0, .ueAsra 16 0 0 0, .ueAcca 16 0 0 0, .ueLd 16 0 0 0, .ueSt 16 0 0 0, .ueLdi 16 0 0, .ueLim 16 0 0, .ueLit 16 0 0,
    .ueAddi 16 0 0, .ueShli 16 0 0, .ueSari 16 0 0, .ueIn 16 0 0, .ueOutSel 16 0, .ueOutMboxOut 16 0, .ueOutTrimStage 16 0 0, .ueFtrimCommit 16 0,
    .uePtrimCommit 16 0, .ueOutTimer 16 0, .ueOutIrq 16 0, .ueWait 16 0, .waitWake 16, .ueMark 16 0, .ueJ 16 0, .ueBz 16 0, .ueBnz 16 0,
    .ueBlt 16 0, .ueBge 16 0, .ueCall 16 0, .ueRet 16, .ueHalt 16, .engineTimerExpiry 16, .userWatchdogExpiry 11, .userWatchdogExpiry 16,
    .counterWrap 128, .engineNop 16, .signedPairWindowEnd 12, .debugWrite (.engIram 16 0) 0, .debugWrite (.engDram 16 0) 0,
    .debugWrite (.engWord 16 0) 0, .debugWrite (.engWord 0 16) 0, .debugWrite (.engPc 16) 0, .debugWrite (.engHalt 16) 0,
    .debugWrite (.engStep 16) 0] : List Instr).all (fun i => !i.wf) = true := by
  decide +kernel

end Sys2Proof.Tests.IllFormed

/-! ### Worked examples of the manual, one step or one function each -/

namespace Sys2Proof.Tests.Worked
open Sys2Proof Sys2Proof.Machine Sys2Proof.Tests

/-- A test on the next state. -/
def after (i : Instr) (s : State) (p : State → Bool) : Bool :=
  match exec i s with
  | .next t => p t
  | _ => false

/-- The worked example of chapter 4, step 2: phase 1 of the exact pattern carries into the next second. -/
theorem test_tick_carries_second :
    step { free with tim := { tod := 999999998 * 2 ^ 56 + 39322 * 2 ^ 40, phase := 1 } } =
      .next (tick { free with tim := { tod := 999999998 * 2 ^ 56 + 39322 * 2 ^ 40, phase := 1 } }) ∧
    (tick { free with tim := { tod := 999999998 * 2 ^ 56 + 39322 * 2 ^ 40, phase := 1 } }).tim.tod = 10 ^ 9 * 2 ^ 56 + 13107 * 2 ^ 40 := by
  exact ⟨rfl, by decide +kernel⟩

/-- Chapter 4: the applied increment in NUMERIC with a correction of 2.5 × 10⁻¹². -/
theorem test_numeric_increment : incNumeric 115292150460684698 2882304 = 115292150460972928 := by decide +kernel

/-- Chapter 3: a launch at −2,162.300 ps is placed two ticks early, at sub-tick 5, tap 48. -/
theorem test_place_pps : placement 340033 = (0, 5, 48) := by decide +kernel

/-- Chapter 5: the 25G span, in tenths of a picosecond: rt, d_in and the offset. -/
theorem test_unequal_wavelengths :
    linkQuantities 0x11904B3C 1000000000 2224328404 3000000000 4223999628 = (2448328032, 1224328032, 372) := by decide +kernel

/-- History of chapter 6's worked example, its words at their means, up to the loss at 10,000 s. -/
def s_history : State :=
  { put (live .locked) [] with
    tim := { tod := 10000 * 10 ^ 9 * 2 ^ 56 }
    sel := { State.reset.sel with hist := (List.range 720).map (fun k => ⟨9280 + k, if k < 300 then 460000 else if k < 600 then 470000 else 900000, true⟩) } }

/-- Chapter 6: the guard interval keeps the pulled words out of the average. -/
theorem test_holdover_average : holdAverage s_history = (some 465000, 600) := by decide +kernel

/-- A device locked to slot S2, the only one enabled. -/
def s_locked (window : Nat) : State :=
  put (live .locked) [(Reg.SLOT_SLOT_CFG_EN 2, 1), (Reg.SLOT_SLOT_CFG_INDEX 2, 5), (Reg.SLOT_SLOT_STATUS_QUALIFIED 2, 1),
    (Reg.SLOT_SLOT_STATUS_SELECTED 2, 1), (Reg.REF_SEL_STATUS_SELECTED, 2), (Reg.REF_LOSS_CTRL_WINDOW_OPEN, window)]

/-- Chapter 2: a loss of everything with the recovery window open is HOLDOVER. -/
theorem test_loss_in_recovery : after (.slotQualLost 2 .signal) (s_locked 1) (fun t => decide (t.mode = .holdover)) = true := by decide +kernel

/-- Chapter 2: with the window closed it is FREERUN at NOMINAL. -/
theorem test_loss_in_service :
    after (.slotQualLost 2 .signal) (s_locked 0) (fun t => decide (t.mode = .freerun) && decide (t.clk.cwReq = nominal t)) = true := by decide +kernel

/-- R152: depth 2, hops 2 and 4 make the address 0x2500. -/
theorem test_worker_address : addrHop 0x2500 1 = 2 ∧ addrHop 0x2500 2 = 4 ∧ bits 0x2500 12 4 = 2 ∧ addrValid 0x2500 = true := by decide +kernel

/-- Chapter 8: 0x0000 is higher than 0xFFFF, and 0xFFFF is not higher than 0x0000. -/
theorem test_epoch_wraps : epochHigher 0 0xFFFF = true ∧ epochHigher 0xFFFF 0 = false := by decide +kernel

/-- Chapter 11: the start edge normalises to coarse 4,999,999 and fine 1,074.3125 ps, 275,024 units of 2⁻⁸ ps. -/
theorem test_edge_normalises :
    coarseFine ((5000000 * 1600 + 600 - 850) * 65536 - 2756875 * 65536 / 10000) = (4999999, 275024) := by decide +kernel

/-- Chapter 14: t and r of P0, in tenths of a picosecond. -/
theorem test_port_delays : solveDelay 21500 24500 489446 244500 0 155 = (21878, 24568) := by decide +kernel

/-- Chapter 13: the nine words of the user program. -/
theorem test_user_program :
    [0x28102, 0x29120, 0x31180, 0x32008, 0x30201, 0x30302, 0x31281, 0x33001, 0x38003].map UInstr.decode =
      [some (.i .ldi 1 0x02), some (.i .lim 1 0x20), some (.i .outp 1 0x80), some (.i .wait 0 0x08), some (.i .inp 2 0x01),
       some (.i .inp 3 0x02), some (.i .outp 2 0x81), some (.i .mark 0 0x01), some (.j .j 0x003)] := by decide +kernel

/-- UE12 with the program's second instruction at its pc, W1 as LDI left it. -/
def s_program : State :=
  updEng (put free [(Reg.UE_ENG_STATUS_RUNNING 12, 1)]) 12 (fun o => { o with iram := [(1, 0x29120)], pc := 1, w := (0 : EWord) :: 2 :: List.replicate 14 0 })

/-- Chapter 13: LIM W1, 0x20 makes W1 0x2002. -/
theorem test_lim : after (.ueLim 12 1 0x20) s_program (fun t => decide (uw t 12 1 = 0x2002) && decide ((engS t 12).pc = 2)) = true := by decide +kernel

/-- Chapter 16: the alias 0x0021_C024 reaches CLK.NOMINAL_LO; the value applies, the unlock disarms, the audit entry names both addresses. -/
theorem test_nominal_through_alias :
    after (.registerWrite 0x0021C024 15 0x00071868) { put free [(Reg.SYS_UNLOCK_ARMED, 1)] with staged := [(0x10020, 0)] }
      (fun t => decide (nominal t = 465000) && !getB t Reg.SYS_UNLOCK_ARMED &&
        (match t.aud.ring.getLast? with
          | some e => decide (e.getD 4 0 = 0x00010024) && decide (e.getD 5 0 = 0x0021C024)
          | none => false)) = true := by decide +kernel

/-- Chapter 16: without the unlock the same write sets GUARD_VIOL with VIOL_ADDR 0x01_0024, and the staged word waits. -/
theorem test_nominal_unarmed :
    after (.registerWrite 0x0021C024 15 0x00071868) { free with staged := [(0x10020, 0)] }
      (fun t => getB t Reg.SYS_EVENTS_GUARD_VIOL && decide (getF t Reg.SYS_VIOL_ADDR = 0x10024) && decide (nominal t = 0) &&
        decide (t.staged = [(0x10020, 0)])) = true := by decide +kernel

/-- R323: the mask word 0x0080_0000 clears bit 7 and no other. -/
theorem test_masked_write :
    after (.registerWrite 0x24 15 0x00800000) (put free [(Reg.SYS_INT_EN, 0xFFFF)]) (fun t => decide (getF t Reg.SYS_INT_EN = 0xFF7F)) = true := by
  decide +kernel

/-- Chapter 17, step 2: under a full log a write to FAB.CFG is dropped and counted twice. -/
theorem test_full_log_drops :
    after (.registerWrite 0x80000 15 0) { put free [(Reg.AUD_CFG_POLICY, 1)] with aud := { ring := List.replicate 8128 [], unack := 8128 } }
      (fun t => decide (getF t Reg.SYS_WR_DROP = 1) && decide (getF t Reg.AUD_REFUSED = 1) && decide (t.aud.ring.length = 8128)) = true := by
  decide +kernel

/-- R298, R353: CRC-32 of the bytes 1 to 9 in ASCII is its published check value, and the SHA-256 of one word, worked out apart from the model. -/
theorem test_digests :
    crc32 [0x31, 0x32, 0x33, 0x34, 0x35, 0x36, 0x37, 0x38, 0x39] = 0xCBF43926 ∧
    sha256 [5] = [0x221F8AF2, 0x372A9506, 0x4F2EF7D7, 0x712216A9, 0xAB46E7EF, 0x98482FD2, 0x37E106F8, 0x3EAA7569] := by
  exact ⟨by decide +kernel, by decide +kernel⟩

/-- Chapter 7: θ of 1,312.5 ps and internal delays of 10,060.0 ps leave a round trip of 500,000.0 ps, in tenths of a picosecond (no
internal delay of its own in this state, so the example's whole sum stands on the other side). -/
theorem test_round_trip :
    loopRt free 0 { loop := 5113725, theta := 13125, peerTx := 43100, peerRx := 57500 } = 5000000 := by decide +kernel

/-- R357, R358: lanes and signals take 399 balls; lane J3.L2 lies at F38, G38, F36 and G36. -/
theorem test_ball_count : signalBalls.length = 399 ∧ 
    (linkLane 3 2).txp.name = "F38" ∧ (linkLane 3 2).txn.name = "G38" ∧ (linkLane 3 2).rxp.name = "F36" ∧ (linkLane 3 2).rxn.name = "G36" := by decide +kernel

end Sys2Proof.Tests.Worked

/-! ### Witnesses of the statements' hypotheses -/

namespace Sys2Proof.Tests.Machine
open Sys2Proof Sys2Proof.Machine Sys2Proof.Tests

def s_q : State := {free with pending := [.nop {} [], .oscLos]}
def s_ph3 : State := {free with tim := {tod := 77 * 2^40 + 5, phase := 3}}
def x_b : QFrame := {q := 0, len := 64, src := 3}
def s_wrapPlain : State := { State.reset with tim := { tod := todWrap - 1, phase := 4 }, clk := { State.reset.clk with started := true } }

/-- The premises of the clauses of PolderReserve are met by states and operands. -/
theorem witness_PolderReserve :
    (let s : State := free; let fr : QFrame := x_b; fr.pre = 0 ∧ polderUsed s < polderUsed (enqueue s fr)) := by
  decide +kernel

/-- The premises of the clauses of EmptyQueueTicks are met by states and operands. -/
theorem witness_EmptyQueueTicks :
    (let s : State := State.reset; s.pending = [] ∧ s.clk.started = false) ∧
    (let s : State := free; s.pending = [] ∧ s.clk.started = true ∧ powered s Domain.gauge = true) := by
  refine ⟨?_, ?_⟩ <;> (decide +kernel)

/-- The premises of the clauses of StepRunsFront are met by states and operands. -/
theorem witness_StepRunsFront :
    (let s : State := s_q; let c : Instr := Sys2Proof.Instr.nop { iface := Sys2Proof.Iface.pcie, queue := 0, slot := 0, tag := 0, reply := false } []; let r : List Instr := [Sys2Proof.Instr.oscLos]; s.pending = c :: r) := by
  decide +kernel

/-- The premises of the clauses of ExactIncrement are met by states and operands. -/
theorem witness_ExactIncrement :
    (let j : Nat := 5; j ≤ 5) ∧
    (let s : State := free; s.clk.started = true ∧ s.tim.numeric = false ∧ getB s Reg.TIME_TOD_CTRL_INC_EXACT = true ∧ s.tim.weirRem = 0 ∧ s.tim.phase < 5) := by
  refine ⟨?_, ?_⟩ <;> (decide +kernel)

/-- The premises of the clauses of StepKeepsSound are met by states and operands. -/
theorem witness_StepKeepsSound :
    (∃ t, let s := State.reset; BankWf s ∧ TodBelow s ∧ AuditOk s ∧ step s = .next t) ∧
    (∃ t, let s := s_wrapPlain; BankWf s ∧ TodBelow s ∧ AuditOk s ∧ step s = .next t) := by
  refine ⟨?_, ?_⟩ <;> (exact ⟨_, by unfold BankWf; decide +kernel, by unfold TodBelow; decide +kernel, by unfold AuditOk; decide +kernel, rfl⟩)

/-- The premises of the clauses of CommandsRun are met by states and operands. -/
theorem witness_CommandsRun :
    (let s : State := free; let c : Instr := .nop {} []; c.wf = true) ∧
    (let c : Instr := .nop {} []; c.wf = true) ∧
    (∃ t, let c : Instr := .oscLos; let s := s_q; exec c s = .next t) := by
  refine ⟨?_, ?_, ?_⟩
  · decide +kernel
  · decide +kernel
  · exact ⟨_, rfl⟩

/-- The premises of the clauses of ResetState are met by states and operands. -/
theorem witness_ResetState :
    (let p : Nat := 0; p < 36) ∧
    (let n : Nat := 0; n < 20) := by
  refine ⟨?_, ?_⟩ <;> (decide +kernel)

/-- The premises of the clauses of MaskedWrites are met by states and operands. -/
theorem witness_MaskedWrites :
    (let s : State := free; let v : Word := 16711765; BarWrites Domain.aon s ∧ fieldOf v 16 16 ≠ 0) ∧
    (let s : State := free; let v : Word := 0; BarWrites Domain.aon s ∧ fieldOf v 16 16 = 0) ∧
    (let s : State := free; let v : Word := 8388608; BarWrites Domain.aon s ∧ v = 8388608) := by
  refine ⟨?_, ?_, ?_⟩ <;> (simp only [← barB_iff]; decide +kernel)

end Sys2Proof.Tests.Machine

namespace Sys2Proof.Tests.Modes
open Sys2Proof Sys2Proof.Machine Sys2Proof.Tests

def s_required : State := put conf [(Reg.CAL_STATUS_CAL_REQUIRED, 1)]
def s_pair : State := { free with straps := { pairEn := true, jrole := 2 } }

/-- The premises of the clauses of ModeSet are met by states and operands. -/
theorem witness_ModeSet :
    (let s : State := free; let c : CmdCtx := x_spi; let ws : List Word := [10, 0]; let m : Mode := Sys2Proof.Mode.timekeep; Ready 1 c ws s ∧ modeOfCode (parF ws 0 0 4) = some m ∧ s.straps.pairEn = false ∧ (∀ r ∈ s.cmd.running, r.opcode ≠ 1) ∧ (s.mode = Mode.config ∧ m ∈ [Mode.freerun, Mode.bench] ∧ getB s Reg.CAL_STATUS_CAL_REQUIRED = false ∨ s.mode = Mode.config ∧ m = Mode.acquire ∧ getB s Reg.CAL_STATUS_CAL_REQUIRED = false ∧ selected s = none ∧ s.sel.sw = none ∨ s.mode ∈ [Mode.freerun, Mode.locked] ∧ m = Mode.bench ∧ getB s Reg.CAL_STATUS_CAL_REQUIRED = false ∨ s.mode ∈ [Mode.freerun, Mode.holdover] ∧ m = Mode.acquire ∧ selected s = none ∧ s.sel.sw = none ∨ s.mode = Mode.holdover ∧ m = Mode.freerun ∨ s.mode ∈ [Mode.locked, Mode.holdover, Mode.freerun] ∧ m = Mode.timekeep ∨ s.mode = Mode.bench ∧ m = Mode.config)) ∧
    (let s : State := s_pair; let c : CmdCtx := x_spi; let ws : List Word := [10, 0]; let m : Mode := Sys2Proof.Mode.timekeep; Ready 1 c ws s ∧ modeOfCode (parF ws 0 0 4) = some m ∧ (∀ r ∈ s.cmd.running, r.opcode ≠ 1) ∧ (m ∈ [Mode.reset, Mode.boot, Mode.locked, Mode.holdover, Mode.standby, Mode.calibrate, Mode.fault] ∨ m ∈ [Mode.acquire, Mode.freerun, Mode.bench] ∧ s.mode = Mode.config ∧ getB s Reg.CAL_STATUS_CAL_REQUIRED = true ∨ m ∈ [Mode.bench, Mode.timekeep] ∧ s.straps.pairEn = true)) := by
  refine ⟨?_, ?_⟩ <;> (simp only [← readyB_iff]; decide +kernel)

end Sys2Proof.Tests.Modes

namespace Sys2Proof.Tests.Packets
open Sys2Proof Sys2Proof.Machine Sys2Proof.Tests

def s_conf : State := put conf L5
def s_boot : State := live .boot
def s_full : State := { put conf [(Reg.AUD_CFG_POLICY,1)] with aud := { ring := List.replicate 8192 [], unack := 8192}}
def s_run : State := {put free L5 with cmd := {running := [{pkt 1 1 1 [] with id := 5}], nextId := 200}}
def s_wait : State := {put free L5 with cmd := {waiting := [pkt 7 1 1 []], nextId := 200}}

/-- The premises of the clauses of PacketStartChecks are met by states and operands. -/
theorem witness_PacketStartChecks :
    (let x : Instr := .stepTod {} []; let op := 16; let c : CmdCtx := {}; let ws : List Word := []; let s := s_boot; let i : OpInfo := { audited := true, legal := modeRun, len := fun n => decide (n = 5) }; packetOp x = some (op, c, ws) ∧ opInfo op = some i ∧ ws.length ≤ 512 ∧ CanStart op c s ∧ i.legal s.mode = false) ∧
    (let x : Instr := .stepTod {} []; let op := 16; let c : CmdCtx := {}; let ws : List Word := []; let s := s_full; let i : OpInfo := { audited := true, legal := modeRun, len := fun n => decide (n = 5) }; packetOp x = some (op, c, ws) ∧ opInfo op = some i ∧ ws.length ≤ 512 ∧ CanStart op c s ∧ i.legal s.mode = true ∧ i.audited = true ∧ auditFull s = true ∧ op ≠ 161 ∧ op ≠ 162) ∧
    (let x : Instr := .stepTod {} []; let op := 16; let c : CmdCtx := {}; let ws : List Word := []; let s := s_conf; let i : OpInfo := { audited := true, legal := modeRun, len := fun n => decide (n = 5) }; packetOp x = some (op, c, ws) ∧ opInfo op = some i ∧ ws.length ≤ 512 ∧ CanStart op c s ∧ i.legal s.mode = true ∧ (i.audited = true → auditFull s = false) ∧ i.len ws.length = false) := by
  refine ⟨?_, ?_, ?_⟩ <;> (exact ⟨rfl, rfl, by simp only [← canB_iff]; decide +kernel⟩)

/-- The premises of the clauses of RegisterAndAbortPackets are met by states and operands. -/
theorem witness_RegisterAndAbortPackets :
    (let s : State := s_full; let c : CmdCtx := x_spi; let ws : List Word := [33554432]; Ready 7 c ws s) ∧
    (let s : State := free; let c : CmdCtx := x_spi; let ws : List Word := [196608, 5]; Ready 8 c ws s) ∧
    (let s : State := s_full; let c : CmdCtx := x_spi; let ws : List Word := [33554432]; Ready 3 c ws s ∧ 1 ≤ parF ws 0 24 8 ∧ parF ws 0 24 8 ≤ 128 ∧ parAddr ws + 4 * parF ws 0 24 8 ≤ 2 ^ 24) ∧
    (let s : State := s_full; let c : CmdCtx := x_spi; let ws : List Word := [36]; Ready 3 c ws s ∧ (parF ws 0 24 8 = 0 ∨ 128 < parF ws 0 24 8 ∨ 2 ^ 24 < parAddr ws + 4 * parF ws 0 24 8)) ∧
    (let s : State := s_full; let c : CmdCtx := x_spi; let ws : List Word := [36 + 2147483648]; Ready 6 c ws s ∧ parF ws 0 0 4 ≠ 0 ∧ (∀ r ∈ s.cmd.waiting, r.id < s.cmd.nextId)) ∧
    (let s : State := s_full; let c : CmdCtx := x_spi; let ws : List Word := [33554432]; Ready 6 c ws s ∧ parF ws 0 0 4 = 0) := by
  refine ⟨?_, ?_, ?_, ?_, ?_, ?_⟩ <;> (simp only [← readyB_iff]; decide +kernel)

/-- The premises of the clauses of ResetsAndFaults are met by states and operands. -/
theorem witness_ResetsAndFaults :
    (let s : State := free; let c : CmdCtx := { }; let ws : List Word := []; Ready 2 c ws s ∧ c.iface = Iface.pcie) ∧
    (let s : State := s_full; let c : FaultCause := .noValidImage; s.mode ≠ Mode.reset ∧ s.mode ≠ Mode.fault ∧ s.cmd.running.length < 8192) := by
  refine ⟨?_, ?_⟩
  · simp only [← readyB_iff]; decide +kernel
  · decide +kernel

end Sys2Proof.Tests.Packets

namespace Sys2Proof.Tests.Queues
open Sys2Proof Sys2Proof.Machine Sys2Proof.Tests

def bootS (src : BitVec 2) : State := { live .boot with straps := { bootSrc := src }, boot := .hostImage {bootSrc := src} }
def s_b2 : State := bootS 2
def s_bimg : State := {bootS 1 with image := [(0,5),(3,7),(1048575,9)]}
def h1 (op len q : Nat) : Word := BitVec.ofNat 32 (op <<< 24 + 7 <<< 16 + len <<< 6 + q <<< 2)
def rn (op q : Nat) : Packet := { pkt op q 1 [] with id := 50 }
def s_occ : State := {put free L5 with cmd := {slots := [(0,0),(3,15)], nextId := 4, spi := List.replicate 8 {id := 3}}}
def s_reps : State := {put free L5 with cmd := {slots := [(0,0),(3,15)], nextId := 4, spi := [{id:=1},{id := 2, words := some [1], final := true}, {id := 3, words := some [2,3]}]}}
def s_reps2 : State := {put free L5 with cmd := {slots := [(0,0),(3,15)], nextId := 4, spi := [{id:=1},{id := 2, words := some [1], final := false}, {id := 3, words := some [2,3]}]}}
def s_w : State := {put free L5 with cmd := {waiting := [pkt 0xFF 1 1 [], pkt 0xFF 0 0 []], nextId := 200}}
def s_r : State := {put free L5 with cmd := {running := [rn 0xF1 1, rn 0xF0 3], nextId := 200}}
def x_b2 : SpiBuf := {id := 2, words := some [1], final := true}
def x_r3 : (List SpiBuf) := [{id := 3, words := some [2,3]}]

/-- A host image that its key signs, at the start of the image RAM. -/
def s_image : State :=
  { live .boot with straps := { bootSrc := 1 }, boot := .hostImage { bootSrc := 1 }, image := memPutList [] 0 signed, otp := { keyHash := [keyH] } }

/-- The premises of the clauses of PacketQueues are met by states and operands. -/
theorem witness_PacketQueues :
    (let s : State := s_bimg; let q : Nat := 1; let slot : Nat := 1; let n : Nat := 1023; let pkt : List Word := [h1 7 2 3, 171, 205]; cpServes s = true ∧ pkt.length < 1024 ∧ q < 4 ∧ slot < 16 ∧ s.pcieUp = true ∧ (q, slot) ∉ s.cmd.slots ∧ 1 ≤ pkt.length ∧ fieldOf (pkt.getD 0 0) 6 10 ≤ 512 ∧ (opInfo (fieldOf (pkt.getD 0 0) 24 8)).isSome = true ∧ n < 1024 ∧ 1 + fieldOf (pkt.getD 0 0) 6 10 ≤ n) ∧
    (let s : State := s_reps; let q : Nat := 3; let slot : Nat := 15; let n : Nat := 1023; let pkt : List Word := keyH; cpServes s = true ∧ pkt.length < 1024 ∧ q < 4 ∧ slot < 16 ∧ s.pcieUp = true ∧ (q, slot) ∈ s.cmd.slots) ∧
    (let s : State := s_bimg; let q : Nat := 1023; let slot : Nat := 1023; let n : Nat := 1023; let pkt : List Word := [h1 7 2 3, 171, 205]; cpServes s = true ∧ pkt.length < 1024 ∧ powered s Domain.host = true ∧ s.cmd.spi.length < 8 ∧ 1 ≤ pkt.length ∧ fieldOf (pkt.getD 0 0) 6 10 ≤ 512 ∧ (opInfo (fieldOf (pkt.getD 0 0) 24 8)).isSome = true ∧ 1 + fieldOf (pkt.getD 0 0) 6 10 ≤ pkt.length) ∧
    (let s : State := s_occ; let q : Nat := 1023; let slot : Nat := 1023; let n : Nat := 1023; let pkt : List Word := keyH; cpServes s = true ∧ pkt.length < 1024 ∧ powered s Domain.host = true ∧ 8 ≤ s.cmd.spi.length) ∧
    (let s : State := s_w; let p : Packet := { id := 100, iface := Sys2Proof.Iface.pcie, queue := 0, slot := 0, tag := 7, opcode := 255, fence := false, reply := false, words := [], header := 0x00000000#32, bell := 0, startAt := 0, aud := false, mute := false }; p.opcode = 255 ∧ p.words = [] ∧ p.aud = false ∧ modeRun s.mode = true ∧ cpServes s = true ∧ nextPacket s = some p) ∧
    (let s : State := s_reps; let b : SpiBuf := { id := 2, words := some [0x00000001#32], final := true, reply := false }; let r : List SpiBuf := [{ id := 3, words := some [0x00000002#32, 0x00000003#32], final := false, reply := false }]; ifaceUp s Iface.spi = true ∧ List.filter (fun x => x.words.isSome) s.cmd.spi = b :: r ∧ b.final = true) ∧
    (let s : State := s_bimg; let b : Bool := 1023; ifaceUp s Iface.spi = true ∧ List.filter (fun x => x.words.isSome) s.cmd.spi = []) ∧
    (let s : State := s_reps; let c : CmdCtx := x_jieth; Ready 255 c [] s) ∧
    (let s : State := s_reps; let c : CmdCtx := x_jieth; Ready 240 c [] s ∧ s.cmd.waiting = [] ∧ s.cmd.running = []) ∧
    (let s : State := s_reps; let c : CmdCtx := x_jieth; Ready 241 c [] s) ∧
    (let s : State := s_r; let c : CmdCtx := x_jieth; let q : Nat := 1; let p : Packet := { id := 50, iface := Sys2Proof.Iface.pcie, queue := 1, slot := 1, tag := 7, opcode := 241, fence := false, reply := false, words := [], header := 0x00000000#32, bell := 0, startAt := 0, aud := false, mute := false }; q < 4 ∧ List.find? (fun r => decide (r.queue = q) && decide (r.opcode = 241)) s.cmd.running = some p) ∧
    (let s : State := s_r; let c : CmdCtx := x_jieth; let q : Nat := 3; let p : Packet := { id := 50, iface := Sys2Proof.Iface.pcie, queue := 3, slot := 1, tag := 7, opcode := 240, fence := false, reply := false, words := [], header := 0x00000000#32, bell := 0, startAt := 0, aud := false, mute := false }; q < 4 ∧ List.find? (fun r => decide (r.queue = q) && decide (r.opcode = 240)) s.cmd.running = some p ∧ earlierOpen s p.id = false) := by
  refine ⟨?_, ?_, ?_, ?_, ?_, ?_, ?_, ?_, ?_, ?_, ?_, ?_⟩
  · decide +kernel
  · decide +kernel
  · decide +kernel
  · decide +kernel
  · decide +kernel
  · decide +kernel
  · decide +kernel
  · simp only [← readyB_iff]; decide +kernel
  · simp only [← readyB_iff]; decide +kernel
  · simp only [← readyB_iff]; decide +kernel
  · decide +kernel
  · decide +kernel

/-- The premises of the clauses of BootPackets are met by states and operands. -/
theorem witness_BootPackets :
    (let s : State := s_bimg; let c : CmdCtx := {}; let ws : List Word := keyH; Ready 4 c ws s ∧ (∀ r ∈ s.cmd.running, r.opcode ≠ 5) ∧ (c.iface = Iface.pcie ∧ s.straps.bootSrc = 1 ∨ c.iface = Iface.spi ∧ s.straps.bootSrc = 2) ∧ parF ws 0 0 20 + (ws.length - 1) ≤ 1048576) ∧
    (let s : State := s_bimg; let c : CmdCtx := {}; let ws : List Word := [1048576 - 1, 171, 2]; Ready 4 c ws s ∧ (∀ r ∈ s.cmd.running, r.opcode ≠ 5) ∧ (c.iface = Iface.pcie ∧ s.straps.bootSrc = 1 ∨ c.iface = Iface.spi ∧ s.straps.bootSrc = 2) ∧ 1048576 < parF ws 0 0 20 + (ws.length - 1)) ∧
    (let s : State := s_bimg; let c : CmdCtx := x_spi; let ws : List Word := keyH; Ready 4 c ws s ∧ (∀ r ∈ s.cmd.running, r.opcode ≠ 5) ∧ (¬(c.iface = Iface.pcie ∧ s.straps.bootSrc = 1 ∨ c.iface = Iface.spi ∧ s.straps.bootSrc = 2))) ∧
    (let s : State := s_image; let c : CmdCtx := {}; let ws : List Word := [65]; Ready 5 c ws s ∧ (∀ r ∈ s.cmd.running, r.opcode ≠ 5) ∧ (c.iface = Iface.pcie ∧ s.straps.bootSrc = 1 ∨ c.iface = Iface.spi ∧ s.straps.bootSrc = 2) ∧ 1 ≤ parF ws 0 0 21 ∧ parF ws 0 0 21 ≤ 1048576 ∧ imageCheck s (hostImage s (parF ws 0 0 21)) = 1) ∧
    (let s : State := s_bimg; let c : CmdCtx := {}; let ws : List Word := [65]; Ready 5 c ws s ∧ (∀ r ∈ s.cmd.running, r.opcode ≠ 5) ∧ (c.iface = Iface.pcie ∧ s.straps.bootSrc = 1 ∨ c.iface = Iface.spi ∧ s.straps.bootSrc = 2) ∧ 1 ≤ parF ws 0 0 21 ∧ parF ws 0 0 21 ≤ 1048576 ∧ imageCheck s (hostImage s (parF ws 0 0 21)) ≠ 1 ∧ c.iface = Iface.pcie) ∧
    (let s : State := s_bimg; let c : CmdCtx := x_spi; let ws : List Word := [65]; Ready 5 c ws s ∧ (∀ r ∈ s.cmd.running, r.opcode ≠ 5) ∧ (¬(c.iface = Iface.pcie ∧ s.straps.bootSrc = 1 ∨ c.iface = Iface.spi ∧ s.straps.bootSrc = 2))) ∧
    (let s : State := s_bimg; let c : CmdCtx := {}; let ws : List Word := [0]; Ready 5 c ws s ∧ (∀ r ∈ s.cmd.running, r.opcode ≠ 5) ∧ (c.iface = Iface.pcie ∧ s.straps.bootSrc = 1 ∨ c.iface = Iface.spi ∧ s.straps.bootSrc = 2) ∧ (parF ws 0 0 21 = 0 ∨ 1048576 < parF ws 0 0 21)) := by
  refine ⟨?_, ?_, ?_, ?_, ?_, ?_, ?_⟩ <;> (simp only [← readyB_iff]; decide +kernel)

end Sys2Proof.Tests.Queues

namespace Sys2Proof.Tests.TimeCmds
open Sys2Proof Sys2Proof.Machine Sys2Proof.Tests

def tpend (x : Int) (s : State) : State := { s with tim := { s.tim with pend := some x, weirRem := 5 } }
def slots : List (Fld × Nat) := [(Reg.SLOT_SLOT_CFG_EN 0, 1), (Reg.SLOT_SLOT_CFG_TYPE 0, 0), (Reg.SLOT_SLOT_CFG_RANK 0, 1), (Reg.SLOT_SLOT_CFG_EN 7, 1), (Reg.SLOT_SLOT_CFG_TYPE 7, 2), (Reg.SLOT_SLOT_CFG_RANK 7, 3), (Reg.SLOT_SLOT_STATUS_WTR_RUN 2, 1), (Reg.SLOT_SLOT_CFG_EN 2,1), (Reg.SLOT_SLOT_CFG_INDEX 2,5), (Reg.SLOT_SLOT_CFG_LOCKOUT 3, 1)]
def s_free : State := put free (L5++slots)
def s_pendbig : State := tpend (65536*10^9) (put free L5)
def s_numpend : State := {tpend (-9) (put free (L5++slots)) with tim := {pend := some (-9), numeric := true, tod := 2^100}}
def hh (s : State) : State := { put s [(Reg.PTPG_PTP_MODE_HOST_HANDLED, 1)] with ports := { s.ports with port := List.replicate 36 { hostHandled := true }, ptpRx := [⟨1,8,5,[1,2]⟩, ⟨2,60,5,List.replicate 15 0⟩] } }
def x_s252ts : (List Word) := BitVec.ofNat 32 (252 <<< 16 + 256 + 35) :: List.replicate 63 7
def ups : List (Fld × Nat) := [(Reg.FP_SW_STATUS_LINK_UP 0, 1), (Reg.FP_SW_STATUS_LINK_UP 35, 1), (Reg.PORT_TT_CTRL_BERM_EN 0, 1)]
def s_free2 : State := put free (L5++ups)
def s_hh : State := hh (put free (L5++ups))
def tbl (s : State) : State := { s with fab := { s.fab with macs := [⟨5, 0x112233445566, 2, true, 0⟩, ⟨6, 0x112233445566, 4, false, 0⟩, ⟨7, 0x112233445566, 8, false, 0⟩], vlans := [⟨1,3,3⟩, ⟨5, 7, 1⟩] } }
def s_tbl : State := tbl (put free L5)

def x_k3 : (List Word) := [0xC0000000, 0, 0, 0, 0]
def x_s300 : (List Word) := BitVec.ofNat 32 (300 <<< 16 + 35) :: List.replicate 75 7
def x_s300ts : (List Word) := BitVec.ofNat 32 (300 <<< 16 + 256 + 35) :: List.replicate 75 7
def s_hh32 : State := { s_hh with fab := { s_hh.fab with sluice := List.replicate 32 { f := 35, len := 68, src := 1, ingTs := 5, release := 9 } } }
def s_sus : State := put s_free [(Reg.SLOT_SLOT_STATUS_PHASE_SUSPECT 0, 1)]

/-- The premises of the clauses of SwitchTables are met by states and operands. -/
theorem witness_SwitchTables :
    (let s : State := s_free2; let c : CmdCtx := x_jieth; let ws : List Word := [4094, 15, 0, 3, 1023]; Ready 64 c ws s ∧ parF ws 0 0 12 ≠ 4095 ∧ (parF ws 0 0 12 = 0 → parF ws 0 28 4 = 2) ∧ parF ws 4 10 22 = 0 ∧ parF ws 0 28 4 = 0 ∧ ((macFind s (parF ws 0 0 12) (parF ws 1 0 16 * 2 ^ 32 + BitVec.toNat (par ws 2))).isSome = true ∨ bucketFree s (parF ws 0 0 12) (parF ws 1 0 16 * 2 ^ 32 + BitVec.toNat (par ws 2)) = true)) ∧
    (let s : State := s_free2; let c : CmdCtx := x_jieth; let ws : List Word := [268435461, 0, 0, 0, 0]; Ready 64 c ws s ∧ parF ws 0 0 12 ≠ 4095 ∧ (parF ws 0 0 12 = 0 → parF ws 0 28 4 = 2) ∧ parF ws 4 10 22 = 0 ∧ parF ws 0 28 4 = 1) ∧
    (let s : State := s_free2; let c : CmdCtx := x_jieth; let ws : List Word := [536870917, 1, 0, 1, 0]; Ready 64 c ws s ∧ parF ws 0 0 12 ≠ 4095 ∧ (parF ws 0 0 12 = 0 → parF ws 0 28 4 = 2) ∧ parF ws 4 10 22 = 0 ∧ parF ws 0 28 4 = 2) ∧
    (let s : State := s_tbl; let c : CmdCtx := x_jieth; let ws : List Word := [805306373, 4386, 860116326, 0, 0]; let e : MacEntry := { vid := 5, mac := 18838586676582, mask := 2, isStatic := true, seen := 0 }; Ready 64 c ws s ∧ parF ws 0 0 12 ≠ 4095 ∧ (parF ws 0 0 12 = 0 → parF ws 0 28 4 = 2) ∧ parF ws 4 10 22 = 0 ∧ parF ws 0 28 4 = 3 ∧ macFind s (parF ws 0 0 12) (parF ws 1 0 16 * 2 ^ 32 + BitVec.toNat (par ws 2)) = some e) ∧
    (let s : State := s_free2; let c : CmdCtx := x_jieth; let ws : List Word := [805306373, 4386, 860116326, 0, 0]; Ready 64 c ws s ∧ parF ws 0 0 12 ≠ 4095 ∧ (parF ws 0 0 12 = 0 → parF ws 0 28 4 = 2) ∧ parF ws 4 10 22 = 0 ∧ parF ws 0 28 4 = 3 ∧ macFind s (parF ws 0 0 12) (parF ws 1 0 16 * 2 ^ 32 + BitVec.toNat (par ws 2)) = none) ∧
    (let s : State := s_free2; let c : CmdCtx := x_jieth; let ws : List Word := [4026535934, 0, 0, 0, 0]; Ready 64 c ws s ∧ parF ws 0 0 12 ≠ 4095 ∧ (parF ws 0 0 12 = 0 → parF ws 0 28 4 = 2) ∧ parF ws 4 10 22 = 0 ∧ 3 < parF ws 0 28 4) ∧
    (let s : State := s_free2; let c : CmdCtx := x_jieth; let ws : List Word := [4094, 15, 0, 3, 1023]; Ready 65 c ws s ∧ 1 ≤ parF ws 0 0 12 ∧ parF ws 0 0 12 ≤ 4094 ∧ parF ws 2 10 22 = 0 ∧ parF ws 4 10 22 = 0 ∧ parF ws 0 28 4 = 0) ∧
    (let s : State := s_free2; let c : CmdCtx := x_jieth; let ws : List Word := [268435461, 0, 0, 0, 0]; Ready 65 c ws s ∧ 1 ≤ parF ws 0 0 12 ∧ parF ws 0 0 12 ≤ 4094 ∧ parF ws 2 10 22 = 0 ∧ parF ws 4 10 22 = 0 ∧ parF ws 0 28 4 = 1) ∧
    (let s : State := s_free2; let c : CmdCtx := x_jieth; let ws : List Word := [4026535934, 0, 0, 0, 0]; Ready 65 c ws s ∧ (parF ws 0 0 12 = 0 ∨ parF ws 0 0 12 = 4095 ∨ 1 < parF ws 0 28 4)) ∧
    (let s : State := s_free2; let c : CmdCtx := x_jieth; let ws : List Word := [131107, 0, 0, 0, 1000, 7, 4278190096, 16777248]; parF ws 0 0 6 < 36 ∧ 1 ≤ parF ws 0 16 9 ∧ parF ws 0 16 9 ≤ 256 ∧ ws.length = 6 + parF ws 0 16 9 ∧ Ready 66 c ws s ∧ parF ws 3 0 30 < 10 ^ 9 ∧ 16 ≤ BitVec.toNat (par ws 4) ∧ (∀ e ∈ (gateListOf ws).entries, 16 ≤ e.2)) ∧
    (let s : State := s_free2; let c : CmdCtx := x_jieth; let ws : List Word := keyH; Ready 66 c ws s ∧ (36 ≤ parF ws 0 0 6 ∨ parF ws 0 16 9 = 0 ∨ 256 < parF ws 0 16 9)) := by
  refine ⟨?_, ?_, ?_, ?_, ?_, ?_, ?_, ?_, ?_, ?_, ?_⟩ <;> (simp only [← readyB_iff]; decide +kernel)

/-- The premises of the clauses of PtpPackets are met by states and operands. -/
theorem witness_PtpPackets :
    (let s : State := s_hh; let c : CmdCtx := x_jieth; let ws : List Word := [35]; Ready 49 c ws s ∧ hostSome s = true ∧ 1 ≤ parF ws 0 0 6) ∧
    (let s : State := s_free2; let c : CmdCtx := x_jieth; let ws : List Word := [35]; Ready 49 c ws s ∧ hostSome s = false) ∧
    (let s : State := s_hh; let c : CmdCtx := x_jieth; let ws : List Word := [0]; Ready 49 c ws s ∧ hostSome s = true ∧ parF ws 0 0 6 = 0) ∧
    (let s : State := s_free2; let c : CmdCtx := x_jieth; let ws : List Word := [35]; Ready 56 c ws s ∧ parF ws 0 0 6 < 36 ∧ fabUp s (parF ws 0 0 6) = true ∧ (∀ q ∈ s.ports.bermQ, q.port ≠ parF ws 0 0 6) ∧ (∀ (w : BermReq), s.ports.bermWin = some w → w.port ≠ parF ws 0 0 6)) ∧
    (let s : State := s_free2; let c : CmdCtx := x_jieth; let ws : List Word := [36]; Ready 56 c ws s ∧ (36 ≤ parF ws 0 0 6 ∨ fabUp s (parF ws 0 0 6) = false)) ∧
    (let s : State := s_hh; let c : CmdCtx := x_jieth; let ws : List Word := BitVec.ofNat 32 (60 <<< 16) :: List.replicate 15 7; Ready 48 c ws s ∧ 60 ≤ parF ws 0 16 12 ∧ parF ws 0 16 12 ≤ 252 ∧ hostAt s (parF ws 0 0 6) = true ∧ ws.length = 1 + (parF ws 0 16 12 + 3) / 4 ∧ parF ws 0 0 6 < 36 ∧ fabUp s (parF ws 0 0 6) = true ∧ authMissing s (parF ws 0 0 6) = false ∧ (List.filter (fun x => decide (x.f = parF ws 0 0 6)) s.fab.sluice).length < 32 ∧ sluiceCells s + sumNat (List.map (fun x => x.pre) s.fab.frames) + cellsOf (parF ws 0 16 12 + 4) ≤ getF s Reg.FAB_POLDER_RSV ∧ parF ws 0 8 1 = 0) ∧
    (let s : State := s_hh; let c : CmdCtx := x_jieth; let ws : List Word := x_s252ts; Ready 48 c ws s ∧ 60 ≤ parF ws 0 16 12 ∧ parF ws 0 16 12 ≤ 252 ∧ hostAt s (parF ws 0 0 6) = true ∧ ws.length = 1 + (parF ws 0 16 12 + 3) / 4 ∧ parF ws 0 0 6 < 36 ∧ fabUp s (parF ws 0 0 6) = true ∧ authMissing s (parF ws 0 0 6) = false ∧ (List.filter (fun x => decide (x.f = parF ws 0 0 6)) s.fab.sluice).length < 32 ∧ sluiceCells s + sumNat (List.map (fun x => x.pre) s.fab.frames) + cellsOf (parF ws 0 16 12 + 4) ≤ getF s Reg.FAB_POLDER_RSV ∧ parF ws 0 8 1 = 1) ∧
    (let s : State := s_hh32; let c : CmdCtx := x_jieth; let ws : List Word := x_s300; Ready 48 c ws s ∧ 252 < parF ws 0 16 12 ∧ parF ws 0 16 12 ≤ 1514 ∧ hostAt s (parF ws 0 0 6) = true ∧ ws.length = 1 + (parF ws 0 16 12 + 3) / 4 ∧ parF ws 0 0 6 < 36 ∧ fabUp s (parF ws 0 0 6) = true ∧ authMissing s (parF ws 0 0 6) = false ∧ getB s (Reg.Q_Q_CFG_SPILLING (8 * parF ws 0 0 6 + 7)) = false ∧ queueOcc s (8 * parF ws 0 0 6 + 7) + cellsOf (parF ws 0 16 12 + 4) ≤ getF s (Reg.Q_Q_FB_HI (8 * parF ws 0 0 6 + 7)) + 1 ∧ getF s Reg.FAB_POLDER_RSV + cellsOf (parF ws 0 16 12 + 4) ≤ polderFree s ∧ parF ws 0 8 1 = 0) ∧
    (let s : State := s_hh32; let c : CmdCtx := x_jieth; let ws : List Word := x_s300ts; Ready 48 c ws s ∧ 252 < parF ws 0 16 12 ∧ parF ws 0 16 12 ≤ 1514 ∧ hostAt s (parF ws 0 0 6) = true ∧ ws.length = 1 + (parF ws 0 16 12 + 3) / 4 ∧ parF ws 0 0 6 < 36 ∧ fabUp s (parF ws 0 0 6) = true ∧ authMissing s (parF ws 0 0 6) = false ∧ getB s (Reg.Q_Q_CFG_SPILLING (8 * parF ws 0 0 6 + 7)) = false ∧ queueOcc s (8 * parF ws 0 0 6 + 7) + cellsOf (parF ws 0 16 12 + 4) ≤ getF s (Reg.Q_Q_FB_HI (8 * parF ws 0 0 6 + 7)) + 1 ∧ getF s Reg.FAB_POLDER_RSV + cellsOf (parF ws 0 16 12 + 4) ≤ polderFree s ∧ parF ws 0 8 1 = 1) ∧
    (let s : State := s_hh32; let c : CmdCtx := x_jieth; let ws : List Word := x_s252ts; Ready 48 c ws s ∧ 60 ≤ parF ws 0 16 12 ∧ parF ws 0 16 12 ≤ 252 ∧ hostAt s (parF ws 0 0 6) = true ∧ ws.length = 1 + (parF ws 0 16 12 + 3) / 4 ∧ parF ws 0 0 6 < 36 ∧ fabUp s (parF ws 0 0 6) = true ∧ authMissing s (parF ws 0 0 6) = false ∧ 32 ≤ (List.filter (fun x => decide (x.f = parF ws 0 0 6)) s.fab.sluice).length) ∧
    (let s : State := s_free2; let c : CmdCtx := x_jieth; let ws : List Word := x_s252ts; Ready 48 c ws s ∧ hostAt s (parF ws 0 0 6) = false) ∧
    (let s : State := s_hh; let c : CmdCtx := x_jieth; let ws : List Word := signed; Ready 48 c ws s ∧ hostAt s (parF ws 0 0 6) = true ∧ (parF ws 0 16 12 < 60 ∨ 1514 < parF ws 0 16 12 ∨ 36 ≤ parF ws 0 0 6 ∨ fabUp s (parF ws 0 0 6) = false)) := by
  refine ⟨?_, ?_, ?_, ?_, ?_, ?_, ?_, ?_, ?_, ?_, ?_, ?_⟩ <;> (simp only [← readyB_iff]; decide +kernel)

/-- The premises of the clauses of TimePackets are met by states and operands. -/
theorem witness_TimePackets :
    (let s : State := s_free2; let c : CmdCtx := x_jieth; let ws : List Word := [0, 0, 0, 5, 0]; Ready 16 c ws s ∧ parF ws 0 30 2 = 0 ∧ s.mode ≠ Mode.standby ∧ parF ws 3 0 30 < 10 ^ 9 ∧ parF ws 1 0 16 = 0 ∧ par ws 2 = 0) ∧
    (let s : State := s_free2; let c : CmdCtx := x_jieth; let ws : List Word := [0, 0, 3, 0, 0]; Ready 16 c ws s ∧ parF ws 0 30 2 = 0 ∧ s.mode ≠ Mode.standby ∧ parF ws 3 0 30 < 10 ^ 9 ∧ (¬(parF ws 1 0 16 = 0 ∧ par ws 2 = 0))) ∧
    (let s : State := s_free2; let c : CmdCtx := x_jieth; let ws : List Word := [1073741824, 1, 0, 999999999, 0]; Ready 16 c ws s ∧ parF ws 0 30 2 = 1 ∧ s.mode ≠ Mode.standby ∧ parF ws 3 0 30 < 10 ^ 9) ∧
    (let s : State := s_pendbig; let x : Int := 65536000000000; let c : CmdCtx := x_jieth; let ws : List Word := [2147483648, 0, 0, 0, 0]; Ready 16 c ws s ∧ parF ws 0 30 2 = 2 ∧ s.tim.pend = some x) ∧
    (let s : State := (live .standby); let c : CmdCtx := x_spi; let ws : List Word := [0, 0, 0, 5, 0]; Ready 16 c ws s ∧ s.mode = Mode.standby ∧ parF ws 0 30 2 ≠ 2) ∧
    (let s : State := s_free2; let c : CmdCtx := x_jieth; let ws : List Word := x_k3; Ready 16 c ws s ∧ s.mode ≠ Mode.standby ∧ (parF ws 0 30 2 = 3 ∨ parF ws 0 30 2 ≠ 2 ∧ 10 ^ 9 ≤ parF ws 3 0 30)) ∧
    (let s : State := s_free2; let c : CmdCtx := x_jieth; let ws : List Word := [2147483648, 0, 0, 0, 0]; Ready 16 c ws s ∧ parF ws 0 30 2 = 2 ∧ s.tim.pend = none) ∧
    (let s : State := s_numpend; let x : Int := -9; let c : CmdCtx := x_jieth; Ready 17 c [] s ∧ s.tim.pend = some x ∧ x.natAbs < 65536 * 10 ^ 9 ∧ getB s Reg.ENG_STEER_STATUS_ACCEPTED = false) ∧
    (let s : State := s_sus; let c : CmdCtx := x_jieth; let n : Nat := 0; Ready 17 c [] s ∧ n < 8 ∧ s.tim.pend = none ∧ slotSuspect s n = true) ∧
    (let s : State := s_pendbig; let x : Int := 65536000000000; let c : CmdCtx := x_jieth; Ready 17 c [] s ∧ s.tim.pend = some x ∧ 65536 * 10 ^ 9 ≤ x.natAbs) ∧
    (let s : State := s_free2; let c : CmdCtx := x_jieth; Ready 17 c [] s ∧ s.tim.pend = none ∧ (∀ n < 8, slotSuspect s n = false)) ∧
    (let s : State := s_free2; let c : CmdCtx := x_jieth; let ws : List Word := [1073741826]; Ready 19 c ws s ∧ parF ws 0 0 14 ≠ 0 ∧ getB s Reg.TIME_STATUS_FIRST_ALIGNED = false) ∧
    (let s : State := s_free2; let c : CmdCtx := x_jieth; let ws : List Word := [0]; Ready 19 c ws s ∧ parF ws 0 0 14 = 0) ∧
    (let s : State := s_free2; let c : CmdCtx := x_jieth; let ws : List Word := [0]; Ready 32 c ws s ∧ parF ws 0 28 4 = 0) ∧
    (let s : State := s_free; let c : CmdCtx := x_jieth; let ws : List Word := [268435463]; Ready 32 c ws s ∧ parF ws 0 28 4 = 1 ∧ slotEn s (parF ws 0 0 3) = true ∧ slotErr s (parF ws 0 0 3) = false) ∧
    (let s : State := s_free2; let c : CmdCtx := x_jieth; let ws : List Word := [268435463]; Ready 32 c ws s ∧ parF ws 0 28 4 = 1 ∧ (slotEn s (parF ws 0 0 3) = false ∨ slotErr s (parF ws 0 0 3) = true)) ∧
    (let s : State := s_free2; let c : CmdCtx := x_jieth; let ws : List Word := [536870915]; Ready 32 c ws s ∧ parF ws 0 28 4 = 2) ∧
    (let s : State := s_free2; let c : CmdCtx := x_jieth; let ws : List Word := [805306371]; Ready 32 c ws s ∧ parF ws 0 28 4 = 3) ∧
    (let s : State := s_free; let c : CmdCtx := x_jieth; let ws : List Word := [1073741826]; Ready 32 c ws s ∧ parF ws 0 28 4 = 4 ∧ getB s (Reg.SLOT_SLOT_STATUS_WTR_RUN (parF ws 0 0 3)) = true) ∧
    (let s : State := s_free2; let c : CmdCtx := x_jieth; let ws : List Word := [1073741826]; Ready 32 c ws s ∧ parF ws 0 28 4 = 4 ∧ getB s (Reg.SLOT_SLOT_STATUS_WTR_RUN (parF ws 0 0 3)) = false) ∧
    (let s : State := s_free2; let c : CmdCtx := x_jieth; let ws : List Word := [4026531840]; Ready 32 c ws s ∧ 5 ≤ parF ws 0 28 4) := by
  refine ⟨?_, ?_, ?_, ?_, ?_, ?_, ?_, ?_, ?_, ?_, ?_, ?_, ?_, ?_, ?_, ?_, ?_, ?_, ?_, ?_, ?_⟩ <;> (simp only [← readyB_iff]; decide +kernel)

end Sys2Proof.Tests.TimeCmds

namespace Sys2Proof.Tests.NetCmds
open Sys2Proof Sys2Proof.Machine Sys2Proof.Tests

def wk (s : State) : State := put { s with straps := {jrole := 2}, jieth := { s.jieth with link := List.replicate 6 { holds := true, ctlRx := some 9, ctlWait := [] } } } ([(Reg.LINK_LINK_CFG_ROLE 3, 2), (Reg.LINK_LINK_CFG_ROLE 5, 2), (Reg.LINK_LINK_STATUS_STATE 3, 5), (Reg.LINK_LINK_STATUS_STATE 1, 2), (Reg.LINK_LINK_CFG_AUTO_ALIGN 1, 0)] ++ L5)
def ctlh (k seq hops path : Nat) : Word := BitVec.ofNat 32 (k <<< 30 + seq <<< 22 + hops <<< 19 + path <<< 7)
def w1 : CtlOut := ⟨⟨ctlh 0 4 1 0, [1], []⟩, false⟩
def w2 : CtlOut := ⟨⟨ctlh 0 5 1 0, [1], []⟩, true⟩
def s_free : State := put free L5
def s_auth : State := put (wk free) [(Reg.SEC_CFG_JIETH_AUTH, 1)]
def s_rel : State := { wk free with cmd := {running := [{pkt 0x50 0 0 [] with id := 200}], nextId := 300}, jieth := { (wk free).jieth with relays := [⟨200, 5, 8⟩] } }
def s_waitS : State := updLink (updLink (wk free) 5 (fun l => { l with ctlWait := [w1] })) 3 (fun l => { l with ctlWait := [w2, w1]})

/-- A MAC table that holds the entries of the addresses given, in VID 1. -/
def s_macs (l : List Nat) : State := { free with fab := { free.fab with macs := l.map (fun k => ⟨1, k, 1, true, 0⟩) } }

/-- Some bucket takes five addresses of VID 1, whatever the hash function. -/
theorem five_collide : ∃ (m : Nat) (l : List Nat), m < 65537 ∧ m ∉ l ∧ 4 ≤ l.length ∧ ∀ k ∈ l, Config.macHash 1 k = Config.macHash 1 m := by
  classical
  obtain ⟨y, -, hy⟩ := Finset.exists_lt_card_fiber_of_mul_lt_card_of_maps_to (s := Finset.range 65537)
    (t := (Finset.univ : Finset (Fin (2 ^ 14)))) (f := fun k => (Config.macHash 1 k).toFin) (n := 4) (by simp) (by simp)
  obtain ⟨m, hm⟩ := Finset.card_pos.mp (show 0 < (Finset.filter (fun x => (Config.macHash 1 x).toFin = y) (Finset.range 65537)).card by omega)
  have hm2 := Finset.mem_filter.mp hm
  refine ⟨m, ((Finset.filter (fun x => (Config.macHash 1 x).toFin = y) (Finset.range 65537)).erase m).toList, Finset.mem_range.mp hm2.1, by simp, ?_, ?_⟩
  · rw [Finset.length_toList, Finset.card_erase_of_mem hm]
    omega
  · intro k hk
    rw [Finset.mem_toList, Finset.mem_erase, Finset.mem_filter] at hk
    exact BitVec.eq_of_toFin_eq (hk.2.2.trans hm2.2.symm)

/-- The premises of the clause of SwitchTables about a full bucket are met by a state and operands. -/
theorem witness_SwitchTables_busy :
    ∃ l w, let c : CmdCtx := x_spi; let ws : List Word := [1, 0, w, 1, 0]; let s := s_macs l
      Ready 0x40 c ws s ∧ parF ws 0 0 12 ≠ 4095 ∧ (parF ws 0 0 12 = 0 → parF ws 0 28 4 = 2) ∧ parF ws 4 10 22 = 0 ∧ parF ws 0 28 4 = 0 ∧
      macFind s (parF ws 0 0 12) (parF ws 1 0 16 * 2 ^ 32 + (par ws 2).toNat) = none ∧
      bucketFree s (parF ws 0 0 12) (parF ws 1 0 16 * 2 ^ 32 + (par ws 2).toNat) = false := by
  obtain ⟨m, l, hm, hl, h4, hk⟩ := five_collide
  have ht : (par [1, 0, BitVec.ofNat 32 m, 1, 0] 2).toNat = m := by
    simp only [par, List.getD, List.getElem?_cons_succ, List.getElem?_cons_zero, Option.getD_some, BitVec.toNat_ofNat]
    omega
  refine ⟨l, BitVec.ofNat 32 m, ?_⟩
  have hv : parF [1, 0, BitVec.ofNat 32 m, 1, 0] 0 0 12 = 1 := rfl
  have h1 : parF [1, 0, BitVec.ofNat 32 m, 1, 0] 1 0 16 * 2 ^ 32 + (par [1, 0, BitVec.ofNat 32 m, 1, 0] 2).toNat = m := by
    rw [ht, show parF [1, 0, BitVec.ofNat 32 m, 1, 0] 1 0 16 = 0 from rfl]; simp
  refine ⟨(readyB_iff _ _ _ _).mp rfl, by rw [hv]; decide, fun h => absurd (hv.symm.trans h) (by decide), (show fieldOf 0 10 22 = 0 from by decide), (show fieldOf 1 28 4 = 0 from by decide), ?_, ?_⟩
  · rw [h1, hv]
    simp only [macFind, s_macs, List.find?_eq_none, List.mem_map]
    rintro _ ⟨k, hkl, rfl⟩
    simp only [decide_true, Bool.true_and, Bool.and_eq_true, decide_eq_true_eq]
    rintro ⟨rfl, -⟩
    exact hl hkl
  · rw [h1, hv]
    refine decide_eq_false ?_
    have hf : bucketOf (s_macs l) (Config.macHash 1 m).toNat = (s_macs l).fab.macs :=
      List.filter_eq_self.mpr fun e he => by
        obtain ⟨k, hkl, rfl⟩ := List.mem_map.mp he
        simp [hk k hkl, macLive]
    rw [hf]
    simpa [s_macs] using h4

def x_rel : (List Word) := [0x1000, 0]
def x_relbig : (List Word) := [0x1000, 0x7FC0]
def x_slip : (List Word) := [0x103]
def s_auto : State := put (wk free) [(Reg.LINK_LINK_CFG_AUTO_ALIGN 1, 1)]
def s_role0 : State := wk free

/-- The premises of the clauses of RelayAndControlFrames are met by states and operands. -/
theorem witness_RelayAndControlFrames :
    (let s : State := s_waitS; let c : CmdCtx := x_jieth; let ws : List Word := [9856 + 0, 4278714496, 0, 0]; fieldOf (par ws 1) 6 10 ≤ 510 ∧ ws.length = 2 + fieldOf (par ws 1) 6 10 ∧ Ready 80 c ws s ∧ s.straps.jrole ≠ 0 ∧ addrValid (parF ws 0 0 16) = true ∧ (getB s Reg.SEC_CFG_JIETH_AUTH = true → keyUsable s 64 = true) ∧ linkRole s (addrHop (parF ws 0 0 16) 1) = 2 ∧ linkCarries s (addrHop (parF ws 0 0 16) 1) = true ∧ replayBytes s (addrHop (parF ws 0 0 16) 1) + 4 * ws.length + 16 ≤ 131072) ∧
    (let s : State := s_auto; let c : CmdCtx := x_jieth; let ws : List Word := x_rel; fieldOf (par ws 1) 6 10 ≤ 510 ∧ ws.length = 2 + fieldOf (par ws 1) 6 10 ∧ Ready 80 c ws s ∧ s.straps.jrole ≠ 0 ∧ addrValid (parF ws 0 0 16) = true ∧ (getB s Reg.SEC_CFG_JIETH_AUTH = true → keyUsable s 64 = true) ∧ (linkRole s (addrHop (parF ws 0 0 16) 1) ≠ 2 ∨ linkCarries s (addrHop (parF ws 0 0 16) 1) = false)) ∧
    (let s : State := free; let c : CmdCtx := x_spi; let ws : List Word := [9856 + 0, 4278714496, 0, 0]; fieldOf (par ws 1) 6 10 ≤ 510 ∧ ws.length = 2 + fieldOf (par ws 1) 6 10 ∧ Ready 80 c ws s ∧ s.straps.jrole = 0) ∧
    (let s : State := s_waitS; let c : CmdCtx := x_jieth; let ws : List Word := [0, 0]; fieldOf (par ws 1) 6 10 ≤ 510 ∧ ws.length = 2 + fieldOf (par ws 1) 6 10 ∧ Ready 80 c ws s ∧ s.straps.jrole ≠ 0 ∧ addrValid (parF ws 0 0 16) = false) ∧
    (let s : State := s_auto; let c : CmdCtx := x_jieth; let ws : List Word := x_relbig; 510 < fieldOf (par ws 1) 6 10 ∧ Ready 80 c ws s) ∧
    (let s : State := s_waitS; let c : CmdCtx := x_jieth; let ws : List Word := [2031875]; parF ws 0 8 3 ≤ 5 ∧ parF ws 0 0 3 ≤ 3 ∧ Ready 83 c ws s ∧ (linkState s (parF ws 0 8 3) = 2 ∨ linkState s (parF ws 0 8 3) = 6 ∧ getB s (Reg.LINK_JPHY_LANE_LOST (parF ws 0 8 3) (parF ws 0 0 3)) = true) ∧ getB s (Reg.LINK_LINK_CFG_AUTO_ALIGN (parF ws 0 8 3)) = false) ∧
    (let s : State := s_auto; let c : CmdCtx := x_jieth; let ws : List Word := x_slip; parF ws 0 8 3 ≤ 5 ∧ parF ws 0 0 3 ≤ 3 ∧ Ready 83 c ws s ∧ (linkState s (parF ws 0 8 3) = 2 ∨ linkState s (parF ws 0 8 3) = 6 ∧ getB s (Reg.LINK_JPHY_LANE_LOST (parF ws 0 8 3) (parF ws 0 0 3)) = true) ∧ getB s (Reg.LINK_LINK_CFG_AUTO_ALIGN (parF ws 0 8 3)) = true) ∧
    (let s : State := free; let c : CmdCtx := x_spi; let ws : List Word := [2031875]; Ready 83 c ws s ∧ (5 < parF ws 0 8 3 ∨ 3 < parF ws 0 0 3 ∨ ¬(linkState s (parF ws 0 8 3) = 2 ∨ linkState s (parF ws 0 8 3) = 6 ∧ getB s (Reg.LINK_JPHY_LANE_LOST (parF ws 0 8 3) (parF ws 0 0 3)) = true))) ∧
    (let s : State := s_waitS; let n : Nat := 3; let f : CtlFrame := { header := ctlh 2 4 0 0 }; n < 6 ∧ linkCarries s n = true ∧ fieldOf f.header 30 2 = 2) ∧
    (let s : State := s_waitS; let n : Nat := 3; let f : CtlFrame := { header := ctlh 0 9 1 0, words := [4278648832] }; n < 6 ∧ linkCarries s n = true ∧ fieldOf f.header 30 2 < 2 ∧ (linkS s n).ctlRx = some (ctlSeq f.header) ∧ replayBytes s n + 4 * 1 ≤ 131072) ∧
    (let s : State := s_waitS; let n : Nat := 3; let f : CtlFrame := { header := ctlh 0 8 1 0, words := [4278648832] }; n < 6 ∧ linkCarries s n = true ∧ (linkS s n).ctlRx ≠ some (ctlSeq f.header) ∧ fieldOf f.header 30 2 < 2 ∧ replayBytes s n + 4 * 1 ≤ 131072) ∧
    (let s : State := s_waitS; let n : Nat := 3; let f : CtlFrame := { header := ctlh 0 8 2 (3 * 512 + 64), words := [4278648832] }; n < 6 ∧ linkCarries s n = true ∧ (linkS s n).ctlRx ≠ some (ctlSeq f.header) ∧ fieldOf f.header 30 2 = 0 ∧ 1 < ctlHops f.header ∧ ctlPath f.header / 512 < 6 ∧ linkCarries s (ctlPath f.header / 512) = true ∧ replayBytes s (ctlPath f.header / 512) + 4 * (2 + f.words.length + f.tag.length) ≤ 131072) ∧
    (let s : State := s_waitS; let n : Nat := 3; let f : CtlFrame := { header := ctlh 0 8 2 (2 * 512), words := [4278648832] }; n < 6 ∧ linkCarries s n = true ∧ (linkS s n).ctlRx ≠ some (ctlSeq f.header) ∧ fieldOf f.header 30 2 = 0 ∧ 1 < ctlHops f.header ∧ (6 ≤ ctlPath f.header / 512 ∨ linkCarries s (ctlPath f.header / 512) = false)) ∧
    (let s : State := s_waitS; let n : Nat := 3; let f : CtlFrame := { header := ctlh 0 8 1 0, words := [4278648832] }; n < 6 ∧ linkCarries s n = true ∧ (linkS s n).ctlRx ≠ some (ctlSeq f.header) ∧ fieldOf f.header 30 2 = 0 ∧ ctlHops f.header ≤ 1 ∧ getB s Reg.SEC_CFG_JIETH_AUTH = false ∧ cpServes s = true ∧ 1 ≤ f.words.length ∧ f.words.length < 1024 ∧ fieldOf (f.words.getD 0 0) 6 10 ≤ 512 ∧ (opInfo (fieldOf (f.words.getD 0 0) 24 8)).isSome = true ∧ 1 + fieldOf (f.words.getD 0 0) 6 10 ≤ f.words.length) ∧
    (let s : State := s_auth; let n : Nat := 3; let f : CtlFrame := { header := ctlh 0 8 1 0, words := [4278648832] }; n < 6 ∧ linkCarries s n = true ∧ (linkS s n).ctlRx ≠ some (ctlSeq f.header) ∧ fieldOf f.header 30 2 = 0 ∧ ctlHops f.header ≤ 1 ∧ getB s Reg.SEC_CFG_JIETH_AUTH = true ∧ (keyUsable s 64 = false ∨ ctlTagOk s f = false)) ∧
    (let s : State := s_rel; let n : Nat := 5; let f : CtlFrame := { header := ctlh 1 8 0 0, words := [2147483656] }; let r : Relay := { id := 200, link := 5, tag := 8 }; n < 6 ∧ linkCarries s n = true ∧ (linkS s n).ctlRx ≠ some (ctlSeq f.header) ∧ fieldOf f.header 30 2 = 1 ∧ List.find? (fun b => decide (b.1 = n) && decide (b.2.2 = innerTag f true)) s.jieth.back = none ∧ List.find? (fun r => decide (r.link = n) && decide (r.tag = innerTag f true)) s.jieth.relays = some r) ∧
    (let s : State := free; let n : Nat := 3; n < 6 ∧ (linkS s n).ctlWait = []) ∧
    (let s : State := s_waitS; let n : Nat := 5; let w : CtlOut := { frame := { header := 0x01080000#32, words := [0x00000001#32], tag := [] }, retried := false }; let r : List CtlOut := []; n < 6 ∧ (linkS s n).ctlWait = w :: r ∧ w.retried = false ∧ linkCarries s n = true ∧ replayBytes s n + 4 * (1 + w.frame.words.length + w.frame.tag.length) ≤ 131072) ∧
    (let s : State := s_waitS; let n : Nat := 3; let w : CtlOut := { frame := { header := 0x01480000#32, words := [0x00000001#32], tag := [] }, retried := true }; let r : List CtlOut := [{ frame := { header := 0x01080000#32, words := [0x00000001#32], tag := [] }, retried := false }]; n < 6 ∧ (linkS s n).ctlWait = w :: r ∧ w.retried = true ∧ linkState s n ≠ 0 ∧ linkState s n ≠ 7) := by
  refine ⟨?_, ?_, ?_, ?_, ?_, ?_, ?_, ?_, ?_, ?_, ?_, ?_, ?_, ?_, ?_, ?_, ?_, ?_, ?_⟩
  · simp only [← readyB_iff]; decide +kernel
  · simp only [← readyB_iff]; decide +kernel
  · simp only [← readyB_iff]; decide +kernel
  · simp only [← readyB_iff]; decide +kernel
  · simp only [← readyB_iff]; decide +kernel
  · simp only [← readyB_iff]; decide +kernel
  · simp only [← readyB_iff]; decide +kernel
  · simp only [← readyB_iff]; decide +kernel
  · decide +kernel
  · decide +kernel
  · decide +kernel
  · decide +kernel
  · decide +kernel
  · decide +kernel
  · decide +kernel
  · decide +kernel
  · decide +kernel
  · decide +kernel
  · decide +kernel

end Sys2Proof.Tests.NetCmds

namespace Sys2Proof.Tests.Instruments
open Sys2Proof Sys2Proof.Machine Sys2Proof.Tests

def gsetup (s : State) : State := put { s with gauges := List.replicate 12 { ({}:GaugeS) with fifo := [[1,2,3,4],[5,6,7,8]] }, gnss := { s.gnss with eph := [3], almanac := true, posHeld := true, raw := [[[1],[2]],[[3]],[[4],[5]]] } } [(Reg.GA_CFG_EN 0,1),(Reg.GA_STATUS_RUNNING 0, 1), (Reg.GA_CFG_MODE 3, 1), (Reg.GA_CFG_PARTNER 3, 3)]
def s_gsr : State := put (gsetup (put free L5)) [(Reg.GNSS_STATUS_RUNNING, 1)]

def x_g4 : (List Word) := [0x40000000]

/-- The premises of the clauses of InstrumentPackets are met by states and operands. -/
theorem witness_InstrumentPackets :
    (let s : State := free; let c : CmdCtx := x_spi; let ws : List Word := [2147483649]; Ready 96 c ws s ∧ (∃ n < 12, parF ws 0 n 1 = 1) ∧ parF ws 0 31 1 = 1) ∧
    (let s : State := free; let c : CmdCtx := x_spi; let ws : List Word := [32779]; Ready 96 c ws s ∧ (∃ n < 12, parF ws 0 n 1 = 1) ∧ parF ws 0 31 1 = 0 ∧ (∀ n < 12, parF ws 0 n 1 = 1 → gaugeCfgErr s n = false)) ∧
    (let s : State := free; let c : CmdCtx := x_spi; let ws : List Word := [268435456]; Ready 96 c ws s ∧ ((∀ n < 12, ¬parF ws 0 n 1 = 1) ∨ parF ws 0 31 1 = 0 ∧ ∃ n < 12, parF ws 0 n 1 = 1 ∧ gaugeCfgErr s n = true)) ∧
    (let s : State := free; let c : CmdCtx := x_spi; let ws : List Word := [32779]; Ready 97 c ws s ∧ 1 ≤ parF ws 0 8 8 ∧ parF ws 0 8 8 ≤ 128 ∧ parF ws 0 0 4 ≤ 11) ∧
    (let s : State := free; let c : CmdCtx := x_spi; let ws : List Word := [2147483649]; Ready 97 c ws s ∧ (parF ws 0 8 8 = 0 ∨ 128 < parF ws 0 8 8 ∨ 11 < parF ws 0 0 4)) ∧
    (let s : State := free; let c : CmdCtx := x_spi; let ws : List Word := [32779]; Ready 112 c ws s ∧ parF ws 0 28 4 = 0) ∧
    (let s : State := free; let c : CmdCtx := x_spi; let ws : List Word := [268435456]; Ready 112 c ws s ∧ parF ws 0 28 4 = 1) ∧
    (let s : State := free; let c : CmdCtx := x_spi; let ws : List Word := [536870912]; Ready 112 c ws s ∧ parF ws 0 28 4 = 2) ∧
    (let s : State := free; let c : CmdCtx := x_spi; let ws : List Word := [805306368]; Ready 112 c ws s ∧ parF ws 0 28 4 = 3) ∧
    (let s : State := free; let c : CmdCtx := x_spi; let ws : List Word := x_g4; Ready 112 c ws s ∧ parF ws 0 28 4 = 4) ∧
    (let s : State := free; let c : CmdCtx := x_spi; let ws : List Word := [2147483649]; Ready 112 c ws s ∧ 4 < parF ws 0 28 4) ∧
    (let s : State := free; let c : CmdCtx := x_spi; let ws : List Word := [2147483649]; Ready 113 c ws s ∧ 1 ≤ parF ws 0 0 6) ∧
    (let s : State := free; let c : CmdCtx := x_spi; let ws : List Word := [4294967294, 2249869312 - 65536, 0, 0, 0, 0]; Ready 114 c ws s ∧ nearEarth (coord ws 0) (coord ws 2) (coord ws 4) = true) ∧
    (let s : State := free; let c : CmdCtx := x_spi; let ws : List Word := [0, 0, 0, 0, 0, 1]; Ready 114 c ws s ∧ nearEarth (coord ws 0) (coord ws 2) (coord ws 4) = false) := by
  refine ⟨?_, ?_, ?_, ?_, ?_, ?_, ?_, ?_, ?_, ?_, ?_, ?_, ?_, ?_⟩ <;> (simp only [← readyB_iff]; decide +kernel)

end Sys2Proof.Tests.Instruments

namespace Sys2Proof.Tests.EngineCmds
open Sys2Proof Sys2Proof.Machine Sys2Proof.Tests

def es (s : State) : State := updEng (put s [(Reg.UE_ENG_STATUS_RUNNING 12, 1), (Reg.UE_ENG_STATUS_RUNNING 15, 1),(Reg.ENG_STEER_CFG_OWNER, 7)]) 15 (fun o => { o with iram := [(0,3),(4095,2)], dram := [(8191,5)] })
def s_free : State := put free L5
def s_es2 : State := { es (put free L5) with engs := { (es free).engs with ftrim := 5 } }

/-- The premises of the clauses of EnginePackets are met by states and operands. -/
theorem witness_EnginePackets :
    (let s : State := free; let c : CmdCtx := x_spi; let ws : List Word := signed; Ready 128 c ws s ∧ 12 ≤ parF ws 0 16 4 ∧ engRunning s (parF ws 0 16 4) = false ∧ (parF ws 0 0 13 + (ws.length - 1) ≤ if parF ws 0 31 1 = 1 then 8192 else 4096)) ∧
    (let s : State := free; let c : CmdCtx := x_spi; let ws : List Word := keyH; Ready 128 c ws s ∧ parF ws 0 16 4 < 12) ∧
    (let s : State := s_es2; let c : CmdCtx := x_jieth; let ws : List Word := [987135, 7]; Ready 128 c ws s ∧ 12 ≤ parF ws 0 16 4 ∧ (parF ws 0 0 13 + (ws.length - 1) ≤ if parF ws 0 31 1 = 1 then 8192 else 4096) ∧ engRunning s (parF ws 0 16 4) = true) ∧
    (let s : State := free; let c : CmdCtx := x_spi; let ws : List Word := [2150572031]; Ready 129 c ws s ∧ maskEngs (par ws 0) ≠ [] ∧ (∀ x ∈ maskEngs (par ws 0), engRunning s x = false)) ∧
    (let s : State := free; let c : CmdCtx := x_spi; let ws : List Word := [32768]; Ready 130 c ws s ∧ parF ws 0 0 12 = 0 ∧ maskEngs (par ws 0) ≠ []) ∧
    (let s : State := free; let c : CmdCtx := x_spi; let ws : List Word := [1072431104]; Ready 131 c ws s ∧ 12 ≤ parF ws 0 16 4 ∧ 1 ≤ parF ws 0 21 9 ∧ (parF ws 0 0 13 + parF ws 0 21 9 ≤ if parF ws 0 31 1 = 1 then 8192 else 4096)) ∧
    (let s : State := free; let c : CmdCtx := x_spi; let ws : List Word := [2293760]; Ready 131 c ws s ∧ parF ws 0 16 4 < 12) := by
  refine ⟨?_, ?_, ?_, ?_, ?_, ?_, ?_⟩ <;> (simp only [← readyB_iff]; decide +kernel)

end Sys2Proof.Tests.EngineCmds

namespace Sys2Proof.Tests.Calibration
open Sys2Proof Sys2Proof.Machine Sys2Proof.Tests

def cw (it ix rate evA evB : Nat) : Word := BitVec.ofNat 32 (it <<< 28 + ix <<< 16 + rate <<< 12 + evA <<< 8 + evB <<< 4)
def cl (n : Nat) (s : State) : State := { s with mode := .calibrate, cal := { s.cal with run := List.replicate n {item := .gnssFe}, work := [(1023, 9)], staging := [(1022, 1),(1023,5)] } }
def pairUp (s : State) : State := put { s with straps := {jrole := 2, pairEn := true}, jieth := { s.jieth with link := List.replicate 6 { holds := true } } } ([(Reg.LINK_LINK_CFG_ROLE 3, 3), (Reg.LINK_LINK_STATUS_STATE 3, 5), (Reg.PAIR_PAIR_STATUS_ROLE_IN, 2)] ++ L5)
def s_conf : State := put conf L5
def s_pair : State := pairUp free
def s_c8 : State := cl 8 (put free L5)
def s_cp : State := cl 1 (pairUp free)
def goodHead : List Word := ([0x43414C31, 1, 5, 0, 0, 0, (Config.serial >>> 32).setWidth 32, Config.serial.setWidth 32] : List Word) ++ (List.replicate 999 0 : List Word)
def goodBody : List Word := goodHead ++ [crcWords goodHead]
def goodRec : List Word := goodBody ++ (List.range 16).map (Config.identitySign (sha256 goodBody))
def fl (s : State) : State := { s with flash := {copies := [⟨goodRec⟩, {}, ⟨goodRec⟩]}, cal := { s.cal with staging := memPutList [] 0 goodRec } }
def stor (k : Option Nat) (s : State) : State := { s with cal := { s.cal with store := some ⟨77, goodRec, k⟩ }, cmd := { running := [{pkt 0x93 0 0 [] with id := 77}], nextId := 200 } }
def idv : List (Fld × Nat) := L5 ++ [(Reg.SEC_STATUS_ID_VALID, 1)]
def s_conf2 : State := put conf L5
def s_good : State := fl (put conf idv)
def s_st2 : State := stor (some 2) (fl (put conf idv))
def rq (it : CalItem) : CalReq := {item := it, evA := 1, evB := 2}
def mk (it : CalItem) (tries : Nat) : State := { free with mode := .calibrate, cal := { free.cal with run := [rq it, rq .gnssFe], tries := tries, pend := [.dll 3, .dll 19, .gnssFe] } }
def s_gd1 : State := mk (.gaugeDelay 11) 1
def s_br : State := mk (.bermRef 35 0) 2
def s_dl : State := { put (mk .gnssFe 0) [(Reg.DLL_STAT_LOCK 19, 1),(Reg.DLL_STAT_BYPASS 19,0),(Reg.DLL_STAT_GATED 19,0)] with cal := { (mk .gnssFe 0).cal with work := [(312+95, 5)] } }

theorem headLen : goodHead.length = 1007 := by decide +kernel

theorem bodyLen : goodBody.length = 1008 := by simp [goodBody, headLen]

theorem goodRecord : recordGood goodRec = true := by
  have h0 : goodRec.getD 0 0xFFFFFFFF = 0x43414C31 := rfl
  have h1 : goodRec.getD 1 0xFFFFFFFF = 1 := rfl
  have h6 : goodRec.getD 6 0xFFFFFFFF = (Config.serial >>> 32).setWidth 32 := rfl
  have h7 : goodRec.getD 7 0xFFFFFFFF = Config.serial.setWidth 32 := rfl
  have hc : goodRec.getD 1007 0xFFFFFFFF = crcWords goodHead := by
    unfold goodRec goodBody
    rw [List.append_assoc, List.getD_append_right _ _ _ _ (by rw [headLen]), headLen]
    rfl
  have ht : goodRec.take 1007 = goodHead := by
    unfold goodRec goodBody
    rw [List.append_assoc, ← headLen, List.take_left]
  unfold recordGood
  simp only [h0, h1, h6, h7, hc, ht]
  simp
  decide

theorem goodIntact : intact (flashCopy s_good 2) = true := by
  have h : flashCopy s_good 2 = ⟨goodRec⟩ := rfl
  have hl : goodRec.length = 1024 := by simp [goodRec, bodyLen]
  have ht : goodRec.take 1008 = goodBody := by rw [goodRec, ← bodyLen, List.take_left]
  have hd : goodRec.drop 1008 = (List.range 16).map (Config.identitySign (sha256 goodBody)) := by rw [goodRec, ← bodyLen, List.drop_left]
  rw [h]
  simp [intact, goodRecord, hl, ht, hd, identityVerifies]

/-- The premises of the clauses of CalibrationMeasures are met by states and operands. -/
theorem witness_CalibrationMeasures :
    (let s : State := s_gd1; let r : CalReq := { item := Sys2Proof.Machine.CalItem.gaugeDelay 11, refDly := 0, cable := 0, evA := 1, evB := 2 }; let rest : List CalReq := [{ item := Sys2Proof.Machine.CalItem.gnssFe, refDly := 0, cable := 0, evA := 1, evB := 2 }]; let r1 : CalResult := CalResult.gaugeDelay 300000 5; let r2 : CalResult := CalResult.gaugeDelay 100000 5; s.cal.run = r :: rest ∧ measurable s r.item = true ∧ solveItem s r r1 r2 = some none ∧ s.cal.tries < 2) ∧
    (let s : State := s_br; let r : CalReq := { item := Sys2Proof.Machine.CalItem.bermRef 35 0, refDly := 0, cable := 0, evA := 1, evB := 2 }; let rest : List CalReq := [{ item := Sys2Proof.Machine.CalItem.gnssFe, refDly := 0, cable := 0, evA := 1, evB := 2 }]; let r1 : CalResult := CalResult.bermRef 5 1000; let r2 : CalResult := CalResult.bermRef 5 6; s.cal.run = r :: rest ∧ measurable s r.item = true ∧ solveItem s r r1 r2 = some none ∧ 2 ≤ s.cal.tries) ∧
    (let s : State := s_good; let n : Nat := 19; n < 20 ∧ s.clk.started = true) ∧
    (let s : State := State.reset; let n : Nat := 19; n < 20 ∧ s.clk.started = false) ∧
    (let s : State := s_good; powered s Domain.time = true) ∧
    (let s : State := State.reset; powered s Domain.time = false) ∧
    (∃ vs, let r1 : CalResult := .bermRef 5 1000; let r2 : CalResult := .bermRef 5 1000; let s := s_br; let r : CalReq := rq (.bermRef 35 0); let rest : List CalReq := [rq .gnssFe]; s.cal.run = r :: rest ∧ measurable s r.item = true ∧ solveItem s r r1 r2 = some (some vs) ∧ (∀ p q, r.item ≠ CalItem.portDelay p q)) := by
  refine ⟨?_, ?_, ?_, ?_, ?_, ?_, ?_⟩
  · decide +kernel
  · decide +kernel
  · decide +kernel
  · decide +kernel
  · decide +kernel
  · decide +kernel
  · exact ⟨_, rfl, by decide +kernel, rfl, by intro p q h; cases h⟩

/-- The premises of the clauses of CalibrationRuns are met by states and operands. -/
theorem witness_CalibrationRuns :
    (let s : State := s_good; let c : CmdCtx := x_jieth; let ws : List Word := [cw 5 0 0 0 0, 0, 0]; let it : CalItem := Sys2Proof.Machine.CalItem.gnssFe; Ready 144 c ws s ∧ (s.mode = Mode.calibrate ∨ standbyPresent s = false) ∧ runItem s (par ws 0) = some it ∧ s.cal.run.length < 8 ∧ s.mode ≠ Mode.calibrate) ∧
    (let s : State := s_good; let c : CmdCtx := x_jieth; let ws : List Word := [1022, 7, 8]; Ready 144 c ws s ∧ (s.mode = Mode.calibrate ∨ standbyPresent s = false) ∧ runItem s (par ws 0) = none) ∧
    (let s : State := s_c8; let c : CmdCtx := x_jieth; let ws : List Word := [cw 5 0 0 0 0, 0, 0]; Ready 144 c ws s ∧ (s.mode = Mode.calibrate ∨ standbyPresent s = false) ∧ (runItem s (par ws 0)).isSome = true ∧ 8 ≤ s.cal.run.length) ∧
    (let s : State := s_pair; let c : CmdCtx := x_jieth; let ws : List Word := [1022, 7, 8]; Ready 144 c ws s ∧ (¬(s.mode = Mode.calibrate ∨ standbyPresent s = false))) ∧
    (let s : State := s_good; let c : CmdCtx := x_jieth; let ws : List Word := keyH; Ready 146 c ws s ∧ parF ws 0 0 10 + (ws.length - 1) ≤ 1024) ∧
    (let s : State := s_good; let c : CmdCtx := x_jieth; let ws : List Word := [1023, 7, 8]; Ready 146 c ws s ∧ 1024 < parF ws 0 0 10 + (ws.length - 1)) ∧
    (let s : State := s_good; let c : CmdCtx := x_jieth; let ws : List Word := [3223323647]; Ready 148 c ws s ∧ 1 ≤ parF ws 0 21 9 ∧ parF ws 0 0 10 + parF ws 0 21 9 ≤ 1024) ∧
    (let s : State := s_good; let c : CmdCtx := x_jieth; let ws : List Word := [0]; Ready 148 c ws s ∧ (parF ws 0 21 9 = 0 ∨ 1024 < parF ws 0 0 10 + parF ws 0 21 9)) := by
  refine ⟨?_, ?_, ?_, ?_, ?_, ?_, ?_, ?_⟩ <;> (simp only [← readyB_iff]; decide +kernel)

/-- The premises of the clauses of CalibrationCommits are met by states and operands. -/
theorem witness_CalibrationCommits :
    (let s : State := s_good; let c : CmdCtx := x_jieth; let ws : List Word := [2]; Ready 145 c ws s ∧ parF ws 0 0 2 < 3 ∧ s.cal.store = none ∧ intact (flashCopy s (parF ws 0 0 2)) = true) ∧
    (let s : State := s_good; let c : CmdCtx := x_jieth; let ws : List Word := [1]; Ready 145 c ws s ∧ parF ws 0 0 2 < 3 ∧ s.cal.store = none ∧ intact (flashCopy s (parF ws 0 0 2)) = false) ∧
    (let s : State := s_st2; let c : CmdCtx := x_jieth; let ws : List Word := [2]; Ready 145 c ws s ∧ parF ws 0 0 2 < 3 ∧ s.cal.store.isSome = true) ∧
    (let s : State := s_good; let c : CmdCtx := x_jieth; let ws : List Word := [3]; Ready 147 c ws s ∧ (parF ws 0 0 1 = 0 → recordGood (memGetList s.cal.staging 0 1008) = true) ∧ s.cal.store = none ∧ getB s Reg.SEC_STATUS_ID_VALID = true) ∧
    (let s : State := s_br; let c : CmdCtx := x_spi; let ws : List Word := [2]; Ready 147 c ws s ∧ parF ws 0 0 1 = 0 ∧ recordGood (memGetList s.cal.staging 0 1008) = false) ∧
    (let s : State := s_st2; let c : CmdCtx := x_jieth; let ws : List Word := [3]; Ready 147 c ws s ∧ (¬parF ws 0 0 1 = 0) ∧ s.cal.store.isSome = true) ∧
    (let s : State := s_br; let c : CmdCtx := x_spi; let ws : List Word := [3]; Ready 147 c ws s ∧ (¬parF ws 0 0 1 = 0) ∧ s.cal.store = none ∧ getB s Reg.SEC_STATUS_ID_VALID = false) ∧
    (let s : State := s_st2; let st : Store := ⟨77, goodRec, some 2⟩; let f : Nat := 1; s.cal.store = some st ∧ f < 3 ∧ st.skip ≠ some f) := by
  refine ⟨?_, ?_, ?_, ?_, ?_, ?_, ?_, ?_⟩
  · exact ⟨by simp only [← readyB_iff]; decide +kernel, by decide, rfl, goodIntact⟩
  · simp only [← readyB_iff]; decide +kernel
  · simp only [← readyB_iff]; decide +kernel
  · simp only [← readyB_iff]; decide +kernel
  · simp only [← readyB_iff]; decide +kernel
  · simp only [← readyB_iff]; decide +kernel
  · simp only [← readyB_iff]; decide +kernel
  · exact ⟨rfl, by decide, by decide⟩

end Sys2Proof.Tests.Calibration

namespace Sys2Proof.Tests.Keys
open Sys2Proof Sys2Proof.Machine Sys2Proof.Tests

def ky (s : State) : State := { s with sec := { s.sec with keys := [(0, List.replicate 8 3),(65, List.replicate 8 4)], idKey := true } }
def au (b : Option (List Word)) (s : State) : State := { s with aud := { s.aud with ring := List.replicate 300 (List.replicate 8 9), unack := 300, block := b, blockNo := 7, blockCount := 5 } }
def s_kyl : State := put (ky (put conf L5)) [(Reg.SEC_STATUS_KEYS_LOCKED,1)]
def s_dbg : State := put (ky (put conf L5)) [(Reg.SYS_UNLOCK_ARMED,1)]
def s_full : State := {ky (put conf L5) with otp := { breach := List.replicate 32 true}}
def s_au : State := au none (put free L5)
def s_aub : State := au (some (List.replicate 2070 5)) (put free L5)

/-- The premises of the clauses of KeysDebugAudit are met by states and operands. -/
theorem witness_KeysDebugAudit :
    (let s : State := free; let c : CmdCtx := x_spi; let ws : List Word := 65 :: List.replicate 8 7; Ready 163 c ws s ∧ parF ws 0 0 7 ≤ 65 ∧ (¬(getB s Reg.SEC_STATUS_BREACH = true ∨ getB s Reg.SEC_STATUS_KEYS_LOCKED = true))) ∧
    (let s : State := s_kyl; let c : CmdCtx := x_jieth; let ws : List Word := 65 :: List.replicate 8 7; Ready 163 c ws s ∧ parF ws 0 0 7 ≤ 65 ∧ (getB s Reg.SEC_STATUS_BREACH = true ∨ getB s Reg.SEC_STATUS_KEYS_LOCKED = true)) ∧
    (let s : State := s_kyl; let c : CmdCtx := x_jieth; let ws : List Word := 66 :: List.replicate 8 7; Ready 163 c ws s ∧ 65 < parF ws 0 0 7) ∧
    (let s : State := s_kyl; let c : CmdCtx := x_jieth; let ws : List Word := [2147483648]; Ready 164 c ws s ∧ parF ws 0 31 1 = 1) ∧
    (let s : State := s_kyl; let c : CmdCtx := x_jieth; let ws : List Word := [1]; Ready 164 c ws s ∧ parF ws 0 31 1 = 0 ∧ parF ws 0 0 7 ≤ 65) ∧
    (let s : State := s_kyl; let c : CmdCtx := x_jieth; let ws : List Word := [46314]; Ready 164 c ws s ∧ parF ws 0 31 1 = 0 ∧ 65 < parF ws 0 0 7) ∧
    (let s : State := s_kyl; let c : CmdCtx := x_jieth; let ws : List Word := []; Ready 165 c ws s) ∧
    (let s : State := s_full; let c : CmdCtx := x_jieth; let ws : List Word := [1]; Ready 160 c ws s ∧ (s.pins.dbgEn = false ∨ breachCount s = 32)) ∧
    (let s : State := s_kyl; let c : CmdCtx := x_jieth; let ws : List Word := [1]; Ready 160 c ws s ∧ s.pins.dbgEn = true ∧ breachCount s ≠ 32 ∧ (¬getB s Reg.SYS_UNLOCK_ARMED = true)) ∧
    (let s : State := s_dbg; let c : CmdCtx := x_jieth; let ws : List Word := [1]; Ready 160 c ws s ∧ s.pins.dbgEn = true ∧ breachCount s ≠ 32 ∧ getB s Reg.SYS_UNLOCK_ARMED = true ∧ (¬parF ws 0 0 16 = 46314)) ∧
    (let s : State := s_dbg; let c : CmdCtx := x_jieth; let ws : List Word := [46314]; Ready 160 c ws s ∧ s.pins.dbgEn = true ∧ breachCount s ≠ 32 ∧ getB s Reg.SYS_UNLOCK_ARMED = true ∧ parF ws 0 0 16 = 46314) ∧
    (let s : State := s_aub; let b : List Word := List.replicate 2070 5; let c : CmdCtx := x_jieth; let ws : List Word := [1]; CanStart 161 c s ∧ (modeRun s.mode = true ∨ s.mode = Mode.fault) ∧ ws.length = 1 ∧ parF ws 0 0 3 ≤ 4 ∧ s.aud.block = some b) ∧
    (let s : State := s_kyl; let c : CmdCtx := x_jieth; let ws : List Word := [2147483648]; CanStart 161 c s ∧ (modeRun s.mode = true ∨ s.mode = Mode.fault) ∧ ws.length = 1 ∧ parF ws 0 0 3 = 0 ∧ s.aud.block = none) ∧
    (let s : State := s_kyl; let c : CmdCtx := x_jieth; let ws : List Word := [1]; CanStart 161 c s ∧ (modeRun s.mode = true ∨ s.mode = Mode.fault) ∧ ws.length = 1 ∧ (4 < parF ws 0 0 3 ∨ parF ws 0 0 3 ≠ 0 ∧ s.aud.block = none)) ∧
    (let s : State := s_aub; let b : List Word := List.replicate 2070 5; let c : CmdCtx := x_jieth; let ws : List Word := [7]; CanStart 162 c s ∧ (modeRun s.mode = true ∨ s.mode = Mode.fault) ∧ ws.length = 1 ∧ s.aud.block = some b ∧ par ws 0 = s.aud.blockNo) ∧
    (let s : State := s_kyl; let c : CmdCtx := x_jieth; let ws : List Word := [1]; CanStart 162 c s ∧ (modeRun s.mode = true ∨ s.mode = Mode.fault) ∧ ws.length = 1 ∧ (s.aud.block = none ∨ par ws 0 ≠ s.aud.blockNo)) := by
  refine ⟨?_, ?_, ?_, ?_, ?_, ?_, ?_, ?_, ?_, ?_, ?_, ?_, ?_, ?_, ?_, ?_⟩
  · simp only [← readyB_iff]; decide +kernel
  · simp only [← readyB_iff]; decide +kernel
  · simp only [← readyB_iff]; decide +kernel
  · simp only [← readyB_iff]; decide +kernel
  · simp only [← readyB_iff]; decide +kernel
  · simp only [← readyB_iff]; decide +kernel
  · simp only [← readyB_iff]; decide +kernel
  · simp only [← readyB_iff]; decide +kernel
  · simp only [← readyB_iff]; decide +kernel
  · simp only [← readyB_iff]; decide +kernel
  · simp only [← readyB_iff]; decide +kernel
  · simp only [← canB_iff]; decide +kernel
  · simp only [← canB_iff]; decide +kernel
  · simp only [← canB_iff]; decide +kernel
  · simp only [← canB_iff]; decide +kernel
  · simp only [← canB_iff]; decide +kernel

end Sys2Proof.Tests.Keys

namespace Sys2Proof.Tests.Writes
open Sys2Proof Sys2Proof.Machine Sys2Proof.Tests

def s_free : State := put free L5
def s_full : State := { put free [(Reg.AUD_CFG_POLICY, 1)] with aud := { ring := List.replicate 8192 [], unack := 8192 } }
def s_unp : State := { free with domains := [.aon, .host] }
def s_boot : State := live .boot
def s_free2 : State := put free L5
def s_bs : State := { free with boardSet := true }
def s_arm : State := put free [(Reg.SYS_UNLOCK_ARMED, 1)]

/-- The premises of the clauses of GuardedAndOnceWrites are met by states and operands. -/
theorem witness_GuardedAndOnceWrites :
    (let s : State := s_free2; let v : Word := 0x10020; let addr : Nat := 0x10020; let b : Nat := 1; let off : Nat := 0x20; let r : Nat := 65568; decodeAddr addr = some (b, off) ∧ reached b off = some r ∧ BarWrites (addrDomain (b * 65536 + off)) s ∧ hasCls (fieldsAt r) Cls.guard = true ∧ getB s Reg.SYS_UNLOCK_ARMED = false) ∧
    (let s : State := s_free2; let v : Word := 0x10020; BarWrites Domain.aon s ∧ s.boardSet = false) ∧
    (let s : State := s_bs; let v : Word := 0x10020; BarWrites Domain.aon s ∧ s.boardSet = true) := by
  refine ⟨?_, ?_, ?_⟩ <;> (simp only [← barB_iff]; decide +kernel)

/-- The premises of the clauses of RegisterWrites are met by states and operands. -/
theorem witness_RegisterWrites :
    (let s : State := s_free2; let a : Nat := 0x30028; let v : Word := 0x30028; a ∈ [40, 56, 65576, 65584, 131120, 196608, 196612, 196616, 196620, 196624, 196648, 1048608] ∧ BarWrites (addrDomain a) s) ∧
    (let s : State := s_unp; let addr : Nat := 0x30028; let be : Nat := 15; let v : Word := 0x30028; let b : Nat := 3; let off : Nat := 0x28; s.pcieUp = true ∧ be = 15 ∧ decodeAddr addr = some (b, off) ∧ (s.mode = Mode.boot ∨ s.mode = Mode.fault ∨ auditFull s = true ∨ powered s (addrDomain (b * 65536 + off)) = false)) ∧
    (let s : State := s_free2; let addr : Nat := 0x30028; let be : Nat := 0x30028; let v : Word := 0x30028; s.pcieUp = true ∧ (decodeAddr addr = none ∨ be ≠ 15)) ∧
    (let s : State := s_free2; let addr : Nat := 0x200FC; let be : Nat := 15; let v : Word := 0x30028; let b : Nat := 2; let off : Nat := 0xFC; s.pcieUp = true ∧ BarWrites (addrDomain (b * 65536 + off)) s ∧ be = 15 ∧ decodeAddr addr = some (b, off) ∧ reached b off = none) := by
  refine ⟨?_, ?_, ?_, ?_⟩
  · simp only [← barB_iff]; decide +kernel
  · decide +kernel
  · decide +kernel
  · simp only [← barB_iff]; decide +kernel

end Sys2Proof.Tests.Writes

namespace Sys2Proof.Tests.Reads
open Sys2Proof Sys2Proof.Machine Sys2Proof.Tests

def s_armlck : State := put (live .locked) [(Reg.SYS_UNLOCK_ARMED,1)]
def s_unp : State := {free with domains := [.aon, .host]}
def s_cor : State := put free [(Reg.SYS_EVENTS_GUARD_VIOL,1), (Reg.TIME_EVENTS_STEPPED,1)]
def s_stg : State := {put free [(Reg.SYS_UNLOCK_ARMED,1)] with staged := [(0x10010, 0x3FFFFF),(0x20010,0x01ABCDEF), (Reg.OUT_OUT_PSTEP_HI 3 |>.addr, 0x1FF)]}
def s_byp : State := put free [(Reg.DLL_STAT_BYPASS 19,1), (Reg.OUT_OUT_CTRL_MISSED 6,1),(Reg.OUT_OUT_CTRL_MISSED 13,1)]
def lk (j : BitVec 2) (l : List (Fld × Nat)) : State := { put free (L5 ++ l) with straps := { jrole := j}, jieth := { free.jieth with link := List.replicate 6 { holds := true } } }
def s_j1 : State := lk 1 []
def s_j2 : State := lk 2 [(Reg.LINK_LINK_CFG_ROLE 5, 2), (Reg.LINK_LINK_CFG_ROLE 0, 2), (Reg.LINK_LINK_STATUS_STATE 0, 7)]
def s_j1r : State := lk 1 [(Reg.LINK_LINK_CFG_ROLE 5, 2), (Reg.LINK_LINK_CFG_ROLE 0, 1), (Reg.LINK_LINK_STATUS_STATE 0, 5)]
def s_ph : State := put free [(Reg.PORT_PHY_CFG_EN 35,1), (Reg.PORT_TT_STATUS_CDR_LOCK 35,1), (Reg.PORT_PHASE_VALID 35,1),(Reg.PORT_PHY_STATUS_LINK_UP 35,1),(Reg.FP_SW_STATUS_LINK_UP 35,1)]

/-- The premises of the clauses of OutputWrites are met by states and operands. -/
theorem witness_OutputWrites :
    (let s : State := s_byp; let n : Nat := 13; let v : Word := 19; BarWrites Domain.time s ∧ 6 ≤ n ∧ n < 14 ∧ fieldOf v 4 1 = 1 ∧ (fieldOf v 1 2 = 1 ∨ leadFifths ≤ cmpDiff (5 * ↑(stagedTgt s n)) (todVis s))) ∧
    (let s : State := s_byp; let n : Nat := 13; let v : Word := 16; BarWrites Domain.time s ∧ 6 ≤ n ∧ n < 14 ∧ fieldOf v 4 1 = 1 ∧ (¬fieldOf v 1 2 = 1) ∧ cmpDiff (5 * ↑(stagedTgt s n)) (todVis s) < leadFifths) ∧
    (let s : State := s_byp; let n : Nat := 13; let v : Word := 128; BarWrites Domain.time s ∧ n < 14 ∧ fieldOf v 4 1 = 0 ∧ fieldOf v 0 1 = 0) ∧
    (let s : State := s_byp; let v : Word := 128; let hbm : Bool := false; BarWrites Domain.time s ∧ fieldOf v 7 1 = 1 ∧ (powered s (if hbm = true then Domain.hbm else Domain.fab) = true)) ∧
    (let s : State := s_byp; let v : Word := 13; let hbm : Bool := false; BarWrites Domain.time s ∧ fieldOf v 7 1 = 0) ∧
    (let s : State := s_byp; let v : Word := 19; let n : Nat := 13; BarWrites Domain.time s ∧ n < 20 ∧ fieldOf v 1 1 = 1) := by
  refine ⟨?_, ?_, ?_, ?_, ?_, ?_⟩ <;> (simp only [← barB_iff]; decide +kernel)

/-- The premises of the clauses of ReadsAndWideWrites are met by states and operands. -/
theorem witness_ReadsAndWideWrites :
    (let s : State := s_byp; let addr : Nat := 0x200FC; let b : Nat := 2; let off : Nat := 0xFC; s.pcieUp = true ∧ decodeAddr addr = some (b, off) ∧ reached b off = none) ∧
    (let s : State := s_unp; let addr : Nat := 0x30028; let b : Nat := 3; let off : Nat := 0x28; let r : Nat := 196648; s.pcieUp = true ∧ decodeAddr addr = some (b, off) ∧ reached b off = some r ∧ powered s (addrDomain r) = false) ∧
    (let s : State := s_byp; let addr : Nat := 0xFFFFFC; s.pcieUp = true ∧ decodeAddr addr = none) ∧
    (let s : State := s_stg; let v : Word := 0x1C; BarWrites Domain.time s ∧ getB s Reg.SYS_UNLOCK_ARMED = true ∧ holdsNominal s = true ∧ getB s Reg.ENG_STEER_STATUS_ACCEPTED = false) ∧
    (let s : State := s_armlck; let v : Word := 0x1C; BarWrites Domain.time s ∧ getB s Reg.SYS_UNLOCK_ARMED = true ∧ holdsNominal s = false) ∧
    (let s : State := s_byp; let v : Word := 0x1C; let n : Nat := 0; BarWrites Domain.time s ∧ n < 14) ∧
    (let addr := 0x1C; let b := 0; let off := 0x1C; let r := 0x1C; let s := s_cor; s.pcieUp = true ∧ decodeAddr addr = some (b, off) ∧ reached b off = some r ∧ powered s (addrDomain r) = true ∧ hasCls (fieldsAt r) Cls.cor = true ∧ ¬ Area.perf.has r) := by
  refine ⟨?_, ?_, ?_, ?_, ?_, ?_, ?_⟩
  · decide +kernel
  · decide +kernel
  · decide +kernel
  · simp only [← barB_iff]; decide +kernel
  · simp only [← barB_iff]; decide +kernel
  · simp only [← barB_iff]; decide +kernel
  · exact ⟨by decide +kernel, by decide +kernel, by decide +kernel, by decide +kernel, by decide +kernel, by simp [Area.has]⟩

/-- The premises of the clauses of LinkSlotPhyWrites are met by states and operands. -/
theorem witness_LinkSlotPhyWrites :
    (let s : State := s_j1r; let n : Nat := 0; let v : Word := 2; n < 6 ∧ BarWrites Domain.jieth s ∧ fieldOf v 2 1 = 0 ∧ fieldOf v 0 2 ≠ linkRoleCfg s n ∧ fieldOf v 0 2 ≠ 0 ∧ (List.filter (fun m => decide (m ≠ n) && decide (linkRole s m = fieldOf v 0 2)) (List.range 6)).length < roleLimit s (fieldOf v 0 2)) ∧
    (let s : State := s_byp; let n : Nat := 0; let v : Word := 35; n < 6 ∧ BarWrites Domain.jieth s ∧ fieldOf v 2 1 = 0 ∧ fieldOf v 0 2 ≠ linkRoleCfg s n ∧ fieldOf v 0 2 ≠ 0 ∧ roleLimit s (fieldOf v 0 2) = 0) ∧
    (let s : State := s_j1r; let n : Nat := 0; let v : Word := 5; n < 6 ∧ BarWrites Domain.jieth s ∧ fieldOf v 2 1 = 1 ∧ fieldOf v 0 2 = linkRoleCfg s n ∧ linkRole s n ≠ 0 ∧ linkState s n ≠ 7) ∧
    (let s : State := s_j2; let n : Nat := 0; let v : Word := 6; n < 6 ∧ BarWrites Domain.jieth s ∧ fieldOf v 2 1 = 1 ∧ fieldOf v 0 2 = linkRoleCfg s n ∧ linkRole s n ≠ 0 ∧ linkState s n = 7) ∧
    (let s : State := s_byp; let n : Nat := 0; let v : Word := 0; n < 8 ∧ BarWrites Domain.eng s) ∧
    (let s : State := s_byp; let n : Nat := 0; let v : Word := 0; n < 36 ∧ BarWrites (portDomain n) s ∧ getB s (Reg.PORT_PHY_CFG_EN n) = true ∧ fieldOf v 6 1 = 0) := by
  refine ⟨?_, ?_, ?_, ?_, ?_, ?_⟩ <;> (simp only [← barB_iff]; decide +kernel)

end Sys2Proof.Tests.Reads

namespace Sys2Proof.Tests.Blocks
open Sys2Proof Sys2Proof.Machine Sys2Proof.Tests

def eb (s : State) : State := { s with gauges := List.replicate 12 {fifo := [[1,2,3,4]]}, engs := { s.engs with buf := [[1,2,3,4],[5,6,7,8]], seq := 5, ftrim := 7, eng := List.replicate 16 {mboxOut := [5,6], mboxNew := true, ev := 8} } }
def s_own5 : State := put (eb free) [(Reg.ENG_STEER_CFG_OWNER,5), (Reg.SYS_UNLOCK_ARMED,1), (Reg.HIST_BIN 7 31, 5), (Reg.HIST_MIN 7,3)]
def s_arm : State := put { free with otp := {svnFloor := 3, revoked := 6} } [(Reg.SYS_UNLOCK_ARMED,1),(Reg.SEC_BOOT_INFO_SVN_RUN,7)]
def s_arm2 : State := put { free with otp := {revoked := 7} } [(Reg.SYS_UNLOCK_ARMED,1),(Reg.SEC_BOOT_INFO_KEY_SLOT_RUN,0)]
def s_dbg : State := put free [(Reg.SEC_STATUS_DEBUG_OPEN,1)]

/-- The premises of the clauses of EngineRegisterWrites are met by states and operands. -/
theorem witness_EngineRegisterWrites :
    (let s : State := s_own5; let e : Nat := 15; let v : Word := 15; 12 ≤ e ∧ e < 16 ∧ BarWrites Domain.eng s ∧ (engS s e).mboxNew = true) ∧
    (let s : State := s_arm2; let e : Nat := 15; e < 16 ∧ s.pcieUp = true ∧ powered s Domain.eng = true) ∧
    (let s : State := s_arm2; let n : Nat := 7; n < 12 ∧ s.pcieUp = true ∧ powered s Domain.gauge = true) ∧
    (let s : State := s_arm2; let c : CmdCtx := x_spi; let ws : List Word := [128]; Ready 176 c ws s ∧ 1 ≤ parF ws 0 0 8 ∧ parF ws 0 0 8 ≤ 128 ∧ s.engs.lost = false) ∧
    (let s : State := s_arm2; let c : CmdCtx := x_spi; let ws : List Word := [129]; Ready 176 c ws s ∧ (parF ws 0 0 8 = 0 ∨ 128 < parF ws 0 0 8)) ∧
    (let s : State := s_arm2; let v : Word := 4294967295; BarWrites Domain.eng s ∧ fieldOf v 28 1 = 1) ∧
    (let s : State := s_arm2; let v : Word := 15; let h : Nat := 7; BarWrites Domain.eng s ∧ h < 8 ∧ fieldOf v 0 1 = 1) ∧
    (let s : State := s_arm2; let v : Word := 15; BarWrites Domain.eng s ∧ getB s Reg.SYS_UNLOCK_ARMED = true) := by
  refine ⟨?_, ?_, ?_, ?_, ?_, ?_, ?_, ?_⟩
  · simp only [← barB_iff]; decide +kernel
  · decide +kernel
  · decide +kernel
  · simp only [← readyB_iff]; decide +kernel
  · simp only [← readyB_iff]; decide +kernel
  · simp only [← barB_iff]; decide +kernel
  · simp only [← barB_iff]; decide +kernel
  · simp only [← barB_iff]; decide +kernel

/-- The premises of the clauses of SecurityWrites are met by states and operands. -/
theorem witness_SecurityWrites :
    (let s : State := s_dbg; let v : Word := 4095; BarWrites Domain.aon s ∧ getB s Reg.SYS_UNLOCK_ARMED = false) ∧
    (let s : State := s_arm2; let v : Word := 2; let k : Nat := 1; BarWrites Domain.aon s ∧ k < 4 ∧ fieldOf v 0 4 = 2 ^ k ∧ getB s Reg.SYS_UNLOCK_ARMED = true ∧ k ≠ getF s Reg.SEC_BOOT_INFO_KEY_SLOT_RUN ∧ (∃ j < 4, j ≠ k ∧ bits s.otp.revoked.toNat j 1 = 0)) ∧
    (let s : State := s_arm2; let v : Word := 1; let k : Nat := 0; BarWrites Domain.aon s ∧ k < 4 ∧ fieldOf v 0 4 = 2 ^ k ∧ getB s Reg.SYS_UNLOCK_ARMED = true ∧ k = getF s Reg.SEC_BOOT_INFO_KEY_SLOT_RUN) ∧
    (let s : State := s_arm2; let v : Word := 4095; let d : DebugTarget := DebugTarget.engStep 3; (debugPort d).2.2 < 16 ∧ getB s Reg.SEC_STATUS_DEBUG_OPEN = false) ∧
    (let s : State := s_dbg; let v : Word := 4095; let e : Nat := 15; let a : Nat := 4095; e < 16 ∧ getB s Reg.SEC_STATUS_DEBUG_OPEN = true ∧ auditFull s = false ∧ powered s Domain.eng = true ∧ a < 4096) ∧
    (let s : State := s_dbg; let v : Word := 4095; let e : Nat := 15; let a : Nat := 4095; e < 16 ∧ getB s Reg.SEC_STATUS_DEBUG_OPEN = true ∧ auditFull s = false ∧ powered s Domain.eng = true ∧ a < 8192) ∧
    (let s : State := s_dbg; let v : Word := 4095; let e : Nat := 15; let r : Nat := 15; e < 16 ∧ getB s Reg.SEC_STATUS_DEBUG_OPEN = true ∧ auditFull s = false ∧ powered s Domain.eng = true ∧ r < 16) := by
  refine ⟨?_, ?_, ?_, ?_, ?_, ?_, ?_⟩
  · simp only [← barB_iff]; decide +kernel
  · simp only [← barB_iff]; decide +kernel
  · simp only [← barB_iff]; decide +kernel
  · decide +kernel
  · decide +kernel
  · decide +kernel
  · decide +kernel

end Sys2Proof.Tests.Blocks

namespace Sys2Proof.Tests.Power
open Sys2Proof Sys2Proof.Machine Sys2Proof.Tests

def rn (s : State) : State := { s with sec := { s.sec with keys := [(0,[1])], idKey := true }, pins := { resetN := true, perstN := true }, clk := { s.clk with cwReq := 5 }, tim := { s.tim with tod := 99999999 }, otp := {svnFloor := 3}, aud := { s.aud with ring := [[1]], unack := 1 }, pair := { s.pair with epoch := 5 } }
def tk (p : Option Power) (w : Bool) : State := put { rn (live .timekeep) with powerTo := p, waking := w, pcieUp := false, wakeS := 100 } ([(Reg.UE_ENG_STATUS_RUNNING 3, 1),(Reg.UE_ENG_STATUS_RUNNING 0, 1),(Reg.SEC_STATUS_DEBUG_OPEN,1), (Reg.REF_JUMP_THR, 3)])
def s_off : State := { rn (put free L5) with power := .off, domains := [] }
def s_tk : State := tk (some .keep) false
def s_tkd : State := {tk none false with power := .keep, domains := [.aon,.time,.eng]}
def s_wkk : State := {tk (some .full) true with domains := [.aon,.time,.eng], power := .keep}
def s_seqq : State := {rn (live .bench) with powerTo := some .quiet}
def s_seqf : State := {rn (live .bench) with power := .quiet, domains := [.aon,.time], powerTo := some .full}

def s_aon : State := { State.reset with power := .aon }
def s_wki : State := put { s_wkk with flash := { imageA := { words := signed } }, otp := { keyHash := [keyH] } } [(Reg.SYS_BOOT_STATUS_IMAGE, 1)]

/-- The premises of the clauses of ResetPins are met by states and operands. -/
theorem witness_ResetPins :
    (let s : State := s_tkd; s.power ≠ Power.off) ∧
    (let s : State := s_aon; let b : BootEnv := {}; s.power = Power.aon) ∧
    (let s : State := s_tkd; getB s Reg.SEC_STATUS_DEBUG_OPEN = true) ∧
    (let s : State := s_off; s.mode ≠ Mode.timekeep) ∧
    (let s : State := s_tkd; s.mode = Mode.timekeep ∧ s.waking = false) := by
  refine ⟨?_, ?_, ?_, ?_, ?_⟩ <;> (decide +kernel)

/-- The premises of the clauses of PowerAndTimekeep are met by states and operands. -/
theorem witness_PowerAndTimekeep :
    (let s : State := s_off; s.power = Power.off) ∧
    (let s : State := s_tkd; let r : Rail := Rail.vddaClk; (s.pins.resetN = true ∨ r = Rail.vddAon ∨ r = Rail.vddioAon) ∧ (∃ d ∈ railFeeds r, powered s d = true) ∧ s.mode ≠ Mode.reset ∧ s.mode ≠ Mode.fault) ∧
    (let s : State := s_off; let r : Rail := Rail.vddaClk; (∀ d ∈ railFeeds r, powered s d = false)) ∧
    (let s : State := s_tkd; let r : Rail := Rail.vddaClk; (r = Rail.vddCore ∨ r = Rail.vddaClk) ∧ s.power ≠ Power.off ∧ s.power ≠ Power.aon) ∧
    (let s : State := s_tkd; let src : WakeSrc := WakeSrc.timer; s.mode = Mode.timekeep ∧ s.waking = false ∧ (src = WakeSrc.timer → s.wakeS ≠ 0)) ∧
    (let s : State := s_tk; s.mode = Mode.timekeep ∧ s.powerTo = some Power.keep) ∧
    (let s : State := s_off; let src : WakeSrc := WakeSrc.timer; (s.mode ≠ Mode.timekeep ∨ s.waking = true)) ∧
    (let s : State := s_wki; s.waking = true ∧ s.mode = Mode.timekeep ∧ imageCheck s (imageRan s) = 1) ∧
    (let s : State := s_wkk; let b : Bool := true; s.waking = true ∧ s.mode = Mode.timekeep ∧ (b = false ∨ imageCheck s (imageRan s) ≠ 1)) ∧
    (let s : State := s_seqq; s.powerTo = some Power.quiet) ∧
    (let s : State := s_seqf; s.powerTo = some Power.full ∧ s.waking = false) := by
  refine ⟨?_, ?_, ?_, ?_, ?_, ?_, ?_, ?_, ?_, ?_, ?_⟩ <;> (decide +kernel)

end Sys2Proof.Tests.Power

namespace Sys2Proof.Tests.Boot
open Sys2Proof Sys2Proof.Machine Sys2Proof.Tests

def fl1 : Flash := { imageA := { words := signed } }
def fl2 : Flash := { imageB := { words := signed } }
def rstn (s : State) : State := { s with pins := { perstN := true } }
def rootW (src : BitVec 2) (f : Flash) : State := { rstn State.reset with mode := .boot, power := .full, domains := [.aon, .time], boot := .root { bootSrc := src }, straps := { bootSrc := src }, flash := f }
def s_warm : State := { rstn State.reset with power := .full, domains := [.aon] }

def x_b1 : BootEnv := { flash := some fl1, keyHash := some [keyH] }
def x_rr : Instr := .resetRelease x_b1
def s_rt : State := { rootW 0 fl1 with boot := .root x_b1, otp := { keyHash := [keyH] } }

/-- The premises of the clauses of BootSequence are met by states and operands. -/
theorem witness_BootSequence :
    (let s : State := s_warm; let b : BootEnv := {jrole := 3}; let x : Instr := .resetRelease b; (x = Instr.resetRelease b ∧ s.mode = Mode.reset ∧ s.power ≠ Power.aon ∧ s.power ≠ Power.off ∨ x = Instr.aonExit b ∧ s.mode = Mode.reset ∧ s.power = Power.aon ∧ s.pins.resetN = true) ∧ (b.jrole = 3 ∨ b.pairEn = true ∧ b.jrole ≠ 2)) ∧
    (let s : State := s_warm; let b : BootEnv := {rootLocks := false}; let x : Instr := .resetRelease b; (x = Instr.resetRelease b ∧ s.mode = Mode.reset ∧ s.power ≠ Power.aon ∧ s.power ≠ Power.off ∨ x = Instr.aonExit b ∧ s.mode = Mode.reset ∧ s.power = Power.aon ∧ s.pins.resetN = true) ∧ (¬(b.jrole = 3 ∨ b.pairEn = true ∧ b.jrole ≠ 2)) ∧ (¬(b.rootLocks = true ∧ b.osc ≠ OscIn.absent))) ∧
    (let s : State := s_warm; let b : BootEnv := {bootSrc := 1}; let x : Instr := .resetRelease b; (x = Instr.resetRelease b ∧ s.mode = Mode.reset ∧ s.power ≠ Power.aon ∧ s.power ≠ Power.off ∨ x = Instr.aonExit b ∧ s.mode = Mode.reset ∧ s.power = Power.aon ∧ s.pins.resetN = true) ∧ (¬(b.jrole = 3 ∨ b.pairEn = true ∧ b.jrole ≠ 2)) ∧ b.rootLocks = true ∧ b.osc ≠ OscIn.absent ∧ (b.bootSrc = 1 ∨ b.bootSrc = 2)) ∧
    (let s : State := s_warm; let b : BootEnv := x_b1; let x : Instr := x_rr; (x = Instr.resetRelease b ∧ s.mode = Mode.reset ∧ s.power ≠ Power.aon ∧ s.power ≠ Power.off ∨ x = Instr.aonExit b ∧ s.mode = Mode.reset ∧ s.power = Power.aon ∧ s.pins.resetN = true) ∧ (¬(b.jrole = 3 ∨ b.pairEn = true ∧ b.jrole ≠ 2)) ∧ b.rootLocks = true ∧ b.osc ≠ OscIn.absent ∧ (¬(b.bootSrc = 1 ∨ b.bootSrc = 2)) ∧ ((if b.bootSrc = 0 then imageCheck { s with otp := { s.otp with keyHash := b.keyHash.getD s.otp.keyHash } } (b.flash.getD s.flash).imageA else 0) = 1 ∨ imageCheck { s with otp := { s.otp with keyHash := b.keyHash.getD s.otp.keyHash } } (b.flash.getD s.flash).imageB = 1) ∧ b.pufOk = true) ∧
    (let s : State := s_warm; let b : BootEnv := {bootSrc := 0}; let x : Instr := .resetRelease b; (x = Instr.resetRelease b ∧ s.mode = Mode.reset ∧ s.power ≠ Power.aon ∧ s.power ≠ Power.off ∨ x = Instr.aonExit b ∧ s.mode = Mode.reset ∧ s.power = Power.aon ∧ s.pins.resetN = true) ∧ (¬(b.jrole = 3 ∨ b.pairEn = true ∧ b.jrole ≠ 2)) ∧ b.rootLocks = true ∧ b.osc ≠ OscIn.absent ∧ (¬(b.bootSrc = 1 ∨ b.bootSrc = 2)) ∧ ((if b.bootSrc = 0 then imageCheck { s with otp := { s.otp with keyHash := b.keyHash.getD s.otp.keyHash } } (b.flash.getD s.flash).imageA else 0) ≠ 1) ∧ imageCheck { s with otp := { s.otp with keyHash := b.keyHash.getD s.otp.keyHash } } (b.flash.getD s.flash).imageB ≠ 1) ∧
    (let s : State := rootW 1 {}; let b : BootEnv := {bootSrc := 1}; s.boot = BootStep.root b ∧ b.osc ≠ OscIn.absent ∧ (s.straps.bootSrc = 1 ∨ s.straps.bootSrc = 2)) ∧
    (let s : State := s_rt; let b : BootEnv := x_b1; s.boot = BootStep.root b ∧ b.osc ≠ OscIn.absent ∧ s.straps.bootSrc = 0 ∧ imageCheck s s.flash.imageA = 1) ∧
    (let s : State := free; s.boot = BootStep.idle ∧ s.clk.started = true) ∧
    (let s : State := rootW 0 fl1; let b : BootEnv := {bootSrc := 0}; s.boot = BootStep.root b ∧ s.mode = Mode.boot) := by
  refine ⟨?_, ?_, ?_, ?_, ?_, ?_, ?_, ?_, ?_⟩ <;> (decide +kernel)

end Sys2Proof.Tests.Boot

namespace Sys2Proof.Tests.Oscillator
open Sys2Proof Sys2Proof.Machine Sys2Proof.Tests

def sl0 : State := put { free with clk := { free.clk with slopePass := 2, slopeRef := some 0 }, straps := {ovenUse := true} } [(Reg.SLOT_SLOT_CFG_EN 0,1),(Reg.SLOT_SLOT_STATUS_QUALIFIED 0,1),(Reg.CLK_ROOT_STATUS_OVEN_OK,1)]
def s_los : State := put { free with gauges := List.replicate 12 {} } [(Reg.CLK_ROOT_STATUS_OSC_LOS,1),(Reg.CLK_ROOT_STATUS_ROOT_LOCK,0)]
def s_run : State := put free [(Reg.CLK_ROOT_STATUS_ROOT_LOCK,1), (Reg.GA_STATUS_RUNNING 11,1)]
def s_low : State := put sl0 [(Reg.CLK_ROOT_STATUS_OVEN_OK,0),(Reg.CLK_ROOT_STATUS_TB_WARM,1)]
def s_sl3 : State := {sl0 with clk := {sl0.clk with slopePass := 3}}
def s_dl : State := put free ([(Reg.DLL_STAT_LOCK 19,1),(Reg.DLL_STAT_BYPASS 19,0),(Reg.CLK_FAB_PLL_RELOCKING,1),(Reg.CLK_FAB_PLL_APPLY,1),(Reg.CLK_HBM_PLL_RELOCKING,1)])
def po (s : State) : State := { put s [(Reg.OUT_OUT_CTRL_EN 13,1)] with tim := { s.tim with provisional := true, tod := 10^9*2^56*5, outs := List.replicate 14 {next := 5*65536*10^9*6, armed := true} } }
def pl (s : State) : State := { s with tim := { s.tim with provisional := true, tod := 10^9*2^56*5, outs := List.replicate 14 {next := 5*65536*10^9*4, armed := true, periodic := true, per := 65536*1000} } }
def we (s : State) : State := { s with tim := { s.tim with tod := 10^9*2^56*5, weirRem := -3 * 2^40 } }
def rp (s : State) : State := { s with clk := { s.clk with cwReq := 5000, cwPos := 100 } }
def s_po : State := po free
def s_pl : State := pl free
def s_we : State := we free
def s_lst : State := {rp free with tim := {tod := todWrap - 10^9*2^56}}

def s_po2 : State := put s_po [(Reg.DLL_STAT_BYPASS 13,0),(Reg.DLL_STAT_LOCK 13,1),(Reg.DLL_STAT_GATED 13,0)]
def s_ovw : State := (let s := put sl0 [(Reg.CLK_ROOT_STATUS_OVEN_OK,0),(Reg.CLK_ROOT_STATUS_TB_WARM,1)]; { s with now := 6250000, clk := { s.clk with ovenAt := some 0 } })
def s_slf : State := { sl0 with clk := { sl0.clk with slope := List.replicate 600 0 } }
theorem slopeMoment_zero (n : Nat) (k : Int) : slopeMoment (List.replicate n 0) k = 0 := by
  induction n generalizing k with
  | zero => rfl
  | succ n ih => simp [List.replicate_succ, slopeMoment, ih]
theorem s_slf_flat : slopeFlat s_slf.clk.slope = true := by
  have h : s_slf.clk.slope = List.replicate 600 0 := rfl
  rw [h, slopeFlat, List.length_replicate, List.take_replicate, slopeMoment_zero]
  decide +kernel
theorem s_slf_top : s_slf.clk.started = true ∧ topQualified s_slf = s_slf.clk.slopeRef ∧ s_slf.clk.slopeRef.isSome = true := by
  decide +kernel
theorem s_slf_watch : slopeWatch s_slf = s_slf := by
  rw [slopeWatch, if_pos s_slf_top.2.1]
theorem s_slf_drift : (600 : Nat) = (slopeWatch s_slf).clk.slope.length ∧ (0 : Int) = slopeDrift (slopeWatch s_slf).clk.slope := by
  have h : s_slf.clk.slope = List.replicate 600 0 := rfl
  rw [s_slf_watch, h, slopeDrift, List.length_replicate, List.take_replicate, slopeMoment_zero]
  decide +kernel
theorem s_slf_ok :
    (600 : Nat) = (slopeWatch s_slf).clk.slope.length ∧ (0 : Int) = slopeDrift (slopeWatch s_slf).clk.slope ∧
    s_slf.clk.started = true ∧ topQualified s_slf = s_slf.clk.slopeRef ∧ s_slf.clk.slopeRef.isSome = true ∧ slopeFlat s_slf.clk.slope = true :=
  ⟨s_slf_drift.1, s_slf_drift.2, s_slf_top.1, s_slf_top.2.1, s_slf_top.2.2, s_slf_flat⟩
def s_slr : State := { sl0 with clk := { sl0.clk with slopeRef := none } }
def s_wm : State := { free with clk := { free.clk with warmAt := some 0, slopePass := 3 } }

/-- The premises of the clauses of OscillatorAndWarmUp are met by states and operands. -/
theorem witness_OscillatorAndWarmUp :
    (let s : State := s_los; getB s Reg.CLK_ROOT_STATUS_OSC_LOS = true ∧ getB s Reg.CLK_ROOT_STATUS_ROOT_LOCK = false ∧ s.mode ≠ Mode.reset ∧ s.mode ≠ Mode.fault) ∧
    (let s : State := s_run; getB s Reg.CLK_ROOT_STATUS_ROOT_LOCK = true) ∧
    (let s : State := s_po; let v : Bool := true; powered s Domain.time = true ∧ getB s Reg.CLK_ROOT_STATUS_OVEN_OK = !v) ∧
    (let s : State := s_ovw; s.clk.started = true ∧ s.straps.ovenUse = true ∧ getB s Reg.CLK_ROOT_STATUS_OVEN_OK = false ∧ ovenHeld s = true ∧ getB s Reg.CLK_ROOT_STATUS_TB_WARM = true) ∧
    (let s : State := s_slf; let n : Nat := 600; let d : Int := 0; n = (slopeWatch s).clk.slope.length ∧ d = slopeDrift (slopeWatch s).clk.slope ∧ s.clk.started = true ∧ topQualified s = s.clk.slopeRef ∧ s.clk.slopeRef.isSome = true ∧ slopeFlat s.clk.slope = true) ∧
    (let s : State := s_po; let n : Nat := 0; let d : Int := 0; n = (slopeWatch s).clk.slope.length ∧ d = slopeDrift (slopeWatch s).clk.slope ∧ s.clk.started = true ∧ (topQualified s = none ∨ topQualified s ≠ s.clk.slopeRef ∨ s.clk.slope.length < 600)) ∧
    (let s : State := s_slr; let n : Nat := 0; let d : Int := 0; n = (slopeWatch s).clk.slope.length ∧ d = slopeDrift (slopeWatch s).clk.slope ∧ s.clk.started = true ∧ topQualified s ≠ s.clk.slopeRef) ∧
    (let s : State := s_po; let n : Nat := 1; let d : Int := 0; (n ≠ (slopeWatch s).clk.slope.length ∨ d ≠ slopeDrift (slopeWatch s).clk.slope)) ∧
    (let s : State := s_wm; let t0 : Nat := 0; let x : Nat := 0; s.clk.started = true ∧ (s.straps.ovenUse = true → getB s Reg.CLK_ROOT_STATUS_OVEN_OK = true ∧ ovenHeld s = true) ∧ s.clk.warmAt = some t0 ∧ (3 ≤ s.clk.slopePass ∨ (getF s Reg.CLK_WARM_CFG_MIN_S ≤ x ∧ t0 + x * 625000000 ≤ s.now)) ∧ getB s Reg.CLK_ROOT_STATUS_TB_WARM = false) ∧
    (let s : State := s_sl3; s.straps.ovenUse = true ∧ (getB s Reg.CLK_ROOT_STATUS_OVEN_OK = false ∨ ovenHeld s = false)) := by
  refine ⟨?_, ?_, ?_, ?_, ?_, ?_, ?_, ?_, ?_, ?_⟩
  · decide +kernel
  · decide +kernel
  · decide +kernel
  · decide +kernel
  · exact s_slf_ok
  · decide +kernel
  · decide +kernel
  · decide +kernel
  · decide +kernel
  · decide +kernel

/-- The premises of the clauses of TimedEvents are met by states and operands. -/
theorem witness_TimedEvents :
    (let s : State := s_pl; let n : Nat := 0; n < 14 ∧ s.clk.started = true ∧ outScheduled s n = true ∧ cmpDiff (launch (openAhead s n) n) (todVis (openAhead s n)) < 0 ∧ outRunning (openAhead s n) n = true) ∧
    (let s : State := s_po2; let n : Nat := 13; n < 14 ∧ s.clk.started = true ∧ outScheduled s n = true ∧ outRunning (openAhead s n) n = true ∧ getB (openAhead s n) (Reg.DLL_STAT_GATED n) = false ∧ getB (openAhead s n) (Reg.DLL_STAT_BYPASS n) = false) ∧
    (let s : State := s_po; let n : Nat := 0; n < 14 ∧ s.clk.started = true ∧ outScheduled s n = true ∧ (n < 6 ∨ (outS (openAhead s n) n).periodic = true) ∧ (outS (openAhead s n) n).slew = 0) ∧
    (let s : State := s_po; let n : Nat := 6; n < 14 ∧ s.clk.started = true ∧ outScheduled s n = true ∧ 6 ≤ n ∧ (outS (openAhead s n) n).periodic = false ∧ getB (openAhead s n) (Reg.OUT_OUT_CTRL_EN n) = false) ∧
    (let s : State := s_po; let n : Nat := 5; n < 14 ∧ s.clk.started = true ∧ outScheduled s n = false) ∧
    (let s : State := s_we; s.clk.started = true ∧ s.tim.weirRem ≠ 0 ∧ 0 < getF s Reg.TIME_WEIR_RATE ∧ s.tim.weirRem.natAbs ≤ weirAmt s.tim.weirAcc (weirStep s) (2 ^ 64)) ∧
    (let s : State := s_lst; s.clk.started = true ∧ cwFollows s = true ∧ s.clk.cwPos ≠ cwTarget s * cwUnit) ∧
    (let s : State := s_po; let dt : Option Int := none; s.clk.started = true ∧ s.tim.numeric = false ∧ getB s Reg.TIME_TOD_CTRL_INC_EXACT = true ∧ s.tim.weirRem = 0 ∧ s.tim.phase = 0 ∧ s.tim.tod % (10 ^ 9 * 2 ^ 56) = 0) ∧
    (let s : State := s_po; s.clk.started = true ∧ s.tim.numeric = false ∧ getB s Reg.TIME_TOD_CTRL_INC_EXACT = true ∧ s.tim.weirRem = 0 ∧ s.tim.phase = 0 ∧ s.tim.tod % (10 ^ 6 * 2 ^ 56) = 0) := by
  refine ⟨?_, ?_, ?_, ?_, ?_, ?_, ?_, ?_, ?_⟩ <;> (decide +kernel)

/-- The premises of the clauses of HelperDllsPlls are met by states and operands. -/
theorem witness_HelperDllsPlls :
    (let s : State := s_po; let n : Nat := 19; n < 20 ∧ s.clk.started = true ∧ (n < 4 ∨ 6 ≤ n ∨ clk10Up s n = true)) ∧
    (let s : State := (live .boot); let n : Nat := 4; n < 20 ∧ s.clk.started = true ∧ 4 ≤ n ∧ n < 6 ∧ s.mode = Mode.boot) ∧
    (let s : State := s_dl; let n : Nat := 19; n < 20 ∧ getB s (Reg.DLL_STAT_LOCK n) = true) ∧
    (let s : State := s_dl; let hbm : Bool := true; getB s (pllFlds hbm).2.1 = true ∧ hbm = true) := by
  refine ⟨?_, ?_, ?_, ?_⟩ <;> (decide +kernel)

end Sys2Proof.Tests.Oscillator

namespace Sys2Proof.Tests.Slots
open Sys2Proof Sys2Proof.Machine Sys2Proof.Tests

def tm (s : State) : State := { put s [(Reg.SLOT_SLOT_CFG_EN 0,1),(Reg.SLOT_SLOT_CFG_EN 7,1),(Reg.SLOT_SLOT_CFG_INDEX 0,5),(Reg.SLOT_SLOT_CFG_TYPE 7,2)] with sel := { s.sel with slots := List.replicate 8 {lostOnce := false} } }
def q0 (s : State) : State := put s [(Reg.SLOT_SLOT_STATUS_QUALIFIED 0,1),(Reg.REF_SEL_STATUS_SELECTED,0),(Reg.SLOT_SLOT_STATUS_SELECTED 0,1)]
def s_boot : State := live .boot
def s_acq : State := tm (live .acquire)
def s_acqw : State := {tm (live .acquire) with sel := {slots := List.replicate 8 {lostOnce := true}}}
def s_lck : State := put (q0 (tm (live .locked))) [(Reg.SLOT_SLOT_STATUS_QUALIFIED 7,1),(Reg.SLOT_SLOT_STATUS_WTR_RUN 7,1)]
def sw0 : Switch := { b := 7, xFrom := 5, yFrom := 6, bOut := 7, start := 3, live := true }
def x_sw1 : Switch := {sw0 with committed := true}
def lk7 : State := put (q0 (tm (live .locked))) [(Reg.SLOT_SLOT_STATUS_QUALIFIED 7,1),(Reg.SLOT_SLOT_STATUS_ELIGIBLE 7,1),(Reg.SLOT_SLOT_STATUS_SRC_VALID 7,1)]
def s_unp : State := {tm free with domains := [.aon]}
def s_sw : State := {lk7 with sel := {lk7.sel with sw := some sw0}}
def s_sw1 : State := {lk7 with sel := {lk7.sel with sw := some {sw0 with committed := true}}}
def s_ho : State := {q0 (tm (live .holdover)) with sel := {lk7.sel with holdOff := true}}
def s_sb : State := live .standby

def x_m : SlotMeas := ⟨5, 6, 7⟩
def s_gq : State := put s_acq [(Reg.GNSS_STATUS_SOL_VALID,1)]
def s_gqw : State := put s_acqw [(Reg.GNSS_STATUS_SOL_VALID,1),(Reg.REF_SEL_TIMERS_WTR_S,5)]
def s_inc : State := {lk7 with sel := {lk7.sel with slots := List.replicate 8 {incons := 10}}}

/-- The premises of the clauses of SelectorActs are met by states and operands. -/
theorem witness_SelectorActs :
    (let s : State := s_sw; let ms : List (Option SlotMeas) := []; powered s Domain.eng = true ∧ selecting s.mode = true) ∧
    (let s : State := s_unp; let ms : List (Option SlotMeas) := []; powered s Domain.eng = false) ∧
    (let s : State := s_ho; let w : Bool := true; powered s Domain.eng = true ∧ (selecting s.mode = true ∨ s.mode = Mode.standby ∨ s.mode = Mode.config) ∧ s.mode = Mode.holdover) ∧
    (let s : State := s_sw; let w : Switch := { b := 7, xFrom := 5, yFrom := 6, bOut := 7, start := 3, live := true, committed := false, freqOnly := false, run := { ticks := 0, cSum := 0, w := 0 } }; s.sel.sw = some w ∧ w.committed = false ∧ slotEligible s w.b = true) ∧
    (let s : State := s_sw1; let w : Switch := { b := 7, xFrom := 5, yFrom := 6, bOut := 7, start := 3, live := true, committed := true, freqOnly := false, run := { ticks := 0, cSum := 0, w := 0 } }; let m : SlotMeas := x_m; s.sel.sw = some w ∧ w.committed = true ∧ w.b < 8) ∧
    (let s : State := s_unp; s.sel.sw = none) ∧
    (let s : State := s_ho; s.sel.holdOff = true) := by
  refine ⟨?_, ?_, ?_, ?_, ?_, ?_, ?_⟩ <;> (decide +kernel)

/-- The premises of the clauses of SlotsQualify are met by states and operands. -/
theorem witness_SlotsQualify :
    (let s : State := s_gqw; let n : Nat := 7; let m : SlotMeas := x_m; n < 8 ∧ srcClear s n = true ∧ slotQual s n = false ∧ m.freq.natAbs * 10 ^ 6 ≤ 19 * 2 ^ 60 ∧ (slotS s n).lostOnce = true ∧ getF s Reg.REF_SEL_TIMERS_WTR_S ≠ 0) ∧
    (let s : State := s_gq; let n : Nat := 7; let m : SlotMeas := x_m; n < 8 ∧ srcClear s n = true ∧ slotQual s n = false ∧ m.freq.natAbs * 10 ^ 6 ≤ 19 * 2 ^ 60 ∧ (¬((slotS s n).lostOnce = true ∧ getF s Reg.REF_SEL_TIMERS_WTR_S ≠ 0)) ∧ s.mode = Mode.acquire ∧ selected s = none ∧ s.sel.sw = none ∧ getB s (Reg.SLOT_SLOT_STATUS_WTR_RUN n) = false ∧ getB s (Reg.SLOT_SLOT_CFG_LOCKOUT n) = false ∧ (∀ k < 8, k ≠ n → slotReady s k = false)) ∧
    (let s : State := s_sw; let n : Nat := 0; let m : SlotMeas := { ofs := 5, freq := 6, ofs10 := 7 }; n < 8 ∧ (srcClear s n = false ∨ slotQual s n = true ∨ 19 * 2 ^ 60 < m.freq.natAbs * 10 ^ 6)) ∧
    (let s : State := s_lck; let n : Nat := 7; n < 8 ∧ getB s (Reg.SLOT_SLOT_STATUS_WTR_RUN n) = true) ∧
    (let s : State := s_sw; let n : Nat := 0; let c : LossCause := LossCause.noOffset; n < 8 ∧ slotQual s n = true ∧ c ≠ LossCause.frequency) ∧
    (let s : State := s_inc; let n : Nat := 7; n < 8 ∧ slotType s n = 2 ∧ slotQual s n = true ∧ 10 ≤ (slotS s n).incons) ∧
    (let s : State := s_sw; let n : Nat := 0; n < 8 ∧ (slotType s n ≠ 2 ∨ slotQual s n = false ∨ (slotS s n).incons < 10)) := by
  refine ⟨?_, ?_, ?_, ?_, ?_, ?_, ?_⟩ <;> (decide +kernel)

end Sys2Proof.Tests.Slots

namespace Sys2Proof.Tests.Phase
open Sys2Proof Sys2Proof.Machine Sys2Proof.Tests

def pu (p : Nat) (s : State) : State := put s [(Reg.PORT_TT_CTRL_DDMTD_EN p,1),(Reg.PORT_TT_STATUS_CDR_LOCK p,1),(Reg.CLK_ROOT_STATUS_HELPER_LOCK,1)]
def pd (f : PortS → PortS) (s : State) : State := updPort (updPort s 0 f) 35 f
def sl : List (Fld × Nat) := [(Reg.SLOT_SLOT_CFG_EN 0,1),(Reg.SLOT_SLOT_CFG_INDEX 0,35),(Reg.SLOT_SLOT_STATUS_QUALIFIED 0,1),(Reg.SLOT_SLOT_STATUS_SRC_VALID 0,1)]
def s_free : State := put free (L5++[(Reg.PORT_TT_CTRL_DDMTD_EN 0, 0)])
def s_nolock : State := put (pu 0 free) [(Reg.PORT_TT_CTRL_DDMTD_EN 35,1),(Reg.PORT_PHASE_VALID 35,1)]
def s_pl : State := pd (fun o => {o with pendLink := some (5, -6, some 7)}) free
def s_bp : State := pd (fun o => {o with bermPend := some (5,-6,7)}) free
def s_q4 : State := pd (fun o => {o with quiet := 4}) (put free sl)

def s_inw : State := { free with ports := { free.ports with bermWin := some { port := 35 } } }
def s_sy : State := pd (fun o => {o with syncIn := some 5, reqOut := some 7}) free
def s_p2p : State := put free [(Reg.PORT_TT_CTRL_DELAY_MECH 35, 2)]
def s_ms : State := pd (fun o => {o with reqIn := some 5, syncOut := some 7}) (put free [(Reg.PORT_PHY_STATUS_LINK_UP 35,1),(Reg.PORT_PTP_XPORT_ROLE_FORCE 35,1)])

/-- The premises of the clauses of PhaseAndDelay are met by states and operands. -/
theorem witness_PhaseAndDelay :
    (let s : State := free; let p : Nat := 0; let beats : List Beat := []; p < 36 ∧ powered s (portDomain p) = true ∧ powered s Domain.gauge = true ∧ getB s (Reg.PORT_TT_CTRL_DDMTD_EN p) = true ∧ (portStale s p = true ∨ (getB s (Reg.PORT_TT_STATUS_CDR_LOCK p) && getB s Reg.CLK_ROOT_STATUS_HELPER_LOCK && wordWhole s p) = false)) ∧
    (let s : State := s_free; let p : Nat := 0; let beats : List Beat := []; p < 36 ∧ powered s (portDomain p) = true ∧ getB s (Reg.PORT_TT_CTRL_DDMTD_EN p) = false) ∧
    (let s : State := s_inw; let p : Nat := 35; p < 36 ∧ powered s (portDomain p) = true ∧ (inWindow s p = true ∨ (portS s p).after = true)) ∧
    (let s : State := s_nolock; let p : Nat := 35; p < 36 ∧ powered s (portDomain p) = true ∧ inWindow s p = false ∧ (portS s p).after = false ∧ getB s (Reg.PORT_PHASE_VALID p) = true) ∧
    (let s : State := s_sy; let p : Nat := 0; let t1 : Int := 0; let t2 : Int := 5; let t3 : Int := 7; let t4 : Int := 0; p < 36 ∧ powered s (portDomain p) = true ∧ delayMech s p ≠ 2 ∧ portState s p ≠ PortState.master ∧ (portS s p).syncIn = some t2 ∧ (portS s p).reqOut = some t3) ∧
    (let s : State := s_sy; let p : Nat := 0; let t1 : Int := 0; let t2 : Int := 6; let t3 : Int := 7; let t4 : Int := 0; p < 36 ∧ powered s (portDomain p) = true ∧ delayMech s p ≠ 2 ∧ portState s p ≠ PortState.master ∧ ((portS s p).syncIn ≠ some t2 ∨ (portS s p).reqOut ≠ some t3)) ∧
    (let s : State := s_ms; let p : Nat := 35; let t1 : Int := 0; let t2 : Int := 5; let t3 : Int := 7; let t4 : Int := 0; p < 36 ∧ powered s (portDomain p) = true ∧ delayMech s p ≠ 2 ∧ portState s p = PortState.master ∧ (portS s p).reqIn = some t2 ∧ (portS s p).syncOut = some t3) ∧
    (let s : State := s_p2p; let p : Nat := 35; let t1 : Int := 0; let t2 : Int := 0; let t3 : Int := 0; let t4 : Int := 0; p < 36 ∧ powered s (portDomain p) = true ∧ delayMech s p = 2) ∧
    (let s : State := s_pl; let p : Nat := 0; let rt : Int := 5; let din : Int := -6; let ofs : Option Int := some 7; p < 36 ∧ powered s (portDomain p) = true ∧ (portS s p).pendLink = some (rt, din, ofs)) ∧
    (let s : State := s_bp; let p : Nat := 0; let tx : Int := 5; let rx : Int := -6; let temp : Int := 7; p < 36 ∧ powered s (portDomain p) = true ∧ (portS s p).bermPend = some (tx, rx, temp)) ∧
    (let s : State := s_q4; let p : Nat := 0; p < 36 ∧ powered s (portDomain p) = true ∧ (portS s p).quiet = 4) := by
  refine ⟨?_, ?_, ?_, ?_, ?_, ?_, ?_, ?_, ?_, ?_, ?_⟩ <;> (decide +kernel)

end Sys2Proof.Tests.Phase

namespace Sys2Proof.Tests.Ptp
open Sys2Proof Sys2Proof.Machine Sys2Proof.Tests

def fp : FrameIn := { dst := 1, src := 2, len := 64, toDevice := true, ptp := some { kind := .sync, domain := 0, corr := 5 }, body := List.replicate 61 7 }
def pm : PtpRx := { rise := 1000000, fall := 1200000, uis := 3, fr := fp }
def x_unres : PtpRx := {pm with resolved := false}
def x_dom : PtpRx := {pm with fr := { fp with ptp := some { kind := .sync, domain := 3, corr := 5 } }}
def x_fwd : PtpRx := {pm with fr := { fp with toDevice := false }}
def hh (s : State) (n : Nat) : State := { put s [(Reg.PTPG_PTP_MODE_HOST_HANDLED, 1)] with ports := { s.ports with port := List.replicate 36 { hostHandled := true }, ptpRx := List.replicate n ⟨1,8,5,[1,2]⟩ } }
def au (s : State) : State := put s [(Reg.PORT_PTP_XPORT_AUTH_EN 35, 1),(Reg.PORT_PTP_XPORT_KEY_ID 35, 5)]
def rq0 : BermReq := {port := 35}
def be (s : State) (q : List BermReq) (w : Option BermReq) : State := { put s [(Reg.PORT_TT_CTRL_BERM_EN 35,1),(Reg.PORT_TT_CTRL_BERM_EN 0,1),(Reg.PORT_PHY_STATUS_LINK_UP 35,1),(Reg.PORT_TT_STATUS_CDR_LOCK 35,1),(Reg.CMD_PTP_RX_DROP, 2^32-1)] with ports := { s.ports with bermQ := q, bermWin := w } }
def g35 (s : State) (f : PortS → PortS) : State := updPort s 35 f
def s_free : State := put free [(Reg.PORT_TT_CTRL_BERM_EN 0,0)]
def s_hh63 : State := hh free 63
def s_hh64 : State := hh (be free [] none) 64
def s_au : State := au free
def s_auk : State := {au (hh free 0) with sec := {keys := [(5,[1])]}}
def s_be : State := be free [] none
def s_beq : State := be free [rq0] none
def s_conf : State := be conf [rq0] none
def s_win : State := be free [] (some rq0)
def s_win2 : State := g35 (be free [] (some rq0)) (fun o => {o with tries := 2})
def fr0 : FrameIn := { dst := 0x02, src := 0x04, len := 64, ingTs := 5 }
def x_runt : FrameIn := {fr0 with len := 63}
def x_big : FrameIn := {fr0 with len := 9216}
def x_tag5 : FrameIn := {fr0 with tag := some (5,7), len := 68}
def x_tag4095 : FrameIn := {fr0 with tag := some (4095,7), len := 68}
def fu (s : State) : State := put s ((List.range 42).map (fun f => (Reg.FP_SW_STATUS_LINK_UP f, 1)) ++ [(Reg.FP_RX_FRAMES_HI 41, 2^32-1),(Reg.FP_RX_FRAMES_LO 41, 2^32-1)])
def vl (s : State) (l : List Vlan) (m : List MacEntry) : State := { s with fab := { s.fab with vlans := l, macs := m } }
def s_a : State := vl (fu free) [⟨1,3,3⟩, ⟨5, 2^41+1, 0⟩] []
def s_nolearn : State := put (vl (fu free) [⟨1, 2^42-1, 2^42-1⟩] [⟨1,2,2,true,0⟩]) [(Reg.FAB_CFG_LEARN_EN,0)]

def fl (s : State) : State := vl (put (fu s) [(Reg.CLK_FAB_PLL_LOCKED,1)]) [⟨1, 2^42-1, 2^42-1⟩] []
def x_v : Vlan := ⟨1, 2^42-1, 2^42-1⟩
def x_v3 : Vlan := ⟨1, 3, 3⟩
def x_huge : FrameIn := {fr0 with len := 98305}
def s_fwin : State := fu s_win
def s_thr : State := (let s := fu free; { s with fab := { s.fab with admitAt := 5 } })
def s_al : State := put s_a [(Reg.CLK_FAB_PLL_LOCKED,1)]
def s_nol : State := put s_nolearn [(Reg.CLK_FAB_PLL_LOCKED,1)]
def s_pb63 : State := fl s_hh63
def s_pb64 : State := fl s_hh64
def s_pbau : State := fl s_au
def s_pbk : State := fl s_auk
def s_pbg : State := fl s_be
def x_gap : PtpRx := { pm with gap := some (10^13), fr := { fp with ptp := some { kind := .delayReq, domain := 0, corr := 5 } } }
def s_due : State := put s_be [(Reg.PORT_BERM_CFG_PERIOD_S 35,1),(Reg.PORT_BERM_AGE 35,5)]

/-- The premises of the clauses of FramesReceived are met by states and operands. -/
theorem witness_FramesReceived :
    (let s : State := s_fwin; let f : Nat := 35; let fr : FrameIn := x_tag4095; f < 42 ∧ powered s Domain.fab = true ∧ fabUp s f = true ∧ s.fab.ingress = [] ∧ inWindow s f = true) ∧
    (let s : State := s_thr; let f : Nat := 41; let fr : FrameIn := x_tag4095; f < 42 ∧ powered s Domain.fab = true ∧ fabUp s f = true ∧ s.fab.ingress = [] ∧ inWindow s f = false ∧ throttled s = true ∧ s.now < s.fab.admitAt ∧ fr.len ≤ fifoBytes f) ∧
    (let s : State := s_thr; let f : Nat := 0; let fr : FrameIn := x_huge; f < 42 ∧ powered s Domain.fab = true ∧ fabUp s f = true ∧ s.fab.ingress = [] ∧ inWindow s f = false ∧ throttled s = true ∧ s.now < s.fab.admitAt ∧ fifoBytes f < fr.len) ∧
    (let s : State := s_pbg; let f : Nat := 41; let fr : FrameIn := x_runt; f < 42 ∧ Admits f s ∧ fr.len < 64) ∧
    (let s : State := s_pbg; let f : Nat := 41; let fr : FrameIn := x_tag4095; f < 42 ∧ Admits f s ∧ fr.fcsOk = true ∧ 64 ≤ fr.len ∧ fr.len ≤ 9216 ∧ (ingressVid s f fr = 4095 ∨ vlanOf s (ingressVid s f fr) = none ∨ ∃ v, vlanOf s (ingressVid s f fr) = some v ∧ bits v.member f 1 = 0)) ∧
    (let s : State := s_al; let f : Nat := 41; let fr : FrameIn := x_tag5; let v : Vlan := { vid := 5, member := 2 ^ 41 + 1, untag := 0 }; let g : Nat := 0; f < 42 ∧ Admits f s ∧ GoodFrame f fr v s ∧ fr.toDevice = false ∧ reservedDst fr.dst = false ∧ forwards s = true ∧ fr.ptp = none ∧ egressPorts s f (ingressVid s f fr) fr.dst v = [g] ∧ cutThrough s f g (trafficClass s f fr) (egressLen fr v g) = false ∧ fabUp s g = true ∧ getB s (Reg.FP_SW_STATUS_FLUSHING g) = false ∧ egressLen fr v g ≤ 9216 ∧ getB s (Reg.Q_Q_CFG_SPILLING (8 * g + trafficClass s f fr)) = false ∧ queueOcc s (8 * g + trafficClass s f fr) + cellsOf (egressLen fr v g) ≤ getF s (Reg.Q_Q_FB_HI (8 * g + trafficClass s f fr)) + 1 ∧ getF s Reg.FAB_POLDER_RSV + cellsOf (egressLen fr v g) ≤ polderFree s ∧ getB s Reg.FAB_CFG_LEARN_EN = true ∧ macFind s (ingressVid s f fr) fr.src = none ∧ bucketFree s (ingressVid s f fr) fr.src = true) ∧
    (let s : State := s_nol; let f : Nat := 41; let fr : FrameIn := x_big; let v : Vlan := x_v; let g : Nat := 1; f < 42 ∧ Admits f s ∧ GoodFrame f fr v s ∧ fr.toDevice = false ∧ reservedDst fr.dst = false ∧ forwards s = true ∧ fr.ptp = none ∧ egressPorts s f (ingressVid s f fr) fr.dst v = [g] ∧ cutThrough s f g (trafficClass s f fr) (egressLen fr v g) = false ∧ fabUp s g = true ∧ getB s (Reg.FP_SW_STATUS_FLUSHING g) = false ∧ egressLen fr v g ≤ 9216 ∧ getB s (Reg.Q_Q_CFG_SPILLING (8 * g + trafficClass s f fr)) = false ∧ queueOcc s (8 * g + trafficClass s f fr) + cellsOf (egressLen fr v g) ≤ getF s (Reg.Q_Q_FB_HI (8 * g + trafficClass s f fr)) + 1 ∧ getF s Reg.FAB_POLDER_RSV + cellsOf (egressLen fr v g) ≤ polderFree s ∧ getB s Reg.FAB_CFG_LEARN_EN = false) := by
  refine ⟨?_, ?_, ?_, ?_, ?_, ?_, ?_⟩
  · decide +kernel
  · decide +kernel
  · decide +kernel
  · simp only [Admits]; decide +kernel
  · simp only [Admits]; decide +kernel
  · simp only [Admits, GoodFrame]; decide +kernel
  · simp only [Admits, GoodFrame]; decide +kernel

/-- The premises of the clauses of PtpAndBerm are met by states and operands. -/
theorem witness_PtpAndBerm :
    (let s : State := s_beq; let p : Nat := 35; let m : PtpRx := x_dom; p < 36 ∧ powered s (portDomain p) = true ∧ (ptpHere p { m.fr with ingTs := if m.resolved = true then (ingressStamp s p m / 5).toNat else 0, resolved := m.resolved } (arriveAt s p) = none ∨ m.resolved = true ∧ m.gap = none)) ∧
    (let s : State := s_pb63; let p : Nat := 35; let m : PtpRx := x_unres; let v : Vlan := x_v; p < 36 ∧ powered s (portDomain p) = true ∧ Admits p s ∧ (GoodFrame p { m.fr with ingTs := if m.resolved = true then (ingressStamp s p m / 5).toNat else 0, resolved := m.resolved } v s) ∧ ((ptpHere p { m.fr with ingTs := if m.resolved = true then (ingressStamp s p m / 5).toNat else 0, resolved := m.resolved } (arriveAt s p)).isSome = true) ∧ getB s (Reg.PORT_PTP_XPORT_AUTH_EN p) = false ∧ m.gap = none ∧ m.fr.toDevice = true ∧ hostAt s p = true ∧ s.ports.ptpRx.length < 64 ∧ m.resolved = false) ∧
    (let s : State := s_pb64; let p : Nat := 35; let m : PtpRx := x_unres; let v : Vlan := x_v; p < 36 ∧ powered s (portDomain p) = true ∧ Admits p s ∧ (GoodFrame p { m.fr with ingTs := if m.resolved = true then (ingressStamp s p m / 5).toNat else 0, resolved := m.resolved } v s) ∧ ((ptpHere p { m.fr with ingTs := if m.resolved = true then (ingressStamp s p m / 5).toNat else 0, resolved := m.resolved } (arriveAt s p)).isSome = true) ∧ getB s (Reg.PORT_PTP_XPORT_AUTH_EN p) = false ∧ m.gap = none ∧ m.fr.toDevice = true ∧ hostAt s p = true ∧ 64 ≤ s.ports.ptpRx.length) ∧
    (let s : State := s_pbau; let p : Nat := 35; let m : PtpRx := x_unres; let v : Vlan := x_v; p < 36 ∧ powered s (portDomain p) = true ∧ Admits p s ∧ (GoodFrame p { m.fr with ingTs := if m.resolved = true then (ingressStamp s p m / 5).toNat else 0, resolved := m.resolved } v s) ∧ ((ptpHere p { m.fr with ingTs := if m.resolved = true then (ingressStamp s p m / 5).toNat else 0, resolved := m.resolved } (arriveAt s p)).isSome = true) ∧ getB s (Reg.PORT_PTP_XPORT_AUTH_EN p) = true ∧ m.gap = none ∧ keyUsable s (getF s (Reg.PORT_PTP_XPORT_KEY_ID p)) = false) ∧
    (let s : State := s_pbk; let p : Nat := 35; let m : PtpRx := x_unres; let v : Vlan := x_v; p < 36 ∧ powered s (portDomain p) = true ∧ Admits p s ∧ (GoodFrame p { m.fr with ingTs := if m.resolved = true then (ingressStamp s p m / 5).toNat else 0, resolved := m.resolved } v s) ∧ ((ptpHere p { m.fr with ingTs := if m.resolved = true then (ingressStamp s p m / 5).toNat else 0, resolved := m.resolved } (arriveAt s p)).isSome = true) ∧ getB s (Reg.PORT_PTP_XPORT_AUTH_EN p) = true ∧ m.gap = none ∧ keyUsable s (getF s (Reg.PORT_PTP_XPORT_KEY_ID p)) = true ∧ (tlvVerifies s p { m.fr with ingTs := if m.resolved = true then (ingressStamp s p m / 5).toNat else 0, resolved := m.resolved } = false)) ∧
    (let s : State := s_pbg; let p : Nat := 35; let m : PtpRx := x_gap; let w : Nat := 10000000000000; let h : PtpHdr := { kind := Sys2Proof.PtpKind.delayReq, domain := 0, corr := 5, transport := 0, source := 0, seq := 0, twoStep := false }; let v : Vlan := x_v; p < 36 ∧ powered s (portDomain p) = true ∧ m.gap = some w ∧ (ptpHere p { m.fr with ingTs := if m.resolved = true then (ingressStamp s p m / 5).toNat else 0, resolved := m.resolved } (arriveAt s p) = some h) ∧ (h.kind = PtpKind.delayReq ∨ h.kind = PtpKind.pdelayReq) ∧ getB s (Reg.PORT_PTP_XPORT_AUTH_EN p) = false ∧ ptpOn s p = true ∧ m.fr.toDevice = true ∧ todVis s + 10 ^ 7 * 65536 ≤ w ∧ Admits p s ∧ (GoodFrame p { m.fr with ingTs := if m.resolved = true then (ingressStamp s p m / 5).toNat else 0, resolved := m.resolved } v s)) ∧
    (let s : State := s_due; let p : Nat := 35; let g : BermTrig := .period; p < 36 ∧ powered s (portDomain p) = true ∧ getB s (Reg.PORT_TT_CTRL_BERM_EN p) = true ∧ (s.ports.bermQ.any fun r => decide (r.port = p)) = false ∧ s.ports.bermWin = none ∧ bermDue s p g = true) ∧
    (let s : State := s_beq; let p : Nat := 35; let g : BermTrig := .period; p < 36 ∧ (getB s (Reg.PORT_TT_CTRL_BERM_EN p) = false ∨ bermDue s p g = false)) ∧
    (let s : State := s_beq; let p : Nat := 35; let w : Nat := 1000; let b : Bool := 1000; p < 36 ∧ (s.ports.bermQ.any fun r => decide (r.port = p)) = true ∧ txOn s = true ∧ getB s (Reg.PORT_PHY_STATUS_LINK_UP p) = true) ∧
    (let s : State := s_conf; let r : BermReq := { port := 35, lossy := false, cal := false }; let p : Nat := 35; p < 36 ∧ bermNext s = some r ∧ r.port = p ∧ s.ports.bermWin = none ∧ gapAhead s p = none) ∧
    (let s : State := s_beq; let p : Nat := 35; p < 36 ∧ (bermNext s = none ∨ s.ports.bermWin.isSome = true)) ∧
    (let s : State := s_win2; let r : BermReq := { port := 35, lossy := false, cal := false }; let p : Nat := 35; let txA : Nat := 1000; let loopA : Nat := 1000; let txB : Nat := 1000; let loopB : Nat := 1000; let temp : Int := 1000; p < 36 ∧ s.ports.bermWin = some r ∧ r.port = p ∧ r.cal = false ∧ phaseAgree txA txB = true ∧ phaseAgree loopA loopB = true) ∧
    (let s : State := s_win; let r : BermReq := { port := 35, lossy := false, cal := false }; let p : Nat := 35; let txA : Nat := 1000; let loopA : Nat := 1000; let txB : Nat := 1000; let loopB : Nat := 35; let temp : Int := 1000; p < 36 ∧ s.ports.bermWin = some r ∧ r.port = p ∧ r.cal = false ∧ (phaseAgree txA txB && phaseAgree loopA loopB) = false ∧ (portS s p).tries < 2) ∧
    (let s : State := s_win2; let r : BermReq := { port := 35, lossy := false, cal := false }; let p : Nat := 35; let txA : Nat := 1000; let loopA : Nat := 1000; let txB : Nat := 1000; let loopB : Nat := 35; let temp : Int := 1000; p < 36 ∧ s.ports.bermWin = some r ∧ r.port = p ∧ r.cal = false ∧ (phaseAgree txA txB && phaseAgree loopA loopB) = false ∧ 2 ≤ (portS s p).tries) := by
  refine ⟨?_, ?_, ?_, ?_, ?_, ?_, ?_, ?_, ?_, ?_, ?_, ?_, ?_, ?_⟩
  · decide +kernel
  · simp only [Admits, GoodFrame]; decide +kernel
  · simp only [Admits, GoodFrame]; decide +kernel
  · simp only [Admits, GoodFrame]; decide +kernel
  · simp only [Admits, GoodFrame]; decide +kernel
  · simp only [Admits, GoodFrame]; decide +kernel
  · decide +kernel
  · decide +kernel
  · decide +kernel
  · decide +kernel
  · decide +kernel
  · decide +kernel
  · decide +kernel
  · decide +kernel

end Sys2Proof.Tests.Ptp

namespace Sys2Proof.Tests.Switch
open Sys2Proof Sys2Proof.Machine Sys2Proof.Tests

def fu (s : State) : State := put s ((List.range 42).map (fun f => (Reg.FP_SW_STATUS_LINK_UP f, 1)) ++ [(Reg.CLK_HBM_PLL_LOCKED,1),(Reg.CLK_FAB_PLL_LOCKED,1)])
def qf (q : Nat) : QFrame := { q := q, len := 100, src := 3, pol := 1 }
def fs (s : State) (l : List QFrame) : State := { s with fab := { s.fab with frames := l } }
def s_w : State := put (fs (fu free) [qf 0, qf 2, {qf 2 with len := 1500}]) [(Reg.Q_Q_CFG_STRICT 0,0),(Reg.Q_Q_CFG_STRICT 2,0),(Reg.Q_Q_CFG_WEIGHT 2,3)]
def s_j : State := updLink (put (fs (fu free) [qf 335]) ([(Reg.LINK_LINK_STATUS_STATE 5,5),(Reg.Q_Q_CFG_STRICT 335,1)])) 5 (fun l => {l with credit := 1000})
def s_spl : State := fs (fu free) [{qf 335 with spl := 3}]
def sf (q a b c d : Nat) : QFrame := { q := q, len := 5000, src := 3, pol := a, stg := b, spl := c, pre := d }
def s_p : State := put (fs free [sf 335 0 10 200 5]) [(Reg.CLK_HBM_PLL_LOCKED,0)]
def s_mac : State := { fu free with fab := { free.fab with macs := [⟨5,9,1,true,0⟩,⟨5,10,1,false,0⟩,⟨6,10,1,false,0⟩] } }
def gl (b : Nat) : GateList := ⟨b, 1000, 0, [(0xFF, 300),(0x01,400)]⟩
def gs (g : GateS) : State := updGate (updGate (fu { free with tim := { free.tim with tod := 10^6*2^56 } }) 0 (fun _ => g)) 35 (fun _ => g)
def sx (f r : Nat) : SFrame := { f := f, len := 68, src := 1, ingTs := 5, release := r }
def ss (s : State) : State := { s with fab := { s.fab with sluice := [sx 35 (2*10^6*65536), sx 35 (10^6*65536+70), sx 41 (10^6*65536+7)] } }
def s_none : State := gs {}
def s_adm : State := gs {admin := some (gl 0), start := 1000500}
def s_sl : State := ss (gs {})
def s_gap : State := updPort (ss (gs {})) 35 (fun o => {o with gapOk := some (10^6*65536)})
def s_key : State := put (ss (gs {})) [(Reg.PORT_PTP_XPORT_AUTH_EN 35,1)]
def s_free : State := put free ([(Reg.PORT_PHY_CFG_EN 35,1),(Reg.PORT_PHY_CFG_EN 0,1)])
def s_up : State := { ss (gs {}) with fab := {(ss (gs {})).fab with frames := [qf 0, qf 280, qf 335, qf 280] } } |> (fun s => put s [(Reg.PORT_PHY_STATUS_LINK_UP 35,1),(Reg.PORT_PHY_CFG_EN 35,1),(Reg.FP_SW_STATUS_FLUSHING 41,1)])
def s_sq : State := put free [(Reg.PORT_PHY_CFG_EN 35,1),(Reg.PORT_PHY_CFG_TX_SQUELCH 35,1)]

def s_sconf : State := { s_sl with mode := .config }
def s_gapw : State := updPort (ss (gs {})) 35 (fun o => {o with gapW := some (10^6*65536)})
def s_late : State := (let s := ss (gs {}); { s with tim := { s.tim with tod := (10^6 + 3) * 2^56 } })
def s_dfr : State := (let s := put (gs {}) [(Reg.PORT_TT_CTRL_ONE_STEP 35, 0)]; { s with fab := { s.fab with sluice := [{ sx 35 (10^6*65536+70) with hdr := { kind := .sync, domain := 0, corr := 5, twoStep := true } }] } })
def s_strict : State := put (fs (fu free) [qf 280, qf 287]) [(Reg.Q_Q_CFG_STRICT 280,1),(Reg.Q_Q_CFG_STRICT 287,1)]
def s_rest : State := (let s := fu free; { s with fab := { s.fab with egress := List.replicate 42 { rest := some ⟨{ qf 280 with len := 500 }, 64, 64⟩ } } })

/-- The premises of the clauses of PortsUpAndDown are met by states and operands. -/
theorem witness_PortsUpAndDown :
    (let s : State := s_key; let p : Nat := 35; let b : Bool := 41; let sk : Int := 41; let ph : Nat := 41; p < 36 ∧ powered s (portDomain p) = true ∧ phyEnabled s p = true ∧ getB s (Reg.PORT_PHY_STATUS_LINK_UP p) = false ∧ 32 ≤ p) ∧
    (let s : State := s_sq; let p : Nat := 35; let b : Bool := 41; let sk : Int := 41; let ph : Nat := 41; p < 36 ∧ (phyEnabled s p = false ∨ getB s (Reg.PORT_PHY_STATUS_LINK_UP p) = true)) ∧
    (let s : State := s_up; let p : Nat := 35; let b : Bool := 41; p < 36 ∧ getB s (Reg.PORT_PHY_STATUS_LINK_UP p) = true ∧ fabUp s p = true) ∧
    (let s : State := s_key; let f : Nat := 41; let b : Bool := 41; 36 ≤ f ∧ f < 42 ∧ fabUp s f = true) ∧
    (let s : State := s_up; let f : Nat := 41; f < 42 ∧ getB s (Reg.FP_SW_STATUS_FLUSHING f) = true) ∧
    (let s : State := s_key; let f : Nat := 41; f < 42 ∧ getB s (Reg.FP_SW_STATUS_FLUSHING f) = false) := by
  refine ⟨?_, ?_, ?_, ?_, ?_, ?_⟩ <;> (decide +kernel)

/-- The premises of the clauses of SpillwayAndAging are met by states and operands. -/
theorem witness_SpillwayAndAging :
    (let s : State := s_key; let q : Nat := 10; q < 336 ∧ powered s Domain.hbm = true ∧ spillPaused s = false ∧ spillUsed s + sumNat (List.map (fun x => x.stg) (queueOf s q)) ≤ spillCells) ∧
    (let s : State := s_p; let q : Nat := 10; q < 336 ∧ spillPaused s = true) := by
  refine ⟨?_, ?_⟩ <;> (decide +kernel)

/-- The premises of the clauses of GatesAndSluice are met by states and operands. -/
theorem witness_GatesAndSluice :
    (let s : State := s_adm; let f : Nat := 35; let a : GateList := { base := 0, cycle := 1000, ext := 0, entries := [(255, 300), (1, 400)] }; f < 36 ∧ powered s Domain.fab = true ∧ (gateS s f).admin = some a) ∧
    (let s : State := s_key; let f : Nat := 35; f < 36 ∧ powered s Domain.fab = true ∧ (gateS s f).admin = none) ∧
    (let s : State := s_key; let f : Nat := 35; f < 36 ∧ powered s Domain.fab = true ∧ (∀ b ∈ gateBounds s f, aheadNs b (todWholeNs s) ≤ 0)) ∧
    (let s : State := s_key; let f : Nat := 0; let c : EgressCap := {}; f < 42 ∧ powered s Domain.fab = true ∧ txOn s = true ∧ sluiceFirst s f = none) ∧
    (let s : State := s_sconf; let f : Nat := 35; let x : SFrame := { f := 35, len := 68, src := 1, ingTs := 5, release := 65536000070, resolved := true, hdr := { kind := Sys2Proof.PtpKind.sync, domain := 0, corr := 0, transport := 0, source := 0, seq := 0, twoStep := false }, add := 0, tc := 0, body := [], origin := none }; let c : EgressCap := {}; f < 42 ∧ powered s Domain.fab = true ∧ txOn s = true ∧ sluiceFirst s f = some x ∧ x.own = false ∧ forwards s = false) ∧
    (let s : State := s_gapw; let f : Nat := 35; let x : SFrame := { f := 35, len := 68, src := 1, ingTs := 5, release := 65536000070, resolved := true, hdr := { kind := Sys2Proof.PtpKind.sync, domain := 0, corr := 0, transport := 0, source := 0, seq := 0, twoStep := false }, add := 0, tc := 0, body := [], origin := none }; let c : EgressCap := {}; f < 42 ∧ powered s Domain.fab = true ∧ txOn s = true ∧ sluiceFirst s f = some x ∧ (x.own = true ∨ forwards s = true) ∧ inGap (runTo s (x.release * 2 ^ 40)) f = true) ∧
    (let s : State := s_key; let f : Nat := 35; let x : SFrame := { f := 35, len := 68, src := 1, ingTs := 5, release := 65536000070, resolved := true, hdr := { kind := Sys2Proof.PtpKind.sync, domain := 0, corr := 0, transport := 0, source := 0, seq := 0, twoStep := false }, add := 0, tc := 0, body := [], origin := none }; let c : EgressCap := {}; f < 42 ∧ powered s Domain.fab = true ∧ txOn s = true ∧ sluiceFirst s f = some x ∧ (x.own = true ∨ forwards s = true) ∧ inGap (runTo s (x.release * 2 ^ 40)) f = false ∧ authMissing s f = true) ∧
    (let s : State := s_late; let f : Nat := 35; let x : SFrame := { f := 35, len := 68, src := 1, ingTs := 5, release := 65536000070, resolved := true, hdr := { kind := Sys2Proof.PtpKind.sync, domain := 0, corr := 0, transport := 0, source := 0, seq := 0, twoStep := false }, add := 0, tc := 0, body := [], origin := none }; let c : EgressCap := {}; f < 42 ∧ powered s Domain.fab = true ∧ txOn s = true ∧ sluiceFirst s f = some x ∧ (x.own = true ∨ forwards s = true) ∧ inGap (runTo s (x.release * 2 ^ 40)) f = false ∧ authMissing s f = false ∧ x.own = false ∧ x.release + 104858 ≤ todVis s) ∧
    (let s : State := s_key; let f : Nat := 41; let x : SFrame := { f := 41, len := 68, src := 1, ingTs := 5, release := 65536000007, resolved := true, hdr := { kind := Sys2Proof.PtpKind.sync, domain := 0, corr := 0, transport := 0, source := 0, seq := 0, twoStep := false }, add := 0, tc := 0, body := [], origin := none }; let c : EgressCap := {}; f < 42 ∧ powered s Domain.fab = true ∧ txOn s = true ∧ sluiceFirst s f = some x ∧ (x.own = true ∨ forwards s = true) ∧ inGap (runTo s (x.release * 2 ^ 40)) f = false ∧ authMissing s f = false ∧ (egS s f).freeAt ≤ preamblePs (runTo s (x.release * 2 ^ 40)) f ∧ x.own = false ∧ defers s f x = false) ∧
    (let s : State := s_dfr; let f : Nat := 35; let x : SFrame := { f := 35, len := 68, src := 1, ingTs := 5, release := 65536000070, resolved := true, hdr := { kind := Sys2Proof.PtpKind.sync, domain := 0, corr := 5, transport := 0, source := 0, seq := 0, twoStep := true }, add := 0, tc := 0, body := [], origin := none }; let c : EgressCap := {}; f < 42 ∧ powered s Domain.fab = true ∧ txOn s = true ∧ sluiceFirst s f = some x ∧ (x.own = true ∨ forwards s = true) ∧ inGap (runTo s (x.release * 2 ^ 40)) f = false ∧ authMissing s f = false ∧ (egS s f).freeAt ≤ preamblePs (runTo s (x.release * 2 ^ 40)) f ∧ x.own = false ∧ defers s f x = true) := by
  refine ⟨?_, ?_, ?_, ?_, ?_, ?_, ?_, ?_, ?_, ?_⟩ <;> (decide +kernel)

/-- The premises of the clauses of FramesSent are met by states and operands. -/
theorem witness_FramesSent :
    (let s : State := s_strict; let f : Nat := 35; let c : EgressCap := {}; let tc : Nat := 7; let h : QFrame := { q := 287, len := 100, src := 3, ingTs := 0, pol := 1, stg := 0, spl := 0, pre := 0, origin := none, ptp := none, resolved := true, body := [] }; f < 42 ∧ powered s Domain.fab = true ∧ forwards s = true ∧ fabUp s f = true ∧ getB s (Reg.FP_SW_STATUS_FLUSHING f) = false ∧ (egS s f).freeAt ≤ nowPs s ∧ s.fab.ingress = [] ∧ inGap s f = false ∧ tc < 8 ∧ getB s (Reg.Q_Q_CFG_STRICT (8 * f + tc)) = true ∧ servable s f tc = true ∧ headOf s (8 * f + tc) = some h ∧ (∀ k < 8, tc < k → getB s (Reg.Q_Q_CFG_STRICT (8 * f + k)) = false ∨ servable s f k = false)) ∧
    (let s : State := s_strict; let f : Nat := 35; let c : EgressCap := {}; let tc : Nat := 7; let h : QFrame := { q := 287, len := 100, src := 3, ingTs := 0, pol := 1, stg := 0, spl := 0, pre := 0, origin := none, ptp := none, resolved := true, body := [] }; let d : List (Nat × Nat) := []; let cur : Nat := 0; f < 42 ∧ powered s Domain.fab = true ∧ forwards s = true ∧ fabUp s f = true ∧ getB s (Reg.FP_SW_STATUS_FLUSHING f) = false ∧ (egS s f).freeAt ≤ nowPs s ∧ s.fab.ingress = [] ∧ inGap s f = false ∧ pickClass s f = some (tc, d, cur) ∧ headOf s (8 * f + tc) = some h ∧ mayStart s (8 * f + tc) h.len 0 = some (h.len, true) ∧ h.ptp = none) ∧
    (let s : State := s_rest; let f : Nat := 2; let r : TxPart := { fr := { q := 280, len := 500, src := 3, ingTs := 0, pol := 1, stg := 0, spl := 0, pre := 0, origin := none, ptp := none, resolved := true, body := [] }, sent := 64, upto := 64 }; let c : EgressCap := {}; f < 42 ∧ powered s Domain.fab = true ∧ forwards s = true ∧ fabUp s f = true ∧ getB s (Reg.FP_SW_STATUS_FLUSHING f) = false ∧ (egS s f).freeAt ≤ nowPs s ∧ s.fab.ingress = [] ∧ inGap s f = false ∧ pickClass s f = none ∧ (egS s f).rest = some r ∧ gateOpen s f (r.fr.q % 8) = true ∧ mayStart s r.fr.q r.fr.len r.sent = some (r.fr.len, true) ∧ r.sent ≠ 0) ∧
    (let s : State := s_key; let f : Nat := 2; let c : EgressCap := {}; f < 42 ∧ powered s Domain.fab = true ∧ forwards s = true ∧ fabUp s f = true ∧ getB s (Reg.FP_SW_STATUS_FLUSHING f) = false ∧ (egS s f).freeAt ≤ nowPs s ∧ s.fab.ingress = [] ∧ inGap s f = false ∧ pickClass s f = none ∧ (egS s f).rest = none) := by
  refine ⟨?_, ?_, ?_, ?_⟩ <;> (decide +kernel)

end Sys2Proof.Tests.Switch

namespace Sys2Proof.Tests.Links
open Sys2Proof Sys2Proof.Machine Sys2Proof.Tests

def lks (s : State) (j : BitVec 2) (p : Bool) (n role st : Nat) (f : LinkS → LinkS) : State :=
  put { s with straps := { jrole := j, pairEn := p }, jieth := { s.jieth with link := List.replicate 6 (f { holds := true }) } } [(Reg.LINK_LINK_CFG_ROLE n, role), (Reg.LINK_LINK_STATUS_STATE n, st)]
def s_held : State := lks free 2 false 5 2 3 (fun l => {l with helloHeld := true})
def s_t2 : State := lks free 2 false 5 2 4 (fun l => {l with tries := 2})
def s_deep : State := put (lks free 1 false 5 2 3 id) [(Reg.JG_GLOBAL_DEPTH,4)]
def x_w : HelloIn := {role := 1, depth := 0, epoch := 0}
def x_m : HelloIn := {role := 2, depth := 2, epoch := 0, addr := 0x1000, regAck := true}
def x_mr : HelloIn := {role := 2, depth := 0, epoch := 0, regRefused := true}
def x_mi : HelloIn := {role := 3, depth := 4, epoch := 65535, serial := 9}
def x_b : LoopMeas := {loop := 100010, theta := 5}
def x_c : LoopMeas := {loop := 101000, theta := 6, own := 7}
def mk : MarkerIn := { n1 := 1024, c1 := ~~~1024, n2 := 1024, c2 := ~~~1024, tod := 500, freq := 77 }
def tr (m : Nat) : TimingRec := { marker := m, sec := 0, ns := 5, frac := 6, epoch := 3, active := true, upLost := false }
def x_bad : MarkerIn := {mk with c2 := 0}
def x_oop : MarkerIn := {mk with inPlace := false}
def s_up : State := { lks free 1 false 5 1 5 (fun l => {l with tf := some (tr 1024)}) with clk := { started := true, rootFwd := some 5 } }
def s_mir : State := put (lks free 2 true 5 3 5 (fun l => {l with marker := some 5000})) [(Reg.PAIR_PAIR_STATUS_ROLE_IN,2)]
def s_mir2 : State := put (lks (live .locked) 2 true 5 3 5 id) [(Reg.PAIR_PAIR_STATUS_ROLE_IN,2)]
def s_stale : State := {(put (lks free 1 false 5 1 5 (fun l => {l with tf := some (tr 1024)})) [(Reg.LINK_RT_HI 5, 0)]) with cal := {free.cal with run := [{item := .jiethDelay 5}]}}
def s_sb : State := lks (live .standby) 2 true 5 3 5 (fun l => {l with tf := some (tr 1024)})
def s_tr : State := lks free 2 false 5 2 3 id
def s_up2 : State := lks free 2 false 5 2 5 (fun l => {l with replay := [(3,0,64),(4,0,64),(5,1,64)], seqRx := 4095})
def s_dg : State := put (lks free 2 false 5 2 6 (fun l => {l with peerPairs := 3, rxPairs := 1})) [(Reg.LINK_JPHY_LANE_LOST 5 3, 1)]
def s_dg2 : State := put (lks free 2 false 5 2 5 (fun l => {l with peerPairs := 2, rxPairs := 0})) [(Reg.LINK_JPHY_LANE_LOST 5 3, 1), (Reg.LINK_JPHY_LANE_LOST 5 0, 1),(Reg.LINK_JPHY_LANE_LOST 5 1, 1)]
def s_dg3 : State := lks free 2 false 5 2 6 (fun l => {l with peerPairs := 2, rxPairs := 3})
def jbody : List Byte := List.replicate 64 5
def jdesc (cls seq : Nat) : Word := BitVec.ofNat 32 (cls * 2 ^ 30 + seq * 2 ^ 18 + 64 * 16)
def jf (cls seq : Nat) : JFrameIn :=
  { hdrs := (frameTypes 64).map (fun t => BitVec.ofNat 8 (headerOf t)), desc := jdesc cls seq, body := jbody, crc := frameCrc (jdesc cls seq) jbody }
def x_next : JFrameIn := jf 0 0
def x_c1 : JFrameIn := jf 1 0
def x_oos : JFrameIn := jf 0 7
def x_crc : JFrameIn := { jf 0 0 with crc := 0 }
def x_f4 : FlowIn := {ackSeq := 4, nak := true, pair0 := true, pair1 := false, credit := 77}
def x_f9 : FlowIn := {ackSeq := 9, nak := true, pair0 := true, pair1 := false, credit := 77}
def s_dn1 : State := lks free 1 false 5 2 3 id

def x_ra : List (BitVec 12 × Nat × Nat) := [(3,0,64)]
def x_rb : List (BitVec 12 × Nat × Nat) := [(5,1,64)]
def x_re : BitVec 12 × Nat × Nat := (4,0,64)
def trw (m a : Word) : List Word := [m, 0, 0, 0, a, 0, 0, 0, 0, 0, 0] ++ [crcWords [m, 0, 0, 0, a, 0, 0, 0, 0, 0, 0]]
def x_badhdr : MarkerIn := {mk with hdr := 0}
def x_t4096 : (List Word) := trw 4096 0x20000
def x_t6000 : (List Word) := trw 6000 0x20000
def x_t1 : (List Word) := trw 1 0
def s_loop : State := { lks free 1 false 5 1 5 (fun l => {l with loopPend := some (5, 6, 7, 0)}) with now := 1 }
def s_tfn : State := lks free 1 false 5 1 5 (fun l => {l with tfNext := some (tr 1024)})
def s_tfn2 : State := lks free 1 false 5 1 5 (fun l => {l with tfNext := some (tr 4096)})
def s_mk1 : State := lks free 1 false 5 1 5 (fun l => {l with marker := some 5000})
def s_tr2 : State := lks free 2 false 5 2 2 id
def x_lanes : (List Nat) := [0, 1, 2, 3]

/-- The premises of the clauses of LinkFlow are met by states and operands. -/
theorem witness_LinkFlow :
    (let b : Nat := 3; b < 4) ∧
    (let q : Nat := 3; let l : List Nat := []; q < 4 ∧ (∀ g ∈ l, g < 4)) ∧
    (let s : State := s_dg; let n : Nat := 5; let f : JFrameIn := x_crc; n < 6 ∧ linkCarries s n = true ∧ (¬frameIntact (rxPairsOf s n) f = true)) ∧
    (let s : State := s_dg; let n : Nat := 5; let f : JFrameIn := x_c1; n < 6 ∧ linkCarries s n = true ∧ frameIntact (rxPairsOf s n) f = true ∧ BitVec.ofNat 12 (descSeq f.desc) = (linkS s n).seqRx + 1 ∧ descClass f.desc ≠ 0 ∧ descClass f.desc ≠ 2) ∧
    (let s : State := s_dg; let n : Nat := 5; let f : JFrameIn := x_oos; n < 6 ∧ linkCarries s n = true ∧ frameIntact (rxPairsOf s n) f = true ∧ (¬BitVec.ofNat 12 (descSeq f.desc) = (linkS s n).seqRx + 1)) ∧
    (let s : State := s_up2; let n : Nat := 5; let f : FlowIn := x_f4; let a : List (BitVec 12 × Nat × Nat) := x_ra; let e : BitVec 12 × Nat × Nat := x_re; let b : List (BitVec 12 × Nat × Nat) := x_rb; n < 6 ∧ linkCarries s n = true ∧ (linkS s n).replay = a ++ e :: b ∧ (∀ x ∈ a, x.1 ≠ e.1) ∧ e.1 = BitVec.ofNat 12 f.ackSeq) ∧
    (let s : State := s_dg; let n : Nat := 5; let f : FlowIn := x_f4; n < 6 ∧ linkCarries s n = true ∧ (∀ x ∈ (linkS s n).replay, x.1 ≠ BitVec.ofNat 12 f.ackSeq)) ∧
    (let s : State := s_dg; let n : Nat := 5; let k : Nat := 0; n < 6 ∧ linkCarries s n = true ∧ k < 4 ∧ getB s (Reg.LINK_JPHY_LANE_LOST n k) = false ∧ (linkS s n).rxPairs &&& ~~~laneBit k = 0) ∧
    (let s : State := s_dg; let n : Nat := 5; let k : Nat := 2; n < 6 ∧ linkCarries s n = true ∧ k < 4 ∧ getB s (Reg.LINK_JPHY_LANE_LOST n k) = false ∧ (linkS s n).rxPairs &&& ~~~laneBit k ≠ 0) ∧
    (let s : State := s_dg; let n : Nat := 5; let k : Nat := 3; n < 6 ∧ linkCarries s n = true ∧ k < 4 ∧ getB s (Reg.LINK_JPHY_LANE_LOST n k) = true ∧ (∀ j < 4, j ≠ k → j / 2 = k / 2 → getB s (Reg.LINK_JPHY_LANE_LOST n j) = false)) ∧
    (let s : State := s_dg2; let n : Nat := 5; let k : Nat := 3; n < 6 ∧ linkCarries s n = true ∧ k < 4 ∧ getB s (Reg.LINK_JPHY_LANE_LOST n k) = true ∧ (linkS s n).peerPairs ≠ 3) ∧
    (let s : State := s_sb; let n : Nat := 5; n < 6 ∧ linkCarries s n = true ∧ (linkS s n).peerPairs = 3 ∧ (linkS s n).rxPairs = 3) ∧
    (let s : State := s_dg2; let n : Nat := 5; n < 6 ∧ linkCarries s n = true ∧ ((linkS s n).peerPairs ≠ 3 ∨ (linkS s n).rxPairs ≠ 3) ∧ linkState s n = 5) ∧
    (let s : State := s_dg; let n : Nat := 5; n < 6 ∧ linkCarries s n = true ∧ ((linkS s n).peerPairs ≠ 3 ∨ (linkS s n).rxPairs ≠ 3) ∧ linkState s n = 6) := by
  refine ⟨?_, ?_, ?_, ?_, ?_, ?_, ?_, ?_, ?_, ?_, ?_, ?_, ?_, ?_⟩ <;> (decide +kernel)

/-- The premises of the clauses of LinkTiming are met by states and operands. -/
theorem witness_LinkTiming :
    (let s : State := s_up; let n : Nat := 5; let m : MarkerIn := mk; n < 6 ∧ linkCarries s n = true ∧ blockType (rxPairsOf s n) (BitVec.toNat m.hdr) = some 4 ∧ markerIntact m = true ∧ m.inPlace = true ∧ (linkS s n).loopPend = none ∧ (linkS s n).tfNext = none ∧ s.mode ≠ Mode.standby ∧ s.clk.rootFwd = some n) ∧
    (let s : State := s_dg; let n : Nat := 5; let m : MarkerIn := mk; n < 6 ∧ linkCarries s n = true ∧ blockType (rxPairsOf s n) (BitVec.toNat m.hdr) = some 4 ∧ markerIntact m = true ∧ m.inPlace = true ∧ (linkS s n).loopPend = none ∧ (linkS s n).tfNext = none ∧ s.mode ≠ Mode.standby ∧ s.clk.rootFwd ≠ some n) ∧
    (let s : State := s_stale; let n : Nat := 5; let m : MarkerIn := mk; n < 6 ∧ linkCarries s n = true ∧ blockType (rxPairsOf s n) (BitVec.toNat m.hdr) = some 4 ∧ markerIntact m = true ∧ m.inPlace = true ∧ (linkS s n).loopPend = none ∧ (linkS s n).tfNext = none ∧ s.mode ≠ Mode.standby ∧ dlyStale s n = true) ∧
    (let s : State := s_sb; let n : Nat := 5; let r : TimingRec := { marker := 1024, sec := 0, ns := 5, frac := 6, epoch := 3, active := true, upLost := false, dataset := { gmId := 0, clockClass := 248, clockAccuracy := 254, variance := 0, priority1 := 128, priority2 := 128, steps := 0, timeSource := 0, timeTraceable := false, freqTraceable := false } }; let m : MarkerIn := mk; n < 6 ∧ linkCarries s n = true ∧ blockType (rxPairsOf s n) (BitVec.toNat m.hdr) = some 4 ∧ markerIntact m = true ∧ m.inPlace = true ∧ (linkS s n).loopPend = none ∧ (linkS s n).tfNext = none ∧ s.mode = Mode.standby ∧ mirrorLink s = some n ∧ (linkS s n).tf = some r ∧ dlyStale s n = false) ∧
    (let s : State := s_loop; let n : Nat := 5; let m : MarkerIn := mk; let rt : Int := 5; let dw : Int := 6; let th : Nat := 7; n < 6 ∧ linkCarries s n = true ∧ blockType (rxPairsOf s n) (BitVec.toNat m.hdr) = some 4 ∧ markerIntact m = true ∧ m.inPlace = true ∧ loopDue s n = some (rt, dw, th)) ∧
    (let s : State := s_tfn; let n : Nat := 5; let r : TimingRec := { marker := 1024, sec := 0, ns := 5, frac := 6, epoch := 3, active := true, upLost := false, dataset := { gmId := 0, clockClass := 248, clockAccuracy := 254, variance := 0, priority1 := 128, priority2 := 128, steps := 0, timeSource := 0, timeTraceable := false, freqTraceable := false } }; let m : MarkerIn := mk; n < 6 ∧ linkCarries s n = true ∧ blockType (rxPairsOf s n) (BitVec.toNat m.hdr) = some 4 ∧ markerIntact m = true ∧ m.inPlace = true ∧ (linkS s n).tfNext = some r ∧ 0 ≤ markerDiff (BitVec.toNat m.n1) r.marker) ∧
    (let s : State := s_tfn2; let n : Nat := 5; let r : TimingRec := { marker := 4096, sec := 0, ns := 5, frac := 6, epoch := 3, active := true, upLost := false, dataset := { gmId := 0, clockClass := 248, clockAccuracy := 254, variance := 0, priority1 := 128, priority2 := 128, steps := 0, timeSource := 0, timeTraceable := false, freqTraceable := false } }; let m : MarkerIn := mk; n < 6 ∧ linkCarries s n = true ∧ blockType (rxPairsOf s n) (BitVec.toNat m.hdr) = some 4 ∧ markerIntact m = true ∧ m.inPlace = true ∧ (linkS s n).tfNext = some r ∧ markerDiff (BitVec.toNat m.n1) r.marker < 0) ∧
    (let s : State := s_dg; let n : Nat := 5; let m : MarkerIn := x_badhdr; n < 6 ∧ 2 ≤ linkState s n ∧ linkState s n ≤ 6 ∧ blockType (rxPairsOf s n) (BitVec.toNat m.hdr) = none) ∧
    (let s : State := s_dg; let n : Nat := 5; let m : MarkerIn := x_bad; n < 6 ∧ (¬(2 ≤ linkState s n ∧ linkState s n ≤ 6) ∨ blockType (rxPairsOf s n) (BitVec.toNat m.hdr) = some 4 ∧ markerIntact m = false)) ∧
    (let s : State := s_dg; let n : Nat := 5; let m : MarkerIn := x_oop; n < 6 ∧ blockType (rxPairsOf s n) (BitVec.toNat m.hdr) = some 4 ∧ markerIntact m = true ∧ m.inPlace = false ∧ 3 ≤ linkState s n ∧ linkState s n ≤ 6) ∧
    (let s : State := s_dg; let n : Nat := 5; n < 6 ∧ linkState s n ≠ 0 ∧ linkState s n ≠ 7) ∧
    (let s : State := s_dg; let n : Nat := 0; n < 6 ∧ (linkState s n = 0 ∨ linkState s n = 7)) ∧
    (let s : State := s_dg; let n : Nat := 5; let m : LoopMeas := x_b; n < 6 ∧ linkCarries s n = true ∧ CalItem.jiethDelay n ∉ s.cal.pend ∧ CalItem.tempco n true ∉ s.cal.pend) ∧
    (let s : State := s_dg; let n : Nat := 0; let m : LoopMeas := x_b; n < 6 ∧ linkCarries s n = false) ∧
    (let s : State := s_dg; let n : Nat := 5; n < 6 ∧ (linkRole s n = 2 ∨ linkRole s n = 3) ∧ linkCarries s n = true ∧ s.clk.started = true) ∧
    (let s : State := s_dg; let n : Nat := 0; n < 6 ∧ (linkCarries s n = false ∨ linkRole s n < 2)) ∧
    (let s : State := s_mir; let n : Nat := 5; let m : Nat := 5000; let r0 : List Word := keyH; let r1 : List Word := x_t4096; let r : TimingRec := { marker := 4096, sec := 0, ns := 0, frac := 0, epoch := 0, active := true, upLost := false, dataset := { gmId := 0, clockClass := 0, clockAccuracy := 0, variance := 0, priority1 := 0, priority2 := 0, steps := 0, timeSource := 0, timeTraceable := false, freqTraceable := false } }; n < 6 ∧ linkCarries s n = true ∧ (timingOf r0).or (timingOf r1) = some r ∧ (linkS s n).marker = some m ∧ 0 ≤ markerDiff m r.marker ∧ markerDiff m r.marker ≤ 1024 ∧ linkRole s n = 3 ∧ r.active = true ∧ pairRole s = 2) ∧
    (let s : State := s_mk1; let n : Nat := 5; let m : Nat := 5000; let r0 : List Word := keyH; let r1 : List Word := x_t4096; let r : TimingRec := { marker := 4096, sec := 0, ns := 0, frac := 0, epoch := 0, active := true, upLost := false, dataset := { gmId := 0, clockClass := 0, clockAccuracy := 0, variance := 0, priority1 := 0, priority2 := 0, steps := 0, timeSource := 0, timeTraceable := false, freqTraceable := false } }; n < 6 ∧ linkCarries s n = true ∧ (timingOf r0).or (timingOf r1) = some r ∧ (linkS s n).marker = some m ∧ 0 ≤ markerDiff m r.marker ∧ markerDiff m r.marker ≤ 1024 ∧ linkRole s n ≠ 3) ∧
    (let s : State := s_dg; let n : Nat := 5; let r0 : List Word := keyH; let r1 : List Word := x_t6000; let r : TimingRec := { marker := 6000, sec := 0, ns := 0, frac := 0, epoch := 0, active := true, upLost := false, dataset := { gmId := 0, clockClass := 0, clockAccuracy := 0, variance := 0, priority1 := 0, priority2 := 0, steps := 0, timeSource := 0, timeTraceable := false, freqTraceable := false } }; n < 6 ∧ linkCarries s n = true ∧ (timingOf r0).or (timingOf r1) = some r ∧ Option.all (fun m => decide (markerDiff m r.marker < 0)) (linkS s n).marker = true) ∧
    (let s : State := s_dg; let n : Nat := 5; let r0 : List Word := keyH; let r1 : List Word := keyH; n < 6 ∧ linkCarries s n = true ∧ (timingOf r0).or (timingOf r1) = none) ∧
    (let s : State := s_mir; let n : Nat := 5; let m : Nat := 5000; let r0 : List Word := keyH; let r1 : List Word := x_t1; let r : TimingRec := { marker := 1, sec := 0, ns := 0, frac := 0, epoch := 0, active := false, upLost := false, dataset := { gmId := 0, clockClass := 0, clockAccuracy := 0, variance := 0, priority1 := 0, priority2 := 0, steps := 0, timeSource := 0, timeTraceable := false, freqTraceable := false } }; n < 6 ∧ linkCarries s n = true ∧ (timingOf r0).or (timingOf r1) = some r ∧ (linkS s n).marker = some m ∧ 1024 < markerDiff m r.marker) := by
  refine ⟨?_, ?_, ?_, ?_, ?_, ?_, ?_, ?_, ?_, ?_, ?_, ?_, ?_, ?_, ?_, ?_, ?_, ?_, ?_, ?_, ?_⟩ <;> (decide +kernel)

/-- The premises of the clauses of LinkTraining are met by states and operands. -/
theorem witness_LinkTraining :
    (let s : State := lks free 1 (1 == 3) 5 1 1 id; let n : Nat := 5; n < 6 ∧ linkState s n = 1) ∧
    (let s : State := s_dg; let n : Nat := 5; n < 6 ∧ linkState s n ≠ 1) ∧
    (let s : State := s_tr2; let n : Nat := 5; let ws : List Nat := x_lanes; let skew : Nat := 5; n < 6 ∧ linkState s n = 2 ∧ (∀ k < 4, ws.getD k 7 = k) ∧ skew ≤ 8) ∧
    (let s : State := s_tr2; let n : Nat := 5; let ws : List Nat := x_lanes; let skew : Nat := 9; n < 6 ∧ linkState s n = 2 ∧ (∀ k < 4, ws.getD k 7 = k) ∧ 8 < skew) ∧
    (let s : State := s_dg; let n : Nat := 5; let ws : List Nat := []; let skew : Nat := 5; n < 6 ∧ linkState s n ≠ 2) ∧
    (let s : State := s_dn1; let n : Nat := 5; n < 6 ∧ (linkState s n = 1 ∨ linkState s n = 2 ∨ linkState s n = 3 ∧ (linkS s n).helloHeld = false)) ∧
    (let s : State := s_held; let n : Nat := 5; n < 6 ∧ linkState s n = 3 ∧ (linkS s n).helloHeld = true) ∧
    (let s : State := lks free 2 (2 == 3) 5 2 7 id; let n : Nat := 5; n < 6 ∧ linkState s n = 7 ∧ powered s Domain.jieth = true ∧ s.mode ≠ Mode.fault) ∧
    (let s : State := s_dg; let n : Nat := 5; n < 6 ∧ linkState s n ≠ 7) ∧
    (let s : State := s_dn1; let n : Nat := 5; let h : HelloIn := x_mi; n < 6 ∧ linkState s n = 3 ∧ rolesMatch (linkRole s n) h.role.toNat = false) ∧
    (let s : State := lks free 1 (1 == 3) 5 1 3 id; let n : Nat := 5; let h : HelloIn := x_m; n < 6 ∧ linkState s n = 3 ∧ linkRole s n = 1 ∧ h.role = 2 ∧ h.regRefused = false ∧ h.regAck = true) ∧
    (let s : State := lks free 1 (1 == 3) 5 1 3 id; let n : Nat := 5; let h : HelloIn := x_mr; n < 6 ∧ linkState s n = 3 ∧ linkRole s n = 1 ∧ h.role = 2 ∧ h.regRefused = true) ∧
    (let s : State := s_deep; let n : Nat := 5; let h : HelloIn := x_w; n < 6 ∧ linkState s n = 3 ∧ linkRole s n = 2 ∧ h.role = 1 ∧ 4 ≤ ownDepth s) ∧
    (let s : State := s_dn1; let n : Nat := 5; let h : HelloIn := x_w; n < 6 ∧ linkState s n = 3 ∧ linkRole s n = 2 ∧ h.role = 1 ∧ ownDepth s < 4 ∧ s.straps.jrole = 1) ∧
    (let s : State := lks free 2 (3 == 3) 5 3 3 id; let n : Nat := 5; let h : HelloIn := x_mi; n < 6 ∧ linkState s n = 3 ∧ linkRole s n = 3 ∧ h.role = 3) ∧
    (let s : State := s_dg; let n : Nat := 5; let h : HelloIn := x_mi; n < 6 ∧ linkState s n ≠ 3) ∧
    (let s : State := s_t2; let n : Nat := 5; let a : LoopMeas := x_b; let b : LoopMeas := x_b; n < 6 ∧ linkState s n = 4 ∧ (loopRt s n a - loopRt s n b).natAbs * 1000 ≤ 5 * 65536) ∧
    (let s : State := lks free 2 (3 == 3) 5 3 4 id; let n : Nat := 5; let a : LoopMeas := x_b; let b : LoopMeas := x_c; n < 6 ∧ linkState s n = 4 ∧ (¬(loopRt s n a - loopRt s n b).natAbs * 1000 ≤ 5 * 65536) ∧ (linkS s n).tries < 2) ∧
    (let s : State := s_t2; let n : Nat := 5; let a : LoopMeas := x_b; let b : LoopMeas := x_c; n < 6 ∧ linkState s n = 4 ∧ (¬(loopRt s n a - loopRt s n b).natAbs * 1000 ≤ 5 * 65536) ∧ 2 ≤ (linkS s n).tries) ∧
    (let s : State := s_dg; let n : Nat := 5; let a : LoopMeas := x_b; let b : LoopMeas := x_b; n < 6 ∧ linkState s n ≠ 4) := by
  refine ⟨?_, ?_, ?_, ?_, ?_, ?_, ?_, ?_, ?_, ?_, ?_, ?_, ?_, ?_, ?_, ?_, ?_, ?_, ?_, ?_⟩ <;> (decide +kernel)

end Sys2Proof.Tests.Links

namespace Sys2Proof.Tests.Pair
open Sys2Proof Sys2Proof.Machine Sys2Proof.Tests

def lks (s : State) (j : BitVec 2) (p : Bool) (n role st : Nat) (f : LinkS → LinkS) : State :=
  put { s with straps := { jrole := j, pairEn := p }, jieth := { s.jieth with link := List.replicate 6 (f { holds := true }) } } [(Reg.LINK_LINK_CFG_ROLE n, role), (Reg.LINK_LINK_STATUS_STATE n, st)]
def pr (m : Mode) (r : Nat) : State := put (lks (live m) 2 true 5 3 5 id) [(Reg.PAIR_PAIR_STATUS_ROLE_IN, r),(Reg.REF_SEL_STATUS_SELECTED,0),(Reg.SLOT_SLOT_CFG_EN 0,1),(Reg.SLOT_SLOT_STATUS_QUALIFIED 0,1),(Reg.SLOT_SLOT_CFG_EN 7,1),(Reg.SLOT_SLOT_CFG_TYPE 7,2),(Reg.SLOT_SLOT_STATUS_QUALIFIED 7,1)]
def mf (m : Mode) : MirrorFrame := { mode := m, selected := some 7, cw := 7, epoch := 9, force := some 3, lockout := [0,7], slots := List.replicate 8 {}, hist := [⟨1,2,true⟩] }
def mir (f : MirrorFrame) (ms : Nat) (s : State) : State := { s with pair := { s.pair with mirror := some f, mirrorMs := ms, epoch := 65535, peerEpoch := some 3 }, sel := { s.sel with coast := some {} } }
def da (s : State) (e : BitVec 16) : State := put { s with pair := { s.pair with timer := some 0, epoch := e, peerEpoch := some 3 } } [(Reg.PAIR_PAIR_STATUS_DUAL_ACTIVE,1),(Reg.PAIR_PEER_EPOCH,3)]
def s_sb : State := pr .standby 1
def s_sbo : State := mir (mf .locked) 1001 (pr .standby 1)
def s_conf : State := pr .config 0
def s_nopair : State := live .locked
def s_da2 : State := da (pr .locked 2) 2
def s_da5 : State := da (pr .locked 2) 5
def s_cal : State := pr .calibrate 2
def kk (s : State) : State := { s with sec := { s.sec with keys := [(65, List.replicate 8 1)] } }
theorem sealMirror_tag (s : State) (f : MirrorFrame) : (sealMirror s f).tag = mirrorTag s (sealMirror s f) := rfl
def x_nf : MirrorFrame := {mf .locked with force := none, calIds := [1]}
def s_act_2 : State := kk (pr .locked 2)
def s_actnk : State := pr .locked 2
def s_sb_2 : State := put (kk (pr .standby 1)) [(Reg.PAIR_PAIR_STATUS_MIRROR_OK,1)]
def s_sbn : State := pr .standby 1

/-- The premises of the clauses of Mirroring are met by states and operands. -/
theorem witness_Mirroring :
    (let s : State := s_act_2; Option.any (linkCarries s) (mirrorLink s) = true ∧ pairRole s = 2 ∧ keyUsable s 65 = true) ∧
    (let s : State := s_sb; (¬(Option.any (linkCarries s) (mirrorLink s) = true ∧ pairRole s = 2 ∧ keyUsable s 65 = true))) ∧
    (let s : State := s_actnk; let f : MirrorFrame := x_nf; Option.any (linkCarries s) (mirrorLink s) = true ∧ (¬(f.tag = mirrorTag s f ∧ keyUsable s 65 = true))) ∧
    (let s : State := free; let f : MirrorFrame := x_nf; (¬Option.any (linkCarries s) (mirrorLink s) = true)) ∧
    (let s : State := s_sb_2; getB s Reg.PAIR_PAIR_STATUS_MIRROR_OK = true) ∧
    (let s : State := s_act_2; getB s Reg.PAIR_PAIR_STATUS_MIRROR_OK = false) ∧
    (let s : State := s_sb_2; let f : MirrorFrame := sealMirror s x_nf; s.mode = .standby ∧ Option.any (linkCarries s) (mirrorLink s) = true ∧ f.tag = mirrorTag s f ∧ keyUsable s 65 = true ∧ f.force = none) ∧
    (let s : State := s_act_2; let f : MirrorFrame := sealMirror s x_nf; s.mode ≠ .standby ∧ Option.any (linkCarries s) (mirrorLink s) = true ∧ f.tag = mirrorTag s f ∧ keyUsable s 65 = true) := by
  refine ⟨?_, ?_, ?_, ?_, ?_, ?_, ?_, ?_⟩
  · decide +kernel
  · decide +kernel
  · exact ⟨by decide +kernel, fun h => absurd h.2 (by decide +kernel)⟩
  · decide +kernel
  · decide +kernel
  · decide +kernel
  · exact ⟨by decide +kernel, by decide +kernel, sealMirror_tag _ _, by decide +kernel, by decide +kernel⟩
  · exact ⟨by decide +kernel, by decide +kernel, sealMirror_tag _ _, by decide +kernel⟩

/-- The premises of the clauses of MirrorKeepsCalibration are met by states and operands. -/
theorem witness_MirrorKeepsCalibration :
    (let s : State := s_act_2; let f : MirrorFrame := x_nf; getB s Reg.PAIR_PAIR_STATUS_CAL_MATCH = false) ∧
    (let s : State := s_sb_2; let f : MirrorFrame := sealMirror s x_nf; let n := 5; mirrorLink s = some n ∧ linkCarries s n = true ∧ s.mode = .standby ∧ keyUsable s 65 = true ∧ f.tag = mirrorTag s f ∧ f.calIds ≠ calIdents s) := by
  refine ⟨?_, ?_⟩
  · decide +kernel
  · exact ⟨by decide +kernel, by decide +kernel, by decide +kernel, by decide +kernel, sealMirror_tag _ _, by decide +kernel⟩

/-- The premises of the clauses of PairRoles are met by states and operands. -/
theorem witness_PairRoles :
    (let s : State := s_sb; let v : BitVec 2 := 2#2; s.straps.pairEn = true ∧ v.toNat ≠ roleIn s ∧ powered s Domain.time = true ∧ v = 2 ∧ s.mode = Mode.standby ∧ pairReady s = false) ∧
    (let s : State := s_sb; let v : BitVec 2 := 2#2; s.straps.pairEn = true ∧ v.toNat ≠ roleIn s ∧ powered s Domain.time = true ∧ v = 2 ∧ s.mode = Mode.standby ∧ s.pair.mirror = none) ∧
    (let s : State := s_act_2; let v : BitVec 2 := 3#2; s.straps.pairEn = true ∧ v.toNat ≠ roleIn s ∧ powered s Domain.time = true ∧ (v = 0 ∨ v = 3) ∧ (activeMode s.mode = true ∨ s.mode = Mode.standby) ∧ v = 3) ∧
    (let s : State := s_conf; let v : BitVec 2 := 3#2; s.straps.pairEn = true ∧ v.toNat ≠ roleIn s ∧ powered s Domain.time = true ∧ activeMode s.mode = false ∧ s.mode ≠ Mode.standby ∧ v = 3) ∧
    (let s : State := s_act_2; let v : BitVec 2 := 2#2; (¬(s.straps.pairEn = true ∧ v.toNat ≠ roleIn s ∧ powered s Domain.time = true))) ∧
    (let s : State := s_da2; let u : Nat := 0; s.pair.timer = some u ∧ pairRole s = 2 ∧ epochLower s = true) ∧
    (let s : State := s_da5; let u : Nat := 0; s.pair.timer = some u ∧ (pairRole s ≠ 2 ∨ epochLower s = false)) ∧
    (let s : State := s_act_2; s.pair.timer = none) ∧
    (let s : State := s_da2; getB s Reg.PAIR_PAIR_STATUS_DUAL_ACTIVE = true) ∧
    (let s : State := s_act_2; getB s Reg.PAIR_PAIR_STATUS_DUAL_ACTIVE = false) ∧
    (let v : BitVec 2 := 3; let s : State := s_sb; s.straps.pairEn = true ∧ v.toNat ≠ roleIn s ∧ powered s Domain.time = true ∧ v = 3) := by
  refine ⟨?_, ?_, ?_, ?_, ?_, ?_, ?_, ?_, ?_, ?_, ?_⟩ <;> (decide +kernel)

end Sys2Proof.Tests.Pair

namespace Sys2Proof.Tests.GaugeSt
open Sys2Proof Sys2Proof.Machine Sys2Proof.Tests

def gz (n : Nat) (l : List (Fld × Nat)) (f : GaugeS → GaugeS) (s : State) : State := updGauge (put s ([(Reg.GA_CFG_EN n,1),(Reg.GA_STATUS_RUNNING n,1)] ++ l)) n f
def cfg (mode partner sgn : Nat) : Word := BitVec.ofNat 32 (1 + mode <<< 2 + partner <<< 8 + sgn <<< 12)
def bz (s : State) : State := { s with coarse := 2^48 * 3 + 5000 }
def s_ts : State := bz (gz 11 [] (fun g => {g with cfg := cfg 0 0 0, busy := true, lastEdge := some 5}) free)
def s_tsf : State := bz (gz 11 [] (fun g => {g with cfg := cfg 0 0 0, busy := true, fifo := List.replicate 1024 []}) free)
def s_iv : State := bz (gz 0 [] (fun g => {g with cfg := cfg 1 11 0, starts := [{ t := 65536*3000 }, { t := 65536*4000 }]}) (put (updGauge free 11 (fun g => {g with busy := true})) [(Reg.GA_CFG_EN 11,1)]))
def s_sg : State := bz (gz 0 [] (fun g => {g with cfg := cfg 1 11 1, starts := [{ t := 65536*3000 }, { t := 65536*4000 }]}) free)
def s_sgs : State := bz (gz 0 [] (fun g => {g with cfg := cfg 1 11 1, starts := [{ t := 65536*3000 }, { t := 65536*4000 }], stops := [{ t := 65536*3100 }]}) free)
def s_fqc : State := bz (gz 0 [] (fun g => {g with cfg := cfg 3 0 0 + 8192, gate := true, gateAt := 2^48*3+4000}) free)
def s_busyoff : State := updGauge free 11 (fun g => {g with busy := true})
def s_pend : State := {free with cal := {pend := [.vernier 11, .dll 3, .gaugeDelay 11], work := [(412+44,5),(414+44,7)]}}

def s_per : State := bz (gz 0 [] (fun g => {g with cfg := cfg 2 0 0, toGo := 5}) free)
def s_per1 : State := bz (gz 0 [] (fun g => {g with cfg := cfg 2 0 0, toGo := 1}) free)
def s_per2 : State := bz (gz 0 [] (fun g => {g with cfg := cfg 2 0 0, toGo := 1, lastEdge := some 5}) free)
def s_fq2 : State := bz (gz 0 [] (fun g => {g with cfg := cfg 3 0 0, gate := true, gateAt := 2^48*3+4000, first := some { t := 5 }}) free)
def s_fq3 : State := bz (gz 0 [] (fun g => {g with cfg := cfg 3 0 0, gate := true, gateAt := 2^48*3+4000, first := some { t := 5 }, lastEdge := some 5}) free)

/-- The premises of the clauses of GaugeMeasures are met by states and operands. -/
theorem witness_GaugeMeasures :
    (let s : State := s_sgs; let n : Nat := 0; let ps : Nat := 200005; n < 12 ∧ powered s Domain.gauge = true ∧ converterOn s n = true ∧ ((if gaugeRuns s n = true then cfgMode (gaugeS s n).cfg else 0) ≠ 2) ∧ ((if gaugeRuns s n = true then cfgMode (gaugeS s n).cfg else 0) ≠ 3) ∧ (¬Option.any (fun t => decide (ps < t + 200000)) (gaugeS s n).lastEdge = true)) ∧
    (let s : State := s_ts; let n : Nat := 11; let ps : Nat := 0; n < 12 ∧ powered s Domain.gauge = true ∧ converterOn s n = true ∧ ((if gaugeRuns s n = true then cfgMode (gaugeS s n).cfg else 0) ≠ 2) ∧ ((if gaugeRuns s n = true then cfgMode (gaugeS s n).cfg else 0) ≠ 3) ∧ Option.any (fun t => decide (ps < t + 200000)) (gaugeS s n).lastEdge = true) ∧
    (let s : State := s_per; let n : Nat := 0; let ps : Nat := 200005; n < 12 ∧ powered s Domain.gauge = true ∧ converterOn s n = true ∧ ((if gaugeRuns s n = true then cfgMode (gaugeS s n).cfg else 0) = 2) ∧ 1 < (gaugeS s n).toGo ∧ (¬gaugeNos.any (usesAsStop s n) = true)) ∧
    (let s : State := s_per1; let n : Nat := 0; let ps : Nat := 200005; n < 12 ∧ powered s Domain.gauge = true ∧ converterOn s n = true ∧ ((if gaugeRuns s n = true then cfgMode (gaugeS s n).cfg else 0) = 2) ∧ (gaugeS s n).toGo ≤ 1 ∧ (¬Option.any (fun t => decide (ps < t + 200000)) (gaugeS s n).lastEdge = true)) ∧
    (let s : State := s_per2; let n : Nat := 0; let ps : Nat := 0; n < 12 ∧ powered s Domain.gauge = true ∧ converterOn s n = true ∧ ((if gaugeRuns s n = true then cfgMode (gaugeS s n).cfg else 0) = 2) ∧ (gaugeS s n).toGo ≤ 1 ∧ Option.any (fun t => decide (ps < t + 200000)) (gaugeS s n).lastEdge = true) ∧
    (let s : State := s_fqc; let n : Nat := 0; let ps : Nat := 200005; n < 12 ∧ powered s Domain.gauge = true ∧ converterOn s n = true ∧ ((if gaugeRuns s n = true then cfgMode (gaugeS s n).cfg else 0) = 3) ∧ (¬gaugeNos.any (usesAsStop s n) = true) ∧ (gaugeS s n).gate = true ∧ (gaugeS s n).first = none ∧ (gaugeS s n).busy = false ∧ (¬Option.any (fun t => decide (ps < t + 200000)) (gaugeS s n).lastEdge = true)) ∧
    (let s : State := s_fq3; let n : Nat := 0; let ps : Nat := 0; n < 12 ∧ powered s Domain.gauge = true ∧ converterOn s n = true ∧ ((if gaugeRuns s n = true then cfgMode (gaugeS s n).cfg else 0) = 3) ∧ (¬gaugeNos.any (usesAsStop s n) = true) ∧ (gaugeS s n).gate = true ∧ (gaugeS s n).first ≠ none ∧ Option.any (fun t => decide (ps < t + 200000)) (gaugeS s n).lastEdge = true) ∧
    (let s : State := s_fq2; let n : Nat := 0; let ps : Nat := 200005; n < 12 ∧ powered s Domain.gauge = true ∧ converterOn s n = true ∧ ((if gaugeRuns s n = true then cfgMode (gaugeS s n).cfg else 0) = 3) ∧ (¬gaugeNos.any (usesAsStop s n) = true) ∧ (gaugeS s n).gate = true ∧ (gaugeS s n).first ≠ none ∧ (¬Option.any (fun t => decide (ps < t + 200000)) (gaugeS s n).lastEdge = true)) ∧
    (let s : State := s_sgs; let n : Nat := 1; let ps : Nat := 200005; n < 12 ∧ powered s Domain.gauge = true ∧ converterOn s n = false) ∧
    (let s : State := s_ts; let n : Nat := 11; let c : Nat := 200005; let sub : Nat := 200005; let k : Nat := 200005; n < 12 ∧ powered s Domain.gauge = true ∧ (gaugeS s n).busy = true ∧ inRun s n (coarseExt s c) = true ∧ cfgMode (gaugeS s n).cfg = 0 ∧ (∀ m < 12, stopInRun s n (coarseExt s c) m = false) ∧ (gaugeS s n).fifo.length < 1024) ∧
    (let s : State := s_tsf; let n : Nat := 11; let c : Nat := 200005; let sub : Nat := 200005; let k : Nat := 200005; n < 12 ∧ powered s Domain.gauge = true ∧ (gaugeS s n).busy = true ∧ inRun s n (coarseExt s c) = true ∧ cfgMode (gaugeS s n).cfg = 0 ∧ (∀ m < 12, stopInRun s n (coarseExt s c) m = false) ∧ 1024 ≤ (gaugeS s n).fifo.length) ∧
    (let s : State := s_busyoff; let n : Nat := 11; let c : Nat := 200005; let sub : Nat := 200005; let k : Nat := 200005; n < 12 ∧ powered s Domain.gauge = true ∧ (gaugeS s n).busy = true ∧ inRun s n (coarseExt s c) = false ∧ (∀ m < 12, stopInRun s n (coarseExt s c) m = false)) ∧
    (let s : State := s_iv; let n : Nat := 11; let c : Nat := 200005; let sub : Nat := 200005; let k : Nat := 200005; let m : Nat := 0; let a : GEdge := { t := 196608000, cnt := 0, quiet := false, stale := false }; let r : List GEdge := [{ t := 262144000, cnt := 0, quiet := false, stale := false }]; n < 12 ∧ powered s Domain.gauge = true ∧ (gaugeS s n).busy = true ∧ m < 12 ∧ inRun s n (coarseExt s c) = false ∧ stopInRun s n (coarseExt s c) m = true ∧ (∀ j < 12, j ≠ m → stopInRun s n (coarseExt s c) j = false) ∧ fieldOf (gaugeS s m).cfg 12 1 = 0 ∧ (gaugeS s m).starts = a :: r ∧ a.t ≤ edgeTime s n (coarseExt s c) sub k ∧ (gaugeS s m).fifo.length < 1024) ∧
    (let s : State := s_fqc; let n : Nat := 0; n < 12 ∧ gaugeRuns s n = true ∧ (gaugeS s n).gate = true ∧ cfgMode (gaugeS s n).cfg = 3 ∧ (gaugeS s n).fifo.length < 1023) ∧
    (let s : State := s_sgs; let n : Nat := 0; n < 12 ∧ (gaugeRuns s n = false ∨ (gaugeS s n).gate = false ∨ cfgMode (gaugeS s n).cfg ≠ 3)) ∧
    (let s : State := s_sg; let n : Nat := 0; let a : GEdge := { t := 196608000, cnt := 0, quiet := false, stale := false }; let r : List GEdge := [{ t := 262144000, cnt := 0, quiet := false, stale := false }]; n < 12 ∧ gaugeRuns s n = true ∧ cfgMode (gaugeS s n).cfg = 1 ∧ fieldOf (gaugeS s n).cfg 12 1 = 1 ∧ (gaugeS s n).starts = a :: r ∧ (∀ u ∈ (gaugeS s n).stops, pairWin (gaugeS s n) < ↑(u.t - a.t).natAbs)) ∧
    (let s : State := s_sgs; let n : Nat := 11; n < 12 ∧ (gaugeRuns s n = false ∨ (gaugeS s n).starts = [])) ∧
    (let s : State := s_sgs; let n : Nat := 0; n < 12 ∧ s.cal.pend.Nodup) ∧
    (let s : State := s_sgs; s.clk.started = true ∧ powered s Domain.gauge = true) ∧
    (let s : State := State.reset; (s.clk.started = false ∨ powered s Domain.gauge = false)) := by
  refine ⟨?_, ?_, ?_, ?_, ?_, ?_, ?_, ?_, ?_, ?_, ?_, ?_, ?_, ?_, ?_, ?_, ?_, ?_, ?_, ?_⟩ <;> (decide +kernel)

end Sys2Proof.Tests.GaugeSt

namespace Sys2Proof.Tests.GnssSt
open Sys2Proof Sys2Proof.Machine Sys2Proof.Tests

def gn (l : List (Fld × Nat)) (f : Gnss → Gnss) : State := put { free with gnss := f free.gnss } ([(Reg.GNSS_STATUS_RUNNING,1),(Reg.GNSS_CFG_NOTCH_AUTO,1)] ++ l)
def ch (c st prn : Nat) : List (Fld × Nat) := [(Reg.CH_CH_STATUS_STATE c, st), (Reg.CH_CH_STATUS_PRN c, prn)]
def s_nt : State := gn [(Reg.NOTCH_STAT_ACTIVE 3,1),(Reg.NOTCH_STAT_ACTIVE 0,1)] (fun g => {g with low := [9,0,0,8]})
def s_base : State := gn [] (fun g => {g with base := some 100, baseRun := true})
def s_jam : State := gn [(Reg.GNSS_STATUS_JAM,1)] (fun g => {g with base := some 100})
def s_ch : State := gn (ch 0 2 7 ++ ch 1 1 32 ++ ch 23 2 1 ++ ch 22 3 5) (fun g => {g with eph := [1,7]})
def s_noauto : State := gn (ch 23 2 1 ++ [(Reg.PTPG_UTC_CFG_AUTO,0)]) id
def s_sel : State := put (gn (ch 23 2 1) id) [(Reg.REF_SEL_STATUS_SELECTED,0),(Reg.SLOT_SLOT_CFG_TYPE 0,2),(Reg.SLOT_SLOT_CFG_EN 0,1),(Reg.PTPG_UTC_CFG_AUTO,1)]
def x_n1 : NavIn := {prn := 1, week10 := 1023, utc := some (18,19,true)}
def x_n7 : NavIn := {prn := 7, healthy := false}
def x_m1 : ChanMeas := {ch := 1, cn0 := 200, bitSync := true, doppler := -5}
def use (l : List Nat) (s : State) : State := put { s with gnss := { s.gnss with eph := l.map (· + 1) } } (l.flatMap (fun c => [(Reg.CH_CH_STATUS_STATE c, 2), (Reg.CH_CH_STATUS_PRN c, c+1),(Reg.CH_CH_STATUS_CN0 c, 200),(Reg.CH_CH_STATUS_FLAGS c, 0x34),(Reg.CH_ELEV c, 45)]))
def x_two : (List RawChan) := [{ch := 0},{ch := 1}]
def s_use : State := put (use [0,1,2,3,4,5,23] (gn [(Reg.GNSS_STATUS_POS_MODE,2)] id)) [(Reg.SLOT_SLOT_CFG_TYPE 7,2),(Reg.SLOT_SLOT_CFG_EN 7,1)]
def s_lost : State := gn (ch 1 3 5 ++ ch 2 1 4 ++ [(Reg.GNSS_STATUS_SOL_VALID,1)]) (fun g => {g with ofs := some 5})
def s_cal : State := {gn (ch 1 1 5) id with cal := {pend := [.gnssFe]}}
def s_svy : State := gn [(Reg.GNSS_STATUS_POS_MODE,1),(Reg.GNSS_SURVEY_LEFT,0)] (fun g => {g with fixSum := (5, 7, 9), fixes := 2})
def s_full : State := (let s := use [0,1] (gn [] id); { s with gnss := { s.gnss with raw := [List.replicate 199 []] } })
def s_almost : State := (let s := use [0,1] (gn [] id); { s with gnss := { s.gnss with raw := [List.replicate 197 []] } })

def s_use2 : State := put (s_use) ([0,1,2,3,4,5,23].map (fun c => (Reg.CH_CH_STATUS_FLAGS c, 0x36)))
def x_fit : Fit := { res := [(0,5),(1,5),(2,5),(3,-5),(4,5),(23,-6)], tow := 1000 }
def x_one : Fit := { res := [(0,5)], tow := 1000 }
def x_out : Fit := { res := [(0,5),(1,5),(2,5),(3,5),(4,5),(23,-10^9)], tow := 1000 }
def s_use2s : State := {s_use2 with cal := {pend := [.gnssFe]}}
def s_use2v : State := put s_use2 [(Reg.GNSS_STATUS_POS_MODE,1),(Reg.GNSS_SURVEY_LEFT,5)]
def s_j9 : State := gn [] (fun g => {g with base := some 100, jamHi := 9})
def s_jl : State := gn [(Reg.GNSS_STATUS_JAM,1)] (fun g => {g with base := some 100, jamLo := 9})
def s_lk : State := gn (ch 1 1 32) (fun g => {g with chans := List.replicate 24 {lockMs := 200, openMs := 2000}})
def x_sv : Instr := .surveyDone 0 0 0

/-- The premises of the clauses of GnssSolves are met by states and operands. -/
theorem witness_GnssSolves :
    (let s : State := s_cal; let ms : List ChanMeas := []; gnssRuns s = true ∧ CalItem.gnssFe ∈ s.cal.pend) ∧
    (let s : State := s_cal; let ms : List ChanMeas := []; gnssRuns s = true ∧ ((List.filter (fun ch => chanFlag s ch 1 && decide (chanState s ch = 2)) chanNos).length < minSv s ∨ getF s Reg.GNSS_STATUS_POS_MODE = 0)) ∧
    (let s : State := s_use2v; let ms : List ChanMeas := []; gnssRuns s = true ∧ minSv s ≤ (List.filter (fun ch => chanFlag s ch 1 && decide (chanState s ch = 2)) chanNos).length ∧ getF s Reg.GNSS_STATUS_POS_MODE ≠ 0) ∧
    (let s : State := s_cal; let m : ChanMeas := x_m1; gnssRuns s = true ∧ m.ch < 24 ∧ (chanState s m.ch = 1 ∨ chanState s m.ch = 2)) ∧
    (let s : State := s_use2s; let f : Fit := x_fit; gnssRuns s = true ∧ (∀ e ∈ f.res, e.1 < 24 ∧ chanUsable s e.1 = true) ∧ (∀ e ∈ f.res, e.2.natAbs ≤ getF s Reg.GNSS_SOL_CFG_RES_THR * 1000) ∧ minSv s ≤ f.res.length ∧ 1 ≤ f.res.length ∧ getF s Reg.GNSS_STATUS_POS_MODE ≠ 0 ∧ gnssStale s = true) ∧
    (let s : State := s_use2v; let f : Fit := x_fit; gnssRuns s = true ∧ (∀ e ∈ f.res, e.1 < 24 ∧ chanUsable s e.1 = true) ∧ (∀ e ∈ f.res, e.2.natAbs ≤ getF s Reg.GNSS_SOL_CFG_RES_THR * 1000) ∧ minSv s ≤ f.res.length ∧ 1 ≤ f.res.length ∧ getF s Reg.GNSS_STATUS_POS_MODE ≠ 0 ∧ gnssStale s = false) ∧
    (let s : State := s_use2v; let f : Fit := x_fit; gnssRuns s = true ∧ (∀ e ∈ f.res, e.1 < 24 ∧ chanUsable s e.1 = true) ∧ (∀ e ∈ f.res, e.2.natAbs ≤ getF s Reg.GNSS_SOL_CFG_RES_THR * 1000) ∧ minSv s ≤ f.res.length ∧ 1 ≤ f.res.length ∧ getF s Reg.GNSS_STATUS_POS_MODE ≠ 0 ∧ getF s Reg.GNSS_STATUS_POS_MODE = 1 ∧ 0 < getF s Reg.GNSS_SURVEY_LEFT) ∧
    (let s : State := s_use2v; let f : Fit := x_one; gnssRuns s = true ∧ (∀ e ∈ f.res, e.1 < 24 ∧ chanUsable s e.1 = true) ∧ (∀ e ∈ f.res, e.2.natAbs ≤ getF s Reg.GNSS_SOL_CFG_RES_THR * 1000) ∧ (f.res.length < minSv s ∨ getF s Reg.GNSS_STATUS_POS_MODE = 0)) ∧
    (let s : State := s_use2v; let f : Fit := x_out; let g : Fit := x_fit; let e : Nat × Int := (23, -10^9); gnssRuns s = true ∧ (∀ e ∈ f.res, e.1 < 24 ∧ chanUsable s e.1 = true) ∧ e ∈ f.res ∧ getF s Reg.GNSS_SOL_CFG_RES_THR * 1000 < e.2.natAbs ∧ (∀ x ∈ f.res, x ≠ e → x.2.natAbs < e.2.natAbs) ∧ getF s Reg.GNSS_SOL_CFG_MIN_SV < f.res.length) ∧
    (let s : State := s_lost; gnssRuns s = true ∧ getB s Reg.GNSS_STATUS_SOL_VALID = true) ∧
    (let s : State := s_svy; let x : Int := s_svy.gnss.fixSum.1 / s_svy.gnss.fixes; let y : Int := s_svy.gnss.fixSum.2.1 / s_svy.gnss.fixes; let z : Int := s_svy.gnss.fixSum.2.2 / s_svy.gnss.fixes; (∀ c ∈ [(s.gnss.fixSum.1, x), (s.gnss.fixSum.2.1, y), (s.gnss.fixSum.2.2, z)], (s.gnss.fixes * c.2 - c.1).natAbs < s.gnss.fixes) ∧ gnssRuns s = true ∧ getF s Reg.GNSS_STATUS_POS_MODE = 1 ∧ getF s Reg.GNSS_SURVEY_LEFT = 0 ∧ 0 < s.gnss.fixes) ∧
    (let s : State := s_cal; let x : Int := 0; gnssRuns s = true ∧ (¬(getF s Reg.GNSS_STATUS_POS_MODE = 1 ∧ getF s Reg.GNSS_SURVEY_LEFT = 0 ∧ 0 < s.gnss.fixes) ∨ s.gnss.fixes ≤ (s.gnss.fixes * x - s.gnss.fixSum.1).natAbs)) ∧
    (let s : State := s_sel; let rs : List RawChan := x_two; gnssRuns s = true ∧ 0 < (List.filter (fun ch => decide (chanState s ch = 2)) chanNos).length ∧ rawFill s + 1 + (List.filter (fun ch => decide (chanState s ch = 2)) chanNos).length ≤ 200) ∧
    (let s : State := s_full; let rs : List RawChan := x_two; gnssRuns s = true ∧ 0 < (List.filter (fun ch => decide (chanState s ch = 2)) chanNos).length ∧ 200 < rawFill s + 1 + (List.filter (fun ch => decide (chanState s ch = 2)) chanNos).length) ∧
    (let s : State := s_cal; let rs : List RawChan := x_two; gnssRuns s = true ∧ (List.filter (fun ch => decide (chanState s ch = 2)) chanNos).length = 0) := by
  refine ⟨?_, ?_, ?_, ?_, ?_, ?_, ?_, ?_, ?_, ?_, ?_, ?_, ?_, ?_, ?_⟩ <;> (decide +kernel)

/-- The premises of the clauses of GnssSignals are met by states and operands. -/
theorem witness_GnssSignals :
    (let s : State := s_cal; let l : Line := { hz := -100, level := 200 }; gnssRuns s = true ∧ getB s Reg.GNSS_CFG_NOTCH_AUTO = true ∧ l.notch = none ∧ getF s Reg.GNSS_JAM_CFG_NOTCH_THR < l.level ∧ (∀ n < 4, notchActive s n = false)) ∧
    (let s : State := s_nt; let n : Nat := 0; gnssRuns s = true ∧ getB s Reg.GNSS_CFG_NOTCH_AUTO = true ∧ n < 4 ∧ getB s (Reg.NOTCH_CFG_MANUAL n) = false ∧ getB s (Reg.NOTCH_STAT_ACTIVE n) = true ∧ 9 ≤ s.gnss.low.getD n 0) ∧
    (let s : State := s_nt; let n : Nat := 3; gnssRuns s = true ∧ getB s Reg.GNSS_CFG_NOTCH_AUTO = true ∧ n < 4 ∧ getB s (Reg.NOTCH_CFG_MANUAL n) = false ∧ getB s (Reg.NOTCH_STAT_ACTIVE n) = true ∧ s.gnss.low.getD n 0 < 9) ∧
    (let s : State := free; let ls : List Line := []; (¬(gnssRuns s = true ∧ getB s Reg.GNSS_CFG_NOTCH_AUTO = true))) ∧
    (let s : State := s_j9; let b : Nat := 100; let p : Nat := 340; powered s Domain.gnss = true ∧ s.gnss.base = some b ∧ (10 ≤ if getF s Reg.GNSS_JAM_CFG_JAM_THR ≤ min 240 (p - b) then s.gnss.jamHi + 1 else 0) ∧ getB s Reg.GNSS_STATUS_JAM = false) ∧
    (let s : State := s_jl; let b : Nat := 100; let p : Nat := 100; powered s Domain.gnss = true ∧ s.gnss.base = some b ∧ (10 ≤ if min 240 (p - b) + 12 < getF s Reg.GNSS_JAM_CFG_JAM_THR then s.gnss.jamLo + 1 else 0)) ∧
    (let s : State := s_base; let b : Nat := 100; let p : Nat := 100; powered s Domain.gnss = true ∧ s.gnss.base = some b ∧ ((if getF s Reg.GNSS_JAM_CFG_JAM_THR ≤ min 240 (p - b) then s.gnss.jamHi + 1 else 0) < 10) ∧ ((if min 240 (p - b) + 12 < getF s Reg.GNSS_JAM_CFG_JAM_THR then s.gnss.jamLo + 1 else 0) < 10)) ∧
    (let s : State := s_cal; let p : Nat := 100; (s.gnss.base = none ∨ powered s Domain.gnss = false)) ∧
    (let s : State := s_base; let p : Nat := 100; s.gnss.baseRun = true ∧ powered s Domain.gnss = true) ∧
    (let s : State := s_cal; let p : Nat := 100; (s.gnss.baseRun = false ∨ powered s Domain.gnss = false)) ∧
    (let s : State := s_cal; let prn : Nat := 1; let bin : Int := 0; let code : Nat := 100; let peak : Nat := 100; let nxt : Nat := 0; let ch : Nat := 0; gnssRuns s = true ∧ 1 ≤ prn ∧ prn ≤ 32 ∧ bin.natAbs ≤ 20 ∧ code < 32768 ∧ searches s prn = true ∧ nxt * getF s Reg.GNSS_ACQ_CFG_ACQ_THR < peak * 10 ∧ ch < 24 ∧ chanState s ch = 0 ∧ (∀ k < ch, chanState s k ≠ 0)) ∧
    (let s : State := s_cal; let prn : Nat := 1; let bin : Int := 0; let code : Nat := 100; let peak : Nat := 100; let nxt : Nat := 100; gnssRuns s = true ∧ 1 ≤ prn ∧ prn ≤ 32 ∧ bin.natAbs ≤ 20 ∧ code < 32768 ∧ searches s prn = true ∧ peak * 10 ≤ nxt * getF s Reg.GNSS_ACQ_CFG_ACQ_THR) ∧
    (let s : State := s_cal; let prn : Nat := 23; let bin : Int := 0; let code : Nat := 100; let peak : Nat := 100; let nxt : Nat := 100; gnssRuns s = true ∧ 1 ≤ prn ∧ prn ≤ 32 ∧ bin.natAbs ≤ 20 ∧ code < 32768 ∧ searches s prn = false) ∧
    (let s : State := s_lk; let ch : Nat := 1; gnssRuns s = true ∧ ch < 24 ∧ chanState s ch = 1 ∧ 200 ≤ (gnssChan s ch).lockMs) ∧
    (let s : State := s_cal; let ch : Nat := 0; gnssRuns s = true ∧ ch < 24 ∧ (chanState s ch ≠ 1 ∨ (gnssChan s ch).lockMs < 200)) ∧
    (let s : State := s_lk; let ch : Nat := 1; gnssRuns s = true ∧ ch < 24 ∧ (chanState s ch = 1 ∧ 2000 ≤ (gnssChan s ch).openMs ∨ chanState s ch = 2 ∧ (1000 ≤ (gnssChan s ch).lowMs ∨ 200 ≤ (gnssChan s ch).openMs))) ∧
    (let s : State := s_cal; let ch : Nat := 0; gnssRuns s = true ∧ ch < 24 ∧ (¬(chanState s ch = 1 ∧ 2000 ≤ (gnssChan s ch).openMs ∨ chanState s ch = 2 ∧ (1000 ≤ (gnssChan s ch).lowMs ∨ 200 ≤ (gnssChan s ch).openMs)))) ∧
    (let s : State := s_sel; let d : NavIn := x_n1; let ch : Nat := 23; gnssRuns s = true ∧ ch < 24 ∧ chanState s ch = 2 ∧ chanPrn s ch = d.prn ∧ (∀ k < ch, ¬(chanState s k = 2 ∧ chanPrn s k = d.prn)) ∧ d.healthy = true ∧ d.iodMatch = true ∧ d.toeInRange = true) ∧
    (let s : State := s_ch; let d : NavIn := x_n7; let ch : Nat := 0; gnssRuns s = true ∧ ch < 24 ∧ chanState s ch = 2 ∧ chanPrn s ch = d.prn ∧ (∀ k < ch, ¬(chanState s k = 2 ∧ chanPrn s k = d.prn)) ∧ (d.healthy && d.iodMatch && d.toeInRange) = false ∧ s.gnss.eph.Nodup) ∧
    (let s : State := s_ch; let d : NavIn := x_n7; let ch : Nat := 0; gnssRuns s = true ∧ ch < 24 ∧ chanState s ch = 2 ∧ chanPrn s ch = d.prn ∧ (∀ k < ch, ¬(chanState s k = 2 ∧ chanPrn s k = d.prn)) ∧ d.utc = none) ∧
    (let s : State := s_cal; let d : NavIn := x_n7; gnssRuns s = true ∧ (∀ k < 24, ¬(chanState s k = 2 ∧ chanPrn s k = d.prn))) ∧
    (let s : State := free; let ch : Nat := 0; let x : Int := 0; let y : Int := 0; let z : Int := 0; let d : NavIn := x_n7; let ms : List ChanMeas := []; let fs : List Fit := []; let rs : List RawChan := x_two; let i : Instr := x_sv; gnssRuns s = false ∧ ch < 24 ∧ i ∈ [Instr.channelTrack ch, Instr.channelLost ch, Instr.navDataDecode d, Instr.codeEpoch ms, Instr.gnssSolution fs, Instr.surveyDone x y z, Instr.rawEpoch rs]) := by
  refine ⟨?_, ?_, ?_, ?_, ?_, ?_, ?_, ?_, ?_, ?_, ?_, ?_, ?_, ?_, ?_, ?_, ?_, ?_, ?_, ?_, ?_, ?_⟩ <;> (decide +kernel)

end Sys2Proof.Tests.GnssSt

namespace Sys2Proof.Tests.EngineReady
open Sys2Proof Sys2Proof.Machine Sys2Proof.Tests

def ee (e : Nat) (l : List (Fld × Nat)) (f : Eng → Eng) (s : State := free) : State := updEng (put s ([(Reg.UE_ENG_STATUS_RUNNING e,1)] ++ l)) e f
def regsA : List EWord := [5, 0x1FFFF, 0x20000, 0x3FFFF, 19, 0x3FFFE, 0, 7, 1,2,3,4,5,6,7,31]
def eo (o : Eng) : Eng := { o with w := regsA, a0 := 0x7FFFFFFFFFFF, a1 := 0x800000000000, z := true, n := true, c := true, v := false, pc := 0xFFF, dram := [(0,5),(8191,7)], ev := 0x12, sel := 0x1003, latch := 0x2ABCDEF0123456, mboxOut := [3], ftStage := 5, ptStage := 9, timer := 3, stack := [0x123, 4] }
def s_e15 : State := ee 15 [(Reg.ENG_STEER_CFG_OWNER,7)] eo

/-- The premises of the clauses of EngineArithmetic are met by states and operands. -/
theorem witness_EngineArithmetic :
    (let s : State := s_e15; let e : Nat := 15; let d : BitVec 4 := 15; let a : BitVec 4 := 15; let b : BitVec 4 := 15; let k : BitVec 8 := 15; EngReady e s) := by
  simp only [← engB_iff]; decide +kernel

end Sys2Proof.Tests.EngineReady

namespace Sys2Proof.Tests.EngineData
open Sys2Proof Sys2Proof.Machine Sys2Proof.Tests

def ee (e : Nat) (l : List (Fld × Nat)) (f : Eng → Eng) (s : State := free) : State := updEng (put s ([(Reg.UE_ENG_STATUS_RUNNING e,1)] ++ l)) e f
def regsA : List EWord := [5, 0x1FFFF, 0x20000, 0x3FFFF, 19, 0x3FFFE, 0, 7, 1,2,3,4,5,6,7,31]
def eo (o : Eng) : Eng := { o with w := regsA, a0 := 0x7FFFFFFFFFFF, a1 := 0x800000000000, z := true, n := true, c := true, v := false, pc := 0xFFF, dram := [(0,5),(8191,7)], ev := 0x12, sel := 0x1003, latch := 0x2ABCDEF0123456, mboxOut := [3], ftStage := 5, ptStage := 9, timer := 3, stack := [0x123, 4] }
def s_e15 : State := ee 15 [(Reg.ENG_STEER_CFG_OWNER,7)] eo
def s_selbad : State := ee 12 [] (fun o => {eo o with sel := 0x3FFFF, mboxOut := List.replicate 16 1})

/-- The premises of the clauses of SteeringCommits are met by states and operands. -/
theorem witness_SteeringCommits :
    (let s : State := s_e15; let e : Nat := 15; let d : BitVec 4 := 12; EngReady e s ∧ steerOwner s e = true) ∧
    (let s : State := s_selbad; let e : Nat := 12; let d : BitVec 4 := 12; EngReady e s ∧ steerOwner s e = false) := by
  refine ⟨?_, ?_⟩ <;> (simp only [← engB_iff]; decide +kernel)

/-- The premises of the clauses of EnginePorts are met by states and operands. -/
theorem witness_EnginePorts :
    (let s : State := s_selbad; let e : Nat := 12; let d : BitVec 4 := 12; EngReady e s ∧ 0 ≠ 5) ∧
    (let s : State := s_selbad; let e : Nat := 12; let d : BitVec 4 := 12; EngReady e s ∧ 2 ≠ 5) ∧
    (let s : State := s_selbad; let e : Nat := 12; let d : BitVec 4 := 12; EngReady e s ∧ 3 ≠ 5) ∧
    (let s : State := s_selbad; let e : Nat := 12; let d : BitVec 4 := 12; EngReady e s ∧ 4 ≠ 5) ∧
    (let s : State := s_selbad; let e : Nat := 12; let d : BitVec 4 := 12; EngReady e s ∧ 6 ≠ 5) ∧
    (let s : State := s_selbad; let e : Nat := 12; let d : BitVec 4 := 12; EngReady e s ∧ 7 ≠ 5) ∧
    (let s : State := s_selbad; let e : Nat := 12; let d : BitVec 4 := 12; EngReady e s ∧ 8 ≠ 5) ∧
    (let s : State := s_e15; let e : Nat := 15; let v : Int := 0; let d : BitVec 4 := 12; EngReady e s ∧ selObject s e (BitVec.toNat (engS s e).sel / 4096) (BitVec.toNat (engS s e).sel % 4096) = some v) ∧
    (let s : State := s_selbad; let e : Nat := 12; let d : BitVec 4 := 12; EngReady e s ∧ selObject s e (BitVec.toNat (engS s e).sel / 4096) (BitVec.toNat (engS s e).sel % 4096) = none) ∧
    (let s : State := s_selbad; let e : Nat := 12; let d : BitVec 4 := 12; let p : BitVec 8 := 12; EngReady e s ∧ 8 < p.toNat) ∧
    (let s : State := s_e15; let e : Nat := 15; let d : BitVec 4 := 12; EngReady e s ∧ (engS s e).mboxOut.length < 16) ∧
    (let s : State := s_selbad; let e : Nat := 12; let d : BitVec 4 := 12; EngReady e s ∧ 16 ≤ (engS s e).mboxOut.length) ∧
    (let s : State := s_selbad; let e : Nat := 12; let d : BitVec 4 := 12; let p : BitVec 8 := 12; EngReady e s ∧ (p.toNat < 128 ∨ 137 < p.toNat)) ∧
    (let s : State := s_e15; let e : Nat := 15; let d : BitVec 4 := 12; EngReady e s ∧ steerOwner s e = true) ∧
    (let s : State := s_selbad; let e : Nat := 12; let d : BitVec 4 := 12; EngReady e s ∧ steerOwner s e = false) := by
  refine ⟨?_, ?_, ?_, ?_, ?_, ?_, ?_, ?_, ?_, ?_, ?_, ?_, ?_, ?_, ?_⟩ <;> (simp only [← engB_iff]; decide +kernel)

end Sys2Proof.Tests.EngineData

namespace Sys2Proof.Tests.EngineFlow
open Sys2Proof Sys2Proof.Machine Sys2Proof.Tests

def ee (e : Nat) (l : List (Fld × Nat)) (f : Eng → Eng) (s : State := free) : State := updEng (put s ([(Reg.UE_ENG_STATUS_RUNNING e,1)] ++ l)) e f
def regsA : List EWord := [5, 0x1FFFF, 0x20000, 0x3FFFF, 19, 0x3FFFE, 0, 7, 1,2,3,4,5,6,7,31]
def eo (o : Eng) : Eng := { o with w := regsA, a0 := 0x7FFFFFFFFFFF, a1 := 0x800000000000, z := true, n := true, c := true, v := false, pc := 0xFFF, dram := [(0,5),(8191,7)], ev := 0x12, sel := 0x1003, latch := 0x2ABCDEF0123456, mboxOut := [3], ftStage := 5, ptStage := 9, timer := 3, stack := [0x123, 4] }
def ill (o : Eng) : Eng := { eo o with iram := [(4095, 0x3C000 - 0x1000 * 0x20)] }
def s_free : State := put free [(Reg.CNT_CNT_CFG_EVENT 127, 0x20)]
def s_e12 : State := ee 12 [(Reg.PERF_PERF_CTRL_FREEZE,1)] eo
def s_e15 : State := ee 15 [(Reg.ENG_STEER_CFG_OWNER,7),(Reg.UE_ENG_CFG_WDT_MS 15,5),(Reg.UE_ENG_CFG_WDT_MS 12,0)] eo
def s_st16 : State := ee 15 [(Reg.ENG_STEER_CFG_OWNER,7)] (fun o => {eo o with stack := List.replicate 16 1})
def s_st0 : State := ee 15 [(Reg.ENG_STEER_CFG_OWNER,7)] (fun o => {eo o with stack := [], z := false, v := true})
def s_wait : State := ee 15 [] (fun o => {eo o with wait := some 0x10})
def s_wait2 : State := ee 15 [] (fun o => {eo o with wait := some 1})
def s_ill : State := ee 12 [] ill
def s_ill15 : State := ee 15 [(Reg.ENG_STEER_CFG_OWNER,7)] ill

def s_t1 : State := ee 3 [] (fun o => {eo o with timer := 1})
def s_wd : State := ee 15 [(Reg.UE_ENG_CFG_WDT_MS 15,5)] (fun o => {eo o with sinceMark := 5})
def s_tmo : State := (let s := ee 15 [(Reg.ENG_STEER_CFG_OWNER,7),(Reg.ENG_STEER_CFG_TMO_MS,5)] eo; { s with engs := { s.engs with sinceCommit := 5 } })
def x_nop : Instr := .engineNop 12
def x_nop0 : Instr := .engineNop 0

/-- The premises of the clauses of EngineControl are met by states and operands. -/
theorem witness_EngineControl :
    (let s : State := s_e12; let e : Nat := 12; let p : BitVec 12 := 12; let m : BitVec 8 := 12; EngReady e s ∧ (engS s e).stack.length < 16) ∧
    (let s : State := s_st16; let e : Nat := 15; let p : BitVec 12 := 12; let m : BitVec 8 := 12; EngReady e s ∧ 16 ≤ (engS s e).stack.length) ∧
    (let s : State := s_e12; let e : Nat := 12; let q : BitVec 12 := 0x123#12; let r : List (BitVec 12) := [0x004#12]; let p : BitVec 12 := 12; let m : BitVec 8 := 12; EngReady e s ∧ (engS s e).stack = q :: r) ∧
    (let s : State := s_st0; let e : Nat := 15; let p : BitVec 12 := 12; let m : BitVec 8 := 12; EngReady e s ∧ (engS s e).stack = []) ∧
    (let s : State := s_st0; let e : Nat := 15; let p : BitVec 12 := 12; let m : BitVec 8 := 12; EngReady e s ∧ steerOwner s e = true) ∧
    (let s : State := s_e12; let e : Nat := 12; let p : BitVec 12 := 12; let m : BitVec 8 := 15; EngReady e s ∧ (engS s e).ev &&& m ≠ 0) ∧
    (let s : State := s_e12; let e : Nat := 12; let p : BitVec 12 := 12; let m : BitVec 8 := 12; EngReady e s ∧ (engS s e).ev &&& m = 0) ∧
    (let s : State := s_wait; let e : Nat := 15; let m : BitVec 8 := 0x10#8; e < 16 ∧ powered s Domain.eng = true ∧ engRunning s e = true ∧ (engS s e).wait = some m ∧ (engS s e).ev &&& m ≠ 0) ∧
    (let s : State := s_wait2; let e : Nat := 15; let m : BitVec 8 := 0x01#8; e < 16 ∧ powered s Domain.eng = true ∧ engRunning s e = true ∧ (engS s e).wait = some m ∧ (engS s e).ev &&& m = 0) ∧
    (let s : State := s_t1; let e : Nat := 3; e < 16 ∧ (engS s e).timer = 1) ∧
    (let s : State := s_ill15; let e : Nat := 12; e < 16 ∧ (engS s e).timer ≠ 1) ∧
    (let s : State := s_wd; let e : Nat := 15; 12 ≤ e ∧ e < 16 ∧ engRunning s e = true ∧ getF s (Reg.UE_ENG_CFG_WDT_MS e) ≠ 0 ∧ getF s (Reg.UE_ENG_CFG_WDT_MS e) ≤ (engS s e).sinceMark) ∧
    (let s : State := s_ill15; let e : Nat := 12; 12 ≤ e ∧ e < 16 ∧ (engRunning s e = false ∨ getF s (Reg.UE_ENG_CFG_WDT_MS e) = 0 ∨ (engS s e).sinceMark < getF s (Reg.UE_ENG_CFG_WDT_MS e))) ∧
    (let s : State := s_tmo; powered s Domain.eng = true ∧ 4 ≤ getF s Reg.ENG_STEER_CFG_OWNER ∧ getF s Reg.ENG_STEER_CFG_TMO_MS ≤ s.engs.sinceCommit) ∧
    (let s : State := s_ill15; (powered s Domain.eng = false ∨ getF s Reg.ENG_STEER_CFG_OWNER < 4 ∨ s.engs.sinceCommit < getF s Reg.ENG_STEER_CFG_TMO_MS)) ∧
    (let s : State := s_free; let n : Nat := 127; n < 128 ∧ getB s Reg.PERF_PERF_CTRL_FREEZE = false ∧ cntErr s n = false ∧ getF s (Reg.CNT_CNT_CFG_EVENT n) ≠ 0 ∧ powered s Domain.eng = true) ∧
    (let s : State := s_e12; let n : Nat := 12; n < 128 ∧ getB s Reg.PERF_PERF_CTRL_FREEZE = true) ∧
    (let s : State := s_wd; let e : Nat := 12; let d : BitVec 4 := 12; let a : BitVec 4 := 12; let b : BitVec 4 := 12; let k : BitVec 8 := 12; let p : BitVec 12 := 12; let i : Instr := x_nop; e < 16 ∧ engIssues s e = false ∧ i ∈ [Instr.engineNop e, Instr.ueAdd e d a b, Instr.ueSub e d a b, Instr.ueAdds e d a b, Instr.ueSubs e d a b, Instr.ueAnd e d a b, Instr.ueOr e d a b, Instr.ueXor e d a b, Instr.ueShl e d a b, Instr.ueShr e d a b, Instr.ueSar e d a b, Instr.ueCmp e d a b, Instr.ueMul e d a b, Instr.ueMac e d a b, Instr.ueMsu e d a b, Instr.ueMulu e d a b, Instr.ueMacu e d a b, Instr.ueAccx e d a b, Instr.ueAccl e d a b, Instr.ueAsra e d a b, Instr.ueAcca e d a b, Instr.ueLd e d a b, Instr.ueSt e d a b, Instr.ueLdi e d k, Instr.ueLim e d k, Instr.ueLit e d k, Instr.ueAddi e d k, Instr.ueShli e d k, Instr.ueSari e d k, Instr.ueIn e d k, Instr.ueOutSel e d, Instr.ueOutMboxOut e d, Instr.ueOutTrimStage e d k, Instr.ueFtrimCommit e d, Instr.uePtrimCommit e d, Instr.ueOutTimer e d, Instr.ueOutIrq e d, Instr.ueWait e k, Instr.ueMark e k, Instr.ueJ e p, Instr.ueBz e p, Instr.ueBnz e p, Instr.ueBlt e p, Instr.ueBge e p, Instr.ueCall e p, Instr.ueRet e, Instr.ueHalt e]) ∧
    (let s : State := s_ill; let e : Nat := 12; let d : BitVec 4 := 12; let a : BitVec 4 := 12; let b : BitVec 4 := 12; let k : BitVec 8 := 12; let p : BitVec 12 := 12; let i : Instr := x_nop; e < 16 ∧ engIssues s e = true ∧ UInstr.decode (memGet (engS s e).iram (engS s e).pc.toNat) = none ∧ i ∈ [Instr.engineNop e, Instr.ueAdd e d a b, Instr.ueSub e d a b, Instr.ueAdds e d a b, Instr.ueSubs e d a b, Instr.ueAnd e d a b, Instr.ueOr e d a b, Instr.ueXor e d a b, Instr.ueShl e d a b, Instr.ueShr e d a b, Instr.ueSar e d a b, Instr.ueCmp e d a b, Instr.ueMul e d a b, Instr.ueMac e d a b, Instr.ueMsu e d a b, Instr.ueMulu e d a b, Instr.ueMacu e d a b, Instr.ueAccx e d a b, Instr.ueAccl e d a b, Instr.ueAsra e d a b, Instr.ueAcca e d a b, Instr.ueLd e d a b, Instr.ueSt e d a b, Instr.ueLdi e d k, Instr.ueLim e d k, Instr.ueLit e d k, Instr.ueAddi e d k, Instr.ueShli e d k, Instr.ueSari e d k, Instr.ueIn e d k, Instr.ueOutSel e d, Instr.ueOutMboxOut e d, Instr.ueOutTrimStage e d k, Instr.ueFtrimCommit e d, Instr.uePtrimCommit e d, Instr.ueOutTimer e d, Instr.ueOutIrq e d, Instr.ueWait e k, Instr.ueMark e k, Instr.ueJ e p, Instr.ueBz e p, Instr.ueBnz e p, Instr.ueBlt e p, Instr.ueBge e p, Instr.ueCall e p, Instr.ueRet e, Instr.ueHalt e]) := by
  refine ⟨?_, ?_, ?_, ?_, ?_, ?_, ?_, ?_, ?_, ?_, ?_, ?_, ?_, ?_, ?_, ?_, ?_, ?_, ?_⟩
  · simp only [← engB_iff]; decide +kernel
  · simp only [← engB_iff]; decide +kernel
  · simp only [← engB_iff]; decide +kernel
  · simp only [← engB_iff]; decide +kernel
  · simp only [← engB_iff]; decide +kernel
  · simp only [← engB_iff]; decide +kernel
  · simp only [← engB_iff]; decide +kernel
  · decide +kernel
  · decide +kernel
  · decide +kernel
  · decide +kernel
  · decide +kernel
  · decide +kernel
  · decide +kernel
  · decide +kernel
  · decide +kernel
  · decide +kernel
  · decide +kernel
  · decide +kernel

end Sys2Proof.Tests.EngineFlow

end
end

section
/-! PROOFS. How a command packet that is ready runs: its words read back from the header that its doorbell makes, it starts at once,
what it answers stands at its interface. -/

namespace Sys2Proof.Machine

/-! ### Reading fields of a word that is put together -/

theorem fieldOf_ofNat (x lo w : Nat) (h : lo + w ≤ 32) : fieldOf (BitVec.ofNat 32 x) lo w = x / 2 ^ lo % 2 ^ w := by
  unfold fieldOf bits
  rw [BitVec.toNat_ofNat, Nat.shiftRight_eq_div_pow, ← Nat.add_sub_of_le h, pow_add, pow_add]
  rw [mul_assoc, Nat.mod_mul_right_div_self, Nat.mod_mul_right_mod]

section header
variable (op tag len q : Nat) (reply : Bool)

theorem packetHeader_opcode (h : op < 256) : fieldOf (packetHeader op tag len false reply q) 24 8 = op := by
  unfold packetHeader; rw [fieldOf_ofNat _ _ _ (by norm_num)]
  cases reply <;> simp [Nat.shiftLeft_eq] <;> omega

theorem packetHeader_tag : fieldOf (packetHeader op tag len false reply q) 16 8 = tag % 256 := by
  unfold packetHeader; rw [fieldOf_ofNat _ _ _ (by norm_num)]
  cases reply <;> simp [Nat.shiftLeft_eq] <;> omega

theorem packetHeader_len (h : len < 1024) : fieldOf (packetHeader op tag len false reply q) 6 10 = len := by
  unfold packetHeader; rw [fieldOf_ofNat _ _ _ (by norm_num)]
  cases reply <;> simp [Nat.shiftLeft_eq] <;> omega

theorem packetHeader_queue (h : q < 4) : fieldOf (packetHeader op tag len false reply q) 2 2 = q := by
  unfold packetHeader; rw [fieldOf_ofNat _ _ _ (by norm_num)]
  cases reply <;> simp [Nat.shiftLeft_eq] <;> omega

theorem packetHeader_fence : fieldOf (packetHeader op tag len false reply q) 5 1 = 0 := by
  unfold packetHeader; rw [fieldOf_ofNat _ _ _ (by norm_num)]
  cases reply <;> simp [Nat.shiftLeft_eq] <;> omega

end header

/-! ### The packet of a doorbell -/

section packet
variable (op : Nat) (c : CmdCtx) (ws : List Word) (s : State)

@[simp] theorem packetAt_id : (packetAt op c ws s).id = s.cmd.nextId := rfl

@[simp] theorem packetAt_iface : (packetAt op c ws s).iface = c.iface := rfl

@[simp] theorem packetAt_slot : (packetAt op c ws s).slot = c.slot := rfl

@[simp] theorem packetAt_mute : (packetAt op c ws s).mute = false := rfl

@[simp] theorem packetAt_tag : (packetAt op c ws s).tag = c.tag % 256 := by
  simp [packetAt, packetOf, packetHeader_tag]

variable {op c ws s}

theorem packetAt_opcode (h : op < 256) : (packetAt op c ws s).opcode = op := by
  simp [packetAt, packetOf, packetHeader_opcode _ _ _ _ _ h]

theorem packetAt_queue (h : c.queue < 4) : (packetAt op c ws s).queue = c.queue := by
  unfold packetAt packetOf
  cases c.iface <;> simp [packetHeader_queue _ _ _ _ _ h]

theorem packetAt_fence (h : op < 256) : (packetAt op c ws s).fence = decide (op = 0xF1) := by
  simp [packetAt, packetOf, packetHeader_opcode _ _ _ _ _ h, packetHeader_fence]

theorem packetAt_words (h : ws.length < 1024) : (packetAt op c ws s).words = ws := by
  have hl : fieldOf (packetHeader op c.tag ws.length false c.reply c.queue) 6 10 = ws.length := packetHeader_len _ _ _ _ _ h
  refine List.ext_getElem (by simp [packetAt, packetOf, hl]) (fun i h1 h2 => ?_)
  simp [packetAt, packetOf, List.getD, h2]

end packet

/-! ### Arrival and start -/

section start
variable {op : Nat} {c : CmdCtx} {ws : List Word} {s : State}

/-- What the opcode table says of an opcode bounds it and its LEN (R314). -/
theorem opInfo_bounds {i : OpInfo} (h : opInfo op = some i) : op < 256 ∧ ∀ n, i.len n = true → n ≤ 512 := by
  unfold opInfo at h
  dsimp only at h
  split at h
  all_goals first
    | contradiction
    | (obtain rfl := Option.some.inj h
       refine ⟨by norm_num, fun n hn => ?_⟩
       simp only [Bool.and_eq_true, decide_eq_true_eq] at hn
       omega)

theorem cpServes_mode (h : cpServes s = true) : s.mode ≠ .reset ∧ s.mode ≠ .timekeep := by
  unfold cpServes at h
  constructor <;> rintro e <;> simp [e] at h

theorem PlaceFree.ifaceUp (h : PlaceFree c s) (hs : cpServes s = true) : ifaceUp s c.iface = true := by
  obtain ⟨hr, ht⟩ := cpServes_mode hs
  obtain ⟨-, -, h⟩ := h
  unfold Machine.ifaceUp
  cases e : c.iface <;> simp [e] at h ⊢ <;> simp [h, hr, ht]

theorem arrivalCheck_header (h : op < 256) (hi : (opInfo op).isSome) (hl : ws.length ≤ 512) :
    arrivalCheck (packetHeader op c.tag ws.length false c.reply c.queue) (1 + ws.length) = none := by
  have hn : (opInfo op).isNone = false := by simpa using Option.isNone_eq_false_iff.mpr hi
  unfold arrivalCheck
  rw [packetHeader_opcode _ _ _ _ _ h, packetHeader_len _ _ _ _ _ (by omega)]
  simp [hn]; omega

/-- The state in which the packet waits. -/
def arrived (op : Nat) (c : CmdCtx) (ws : List Word) (s : State) : State :=
  let t := occupy s (packetAt op c ws s)
  { t with cmd := { t.cmd with waiting := t.cmd.waiting ++ [packetAt op c ws s] } }

theorem arrive_ready (h : CanStart op c s) (ho : op < 256) (hi : (opInfo op).isSome) (hl : ws.length ≤ 512) :
    arrive s c.iface c.queue c.slot (1 + ws.length) (packetHeader op c.tag ws.length false c.reply c.queue :: ws) =
      (arrived op c ws s, some (packetAt op c ws s)) := by
  obtain ⟨hp, hs, -⟩ := h
  have hu := hp.ifaceUp hs
  obtain ⟨-, -, hf⟩ := hp
  unfold arrive
  rw [if_neg (by simp [hu, hs]), if_neg, if_neg]
  · have hc : arrivalCheck (packetAt op c ws s).header (1 + ws.length) = none := by
      simpa [packetAt, packetOf] using arrivalCheck_header (c := c) ho hi hl
    have e : packetOf s c.iface c.queue c.slot (1 + ws.length) (packetHeader op c.tag ws.length false c.reply c.queue :: ws)
        = packetAt op c ws s := rfl
    simp only [e, hc]
    rfl
  · rintro ⟨e, h8⟩; simp [e] at hf; omega
  · rintro ⟨e, h8⟩; simp [e] at hf; exact hf.2 h8


theorem arrived_waiting : (arrived op c ws s).cmd.waiting = s.cmd.waiting ++ [packetAt op c ws s] := by
  unfold arrived occupy; cases e : (packetAt op c ws s).iface <;> rfl

theorem arrived_running : (arrived op c ws s).cmd.running = s.cmd.running := by
  unfold arrived occupy; cases e : (packetAt op c ws s).iface <;> rfl

/-- The packet that has arrived is the head of its queue, and nothing holds it (R308). -/
theorem readyHead_arrived (h : CanStart op c s) (ho : op < 256) :
    readyHead (arrived op c ws s) (packetAt op c ws s).queue = some (packetAt op c ws s) := by
  obtain ⟨⟨hq, -, -⟩, -, hw, hr⟩ := h
  have hq' := packetAt_queue (op := op) (ws := ws) (s := s) hq
  have hfind : (arrived op c ws s).cmd.waiting.find? (fun p => decide (p.queue = (packetAt op c ws s).queue)) = some (packetAt op c ws s) := by
    rw [arrived_waiting, List.find?_append, List.find?_eq_none.mpr (fun r m => by simp [hq', (hw r m).1])]
    simp
  have hold : fenceHolds (arrived op c ws s) (packetAt op c ws s) = false := by
    unfold fenceHolds
    rw [arrived_waiting, arrived_running, packetAt_fence ho, hq']
    simp only [Bool.or_eq_false_iff, Bool.and_eq_false_imp, List.any_eq_false, Bool.and_eq_true, Bool.or_eq_true, decide_eq_true_eq,
      List.mem_append, List.mem_singleton]
    refine ⟨⟨fun e r m eq => ?_, fun r m => ?_⟩, ?_⟩
    · simpa [e] using ((hr r m).2 eq).2
    · rintro (⟨e, -⟩ | ⟨e, eq⟩)
      · exact (hr r m).1 e
      · exact ((hr r m).2 eq).1 e
    · rintro r (m | rfl) ⟨⟨e, hlt⟩, hne⟩
      · exact (hw r m).2 e
      · exact absurd hlt (lt_irrefl _)
  unfold readyHead
  simp only [hfind, hold]
  rfl

/-- A packet that can start starts at its doorbell. -/
theorem opPacket_starts (h : CanStart op c s) (ho : op < 256) (hi : (opInfo op).isSome) (hl : ws.length ≤ 512) :
    opPacket op c ws s = ok (acknowledge (startPacket (arrived op c ws s) (packetAt op c ws s)) (packetAt op c ws s)) := by
  have hh := readyHead_arrived (ws := ws) h ho
  have ha := arrive_ready h ho hi hl
  obtain ⟨⟨hq, hsl, hp⟩, -, -⟩ := h
  unfold opPacket
  dsimp only
  rw [if_neg, ha]
  · simp only [hh, if_true]
  · cases e : c.iface <;> simp [e] at hp ⊢ <;> omega

theorem startState_eq (h : CanStart op c s) (ho : op < 256) (hi : (opInfo op).isSome) (hl : ws.length ≤ 512) :
    startState op c ws s = takeUp (arrived op c ws s) (packetAt op c ws s) := by
  unfold startState; rw [arrive_ready h ho hi hl]

/-- What the start of a packet touches: its place, its queue, the counter of starts. -/
theorem CanStart.start_within (h : CanStart op c s) (ho : op < 256) (hi : (opInfo op).isSome) (hl : ws.length ≤ 512) :
    Within [.regs, .cmd, .out] [.perf] s (startState op c ws s) := by
  rw [startState_eq h ho hi hl]
  apply (takeUp_within _ _).after _ (by decide) (by decide)
  exact .upd (t := occupy s (packetAt op c ws s)) rfl rfl ((occupy_within _ _).mono (by decide) (by decide))
    (fun q hq => by cases q <;> first | exact absurd (by decide) hq | rfl)

theorem Within.frame {l : List StatePart} {g : List Area} {t u : State} (h : Within l g t u) : Frame l g t u := ⟨h.parts, h.regs⟩

/-- A field outside the groups that an operation may touch reads as before. -/
theorem Within.getF_eq {l : List StatePart} {g : List Area} {t u : State} (h : Within l g t u) {f : Fld} (hf : ∀ x ∈ g, ¬ x.has f.addr) :
    getF u f = getF t f := by
  unfold getF; rw [h.regs _ hf]

theorem Within.getB_eq {l : List StatePart} {g : List Area} {t u : State} (h : Within l g t u) {f : Fld} (hf : ∀ x ∈ g, ¬ x.has f.addr) :
    getB u f = getB t f := by
  unfold getB; rw [h.getF_eq hf]

/-- A packet that is ready passes the checks of R309 as it starts. -/
theorem startCheck_ready (h : Ready op c ws s) : startCheck (startState op c ws s) (packetAt op c ws s) = none := by
  obtain ⟨hs, i, hi, hm, ha, hl⟩ := h
  obtain ⟨ho, hn⟩ := opInfo_bounds hi
  have w := hs.start_within (ws := ws) ho (by rw [hi]; rfl) (hn _ hl)
  have hmode : (startState op c ws s).mode = s.mode := w.parts .mode (by decide)
  have haud : (startState op c ws s).aud = s.aud := w.parts .aud (by decide)
  have hfull : auditFull (startState op c ws s) = auditFull s := by
    unfold auditFull
    rw [w.getF_eq (by simp [Area.has, Reg.AUD_CFG_POLICY]), haud]
  have hw : (packetAt op c ws s).words = ws := packetAt_words (by have := hn _ hl; omega)
  unfold startCheck
  rw [packetAt_opcode ho, hi, hmode, hfull, hw]
  cases e : i.audited <;> simp [hm, hl, e] at ha ⊢
  simp [ha]

end start


/-! ### What leaves the device -/

/-- An output is a Sluice frame's. -/
def Output.isSluice : Output → Bool
  | .sluice .. => true
  | _ => false

/-- Outputs are only added, and no Sluice frame is among the added ones. -/
def OutGrows (s t : State) : Prop := ∃ l, t.out = s.out ++ l ∧ ∀ o ∈ l, o.isSluice = false

section grows
variable {s t u : State}

theorem OutGrows.same (h : t.out = s.out) : OutGrows s t := ⟨[], by simp [h], by simp⟩

theorem OutGrows.refl : OutGrows s s := .same rfl

/-- After an operation that reaches `t`, one that goes on from `t`. -/
theorem OutGrows.after (k : OutGrows t u) (h : OutGrows s t) : OutGrows s u := by
  obtain ⟨l, hl, pl⟩ := h
  obtain ⟨m, hm, pm⟩ := k
  exact ⟨l ++ m, by rw [hm, hl, List.append_assoc], fun o ho => (List.mem_append.mp ho).elim (pl o) (pm o)⟩

theorem OutGrows.ite {c : Prop} [Decidable c] (ht : OutGrows s t) (hu : OutGrows s u) : OutGrows s (if c then t else u) := by
  split
  · exact ht
  · exact hu

theorem OutGrows.fold {α : Type} {f : State → α → State} (k : ∀ t x, OutGrows t (f t x)) (xs : List α) : OutGrows s (xs.foldl f s) := by
  induction xs generalizing s with
  | nil => exact .refl
  | cons x r ih => exact ih.after (k s x)

theorem OutGrows.mem (h : OutGrows s t) {o : Output} (ho : o ∈ s.out) : o ∈ t.out := by
  obtain ⟨l, hl, -⟩ := h
  rw [hl]; exact List.mem_append_left l ho

theorem OutGrows.sluice_mem (h : OutGrows s t) {o : Output} (ho : o.isSluice = true) (m : o ∈ t.out) : o ∈ s.out := by
  obtain ⟨l, hl, pl⟩ := h
  rw [hl] at m
  refine (List.mem_append.mp m).resolve_right (fun k => ?_)
  rw [pl o k] at ho; cases ho

/-- An operation that touches no output adds none. -/
theorem Within.outGrows {l : List StatePart} {g : List Area} (h : Within l g s t) (ho : StatePart.out ∉ l) : OutGrows s t :=
  .same (h.parts .out ho)

end grows

theorem emit_grows (s : State) {o : Output} (h : o.isSluice = false) : OutGrows s (emit s o) := ⟨[o], rfl, by simpa using h⟩

theorem msixEdges_grows (old : Nat) (s : State) : OutGrows s (msixEdges old s) := by
  unfold msixEdges
  exact .ite (.fold (fun _ _ => .ite (emit_grows _ rfl) .refl) _) .refl

theorem raise_grows (s : State) (f : Fld) : OutGrows s (raise s f) := (msixEdges_grows _ _).after (.same rfl)

theorem raiseIf_grows (b : Bool) (s : State) (f : Fld) : OutGrows s (raiseIf b s f) := .ite (raise_grows s f) .refl

theorem cntAdd_grows (s : State) (n k : Nat) : OutGrows s (cntAdd s n k) := by
  unfold cntAdd
  dsimp only
  apply (raiseIf_grows _ _ _).after
  exact .same (setHL_out _ _ _ _)

theorem perf_grows (s : State) (ev req a cls k : Nat) : OutGrows s (perf s ev req a cls k) := by
  unfold perf
  apply OutGrows.ite .refl
  apply OutGrows.fold
  intro t n
  exact .ite (cntAdd_grows t n k) .refl

theorem audit_grows (s : State) (kind : Nat) (rej ali : Bool) (req : Nat) (w4 w5 w6 w7 : Word) :
    OutGrows s (audit s kind rej ali req w4 w5 w6 w7) :=
  (raiseIf_grows _ _ _).after (.ite ((raise_grows _ _).after (.same rfl)) (.same rfl))

theorem auditCommand_grows (s : State) (p : Packet) (st : Status) : OutGrows s (auditCommand s p st) :=
  (audit_grows _ _ _ _ _ _ _ _ _).after (.same (by unfold auditAddr; split <;> rfl))

theorem cpLate_grows (s : State) (late : Bool) (p : Packet) : OutGrows s (cpLate s late p) :=
  .ite ((perf_grows _ _ _ _ _ _).after ((raise_grows _ _).after (.same rfl))) .refl

theorem ctlSend_grows (s : State) (n kind hops path : Nat) (words : List Word) (tag : Word → List Word) :
    OutGrows s (ctlSend s n kind hops path words tag) := by
  unfold ctlSend ctlOut
  exact .after (.ite ((emit_grows _ rfl).after (.same rfl)) .refl) (.same rfl)

theorem ctlReply_grows (s : State) (n : Nat) (ws : List Word) : OutGrows s (ctlReply s n ws) := by
  unfold ctlReply
  split
  · exact (ctlSend_grows _ _ _ _ _ _ _).after (emit_grows _ rfl)
  · exact .refl

theorem writeReply_grows (s : State) (p : Packet) (final : Bool) (st : Status) (ws : List Word) : OutGrows s (writeReply s p final st ws) := by
  unfold writeReply
  cases p.iface with
  | pcie =>
    dsimp only
    have freed : OutGrows s (if final then { s with cmd := { s.cmd with slots := s.cmd.slots.erase (p.queue, p.slot) } } else s) := by
      split <;> exact .same rfl
    have told (q n : Nat) (words : List Word) : OutGrows s (emit (setReplySlot (if final then { s with cmd := { s.cmd with slots := s.cmd.slots.erase (p.queue, p.slot) } } else s) q n words) (.pcieReply q n words)) :=
      (emit_grows _ rfl).after ((OutGrows.same rfl).after freed)
    split
    · exact .refl
    · split
      · split
        · exact (emit_grows _ rfl).after (told _ _ _)
        · exact told _ _ _
      · exact freed
  | spi =>
    dsimp only
    exact (msixEdges_grows _ _).after (.same rfl)
  | jieth n =>
    dsimp only
    split
    · exact ctlReply_grows _ _ _
    · exact .refl

/-! ### The final reply -/

/-- A completion is its final reply, after the deadline, the log and the counters have been seen to. -/
theorem finish_replies (s : State) (p : Packet) (st : Status) (ws : List Word) :
    ∃ t, finish s p st ws = writeReply t p true st ws ∧ Within [.regs, .cmd, .aud, .out] [.perf, .aud, .cmd] s t ∧
      t.cmd = { s.cmd with running := s.cmd.running.filter (fun r => r.id ≠ p.id) } ∧ OutGrows s t := by
  have w1 : Within [.regs, .cmd, .aud, .out] [.perf, .aud, .cmd] s (cpLate s (pastBound s p) p) :=
    (cpLate_within s (pastBound s p) p).mono (by decide) (by decide)
  have hcmd : (cpLate s (pastBound s p) p).cmd = s.cmd := (cpLate_within s (pastBound s p) p).parts .cmd (by decide)
  have hgrow : OutGrows s (cpLate s (pastBound s p) p) := cpLate_grows _ _ _
  unfold finish
  dsimp only
  generalize cpLate s (pastBound s p) p = t0 at *
  generalize hs1 : ({ t0 with cmd := { t0.cmd with running := t0.cmd.running.filter (fun r => r.id ≠ p.id) } } : State) = t1
  have w2 : Within [.regs, .cmd, .aud, .out] [.perf, .aud, .cmd] s t1 := by
    subst hs1; exact .upd (t := t0) rfl rfl w1 (fun q hq => by cases q <;> first | exact absurd (by decide) hq | rfl)
  have hcmd2 : t1.cmd = { s.cmd with running := s.cmd.running.filter (fun r => r.id ≠ p.id) } := by subst hs1; rw [← hcmd]
  have hgrow2 : OutGrows s t1 := by subst hs1; exact (OutGrows.same rfl).after hgrow
  refine ⟨_, rfl, ?_, ?_, ?_⟩
  · apply (histOffer_within _ _ _ _).after _ (by decide) (by decide)
    apply (perf_within _ _ _ _ _ _).after _ (by decide) (by decide)
    exact .ite ((auditCommand_within _ _ _).after w2 (by decide) (by decide)) w2
  · rw [(histOffer_within _ _ _ _).parts .cmd (by decide), (perf_within _ _ _ _ _ _).parts .cmd (by decide), ite_cmd,
      (auditCommand_within _ _ _).parts .cmd (by decide), ite_self, hcmd2]
  · apply ((histOffer_within _ _ _ _).outGrows (by decide)).after
    apply (perf_grows _ _ _ _ _ _).after
    exact .ite ((auditCommand_grows _ _ _).after hgrow2) hgrow2

theorem finish_grows (s : State) (p : Packet) (st : Status) (ws : List Word) : OutGrows s (finish s p st ws) := by
  obtain ⟨t, ht, -, -, hg⟩ := finish_replies s p st ws
  rw [ht]; exact (writeReply_grows _ _ _ _ _).after hg

theorem ctlReply_cmd (s : State) (n : Nat) (ws : List Word) : (ctlReply s n ws).cmd = s.cmd := by
  unfold ctlReply ctlSend ctlOut
  split
  · dsimp only; split <;> simp [jiethSend]
  · rfl

/-- A reply leaves the queues alone. -/
theorem writeReply_queues (s : State) (p : Packet) (final : Bool) (st : Status) (ws : List Word) :
    (writeReply s p final st ws).cmd.waiting = s.cmd.waiting ∧ (writeReply s p final st ws).cmd.running = s.cmd.running := by
  unfold writeReply
  cases p.iface with
  | pcie => dsimp only; split_ifs <;> exact ⟨rfl, rfl⟩
  | spi => simp
  | jieth n => dsimp only; split_ifs <;> simp [ctlReply_cmd]

theorem finish_waiting (s : State) (p : Packet) (st : Status) (ws : List Word) : (finish s p st ws).cmd.waiting = s.cmd.waiting := by
  obtain ⟨t, ht, -, hc, -⟩ := finish_replies s p st ws
  rw [ht, (writeReply_queues _ _ _ _ _).1, hc]

theorem finish_running (s : State) (p : Packet) (st : Status) (ws : List Word) :
    (finish s p st ws).cmd.running = s.cmd.running.filter (fun r => r.id ≠ p.id) := by
  obtain ⟨t, ht, -, hc, -⟩ := finish_replies s p st ws
  rw [ht, (writeReply_queues _ _ _ _ _).2, hc]

/-- What an SPI buffer of a packet holds after its final reply (R306). -/
theorem spiReply_final (l : List SpiBuf) {b : SpiBuf} (hb : b ∈ l) (words : List Word) :
    ∃ x ∈ spiReply l b.id true words, x.words = some words ∧ x.final = true := by
  unfold spiReply
  cases hf : l.find? (fun x => decide (x.id = b.id)) with
  | none => exact absurd (List.find?_eq_none.mp hf b hb) (by simp)
  | some y =>
    have hy : y ∈ l ∧ y.id = b.id := ⟨List.mem_of_find?_eq_some hf, by simpa using List.find?_some hf⟩
    dsimp only
    split
    · exact ⟨_, List.mem_map.mpr ⟨y, hy.1, if_pos hy.2⟩, rfl, rfl⟩
    · exact ⟨_, List.mem_append_right _ (List.mem_singleton.mpr rfl), rfl, rfl⟩

section answered
variable {op : Nat} {c : CmdCtx} {ws : List Word} {s : State}

/-- The place of a packet has stayed: its SPI buffer is still there, and no packet of its number waits. -/
def PlaceKept (c : CmdCtx) (s u : State) : Prop :=
  (∀ r ∈ u.cmd.waiting, r.id ≠ s.cmd.nextId) ∧ (c.iface = .spi → ∃ b ∈ u.cmd.spi, b.id = s.cmd.nextId)

/-- The final reply of a packet stands where its interface keeps it. -/
theorem finish_answered (hq : c.queue < 4) {u : State} (hk : c.iface = .spi → ∃ b ∈ u.cmd.spi, b.id = s.cmd.nextId) (st : Status) (w : List Word) :
    Answered c (finish u (packetAt op c ws s) st w) st w := by
  obtain ⟨t, ht, -, hc, -⟩ := finish_replies u (packetAt op c ws s) st w
  have hw := writeReply_within t (packetAt op c ws s) true st w
  have hmode : (writeReply t (packetAt op c ws s) true st w).mode = t.mode := hw.parts .mode (by decide)
  have hhead : replyHeader (writeReply t (packetAt op c ws s) true st w) true w.length st c.tag = replyHeader t true w.length st (packetAt op c ws s).tag := by
    simp [replyHeader, hmode]
  rw [ht]
  unfold Answered
  rw [hhead]
  cases hi : c.iface with
  | pcie =>
    intro words hup
    have hup' : t.pcieUp = true := by rw [← hw.parts .pcieUp (by decide)]; exact hup
    simp only [writeReply, packetAt_iface, hi, packetAt_mute, packetAt_queue hq, packetAt_slot, setReplySlot, hup', if_true,
      Bool.false_eq_true, if_false]
    split <;> exact List.mem_append_right _ (List.mem_singleton.mpr rfl)
  | spi =>
    obtain ⟨b, hb, e⟩ := hk hi
    simp only [writeReply, packetAt_iface, hi, packetAt_id, msixEdges_cmd]
    rw [← e]
    exact spiReply_final _ (by rw [hc]; exact hb) _
  | jieth n =>
    intro words hup
    have hup' : linkCarries t n = true := by
      unfold linkCarries getF at hup ⊢; rwa [hw.regs _ (by simp)] at hup
    simp only [writeReply, packetAt_iface, hi, ctlReply, hup', if_true]
    exact (ctlSend_grows _ _ _ _ _ _ _).mem (by simp [words])

/-- The packets once a packet has started (R308). -/
theorem startState_cmd (h : CanStart op c s) (ho : op < 256) (hi : (opInfo op).isSome) (hl : ws.length ≤ 512) :
    (startState op c ws s).cmd = { (arrived op c ws s).cmd with
      waiting := (arrived op c ws s).cmd.waiting.filter (fun r => decide (r.id ≠ s.cmd.nextId))
      running := s.cmd.running ++ [{ packetAt op c ws s with startAt := (arrived op c ws s).now }]
      lastQ := (packetAt op c ws s).queue } := by
  rw [startState_eq h ho hi hl, ← arrived_running (op := op) (c := c) (ws := ws)]; unfold takeUp
  rw [(perf_within _ _ _ _ _ _).parts .cmd (by decide)]; rfl

/-- What a start leaves of the queues and the SPI buffers (R306, R308). -/
theorem startState_place (h : CanStart op c s) (ho : op < 256) (hi : (opInfo op).isSome) (hl : ws.length ≤ 512) :
    PlaceKept c s (startState op c ws s) := by
  rw [PlaceKept, startState_cmd h ho hi hl]
  refine ⟨fun r m => of_decide_eq_true (List.mem_filter.mp m).2, fun e => ⟨{ id := s.cmd.nextId, reply := (packetAt op c ws s).reply }, ?_, rfl⟩⟩
  simp [arrived, occupy, e]

theorem PlaceKept.congr {u v : State} (h : PlaceKept c s u) (hc : v.cmd = u.cmd) : PlaceKept c s v := by
  unfold PlaceKept at *; rwa [hc]

/-- A command that answers at once completes its packet: what follows its effect is the completion. -/
theorem opPacket_completes (h : Ready op c ws s) {u : State} {st : Status} {w : List Word}
    (hr : runOpcode (startState op c ws s) (packetAt op c ws s) = (u, some (st, w))) (hk : PlaceKept c s u) :
    opPacket op c ws s = ok (finish u (packetAt op c ws s) st w) := by
  have hc := startCheck_ready h
  obtain ⟨hs, i, hi, -, -, hlen⟩ := h
  obtain ⟨ho, hb⟩ := opInfo_bounds hi
  have hsome : (opInfo op).isSome := by rw [hi]; rfl
  have hl := hb _ hlen
  have hwait : (finish u (packetAt op c ws s) st w).cmd.waiting.any (fun r => decide (r.id = (packetAt op c ws s).id)) = false := by
    rw [finish_waiting]; exact List.any_eq_false.mpr (fun r m e => hk.1 r m (of_decide_eq_true e))
  have hrun : isRunning (finish u (packetAt op c ws s) st w) (packetAt op c ws s).id = false := by
    unfold isRunning; rw [finish_running]; exact List.any_eq_false.mpr (fun r m e => of_decide_eq_true (List.mem_filter.mp m).2 (of_decide_eq_true e))
  rw [opPacket_starts hs ho hsome hl]
  unfold startPacket
  simp only [← startState_eq hs ho hsome hl, hc, hr]
  unfold acknowledge
  rw [hwait, hrun]; rfl

/-- What a completion with an answer leaves: the answer, and nothing touched beside it but packets, the log and the counters. -/
theorem opPacket_answers (h : Ready op c ws s) {u : State} {st : Status} {w : List Word}
    (hr : runOpcode (startState op c ws s) (packetAt op c ws s) = (u, some (st, w))) (hk : PlaceKept c s u) :
    Completes (opPacket op c ws s) fun t =>
      Answered c t st w ∧ Within [.regs, .jieth, .cmd, .aud, .out] [.perf, .aud, .cmd] u t :=
  ⟨_, opPacket_completes h hr hk, finish_answered h.1.1.1 hk.2 st w, finish_within _ _ _ _⟩

theorem Ready.opcode_lt (h : Ready op c ws s) : op < 256 := by
  obtain ⟨-, i, hi, -⟩ := h
  exact (opInfo_bounds hi).1

theorem Ready.words (h : Ready op c ws s) : (packetAt op c ws s).words = ws := by
  obtain ⟨-, i, hi, -, -, hl⟩ := h
  have := (opInfo_bounds hi).2 _ hl
  exact packetAt_words (by omega)

theorem Ready.opcode (h : Ready op c ws s) : (packetAt op c ws s).opcode = op := packetAt_opcode h.opcode_lt

theorem Ready.place (h : Ready op c ws s) : PlaceKept c s (startState op c ws s) := by
  obtain ⟨hs, i, hi, -, -, hl⟩ := h
  obtain ⟨ho, hb⟩ := opInfo_bounds hi
  exact startState_place hs ho (by rw [hi]; rfl) (hb _ hl)

theorem Ready.start_within (h : Ready op c ws s) : Within [.regs, .cmd, .out] [.perf] s (startState op c ws s) := by
  obtain ⟨hs, i, hi, -, -, hl⟩ := h
  obtain ⟨ho, hb⟩ := opInfo_bounds hi
  exact hs.start_within ho (by rw [hi]; rfl) (hb _ hl)

/-- Where no packet of an opcode runs, none but the started one does. -/
theorem Ready.runs_alone (h : Ready op c ws s) {k : Nat} (hr : ∀ r ∈ s.cmd.running, r.opcode ≠ k) :
    (startState op c ws s).cmd.running.any (fun r => decide (r.opcode = k) && decide (r.id ≠ (packetAt op c ws s).id)) = false := by
  obtain ⟨hs, i, hi, -, -, hl⟩ := h
  obtain ⟨ho, hb⟩ := opInfo_bounds hi
  rw [startState_cmd hs ho (by rw [hi]; rfl) (hb _ hl)]
  simp only [List.any_append, List.any_cons, List.any_nil, Bool.or_false, List.any_eq_false, ne_eq, not_true_eq_false,
    decide_false, Bool.and_false, Bool.and_eq_true, decide_eq_true_eq, not_and]
  exact fun r m e => absurd e (hr r m)

/-- A command whose effect keeps within a frame and leaves the packets alone completes within the packet frame around it. -/
theorem opPacket_answers_frame (h : Ready op c ws s) {u : State} {st : Status} {w : List Word} {l : List StatePart} {g : List Area}
    (hr : runOpcode (startState op c ws s) (packetAt op c ws s) = (u, some (st, w))) (hu : Within l g (startState op c ws s) u)
    (hc : StatePart.cmd ∉ l) :
    Completes (opPacket op c ws s) fun t =>
      Answered c t st w ∧ PacketFrame l g s t ∧ Within [.regs, .jieth, .cmd, .aud, .out] [.perf, .aud, .cmd] u t := by
  obtain ⟨t, ht, ha, hw⟩ := opPacket_answers h hr (h.place.congr (hu.parts .cmd hc))
  have k0 : Within [.regs, .jieth, .cmd, .aud, .out] [.perf, .aud, .cmd] s (startState op c ws s) := h.start_within.mono (by decide) (by decide)
  have k1 := hu.after (k0.mono (List.subset_append_left _ l) (List.subset_append_left _ g)) (List.subset_append_right _ _) (List.subset_append_right _ _)
  have k := hw.after k1 (List.subset_append_left _ _) (List.subset_append_left _ _)
  have hf : PacketFrame l g s t := k.frame
  exact ⟨t, ht, ha, hf, hw⟩

/-- A command that is denied changes nothing but what its answer does. -/
theorem opPacket_denies (h : Ready op c ws s) {st : Status}
    (hr : runOpcode (startState op c ws s) (packetAt op c ws s) = deny (startState op c ws s) st) :
    Completes (opPacket op c ws s) fun t => t.mode = s.mode ∧ Answered c t st [] ∧ PacketFrame [] [] s t := by
  obtain ⟨t, ht, ha, hf, -⟩ := opPacket_answers_frame h hr (.refl (l := []) (g := [])) (by decide)
  exact ⟨t, ht, hf.1 .mode (by decide), ha, hf⟩

end answered
end Sys2Proof.Machine

end

section
/-! PROOFS. Which mode an entry, a choice of the selector and a domain going off leave (R24, R25). -/

namespace Sys2Proof.Machine

/-! ### Entry to a mode -/

theorem enterMode_mode (s : State) (m : Mode) : (enterMode s m).mode = m := by
  unfold enterMode
  dsimp only
  rw [(evalTrims_within _).parts .mode (by decide), (modeEntered_within _ _ _).parts .mode (by decide), ite_mode,
    (leaveConfig_within _).parts .mode (by decide), ite_self]
  rfl

theorem enterFreerun_mode (s : State) : (enterFreerun s).mode = .freerun := by
  unfold enterFreerun
  rw [(requestWord_within _ _).parts .mode (by decide), enterMode_mode]

/-! ### The selector with nothing selected -/

/-- With nothing selected the selector may select, and leaves the mode alone. -/
theorem settleChoice_unselected {s : State} (h : selected s = none) :
    Within [.regs, .clk, .tim, .sel, .gauges, .out, .freeCtr] [.clk, .dll, .time, .ref, .slot] s (settleChoice s) := by
  have ht := testedChoice_within 8 s
  unfold settleChoice
  simp only [h]
  generalize testedChoice 8 s = r at ht ⊢
  obtain ⟨t, b⟩ := r
  have ht' : Within [.regs, .clk, .tim, .sel, .gauges, .out, .freeCtr] [.clk, .dll, .time, .ref, .slot] s t := ht.mono (by decide) (by decide)
  cases b with
  | none => exact ht'
  | some b => exact (selectDirect_within t b).after ht' (by decide) (by decide)

theorem applyChoice_unselected {s : State} (h : selected s = none) (hs : s.sel.sw = none) :
    Within [.regs, .clk, .tim, .sel, .gauges, .out, .freeCtr] [.clk, .dll, .time, .ref, .slot] s (applyChoice s) := by
  have hl : sourceLost s = s := by unfold sourceLost; simp [hs]
  unfold applyChoice
  simp only [hl, hs]
  exact settleChoice_unselected h

theorem selected_noteEligible (s : State) : selected (noteEligible s) = selected s := rfl

theorem reselect_unselected_acquire {s : State} (hm : s.mode = .acquire) (h : selected s = none) (hs : s.sel.sw = none) :
    (reselect s).mode = .acquire := by
  have hm' : (noteEligible s).mode = .acquire := hm
  unfold reselect
  simp only [hm', selecting, Bool.not_true, decide_false, Bool.false_and, Bool.false_eq_true, if_false, reduceCtorEq,
    Bool.or_self]
  rw [(applyChoice_unselected ((selected_noteEligible s).trans h) hs).parts .mode (by decide)]
  exact hm

/-! ### BENCH stays (R24, R27) -/

/-- An operation keeps BENCH, and every packet that waits and every SPI buffer. -/
structure BenchKept (s t : State) : Prop where
  mode : s.mode = .bench → t.mode = .bench
  waiting : t.cmd.waiting = s.cmd.waiting
  spi : ∀ id, (∃ b ∈ s.cmd.spi, b.id = id) → ∃ b ∈ t.cmd.spi, b.id = id

section bench
variable {s t u : State}

theorem BenchKept.refl : BenchKept s s := ⟨id, rfl, fun _ => id⟩

/-- After an operation that reaches `t`, one that goes on from `t`. -/
theorem BenchKept.after (k : BenchKept t u) (h : BenchKept s t) : BenchKept s u :=
  ⟨fun m => k.mode (h.mode m), k.waiting.trans h.waiting, fun i e => k.spi i (h.spi i e)⟩

theorem BenchKept.ite {c : Prop} [Decidable c] (ht : BenchKept s t) (hu : BenchKept s u) : BenchKept s (if c then t else u) := by
  split
  · exact ht
  · exact hu

theorem BenchKept.fold {α : Type} {f : State → α → State} (k : ∀ t x, BenchKept t (f t x)) (xs : List α) : BenchKept s (xs.foldl f s) := by
  induction xs generalizing s with
  | nil => exact .refl
  | cons x r ih => exact ih.after (k s x)

theorem BenchKept.same (hm : t.mode = s.mode) (hc : t.cmd = s.cmd) : BenchKept s t := ⟨hm.trans, by rw [hc], fun i => by rw [hc]; exact id⟩

/-- An operation that touches no packet, and keeps BENCH. -/
theorem Within.benchKept' {l : List StatePart} {g : List Area} (h : Within l g s t) (hc : StatePart.cmd ∉ l)
    (hm : s.mode = .bench → t.mode = .bench) : BenchKept s t := by
  have e : t.cmd = s.cmd := h.parts .cmd hc
  exact ⟨hm, by rw [e], fun i => by rw [e]; exact id⟩

/-- An operation that touches neither the mode nor a packet. -/
theorem Within.benchKept {l : List StatePart} {g : List Area} (h : Within l g s t) (hc : StatePart.cmd ∉ l) (hm : StatePart.mode ∉ l) :
    BenchKept s t := h.benchKept' hc (fun e => Eq.trans (h.parts .mode hm) e)

end bench

/-- The loss of all references leaves BENCH (R27). -/
theorem lossOfAll_bench {s : State} (h : s.mode = .bench) (lost : Option Nat) : (lossOfAll s lost).mode = .bench := by
  unfold lossOfAll
  dsimp only
  have hm : (rootInput { raise (dropSelection (beginCoast s lost)) Reg.TIME_EVENTS_TRACE_LOST with tim := { (raise (dropSelection (beginCoast s lost)) Reg.TIME_EVENTS_TRACE_LOST).tim with pend := none } } none).mode = .bench := by
    rw [(rootInput_within _ _).parts .mode (by decide)]
    simp only [raise_mode]
    rw [(dropSelection_within _).parts .mode (by decide), (beginCoast_within _ _).parts .mode (by decide), h]
  rw [if_pos hm, (requestWord_within _ _).parts .mode (by decide), (publishHold_within _).parts .mode (by decide), hm]

theorem settleChoice_bench {s : State} (h : s.mode = .bench) : (settleChoice s).mode = .bench := by
  cases hs : selected s with
  | none => rw [(settleChoice_unselected hs).parts .mode (by decide), h]
  | some a =>
    unfold settleChoice
    simp only [hs]
    rw [if_neg (by simp [h])]
    split
    · split
      · exact h
      · rw [(switchFrom_within _ _ _).parts .mode (by decide), h]
    · split
      · exact h
      · exact lossOfAll_bench h _

theorem abortTo_bench {s : State} (h : s.mode = .bench) (w : Switch) : (abortTo s w).mode = .bench := by
  have h1 : (abortSwitch s).mode = .bench := by rw [(abortSwitch_within _).parts .mode (by decide), h]
  unfold abortTo
  dsimp only
  split
  · exact settleChoice_bench h1
  · split
    · rw [(switchLost_within _ _ _ _).parts .mode (by decide), h1]
    · exact lossOfAll_bench h1 _

theorem switchChoice_bench {s : State} (h : s.mode = .bench) (w : Switch) : (switchChoice s w).mode = .bench := by
  unfold switchChoice
  rw [if_neg (by simp [h])]
  dsimp only
  split
  · split
    · split
      · rw [(switchLost_within _ _ _ _).parts .mode (by decide), h]
      · exact lossOfAll_bench h _
    · exact abortTo_bench h w
  · split
    · split
      · rw [(startSwitch_within _ _ _ _ _).parts .mode (by decide), (abortSwitch_within _).parts .mode (by decide), h]
      · exact h
    · exact h

theorem applyChoice_bench {s : State} (h : s.mode = .bench) : (applyChoice s).mode = .bench := by
  have h1 : (sourceLost s).mode = .bench := by rw [(sourceLost_within _).parts .mode (by decide), h]
  unfold applyChoice
  dsimp only
  split
  · exact switchChoice_bench h1 _
  · exact settleChoice_bench h1

theorem reselect_bench (s : State) : BenchKept s (reselect s) := by
  refine (reselect_within s).benchKept' (by decide) (fun h => ?_)
  have hm : (noteEligible s).mode = .bench := h
  unfold reselect
  simp only [hm, selecting, Bool.not_true, decide_false, Bool.false_and, Bool.false_eq_true, if_false, reduceCtorEq,
    Bool.or_self]
  exact applyChoice_bench h

theorem setF_benchKept (s : State) (f : Fld) (x : Nat) : BenchKept s (setF s f x) := .same rfl rfl

theorem raise_benchKept (s : State) (f : Fld) : BenchKept s (raise s f) := .same (raise_mode s f) (raise_cmd s f)

theorem loseSlots_bench (s : State) (l : List Nat) : BenchKept s (loseSlots s l) := by
  unfold loseSlots
  split
  · exact .refl
  · apply (reselect_bench _).after
    apply (raise_benchKept _ _).after
    apply BenchKept.fold
    exact fun t n => (loseSlot_within t n true).benchKept (by decide) (by decide)

theorem loseSource_bench (s : State) (ty ix : Nat) : BenchKept s (loseSource s ty ix) := by
  unfold loseSource
  dsimp only
  apply (loseSlots_bench _ _).after
  apply BenchKept.fold
  exact fun t n => setF_benchKept _ _ _

theorem phaseLose_bench (s : State) (p : Nat) : BenchKept s (phaseLose s p) := by
  unfold phaseLose
  dsimp only
  split
  · exact (loseSource_bench _ _ _).after (.same (by simp) (by simp))
  · exact .same rfl rfl

theorem endCal_bench (s : State) : BenchKept s (endCal s) :=
  (endCal_within s).benchKept' (by decide) (fun h => by unfold endCal; rw [if_neg (by simp [h])]; exact h)

theorem headFail_bench (s : State) : BenchKept s (headFail s) := by
  unfold headFail headDone
  dsimp only
  split
  · refine (endCal_bench _).after (((startHead_within _).benchKept (by decide) (by decide)).after ?_)
    exact .same (by simp) (by simp)
  · exact ((startHead_within _).benchKept (by decide) (by decide)).after (.same rfl rfl)

theorem calPowerDown_bench (s : State) (d : Domain) : BenchKept s (calPowerDown s d) := by
  unfold calPowerDown
  dsimp only
  split
  · exact .refl
  · apply (endCal_bench _).after
    apply BenchKept.ite
    · exact .same (by simp) (by simp)
    · exact ((startHead_within _).benchKept (by decide) (by decide)).after (.same (by simp) (by simp))

theorem bermAbandon_bench (s : State) (p : Nat) : BenchKept s (bermAbandon s p) := by
  unfold bermAbandon
  split
  · split
    · rename_i r _ _
      have ended : BenchKept s (raise (setF { s with ports := { s.ports with bermWin := none } } (Reg.PORT_TT_STATUS_BERM_BUSY p) 0) (Reg.PORT_TT_EVENTS_BERM_ABANDONED p)) :=
        .same (by simp) (by simp)
      dsimp only
      split
      · split
        · split
          · exact (headFail_bench _).after ended
          · exact ended
        · exact ended
      · split
        · exact ((bermAsk_within _ _).benchKept (by decide) (by decide)).after (((updPort_within _ _ _).benchKept (by decide) (by decide)).after ended)
        · exact ((updPort_within _ _ _).benchKept (by decide) (by decide)).after ended
    · exact .refl
  · exact .refl

/-! ### Completions keep the queues and the buffers -/

theorem spiReply_keeps (l : List SpiBuf) (k : Nat) (final : Bool) (words : List Word) {id : Nat} (h : ∃ b ∈ l, b.id = id) :
    ∃ b ∈ spiReply l k final words, b.id = id := by
  obtain ⟨b, hb, e⟩ := h
  unfold spiReply
  cases hf : l.find? (fun x => decide (x.id = k)) with
  | none => exact ⟨b, hb, e⟩
  | some y =>
    have hy : y ∈ l ∧ y.id = k := ⟨List.mem_of_find?_eq_some hf, by simpa using List.find?_some hf⟩
    dsimp only
    by_cases hk : id = k
    · split
      · exact ⟨_, List.mem_map.mpr ⟨y, hy.1, if_pos hy.2⟩, hy.2.trans hk.symm⟩
      · exact ⟨_, List.mem_append_right _ (List.mem_singleton.mpr rfl), hy.2.trans hk.symm⟩
    · split
      · exact ⟨_, List.mem_map.mpr ⟨b, hb, if_neg (fun h => hk (e.symm.trans h))⟩, e⟩
      · exact ⟨b, List.mem_append_left _ (List.mem_filter.mpr ⟨hb, by simpa [e] using hk⟩), e⟩

theorem writeReply_spi (s : State) (p : Packet) (final : Bool) (st : Status) (ws : List Word) {id : Nat} (h : ∃ b ∈ s.cmd.spi, b.id = id) :
    ∃ b ∈ (writeReply s p final st ws).cmd.spi, b.id = id := by
  unfold writeReply
  cases p.iface with
  | pcie => dsimp only; split_ifs <;> exact h
  | spi => simpa using spiReply_keeps _ _ _ _ h
  | jieth n => dsimp only; split_ifs <;> simpa [ctlReply_cmd] using h

theorem finish_bench (s : State) (p : Packet) (st : Status) (ws : List Word) : BenchKept s (finish s p st ws) where
  mode h := Eq.trans ((finish_within s p st ws).parts .mode (by decide)) h
  waiting := finish_waiting s p st ws
  spi i h := by
    obtain ⟨t, ht, -, hc, -⟩ := finish_replies s p st ws
    rw [ht]; exact writeReply_spi _ _ _ _ _ (by rw [hc]; exact h)

theorem finishId_bench (s : State) (id : Option Nat) (st : Status) (ws : List Word) : BenchKept s (finishId s id st ws) := by
  unfold finishId
  split
  · exact .refl
  · split
    · exact finish_bench _ _ _ _
    · exact .refl

/-! ### The domains off in BENCH -/

theorem fabricDown_bench (s : State) (f : Nat) : BenchKept s (fabricDown s f) := by
  unfold fabricDown
  split
  · exact .refl
  · dsimp only
    apply BenchKept.after (.fold (fun t o => finishId_bench t o .timeout []) _)
    iterate 3 apply (setF_benchKept _ _ _).after
    apply ((updEg_within _ _ _).benchKept (by decide) (by decide)).after
    apply BenchKept.after (.fold (fun t n => setF_benchKept _ _ _) _)
    apply BenchKept.after (.fold (fun t n => (perfDrop_within _ _ _).benchKept (by decide) (by decide)) _)
    apply BenchKept.after (.fold (fun t n => (perfDrop_within _ _ _).benchKept (by decide) (by decide)) _)
    apply ((countFlushed_within _ _ _).benchKept (by decide) (by decide)).after
    split
    · exact ((uncountTx_within _ _ _).benchKept (by decide) (by decide)).after (.same rfl rfl)
    · exact .same rfl rfl

theorem portDown_bench (s : State) (p : Nat) (laneLost : Bool) : BenchKept s (portDown s p laneLost) := by
  unfold portDown
  split
  · exact .refl
  · dsimp only
    apply (fabricDown_bench _ _).after
    apply (bermAbandon_bench _ _).after
    apply ((updPort_within _ _ _).benchKept (by decide) (by decide)).after
    apply (setF_benchKept _ _ _).after
    apply BenchKept.ite
    · exact .same (by simp) (by simp)
    · exact .same (by simp) (by simp)

theorem portOff_bench (s : State) (p : Nat) : BenchKept s (portOff s p) := by
  unfold portOff
  apply ((updPort_within _ _ _).benchKept (by decide) (by decide)).after
  apply ((bermGone_within _ _).benchKept (by decide) (by decide)).after
  exact (loseSource_bench _ _ _).after ((phaseLose_bench _ _).after (portDown_bench _ _ _))

/-- The four domains that BENCH switches off. -/
theorem domainOff_bench (s : State) {d : Domain} (h : d ∈ quietOff) : BenchKept s (domainOff s d) := by
  have pll (t : State) (hbm : Bool) : BenchKept t (pllOff t hbm) := (pllOff_within t hbm).benchKept (by decide) (by decide)
  simp only [quietOff, List.mem_cons, List.not_mem_nil, or_false] at h
  rcases h with rfl | rfl | rfl | rfl
  · exact pll _ _
  · apply (pll _ _).after
    apply ((fabOff_within _).benchKept (by decide) (by decide)).after
    exact .fold fabricDown_bench _
  · exact .fold portOff_bench _
  · apply ((ptpOff_within _).benchKept (by decide) (by decide)).after
    exact .fold portOff_bench _

theorem domainsOff_bench (s : State) : BenchKept s (domainsOff s quietOff) := by
  unfold domainsOff
  apply ((regsOff_within _ _).benchKept (by decide) (by decide)).after
  apply ((unpower_within _ _).benchKept (by decide) (by decide)).after
  have h : BenchKept s (quietOff.foldl calPowerDown s) := .fold calPowerDown_bench _
  have off (l : List Domain) (hl : l ⊆ quietOff) (t : State) : BenchKept t (l.foldl domainOff t) := by
    induction l generalizing t with
    | nil => exact .refl
    | cons d r ih => exact (ih (fun x m => hl (List.mem_cons_of_mem d m)) _).after (domainOff_bench t (hl List.mem_cons_self))
  exact (off quietOff (List.Subset.refl _) _).after h

end Sys2Proof.Machine

end

section
/-! PROOFS. MODE_SET (R25, R315): the transitions it makes, those it refuses. -/

namespace Sys2Proof.Machine

/-! ### What the entries leave of the selection -/

theorem modeEntered_regWord (s : State) (from_ m : Mode) {a : Nat} (h : a ≠ Reg.REF_LOSS_CTRL_WINDOW_OPEN.addr) :
    regWord (modeEntered s from_ m) a = regWord s a := by
  unfold modeEntered
  split
  · dsimp only
    split
    · rfl
    · exact regWord_setF_ne _ _ _ h
  · exact regWord_setF_ne _ _ _ h
  · rfl

/-- An entry to a mode writes nothing but LOSS_CTRL and the trims' registers. -/
theorem enterMode_regWord (s : State) (m : Mode) {a : Nat} (h : a ≠ Reg.REF_LOSS_CTRL_WINDOW_OPEN.addr) (he : ¬ Area.eng.has a) :
    regWord (enterMode s m) a = regWord s a := by
  unfold enterMode
  dsimp only
  rw [(evalTrims_within _).regs a (by simpa using he), modeEntered_regWord _ _ _ h, ite_regWord, (leaveConfig_within _).regs a (by simp), ite_self]
  rfl

theorem enterMode_selected (s : State) (m : Mode) : selected (enterMode s m) = selected s := by
  unfold selected getF
  rw [enterMode_regWord s m (by decide) (by simp [Area.has, Reg.REF_SEL_STATUS_SELECTED])]

theorem modeEntered_switch (s : State) (from_ m : Mode) : (modeEntered s from_ m).sel.sw = s.sel.sw := by
  unfold modeEntered
  split
  · dsimp only; split <;> rfl
  · rfl
  · rfl

theorem enterMode_switch (s : State) (m : Mode) : (enterMode s m).sel.sw = s.sel.sw := by
  have hl (t : State) : (leaveConfig t).sel = t.sel := (leaveConfig_within t).parts .sel (by decide)
  unfold enterMode
  dsimp only
  rw [(evalTrims_within _).parts .sel (by decide), modeEntered_switch]
  split
  · rw [hl]; rfl
  · rfl

theorem openWindow_selected (s : State) : selected (openWindow s) = selected s := by
  unfold selected
  rw [openWindow, getF_setF_ne _ _ _ _ (by decide) (by decide)]

/-! ### The transitions -/

/-- ACQUIRE by command with nothing selected and no switch running. -/
theorem enterAcquire_mode {s : State} (h : selected s = none) (hs : s.sel.sw = none) : (enterAcquire s).mode = .acquire := by
  have entered (t : State) (ht : t.mode = .acquire) : (acquireIdle (evalTrims t)).mode = .acquire := by
    rw [(acquireIdle_within _).parts .mode (by decide), (evalTrims_within _).parts .mode (by decide), ht]
  have hm := enterMode_mode s .acquire
  have hsel := (enterMode_selected s .acquire).trans h
  have hsw := (enterMode_switch s .acquire).trans hs
  unfold enterAcquire
  apply entered
  split
  · exact reselect_unselected_acquire hm ((openWindow_selected _).trans hsel) hsw
  · exact reselect_unselected_acquire hm hsel hsw

theorem enterBench_mode (s : State) : (enterBench s).mode = .bench := by
  have h := (domainsOff_bench (enterMode s .bench)).mode (enterMode_mode s .bench)
  unfold enterBench
  dsimp only
  exact h

theorem leaveBench_mode (s : State) : (leaveBench s).mode = .config := by
  have hl (t : State) : (openLoops t).mode = t.mode := (openLoops_within t).parts .mode (by decide)
  unfold leaveBench
  dsimp only
  rw [(towardFull_within _).parts .mode (by decide), (evalTrims_within _).parts .mode (by decide),
    (requestWord_within _ _).parts .mode (by decide), (endCoast_within _).parts .mode (by decide), hl, enterMode_mode]

theorem enterTimekeep_mode (s : State) (wake : Nat) : (enterTimekeep s wake).mode = .timekeep := by
  unfold enterTimekeep
  dsimp only
  rw [(setRequest_within _ _).parts .mode (by decide), (keepStarts_within _ _ _).parts .mode (by decide),
    (openLoops_within _).parts .mode (by decide), (evalTrims_within _).parts .mode (by decide), enterMode_mode]

/-- The transitions of R25 by command outside a pair, with their guards. -/
def Moves (s : State) (m : Mode) : Prop :=
  (s.mode = .config ∧ m ∈ [.freerun, .bench] ∧ getB s Reg.CAL_STATUS_CAL_REQUIRED = false) ∨
  (s.mode = .config ∧ m = .acquire ∧ getB s Reg.CAL_STATUS_CAL_REQUIRED = false ∧ selected s = none ∧ s.sel.sw = none) ∨
  (s.mode ∈ [.freerun, .locked] ∧ m = .bench ∧ getB s Reg.CAL_STATUS_CAL_REQUIRED = false) ∨
  (s.mode ∈ [.freerun, .holdover] ∧ m = .acquire ∧ selected s = none ∧ s.sel.sw = none) ∨
  (s.mode = .holdover ∧ m = .freerun) ∨
  (s.mode ∈ [.locked, .holdover, .freerun] ∧ m = .timekeep) ∨
  (s.mode = .bench ∧ m = .config)

/-- What a transition by command keeps: every packet that waits, every SPI buffer. -/
def QueuesKept (s t : State) : Prop :=
  t.cmd.waiting = s.cmd.waiting ∧ ∀ id, (∃ b ∈ s.cmd.spi, b.id = id) → ∃ b ∈ t.cmd.spi, b.id = id

theorem Within.queuesKept {l : List StatePart} {g : List Area} {s t : State} (h : Within l g s t) (hc : StatePart.cmd ∉ l) : QueuesKept s t := by
  have e : t.cmd = s.cmd := h.parts .cmd hc
  unfold QueuesKept; rw [e]; exact ⟨rfl, fun _ => id⟩

theorem enterBench_queues (s : State) : QueuesKept s (enterBench s) := by
  have h := (domainsOff_bench (enterMode s .bench)).after ((enterMode_within s .bench).benchKept' (by decide) (fun _ => enterMode_mode s .bench))
  exact ⟨h.waiting, h.spi⟩

/-- A listed transition is made, and its mode entered. -/
theorem modeTransition_moves {s : State} {m : Mode} (wake : Nat) (hp : s.straps.pairEn = false) (h : Moves s m) :
    ∃ t, modeTransition s m wake = some t ∧ t.mode = m ∧ QueuesKept s t := by
  have acquire (hs : selected s = none) (hw : s.sel.sw = none) : (enterAcquire s).mode = .acquire ∧ QueuesKept s (enterAcquire s) :=
    ⟨enterAcquire_mode hs hw, (enterAcquire_within s).queuesKept (by decide)⟩
  have freerun : (enterFreerun s).mode = .freerun ∧ QueuesKept s (enterFreerun s) :=
    ⟨enterFreerun_mode s, (enterFreerun_within s).queuesKept (by decide)⟩
  have bench : (enterBench s).mode = .bench ∧ QueuesKept s (enterBench s) := ⟨enterBench_mode s, enterBench_queues s⟩
  have timekeep : (enterTimekeep s wake).mode = .timekeep ∧ QueuesKept s (enterTimekeep s wake) :=
    ⟨enterTimekeep_mode s wake, (enterTimekeep_within s wake).queuesKept (by decide)⟩
  have config : (leaveBench s).mode = .config ∧ QueuesKept s (leaveBench s) :=
    ⟨leaveBench_mode s, (leaveBench_within s).queuesKept (by decide)⟩
  simp only [Moves, List.mem_cons, List.not_mem_nil, or_false] at h
  rcases h with ⟨e, rfl | rfl, hc⟩ | ⟨e, rfl, hc, hs, hw⟩ | ⟨e | e, rfl, hc⟩ | ⟨e | e, rfl, hs, hw⟩ | ⟨e, rfl⟩ | ⟨e | e | e, rfl⟩ | ⟨e, rfl⟩
  · exact ⟨_, by simp [modeTransition, e, hc, hp], freerun⟩
  · exact ⟨_, by simp [modeTransition, e, hc, hp], bench⟩
  · exact ⟨_, by simp [modeTransition, e, hc, hp], acquire hs hw⟩
  · exact ⟨_, by simp [modeTransition, e, hc, hp], bench⟩
  · exact ⟨_, by simp [modeTransition, e, hc, hp], bench⟩
  · exact ⟨_, by simp [modeTransition, e], acquire hs hw⟩
  · exact ⟨_, by simp [modeTransition, e], acquire hs hw⟩
  · exact ⟨_, by simp [modeTransition, e], freerun⟩
  · exact ⟨_, by simp [modeTransition, e, hp], timekeep⟩
  · exact ⟨_, by simp [modeTransition, e, hp], timekeep⟩
  · exact ⟨_, by simp [modeTransition, e, hp], timekeep⟩
  · exact ⟨_, by simp [modeTransition, e], config⟩

/-- The modes that no command enters, and the guards of CAL_REQUIRED and of the pair. -/
def Barred (s : State) (m : Mode) : Prop :=
  m ∈ [.reset, .boot, .locked, .holdover, .standby, .calibrate, .fault] ∨
  (m ∈ [.acquire, .freerun, .bench] ∧ s.mode = .config ∧ getB s Reg.CAL_STATUS_CAL_REQUIRED = true) ∨
  (m ∈ [.bench, .timekeep] ∧ s.straps.pairEn = true)

theorem modeTransition_barred {s : State} {m : Mode} (wake : Nat) (h : Barred s m) : modeTransition s m wake = none := by
  simp only [Barred, List.mem_cons, List.not_mem_nil, or_false] at h
  rcases h with h | ⟨h, e, hc⟩ | ⟨h, hp⟩
  · unfold modeTransition
    rcases h with rfl | rfl | rfl | rfl | rfl | rfl | rfl <;> cases s.mode <;> rfl
  · rcases h with rfl | rfl | rfl <;> simp [modeTransition, e, hc]
  · rcases h with rfl | rfl <;> cases e : s.mode <;> simp [modeTransition, e, hp]

/-! ### MODE_SET -/

section cmd
variable {s : State} {p : Packet} {m : Mode}

theorem cmdModeSet_moves (hm : modeOfCode (parF p.words 0 0 4) = some m)
    (hr : s.cmd.running.any (fun r => decide (r.opcode = 1) && decide (r.id ≠ p.id)) = false) {t : State}
    (ht : modeTransition s m (par p.words 1).toNat = some t) : cmdModeSet s p = done t := by
  unfold cmdModeSet
  simp only [hm, hr, ht, Bool.false_eq_true, if_false]

theorem cmdModeSet_barred (hm : modeOfCode (parF p.words 0 0 4) = some m)
    (hr : s.cmd.running.any (fun r => decide (r.opcode = 1) && decide (r.id ≠ p.id)) = false)
    (ht : modeTransition s m (par p.words 1).toNat = none) : cmdModeSet s p = deny s .wrongMode := by
  unfold cmdModeSet
  simp only [hm, hr, ht, Bool.false_eq_true, if_false]

theorem runOpcode_modeSet (h : p.opcode = 0x01) : runOpcode s p = cmdModeSet s p := by
  unfold runOpcode; rw [h]; rfl

end cmd

theorem Moves.start {c : CmdCtx} {ws : List Word} {s : State} {m : Mode} (h : Ready 0x01 c ws s) (k : Moves s m) : Moves (startState 0x01 c ws s) m := by
  have w := h.start_within
  have hm : (startState 0x01 c ws s).mode = s.mode := w.parts .mode (by decide)
  have hsel : (startState 0x01 c ws s).sel = s.sel := w.parts .sel (by decide)
  have hc : getB (startState 0x01 c ws s) Reg.CAL_STATUS_CAL_REQUIRED = getB s Reg.CAL_STATUS_CAL_REQUIRED := w.getB_eq (by simp [Area.has, Reg.CAL_STATUS_CAL_REQUIRED])
  have hs : selected (startState 0x01 c ws s) = selected s := by unfold selected; rw [w.getF_eq (by simp [Area.has, Reg.REF_SEL_STATUS_SELECTED])]
  unfold Moves
  rw [hm, hsel, hc, hs]; exact k

theorem Barred.start {c : CmdCtx} {ws : List Word} {s : State} {m : Mode} (h : Ready 0x01 c ws s) (k : Barred s m) : Barred (startState 0x01 c ws s) m := by
  have w := h.start_within
  have hm : (startState 0x01 c ws s).mode = s.mode := w.parts .mode (by decide)
  have hst : (startState 0x01 c ws s).straps = s.straps := w.parts .straps (by decide)
  have hc : getB (startState 0x01 c ws s) Reg.CAL_STATUS_CAL_REQUIRED = getB s Reg.CAL_STATUS_CAL_REQUIRED := w.getB_eq (by simp [Area.has, Reg.CAL_STATUS_CAL_REQUIRED])
  unfold Barred
  rw [hm, hst, hc]; exact k

theorem exec_modeSet (c : CmdCtx) (ws : List Word) (s : State) : exec (.modeSet c ws) s = opPacket 0x01 c ws s := rfl

/-- Settles O13: a listed transition is made and answered OK, a barred one is answered WRONG_MODE and nothing moves. -/
theorem modeSet : Obligations.ModeSet := by
  refine ⟨fun c ws s m h hm hp hr k => ?_, fun c ws s m h hm hr k => ?_⟩
  · have hp' : (startState 0x01 c ws s).straps.pairEn = false := by rw [h.start_within.parts .straps (by decide)]; exact hp
    obtain ⟨t, ht, htm, hw, hspi⟩ := modeTransition_moves (par (packetAt 0x01 c ws s).words 1).toNat hp' (Moves.start h k)
    have run : runOpcode (startState 0x01 c ws s) (packetAt 0x01 c ws s) = done t :=
      (runOpcode_modeSet h.opcode).trans (cmdModeSet_moves (by rw [h.words]; exact hm) (h.runs_alone hr) ht)
    obtain ⟨u, hu, ha, w⟩ := opPacket_answers h run ⟨by rw [hw]; exact h.place.1, fun e => hspi _ (h.place.2 e)⟩
    rw [exec_modeSet]
    exact ⟨u, hu, (show u.mode = t.mode from w.parts .mode (by decide)).trans htm, ha⟩
  · rw [exec_modeSet]
    exact opPacket_denies h ((runOpcode_modeSet h.opcode).trans (cmdModeSet_barred (by rw [h.words]; exact hm) (h.runs_alone hr)
      (modeTransition_barred _ (Barred.start h k))))

end Sys2Proof.Machine

end

section
/-! PROOFS. CAL_RUN, CAL_LOAD and CAL_READ. -/

namespace Sys2Proof.Machine

/-- A frame may be widened. -/
theorem Frame.mono {l l' : List StatePart} {g g' : List Area} {s t : State} (h : Frame l g s t) (hl : l ⊆ l') (hg : g ⊆ g') : Frame l' g' s t :=
  ⟨fun x m => h.1 x fun k => m (hl k), fun a m => h.2 a fun x k => m x (hg k)⟩

section runs
variable {l : List StatePart} {s t : State}

theorem portRate_congr (h : Within l [.perf] s t) (p : Nat) : portRate t p = portRate s p := by
  unfold portRate
  rw [h.getF_eq (by have := portBase_range p; simp [Area.has, Reg.PORT_PHY_CFG_RATE]; omega)]

/-- The item that a CAL_RUN names does not depend on packets and counters. -/
theorem runItem_congr (h : Within l [.perf] s t) (hp : StatePart.ports ∉ l) (hc : StatePart.cal ∉ l) (w : Word) : runItem t w = runItem s w := by
  have hcal : t.cal = s.cal := h.parts .cal hc
  have hport (p : Nat) : portS t p = portS s p := by unfold portS; rw [h.parts .ports hp]
  unfold runItem tempcoShort tempcoData
  simp only [portRate_congr h, hcal, hport]

theorem linkCarries_congr (h : Within l [.perf] s t) (n : Nat) : linkCarries t n = linkCarries s n := by
  unfold linkCarries
  rw [h.getF_eq (by simp [Area.has, Reg.LINK_LINK_STATUS_STATE]; omega)]

theorem mirrorLink_congr (h : Within l [.perf] s t) (hj : StatePart.jieth ∉ l) : mirrorLink t = mirrorLink s := by
  have hlink (n : Nat) : linkS t n = linkS s n := by unfold linkS; rw [h.parts .jieth hj]
  have hrole (n : Nat) : linkRole t n = linkRole s n := by
    unfold linkRole linkRoleCfg
    rw [h.getF_eq (by simp [Area.has, Reg.LINK_LINK_CFG_ROLE]; omega), hlink]
  unfold mirrorLink roleHolders
  simp only [hrole]

theorem standbyPresent_congr (h : Within l [.perf] s t) (hj : StatePart.jieth ∉ l) (hm : StatePart.mode ∉ l) (hs : StatePart.straps ∉ l) :
    standbyPresent t = standbyPresent s := by
  have hmode : t.mode = s.mode := h.parts .mode hm
  have hstraps : t.straps = s.straps := h.parts .straps hs
  unfold standbyPresent pairRole
  rw [mirrorLink_congr h hj, hmode, hstraps]
  simp only [linkCarries_congr h]

end runs

/-- The request that CAL_RUN makes of an item (R287). -/
def runReq (it : CalItem) (ws : List Word) : CalReq :=
  { item := it, refDly := (par ws 1).toNat, cable := (par ws 2).toInt, evA := fieldOf (par ws 0) 8 4, evB := fieldOf (par ws 0) 4 4 }

/-- CALIBRATE is entered, unless it is the mode already. -/
def calEntered (s : State) : State := if s.mode = .calibrate then s else enterMode { s with calEntry := s.mode } .calibrate

/-- The run list with a request at its end; a list that was empty begins with it. -/
def runJoined (s : State) (r : CalReq) : State :=
  let t := { s with cal := { s.cal with run := s.cal.run ++ [r] } }
  if s.cal.run = [] then startHead t else t

theorem startHead_run (s : State) : (startHead s).cal = s.cal := by
  unfold startHead
  split
  · split
    · split <;> rfl
    · rfl
  · rfl

theorem startHead_mode (s : State) : (startHead s).mode = s.mode ∧ (startHead s).calEntry = s.calEntry :=
  ⟨(startHead_within s).parts .mode (by decide), (startHead_within s).parts .calEntry (by decide)⟩

theorem calEntered_cal (s : State) : (calEntered s).cal = s.cal := by
  unfold calEntered
  split
  · rfl
  · exact (enterMode_within { s with calEntry := s.mode } .calibrate).parts .cal (by decide)

/-- CALIBRATE keeps the mode that it was entered from (R25). -/
theorem calEntered_mode (s : State) : (calEntered s).mode = .calibrate ∧ (s.mode ≠ .calibrate → (calEntered s).calEntry = s.mode) := by
  unfold calEntered
  split
  case isTrue h => exact ⟨h, fun k => absurd h k⟩
  case isFalse => exact ⟨enterMode_mode _ _, fun _ => (enterMode_within { s with calEntry := s.mode } .calibrate).parts .calEntry (by decide)⟩

theorem runJoined_run (s : State) (r : CalReq) : (runJoined s r).cal.run = s.cal.run ++ [r] := by
  unfold runJoined; dsimp only
  split
  · rw [startHead_run]
  · rfl

theorem runJoined_mode (s : State) (r : CalReq) : (runJoined s r).mode = s.mode ∧ (runJoined s r).calEntry = s.calEntry := by
  unfold runJoined; dsimp only
  split
  · exact startHead_mode _
  · exact ⟨rfl, rfl⟩

section run
variable {s : State} {ws : List Word}

theorem cmdCalRun_wrongMode (hm : s.mode ≠ .calibrate) (hp : standbyPresent s = true) : cmdCalRun s ws = deny s .wrongMode := by
  unfold cmdCalRun; rw [if_pos ⟨hm, hp⟩]

variable (hf : s.mode = .calibrate ∨ standbyPresent s = false)
include hf

theorem cmdCalRun_badParam (hi : runItem s (par ws 0) = none) : cmdCalRun s ws = deny s .badParam := by
  unfold cmdCalRun; rw [if_neg (by simp; tauto), hi]

theorem cmdCalRun_busy (hi : (runItem s (par ws 0)).isSome) (h8 : 8 ≤ s.cal.run.length) : cmdCalRun s ws = deny s .busy := by
  obtain ⟨it, hi⟩ := Option.isSome_iff_exists.mp hi
  unfold cmdCalRun; rw [if_neg (by simp; tauto), hi]; simp only [if_pos h8]

theorem cmdCalRun_ok {it : CalItem} (hi : runItem s (par ws 0) = some it) (h8 : s.cal.run.length < 8) :
    cmdCalRun s ws = done (runJoined (calEntered s) (runReq it ws)) := by
  unfold cmdCalRun; rw [if_neg (by simp; tauto), hi]; simp only [if_neg (not_le.mpr h8)]; rfl

end run

section answers
variable {c : CmdCtx} {ws : List Word} {s : State}

theorem exec_calRun (c : CmdCtx) (ws : List Word) (s : State) : exec (.calRun c ws) s = opPacket 0x90 c ws s := rfl
theorem exec_calLoad (c : CmdCtx) (ws : List Word) (s : State) : exec (.calLoad c ws) s = opPacket 0x92 c ws s := rfl
theorem exec_calRead (c : CmdCtx) (ws : List Word) (s : State) : exec (.calRead c ws) s = opPacket 0x94 c ws s := rfl

theorem Ready.runs_calRun (h : Ready 0x90 c ws s) :
    runOpcode (startState 0x90 c ws s) (packetAt 0x90 c ws s) = cmdCalRun (startState 0x90 c ws s) ws := by
  unfold runOpcode; rw [h.opcode, h.words]; rfl

theorem Ready.runs_calLoad (h : Ready 0x92 c ws s) :
    runOpcode (startState 0x92 c ws s) (packetAt 0x92 c ws s) = cmdCalLoad (startState 0x92 c ws s) ws := by
  unfold runOpcode; rw [h.opcode, h.words]; rfl

theorem Ready.runs_calRead (h : Ready 0x94 c ws s) :
    runOpcode (startState 0x94 c ws s) (packetAt 0x94 c ws s) = cmdCalRead (startState 0x94 c ws s) ws := by
  unfold runOpcode; rw [h.opcode, h.words]; rfl

/-- What CAL_RUN reads of the device is as it was before the packet came. -/
theorem Ready.calRun_reads (h : Ready 0x90 c ws s) : (startState 0x90 c ws s).mode = s.mode ∧ (startState 0x90 c ws s).cal = s.cal ∧
    standbyPresent (startState 0x90 c ws s) = standbyPresent s ∧ ∀ w, runItem (startState 0x90 c ws s) w = runItem s w :=
  have w := h.start_within
  ⟨w.parts .mode (by decide), w.parts .cal (by decide), standbyPresent_congr w (by decide) (by decide) (by decide),
    runItem_congr w (by decide) (by decide)⟩

/-- CAL_RUN of an item that can be measured (R25, R287). -/
theorem calRun_joins (h : Ready 0x90 c ws s) (hf : s.mode = .calibrate ∨ standbyPresent s = false) {it : CalItem}
    (hi : runItem s (par ws 0) = some it) (h8 : s.cal.run.length < 8) :
    Completes (exec (.calRun c ws) s) fun t =>
      Answered c t .ok [] ∧ t.mode = .calibrate ∧ (s.mode ≠ .calibrate → t.calEntry = s.mode) ∧ t.cal.run = s.cal.run ++ [runReq it ws] ∧
      PacketFrame [.mode, .calEntry, .clk, .tim, .sel, .ports, .cal] [.ref, .port, .eng] s t := by
  obtain ⟨hm, hcal, hp, hr⟩ := h.calRun_reads
  have run := cmdCalRun_ok (s := startState 0x90 c ws s) (ws := ws) (by rw [hm, hp]; exact hf) (by rw [hr]; exact hi) (by rw [hcal]; exact h8)
  have k := cmdCalRun_within (startState 0x90 c ws s) ws
  rw [run] at k
  obtain ⟨t, ht, ha, hpf, hw⟩ := opPacket_answers_frame h (h.runs_calRun.trans run) k (by decide)
  obtain ⟨em, ee⟩ := calEntered_mode (startState 0x90 c ws s)
  obtain ⟨jm, je⟩ := runJoined_mode (calEntered (startState 0x90 c ws s)) (runReq it ws)
  refine ⟨t, exec_calRun c ws s ▸ ht, ha, ?_, fun n => ?_, ?_, ?_⟩
  · exact (show t.mode = _ from hw.parts .mode (by decide)).trans (jm.trans em)
  · exact (show t.calEntry = _ from hw.parts .calEntry (by decide)).trans (je.trans ((ee (hm ▸ n)).trans hm))
  · rw [show t.cal = _ from hw.parts .cal (by decide), runJoined_run, calEntered_cal, hcal]
  · exact hpf.mono (by decide) (by decide)

theorem calRun_denies {st : Status} (h : Ready 0x90 c ws s) (hr : cmdCalRun (startState 0x90 c ws s) ws = deny (startState 0x90 c ws s) st) :
    Completes (exec (.calRun c ws) s) fun t => Answered c t st [] ∧ PacketFrame [] [] s t := by
  obtain ⟨t, ht, -, ha⟩ := opPacket_denies h (h.runs_calRun.trans hr)
  exact ⟨t, exec_calRun c ws s ▸ ht, ha⟩

/-- CAL_LOAD within the staging buffer (R300). -/
theorem calLoad_stages (h : Ready 0x92 c ws s) (hb : parF ws 0 0 10 + (ws.length - 1) ≤ 1024) :
    Completes (exec (.calLoad c ws) s) fun t => Answered c t .ok [] ∧ PacketFrame [.cal] [] s t ∧
      t.cal = { s.cal with staging := memPutList s.cal.staging (parF ws 0 0 10) (ws.drop 1) } := by
  have hcal : (startState 0x92 c ws s).cal = s.cal := h.start_within.parts .cal (by decide)
  have run : cmdCalLoad (startState 0x92 c ws s) ws = done { startState 0x92 c ws s with
      cal := { s.cal with staging := memPutList s.cal.staging (parF ws 0 0 10) (ws.drop 1) } } := by
    unfold cmdCalLoad; rw [← hcal]; exact if_neg (by omega)
  have k := cmdCalLoad_within (startState 0x92 c ws s) ws
  rw [run] at k
  obtain ⟨t, ht, ha, hpf, hw⟩ := opPacket_answers_frame h (h.runs_calLoad.trans run) k (by decide)
  exact ⟨t, exec_calLoad c ws s ▸ ht, ha, hpf, hw.parts .cal (by decide)⟩

theorem calLoad_outside (h : Ready 0x92 c ws s) (hb : 1024 < parF ws 0 0 10 + (ws.length - 1)) :
    Completes (exec (.calLoad c ws) s) fun t => Answered c t .badParam [] ∧ PacketFrame [] [] s t := by
  have run : cmdCalLoad (startState 0x92 c ws s) ws = deny (startState 0x92 c ws s) .badParam := by
    unfold cmdCalLoad; exact if_pos hb
  obtain ⟨t, ht, -, ha⟩ := opPacket_denies h (h.runs_calLoad.trans run)
  exact ⟨t, exec_calLoad c ws s ▸ ht, ha⟩

/-- The words that CAL_READ answers: of the working set, or of a flash copy (R300). -/
def calWords (s : State) (ws : List Word) : List Word :=
  (List.range (parF ws 0 21 9)).map fun i =>
    if parF ws 0 30 2 = 3 then memGet s.cal.work (parF ws 0 0 10 + i) else copyWord (flashCopy s (parF ws 0 30 2)) (parF ws 0 0 10 + i)

theorem calWords_congr {t : State} (hc : t.cal = s.cal) (hf : t.flash = s.flash) : calWords t ws = calWords s ws := by
  unfold calWords flashCopy; rw [hc, hf]

theorem calRead_answers (h : Ready 0x94 c ws s) (hn : 1 ≤ parF ws 0 21 9) (hb : parF ws 0 0 10 + parF ws 0 21 9 ≤ 1024) :
    Completes (exec (.calRead c ws) s) fun t => Answered c t .ok (calWords s ws) ∧ PacketFrame [] [] s t := by
  have run : cmdCalRead (startState 0x94 c ws s) ws = answer (startState 0x94 c ws s) (calWords s ws) := by
    rw [← calWords_congr (h.start_within.parts .cal (by decide)) (h.start_within.parts .flash (by decide))]
    unfold cmdCalRead; exact if_neg (by omega)
  obtain ⟨t, ht, ha, hpf, -⟩ := opPacket_answers_frame h (h.runs_calRead.trans run) (.refl (l := []) (g := [])) (by decide)
  exact ⟨t, exec_calRead c ws s ▸ ht, ha, hpf⟩

theorem calRead_outside (h : Ready 0x94 c ws s) (hb : parF ws 0 21 9 = 0 ∨ 1024 < parF ws 0 0 10 + parF ws 0 21 9) :
    Completes (exec (.calRead c ws) s) fun t => Answered c t .badParam [] ∧ PacketFrame [] [] s t := by
  have run : cmdCalRead (startState 0x94 c ws s) ws = deny (startState 0x94 c ws s) .badParam := by
    unfold cmdCalRead; exact if_pos hb
  obtain ⟨t, ht, -, ha⟩ := opPacket_denies h (h.runs_calRead.trans run)
  exact ⟨t, exec_calRead c ws s ▸ ht, ha⟩

end answers

/-- Settles O24: each form of CAL_RUN, CAL_LOAD and CAL_READ by the branch of its command that the form selects. -/
theorem calibrationRuns : Obligations.CalibrationRuns := by
  refine ⟨fun c ws s h => ⟨fun it hf hi h8 => calRun_joins h hf hi h8, fun hf hi => ?_, fun hf hi h8 => ?_, fun hf => ?_⟩,
    fun c ws s => ⟨fun h hb => ?_, calLoad_outside, calRead_answers, calRead_outside⟩⟩
  · obtain ⟨hm, -, hp, hr⟩ := h.calRun_reads
    exact calRun_denies h (cmdCalRun_badParam (by rw [hm, hp]; exact hf) (by rw [hr]; exact hi))
  · obtain ⟨hm, hcal, hp, hr⟩ := h.calRun_reads
    exact calRun_denies h (cmdCalRun_busy (by rw [hm, hp]; exact hf) (by rw [hr]; exact hi) (by rw [hcal]; exact h8))
  · obtain ⟨hm, -, hp, -⟩ := h.calRun_reads
    obtain ⟨hn, hs⟩ := not_or.mp hf
    exact calRun_denies h (cmdCalRun_wrongMode (by rw [hm]; exact hn) (by rw [hp]; exact Bool.not_eq_false _ ▸ hs))
  · obtain ⟨t, ht, ha, hpf, hcal⟩ := calLoad_stages h hb
    refine ⟨t, ht, ha, hpf, by rw [hcal], fun i hi => ?_, fun a ho => ?_⟩
    · rw [hcal, memGet_memPutList_in _ _ _ (by simp; omega)]
      simp [hi]
    · rw [hcal]; exact memGet_memPutList_out _ _ (by simp; omega)


end Sys2Proof.Machine

end

section
/-! PROOFS. What a filter of the register bank leaves, what a reset and a closing of debug do (R31, R344, R371), the reset pins. -/

namespace Sys2Proof.Machine

/-! ### The bank with some of its addresses at their reset values -/

theorem spGet?_filter {α : Type} (p : Nat → Bool) (l : List (Nat × α)) (k : Nat) :
    spGet? (l.filter fun e => p e.1) k = if p k then spGet? l k else none := by
  induction l with
  | nil => simp [spGet?]
  | cons e r ih =>
    obtain ⟨a, x⟩ := e
    by_cases ha : a = k
    · subst ha; by_cases hp : p a <;> simp [hp, spGet?, ih]
    · by_cases hp : p a <;> simp [hp, spGet?, ha, ih]

/-- A bank of which some addresses are kept. -/
theorem regWord_filter {s t : State} {p : Nat → Bool} (h : t.regs = s.regs.filter fun e => p e.1) (a : Nat) :
    regWord t a = if p a then regWord s a else wordReset a := by
  unfold regWord; rw [h, spGet?_filter]; cases p a <;> rfl

theorem regWord_regsOff (s : State) (ds : List Domain) (a : Nat) :
    regWord (regsOff s ds) a = if addrDomain a ∈ ds then wordReset a else regWord s a := by
  rw [regWord_filter (s := s) (p := fun a => decide (addrDomain a ∉ ds)) rfl a]
  by_cases h : addrDomain a ∈ ds <;> simp [h]

theorem regWord_resetParts (s : State) (a : Nat) : regWord (resetParts s) a = if addrDomain a = .aon then regWord s a else wordReset a := by
  rw [regWord_filter (s := s) (p := fun a => decide (addrDomain a = .aon)) rfl a]; simp only [decide_eq_true_eq]

theorem regWord_sysRegs (s : State) (a : Nat) : regWord (sysRegs s) a = if 65536 ≤ a then regWord s a else wordReset a := by
  rw [regWord_filter (s := s) (p := fun a => decide (65536 ≤ a)) rfl a]; simp only [decide_eq_true_eq]

theorem regWord_of_noRegs {s : State} (h : s.regs = []) (a : Nat) : regWord s a = wordReset a := by unfold regWord; rw [h]; rfl

/-- A field of a register that is as it was reads as it did. -/
theorem getF_eq_of_regWord {s t : State} {f : Fld} (h : regWord t f.addr = regWord s f.addr) : getF t f = getF s f := by unfold getF; rw [h]

theorem getB_eq_of_regWord {s t : State} {f : Fld} (h : regWord t f.addr = regWord s f.addr) : getB t f = getB s f := by
  unfold getB; rw [getF_eq_of_regWord h]

theorem getB_eq_false {s : State} {f : Fld} (h : getF s f = 0) : getB s f = false := by unfold getB; rw [h]; rfl

theorem getB_eq_true {s : State} {f : Fld} (h : getF s f = 1) : getB s f = true := by unfold getB; rw [h]; rfl

/-! ### Debug and a store cut off -/

theorem closeDebug_closed (s : State) : getB (closeDebug s) Reg.SEC_STATUS_DEBUG_OPEN = false := by
  unfold closeDebug
  split
  · exact getB_eq_false ((getF_raise_ne _ _ _ (by decide) (by decide)).trans (getF_setF_same _ _ _ (by decide)))
  case isFalse h => simpa using h

theorem closeDebug_event (s : State) (h : getB s Reg.SEC_STATUS_DEBUG_OPEN = true) : getB (closeDebug s) Reg.SEC_EVENTS_DEBUG_CLOSED = true := by
  unfold closeDebug; rw [if_pos h]; exact getB_eq_true (getF_raise_same _ _ (by decide) (by decide))

theorem FlashKept.refl (s : State) : FlashKept s s := ⟨rfl, rfl, rfl, fun _ => rfl⟩

theorem FlashKept.congr {s t u : State} (h : FlashKept s t) (e : u.flash = t.flash) : FlashKept s u := by unfold FlashKept at *; rwa [e]

/-- `t` has the flash of `s` but for its calibration copies. -/
def CopiesOnly (s t : State) : Prop := t.flash = { s.flash with copies := t.flash.copies }

theorem CopiesOnly.setCopy {s t : State} (h : CopiesOnly s t) (k : Nat) (c : CalCopy) : CopiesOnly s (setCopy t k c) := by
  have e := congrArg (fun f : Flash => { f with copies := listUpd {} t.flash.copies k fun _ => c }) h
  exact e

theorem CopiesOnly.fold {s t : State} (h : CopiesOnly s t) (c : CalCopy) (l : List Nat) : CopiesOnly s (l.foldl (fun t k => Machine.setCopy t k c) t) := by
  induction l generalizing t with
  | nil => exact h
  | cons k l ih => exact ih (h.setCopy k c)

theorem cutStore_flashKept (s : State) : FlashKept s (cutStore s) := by
  unfold cutStore
  split
  case h_1 => exact .refl s
  case h_2 st hs =>
    have key {t : State} (h : CopiesOnly s t) : FlashKept s t :=
      ⟨by rw [h], by rw [h], by rw [h], fun n => by rw [n] at hs; exact nomatch hs⟩
    have hfold (l : List Nat) : CopiesOnly s (l.foldl (fun t k => setCopy t k ⟨st.words⟩) { (draw s).2 with cal := { (draw s).2.cal with store := none } }) :=
      CopiesOnly.fold rfl _ l
    dsimp only
    split
    · split
      · exact key ((hfold _).setCopy _ _)
      · exact key (hfold _)
    · exact key (hfold _)

/-! ### Reset -/

theorem resetCore_regWord (s : State) {a : Nat} (h : addrDomain a ≠ .aon) : regWord (resetCore s) a = wordReset a := by
  unfold resetCore; rw [regWord_resetParts, if_neg h]

/-- A reset keeps the registers of PD_AON but for what the closing of debug and the loss of the identity key do (R31, R344). -/
theorem resetCore_regWord_aon (s : State) {a : Nat} (h : addrDomain a = .aon) (hs : ¬ Area.sec.has a) : regWord (resetCore s) a = regWord s a := by
  unfold resetCore
  rw [regWord_resetParts, if_pos h, regWord_setF_ne _ _ _ (by rintro rfl; exact hs (by simp [Area.has, Reg.SEC_STATUS_ID_VALID]))]
  rw [(closeDebug_within _).regs _ (by simpa using hs), (cutStore_within s).regs _ (by simp)]

theorem resetCore_debug (s : State) : getB (resetCore s) Reg.SEC_STATUS_DEBUG_OPEN = false := by
  unfold resetCore
  rw [getB_eq_of_regWord ((regWord_resetParts _ _).trans (if_pos (by decide)))]
  unfold getB
  rw [getF_setF_ne _ _ _ _ (by decide) (by decide)]
  exact closeDebug_closed _

theorem resetCore_flash (s : State) : FlashKept s (resetCore s) :=
  (cutStore_flashKept s).congr ((closeDebug_within (cutStore s)).parts .flash (by decide))

/-- Debug's closing and a cut store leave the keys, the log and the epochs. -/
theorem resetCore_kept (s : State) : (resetCore s).sec = { s.sec with idKey := false } ∧ (resetCore s).aud = s.aud ∧
    (resetCore s).pair.epoch = s.pair.epoch := by
  have w := (closeDebug_within (cutStore s)).after ((cutStore_within s).mono (l := [.flash, .cal, .freeCtr, .regs, .out]) (g := [.sec]) (by decide) (by decide)) (by decide) (by decide)
  have hsec : (closeDebug (cutStore s)).sec = s.sec := w.parts .sec (by decide)
  have haud : (closeDebug (cutStore s)).aud = s.aud := w.parts .aud (by decide)
  have hpair : (closeDebug (cutStore s)).pair = s.pair := w.parts .pair (by decide)
  exact ⟨congrArg (fun x => { x with idKey := false }) hsec, haud, show (closeDebug (cutStore s)).pair.epoch = _ by rw [hpair]⟩

theorem addrDomain_eq_aon {a : Nat} : addrDomain a = .aon ↔ a / 65536 = 0 ∨ a / 65536 = 14 ∨ a / 65536 = 15 := by
  unfold addrDomain
  split <;> simp_all
  split <;> simp

/-- The reset of the SYS block touches nothing outside PD_AON (R371). -/
theorem sysReset_regWord (s : State) (code : Nat) {a : Nat} (h : 65536 ≤ a) (h1 : a ≠ Reg.SEC_SVN_SET.addr) (h2 : a ≠ Reg.SEC_KEY_REVOKE.addr) :
    regWord (sysReset s code) a = regWord s a := by
  unfold sysReset
  have hc : a ≠ Reg.SYS_FAULT_CAUSE_CODE.addr := by simp [Reg.SYS_FAULT_CAUSE_CODE]; omega
  have hl : a ≠ Reg.SYS_FAULT_CAUSE_LAST_RESET.addr := hc
  rw [regWord_setF_ne _ _ _ h2, regWord_setF_ne _ _ _ h1, regWord_setF_ne _ _ _ hl, regWord_setWord_ne _ _ hc, regWord_sysRegs, if_pos h]

theorem sysReset_lastReset (s : State) {code : Nat} (h : code < 16) : getF (sysReset s code) Reg.SYS_FAULT_CAUSE_LAST_RESET = code := by
  unfold sysReset
  rw [getF_setF_ne _ _ _ _ (by decide) (by decide), getF_setF_ne _ _ _ _ (by decide) (by decide), getF_setF_same _ _ _ (by decide)]
  exact Nat.mod_eq_of_lt h

theorem sysReset_code (s : State) (code : Nat) : getF (sysReset s code) Reg.SYS_FAULT_CAUSE_CODE = getF s Reg.SYS_FAULT_CAUSE_CODE := by
  unfold sysReset
  rw [getF_setF_ne _ _ _ _ (by decide) (by decide), getF_setF_ne _ _ _ _ (by decide) (by decide), getF_setF_ne _ _ _ _ (by decide) (by decide)]
  exact getF_eq_of_regWord (regWord_setWord_same _ _ _)

theorem resetDevice_regWord (s : State) (code : Nat) {a : Nat} (h : addrDomain a ≠ .aon) : regWord (resetDevice s code) a = wordReset a := by
  unfold resetDevice
  have ha : 65536 ≤ a := by by_contra k; exact h (addrDomain_eq_aon.mpr (.inl (by omega)))
  rw [sysReset_regWord _ _ ha (by rintro rfl; exact h (by decide)) (by rintro rfl; exact h (by decide)), resetCore_regWord s h]

/-! ### The reset pins -/

theorem exec_resetNLow {s : State} (h : s.power ≠ .off) : exec .resetNLow s = ok (resetDevice { s with pins := { s.pins with resetN := false } } 1) :=
  if_neg h

/-- RESET_N low with supply (R31, R371). -/
theorem resetNLow_resets {s : State} (hp : s.power ≠ .off) :
    Completes (exec .resetNLow s) fun t =>
      t.mode = .reset ∧ t.pins.resetN = false ∧ t.domains = [.aon] ∧ t.power = s.power ∧ getF t Reg.SYS_FAULT_CAUSE_LAST_RESET = 1 ∧
      getF t Reg.SYS_FAULT_CAUSE_CODE = getF s Reg.SYS_FAULT_CAUSE_CODE ∧ t.cmd.waiting = [] ∧ t.cmd.running = [] ∧ t.tim = {} ∧ t.fab = {} ∧
      t.sec.keys = s.sec.keys ∧ t.sec.idKey = false ∧ t.aud = s.aud ∧ t.pair.epoch = s.pair.epoch ∧ t.otp = s.otp ∧ FlashKept s t ∧
      getB t Reg.SEC_STATUS_DEBUG_OPEN = false ∧ ∀ a, addrDomain a ≠ .aon → regWord t a = wordReset a := by
  rw [exec_resetNLow hp]
  obtain ⟨r, hr⟩ : ∃ r : State, r = { s with pins := { s.pins with resetN := false } } := ⟨_, rfl⟩
  rw [← hr]
  have w : Within _ _ (resetCore r) (resetDevice r 1) := sysReset_within (resetCore r) 1
  have wc := resetCore_within r
  obtain ⟨hsec, haud, hep⟩ := resetCore_kept r
  have hsec' : (resetDevice r 1).sec = { r.sec with idKey := false } := Eq.trans (w.parts .sec (by decide)) hsec
  have hpins : (resetDevice r 1).pins = r.pins := Eq.trans (w.parts .pins (by decide)) (wc.parts .pins (by decide))
  refine ⟨_, rfl, w.parts .mode (by decide), by rw [hpins, hr], w.parts .domains (by decide), ?_, sysReset_lastReset _ (by decide), ?_,
    congrArg Cmd.waiting (w.parts .cmd (by decide)), congrArg Cmd.running (w.parts .cmd (by decide)), w.parts .tim (by decide), w.parts .fab (by decide),
    by rw [hsec', hr], by rw [hsec'], ?_, ?_, ?_, ?_, ?_, fun a h => resetDevice_regWord r 1 h⟩
  · rw [show (resetDevice r 1).power = r.power from Eq.trans (w.parts .power (by decide)) (wc.parts .power (by decide)), hr]
  · rw [show getF s Reg.SYS_FAULT_CAUSE_CODE = getF r Reg.SYS_FAULT_CAUSE_CODE by rw [hr]; rfl]
    exact (sysReset_code _ _).trans (getF_eq_of_regWord (resetCore_regWord_aon r (by decide) (by simp [Area.has, Reg.SYS_FAULT_CAUSE_CODE])))
  · rw [show (resetDevice r 1).aud = r.aud from Eq.trans (w.parts .aud (by decide)) haud, hr]
  · rw [show (resetDevice r 1).pair = (resetCore r).pair from w.parts .pair (by decide), hep, hr]
  · rw [show (resetDevice r 1).otp = r.otp from Eq.trans (w.parts .otp (by decide)) (wc.parts .otp (by decide)), hr]
  · have k : FlashKept r (resetDevice r 1) := (resetCore_flash r).congr (w.parts .flash (by decide))
    rw [hr] at k ⊢; exact k
  · rw [← resetCore_debug r]
    exact getB_eq_of_regWord (sysReset_regWord _ _ (by decide) (by decide) (by decide))

theorem debugClose_closes (s : State) :
    Completes (exec .debugClose s) fun t =>
      Frame [.regs, .pins, .out] [.sec] s t ∧ t.pins = { s.pins with dbgEn := false } ∧ getB t Reg.SEC_STATUS_DEBUG_OPEN = false ∧
      (getB s Reg.SEC_STATUS_DEBUG_OPEN = true → getB t Reg.SEC_EVENTS_DEBUG_CLOSED = true) :=
  have w : Within _ _ _ _ := closeDebug_within { s with pins := { s.pins with dbgEn := false } }
  ⟨_, rfl, (execDebugClose_within s).frame, w.parts .pins (by decide), closeDebug_closed _, fun h => closeDebug_event _ h⟩

/-! ### The PCI Express pin -/

theorem exec_perstNDeassertion (s : State) : exec .perstNDeassertion s = execPerstNDeassertion s := rfl

theorem perstNLow_keeps (s : State) :
    Completes (exec .perstNLow s) fun t =>
      Frame [.pins, .pcieUp, .cmd] [] s t ∧ t.pins = { s.pins with perstN := false } ∧ t.pcieUp = false ∧ t.cmd.slots = [] ∧
      t.cmd.waiting = s.cmd.waiting.filter (fun p => decide (p.iface ≠ .pcie)) ∧ t.cmd.running.length = s.cmd.running.length ∧ t.cmd.spi = s.cmd.spi := by
  refine ⟨_, rfl, (execPerstNLow_within s).frame, rfl, rfl, rfl, ?_, List.length_map _, rfl⟩
  simp only [decide_not, ne_eq]

/-- A wake that begins moves the power sequence toward FULL and nothing else (R34, R336). -/
theorem beginWake_starts {s : State} (h : s.mode = .timekeep) (hw : s.waking = false) :
    beginWake s = { s with waking := true, powerTo := some .full } := if_pos ⟨h, hw⟩

theorem beginWake_idle {s : State} (h : s.mode ≠ .timekeep ∨ s.waking = true) : beginWake s = s := by
  unfold beginWake
  rcases h with h | h <;> simp [h]

/-- The frame of a state that differs in named parts alone. -/
theorem frame_of_parts {l : List StatePart} {s t : State} (hr : t.regs = s.regs) (h : Only l s t) : Frame l [] s t :=
  ⟨h, fun a _ => regWord_congr hr a⟩

theorem wake_frame (s : State) (x : Pins) : Frame [.powerTo, .waking, .pins] [] s { s with pins := x, waking := true, powerTo := some .full } :=
  frame_of_parts rfl fun p hp => by cases p <;> first | exact absurd (by decide) hp | rfl

theorem pins_frame (s : State) (x : Pins) : Frame [.pins] [] s { s with pins := x } :=
  frame_of_parts rfl fun p hp => by cases p <;> first | exact absurd (by decide) hp | rfl

theorem perstNDeassertion_up {s : State} (h : s.mode ≠ .timekeep) :
    Completes (exec .perstNDeassertion s) fun t =>
      Frame [.pins, .pcieUp] [] s t ∧ t.pins = { s.pins with perstN := true } ∧ t.pcieUp = (s.pcieUp || powered s .host) := by
  rw [exec_perstNDeassertion]; unfold execPerstNDeassertion; rw [if_neg h]
  split
  case isTrue hp =>
    refine ⟨_, rfl, frame_of_parts rfl fun p hm => ?_, rfl, by rw [hp, Bool.or_true]⟩
    cases p <;> first | exact absurd (by decide) hm | rfl
  case isFalse hp => exact ⟨_, rfl, (pins_frame s _).mono (by decide) (by decide), rfl, by rw [Bool.eq_false_iff.mpr hp, Bool.or_false]⟩

theorem perstNDeassertion_wakes {s : State} (h : s.mode = .timekeep) (hw : s.waking = false) :
    Completes (exec .perstNDeassertion s) fun t =>
      Frame [.powerTo, .waking, .pins] [] s t ∧ t.waking = true ∧ t.powerTo = some .full := by
  rw [exec_perstNDeassertion]; unfold execPerstNDeassertion; rw [if_pos h]
  exact ⟨_, congrArg _ (beginWake_starts (s := { s with pins := { s.pins with perstN := true } }) h hw), wake_frame s _, rfl, rfl⟩

/-- RESET_N high without supply (R31). -/
theorem resetRelease_waits {s : State} (b : BootEnv) (h : s.power = .aon) :
    Completes (exec (.resetRelease b) s) fun t => Frame [.pins] [] s t ∧ t.pins = { s.pins with resetN := true } :=
  ⟨{ s with pins := { s.pins with resetN := true } }, if_neg fun k => k.2.1 h, pins_frame s _, rfl⟩

/-- Settles O36: a reset of PD_AON's registers and of all others, the closing of debug, and the endpoint's pin. -/
theorem resetPins : Obligations.ResetPins :=
  ⟨fun s => ⟨resetNLow_resets, fun b => resetRelease_waits b, debugClose_closes s, s, rfl, rfl⟩,
    fun s => ⟨perstNLow_keeps s, perstNDeassertion_up, perstNDeassertion_wakes⟩⟩

end Sys2Proof.Machine

end

section
/-! PROOFS. Domains that come on, entry to FAULT, and the end of the boot sequence (R33, R35, R330). -/

namespace Sys2Proof.Machine

/-! ### Folds -/

theorem foldl_regWord_mem {α : Type} {f : State → α → State} {l : List α} {a : Nat} (h : ∀ t, ∀ x ∈ l, regWord (f t x) a = regWord t a) (s : State) :
    regWord (l.foldl f s) a = regWord s a :=
  List.foldlRecOn (motive := fun t => regWord t a = regWord s a) l f rfl fun t e x m => (h t x m).trans e

/-- What an element of a list brings about and the others keep stands after the fold. -/
theorem foldl_reaches {α β : Type} {P : β → Prop} {f : β → α → β} {x : α} (hset : ∀ t, P (f t x)) (hkeep : ∀ t y, P t → P (f t y)) {l : List α}
    (hx : x ∈ l) (s : β) : P (l.foldl f s) := by
  induction l generalizing s with
  | nil => exact absurd hx (by simp)
  | cons y l ih =>
    rcases List.mem_cons.mp hx with rfl | hx
    · exact List.foldlRecOn (motive := P) l f (hset s) fun t e z _ => hkeep t z e
    · exact ih hx (f s y)

/-! ### Domains on (R211, R330) -/

theorem eqAddr_block {k : Nat} (h : k < 70) : Area.port.has (eqAddr k) ∨ Area.link.has (eqAddr k) := by
  simp only [eqAddr, portBase, Area.has]; split_ifs <;> omega

/-- The lanes' part of the load of the equalisation table. -/
def eqLanes (s : State) (ds : List Domain) : State :=
  if eqValid s.flash.eq then
    ((List.range 70).filter (fun k => decide (addrDomain (eqAddr k) ∈ ds))).foldl
      (fun t k => match eqFirst s.flash.eq k with | some i => setWord t (eqAddr k) (eqWord s.flash.eq k i) | none => t) s
  else s

/-- EQ_STATUS after the load. -/
def eqStatus (t : State) (good dup : Bool) (used : Nat) : State :=
  let u := setB (setB t Reg.PTPG_EQ_STATUS_LOADED good) Reg.PTPG_EQ_STATUS_DEFAULTS (!good)
  if good then setB (setF u Reg.PTPG_EQ_STATUS_ENTRIES used) Reg.PTPG_EQ_STATUS_DUP dup else u

theorem eqLoad_eq (s : State) (ds : List Domain) : ∃ good dup used, eqLoad s ds =
    if decide (Domain.lineB ∈ ds) then eqStatus (eqLanes s ds) good dup used else eqLanes s ds := ⟨_, _, _, rfl⟩

theorem eqLanes_regWord (s : State) (ds : List Domain) {a : Nat} (h : ∀ x ∈ [Area.port, .link], ¬ x.has a) :
    regWord (eqLanes s ds) a = regWord s a := by
  unfold eqLanes
  split
  · refine foldl_regWord_mem (fun t k m => ?_) s
    have hk := List.mem_range.mp (List.mem_filter.mp m).1
    have hne : a ≠ eqAddr k := by
      rintro rfl
      rcases eqAddr_block hk with h' | h'
      · exact h .port (by simp) h'
      · exact h .link (by simp) h'
    split
    · exact regWord_setWord_ne _ _ hne
    · rfl
  · rfl

theorem eqStatus_regWord (t : State) (good dup : Bool) (used : Nat) {a : Nat} (h : ¬ Area.ptpg.has a) :
    regWord (eqStatus t good dup used) a = regWord t a := by
  have ne {n : Nat} (hn : 0x51000 ≤ n ∧ n < 0x52000) : a ≠ n := by rintro rfl; exact h hn
  unfold eqStatus
  dsimp only
  split
  · rw [regWord_setB_ne _ _ _ (ne (by decide)), regWord_setF_ne _ _ _ (ne (by decide)), regWord_setB_ne _ _ _ (ne (by decide)),
      regWord_setB_ne _ _ _ (ne (by decide))]
  · rw [regWord_setB_ne _ _ _ (ne (by decide)), regWord_setB_ne _ _ _ (ne (by decide))]

/-- The equalisation table is loaded into the EQ registers of ports and links, and EQ_STATUS (R211). -/
theorem eqLoad_regWord (s : State) (ds : List Domain) {a : Nat} (h : ∀ x ∈ [Area.port, .ptpg, .link], ¬ x.has a) :
    regWord (eqLoad s ds) a = regWord s a := by
  have hl : regWord (eqLanes s ds) a = regWord s a := eqLanes_regWord s ds fun x m => h x (by simp at m ⊢; tauto)
  obtain ⟨good, dup, used, e⟩ := eqLoad_eq s ds
  rw [e]
  split
  · exact (eqStatus_regWord _ _ _ _ (h .ptpg (by simp))).trans hl
  · exact hl

theorem pllStart_regWord (s : State) (hbm : Bool) {a : Nat} (h1 : a ≠ 0x10040) (h2 : a ≠ 0x10044) : regWord (pllStart s hbm) a = regWord s a := by
  unfold pllStart pllFlds
  cases hbm
  · exact (regWord_setF_ne _ _ _ h1).trans ((regWord_setF_ne _ _ _ h1).trans rfl)
  · exact (regWord_setF_ne _ _ _ h2).trans ((regWord_setF_ne _ _ _ h2).trans rfl)

theorem pllOn_regWord (s : State) (ds : List Domain) (hbm : Bool) {a : Nat} (h1 : a ≠ 0x10040) (h2 : a ≠ 0x10044) :
    regWord (pllOn s ds hbm) a = regWord s a := by
  unfold pllOn
  generalize decide ((if hbm = true then Domain.hbm else Domain.fab) ∈ ds) = c
  cases c
  · rfl
  · exact pllStart_regWord s hbm h1 h2

theorem pllOn_started (s : State) (ds : List Domain) (hbm : Bool) : (pllOn s ds hbm).clk.started = s.clk.started := by
  unfold pllOn
  generalize decide ((if hbm = true then Domain.hbm else Domain.fab) ∈ ds) = c
  cases c
  · rfl
  · cases hbm <;> rfl

/-- The domains of a list that are off. -/
def offDomains (s : State) (l : List Domain) : List Domain := l.filter (fun d => decide (d ∉ s.domains))

theorem domainsOn_regWord (s : State) (l : List Domain) {a : Nat} (h : ∀ x ∈ [Area.port, .ptpg, .link, .cal, .gauge], ¬ x.has a)
    (h1 : a ≠ 0x10040) (h2 : a ≠ 0x10044) (hd : addrDomain a ∈ l → addrDomain a ∈ s.domains) :
    regWord (domainsOn s l) a = regWord s a := by
  have base : regWord (evalMismatch (eqLoad (regsOff (powerDomains s (offDomains s l)) (offDomains s l)) (offDomains s l))) a = regWord s a := by
    rw [(evalMismatch_within _).regs a (fun x m => h x (by simp at m ⊢; tauto)), eqLoad_regWord _ _ (fun x m => h x (by simp at m ⊢; tauto)),
      regWord_regsOff, if_neg]
    · rfl
    · simp only [offDomains, List.mem_filter, decide_eq_true_eq, not_and, not_not]; exact hd
  have fab (c : Bool) (t : State) : regWord (if c then fabFresh t else t) a = regWord t a := by cases c <;> rfl
  have tail (c : Bool) (t : State) : regWord (if c then coarseRestart t else t) a = regWord t a := by
    cases c
    · rfl
    · exact (coarseRestart_within t).regs a (fun x m => h x (by simp at m ⊢; tauto))
  unfold domainsOn
  exact (tail _ _).trans ((pllOn_regWord _ _ _ h1 h2).trans ((pllOn_regWord _ _ _ h1 h2).trans ((fab _ _).trans base)))

theorem domainsOn_domains (s : State) (l : List Domain) : (domainsOn s l).domains = s.domains ++ offDomains s l := by
  have w := (evalMismatch_within (eqLoad (regsOff (powerDomains s (offDomains s l)) (offDomains s l)) (offDomains s l))).after
    ((eqLoad_within (regsOff (powerDomains s (offDomains s l)) (offDomains s l)) (offDomains s l)).mono (l := [.regs]) (g := [.any, .port, .cal]) (by decide) (by decide))
    (by decide) (by decide)
  have base : (evalMismatch (eqLoad (regsOff (powerDomains s (offDomains s l)) (offDomains s l)) (offDomains s l))).domains = s.domains ++ offDomains s l :=
    w.parts .domains (by decide)
  have fab (c : Bool) (t : State) : (if c then fabFresh t else t).domains = t.domains := by cases c <;> rfl
  have pll (t : State) (b : Bool) : (pllOn t (offDomains s l) b).domains = t.domains := (pllOn_within _ _ _).parts .domains (by decide)
  have tail (c : Bool) (t : State) : (if c then coarseRestart t else t).domains = t.domains := by
    cases c
    · rfl
    · exact (coarseRestart_within t).parts .domains (by decide)
  unfold domainsOn
  exact (tail _ _).trans ((pll _ _).trans ((pll _ _).trans ((fab _ _).trans base)))

theorem domainsOn_powered (s : State) {l : List Domain} {d : Domain} (h : d ∈ l ∨ powered s d = true) : powered (domainsOn s l) d = true := by
  unfold powered at *
  rw [domainsOn_domains, decide_eq_true_eq, List.mem_append]
  by_cases k : d ∈ s.domains
  · exact .inl k
  · exact .inr (by simpa [offDomains, k] using h)

theorem domainsOn_started (s : State) (l : List Domain) : (domainsOn s l).clk.started = s.clk.started := by
  have base : (evalMismatch (eqLoad (regsOff (powerDomains s (offDomains s l)) (offDomains s l)) (offDomains s l))).clk = s.clk :=
    Eq.trans ((evalMismatch_within _).parts .clk (by decide))
      (Eq.trans ((eqLoad_within (regsOff (powerDomains s (offDomains s l)) (offDomains s l)) (offDomains s l)).parts .clk (by decide)) rfl)
  have fab (c : Bool) (t : State) : (if c then fabFresh t else t).clk.started = t.clk.started := by cases c <;> rfl
  have tail (c : Bool) (t : State) : (if c then coarseRestart t else t).clk.started = t.clk.started := by
    cases c
    · rfl
    · exact congrArg Clk.started ((coarseRestart_within t).parts .clk (by decide))
  unfold domainsOn
  exact (tail _ _).trans ((pllOn_started _ _ _).trans ((pllOn_started _ _ _).trans ((fab _ _).trans (congrArg Clk.started base))))

end Sys2Proof.Machine

end

section
/-! PROOFS. Entry to FAULT (R35) and the end of the boot sequence (R33, R347). -/

namespace Sys2Proof.Machine

/-! ### The log -/

theorem audit_seq (s : State) (kind : Nat) (rej ali : Bool) (req : Nat) (w4 w5 w6 w7 : Word) :
    (audit s kind rej ali req w4 w5 w6 w7).aud.seq = s.aud.seq + 1 := by
  unfold audit
  dsimp only
  split <;> simp

theorem auditEvent_seq (s : State) (ev : AudEvent) (req detail : Nat) (w5 : Word) : (auditEvent s ev req detail w5).aud.seq = s.aud.seq + 1 :=
  audit_seq _ _ _ _ _ _ _ _ _

/-! ### FAULT (R35) -/

/-- An entry to FAULT: the cause is written, the mode changes, then links, store, relays and running packets end. -/
theorem enterFault_after {s : State} (c : FaultCause) (hr : s.mode ≠ .reset) (hf : s.mode ≠ .fault) :
    ∃ u, getF u Reg.SYS_FAULT_CAUSE_CODE = FaultCause.code c ∧
      Within [.regs, .flash, .jieth, .cal, .cmd, .aud, .out, .freeCtr] [.link, .perf, .aud, .cmd] (faultMode u) (enterFault s c) := by
  refine ⟨setF (auditEvent s .fault 0x23 (FaultCause.code c) 0) Reg.SYS_FAULT_CAUSE_CODE (FaultCause.code c), ?_, ?_⟩
  · refine (getF_setF_same _ _ _ (by decide)).trans (Nat.mod_eq_of_lt ?_)
    cases c <;> decide
  · unfold enterFault
    rw [if_neg (by simp [hr, hf])]
    exact .fold (fun t p => (finish_within t p .timeout []).mono (by decide) (by decide))
      ((faultStops_within _).after ((stopLinks_within _).mono (by decide) (by decide)) (by decide) (by decide)) _

theorem enterFault_mode {s : State} (c : FaultCause) (hr : s.mode ≠ .reset) (hf : s.mode ≠ .fault) : (enterFault s c).mode = .fault := by
  obtain ⟨u, -, w⟩ := enterFault_after c hr hf
  exact w.parts .mode (by decide)

theorem enterFault_hb {s : State} (c : FaultCause) (hr : s.mode ≠ .reset) (hf : s.mode ≠ .fault) : (enterFault s c).hb = false := by
  obtain ⟨u, -, w⟩ := enterFault_after c hr hf
  exact w.parts .hb (by decide)

theorem enterFault_code {s : State} (c : FaultCause) (hr : s.mode ≠ .reset) (hf : s.mode ≠ .fault) :
    getF (enterFault s c) Reg.SYS_FAULT_CAUSE_CODE = FaultCause.code c := by
  obtain ⟨u, hu, w⟩ := enterFault_after c hr hf
  rw [w.getF_eq (by simp [Area.has, Reg.SYS_FAULT_CAUSE_CODE])]
  exact hu

/-! ### The firmware's engines -/

theorem engRunning_set (s : State) (e : Nat) : engRunning (setF s (Reg.UE_ENG_STATUS_RUNNING e) 1) e = true :=
  getB_eq_true (getF_setF_same _ _ _ (by simp [Reg.UE_ENG_STATUS_RUNNING]))

theorem engRunning_set_keeps {s : State} {e : Nat} (n : Nat) (h : engRunning s e = true) :
    engRunning (setF s (Reg.UE_ENG_STATUS_RUNNING n) 1) e = true := by
  by_cases k : e % 16 = n % 16
  · have : Reg.UE_ENG_STATUS_RUNNING e = Reg.UE_ENG_STATUS_RUNNING n := by simp [Reg.UE_ENG_STATUS_RUNNING, k]
    have same := engRunning_set s n
    unfold engRunning at same ⊢; rwa [this]
  · refine (getB_eq_of_regWord (regWord_setF_ne _ _ _ ?_)).trans h
    simp [Reg.UE_ENG_STATUS_RUNNING]; omega

theorem firmwareEngines_running (s : State) {e : Nat} (h : e < 12) : engRunning (firmwareEngines s) e = true := by
  unfold firmwareEngines
  exact foldl_reaches (P := fun t => engRunning t e = true) (f := fun t n => setF t (Reg.UE_ENG_STATUS_RUNNING n) 1) (x := e) (fun t => engRunning_set t e) (fun t n k => engRunning_set_keeps n k) (List.mem_range.mpr h) s

/-! ### The end of the boot sequence (R33) -/

section boot
variable (s : State) (img : Nat) (f : FwImage)

/-- Step 5 of R33: the image's engines run, the command processor is up. -/
def bootEngines : State := firmwareEngines (domainsOn (cpStart (imageInfo s img f)) [.eng])

/-- CONFIG is entered with HB_OUT running. -/
def configEntered (t : State) : State := { t with mode := .config, hb := true, hbAt := t.now }

theorem configEntered_mode (t : State) : (configEntered t).mode = .config := rfl
theorem configEntered_hb (t : State) : (configEntered t).hb = true := rfl
theorem configEntered_domains (t : State) : (configEntered t).domains = t.domains := rfl
theorem configEntered_clk (t : State) : (configEntered t).clk = t.clk := rfl
theorem configEntered_aud (t : State) : (configEntered t).aud = t.aud := rfl

theorem bootEnd_eq (t : State) : bootEnd t f = auditEvent (configEntered t) .boot 0x23
    ((viewWord t Reg.SYS_BOOT_STATUS_IMAGE.addr).toNat % 65536) (BitVec.ofNat 32 (imgVersion f)) := rfl

theorem bootFinish_eq : bootFinish s img f = bootEnd (domainsOn (voteCal (bootEngines s img f)) mainDomains) f := rfl

theorem bootEngines_aon {a : Nat} (h : addrDomain a = .aon) : regWord (bootEngines s img f) a = regWord (imageInfo s img f) a := by
  obtain h' := addrDomain_eq_aon.mp h
  unfold bootEngines
  rw [(firmwareEngines_within _).regs a (by simp [Area.has]; omega), domainsOn_regWord _ _ (by simp [Area.has]; omega) (by omega) (by omega) (by rw [h]; simp)]
  exact (cpStart_within _).regs a (by simp)

/-- Of PD_AON the boot touches the image's registers and the log's. -/
theorem bootFinish_aon {a : Nat} (h : addrDomain a = .aon) (hl : ¬ Area.aud.has a) : regWord (bootFinish s img f) a = regWord (imageInfo s img f) a := by
  obtain h' := addrDomain_eq_aon.mp h
  rw [bootFinish_eq, (bootEnd_within _ _).regs a (by simpa using hl),
    domainsOn_regWord _ _ (by simp [Area.has]; omega) (by omega) (by omega) (by rw [h]; simp [mainDomains]),
    (voteCal_within _).regs a (by simp [Area.has]; omega), bootEngines_aon s img f h]

theorem bootFinish_getF {g : Fld} (h : addrDomain g.addr = .aon) (hl : ¬ Area.aud.has g.addr) :
    getF (bootFinish s img f) g = getF (imageInfo s img f) g := getF_eq_of_regWord (bootFinish_aon s img f h hl)

theorem bootFinish_after : Within [.regs, .aud, .out] [.aud] (configEntered (domainsOn (voteCal (bootEngines s img f)) mainDomains)) (bootFinish s img f) := by
  rw [bootFinish_eq, bootEnd_eq]; exact auditEvent_within _ _ _ _ _

theorem bootFinish_mode : (bootFinish s img f).mode = .config := Eq.trans ((bootFinish_after s img f).parts .mode (by decide)) (configEntered_mode _)

theorem bootFinish_hb : (bootFinish s img f).hb = true := Eq.trans ((bootFinish_after s img f).parts .hb (by decide)) (configEntered_hb _)

/-- What holds of a part once the engines run holds of it when the boot is over. -/
theorem bootFinish_late : Within [.regs, .staged, .mode, .domains, .flash, .hb, .hbAt, .clk, .ports, .fab, .coarse, .cal, .aud, .out] [.any]
    (bootEngines s img f) (bootFinish s img f) :=
  (bootEnd_within _ _).afterAny ((domainsOn_within _ _).afterAny ((voteCal_within _).any.mono (by decide) (by decide)) (by decide)) (by decide)

theorem bootFinish_cpUp : (bootFinish s img f).cpUp = true ∧ (bootFinish s img f).boot = .idle := by
  have w := bootFinish_late s img f
  have we := firmwareEngines_within (domainsOn (cpStart (imageInfo s img f)) [.eng])
  have wd := domainsOn_within (cpStart (imageInfo s img f)) [.eng]
  exact ⟨Eq.trans (w.parts .cpUp (by decide)) (Eq.trans (we.parts .cpUp (by decide)) (wd.parts .cpUp (by decide))),
    Eq.trans (w.parts .boot (by decide)) (Eq.trans (we.parts .boot (by decide)) (wd.parts .boot (by decide)))⟩

theorem bootFinish_powered {d : Domain} (h : d ∈ mainDomains) : powered (bootFinish s img f) d = true := by
  have hd : (bootFinish s img f).domains = _ := Eq.trans ((bootFinish_after s img f).parts .domains (by decide)) (configEntered_domains _)
  unfold powered
  rw [hd]
  exact domainsOn_powered _ (.inl h)

theorem bootEngines_powered : powered (bootEngines s img f) .eng = true := by
  have hd : (bootEngines s img f).domains = _ := (firmwareEngines_within _).parts .domains (by decide)
  unfold powered
  rw [hd]
  exact domainsOn_powered _ (.inl (by decide))

theorem bootFinish_running {e : Nat} (h : e < 12) : engRunning (bootFinish s img f) e = true := by
  have hr : engRunning (bootEngines s img f) e = true := firmwareEngines_running _ h
  have hp : Domain.eng ∈ (voteCal (bootEngines s img f)).domains := by
    rw [show (voteCal (bootEngines s img f)).domains = _ from (voteCal_within _).parts .domains (by decide)]; exact of_decide_eq_true (bootEngines_powered s img f)
  rw [← hr]
  refine getB_eq_of_regWord ?_
  have ha : (Reg.UE_ENG_STATUS_RUNNING e).addr / 65536 = 11 := by simp [Reg.UE_ENG_STATUS_RUNNING]; omega
  have hd : addrDomain (Reg.UE_ENG_STATUS_RUNNING e).addr = .eng := by unfold addrDomain; rw [ha]; rfl
  rw [bootFinish_eq, (bootEnd_within _ _).regs _ (by simp [Area.has]; omega),
    domainsOn_regWord _ _ (by simp [Area.has]; omega) (by omega) (by omega) (by rw [hd]; exact fun _ => hp),
    (voteCal_within _).regs _ (by simp [Area.has]; omega)]

theorem bootFinish_started : (bootFinish s img f).clk.started = s.clk.started := by
  have h1 : (bootFinish s img f).clk = _ := Eq.trans ((bootFinish_after s img f).parts .clk (by decide)) (configEntered_clk _)
  have h2 : (voteCal (bootEngines s img f)).clk = _ := (voteCal_within _).parts .clk (by decide)
  have h3 : (bootEngines s img f).clk = _ := (firmwareEngines_within _).parts .clk (by decide)
  have h4 : (imageInfo s img f).clk = _ := (imageInfo_within _ _ _).parts .clk (by decide)
  have h5 : (cpStart (imageInfo s img f)).clk = _ := (cpStart_within _).parts .clk (by decide)
  rw [h1, domainsOn_started, h2, h3, domainsOn_started, h5, h4]

theorem bootFinish_seq : (bootFinish s img f).aud.seq = s.aud.seq + 1 := by
  have h1 := domainsOn_within (voteCal (bootEngines s img f)) mainDomains
  have h2 := voteCal_within (bootEngines s img f)
  have h3 := firmwareEngines_within (domainsOn (cpStart (imageInfo s img f)) [.eng])
  have h4 := domainsOn_within (cpStart (imageInfo s img f)) [.eng]
  have h5 := cpStart_within (imageInfo s img f)
  have h6 := imageInfo_within s img f
  have e : (domainsOn (voteCal (bootEngines s img f)) mainDomains).aud = s.aud :=
    Eq.trans (h1.parts .aud (by decide)) (Eq.trans (h2.parts .aud (by decide)) (Eq.trans (h3.parts .aud (by decide))
      (Eq.trans (h4.parts .aud (by decide)) (Eq.trans (h5.parts .aud (by decide)) (h6.parts .aud (by decide))))))
  rw [← e, bootFinish_eq, bootEnd_eq, auditEvent_seq, configEntered_aud]

theorem imageInfo_image (h : img < 4) : getF (imageInfo s img f) Reg.SYS_BOOT_STATUS_IMAGE = img := by
  unfold imageInfo
  rw [getF_setF_ne _ _ _ _ (by decide) (by decide), getF_setF_ne _ _ _ _ (by decide) (by decide), getF_setF_ne _ _ _ _ (by decide) (by decide),
    getF_setF_same _ _ _ (by decide)]
  exact Nat.mod_eq_of_lt h

theorem bootFinish_image (h : img < 4) : getF (bootFinish s img f) Reg.SYS_BOOT_STATUS_IMAGE = img :=
  (bootFinish_getF s img f (by decide) (by simp [Area.has, Reg.SYS_BOOT_STATUS_IMAGE])).trans (imageInfo_image s img f h)

/-- The boot keeps the results of the images' checks. -/
theorem bootFinish_resultA : getF (bootFinish s img f) Reg.SEC_BOOT_INFO_RESULT_A = getF s Reg.SEC_BOOT_INFO_RESULT_A := by
  rw [bootFinish_getF s img f (by decide) (by simp [Area.has, Reg.SEC_BOOT_INFO_RESULT_A])]
  unfold imageInfo
  rw [getF_setF_ne _ _ _ _ (by decide) (by decide), getF_setF_ne _ _ _ _ (by decide) (by decide), getF_setF_ne _ _ _ _ (by decide) (by decide),
    getF_setF_ne _ _ _ _ (by decide) (by decide)]

theorem bootFinish_idValid : getB (bootFinish s img f) Reg.SEC_STATUS_ID_VALID = getB s Reg.SEC_STATUS_ID_VALID := by
  unfold getB
  rw [bootFinish_getF s img f (by decide) (by simp [Area.has, Reg.SEC_STATUS_ID_VALID])]
  unfold imageInfo
  rw [getF_setF_ne _ _ _ _ (by decide) (by decide), getF_setF_ne _ _ _ _ (by decide) (by decide), getF_setF_ne _ _ _ _ (by decide) (by decide),
    getF_setF_ne _ _ _ _ (by decide) (by decide)]

end boot

end Sys2Proof.Machine

end

section
/-! PROOFS. The boot sequence from RESET (R32, R33, R338, R347) and the lock of the root (R40, R48). -/

namespace Sys2Proof.Machine

/-- The check of an image reads the fuses alone. -/
theorem imageCheck_congr {s t : State} (h : t.otp = s.otp) (f : FwImage) : imageCheck t f = imageCheck s f := by
  unfold imageCheck; rw [h]

/-! ### Step 4 of R33 from flash -/

/-- The results of the checks of images A and B, an image that was fallen back to (R347). -/
def bootResults (s : State) (ra rb : Nat) : State :=
  raiseIf (decide (2 ≤ ra) && decide (rb = 1)) (setF (setF s Reg.SEC_BOOT_INFO_RESULT_A ra) Reg.SEC_BOOT_INFO_RESULT_B rb) Reg.SEC_EVENTS_IMAGE_FALLBACK

/-- Result of the check of image A, which is skipped where the straps name B alone. -/
def resultA (s : State) : Nat := if s.straps.bootSrc = 0 then imageCheck s s.flash.imageA else 0

theorem bootFlash_imageA {s : State} (h : resultA s = 1) : bootFlash s = bootFinish (bootResults s 1 0) 1 s.flash.imageA := by
  unfold resultA at h
  unfold bootFlash
  simp only [h, if_true]; rfl

theorem bootFlash_imageB {s : State} (ha : resultA s ≠ 1) (hb : imageCheck s s.flash.imageB = 1) :
    bootFlash s = bootFinish (bootResults s (resultA s) 1) 2 s.flash.imageB := by
  unfold resultA at ha ⊢
  unfold bootFlash
  simp only [ha, hb, if_false, if_true]; rfl

theorem bootFlash_none {s : State} (ha : resultA s ≠ 1) (hb : imageCheck s s.flash.imageB ≠ 1) :
    bootFlash s = enterFault (bootResults s (resultA s) (imageCheck s s.flash.imageB)) .noValidImage := by
  unfold resultA at ha ⊢
  unfold bootFlash bootResults
  simp only [ha, hb, if_false]

theorem imageCheck_lt (s : State) (f : FwImage) : imageCheck s f < 16 := by
  unfold imageCheck
  repeat' split
  all_goals decide

theorem resultA_lt (s : State) : resultA s < 16 := by
  unfold resultA
  split
  · exact imageCheck_lt _ _
  · decide

section results
variable (s : State) {ra rb : Nat}

theorem bootResults_within (ra rb : Nat) : Within [.regs, .out] [.sec] s (bootResults s ra rb) := by
  unfold bootResults
  refine raiseIf_in (setF_in (setF_in .refl (by decide) ?_) (by decide) ?_) (by decide) (by decide) ?_ <;>
    exact ⟨.sec, by decide, by simp [Area.has, Reg.SEC_BOOT_INFO_RESULT_A, Reg.SEC_BOOT_INFO_RESULT_B, Reg.SEC_EVENTS_IMAGE_FALLBACK]⟩

theorem bootResults_regWord (ra rb : Nat) {a : Nat} (h1 : a ≠ Reg.SEC_BOOT_INFO_RESULT_A.addr) (h2 : a ≠ Reg.SEC_EVENTS_IMAGE_FALLBACK.addr) :
    regWord (bootResults s ra rb) a = regWord s a := by
  unfold bootResults
  exact (regWord_raiseIf_ne _ _ _ h2).trans ((regWord_setF_ne _ Reg.SEC_BOOT_INFO_RESULT_B _ h1).trans (regWord_setF_ne _ _ _ h1))

theorem bootResults_get (ha : ra < 16) (hb : rb < 16) :
    getF (bootResults s ra rb) Reg.SEC_BOOT_INFO_RESULT_A = ra ∧ getF (bootResults s ra rb) Reg.SEC_BOOT_INFO_RESULT_B = rb := by
  have e (g : Fld) (hg : g.addr = 0xE0018) : getF (bootResults s ra rb) g = getF (setF (setF s Reg.SEC_BOOT_INFO_RESULT_A ra) Reg.SEC_BOOT_INFO_RESULT_B rb) g :=
    getF_eq_of_regWord (regWord_raiseIf_ne _ _ _ (by rw [hg]; decide))
  rw [e _ rfl, e _ rfl, getF_setF_same _ _ _ (by decide), getF_setF_ne _ _ _ _ (by decide) (by decide), getF_setF_same _ _ _ (by decide)]
  exact ⟨Nat.mod_eq_of_lt ha, Nat.mod_eq_of_lt hb⟩

end results

/-! ### The root locks (R33, R48) -/

section root
variable (s : State)

theorem rootStarts_started : (rootStarts s).clk.started = true :=
  (domainsOn_started (dividersStart (setF s Reg.CLK_ROOT_STATUS_ROOT_LOCK 1)) [.host]).trans rfl

theorem rootStarts_host : powered (rootStarts s) .host = true :=
  domainsOn_powered (dividersStart (setF s Reg.CLK_ROOT_STATUS_ROOT_LOCK 1)) (.inl (by decide))

theorem rootStarts_regWord {a : Nat} (h : addrDomain a = .aon) : regWord (rootStarts s) a = regWord s a := by
  obtain h' := addrDomain_eq_aon.mp h
  refine (domainsOn_regWord (dividersStart (setF s Reg.CLK_ROOT_STATUS_ROOT_LOCK 1)) [.host] (by simp [Area.has]; omega) (by omega) (by omega) (by rw [h]; simp)).trans ?_
  exact regWord_setF_ne s Reg.CLK_ROOT_STATUS_ROOT_LOCK 1 (by simp [Reg.CLK_ROOT_STATUS_ROOT_LOCK]; omega)

theorem rootStarts_lock : getB (rootStarts s) Reg.CLK_ROOT_STATUS_ROOT_LOCK = true := by
  refine getB_eq_true ((getF_eq_of_regWord (s := setF s Reg.CLK_ROOT_STATUS_ROOT_LOCK 1) ?_).trans (getF_setF_same _ _ _ (by decide)))
  exact domainsOn_regWord (dividersStart (setF s Reg.CLK_ROOT_STATUS_ROOT_LOCK 1)) [.host] (by simp [Area.has, Reg.CLK_ROOT_STATUS_ROOT_LOCK])
    (by decide) (by decide) (fun k => absurd k (by decide))

theorem bootRooted_host (b : BootEnv) (h : s.straps.bootSrc = 1 ∨ s.straps.bootSrc = 2) :
    bootRooted s b = { rootStarts s with boot := .hostImage b } := by
  unfold bootRooted
  have e : (rootStarts s).straps = s.straps := (rootStarts_within s).parts .straps (by decide)
  exact if_pos (by rw [e]; exact h)

theorem bootRooted_flash (b : BootEnv) (h : ¬ (s.straps.bootSrc = 1 ∨ s.straps.bootSrc = 2)) : bootRooted s b = bootFlash (rootStarts s) := by
  unfold bootRooted
  have e : (rootStarts s).straps = s.straps := (rootStarts_within s).parts .straps (by decide)
  exact if_neg (by rw [e]; exact h)

end root

theorem exec_rootLock_boot {s : State} {b : BootEnv} (h : s.boot = .root b) (ho : b.osc ≠ .absent) : exec .rootLock s = ok (bootRooted s b) := by
  show execRootLock s = _
  unfold execRootLock
  rw [h]; exact if_neg ho

theorem exec_rootLock_idle {s : State} (h : s.boot = .idle) (hc : s.clk.started = true) :
    exec .rootLock s = ok (setF (setF s Reg.CLK_ROOT_STATUS_ROOT_LOCK 1) Reg.CLK_ROOT_STATUS_OSC_LOS 0) := by
  show execRootLock s = _
  unfold execRootLock
  rw [h]; exact if_pos hc

theorem exec_bootRootTimeout {s : State} {b : BootEnv} (h : s.boot = .root b) : exec .bootRootTimeout s = ok (enterFault s .rootNoLock) := by
  show execBootRootTimeout s = _
  unfold execBootRootTimeout
  rw [h]

theorem rootLock_waitsImage {s : State} {b : BootEnv} (h : s.boot = .root b) (ho : b.osc ≠ .absent) (hs : s.straps.bootSrc = 1 ∨ s.straps.bootSrc = 2) :
    Completes (exec .rootLock s) fun t =>
      t.boot = .hostImage b ∧ t.clk.started = true ∧ getB t Reg.CLK_ROOT_STATUS_ROOT_LOCK = true ∧ powered t .host = true ∧ t.mode = s.mode := by
  rw [exec_rootLock_boot h ho, bootRooted_host s b hs]
  exact ⟨_, rfl, rfl, rootStarts_started s, rootStarts_lock s, rootStarts_host s, (rootStarts_within s).parts .mode (by decide)⟩

theorem bootFlash_A_ends {s : State} (h : resultA s = 1) :
    (bootFlash s).mode = .config ∧ (bootFlash s).clk.started = s.clk.started ∧ getF (bootFlash s) Reg.SYS_BOOT_STATUS_IMAGE = 1 := by
  rw [bootFlash_imageA h]
  exact ⟨bootFinish_mode _ _ _, (bootFinish_started _ _ _).trans (congrArg Clk.started ((bootResults_within s 1 0).parts .clk (by decide))),
    bootFinish_image _ _ _ (by decide)⟩

theorem rootLock_boots {s : State} {b : BootEnv} (h : s.boot = .root b) (ho : b.osc ≠ .absent) (hs : s.straps.bootSrc = 0)
    (hi : imageCheck s s.flash.imageA = 1) :
    Completes (exec .rootLock s) fun t => t.mode = .config ∧ t.clk.started = true ∧ getF t Reg.SYS_BOOT_STATUS_IMAGE = 1 := by
  rw [exec_rootLock_boot h ho, bootRooted_flash s b (by rw [hs]; decide)]
  have w := rootStarts_within s
  have hst : (rootStarts s).straps = s.straps := w.parts .straps (by decide)
  have hfl : (rootStarts s).flash = s.flash := w.parts .flash (by decide)
  have hA : resultA (rootStarts s) = 1 := by
    unfold resultA; rw [hst, if_pos hs, hfl, imageCheck_congr (w.parts .otp (by decide))]; exact hi
  obtain ⟨hm, hc, hg⟩ := bootFlash_A_ends hA
  exact ⟨_, rfl, hm, hc.trans (rootStarts_started s), hg⟩

theorem rootLock_clears {s : State} (h : s.boot = .idle) (hc : s.clk.started = true) :
    Completes (exec .rootLock s) fun t =>
      Frame [.regs] [.clk] s t ∧ getB t Reg.CLK_ROOT_STATUS_ROOT_LOCK = true ∧ getB t Reg.CLK_ROOT_STATUS_OSC_LOS = false := by
  rw [exec_rootLock_idle h hc]
  refine ⟨_, rfl, Within.frame (setF_in (setF_in .refl (by decide) ?_) (by decide) ?_), getB_eq_true ?_, getB_eq_false ?_⟩
  · exact ⟨.clk, by decide, by simp [Area.has, Reg.CLK_ROOT_STATUS_ROOT_LOCK]⟩
  · exact ⟨.clk, by decide, by simp [Area.has, Reg.CLK_ROOT_STATUS_OSC_LOS]⟩
  · rw [getF_setF_ne _ _ _ _ (by decide) (by decide), getF_setF_same _ _ _ (by decide)]; rfl
  · rw [getF_setF_same _ _ _ (by decide)]; rfl

theorem bootRootTimeout_faults {s : State} {b : BootEnv} (h : s.boot = .root b) (hm : s.mode = .boot) :
    Completes (exec .bootRootTimeout s) fun t => t.mode = .fault ∧ getF t Reg.SYS_FAULT_CAUSE_CODE = 2 ∧ FaultFrame s t := by
  rw [exec_bootRootTimeout h]
  have hr : s.mode ≠ .reset := by rw [hm]; decide
  have hf : s.mode ≠ .fault := by rw [hm]; decide
  exact ⟨_, rfl, enterFault_mode _ hr hf, enterFault_code _ hr hf, (enterFault_within s _).frame⟩

end Sys2Proof.Machine

end

section
/-! PROOFS. Leaving RESET (R32, R33, R338, R347). -/

namespace Sys2Proof.Machine

/-! ### Straps and identity (R32, R338) -/

section identity
variable (s : State) (b : BootEnv)

/-- The device after step 1 of R33, with PD_TIME on. -/
def identified : State := domainsOn (bootIdentity (bootEnter s b) b.pufOk) [.time]

theorem bootIdentity_valid (p : Bool) : getB (bootIdentity s p) Reg.SEC_STATUS_ID_VALID = (p && !getB s Reg.SEC_STATUS_BREACH) := by
  unfold bootIdentity; exact getB_setB_same _ _ _ (by decide) (by decide)

theorem bootIdentity_key : (bootIdentity s true).sec.idKey = !getB s Reg.SEC_STATUS_BREACH := rfl

theorem identified_within : Within [.regs, .staged, .mode, .power, .powerTo, .domains, .idLoaded, .collapsed, .straps, .otp, .flash, .clk, .fab, .coarse, .sec, .out]
    [.any] s (identified s b) :=
  (domainsOn_within _ _).afterAny (((bootIdentity_within _ _).after ((bootEnter_within s b).mono (by decide) (List.nil_subset _))
    (by decide) (List.Subset.refl _)).any) (by decide)

/-- What step 1 fixes: the mode, the power state, the straps, the fuses and the flash (R32). -/
theorem identified_parts : (identified s b).mode = .boot ∧ (identified s b).power = .full ∧ (identified s b).straps.bootSrc = b.bootSrc ∧
    (identified s b).otp = { s.otp with keyHash := b.keyHash.getD s.otp.keyHash } ∧ (identified s b).flash = b.flash.getD s.flash := by
  have w := (domainsOn_within (bootIdentity (bootEnter s b) b.pufOk) [.time]).afterAny ((bootIdentity_within (bootEnter s b) b.pufOk).any.mono (by decide) (by decide))
    (l := [.regs, .staged, .domains, .clk, .fab, .coarse, .sec, .out]) (by decide)
  exact ⟨w.parts .mode (by decide), w.parts .power (by decide), congrArg Straps.bootSrc (w.parts .straps (by decide)), w.parts .otp (by decide),
    w.parts .flash (by decide)⟩

theorem identified_started : (identified s b).clk.started = s.clk.started := by
  refine (domainsOn_started _ _).trans (congrArg Clk.started ?_)
  exact Eq.trans ((bootIdentity_within _ _).parts .clk (by decide)) rfl

theorem identified_valid : getB (identified s b) Reg.SEC_STATUS_ID_VALID = (b.pufOk && !getB s Reg.SEC_STATUS_BREACH) := by
  refine (getB_eq_of_regWord (domainsOn_regWord _ _ (by simp [Area.has, Reg.SEC_STATUS_ID_VALID]) (by decide) (by decide) (fun k => absurd k (by decide)))).trans ?_
  exact bootIdentity_valid (bootEnter s b) b.pufOk

theorem identified_key (h : b.pufOk = true) : (identified s b).sec.idKey = !getB s Reg.SEC_STATUS_BREACH := by
  have e : (identified s b).sec = (bootIdentity (bootEnter s b) b.pufOk).sec := (domainsOn_within _ _).parts .sec (by decide)
  rw [e, h]; exact bootIdentity_key (bootEnter s b)

/-- Step 2 of R33 measures OSC_IN (R38). -/
def measured : State := setB (identified s b) Reg.CLK_ROOT_STATUS_OSC_100M (decide (b.osc = .mhz100))

end identity

/-- Straps that no device boots with (R32). -/
def BadStraps (b : BootEnv) : Prop := b.jrole = 3 ∨ (b.pairEn = true ∧ b.jrole ≠ 2)

/-- The root locks in step 2 (R33, R38). -/
def Locks (b : BootEnv) : Prop := b.rootLocks = true ∧ b.osc ≠ .absent

section start
variable {s : State} {b : BootEnv}

theorem bootStart_bad (h : BadStraps b) : bootStart s b = enterFault (bootIdentity (bootEnter s b) b.pufOk) .strapInvalid := if_pos h

theorem bootStart_waits (h : ¬ BadStraps b) (hl : ¬ Locks b) : bootStart s b = { measured s b with boot := .root b } :=
  (if_neg h).trans (if_neg hl)

theorem bootStart_rooted (h : ¬ BadStraps b) (hl : Locks b) : bootStart s b = bootRooted (measured s b) b := (if_neg h).trans (if_pos hl)

theorem bootStart_faults (h : BadStraps b) : (bootStart s b).mode = .fault ∧ getF (bootStart s b) Reg.SYS_FAULT_CAUSE_CODE = 3 := by
  rw [bootStart_bad h]
  have e : (bootIdentity (bootEnter s b) b.pufOk).mode = .boot := (bootIdentity_within (bootEnter s b) b.pufOk).parts .mode (by decide)
  have hr : (bootIdentity (bootEnter s b) b.pufOk).mode ≠ .reset := by rw [e]; decide
  have hf : (bootIdentity (bootEnter s b) b.pufOk).mode ≠ .fault := by rw [e]; decide
  exact ⟨enterFault_mode _ hr hf, enterFault_code _ hr hf⟩

theorem measured_parts : (measured s b).mode = .boot ∧ (measured s b).power = .full ∧ (measured s b).straps.bootSrc = b.bootSrc ∧
    (measured s b).otp = { s.otp with keyHash := b.keyHash.getD s.otp.keyHash } ∧ (measured s b).flash = b.flash.getD s.flash :=
  identified_parts s b

theorem measured_started : (measured s b).clk.started = s.clk.started := identified_started s b

/-- The root locked, the device after step 3. -/
theorem rooted_parts : (rootStarts (measured s b)).mode = .boot ∧ (rootStarts (measured s b)).straps.bootSrc = b.bootSrc ∧
    (rootStarts (measured s b)).otp = { s.otp with keyHash := b.keyHash.getD s.otp.keyHash } ∧
    (rootStarts (measured s b)).flash = b.flash.getD s.flash ∧ (rootStarts (measured s b)).aud = s.aud := by
  have w := rootStarts_within (measured s b)
  obtain ⟨hm, -, hb, ho, hf⟩ := measured_parts (s := s) (b := b)
  have ha : (measured s b).aud = s.aud := (identified_within s b).parts .aud (by decide)
  exact ⟨Eq.trans (w.parts .mode (by decide)) hm, (congrArg Straps.bootSrc (w.parts .straps (by decide))).trans hb, Eq.trans (w.parts .otp (by decide)) ho,
    Eq.trans (w.parts .flash (by decide)) hf, Eq.trans (w.parts .aud (by decide)) ha⟩

theorem rooted_valid : getB (rootStarts (measured s b)) Reg.SEC_STATUS_ID_VALID = (b.pufOk && !getB s Reg.SEC_STATUS_BREACH) := by
  rw [getB_eq_of_regWord (rootStarts_regWord _ (by decide)), ← identified_valid s b]
  exact getB_eq_of_regWord (regWord_setB_ne _ _ _ (by decide))

theorem rooted_key (h : b.pufOk = true) : (rootStarts (measured s b)).sec.idKey = !getB s Reg.SEC_STATUS_BREACH := by
  have e : (rootStarts (measured s b)).sec = (measured s b).sec := (rootStarts_within _).parts .sec (by decide)
  rw [e]; exact identified_key s b h

/-- Results of the checks of a boot from flash. -/
theorem rooted_resultA : resultA (rootStarts (measured s b)) =
    if b.bootSrc = 0 then imageCheck { s with otp := { s.otp with keyHash := b.keyHash.getD s.otp.keyHash } } (b.flash.getD s.flash).imageA else 0 := by
  obtain ⟨-, hb, ho, hf, -⟩ := rooted_parts (s := s) (b := b)
  unfold resultA
  rw [hb, hf, ← imageCheck_congr (t := rootStarts (measured s b)) (s := { s with otp := _ }) ho]

theorem rooted_resultB : imageCheck (rootStarts (measured s b)) (rootStarts (measured s b)).flash.imageB =
    imageCheck { s with otp := { s.otp with keyHash := b.keyHash.getD s.otp.keyHash } } (b.flash.getD s.flash).imageB := by
  obtain ⟨-, -, ho, hf, -⟩ := rooted_parts (s := s) (b := b)
  rw [hf, ← imageCheck_congr (t := rootStarts (measured s b)) (s := { s with otp := _ }) ho]

end start

/-! ### Boot from flash -/

/-- A boot is over: CONFIG, everything powered, the firmware's engines running, one entry logged, the identity as it was. -/
def Booted (s : State) (img : Nat) (t : State) : Prop :=
  t.mode = .config ∧ t.hb = true ∧ t.cpUp = true ∧ t.boot = .idle ∧ (∀ d ∈ mainDomains, powered t d = true) ∧ (∀ e, e < 12 → engRunning t e = true) ∧
  getF t Reg.SYS_BOOT_STATUS_IMAGE = img ∧ t.aud.seq = s.aud.seq + 1 ∧ t.sec = s.sec ∧ getB t Reg.SEC_STATUS_ID_VALID = getB s Reg.SEC_STATUS_ID_VALID

theorem bootFinish_booted (s : State) {img : Nat} (f : FwImage) (h : img < 4) : Booted s img (bootFinish s img f) :=
  ⟨bootFinish_mode s img f, bootFinish_hb s img f, (bootFinish_cpUp s img f).1, (bootFinish_cpUp s img f).2, fun _ => bootFinish_powered s img f,
    fun _ => bootFinish_running s img f, bootFinish_image s img f h, bootFinish_seq s img f, (bootFinish_within s img f).parts .sec (by decide),
    bootFinish_idValid s img f⟩

theorem bootResults_booted {s t : State} {ra rb img : Nat} (h : Booted (bootResults s ra rb) img t) : Booted s img t := by
  have w := bootResults_within s ra rb
  unfold Booted at *
  rw [← w.parts .aud (by decide), ← w.parts .sec (by decide), ← getB_eq_of_regWord (bootResults_regWord s ra rb (a := Reg.SEC_STATUS_ID_VALID.addr) (by decide) (by decide))]
  exact h

theorem bootFlash_booted {s : State} (h : resultA s = 1 ∨ imageCheck s s.flash.imageB = 1) : Booted s (if resultA s = 1 then 1 else 2) (bootFlash s) := by
  by_cases hA : resultA s = 1
  · rw [if_pos hA, bootFlash_imageA hA]; exact bootResults_booted (bootFinish_booted _ _ (by decide))
  · rw [if_neg hA, bootFlash_imageB hA (h.resolve_left hA)]; exact bootResults_booted (bootFinish_booted _ _ (by decide))

theorem bootFlash_faults {s : State} (hm : s.mode = .boot) (ha : resultA s ≠ 1) (hb : imageCheck s s.flash.imageB ≠ 1) :
    (bootFlash s).mode = .fault ∧ getF (bootFlash s) Reg.SYS_FAULT_CAUSE_CODE = 1 ∧ getF (bootFlash s) Reg.SEC_BOOT_INFO_RESULT_A = resultA s ∧
    getF (bootFlash s) Reg.SEC_BOOT_INFO_RESULT_B = imageCheck s s.flash.imageB := by
  rw [bootFlash_none ha hb]
  obtain ⟨u, hu⟩ : ∃ u, u = bootResults s (resultA s) (imageCheck s s.flash.imageB) := ⟨_, rfl⟩
  have hmu : u.mode = .boot := by rw [hu]; exact Eq.trans ((bootResults_within s _ _).parts .mode (by decide)) hm
  obtain ⟨hA, hB⟩ := bootResults_get s (resultA_lt s) (imageCheck_lt s s.flash.imageB)
  rw [← hu] at hA hB ⊢
  have hr : u.mode ≠ .reset := by rw [hmu]; decide
  have hf : u.mode ≠ .fault := by rw [hmu]; decide
  have w := enterFault_within u .noValidImage
  exact ⟨enterFault_mode _ hr hf, enterFault_code _ hr hf, (w.getF_eq (by simp [Area.has, Reg.SEC_BOOT_INFO_RESULT_A])).trans hA,
    (w.getF_eq (by simp [Area.has, Reg.SEC_BOOT_INFO_RESULT_B])).trans hB⟩

/-! ### The commands that leave RESET -/

/-- A command leaves RESET: the boot starts, from a state that differs at most in its pins and, after a collapse, its SYS block (R371). -/
theorem leavesReset {s : State} {b : BootEnv} {x : Instr}
    (h : (x = .resetRelease b ∧ s.mode = .reset ∧ s.power ≠ .aon ∧ s.power ≠ .off) ∨
      (x = .aonExit b ∧ s.mode = .reset ∧ s.power = .aon ∧ s.pins.resetN = true)) :
    ∃ u : State, exec x s = ok (bootStart u b) ∧ u.otp = s.otp ∧ u.flash = s.flash ∧ u.clk = s.clk ∧ u.aud = s.aud ∧
      getB u Reg.SEC_STATUS_BREACH = getB s Reg.SEC_STATUS_BREACH := by
  rcases h with ⟨rfl, hm, hp⟩ | ⟨rfl, hm, hp⟩
  · exact ⟨_, if_pos ⟨hm, hp⟩, rfl, rfl, rfl, rfl, rfl⟩
  · refine ⟨if s.collapsed then sysReset s 3 else s, if_pos ⟨hp.1, hm, hp.2⟩, ?_⟩
    split
    · have w := sysReset_within s 3
      exact ⟨w.parts .otp (by decide), w.parts .flash (by decide), w.parts .clk (by decide), w.parts .aud (by decide),
        getB_eq_of_regWord (sysReset_regWord s 3 (by decide) (by decide) (by decide))⟩
    · exact ⟨rfl, rfl, rfl, rfl, rfl⟩

/-- Settles O37: the sequence leaves RESET by its straps, its root and its images; a lock or a time-out of the root ends the wait for it. -/
theorem bootSequence : Obligations.BootSequence := by
  refine ⟨fun b s x hx => ?_, fun s => ⟨fun b => rootLock_waitsImage, fun b => rootLock_boots, rootLock_clears, fun b => bootRootTimeout_faults⟩⟩
  obtain ⟨u, hu, ho, hf, hc, ha, hbr⟩ := leavesReset hx
  rw [hu]
  have hcheck (f : FwImage) : imageCheck { u with otp := { u.otp with keyHash := b.keyHash.getD u.otp.keyHash } } f =
      imageCheck { s with otp := { s.otp with keyHash := b.keyHash.getD s.otp.keyHash } } f := imageCheck_congr (by simp only [ho]) f
  have hA := rooted_resultA (s := u) (b := b)
  have hB := rooted_resultB (s := u) (b := b)
  rw [hcheck, hf] at hA hB
  refine ⟨fun hb => ⟨_, rfl, bootStart_faults hb⟩, fun hb hl => ?_, fun hb hl hh => ?_, fun hb hl hh hi => ?_, fun hb hl hh h1 h2 => ?_⟩
  · rw [bootStart_waits hb hl]
    exact ⟨_, rfl, measured_parts.1, measured_parts.2.1, rfl, measured_started.trans (congrArg Clk.started hc)⟩
  · rw [bootStart_rooted hb hl, bootRooted_host _ b (by rw [measured_parts.2.2.1]; exact hh)]
    exact ⟨_, rfl, rooted_parts.1, rfl, rootStarts_started _, rootStarts_host _, rfl⟩
  · rw [bootStart_rooted hb hl, bootRooted_flash _ b (by rw [measured_parts.2.2.1]; exact hh)]
    have k := bootFlash_booted (s := rootStarts (measured u b)) (by rw [hA, hB]; exact hi)
    rw [hA] at k
    obtain ⟨k1, k2, k3, k4, k5, k6, k7, k8, k9, k10⟩ := k
    refine ⟨_, rfl, k1, k2, k3, k4, k5, k6, k7, ?_, fun hp => ?_, ?_⟩
    · rw [k8, rooted_parts.2.2.2.2, ha]
    · rw [k9, rooted_key hp, hbr]
    · rw [k10, rooted_valid, hbr]
  · rw [bootStart_rooted hb hl, bootRooted_flash _ b (by rw [measured_parts.2.2.1]; exact hh)]
    have k := bootFlash_faults (s := rootStarts (measured u b)) rooted_parts.1 (by rw [hA]; exact h1) (by rw [hB]; exact h2)
    rw [hA, hB] at k
    exact ⟨_, rfl, k⟩

end Sys2Proof.Machine

end

section
/-! PROOFS. BOOT_WRITE and BOOT_GO (R33, R35, R315, R347). -/

namespace Sys2Proof.Machine

section packet
variable {op : Nat} {c : CmdCtx} {ws : List Word} {s : State}

/-- A command that has ended its packet within its effect, or that the device does not outlive, leaves what its effect leaves. -/
theorem opPacket_ends (h : Ready op c ws s) {u : State} (hr : runOpcode (startState op c ws s) (packetAt op c ws s) = (u, none))
    (hw : ∀ r ∈ u.cmd.waiting, r.id ≠ s.cmd.nextId) (hn : ∀ r ∈ u.cmd.running, r.id ≠ s.cmd.nextId) : opPacket op c ws s = ok u := by
  have hc := startCheck_ready h
  obtain ⟨hs, i, hi, -, -, hlen⟩ := h
  obtain ⟨ho, hb⟩ := opInfo_bounds hi
  have hsome : (opInfo op).isSome := by rw [hi]; rfl
  have hwait : u.cmd.waiting.any (fun r => decide (r.id = (packetAt op c ws s).id)) = false :=
    List.any_eq_false.mpr fun r m e => hw r m (of_decide_eq_true e)
  have hrun : isRunning u (packetAt op c ws s).id = false := List.any_eq_false.mpr fun r m e => hn r m (of_decide_eq_true e)
  rw [opPacket_starts hs ho hsome (hb _ hlen)]
  unfold startPacket
  simp only [← startState_eq hs ho hsome (hb _ hlen), hc, hr]
  unfold acknowledge
  rw [hwait, hrun]; rfl

/-- The final reply over PCI Express leaves the device, where the endpoint is up (R304). -/
theorem finish_pcieReply (u : State) (hq : c.queue < 4) (hi : c.iface = .pcie) (hup : u.pcieUp = true) (st : Status) (w : List Word) :
    ∃ h, .pcieReply c.queue c.slot (h :: w) ∈ (finish u (packetAt op c ws s) st w).out ∧ ∃ m tag, h = replyHeader m true w.length st tag := by
  obtain ⟨t, ht, hw, -, -⟩ := finish_replies u (packetAt op c ws s) st w
  have hup' : t.pcieUp = true := Eq.trans (hw.parts .pcieUp (by decide)) hup
  refine ⟨replyHeader t true w.length st (c.tag % 256), ?_, t, _, rfl⟩
  rw [ht]
  simp only [writeReply, packetAt_iface, hi, packetAt_mute, packetAt_queue hq, packetAt_slot, packetAt_tag, hup', if_true, Bool.false_eq_true, if_false]
  split
  · exact List.mem_append_left _ (List.mem_append_right _ (List.mem_singleton.mpr rfl))
  · exact List.mem_append_right _ (List.mem_singleton.mpr rfl)

end packet

theorem replyHeader_final (s : State) {n : Nat} (st : Status) (tag : Nat) : fieldOf (replyHeader s true n st tag) 31 1 = 1 := by
  unfold replyHeader
  rw [fieldOf_ofNat _ _ _ (by norm_num)]
  have hm : Mode.code s.mode < 16 := by cases s.mode <;> decide
  have hs : st.code < 256 := by cases st <;> decide
  simp only [Nat.shiftLeft_eq, Bool.toNat_true]
  omega

theorem replyHeader_status (s : State) {n : Nat} (st : Status) (tag : Nat) : fieldOf (replyHeader s true n st tag) 8 8 = st.code := by
  unfold replyHeader
  rw [fieldOf_ofNat _ _ _ (by norm_num)]
  have hs : st.code < 256 := by cases st <;> decide
  simp only [Nat.shiftLeft_eq, Bool.toNat_true]
  omega

/-! ### FAULT ends what runs -/

/-- The packets after some of the running ones have ended. -/
theorem finishes_queues (l : List Packet) (st : Status) (s : State) :
    (l.foldl (fun t p => finish t p st []) s).cmd.waiting = s.cmd.waiting ∧
    ∀ r ∈ (l.foldl (fun t p => finish t p st []) s).cmd.running, r ∈ s.cmd.running :=
  List.foldlRecOn (motive := fun t => t.cmd.waiting = s.cmd.waiting ∧ ∀ r ∈ t.cmd.running, r ∈ s.cmd.running) l _ ⟨rfl, fun _ => id⟩
    fun t ⟨hw, hr⟩ p _ => ⟨(finish_waiting t p st []).trans hw, fun r m => hr r (List.mem_filter.mp (by rwa [finish_running] at m)).1⟩

/-- An entry to FAULT ends the packets that run, once the mode has changed. -/
theorem enterFault_finishes {s : State} (c : FaultCause) (hr : s.mode ≠ .reset) (hf : s.mode ≠ .fault) :
    ∃ v, enterFault s c = v.cmd.running.foldl (fun t p => finish t p .timeout []) v ∧ v.cmd = s.cmd ∧ OutGrows s v := by
  obtain ⟨u, hu⟩ : ∃ u, u = setF (auditEvent s .fault 0x23 (FaultCause.code c) 0) Reg.SYS_FAULT_CAUSE_CODE (FaultCause.code c) := ⟨_, rfl⟩
  have w : Within [.flash, .jieth, .cal, .freeCtr, .mode, .powerTo, .domains, .boot, .waking, .pcieUp, .hb, .ports, .regs] [.link] u (faultStops (stopLinks (faultMode u))) :=
    (faultStops_within _).after ((stopLinks_within _).after ((faultMode_within u).mono (by decide) (by decide)) (by decide) (by decide)) (by decide) (by decide)
  have hcmd : u.cmd = s.cmd := by rw [hu, setF_cmd]; exact (auditEvent_within s .fault 0x23 (FaultCause.code c) 0).parts .cmd (by decide)
  have hg : OutGrows s u := by rw [hu]; exact (OutGrows.same (setF_out _ _ _)).after (audit_grows _ _ _ _ _ _ _ _ _)
  refine ⟨faultStops (stopLinks (faultMode u)), ?_, Eq.trans (w.parts .cmd (by decide)) hcmd, (w.outGrows (by decide)).after hg⟩
  unfold enterFault
  rw [if_neg (by simp [hr, hf]), hu]

/-- An entry to FAULT only ends packets and only adds outputs. -/
theorem enterFault_queues {s : State} (c : FaultCause) (hr : s.mode ≠ .reset) (hf : s.mode ≠ .fault) :
    (enterFault s c).cmd.waiting = s.cmd.waiting ∧ (∀ r ∈ (enterFault s c).cmd.running, r ∈ s.cmd.running) ∧ OutGrows s (enterFault s c) := by
  obtain ⟨v, he, hc, hg⟩ := enterFault_finishes c hr hf
  have q := finishes_queues v.cmd.running .timeout v
  rw [he, ← hc]
  exact ⟨q.1, q.2, (OutGrows.fold (fun t p => finish_grows t p .timeout []) _).after hg⟩

/-! ### BOOT_WRITE -/

/-- The packet comes through the interface that BOOT_SRC names (R32). -/
def BootHere (c : CmdCtx) (s : State) : Prop := (c.iface = .pcie ∧ s.straps.bootSrc = 1) ∨ (c.iface = .spi ∧ s.straps.bootSrc = 2)

section cmd
variable {op : Nat} {c : CmdCtx} {ws : List Word} {s : State}

theorem bootIface_iff : bootIface s (packetAt op c ws s) = true ↔ BootHere c s := by
  unfold bootIface BootHere
  rw [packetAt_iface]
  cases c.iface <;> simp

theorem Ready.bootIface_iff (h : Ready op c ws s) : bootIface (startState op c ws s) (packetAt op c ws s) = true ↔ BootHere c s := by
  have hst : (startState op c ws s).straps = s.straps := h.start_within.parts .straps (by decide)
  have e : Machine.bootIface (startState op c ws s) (packetAt op c ws s) = Machine.bootIface s (packetAt op c ws s) := by
    unfold Machine.bootIface; rw [hst]
  rw [e, Machine.bootIface_iff]

theorem Ready.bootIface_here (h : Ready op c ws s) (hh : BootHere c s) : bootIface (startState op c ws s) (packetAt op c ws s) = true :=
  h.bootIface_iff.mpr hh

theorem Ready.bootIface_elsewhere (h : Ready op c ws s) (hh : ¬ BootHere c s) : bootIface (startState op c ws s) (packetAt op c ws s) = false :=
  Bool.eq_false_iff.mpr fun k => hh (h.bootIface_iff.mp k)

theorem Ready.bootBusy (h : Ready op c ws s) (hr : ∀ r ∈ s.cmd.running, r.opcode ≠ 5) : bootBusy (startState op c ws s) (packetAt op c ws s) = false :=
  h.runs_alone hr

theorem exec_bootWrite (c : CmdCtx) (ws : List Word) (s : State) : exec (.bootWrite c ws) s = opPacket 0x04 c ws s := rfl
theorem exec_bootGo (c : CmdCtx) (ws : List Word) (s : State) : exec (.bootGo c ws) s = opPacket 0x05 c ws s := rfl

theorem Ready.runs_bootWrite (h : Ready 0x04 c ws s) :
    runOpcode (startState 0x04 c ws s) (packetAt 0x04 c ws s) = cmdBootWrite (startState 0x04 c ws s) (packetAt 0x04 c ws s) := by
  unfold runOpcode; rw [h.opcode]; rfl

theorem Ready.runs_bootGo (h : Ready 0x05 c ws s) :
    runOpcode (startState 0x05 c ws s) (packetAt 0x05 c ws s) = cmdBootGo (startState 0x05 c ws s) (packetAt 0x05 c ws s) := by
  unfold runOpcode; rw [h.opcode]; rfl

theorem bootWrite_stores (h : Ready 0x04 c ws s) (hr : ∀ r ∈ s.cmd.running, r.opcode ≠ 5) (hh : BootHere c s)
    (hb : parF ws 0 0 20 + (ws.length - 1) ≤ 1048576) :
    Completes (exec (.bootWrite c ws) s) fun t => Answered c t .ok [] ∧ PacketFrame [.image] [] s t ∧
      t.image = memPutList s.image (parF ws 0 0 20) (ws.drop 1) := by
  have himg : (startState 0x04 c ws s).image = s.image := h.start_within.parts .image (by decide)
  have run : cmdBootWrite (startState 0x04 c ws s) (packetAt 0x04 c ws s) = done { startState 0x04 c ws s with
      image := memPutList s.image (parF ws 0 0 20) (ws.drop 1) } := by
    unfold cmdBootWrite
    simp only [h.bootIface_here hh, h.bootBusy hr, h.words, himg, Bool.not_true, Bool.false_eq_true, if_false, not_lt.mpr hb]
  have k := cmdBootWrite_within (startState 0x04 c ws s) (packetAt 0x04 c ws s)
  rw [run] at k
  obtain ⟨t, ht, ha, hpf, hw⟩ := opPacket_answers_frame h (h.runs_bootWrite.trans run) k (by decide)
  exact ⟨t, exec_bootWrite c ws s ▸ ht, ha, hpf, hw.parts .image (by decide)⟩

theorem bootWrite_outside (h : Ready 0x04 c ws s) (hr : ∀ r ∈ s.cmd.running, r.opcode ≠ 5) (hh : BootHere c s)
    (hb : 1048576 < parF ws 0 0 20 + (ws.length - 1)) :
    Completes (exec (.bootWrite c ws) s) fun t => Answered c t .badParam [] ∧ PacketFrame [] [] s t := by
  have run : cmdBootWrite (startState 0x04 c ws s) (packetAt 0x04 c ws s) = deny (startState 0x04 c ws s) .badParam := by
    unfold cmdBootWrite
    simp only [h.bootIface_here hh, h.bootBusy hr, h.words, Bool.not_true, Bool.false_eq_true, if_false, hb, if_true]
  obtain ⟨t, ht, -, ha⟩ := opPacket_denies h (h.runs_bootWrite.trans run)
  exact ⟨t, exec_bootWrite c ws s ▸ ht, ha⟩

theorem bootWrite_elsewhere (h : Ready 0x04 c ws s) (hh : ¬ BootHere c s) :
    Completes (exec (.bootWrite c ws) s) fun t => Answered c t .denied [] ∧ PacketFrame [] [] s t := by
  have run : cmdBootWrite (startState 0x04 c ws s) (packetAt 0x04 c ws s) = deny (startState 0x04 c ws s) .denied := by
    unfold cmdBootWrite
    simp only [h.bootIface_elsewhere hh, Bool.not_false, if_true]
  obtain ⟨t, ht, -, ha⟩ := opPacket_denies h (h.runs_bootWrite.trans run)
  exact ⟨t, exec_bootWrite c ws s ▸ ht, ha⟩

/-! ### BOOT_GO -/

theorem bootGo_elsewhere (h : Ready 0x05 c ws s) (hh : ¬ BootHere c s) :
    Completes (exec (.bootGo c ws) s) fun t => Answered c t .denied [] ∧ PacketFrame [] [] s t := by
  have run : cmdBootGo (startState 0x05 c ws s) (packetAt 0x05 c ws s) = deny (startState 0x05 c ws s) .denied := by
    unfold cmdBootGo
    simp only [h.bootIface_elsewhere hh, Bool.not_false, if_true]
  obtain ⟨t, ht, -, ha⟩ := opPacket_denies h (h.runs_bootGo.trans run)
  exact ⟨t, exec_bootGo c ws s ▸ ht, ha⟩

theorem bootGo_outside (h : Ready 0x05 c ws s) (hr : ∀ r ∈ s.cmd.running, r.opcode ≠ 5) (hh : BootHere c s)
    (hb : parF ws 0 0 21 = 0 ∨ 1048576 < parF ws 0 0 21) :
    Completes (exec (.bootGo c ws) s) fun t => Answered c t .badParam [] ∧ PacketFrame [] [] s t := by
  have run : cmdBootGo (startState 0x05 c ws s) (packetAt 0x05 c ws s) = deny (startState 0x05 c ws s) .badParam := by
    unfold cmdBootGo
    simp only [h.bootIface_here hh, h.bootBusy hr, h.words, Bool.not_true, Bool.false_eq_true, if_false, hb, if_true]
  obtain ⟨t, ht, -, ha⟩ := opPacket_denies h (h.runs_bootGo.trans run)
  exact ⟨t, exec_bootGo c ws s ▸ ht, ha⟩

/-- The host-written image that BOOT_GO boots. -/
def goImage (s : State) (ws : List Word) : FwImage := hostImage s (parF ws 0 0 21)

/-- The result of its check is written (R347). -/
def goChecked (s : State) (ws : List Word) : State :=
  setF (setF s Reg.SEC_BOOT_INFO_RESULT_A (imageCheck s (goImage s ws))) Reg.SEC_BOOT_INFO_RESULT_B 0

theorem goChecked_within (s : State) (ws : List Word) : Within [.regs] [.sec] s (goChecked s ws) :=
  setF_in (setF_in .refl (by decide) ⟨.sec, by decide, by simp [Area.has, Reg.SEC_BOOT_INFO_RESULT_A]⟩) (by decide)
    ⟨.sec, by decide, by simp [Area.has, Reg.SEC_BOOT_INFO_RESULT_B]⟩

theorem goChecked_result (s : State) (ws : List Word) : getF (goChecked s ws) Reg.SEC_BOOT_INFO_RESULT_A = imageCheck s (goImage s ws) := by
  unfold goChecked
  rw [getF_setF_ne _ _ _ _ (by decide) (by decide), getF_setF_same _ _ _ (by decide)]
  exact Nat.mod_eq_of_lt (imageCheck_lt _ _)

/-- What BOOT_GO's start leaves of the image and its check. -/
theorem Ready.goCheck (h : Ready 0x05 c ws s) :
    goImage (startState 0x05 c ws s) ws = goImage s ws ∧ imageCheck (startState 0x05 c ws s) (goImage s ws) = imageCheck s (goImage s ws) := by
  have himg : (startState 0x05 c ws s).image = s.image := h.start_within.parts .image (by decide)
  exact ⟨by unfold goImage hostImage; rw [himg], imageCheck_congr (h.start_within.parts .otp (by decide)) _⟩

theorem Ready.bootGo_mode (h : Ready 0x05 c ws s) : s.mode = .boot := by
  obtain ⟨-, i, hi, hm, -⟩ := h
  obtain rfl := Option.some.inj hi
  exact of_decide_eq_true hm

theorem cmdBootGo_eq (h : Ready 0x05 c ws s) (hr : ∀ r ∈ s.cmd.running, r.opcode ≠ 5) (hh : BootHere c s) (h1 : 1 ≤ parF ws 0 0 21)
    (h2 : parF ws 0 0 21 ≤ 1048576) (u : State) (hu : u = startState 0x05 c ws s) : cmdBootGo u (packetAt 0x05 c ws s) =
      if imageCheck s (goImage s ws) = 1 then done (bootFinish (goChecked u ws) 3 (goImage s ws))
      else (enterFault (finish (setF (goChecked u ws) Reg.SYS_BOOT_STATUS_IMAGE 3) (packetAt 0x05 c ws s) .denied []) .noValidImage, none) := by
  obtain ⟨k1, k2⟩ := h.goCheck
  have hif : Machine.bootIface u (packetAt 0x05 c ws s) = true := by rw [hu]; exact h.bootIface_here hh
  have hbusy : Machine.bootBusy u (packetAt 0x05 c ws s) = false := by rw [hu]; exact h.bootBusy hr
  rw [← hu] at k1 k2
  unfold cmdBootGo goChecked
  rw [k1, k2]
  have hsz : ¬ (parF ws 0 0 21 = 0 ∨ 1048576 < parF ws 0 0 21) := by omega
  have hg : hostImage u (parF ws 0 0 21) = goImage s ws := k1
  simp only [hif, hbusy, h.words, Bool.not_true, Bool.false_eq_true, if_false, hsz, hg, k2]

/-- BOOT_GO of an image that passes (R33, R347). -/
theorem bootGo_boots (h : Ready 0x05 c ws s) (hr : ∀ r ∈ s.cmd.running, r.opcode ≠ 5) (hh : BootHere c s) (h1 : 1 ≤ parF ws 0 0 21)
    (h2 : parF ws 0 0 21 ≤ 1048576) (hi : imageCheck s (goImage s ws) = 1) :
    Completes (exec (.bootGo c ws) s) fun t => getF t Reg.SEC_BOOT_INFO_RESULT_A = 1 ∧ t.mode = .config ∧ t.hb = true ∧ t.cpUp = true ∧ Answered c t .ok [] := by
  obtain ⟨u, hu⟩ : ∃ u, u = startState 0x05 c ws s := ⟨_, rfl⟩
  obtain ⟨v, hv⟩ : ∃ v, v = goChecked u ws := ⟨_, rfl⟩
  have run := h.runs_bootGo.trans (cmdBootGo_eq h hr hh h1 h2 _ rfl)
  rw [if_pos hi, ← hu, ← hv] at run
  have hcmd : (bootFinish v 3 (goImage s ws)).cmd = u.cmd := by
    have e : v.cmd = u.cmd := by rw [hv]; exact (goChecked_within u ws).parts .cmd (by decide)
    exact Eq.trans ((bootFinish_within v 3 _).parts .cmd (by decide)) e
  have hA : getF v Reg.SEC_BOOT_INFO_RESULT_A = 1 := by
    obtain ⟨k1, k2⟩ := h.goCheck
    rw [← hu] at k1 k2
    rw [hv, goChecked_result, k1, k2, hi]
  obtain ⟨t, ht, ha, w⟩ := opPacket_answers h (hu ▸ run) (h.place.congr (hu ▸ hcmd))
  refine ⟨t, exec_bootGo c ws s ▸ ht, ?_, ?_, ?_, ?_, ha⟩
  · rw [w.getF_eq (by simp [Area.has, Reg.SEC_BOOT_INFO_RESULT_A]), bootFinish_resultA, hA]
  · exact Eq.trans (w.parts .mode (by decide)) (bootFinish_mode _ _ _)
  · exact Eq.trans (w.parts .hb (by decide)) (bootFinish_hb _ _ _)
  · exact Eq.trans (w.parts .cpUp (by decide)) (bootFinish_cpUp _ _ _).1

/-- BOOT_GO of an image that fails: DENIED, then FAULT (R35, R347). -/
theorem bootGo_faults (h : Ready 0x05 c ws s) (hr : ∀ r ∈ s.cmd.running, r.opcode ≠ 5) (hh : BootHere c s) (h1 : 1 ≤ parF ws 0 0 21)
    (h2 : parF ws 0 0 21 ≤ 1048576) (hi : imageCheck s (goImage s ws) ≠ 1) :
    Completes (exec (.bootGo c ws) s) fun t => getF t Reg.SEC_BOOT_INFO_RESULT_A = imageCheck s (goImage s ws) ∧ t.mode = .fault ∧ t.hb = false ∧
      getF t Reg.SYS_FAULT_CAUSE_CODE = 1 ∧
      (c.iface = .pcie → ∃ h, .pcieReply c.queue c.slot [h] ∈ t.out ∧ fieldOf h 31 1 = 1 ∧ fieldOf h 8 8 = Status.denied.code) := by
  obtain ⟨u, hu⟩ : ∃ u, u = startState 0x05 c ws s := ⟨_, rfl⟩
  obtain ⟨v, hv⟩ : ∃ v, v = setF (goChecked u ws) Reg.SYS_BOOT_STATUS_IMAGE 3 := ⟨_, rfl⟩
  obtain ⟨w, hw⟩ : ∃ w, w = finish v (packetAt 0x05 c ws s) .denied [] := ⟨_, rfl⟩
  have run := h.runs_bootGo.trans (cmdBootGo_eq h hr hh h1 h2 _ rfl)
  rw [if_neg hi, ← hu, ← hv, ← hw] at run
  have kv : Within [.regs] [.sys, .sec] u v := by
    rw [hv]
    exact setF_in ((goChecked_within u ws).mono (by decide) (by decide)) (by decide) ⟨.sys, by decide, by simp [Area.has, Reg.SYS_BOOT_STATUS_IMAGE]⟩
  have kw : Within [.regs, .jieth, .cmd, .aud, .out] [.perf, .aud, .cmd] v w := by rw [hw]; exact finish_within _ _ _ _
  have ku : Within [.regs, .cmd, .out] [.perf] s u := by rw [hu]; exact h.start_within
  have hm : w.mode = .boot := Eq.trans (kw.parts .mode (by decide)) (Eq.trans (kv.parts .mode (by decide)) (Eq.trans (ku.parts .mode (by decide)) h.bootGo_mode))
  have hup : v.pcieUp = s.pcieUp := Eq.trans (kv.parts .pcieUp (by decide)) (ku.parts .pcieUp (by decide))
  have hcv : v.cmd = u.cmd := kv.parts .cmd (by decide)
  have hA : getF w Reg.SEC_BOOT_INFO_RESULT_A = imageCheck s (goImage s ws) := by
    obtain ⟨k1, k2⟩ := h.goCheck
    rw [← hu] at k1 k2
    rw [kw.getF_eq (by simp [Area.has, Reg.SEC_BOOT_INFO_RESULT_A]), hv, getF_setF_ne _ _ _ _ (by decide) (by decide), goChecked_result, k1, k2]
  have nr : w.mode ≠ .reset := by rw [hm]; decide
  have nf : w.mode ≠ .fault := by rw [hm]; decide
  obtain ⟨qw, qr, qo⟩ := enterFault_queues .noValidImage nr nf
  have ends : opPacket 0x05 c ws s = ok (enterFault w .noValidImage) := by
    refine opPacket_ends h (hu ▸ run) (fun r m => ?_) (fun r m => ?_)
    · rw [qw, hw, finish_waiting, hcv, hu] at m; exact h.place.1 r m
    · have m' := qr r m
      rw [hw, finish_running] at m'
      exact of_decide_eq_true (List.mem_filter.mp m').2
  refine ⟨_, (exec_bootGo c ws s).trans ends, ?_, enterFault_mode _ nr nf, enterFault_hb _ nr nf, enterFault_code _ nr nf, fun hp => ?_⟩
  · rw [(enterFault_within w .noValidImage).getF_eq (by simp [Area.has, Reg.SEC_BOOT_INFO_RESULT_A]), hA]
  · have hupS : s.pcieUp = true := by
      have k := h.1.1.2.2
      rw [hp] at k; exact k.1
    obtain ⟨x, hx, m, tag, rfl⟩ := finish_pcieReply (op := 0x05) (ws := ws) (s := s) v h.1.1.1 hp (hup.trans hupS) .denied []
    exact ⟨_, qo.mem (by rw [hw]; exact hx), replyHeader_final _ _ _, replyHeader_status _ _ _⟩

end cmd

/-- Settles O16: BOOT_WRITE by the range of its words; BOOT_GO by the check of its image, which boots or faults the device. -/
theorem bootPackets : Obligations.BootPackets := by
  refine ⟨fun c ws s h hr => ⟨fun hh hb => ?_, bootWrite_outside h hr, bootWrite_elsewhere h⟩, fun c ws s h hr hh h1 h2 => ?_,
    fun c ws s h hr => ⟨bootGo_elsewhere h, bootGo_outside h hr⟩⟩
  · obtain ⟨t, ht, ha, hf, hi⟩ := bootWrite_stores h hr hh hb
    refine ⟨t, ht, ha, hf, fun i hl => ?_, fun a ho => ?_⟩
    · rw [hi, memGet_memPutList_in _ _ _ (by simp; omega)]
      simp [hl]
    · rw [hi]; exact memGet_memPutList_out _ _ (by simp; omega)
  · by_cases hi : imageCheck s (goImage s ws) = 1
    · obtain ⟨t, ht, hA, hs⟩ := bootGo_boots h hr hh h1 h2 hi
      exact ⟨t, ht, hA.trans hi.symm, fun _ => hs, fun n => absurd hi n⟩
    · obtain ⟨t, ht, hA, hs⟩ := bootGo_faults h hr hh h1 h2 hi
      exact ⟨t, ht, hA, fun n => absurd n hi, fun _ => hs⟩

end Sys2Proof.Machine

end

section
/-! PROOFS. Supply and rails, TIMEKEEP and its wake (R28, R31, R34, R333 to R336). -/

namespace Sys2Proof.Machine

/-! ### Supply (R31, R335) -/

theorem aonSupplyLoss_forgets (s : State) :
    Completes (exec .aonSupplyLoss s) fun t =>
      t.power = .off ∧ t.domains = [] ∧ (∀ a, regWord t a = wordReset a) ∧ t.sec.keys = [] ∧ t.sec.idKey = false ∧ t.aud.ring = [] ∧
      t.pair.epoch = 0 ∧ t.otp = s.otp ∧ FlashKept s t ∧ t.pins = s.pins :=
  have w := cutStore_within s
  ⟨{ afterPower (cutStore s) with power := .off, domains := [] }, rfl, rfl, rfl, fun a => regWord_of_noRegs rfl a, rfl, rfl, rfl, rfl,
    w.parts .otp (by decide), (cutStore_flashKept s).congr rfl, w.parts .pins (by decide)⟩

theorem powerOn_starts {s : State} (h : s.power = .off) :
    Completes (exec .powerOn s) fun t =>
      t.mode = .reset ∧ t.power = .aon ∧ t.domains = [.aon] ∧ (∀ a, regWord t a = wordReset a) ∧ t.sec.keys = [] ∧ t.aud.ring = [] ∧
      t.cmd.waiting = [] ∧ t.otp = s.otp ∧ t.flash = s.flash :=
  ⟨afterPower s, if_pos h, rfl, rfl, rfl, fun a => regWord_of_noRegs rfl a, rfl, rfl, rfl, rfl, rfl⟩

/-! ### Rails (R333, R334) -/

theorem railOutOfWindow_faults {r : Rail} {s : State} (hw : s.pins.resetN = true ∨ r = .vddAon ∨ r = .vddioAon)
    (hd : ∃ d ∈ railFeeds r, powered s d = true) (hr : s.mode ≠ .reset) (hf : s.mode ≠ .fault) :
    Completes (exec (.railOutOfWindow r) s) fun t =>
      t.mode = .fault ∧ getF t Reg.SYS_FAULT_CAUSE_CODE = 6 ∧ t.hb = false ∧ FaultFrame s t := by
  have hc : ((s.pins.resetN || decide (r = .vddAon) || decide (r = .vddioAon)) && (railFeeds r).any (powered s)) = true := by
    rw [Bool.and_eq_true, List.any_eq_true]
    exact ⟨by rcases hw with h | h | h <;> simp [h], hd⟩
  exact ⟨enterFault s .powerFail, if_pos hc, enterFault_mode _ hr hf, enterFault_code _ hr hf, enterFault_hb _ hr hf, (enterFault_within s _).frame⟩

theorem railOutOfWindow_idle {r : Rail} {s : State} (hd : ∀ d ∈ railFeeds r, powered s d = false) :
    Completes (exec (.railOutOfWindow r) s) fun t => t = s := by
  have hc : ¬ ((s.pins.resetN || decide (r = .vddAon) || decide (r = .vddioAon)) && (railFeeds r).any (powered s)) = true := by
    rw [Bool.and_eq_true, List.any_eq_true]
    rintro ⟨-, d, hm, hp⟩
    exact absurd hp (by simp [hd d hm])
  exact ⟨s, if_neg hc, rfl⟩

theorem supplyCollapse_resets {r : Rail} {s : State} (hr : r = .vddCore ∨ r = .vddaClk) (ho : s.power ≠ .off) (ha : s.power ≠ .aon) :
    Completes (exec (.supplyCollapse r) s) fun t =>
      t.mode = .reset ∧ t.power = .aon ∧ t.domains = [.aon] ∧ t.collapsed = s.pins.resetN ∧ t.sec.idKey = false ∧ t.aud = s.aud ∧
      t.otp = s.otp ∧ FlashKept s t ∧ ∀ a, addrDomain a ≠ .aon → regWord t a = wordReset a :=
  have ⟨_, haud, _⟩ := resetCore_kept s
  have w := resetCore_within s
  ⟨{ resetCore s with power := .aon, collapsed := s.pins.resetN }, if_pos ⟨hr, ho, ha⟩, rfl, rfl, rfl, rfl, rfl, haud, w.parts .otp (by decide),
    (resetCore_flash s).congr rfl, fun _ h => resetCore_regWord s h⟩

/-! ### Wake events (R34) -/

theorem exec_wakeEvent (src : WakeSrc) (s : State) : exec (.wakeEvent src) s = execWakeEvent src s := rfl

theorem wakeEvent_starts {src : WakeSrc} {s : State} (h : s.mode = .timekeep) (hw : s.waking = false) (ht : src = .timer → s.wakeS ≠ 0) :
    Completes (exec (.wakeEvent src) s) fun t => Frame [.powerTo, .waking, .pins] [] s t ∧ t.waking = true ∧ t.powerTo = some .full := by
  rw [exec_wakeEvent]
  have base := wake_frame s s.pins
  cases src with
  | perst => exact ⟨_, congrArg ok (beginWake_starts (s := { s with pins := { s.pins with perstN := true } }) h hw), wake_frame s _, rfl, rfl⟩
  | spiCs => exact ⟨_, congrArg ok (beginWake_starts h hw), base, rfl, rfl⟩
  | timer => exact ⟨_, (if_neg (ht rfl)).trans (congrArg ok (beginWake_starts h hw)), base, rfl, rfl⟩

theorem wakeEvent_idle {s : State} (h : s.mode ≠ .timekeep ∨ s.waking = true) (src : WakeSrc) :
    Completes (exec (.wakeEvent src) s) fun t => Frame [.pins] [] s t := by
  rw [exec_wakeEvent]
  have base := pins_frame s s.pins
  cases src with
  | perst => exact ⟨_, congrArg ok (beginWake_idle (s := { s with pins := { s.pins with perstN := true } }) h), pins_frame s _⟩
  | spiCs => exact ⟨_, congrArg ok (beginWake_idle h), base⟩
  | timer =>
    by_cases k : s.wakeS = 0
    · exact ⟨_, if_pos k, base⟩
    · exact ⟨_, (if_neg k).trans (congrArg ok (beginWake_idle h)), base⟩

/-! ### Power sequences (R335, R336) -/

theorem exec_powerSequenceDone (s : State) : exec .powerSequenceDone s = execPowerSequenceDone s := rfl

theorem powerSequenceDone_quiet {s : State} (h : s.powerTo = some .quiet) :
    Completes (exec .powerSequenceDone s) fun t => Frame [.power, .powerTo] [] s t ∧ t.power = .quiet ∧ t.powerTo = none := by
  refine ⟨{ s with power := .quiet, powerTo := none }, ?_, frame_of_parts rfl fun p hp => ?_, rfl, rfl⟩
  · rw [exec_powerSequenceDone]; unfold execPowerSequenceDone; rw [h]; rfl
  · cases p <;> first | exact absurd (by decide) hp | rfl

theorem powerSequenceDone_full {s : State} (h : s.powerTo = some .full) (hw : s.waking = false) :
    Completes (exec .powerSequenceDone s) fun t =>
      t.power = .full ∧ t.powerTo = none ∧ (∀ d ∈ mainDomains, powered t d = true) ∧ t.tim.tod = s.tim.tod ∧ t.mode = s.mode := by
  have w := domainsOn_within s mainDomains
  refine ⟨{ domainsOn s mainDomains with power := .full, powerTo := none }, ?_, rfl, rfl, fun d hd => domainsOn_powered s (.inl hd),
    w.parts .tod (by decide), w.parts .mode (by decide)⟩
  rw [exec_powerSequenceDone]; unfold execPowerSequenceDone; rw [h]
  exact if_neg (by simp [hw])

/-! ### KEEP (R335) -/

/-- What goes with domains that are switched off, before their registers do. -/
def contentsOff (s : State) (ds : List Domain) : State := ds.foldl domainOff (ds.foldl calPowerDown s)

theorem domainsOff_eq (s : State) (ds : List Domain) : domainsOff s ds = regsOff (unpower (contentsOff s ds) ds) ds := rfl

theorem contentsOff_within (s : State) (ds : List Domain) :
    Within [.regs, .mode, .pcieUp, .clk, .tim, .sel, .ports, .jieth, .fab, .gauges, .gnss, .cal, .cmd, .aud, .out, .freeCtr]
      [.clk, .dll, .time, .ref, .slot, .port, .link, .jg, .pair, .fport, .queue, .ga, .gnss, .chan, .eng, .perf, .cal, .aud, .cmd] s (contentsOff s ds) :=
  .fold (fun t d => domainOff_within t d) (.fold (fun t d => (calPowerDown_within t d).mono (by decide) (by decide)) .refl ds) ds

theorem domainsOff_powered (s : State) {ds : List Domain} {d : Domain} (h : d ∈ ds) : powered (domainsOff s ds) d = false := by
  rw [domainsOff_eq]
  exact decide_eq_false fun m => of_decide_eq_true (List.mem_filter.mp m).2 h

theorem domainsOff_regWord (s : State) {ds : List Domain} {a : Nat} (h : addrDomain a ∈ ds) : regWord (domainsOff s ds) a = wordReset a := by
  rw [domainsOff_eq, regWord_regsOff, if_pos h]

/-- The registers of PD_AON but the log's stay when other domains go off. -/
theorem domainsOff_regWord_aon (s : State) {ds : List Domain} {a : Nat} (h : addrDomain a = .aon) (hd : Domain.aon ∉ ds) (hl : ¬ Area.aud.has a) :
    regWord (domainsOff s ds) a = regWord s a := by
  obtain h' := addrDomain_eq_aon.mp h
  rw [domainsOff_eq, regWord_regsOff, if_neg (by rw [h]; exact hd)]
  refine (regWord_congr (s := contentsOff s ds) rfl a).trans ((contentsOff_within s ds).regs a ?_)
  simp only [Area.has] at hl
  simp [Area.has]; omega

/-! ### Engines off (R265) -/

/-- An engine's switch off, in its status. -/
def engOff (t : State) (e : Nat) : State :=
  if e = 0 then t
  else
    let t1 := setF (setF (setF t (Reg.UE_ENG_STATUS_RUNNING e) 0) (Reg.UE_ENG_STATUS_HALTED e) 0) (Reg.UE_ENG_STATUS_CAUSE e) 0
    if 12 ≤ e then setF t1 (Reg.UE_ENG_STATUS_LOST e) 1 else t1

/-- The engines but UE0 with nothing in them; trims that they owned are gone. -/
def engsCleared (s : State) : State :=
  let s1 := { s with engs := { s.engs with eng := (List.range 16).map (fun e => if e = 0 then engS s e else {}) } }
  if decide (4 ≤ getF s Reg.ENG_STEER_CFG_OWNER) then clearTrims s1 else s1

theorem engsOff_eq (s : State) : engsOff s = (List.range 16).foldl engOff (engsCleared s) := rfl

theorem engOff_engs (t : State) (e : Nat) : (engOff t e).engs = t.engs := by
  unfold engOff
  dsimp only
  split
  · rfl
  · have base := (setF_engs (setF (setF t (Reg.UE_ENG_STATUS_RUNNING e) 0) (Reg.UE_ENG_STATUS_HALTED e) 0) (Reg.UE_ENG_STATUS_CAUSE e) 0).trans
      ((setF_engs (setF t (Reg.UE_ENG_STATUS_RUNNING e) 0) (Reg.UE_ENG_STATUS_HALTED e) 0).trans (setF_engs t (Reg.UE_ENG_STATUS_RUNNING e) 0))
    split
    · exact (setF_engs _ (Reg.UE_ENG_STATUS_LOST e) 1).trans base
    · exact base

theorem clearTrims_eng (s : State) : (clearTrims s).engs.eng = s.engs.eng := by
  have hr (t : State) (x : Int) : (setRequest t x).engs.eng = t.engs.eng := congrArg Engs.eng ((setRequest_within t x).parts .engs (by decide))
  have hw (t : State) (x : Int) : (setWeir t x).engs.eng = t.engs.eng := congrArg Engs.eng ((setWeir_within t x).parts .engs (by decide))
  unfold clearTrims
  dsimp only
  split
  · split
    · rw [hw]; split
      · rw [hr]
      · rfl
    · split
      · rw [hr]
      · rfl
  · rfl

theorem engsOff_engS (s : State) {e : Nat} (h1 : 1 ≤ e) (h2 : e < 16) : engS (engsOff s) e = {} := by
  have hf : (engsOff s).engs = (engsCleared s).engs := by
    rw [engsOff_eq]; exact foldl_engs _ _ _ engOff_engs
  have hc : (engsCleared s).engs.eng = (List.range 16).map (fun e => if e = 0 then engS s e else {}) := by
    unfold engsCleared
    dsimp only
    split
    · exact clearTrims_eng _
    · rfl
  unfold engS
  rw [hf, hc, List.getD_eq_getElem?_getD, List.getElem?_map, List.getElem?_range h2]
  simp only [Option.map_some, Option.getD_some]
  exact if_neg (by omega)

theorem engRunning_setF_below {s : State} {e : Nat} {f : Fld} (x : Nat) (hf : f.lo + f.w ≤ 31) : engRunning (setF s f x) e = engRunning s e := by
  unfold engRunning getB
  rw [getF_setF_ne _ _ _ _ (by omega) (.inr (.inr hf))]

theorem engRunning_stop {s : State} {e : Nat} (n : Nat) (h : e % 16 = n % 16 ∨ engRunning s e = false) :
    engRunning (setF s (Reg.UE_ENG_STATUS_RUNNING n) 0) e = false := by
  by_cases k : e % 16 = n % 16
  · have : Reg.UE_ENG_STATUS_RUNNING e = Reg.UE_ENG_STATUS_RUNNING n := by simp [Reg.UE_ENG_STATUS_RUNNING, k]
    unfold engRunning
    rw [this]
    exact getB_eq_false (getF_setF_same _ _ _ (by simp [Reg.UE_ENG_STATUS_RUNNING]))
  · refine (getB_eq_of_regWord (regWord_setF_ne _ _ _ ?_)).trans (h.resolve_left k)
    simp [Reg.UE_ENG_STATUS_RUNNING]; omega

theorem engOff_stops {t : State} {e : Nat} (n : Nat) (h : (e = n ∧ n ≠ 0) ∨ engRunning t e = false) : engRunning (engOff t n) e = false := by
  unfold engOff
  dsimp only
  split
  case isTrue h0 => exact h.resolve_left fun k => k.2 h0
  case isFalse =>
    have base : engRunning (setF (setF (setF t (Reg.UE_ENG_STATUS_RUNNING n) 0) (Reg.UE_ENG_STATUS_HALTED n) 0) (Reg.UE_ENG_STATUS_CAUSE n) 0) e = false := by
      rw [engRunning_setF_below _ (by simp [Reg.UE_ENG_STATUS_CAUSE]), engRunning_setF_below _ (by simp [Reg.UE_ENG_STATUS_HALTED])]
      exact engRunning_stop n (h.imp (fun k => by rw [k.1]) id)
    split
    · rw [engRunning_setF_below _ (by simp [Reg.UE_ENG_STATUS_LOST])]; exact base
    · exact base

theorem engsOff_running (s : State) {e : Nat} (h1 : 1 ≤ e) (h2 : e < 16) : engRunning (engsOff s) e = false := by
  rw [engsOff_eq]
  exact foldl_reaches (P := fun t => engRunning t e = false) (f := engOff) (x := e) (fun t => engOff_stops e (.inl ⟨rfl, by omega⟩))
    (fun t n k => engOff_stops n (.inr k)) (List.mem_range.mpr h2) _

theorem keepOff_domain {a : Nat} (h : addrDomain a ∈ keepOff) : ¬ Area.clk.has a ∧ ¬ Area.ue.has a := by
  constructor
  · intro k
    have : a / 65536 = 1 := by simp only [Area.has] at k; omega
    simp [addrDomain, this, keepOff] at h
  · intro k
    have : a / 65536 = 11 := by simp only [Area.has] at k; omega
    simp [addrDomain, this, keepOff] at h

theorem inKeep_engRunning (t : State) (e : Nat) : engRunning (inKeep t) e = engRunning t e := rfl
theorem inKeep_engS (t : State) (e : Nat) : engS (inKeep t) e = engS t e := rfl
theorem inKeep_regWord (t : State) (a : Nat) : regWord (inKeep t) a = regWord t a := rfl
theorem inKeep_powered (t : State) (d : Domain) : powered (inKeep t) d = decide (d ∈ t.domains) := rfl

/-- TIMEKEEP reaches KEEP (R335, R344, R265). -/
theorem keepPowerDown_keeps {s : State} (hm : s.mode = .timekeep) (hp : s.powerTo = some .keep) :
    Completes (exec .keepPowerDown s) fun t =>
      t.power = .keep ∧ t.powerTo = none ∧ (∀ d ∈ keepOff, powered t d = false) ∧ (∀ a, addrDomain a ∈ keepOff → regWord t a = wordReset a) ∧
      (∀ e, 1 ≤ e → e < 16 → engRunning t e = false ∧ (engS t e).iram = [] ∧ (engS t e).dram = []) ∧
      getB t Reg.SEC_STATUS_DEBUG_OPEN = false ∧ t.tim.tod = s.tim.tod ∧ t.sec = s.sec ∧ t.otp = s.otp := by
  obtain ⟨u, hu⟩ : ∃ u, u = domainsOff (closeDebug s) keepOff := ⟨_, rfl⟩
  have run : exec .keepPowerDown s = ok (inKeep (engsOff u)) := by rw [hu]; exact if_pos ⟨hm, hp⟩
  have we := engsOff_within u
  have wd := domainsOff_within (closeDebug s) keepOff
  rw [← hu] at wd
  have w := (inKeep_within (engsOff u)).afterAny (we.any.mono (l := [.power, .powerTo, .regs, .clk, .tim, .engs, .out]) (by decide) (List.Subset.refl _)) (by decide)
  have wc := closeDebug_within s
  have hdom : (engsOff u).domains = u.domains := we.parts .domains (by decide)
  refine ⟨inKeep (engsOff u), run, rfl, rfl, fun d hd => ?_, fun a ha => ?_, fun e h1 h2 => ?_, ?_, ?_, ?_, ?_⟩
  · rw [inKeep_powered, hdom, hu]; exact domainsOff_powered _ hd
  · obtain ⟨n1, n2⟩ := keepOff_domain ha
    rw [inKeep_regWord, we.regs a (by simp [n1, n2]), hu]; exact domainsOff_regWord _ ha
  · rw [inKeep_engRunning, inKeep_engS, engsOff_running u h1 h2, engsOff_engS u h1 h2]; exact ⟨rfl, rfl, rfl⟩
  · rw [← closeDebug_closed s]
    refine getB_eq_of_regWord ?_
    rw [inKeep_regWord, we.regs _ (by simp [Area.has, Reg.SEC_STATUS_DEBUG_OPEN]), hu]
    exact domainsOff_regWord_aon _ (by decide) (by decide) (by simp [Area.has, Reg.SEC_STATUS_DEBUG_OPEN])
  · exact Eq.trans (w.parts .tod (by decide)) (Eq.trans (wd.parts .tod (by decide)) (wc.parts .tod (by decide)))
  · exact Eq.trans (w.parts .sec (by decide)) (Eq.trans (wd.parts .sec (by decide)) (wc.parts .sec (by decide)))
  · exact Eq.trans (w.parts .otp (by decide)) (Eq.trans (wd.parts .otp (by decide)) (wc.parts .otp (by decide)))

end Sys2Proof.Machine

end

section
/-! PROOFS. The end of a wake (R28, R336, R347). -/

namespace Sys2Proof.Machine

/-! ### TIMEKEEP selects nothing (R24) -/

/-- An operation leaves a device in TIMEKEEP there. -/
def TimekeepKept (s t : State) : Prop := s.mode = .timekeep → t.mode = .timekeep

theorem Within.timekeepKept {l : List StatePart} {g : List Area} {s t : State} (h : Within l g s t) (hm : StatePart.mode ∉ l) : TimekeepKept s t :=
  Eq.trans (h.parts .mode hm)

theorem TimekeepKept.after {s t u : State} (k : TimekeepKept t u) (h : TimekeepKept s t) : TimekeepKept s u := k ∘ h

theorem TimekeepKept.fold {α : Type} {f : State → α → State} (k : ∀ t x, TimekeepKept t (f t x)) (xs : List α) (s : State) :
    TimekeepKept s (xs.foldl f s) := fun h => List.foldlRecOn (motive := fun t => t.mode = .timekeep) xs f h fun t e x _ => k t x e

theorem reselect_timekeep (s : State) : TimekeepKept s (reselect s) := fun h => by
  have hm : (noteEligible s).mode = .timekeep := h
  unfold reselect
  simp only [hm, selecting, Bool.not_false, Bool.true_or, if_true]

theorem loseSlots_timekeep (s : State) (l : List Nat) : TimekeepKept s (loseSlots s l) := by
  unfold loseSlots
  split
  · exact id
  · apply (reselect_timekeep _).after
    apply TimekeepKept.after (fun h => (raise_mode _ _).trans h)
    exact .fold (fun t n => (loseSlot_within t n true).timekeepKept (by decide)) _ _

theorem loseSource_timekeep (s : State) (ty ix : Nat) : TimekeepKept s (loseSource s ty ix) := by
  unfold loseSource
  dsimp only
  exact (loseSlots_timekeep _ _).after (.fold (fun t n h => (setF_mode _ _ _).trans h) _ _)

theorem updGnss_keepsMode (s : State) (f : Gnss → Gnss) : (updGnss s f).mode = s.mode := rfl

theorem solutionLost_timekeep (s : State) : TimekeepKept s (solutionLost s) := by
  unfold solutionLost
  dsimp only
  split
  · exact (loseSource_timekeep _ _ _).after fun h => (raise_mode _ _).trans ((updGnss_keepsMode _ _).trans ((setF_mode _ _ _).trans h))
  · exact fun h => (updGnss_keepsMode _ _).trans ((setF_mode _ _ _).trans h)

theorem gnssStop_timekeep (s : State) : TimekeepKept s (gnssStop s) := by
  unfold gnssStop
  dsimp only
  split
  · apply ((startSurvey_within _).timekeepKept (by decide)).after
    apply (solutionLost_timekeep _).after
    apply TimekeepKept.after (fun h => (setF_mode _ _ _).trans ((setF_mode _ _ _).trans h))
    apply TimekeepKept.after (TimekeepKept.fold (fun t n => ?_) _ _)
    · exact .fold (fun t n => (idleChan_within t n).timekeepKept (by decide)) _ _
    · split
      · exact id
      · exact (releaseNotch_within _ _).timekeepKept (by decide)
  · exact id

theorem gnssWake_timekeep (s : State) : TimekeepKept s (gnssWake s) := by
  have upd (t : State) (f : Gnss → Gnss) : TimekeepKept t (updGnss t f) := fun h => (updGnss_keepsMode _ _).trans h
  have survey (t : State) : TimekeepKept t (startSurvey t) := (startSurvey_within t).timekeepKept (by decide)
  unfold gnssWake gnssStart
  dsimp only
  split
  · exact (survey _).after (TimekeepKept.after (fun h => (setF_mode _ _ _).trans h) ((gnssStop_timekeep _).after (upd _ _)))
  · exact (survey _).after (upd _ _)

/-! ### ACQUIRE after a wake (R28) -/

/-- ACQUIRE entered from a mode that is not CONFIG opens the recovery window. -/
theorem enterAcquire_opens {s : State} (h : s.mode ≠ .config) : getB (enterMode s .acquire) Reg.REF_LOSS_CTRL_WINDOW_OPEN = true := by
  have key (t : State) : getB (modeEntered t s.mode .acquire) Reg.REF_LOSS_CTRL_WINDOW_OPEN = true := by
    unfold modeEntered
    dsimp only
    rw [if_neg h]
    exact getB_eq_true (getF_setF_same _ _ _ (by decide))
  unfold enterMode
  dsimp only
  rw [(evalTrims_within _).getB_eq (by simp [Area.has, Reg.REF_LOSS_CTRL_WINDOW_OPEN])]
  exact key _

/-! ### The wake ends (R336, R347) -/

/-- The device with the domains of FULL and UE0 to UE11 running their firmware again. -/
def woken (s : State) : State := gnssWake (firmwareEngines (domainsOn (wakeEnds s) mainDomains))

theorem woken_within (s : State) : Within [.power, .powerTo, .wakeS, .waking, .staged, .domains, .regs, .mode, .clk, .tim, .sel, .ports, .fab, .coarse, .gauges, .gnss,
    .cal, .out, .freeCtr] [.any] s (woken s) :=
  (gnssWake_within _).afterAny ((firmwareEngines_within _).afterAny ((domainsOn_within _ _).afterAny ((wakeEnds_within s).mono (by decide) (by decide)) (by decide))
    (by decide)) (by decide)

theorem woken_mode {s : State} (h : s.mode = .timekeep) : (woken s).mode = .timekeep :=
  gnssWake_timekeep _ (Eq.trans ((firmwareEngines_within _).parts .mode (by decide)) (Eq.trans ((domainsOn_within _ _).parts .mode (by decide))
    (Eq.trans ((wakeEnds_within s).parts .mode (by decide)) h)))

/-- What follows the wake's first steps leaves the power state. -/
theorem woken_after (s : State) : Within [.regs, .mode, .clk, .tim, .sel, .ports, .gauges, .gnss, .cal, .out, .freeCtr]
    [.clk, .dll, .time, .ref, .slot, .port, .gnss, .chan, .eng, .cal, .ue] (domainsOn (wakeEnds s) mainDomains) (woken s) :=
  (gnssWake_within _).after ((firmwareEngines_within _).mono (by decide) (by decide)) (by decide) (by decide)

theorem wakeEnds_power (s : State) : (wakeEnds s).power = .full ∧ (wakeEnds s).waking = false := ⟨rfl, rfl⟩

theorem woken_power (s : State) : (woken s).power = .full ∧ (woken s).waking = false ∧ ∀ d ∈ mainDomains, powered (woken s) d = true := by
  have w := (woken_after s)
  have wd := domainsOn_within (wakeEnds s) mainDomains
  have hd : (woken s).domains = (domainsOn (wakeEnds s) mainDomains).domains := w.parts .domains (by decide)
  refine ⟨Eq.trans (w.parts .power (by decide)) (Eq.trans (wd.parts .power (by decide)) (wakeEnds_power s).1),
    Eq.trans (w.parts .waking (by decide)) (Eq.trans (wd.parts .waking (by decide)) (wakeEnds_power s).2), fun d hm => ?_⟩
  unfold powered
  rw [hd]
  exact domainsOn_powered _ (.inl hm)

/-- The result of the check of the image that ran, where the register map has it (R347). -/
def resultField (s : State) : Fld := if getF s Reg.SYS_BOOT_STATUS_IMAGE = 2 then Reg.SEC_BOOT_INFO_RESULT_B else Reg.SEC_BOOT_INFO_RESULT_A

/-- The image as the wake finds it. -/
def wakeImage (readOk : Bool) (s : State) : FwImage := { imageRan s with readOk := (imageRan s).readOk && readOk }

theorem execWakeComplete_eq {b : Bool} {s : State} (h : s.waking = true) (u : State) (hu : u = setF s (resultField s) (imageCheck s (wakeImage b s))) :
    exec (.wakeComplete b) s = if imageCheck s (wakeImage b s) ≠ 1 then ok (enterFault u .noValidImage)
      else ok (auditEvent (hostUp (enterMode (woken u) .acquire)) .wake 0x23 0 0) := by
  subst hu
  exact if_neg (by simp [h])

theorem wakeImage_true (s : State) : wakeImage true s = imageRan s := by
  unfold wakeImage; rw [Bool.and_true]

/-- An image that could not be read fails its check (R347). -/
theorem imageCheck_unread (s : State) : imageCheck s (wakeImage false s) ≠ 1 := by
  unfold imageCheck wakeImage
  simp

theorem wakeComplete_acquires {s : State} (hw : s.waking = true) (hm : s.mode = .timekeep) (hi : imageCheck s (imageRan s) = 1) :
    Completes (exec (.wakeComplete true) s) fun t =>
      t.mode = .acquire ∧ t.power = .full ∧ t.waking = false ∧ t.pcieUp = t.pins.perstN ∧ (∀ d ∈ mainDomains, powered t d = true) ∧
      getB t Reg.REF_LOSS_CTRL_WINDOW_OPEN = true ∧ t.aud.seq = s.aud.seq + 1 ∧ t.tim.tod = s.tim.tod := by
  obtain ⟨u, hu⟩ : ∃ u, u = setF s (resultField s) (imageCheck s (wakeImage true s)) := ⟨_, rfl⟩
  have run := execWakeComplete_eq hw u hu
  rw [wakeImage_true, if_neg (by simp [hi])] at run
  have hmu : u.mode = .timekeep := by rw [hu]; exact (setF_mode _ _ _).trans hm
  have hau : u.aud = s.aud := by rw [hu]; exact setF_aud _ _ _
  have htu : u.tim = s.tim := by rw [hu]; exact setF_tim _ _ _
  have hne : (woken u).mode ≠ .config := by rw [woken_mode hmu]; decide
  obtain ⟨hp, hk, hd⟩ := woken_power u
  have ww := woken_within u
  obtain ⟨v, hv⟩ : ∃ v, v = enterMode (woken u) .acquire := ⟨_, rfl⟩
  have we : Within _ _ (woken u) v := hv ▸ enterMode_within (woken u) .acquire
  have hvm : v.mode = .acquire := by rw [hv]; exact enterMode_mode _ _
  have hvo : getB v Reg.REF_LOSS_CTRL_WINDOW_OPEN = true := by rw [hv]; exact enterAcquire_opens hne
  have hvp : v.power = .full := Eq.trans (we.parts .power (by decide)) hp
  have hvk : v.waking = false := Eq.trans (we.parts .waking (by decide)) hk
  have hvd : v.domains = (woken u).domains := we.parts .domains (by decide)
  have hva : v.aud = s.aud := Eq.trans (we.parts .aud (by decide)) (Eq.trans (ww.parts .aud (by decide)) hau)
  have hvt : v.tim.tod = s.tim.tod := Eq.trans (we.parts .tod (by decide)) (Eq.trans (ww.parts .tod (by decide)) (by rw [htu]))
  rw [← hv] at run
  have wa := auditEvent_within (hostUp v) .wake 0x23 0 0
  refine ⟨_, run, Eq.trans (wa.parts .mode (by decide)) hvm, Eq.trans (wa.parts .power (by decide)) hvp, Eq.trans (wa.parts .waking (by decide)) hvk, ?_,
    fun d m => ?_, ?_, ?_, Eq.trans (wa.parts .tod (by decide)) hvt⟩
  · have e1 : (auditEvent (hostUp v) .wake 0x23 0 0).pcieUp = v.pins.perstN := wa.parts .pcieUp (by decide)
    have e2 : (auditEvent (hostUp v) .wake 0x23 0 0).pins = v.pins := wa.parts .pins (by decide)
    rw [e1, e2]
  · have e : (auditEvent (hostUp v) .wake 0x23 0 0).domains = v.domains := wa.parts .domains (by decide)
    unfold powered
    rw [e, hvd]; exact hd d m
  · exact (wa.getB_eq (by simp [Area.has, Reg.REF_LOSS_CTRL_WINDOW_OPEN])).trans hvo
  · rw [auditEvent_seq]; exact congrArg (fun x : Aud => x.seq + 1) hva

theorem wakeComplete_faults {b : Bool} {s : State} (hw : s.waking = true) (hm : s.mode = .timekeep) (hi : b = false ∨ imageCheck s (imageRan s) ≠ 1) :
    Completes (exec (.wakeComplete b) s) fun t => t.mode = .fault ∧ getF t Reg.SYS_FAULT_CAUSE_CODE = 1 ∧ t.tim.tod = s.tim.tod := by
  obtain ⟨u, hu⟩ : ∃ u, u = setF s (resultField s) (imageCheck s (wakeImage b s)) := ⟨_, rfl⟩
  have run := execWakeComplete_eq hw u hu
  have hne : imageCheck s (wakeImage b s) ≠ 1 := by
    cases b with
    | false => exact imageCheck_unread s
    | true => rw [wakeImage_true]; exact hi.resolve_left (by decide)
  rw [if_pos hne] at run
  have hmu : u.mode = .timekeep := by rw [hu]; exact (setF_mode _ _ _).trans hm
  have htu : u.tim = s.tim := by rw [hu]; exact setF_tim _ _ _
  have nr : u.mode ≠ .reset := by rw [hmu]; decide
  have nf : u.mode ≠ .fault := by rw [hmu]; decide
  have e : (enterFault u .noValidImage).tim = s.tim := Eq.trans ((enterFault_within u .noValidImage).parts .tim (by decide)) htu
  exact ⟨_, run, enterFault_mode _ nr nf, enterFault_code _ nr nf, by rw [e]⟩

theorem wakeComplete_idle {s : State} (b : Bool) (h : s.waking = false) : Completes (exec (.wakeComplete b) s) fun t => t = s :=
  ⟨s, if_pos (by simp [h]), rfl⟩

/-- Settles O35: what is lost with a supply, what a rail's fault does, and TIMEKEEP from its power sequence to the end of its wake. -/
theorem powerAndTimekeep : Obligations.PowerAndTimekeep :=
  ⟨fun s => ⟨aonSupplyLoss_forgets s, powerOn_starts⟩,
    fun _ _ => ⟨railOutOfWindow_faults, railOutOfWindow_idle, supplyCollapse_resets⟩,
    fun _ => ⟨fun _ => wakeEvent_starts, keepPowerDown_keeps, wakeEvent_idle, wakeComplete_acquires, fun _ => wakeComplete_faults, wakeComplete_idle,
      powerSequenceDone_quiet, powerSequenceDone_full⟩⟩

end Sys2Proof.Machine

end

section
/-! PROOFS. The roles of a pair (R25, R28, R29, R164, R166 to R172). -/

namespace Sys2Proof.Machine

/-! ### A role taken (R166) -/

section taken
variable (s : State) {v : Nat}

theorem roleTaken_pair : (roleTaken s v).pair = { s.pair with yielded := false, timer := s.pair.timer.map fun _ => s.now } := by
  unfold roleTaken
  rw [raiseIf_pair, raise_pair]; rfl

theorem roleTaken_getF (f : Fld) (h : f.addr ≠ Reg.PAIR_PAIR_EVENTS_ROLE_CHANGED.addr) : getF (roleTaken s v) f = getF (setF s Reg.PAIR_PAIR_STATUS_ROLE_IN v) f := by
  refine (getF_eq_of_regWord (regWord_raiseIf_ne _ _ Reg.PAIR_PAIR_EVENTS_ROLE_RESERVED h)).trans ((getF_eq_of_regWord (regWord_raise_ne _ _ h)).trans ?_)
  rfl

theorem roleTaken_roleIn (h : v < 4) : roleIn (roleTaken s v) = v := by
  unfold roleIn
  rw [roleTaken_getF s _ (by decide), getF_setF_same _ _ _ (by decide)]
  exact Nat.mod_eq_of_lt h

theorem roleTaken_changed : getB (roleTaken s v) Reg.PAIR_PAIR_EVENTS_ROLE_CHANGED = true := by
  unfold roleTaken
  refine getB_eq_true ?_
  cases decide (v = 3)
  · exact getF_raise_same _ _ (by decide) (by decide)
  · exact (getF_raise_ne _ _ _ (by decide) (by decide)).trans (getF_raise_same _ _ (by decide) (by decide))

theorem roleTaken_reserved (h : v = 3) : getB (roleTaken s v) Reg.PAIR_PAIR_EVENTS_ROLE_RESERVED = true := by
  unfold roleTaken
  rw [decide_eq_true h]
  exact getB_eq_true (getF_raise_same _ _ (by decide) (by decide))

end taken

/-- What the taking of a role shows, and a yield that has ended (R166, R169). -/
structure ShowsRole (v : Nat) (t : State) : Prop where
  roleIn : roleIn t = v
  changed : getB t Reg.PAIR_PAIR_EVENTS_ROLE_CHANGED = true
  yielded : t.pair.yielded = false
  reserved : v = 3 → getB t Reg.PAIR_PAIR_EVENTS_ROLE_RESERVED = true

theorem roleTaken_shows (s : State) {v : Nat} (h : v < 4) : ShowsRole v (roleTaken s v) :=
  ⟨roleTaken_roleIn s h, roleTaken_changed s, by rw [roleTaken_pair], roleTaken_reserved s⟩

/-- What the member then does in its role keeps what the taking shows. -/
theorem ShowsRole.keep {v : Nat} {s t : State} (h : ShowsRole v s) (hs : regWord t Reg.PAIR_PAIR_STATUS_ROLE_IN.addr = regWord s Reg.PAIR_PAIR_STATUS_ROLE_IN.addr)
    (he : ∀ f, f = Reg.PAIR_PAIR_EVENTS_ROLE_CHANGED ∨ f = Reg.PAIR_PAIR_EVENTS_ROLE_RESERVED → getF s f = 1 → getF t f = 1)
    (hp : t.pair.yielded = s.pair.yielded) : ShowsRole v t :=
  ⟨(getF_eq_of_regWord hs).trans h.roleIn, getB_eq_true (he _ (.inl rfl) (of_decide_eq_true h.changed)), hp.trans h.yielded,
    fun k => getB_eq_true (he _ (.inr rfl) (of_decide_eq_true (h.reserved k)))⟩

/-- An operation outside the pair's registers keeps what the taking shows. -/
theorem ShowsRole.within {v : Nat} {l : List StatePart} {g : List Area} {s t : State} (h : ShowsRole v s) (w : Within l g s t)
    (hg : ∀ x ∈ g, ¬ x.has Reg.PAIR_PAIR_STATUS_ROLE_IN.addr ∧ ¬ x.has Reg.PAIR_PAIR_EVENTS_ROLE_CHANGED.addr) (hp : t.pair.yielded = s.pair.yielded) : ShowsRole v t := by
  have e : regWord t Reg.PAIR_PAIR_EVENTS_ROLE_CHANGED.addr = regWord s Reg.PAIR_PAIR_EVENTS_ROLE_CHANGED.addr := w.regs _ fun x m => (hg x m).2
  refine h.keep (w.regs _ fun x m => (hg x m).1) (fun f hf k => ?_) hp
  rw [getF_eq_of_regWord (s := s) (t := t) (f := f) (by rcases hf with rfl | rfl <;> exact e)]
  exact k

/-- A raised event of the pair keeps them. -/
theorem ShowsRole.raise {v : Nat} {s : State} (h : ShowsRole v s) {f : Fld} (hf : f.addr = Reg.PAIR_PAIR_EVENTS_ROLE_CHANGED.addr) (h1 : 0 < f.lo)
    (h6 : f.lo + f.w ≤ 6 ∨ f.lo = 7) (h32 : f.lo + f.w ≤ 32) : ShowsRole v (raise s f) := by
  refine h.keep (regWord_raise_ne _ _ (by rw [hf]; decide)) (fun g hg k => ?_) (by rw [raise_pair])
  rw [getF_raise_ne _ _ _ h32, k]
  rcases hg with rfl | rfl
  · exact .inr (.inl (by simp [Reg.PAIR_PAIR_EVENTS_ROLE_CHANGED]; omega))
  · rcases h6 with h6 | h6
    · exact .inr (.inr (by simp [Reg.PAIR_PAIR_EVENTS_ROLE_RESERVED]; omega))
    · exact .inr (.inl (by simp [Reg.PAIR_PAIR_EVENTS_ROLE_RESERVED]; omega))

/-! ### STANDBY (R24, R161) -/

theorem dropSelection_selected (s : State) : getF (dropSelection s) Reg.REF_SEL_STATUS_SELECTED = 15 := by
  unfold dropSelection
  dsimp only
  rw [getF_setF_ne _ _ _ _ (by decide) (by decide), getF_setF_ne _ _ _ _ (by decide) (by decide), getF_setF_ne _ _ _ _ (by decide) (by decide),
    getF_setF_same _ _ _ (by decide)]
  rfl

theorem selected_eq_none {s : State} (h : getF s Reg.REF_SEL_STATUS_SELECTED = 15) : selected s = none := by
  unfold selected; rw [h]; rfl

/-- Nothing is selected once the selection is dropped and a mode is entered. -/
theorem enterMode_dropped (s : State) (m : Mode) : getF (enterMode (dropSelection s) m) Reg.REF_SEL_STATUS_SELECTED = 15 := by
  rw [getF_eq_of_regWord (enterMode_regWord (dropSelection s) m (by decide) (by simp [Area.has, Reg.REF_SEL_STATUS_SELECTED]))]
  exact dropSelection_selected s

/-- A calibration under way is abandoned (R24). -/
def calAbandoned (s : State) : State := if s.mode = .calibrate then abandonCal s else s

theorem calAbandoned_within (s : State) : Within [.regs, .ports, .cal, .out] [.port, .cal] s (calAbandoned s) := .ite (abandonCal_within s) .refl

/-- Nothing is mirrored, nothing pending, no coast. -/
def standbyCleared (t : State) : State :=
  { t with pair := { t.pair with mirror := none, okSince := none }, tim := { t.tim with pend := none }, sel := { t.sel with coast := none, holdVal := none } }

theorem enterStandby_eq (s : State) : enterStandby s = follow (standbyCleared (enterMode (dropSelection (calAbandoned s)) .standby)) := rfl

theorem standbyCleared_parts (t : State) : (standbyCleared t).mode = t.mode ∧ (standbyCleared t).pair = { t.pair with mirror := none, okSince := none } ∧
    (standbyCleared t).sel.coast = none := ⟨rfl, rfl, rfl⟩

theorem standbyCleared_getF (t : State) (f : Fld) : getF (standbyCleared t) f = getF t f := rfl

section standby
variable (s : State)

theorem entered_pair (m : Mode) : (enterMode (dropSelection (calAbandoned s)) m).pair = s.pair :=
  Eq.trans ((enterMode_within _ m).parts .pair (by decide)) (Eq.trans ((dropSelection_within _).parts .pair (by decide)) ((calAbandoned_within s).parts .pair (by decide)))

theorem enterStandby_mode : (enterStandby s).mode = .standby := by
  rw [enterStandby_eq]
  exact Eq.trans ((follow_within _).parts .mode (by decide)) (Eq.trans (standbyCleared_parts _).1 (enterMode_mode _ _))

theorem enterStandby_pair : (enterStandby s).pair = { s.pair with mirror := none, okSince := none } := by
  rw [enterStandby_eq]
  have e : (follow (standbyCleared (enterMode (dropSelection (calAbandoned s)) .standby))).pair = _ := (follow_within _).parts .pair (by decide)
  rw [e, (standbyCleared_parts _).2.1, entered_pair]

theorem enterStandby_coast : (enterStandby s).sel.coast = none := by
  rw [enterStandby_eq]
  have e : (follow (standbyCleared (enterMode (dropSelection (calAbandoned s)) .standby))).sel = _ := (follow_within _).parts .sel (by decide)
  rw [e, (standbyCleared_parts _).2.2]

theorem enterStandby_selected : getF (enterStandby s) Reg.REF_SEL_STATUS_SELECTED = 15 := by
  rw [enterStandby_eq, (follow_within _).getF_eq (by simp [Area.has, Reg.REF_SEL_STATUS_SELECTED]), standbyCleared_getF]
  exact enterMode_dropped _ _

theorem auditRole_frames (t : State) : Within [.regs, .jieth, .aud, .out, .freeCtr] [.aud] t (sendTimingAll (auditRole t)) :=
  (sendTimingAll_within _).after ((auditRole_within t).mono (by decide) (by decide)) (by decide) (by decide)

end standby

/-- An active member that becomes standby (R25, R170). -/
theorem toStandby_stands {v : Nat} {s : State} (h : ShowsRole v s) :
    ShowsRole v (toStandby s) ∧ (toStandby s).mode = .standby ∧ selected (toStandby s) = none ∧ (toStandby s).sel.coast = none ∧
    (toStandby s).pair.mirror = none ∧ getB (toStandby s) Reg.PAIR_PAIR_EVENTS_BECAME_STANDBY = true := by
  obtain ⟨u, hu⟩ : ∃ u, u = enterStandby s := ⟨_, rfl⟩
  have hs : ShowsRole v u := h.within (hu ▸ enterStandby_within s) (by simp [Area.has, Reg.PAIR_PAIR_STATUS_ROLE_IN, Reg.PAIR_PAIR_EVENTS_ROLE_CHANGED])
    (by rw [hu, enterStandby_pair])
  have hm : u.mode = .standby := by rw [hu]; exact enterStandby_mode s
  have hc : u.sel.coast = none := by rw [hu]; exact enterStandby_coast s
  have hp : u.pair.mirror = none := by rw [hu, enterStandby_pair]
  have hx : getF u Reg.REF_SEL_STATUS_SELECTED = 15 := by rw [hu]; exact enterStandby_selected s
  have e : toStandby s = sendTimingAll (auditRole (raise u Reg.PAIR_PAIR_EVENTS_BECAME_STANDBY)) := by rw [hu]; rfl
  have w := auditRole_frames (raise u Reg.PAIR_PAIR_EVENTS_BECAME_STANDBY)
  rw [← e] at w
  have hsel : (toStandby s).sel = u.sel := Eq.trans (w.parts .sel (by decide)) (raise_sel _ _)
  have hpair : (toStandby s).pair = u.pair := Eq.trans (w.parts .pair (by decide)) (raise_pair _ _)
  have hr : ShowsRole v (raise u Reg.PAIR_PAIR_EVENTS_BECAME_STANDBY) := hs.raise (f := Reg.PAIR_PAIR_EVENTS_BECAME_STANDBY) rfl (by decide) (by decide) (by decide)
  have hmode : (toStandby s).mode = u.mode := Eq.trans (w.parts .mode (by decide)) (raise_mode _ _)
  refine ⟨hr.within w (by simp [Area.has, Reg.PAIR_PAIR_STATUS_ROLE_IN, Reg.PAIR_PAIR_EVENTS_ROLE_CHANGED]) (by rw [hpair, raise_pair]),
    hmode.trans hm, selected_eq_none ?_, by rw [hsel]; exact hc, by rw [hpair]; exact hp, ?_⟩
  · rw [w.getF_eq (by simp [Area.has, Reg.REF_SEL_STATUS_SELECTED]), getF_raise_ne _ _ _ (by decide) (by decide)]; exact hx
  · rw [w.getB_eq (by simp [Area.has, Reg.PAIR_PAIR_EVENTS_BECAME_STANDBY])]
    exact getB_eq_true (getF_raise_same _ _ (by decide) (by decide))

end Sys2Proof.Machine

end

section
/-! PROOFS. Isolation and takeover (R25, R28, R29, R164, R170, R171). -/

namespace Sys2Proof.Machine

/-! ### The root's input (R146) -/

/-- A change of the root's input: which it is, and what the clock's own record keeps. -/
theorem rootInput_clk (s : State) (v : Option Nat) : ∃ b, (rootInput s v).clk = { s.clk with rootFwd := v, buildOut := b } := by
  have hg (t : State) : (gateAll t).clk = t.clk := (gateAll_within t).parts .clk (by decide)
  unfold rootInput
  split
  case isTrue h => exact ⟨s.clk.buildOut, by rw [← h]⟩
  case isFalse =>
    dsimp only
    split
    · exact ⟨_, rfl⟩
    · exact ⟨_, by rw [hg, setF_clk]; rfl⟩

theorem rootInput_fwd (s : State) (v : Option Nat) : (rootInput s v).clk.rootFwd = v := by
  obtain ⟨b, e⟩ := rootInput_clk s v; rw [e]

theorem rootInput_held (s : State) (v : Option Nat) : (rootInput s v).clk.cwHeld = s.clk.cwHeld := by
  obtain ⟨b, e⟩ := rootInput_clk s v; rw [e]

/-! ### Isolation (R25) -/

/-- The word is held, nothing pending, no coast. -/
def isolateHeld (t : State) : State :=
  { t with clk := { t.clk with cwHeld := true }, tim := { t.tim with pend := none }, sel := { t.sel with coast := none } }

theorem isolateHeld_parts (t : State) : (isolateHeld t).mode = t.mode ∧ (isolateHeld t).clk.cwHeld = true ∧ (isolateHeld t).tim.pend = none ∧
    (isolateHeld t).pair = t.pair := ⟨rfl, rfl, rfl, rfl⟩

theorem isolateHeld_getF (t : State) (f : Fld) : getF (isolateHeld t) f = getF t f := rfl

theorem isolate_isolates {v : Nat} {s : State} (h : ShowsRole v s) :
    ShowsRole v (isolate s) ∧ (isolate s).mode = .config ∧ selected (isolate s) = none ∧ (isolate s).clk.cwHeld = true ∧
    (isolate s).clk.rootFwd = none ∧ (isolate s).tim.pend = none := by
  obtain ⟨u, hu⟩ : ∃ u, u = isolateHeld (enterMode (dropSelection (calAbandoned s)) .config) := ⟨_, rfl⟩
  have e : isolate s = sendTimingAll (auditRole (rootInput u none)) := by rw [hu]; rfl
  have w := auditRole_frames (rootInput u none)
  rw [← e] at w
  have wr := rootInput_within u none
  obtain ⟨um, uh, ut, -⟩ := isolateHeld_parts (enterMode (dropSelection (calAbandoned s)) .config)
  rw [← hu] at um uh ut
  have hclk : (isolate s).clk = (rootInput u none).clk := w.parts .clk (by decide)
  have htim : (isolate s).tim = u.tim := Eq.trans (w.parts .tim (by decide)) (wr.parts .tim (by decide))
  have hmode : (isolate s).mode = u.mode := Eq.trans (w.parts .mode (by decide)) (wr.parts .mode (by decide))
  refine ⟨?_, hmode.trans (um.trans (enterMode_mode _ _)), selected_eq_none ?_, by rw [hclk, rootInput_held]; exact uh, by rw [hclk]; exact rootInput_fwd _ _,
    by rw [htim]; exact ut⟩
  · exact h.within (isolate_within s) (by simp [Area.has, Reg.PAIR_PAIR_STATUS_ROLE_IN, Reg.PAIR_PAIR_EVENTS_ROLE_CHANGED])
      (congrArg Pair.yielded ((isolate_within s).parts .pair (by decide)))
  · rw [w.getF_eq (by simp [Area.has, Reg.REF_SEL_STATUS_SELECTED]), wr.getF_eq (by simp [Area.has, Reg.REF_SEL_STATUS_SELECTED]), hu, isolateHeld_getF]
    exact enterMode_dropped _ _

/-! ### The mode that a takeover takes (R29, R171) -/

theorem requestWord_held (s : State) (y : Int) : (requestWord s y).clk.cwHeld = s.clk.cwHeld := by
  unfold requestWord setRequest
  dsimp only
  rw [raiseIf_clk]

/-- Entry to a mode but from CONFIG: the word is held in STANDBY alone (R24). -/
theorem enterMode_held {s : State} {m : Mode} (h : s.mode ≠ .config) : (enterMode s m).clk.cwHeld = decide (m = .standby) := by
  have key (t : State) (fr : Mode) : (evalTrims (modeEntered t fr m)).clk = t.clk :=
    Eq.trans ((evalTrims_within _).parts .clk (by decide)) ((modeEntered_within _ _ _).parts .clk (by decide))
  unfold enterMode
  dsimp only
  rw [key, if_neg fun k => h k.1]
  rfl

/-- A mode of a new active (R29): entered, with its word following requests. -/
structure Entered (m : Mode) (t : State) : Prop where
  mode : t.mode = m
  held : t.clk.cwHeld = false

theorem enterFreerun_entered {s : State} (h : s.mode ≠ .config) : Entered .freerun (enterFreerun s) := by
  unfold enterFreerun
  exact ⟨Eq.trans ((requestWord_within _ _).parts .mode (by decide)) (enterMode_mode _ _), (requestWord_held _ _).trans (enterMode_held h)⟩

theorem enterHoldover_entered {s : State} (h : s.mode ≠ .config) : Entered .holdover (enterHoldover s) := by
  have hp : (publishHold s).mode = s.mode := (publishHold_within s).parts .mode (by decide)
  have key (t : State) (ht : t.mode = s.mode) (y : Int) : Entered .holdover (requestWord (enterMode t .holdover) y) :=
    ⟨Eq.trans ((requestWord_within _ _).parts .mode (by decide)) (enterMode_mode _ _), (requestWord_held _ _).trans (enterMode_held (by rw [ht]; exact h))⟩
  have key' (t : State) (ht : t.mode = s.mode) (f : Fld) (x : Nat) (y : Int) : Entered .holdover (requestWord (setF (enterMode t .holdover) f x) y) :=
    ⟨Eq.trans ((requestWord_within _ _).parts .mode (by decide)) ((setF_mode _ _ _).trans (enterMode_mode _ _)),
      (requestWord_held _ _).trans ((congrArg Clk.cwHeld (setF_clk _ _ _)).trans (enterMode_held (by rw [ht]; exact h)))⟩
  unfold enterHoldover
  dsimp only
  split
  · refine key _ ?_ _; exact hp
  · refine key' _ ?_ _ _ _; exact hp

theorem takeoverLost_entered {s : State} (h : s.mode ≠ .config) : ∃ m, Entered m (takeoverLost s) := by
  unfold takeoverLost
  split
  · exact ⟨_, enterHoldover_entered h⟩
  · exact ⟨_, enterFreerun_entered h⟩

/-- The slot's number stands, and what follows the selection (R29, R74) leaves it there. -/
theorem takeoverSelect_entered {s : State} (n : Nat) (h : s.mode ≠ .config) :
    Entered .locked (takeoverSelect s n) ∧ (n < 8 → selected (takeoverSelect s n) = some n) := by
  obtain ⟨u, hu⟩ : ∃ u, u = follow (setF s Reg.REF_SEL_STATUS_SELECTED n) := ⟨_, rfl⟩
  have um : u.mode = s.mode := by rw [hu]; exact Eq.trans ((follow_within _).parts .mode (by decide)) (setF_mode _ _ _)
  have us : getF u Reg.REF_SEL_STATUS_SELECTED = n % 16 := by
    rw [hu, (follow_within _).getF_eq (by simp [Area.has, Reg.REF_SEL_STATUS_SELECTED]), getF_setF_same _ _ _ (by decide)]
    rfl
  have key (t : State) (tm : t.mode = s.mode) (ts : getF t Reg.REF_SEL_STATUS_SELECTED = n % 16) :
      Entered .locked (enterMode t .locked) ∧ (n < 8 → selected (enterMode t .locked) = some n) := by
    refine ⟨⟨enterMode_mode _ _, enterMode_held (by rw [tm]; exact h)⟩, fun hn => ?_⟩
    rw [enterMode_selected]; unfold selected; rw [ts, Nat.mod_eq_of_lt (by omega)]; exact if_pos hn
  have hfa (t : State) (a : Int) (b c : Nat) (d : Bool) : Within [.regs, .tim, .out] [.dll, .time] t (firstAlign t a b c d) := firstAlign_within _ _ _ _ _
  unfold takeoverSelect
  rw [← hu]
  dsimp only
  split
  · exact key _ um us
  · refine key _ ?_ ?_
    · exact Eq.trans ((hfa _ _ _ _ _).parts .mode (by decide)) um
    · exact ((hfa u _ _ _ _).getF_eq (by simp [Area.has, Reg.REF_SEL_STATUS_SELECTED])).trans us

theorem takeoverLocked_entered {s : State} (h : s.mode ≠ .config) : ∃ m, Entered m (takeoverLocked s) := by
  unfold takeoverLocked
  split
  · split
    · exact ⟨_, (takeoverSelect_entered _ h).1⟩
    · exact takeoverLost_entered h
  · exact takeoverLost_entered h

/-- LOCKED on the mirrored selection (R29). -/
theorem takeoverLocked_selects {s : State} {f : MirrorFrame} {n : Nat} (h : s.mode ≠ .config) (hf : s.pair.mirror = some f) (hs : f.selected = some n)
    (hn : n < 8) (hq : slotQual s n = true) : (takeoverLocked s).mode = .locked ∧ selected (takeoverLocked s) = some n := by
  unfold takeoverLocked
  simp only [hf, hs, Option.bind_some, hq, if_true]
  obtain ⟨k1, k2⟩ := takeoverSelect_entered n h
  exact ⟨k1.mode, k2 hn⟩

theorem dropElig_entered {m : Mode} {t : State} (h : Entered m t) : Entered m (dropElig t) := ⟨h.mode, h.held⟩

theorem takeoverMode_none {s : State} (h : s.mode ≠ .config) (hm : s.pair.mirror = none) : Entered .holdover (takeoverMode s) := by
  have e : takeoverMode s = dropElig (enterHoldover (dropHist s)) := by unfold takeoverMode mirroredMode; rw [hm]
  rw [e]
  exact dropElig_entered (enterHoldover_entered (s := dropHist s) h)

section mirrored
variable {s : State} {f : MirrorFrame}

theorem mirroredMode_eq (hf : s.pair.mirror = some f) : mirroredMode s = some (if f.mode = .locked ∧ 1000 < s.pair.mirrorMs then .acquire else f.mode) := by
  unfold mirroredMode
  rw [hf]
  dsimp only
  split <;> rfl

theorem takeoverMode_freerun (h : s.mode ≠ .config) (hf : s.pair.mirror = some f) (hm : f.mode = .freerun) : Entered .freerun (takeoverMode s) := by
  have e : takeoverMode s = enterFreerun s := by unfold takeoverMode; rw [mirroredMode_eq hf, if_neg (by simp [hm]), hm]
  rw [e]; exact enterFreerun_entered h

theorem takeoverMode_holdover (h : s.mode ≠ .config) (hf : s.pair.mirror = some f) (hm : f.mode ≠ .freerun)
    (hl : f.mode ≠ .locked ∨ 1000 < s.pair.mirrorMs) : Entered .holdover (takeoverMode s) := by
  obtain ⟨m, em, n1, n2⟩ : ∃ m, mirroredMode s = some m ∧ m ≠ .locked ∧ m ≠ .freerun := by
    refine ⟨_, mirroredMode_eq hf, ?_⟩
    split
    · exact ⟨by decide, by decide⟩
    · rename_i k
      exact ⟨fun e => k ⟨e, hl.resolve_left (not_not_intro e)⟩, hm⟩
  have e : takeoverMode s = enterHoldover s := by unfold takeoverMode; rw [em]; cases m <;> first | rfl | contradiction
  rw [e]; exact enterHoldover_entered h

theorem takeoverMode_locked (hf : s.pair.mirror = some f) (hm : f.mode = .locked) (hl : s.pair.mirrorMs ≤ 1000) : takeoverMode s = takeoverLocked s := by
  unfold takeoverMode
  rw [mirroredMode_eq hf, if_neg (by omega), hm]

end mirrored

/-- In each of its modes the new active's word follows requests again. -/
theorem takeoverMode_entered {s : State} (h : s.mode ≠ .config) : ∃ m, Entered m (takeoverMode s) := by
  cases hf : s.pair.mirror with
  | none => exact ⟨_, takeoverMode_none h hf⟩
  | some f =>
    by_cases h1 : f.mode = .freerun
    · exact ⟨_, takeoverMode_freerun h hf h1⟩
    · by_cases h2 : f.mode = .locked ∧ s.pair.mirrorMs ≤ 1000
      · rw [takeoverMode_locked hf h2.1 h2.2]; exact takeoverLocked_entered h
      · exact ⟨_, takeoverMode_holdover h hf h1 (by by_cases h3 : f.mode = .locked <;> simp_all)⟩

end Sys2Proof.Machine

end

section
/-! PROOFS. TAKEOVER (R28, R164, R170, R171) and ROLE_IN_TAKEN. -/

namespace Sys2Proof.Machine

section takeover
variable (s : State)

/-- A takeover before its mode: the root's input, the word, the count and the events (R146, R170). -/
def takeoverCounted : State :=
  raise (incF (takeWord (takeoverRoot s) (match s.pair.mirror with | some f => f.cw | none => cwNow s)) Reg.PAIR_TAKEOVER_CNT 1) Reg.PAIR_PAIR_EVENTS_TOOK_OVER

/-- The same with the window open, as the mode is taken (R28). -/
def takeoverBase : State := openWindow (raiseIf (!pairReady s) (takeoverCounted s) Reg.PAIR_PAIR_EVENTS_UNREADY_TAKEOVER)

/-- The takeover done, nothing mirrored. -/
def takeoverDone : State := openWindow { takeoverMode (takeoverBase s) with pair := { (takeoverMode (takeoverBase s)).pair with mirror := none } }

theorem takeover_eq : takeover s = ptpResume (sendTimingAll (auditRole (takeoverDone s))) := rfl

theorem takeoverRoot_pair : (takeoverRoot s).pair = { s.pair with epoch := nextEpoch s } := by
  have h : (rootInput s none).pair = s.pair := (rootInput_within s none).parts .pair (by decide)
  show { (rootInput s none).pair with epoch := nextEpoch s } = _
  rw [h]

theorem takeoverCounted_within : Within [.regs, .clk, .tim, .pair, .gauges, .out, .freeCtr] [.clk, .dll, .pair] s (takeoverCounted s) := by
  unfold takeoverCounted
  refine raise_in (incF_in ?_ (by decide) ⟨.pair, by decide, by simp [Area.has, Reg.PAIR_TAKEOVER_CNT]⟩) (by decide) (by decide)
    ⟨.pair, by decide, by simp [Area.has, Reg.PAIR_PAIR_EVENTS_TOOK_OVER]⟩
  exact (takeWord_within _ _).after ((takeoverRoot_within s).mono (by decide) (by decide)) (by decide) (by decide)

theorem takeoverCounted_pair : (takeoverCounted s).pair = { s.pair with epoch := nextEpoch s } := by
  unfold takeoverCounted
  rw [raise_pair, incF_pair, (takeWord_within _ _).parts .pair (by decide), takeoverRoot_pair]

/-- A word of the pair's registers before the takeover's count and events. -/
theorem takeWord_getF (x : Int) {f : Fld} (h : Area.pair.has f.addr) : getF (takeWord (takeoverRoot s) x) f = getF s f := by
  simp only [Area.has] at h
  rw [(takeWord_within _ _).getF_eq (by simp [Area.has]; omega), (takeoverRoot_within s).getF_eq (by simp [Area.has]; omega)]

theorem takeoverCounted_count : getF (takeoverCounted s) Reg.PAIR_TAKEOVER_CNT = (getF s Reg.PAIR_TAKEOVER_CNT + 1) % 2 ^ 32 := by
  unfold takeoverCounted
  rw [getF_raise_ne _ _ _ (by decide) (by decide), getF_incF_same _ _ _ (by decide), takeWord_getF s _ (by simp [Area.has, Reg.PAIR_TAKEOVER_CNT])]
  rfl

theorem takeoverCounted_event : getF (takeoverCounted s) Reg.PAIR_PAIR_EVENTS_TOOK_OVER = 1 := getF_raise_same _ _ (by decide) (by decide)

theorem takeoverCounted_shows {v : Nat} (h : ShowsRole v s) : ShowsRole v (takeoverCounted s) := by
  have k : ShowsRole v (incF (takeWord (takeoverRoot s) (match s.pair.mirror with | some f => f.cw | none => cwNow s)) Reg.PAIR_TAKEOVER_CNT 1) := by
    refine h.keep ?_ (fun f hf e => ?_) ?_
    · rw [regWord_incF_ne _ _ _ (by decide), (takeWord_within _ _).regs _ (by simp [Area.has, Reg.PAIR_PAIR_STATUS_ROLE_IN]),
        (takeoverRoot_within s).regs _ (by simp [Area.has, Reg.PAIR_PAIR_STATUS_ROLE_IN])]
    · have ha : f.addr = 0x70008 := by rcases hf with rfl | rfl <;> rfl
      rw [getF_eq_of_regWord (regWord_incF_ne _ _ _ (by rw [ha]; decide)), takeWord_getF s _ (by simp [ha, Area.has]), e]
    · rw [incF_pair, (takeWord_within _ _).parts .pair (by decide), takeoverRoot_pair]
  exact k.raise (f := Reg.PAIR_PAIR_EVENTS_TOOK_OVER) rfl (by decide) (by decide) (by decide)

theorem openWindow_pair (t : State) : (openWindow t).pair = t.pair := setF_pair _ _ _
theorem openWindow_mode (t : State) : (openWindow t).mode = t.mode := setF_mode _ _ _
theorem openWindow_open (t : State) : getB (openWindow t) Reg.REF_LOSS_CTRL_WINDOW_OPEN = true := getB_eq_true (getF_setF_same _ _ _ (by decide))

theorem openWindow_getF (t : State) {f : Fld} (h : ¬ Area.ref.has f.addr) : getF (openWindow t) f = getF t f :=
  (openWindow_within t).getF_eq (by simpa using h)

theorem takeoverBase_pair : (takeoverBase s).pair = { s.pair with epoch := nextEpoch s } := by
  unfold takeoverBase
  rw [openWindow_pair, raiseIf_pair, takeoverCounted_pair]

theorem takeoverBase_mode : (takeoverBase s).mode = s.mode := by
  unfold takeoverBase
  rw [openWindow_mode, raiseIf_mode, (takeoverCounted_within s).parts .mode (by decide)]

theorem takeoverBase_slotQual (n : Nat) : slotQual (takeoverBase s) n = slotQual s n := by
  have w : Within [.regs, .clk, .tim, .pair, .gauges, .out, .freeCtr] [.clk, .dll, .pair, .ref] s (takeoverBase s) := by
    unfold takeoverBase
    exact (openWindow_within _).after (raiseIf_in ((takeoverCounted_within s).mono (by decide) (by decide)) (by decide) (by decide)
      ⟨.pair, by decide, by simp [Area.has, Reg.PAIR_PAIR_EVENTS_UNREADY_TAKEOVER]⟩) (by decide) (by decide)
  exact w.getB_eq (by simp [Area.has, Reg.SLOT_SLOT_STATUS_QUALIFIED]; omega)

/-- The count and the events as the mode is taken. -/
theorem takeoverBase_getF {f : Fld} (h : f = Reg.PAIR_TAKEOVER_CNT ∨ f = Reg.PAIR_PAIR_EVENTS_TOOK_OVER) :
    getF (takeoverBase s) f = getF (takeoverCounted s) f := by
  unfold takeoverBase raiseIf
  rw [openWindow_getF _ (by rcases h with rfl | rfl <;> simp [Area.has, Reg.PAIR_TAKEOVER_CNT, Reg.PAIR_PAIR_EVENTS_TOOK_OVER])]
  split
  · exact getF_raise_ne _ _ _ (by decide) (by rcases h with rfl | rfl <;> decide)
  · rfl

theorem takeoverBase_unready (h : pairReady s = false) : getF (takeoverBase s) Reg.PAIR_PAIR_EVENTS_UNREADY_TAKEOVER = 1 := by
  unfold takeoverBase
  rw [openWindow_getF _ (by simp [Area.has, Reg.PAIR_PAIR_EVENTS_UNREADY_TAKEOVER]), h]
  exact getF_raise_same _ _ (by decide) (by decide)

theorem takeoverBase_shows {v : Nat} (h : ShowsRole v s) : ShowsRole v (takeoverBase s) := by
  have k := takeoverCounted_shows s h
  have k2 : ShowsRole v (raiseIf (!pairReady s) (takeoverCounted s) Reg.PAIR_PAIR_EVENTS_UNREADY_TAKEOVER) := by
    cases !pairReady s
    · exact k
    · exact k.raise (f := Reg.PAIR_PAIR_EVENTS_UNREADY_TAKEOVER) rfl (by decide) (by decide) (by decide)
  unfold takeoverBase
  exact k2.within (openWindow_within _) (by simp [Area.has, Reg.PAIR_PAIR_STATUS_ROLE_IN, Reg.PAIR_PAIR_EVENTS_ROLE_CHANGED]) (congrArg Pair.yielded (openWindow_pair _))

/-- What follows the mode of a takeover: nothing is mirrored, the window is open, the change is logged, frames leave. -/
theorem takeover_after : Within [.regs, .jieth, .pair, .aud, .out, .freeCtr] [.ref, .aud] (takeoverMode (takeoverBase s)) (takeover s) := by
  rw [takeover_eq]
  refine (ptpResume_within _).after ((auditRole_frames _).after ?_ (by decide) (by decide)) (by decide) (by decide)
  unfold takeoverDone
  exact (openWindow_within _).after (.upd (t := takeoverMode (takeoverBase s)) rfl rfl .refl
    fun p hp => by cases p <;> first | exact absurd (by decide) hp | rfl) (by decide) (by decide)

/-- And of that, the last steps. -/
theorem takeover_last : Within [.regs, .jieth, .aud, .out, .freeCtr] [.aud] (takeoverDone s) (takeover s) := by
  rw [takeover_eq]
  exact (ptpResume_within _).after (auditRole_frames _) (by decide) (by decide)

theorem takeoverMode_pair (t : State) : (takeoverMode t).pair = t.pair := (takeoverMode_within t).parts .pair (by decide)

theorem takeover_pair : (takeover s).pair = { s.pair with epoch := nextEpoch s, mirror := none } := by
  have e : (takeover s).pair = (takeoverDone s).pair := (takeover_last s).parts .pair (by decide)
  rw [e]; unfold takeoverDone
  rw [openWindow_pair, takeoverMode_pair, takeoverBase_pair]

theorem takeover_open : getB (takeover s) Reg.REF_LOSS_CTRL_WINDOW_OPEN = true :=
  ((takeover_last s).getB_eq (by simp [Area.has, Reg.REF_LOSS_CTRL_WINDOW_OPEN])).trans (openWindow_open _)

/-- A register of the pair as the takeover leaves it. -/
theorem takeover_getF {f : Fld} (h : Area.pair.has f.addr) : getF (takeover s) f = getF (takeoverBase s) f := by
  simp only [Area.has] at h
  rw [(takeover_after s).getF_eq (by simp [Area.has]; omega), (takeoverMode_within _).getF_eq (by simp [Area.has]; omega)]

theorem takeover_shows {v : Nat} (h : ShowsRole v s) : ShowsRole v (takeover s) :=
  (takeoverBase_shows s h).within (l := [.regs, .mode, .clk, .tim, .sel, .gauges, .out, .freeCtr, .jieth, .pair, .aud]) (g := [.clk, .dll, .time, .ref, .eng, .aud])
    ((takeover_after s).after ((takeoverMode_within _).mono (by decide) (by decide)) (by decide) (by decide))
    (by simp [Area.has, Reg.PAIR_PAIR_STATUS_ROLE_IN, Reg.PAIR_PAIR_EVENTS_ROLE_CHANGED]) (by rw [takeover_pair, takeoverBase_pair])

end takeover

end Sys2Proof.Machine

end

section
/-! PROOFS. ROLE_IN_TAKEN, YIELD_TIMER_EXPIRY and DUAL_ACTIVE_CLEAR (R25, R164, R166 to R172). -/

namespace Sys2Proof.Machine

/-! ### Time that runs (R172) -/

theorem advance_now (k : Nat) (s : State) : (advance k s).now = s.now + k := by
  have hp (t : State) (a b c d e : Nat) : (perf t a b c d e).now = t.now := (perf_within _ _ _ _ _ _).parts .now (by decide)
  have hc (t : State) : (coarseAdvance k t).now = t.now := (coarseAdvance_within _ _).parts .now (by decide)
  unfold advance
  split
  · dsimp only
    split
    · rw [hc, hp]; rfl
    · rw [hp]; rfl
  · rfl

theorem advance_to (u : Nat) (s : State) : (advance (u - s.now) s).now = max s.now u := by
  rw [advance_now]; omega

/-! ### ROLE_IN_TAKEN -/

/-- A changed ROLE_IN is taken (R166). -/
def RoleChanges (v : BitVec 2) (s : State) : Prop := s.straps.pairEn = true ∧ v.toNat ≠ roleIn s ∧ powered s .time = true

section taken
variable {v : BitVec 2} {s : State}

/-- What the member does in a role that it takes. -/
def takes (v : BitVec 2) (s : State) : State :=
  let s2 := roleTaken s v.toNat
  if v = 1 then if activeMode s.mode then toStandby s2 else s2
  else if v = 2 then if s.mode = .standby then takeover s2 else s2
  else if activeMode s.mode || decide (s.mode = .standby) then isolate s2
  else s2

theorem exec_roleInTaken (h : RoleChanges v s) : exec (.roleInTaken v) s = ok (takes v s) := by
  obtain ⟨h1, h2, h3⟩ := h
  show execRoleInTaken v s = _
  unfold execRoleInTaken takes
  rw [if_neg (by simp [h1, h2, h3])]
  dsimp only
  split_ifs <;> rfl

theorem roleInTaken_idle (h : ¬ RoleChanges v s) : Completes (exec (.roleInTaken v) s) fun t => t = s := by
  refine ⟨s, if_pos ?_, rfl⟩
  by_contra k
  exact h (by simpa [RoleChanges, and_assoc] using k)

/-- What every taking of a role shows and leaves. -/
def Taken (v : BitVec 2) (s t : State) : Prop :=
  Frame [.regs, .mode, .clk, .tim, .sel, .ports, .jieth, .pair, .gauges, .cal, .aud, .out, .freeCtr] [.clk, .dll, .time, .ref, .port, .pair, .eng, .cal, .aud] s t ∧
  t.tim.tod = s.tim.tod ∧ roleIn t = v.toNat ∧ getB t Reg.PAIR_PAIR_EVENTS_ROLE_CHANGED = true ∧ t.pair.yielded = false ∧
  (v = 3 → getB t Reg.PAIR_PAIR_EVENTS_ROLE_RESERVED = true)

theorem takes_within (h : RoleChanges v s) : Within [.regs, .mode, .clk, .tim, .sel, .ports, .jieth, .pair, .gauges, .cal, .aud, .out, .freeCtr]
    [.clk, .dll, .time, .ref, .port, .pair, .eng, .cal, .aud] s (takes v s) := by
  have k := execRoleInTaken_within v s
  rw [show execRoleInTaken v s = ok (takes v s) from exec_roleInTaken h, outcomeOr_ok] at k
  exact k

theorem ShowsRole.taken (h : RoleChanges v s) (k : ShowsRole v.toNat (takes v s)) : Taken v s (takes v s) :=
  have w := takes_within h
  ⟨w.frame, w.parts .tod (by decide), k.roleIn, k.changed, k.yielded, fun e => k.reserved (by rw [e]; rfl)⟩

theorem roleTaken_shows' (v : BitVec 2) (s : State) : ShowsRole v.toNat (roleTaken s v.toNat) := roleTaken_shows s v.isLt

theorem roleInTaken_stands (h : RoleChanges v s) (hv : v = 1) (ha : activeMode s.mode = true) :
    Completes (exec (.roleInTaken v) s) fun t =>
      Taken v s t ∧ t.mode = .standby ∧ selected t = none ∧ t.sel.coast = none ∧ t.pair.mirror = none ∧
      getB t Reg.PAIR_PAIR_EVENTS_BECAME_STANDBY = true := by
  have e : takes v s = toStandby (roleTaken s v.toNat) := by unfold takes; dsimp only; rw [if_pos hv, if_pos ha]
  obtain ⟨k, r⟩ := toStandby_stands (roleTaken_shows' v s)
  rw [← e] at k r
  exact ⟨takes v s, exec_roleInTaken h, k.taken h, r⟩

theorem roleInTaken_isolates (h : RoleChanges v s) (hv : v = 0 ∨ v = 3) (ha : activeMode s.mode = true ∨ s.mode = .standby) :
    Completes (exec (.roleInTaken v) s) fun t =>
      Taken v s t ∧ t.mode = .config ∧ selected t = none ∧ t.clk.cwHeld = true ∧ t.clk.rootFwd = none ∧ t.tim.pend = none := by
  have e : takes v s = isolate (roleTaken s v.toNat) := by
    unfold takes; dsimp only
    rw [if_neg (by rcases hv with rfl | rfl <;> decide), if_neg (by rcases hv with rfl | rfl <;> decide), if_pos (by simpa using ha)]
  obtain ⟨k, r⟩ := isolate_isolates (roleTaken_shows' v s)
  rw [← e] at k r
  exact ⟨takes v s, exec_roleInTaken h, k.taken h, r⟩

theorem roleInTaken_waits (h : RoleChanges v s) (ha : activeMode s.mode = false) (hs : s.mode ≠ .standby) :
    Completes (exec (.roleInTaken v) s) fun t => Taken v s t ∧ t.mode = s.mode := by
  have e : takes v s = roleTaken s v.toNat := by
    unfold takes; dsimp only
    simp only [ha, hs, Bool.false_eq_true, if_false, decide_false, Bool.or_self, ite_self]
  have k := roleTaken_shows' v s
  rw [← e] at k
  exact ⟨takes v s, exec_roleInTaken h, k.taken h, by rw [e]; exact (roleTaken_within s v.toNat).parts .mode (by decide)⟩

end taken

/-! ### Takeover by ROLE_IN -/

section takingOver
variable (s : State) (v : Nat)

theorem roleTaken_peer : (roleTaken s v).pair.peerEpoch = s.pair.peerEpoch ∧ (roleTaken s v).pair.epoch = s.pair.epoch ∧
    (roleTaken s v).pair.okSince = s.pair.okSince ∧ (roleTaken s v).pair.mirror = s.pair.mirror ∧ (roleTaken s v).pair.mirrorMs = s.pair.mirrorMs := by
  rw [roleTaken_pair]; exact ⟨rfl, rfl, rfl, rfl, rfl⟩

theorem roleTaken_nextEpoch : nextEpoch (roleTaken s v) = nextEpoch s := by
  obtain ⟨h1, h2, -⟩ := roleTaken_peer s v
  unfold nextEpoch; rw [h1, h2]

/-- A field of the pair's registers but the role and the events. -/
theorem roleTaken_getF_other {f : Fld} (h : f.addr ≠ Reg.PAIR_PAIR_EVENTS_ROLE_CHANGED.addr)
    (hd : f.addr ≠ Reg.PAIR_PAIR_STATUS_ROLE_IN.addr ∨ f.lo + f.w ≤ 4 ∨ 6 ≤ f.lo) : getF (roleTaken s v) f = getF s f := by
  rw [roleTaken_getF s f h, getF_setF_ne _ _ _ _ (by decide) hd]

theorem roleTaken_mirrorLink : mirrorLink (roleTaken s v) = mirrorLink s := by
  have w := roleTaken_within s v
  have hj : (roleTaken s v).jieth = s.jieth := w.parts .jieth (by decide)
  have hlink (n : Nat) : linkS (roleTaken s v) n = linkS s n := by unfold linkS; rw [hj]
  have hrole (n : Nat) : linkRole (roleTaken s v) n = linkRole s n := by
    unfold linkRole linkRoleCfg
    rw [w.getF_eq (by simp [Area.has, Reg.LINK_LINK_CFG_ROLE]; omega), hlink]
  unfold mirrorLink roleHolders
  simp only [hrole]

theorem roleTaken_ready : pairReady (roleTaken s v) = pairReady s := by
  have w := roleTaken_within s v
  have hl (n : Nat) : linkCarries (roleTaken s v) n = linkCarries s n := by
    unfold linkCarries; rw [w.getF_eq (by simp [Area.has, Reg.LINK_LINK_STATUS_STATE]; omega)]
  have e1 : (roleTaken s v).mode = s.mode := w.parts .mode (by decide)
  have e2 : (roleTaken s v).clk = s.clk := w.parts .clk (by decide)
  have e3 : (roleTaken s v).tim = s.tim := w.parts .tim (by decide)
  have e4 : (roleTaken s v).now = s.now := w.parts .now (by decide)
  unfold pairReady getB
  rw [roleTaken_mirrorLink, e1, e2, e3, e4, (roleTaken_peer s v).2.2.1, roleTaken_getF_other s v (by decide) (by decide),
    roleTaken_getF_other s v (by decide) (by decide), roleTaken_getF_other s v (by decide) (by decide)]
  simp only [hl]

end takingOver

section takingOver
variable {s : State} {v : BitVec 2}

/-- What a takeover brings whatever mode it takes (R28, R164, R170). -/
theorem takeover_brings (hm : s.mode = .standby) :
    (takeover s).pair.epoch = nextEpoch s ∧ (takeover s).pair.mirror = none ∧ (takeover s).clk.cwHeld = false ∧
    getB (takeover s) Reg.REF_LOSS_CTRL_WINDOW_OPEN = true ∧
    getF (takeover s) Reg.PAIR_TAKEOVER_CNT = (getF s Reg.PAIR_TAKEOVER_CNT + 1) % 2 ^ 32 ∧
    getB (takeover s) Reg.PAIR_PAIR_EVENTS_TOOK_OVER = true ∧
    (pairReady s = false → getB (takeover s) Reg.PAIR_PAIR_EVENTS_UNREADY_TAKEOVER = true) := by
  have hb : (takeoverBase s).mode ≠ .config := by rw [takeoverBase_mode, hm]; decide
  obtain ⟨m, hE⟩ := takeoverMode_entered hb
  have hc : (takeover s).clk = (takeoverMode (takeoverBase s)).clk := (takeover_after s).parts .clk (by decide)
  refine ⟨by rw [takeover_pair], by rw [takeover_pair], by rw [hc]; exact hE.held, takeover_open s, ?_, getB_eq_true ?_, fun h => getB_eq_true ?_⟩
  · rw [takeover_getF s (by simp [Area.has, Reg.PAIR_TAKEOVER_CNT]), takeoverBase_getF s (.inl rfl), takeoverCounted_count]
  · rw [takeover_getF s (by simp [Area.has, Reg.PAIR_PAIR_EVENTS_TOOK_OVER]), takeoverBase_getF s (.inr rfl), takeoverCounted_event]
  · rw [takeover_getF s (by simp [Area.has, Reg.PAIR_PAIR_EVENTS_UNREADY_TAKEOVER]), takeoverBase_unready s h]

/-- The mode that it takes (R29, R171). -/
theorem takeover_mode (hm : s.mode = .standby) :
    (s.pair.mirror = none → (takeover s).mode = .holdover) ∧
    (∀ f, s.pair.mirror = some f →
      (f.mode = .freerun → (takeover s).mode = .freerun) ∧
      (f.mode ≠ .freerun → f.mode ≠ .locked ∨ 1000 < s.pair.mirrorMs → (takeover s).mode = .holdover) ∧
      (∀ n, f.mode = .locked → s.pair.mirrorMs ≤ 1000 → f.selected = some n → n < 8 → slotQual s n = true →
        (takeover s).mode = .locked ∧ selected (takeover s) = some n)) := by
  have hb : (takeoverBase s).mode ≠ .config := by rw [takeoverBase_mode, hm]; decide
  have w := takeover_last s
  have ht : (takeover s).mode = (takeoverMode (takeoverBase s)).mode := (takeover_after s).parts .mode (by decide)
  have hs : selected (takeover s) = selected (takeoverMode (takeoverBase s)) := by
    have e : getF (takeoverDone s) Reg.REF_SEL_STATUS_SELECTED = getF (takeoverMode (takeoverBase s)) Reg.REF_SEL_STATUS_SELECTED := by
      unfold takeoverDone openWindow; exact getF_setF_ne _ _ _ _ (by decide) (by decide)
    unfold selected
    rw [w.getF_eq (by simp [Area.has, Reg.REF_SEL_STATUS_SELECTED]), e]
  have hp : (takeoverBase s).pair.mirror = s.pair.mirror ∧ (takeoverBase s).pair.mirrorMs = s.pair.mirrorMs := by rw [takeoverBase_pair]; exact ⟨rfl, rfl⟩
  rw [ht, hs]
  refine ⟨fun h => (takeoverMode_none hb (hp.1.trans h)).mode, fun f hf => ⟨fun h => (takeoverMode_freerun hb (hp.1.trans hf) h).mode,
    fun h1 h2 => (takeoverMode_holdover hb (hp.1.trans hf) h1 (by rw [hp.2]; exact h2)).mode, fun n h1 h2 h3 h4 h5 => ?_⟩⟩
  rw [takeoverMode_locked (hp.1.trans hf) h1 (by rw [hp.2]; exact h2)]
  exact takeoverLocked_selects hb (hp.1.trans hf) h3 h4 (by rw [takeoverBase_slotQual]; exact h5)

theorem roleInTaken_takesOver (h : RoleChanges v s) (hv : v = 2) (hm : s.mode = .standby) :
    Completes (exec (.roleInTaken v) s) fun t =>
      Taken v s t ∧ t.pair.epoch = nextEpoch s ∧ t.pair.mirror = none ∧ t.clk.cwHeld = false ∧ getB t Reg.REF_LOSS_CTRL_WINDOW_OPEN = true ∧
      getF t Reg.PAIR_TAKEOVER_CNT = (getF s Reg.PAIR_TAKEOVER_CNT + 1) % 2 ^ 32 ∧ getB t Reg.PAIR_PAIR_EVENTS_TOOK_OVER = true ∧
      (pairReady s = false → getB t Reg.PAIR_PAIR_EVENTS_UNREADY_TAKEOVER = true) ∧
      (s.pair.mirror = none → t.mode = .holdover) ∧
      (∀ f, s.pair.mirror = some f →
        (f.mode = .freerun → t.mode = .freerun) ∧
        (f.mode ≠ .freerun → f.mode ≠ .locked ∨ 1000 < s.pair.mirrorMs → t.mode = .holdover) ∧
        (∀ n, f.mode = .locked → s.pair.mirrorMs ≤ 1000 → f.selected = some n → n < 8 → slotQual s n = true →
          t.mode = .locked ∧ selected t = some n)) := by
  have e : takes v s = takeover (roleTaken s v.toNat) := by
    unfold takes; dsimp only
    rw [if_neg (by rw [hv]; decide), if_pos hv, if_pos hm]
  have hm' : (roleTaken s v.toNat).mode = .standby := Eq.trans ((roleTaken_within s v.toNat).parts .mode (by decide)) hm
  have hq (n : Nat) : slotQual (roleTaken s v.toNat) n = slotQual s n :=
    (roleTaken_within s v.toNat).getB_eq (by simp [Area.has, Reg.SLOT_SLOT_STATUS_QUALIFIED]; omega)
  obtain ⟨-, -, -, p1, p2⟩ := roleTaken_peer s v.toNat
  obtain ⟨b1, b2, b3, b4, b5, b6, b7⟩ := takeover_brings hm'
  obtain ⟨m1, m2⟩ := takeover_mode hm'
  have k := takeover_shows _ (roleTaken_shows' v s)
  rw [roleTaken_nextEpoch] at b1
  rw [roleTaken_getF_other s v.toNat (by decide) (by decide)] at b5
  rw [roleTaken_ready] at b7
  rw [p1] at m1 m2
  simp only [p2, hq] at m2
  rw [← e] at b1 b2 b3 b4 b5 b6 b7 m1 m2 k
  exact ⟨takes v s, exec_roleInTaken h, k.taken h, b1, b2, b3, b4, b5, b6, b7, m1, m2⟩

end takingOver

/-! ### YIELD_TIMER_EXPIRY (R164, R172) -/

section yields
variable {s : State} {u : Nat}

/-- No timer runs. -/
def timerEnds (t : State) : State := { t with pair := { t.pair with timer := none } }

/-- The 5 µs from tick `u` have ended. -/
def yieldTimeOut (s : State) (u : Nat) : State := timerEnds (advance (u + 3125 - s.now) s)

theorem exec_yieldTimerExpiry (h : s.pair.timer = some u) : exec .yieldTimerExpiry s =
    ok (if pairRole (yieldTimeOut s u) = 2 ∧ epochLower (yieldTimeOut s u) = true then yieldNow (yieldTimeOut s u) else yieldTimeOut s u) := by
  show execYieldTimerExpiry s = _
  unfold execYieldTimerExpiry
  rw [h]; rfl

theorem timerEnds_within (t : State) : Within [.pair] [] t (timerEnds t) :=
  .upd (t := t) rfl rfl .refl fun p hp => by cases p <;> first | exact absurd (by decide) hp | rfl

theorem yieldTimeOut_within (s : State) (u : Nat) :
    Within [.regs, .clk, .tim, .sel, .coarse, .now, .out, .tod, .pair] [.gauge, .perf] s (yieldTimeOut s u) :=
  (timerEnds_within _).after ((advance_within _ s).mono (by decide) (by decide)) (by decide) (by decide)

theorem yieldTimeOut_pair (s : State) (u : Nat) : (yieldTimeOut s u).pair = { s.pair with timer := none } := by
  have e : (advance (u + 3125 - s.now) s).pair = s.pair := (advance_within _ s).parts .pair (by decide)
  show { (advance (u + 3125 - s.now) s).pair with timer := none } = _
  rw [e]

theorem yieldTimeOut_now (s : State) (u : Nat) : (yieldTimeOut s u).now = max s.now (u + 3125) := advance_to (u + 3125) s

theorem yieldTimeOut_role (s : State) (u : Nat) : pairRole (yieldTimeOut s u) = pairRole s := by
  have w := yieldTimeOut_within s u
  have e1 : (yieldTimeOut s u).mode = s.mode := w.parts .mode (by decide)
  have e2 : (yieldTimeOut s u).straps = s.straps := w.parts .straps (by decide)
  unfold pairRole; rw [e1, e2]

theorem yieldTimeOut_lower (s : State) (u : Nat) : epochLower (yieldTimeOut s u) = epochLower s := by
  have w := yieldTimeOut_within s u
  have hj : (yieldTimeOut s u).jieth = s.jieth := w.parts .jieth (by decide)
  have hlink (n : Nat) : linkS (yieldTimeOut s u) n = linkS s n := by unfold linkS; rw [hj]
  have hrole (n : Nat) : linkRole (yieldTimeOut s u) n = linkRole s n := by
    unfold linkRole linkRoleCfg
    rw [w.getF_eq (by simp [Area.has, Reg.LINK_LINK_CFG_ROLE]; omega), hlink]
  have hm : mirrorLink (yieldTimeOut s u) = mirrorLink s := by
    unfold mirrorLink roleHolders
    simp only [hrole]
  unfold epochLower
  rw [hm, yieldTimeOut_pair]
  simp only [hlink]

theorem yieldTimerExpiry_goesOn (h : s.pair.timer = some u) (hr : pairRole s ≠ 2 ∨ epochLower s = false) :
    Completes (exec .yieldTimerExpiry s) fun t => TimeFrame [.pair] [] s t ∧ t.now = max s.now (u + 3125) ∧ t.pair = { s.pair with timer := none } := by
  have hn : ¬ (pairRole (yieldTimeOut s u) = 2 ∧ epochLower (yieldTimeOut s u) = true) := by
    rw [yieldTimeOut_role, yieldTimeOut_lower]
    rintro ⟨k1, k2⟩
    exact hr.elim (fun n => n k1) (fun n => by rw [k2] at n; exact absurd n (by decide))
  refine ⟨yieldTimeOut s u, (exec_yieldTimerExpiry h).trans (congrArg ok (if_neg hn)), ?_, yieldTimeOut_now s u, yieldTimeOut_pair s u⟩
  exact (yieldTimeOut_within s u).frame.mono (by decide) (by decide)

/-- ROLE_ACK is held low. -/
def markYield (t : State) : State := { t with pair := { t.pair with yielded := true } }

theorem markYield_pair (t : State) : (markYield t).pair = { t.pair with yielded := true } := rfl

theorem markYield_within (t : State) : Within [.pair] [] t (markYield t) :=
  .upd (t := t) rfl rfl .refl fun p hp => by cases p <;> first | exact absurd (by decide) hp | rfl

/-- A member that yields: in STANDBY, with ROLE_ACK held low (R172). -/
theorem yieldNow_yields (s : State) :
    (yieldNow s).now = s.now ∧ (yieldNow s).mode = .standby ∧ (yieldNow s).pair.yielded = true ∧ (yieldNow s).pair.timer = s.pair.timer ∧
    getB (yieldNow s) Reg.PAIR_PAIR_EVENTS_YIELDED = true ∧ roleIn (yieldNow s) = roleIn s := by
  obtain ⟨v, hv⟩ : ∃ v, v = markYield (enterStandby s) := ⟨_, rfl⟩
  have e : yieldNow s = sendTimingAll (auditRole (raise v Reg.PAIR_PAIR_EVENTS_YIELDED)) := by rw [hv]; rfl
  have w := auditRole_frames (raise v Reg.PAIR_PAIR_EVENTS_YIELDED)
  rw [← e] at w
  have wv : Within [.pair] [] (enterStandby s) v := hv ▸ markYield_within _
  have hn : v.now = s.now := Eq.trans (wv.parts .now (by decide)) ((enterStandby_within s).parts .now (by decide))
  have hm : v.mode = .standby := Eq.trans (wv.parts .mode (by decide)) (enterStandby_mode s)
  have hp : v.pair = { s.pair with mirror := none, okSince := none, yielded := true } := by rw [hv, markYield_pair, enterStandby_pair]
  have hr : getF v Reg.PAIR_PAIR_STATUS_ROLE_IN = getF s Reg.PAIR_PAIR_STATUS_ROLE_IN :=
    (wv.getF_eq (by simp)).trans ((enterStandby_within s).getF_eq (by simp [Area.has, Reg.PAIR_PAIR_STATUS_ROLE_IN]))
  have hpair : (yieldNow s).pair = v.pair := Eq.trans (w.parts .pair (by decide)) (raise_pair _ _)
  refine ⟨Eq.trans (w.parts .now (by decide)) ((raise_now _ _).trans hn), Eq.trans (w.parts .mode (by decide)) ((raise_mode _ _).trans hm), by rw [hpair, hp],
    by rw [hpair, hp], ?_, ?_⟩
  · rw [w.getB_eq (by simp [Area.has, Reg.PAIR_PAIR_EVENTS_YIELDED])]
    exact getB_eq_true (getF_raise_same _ _ (by decide) (by decide))
  · unfold roleIn
    rw [w.getF_eq (by simp [Area.has, Reg.PAIR_PAIR_STATUS_ROLE_IN]), getF_raise_ne _ _ _ (by decide) (by decide), hr]

theorem yieldTimerExpiry_yields (h : s.pair.timer = some u) (hr : pairRole s = 2) (he : epochLower s = true) :
    Completes (exec .yieldTimerExpiry s) fun t =>
      TimeFrame [.mode, .ports, .jieth, .pair, .gauges, .cal, .aud, .freeCtr] [.clk, .dll, .ref, .port, .pair, .eng, .cal, .aud] s t ∧
      t.now = max s.now (u + 3125) ∧ t.mode = .standby ∧ t.pair.yielded = true ∧ t.pair.timer = none ∧
      getB t Reg.PAIR_PAIR_EVENTS_YIELDED = true ∧ roleIn t = roleIn s := by
  have hy : pairRole (yieldTimeOut s u) = 2 ∧ epochLower (yieldTimeOut s u) = true := by rw [yieldTimeOut_role, yieldTimeOut_lower]; exact ⟨hr, he⟩
  have run : exec .yieldTimerExpiry s = ok (yieldNow (yieldTimeOut s u)) := (exec_yieldTimerExpiry h).trans (congrArg ok (if_pos hy))
  have k := execYieldTimerExpiry_within s
  rw [show execYieldTimerExpiry s = ok (yieldNow (yieldTimeOut s u)) from run, outcomeOr_ok] at k
  have hf : TimeFrame [.mode, .ports, .jieth, .pair, .gauges, .cal, .aud, .freeCtr] [.clk, .dll, .ref, .port, .pair, .eng, .cal, .aud] s
      (yieldNow (yieldTimeOut s u)) := k.frame.mono (by decide) (by decide)
  obtain ⟨h1, h2, h3, h4, h5, h6⟩ := yieldNow_yields (yieldTimeOut s u)
  refine ⟨_, run, hf, h1.trans (yieldTimeOut_now s u), h2, h3, h4.trans (by rw [yieldTimeOut_pair]), h5, h6.trans ?_⟩
  exact (yieldTimeOut_within s u).getF_eq (by simp [Area.has, Reg.PAIR_PAIR_STATUS_ROLE_IN])

end yields

/-! ### DUAL_ACTIVE_CLEAR (R172) -/

theorem dualActiveClear_clears {s : State} (h : getB s Reg.PAIR_PAIR_STATUS_DUAL_ACTIVE = true) :
    Completes (exec .dualActiveClear s) fun t =>
      TimeFrame [] [.pair] s t ∧ t.now = max s.now (s.pair.activeAt + 270336) ∧ getB t Reg.PAIR_PAIR_STATUS_DUAL_ACTIVE = false ∧
      getF t Reg.PAIR_DUAL_ACTIVE_CNT = getF s Reg.PAIR_DUAL_ACTIVE_CNT := by
  obtain ⟨u, hu⟩ : ∃ u, u = advance (s.pair.activeAt + 270336 - s.now) s := ⟨_, rfl⟩
  have w : Within _ _ s u := hu ▸ advance_within (s.pair.activeAt + 270336 - s.now) s
  have hn : u.now = max s.now (s.pair.activeAt + 270336) := by rw [hu]; exact advance_to _ s
  have run : exec .dualActiveClear s = ok (setF u Reg.PAIR_PAIR_STATUS_DUAL_ACTIVE 0) := by rw [hu]; exact if_pos h
  have k := setF_in (l := [.regs, .clk, .tim, .sel, .coarse, .now, .out, .tod]) (g := [.gauge, .perf, .pair]) (f := Reg.PAIR_PAIR_STATUS_DUAL_ACTIVE) (x := 0)
    (w.mono (by decide) (by decide)) (by decide) ⟨.pair, by decide, by simp [Area.has, Reg.PAIR_PAIR_STATUS_DUAL_ACTIVE]⟩
  refine ⟨_, run, k.frame.mono (by decide) (by decide), (setF_now _ _ _).trans hn, getB_eq_false ?_, ?_⟩
  · rw [getF_setF_same _ _ _ (by decide)]; rfl
  · rw [getF_setF_ne _ _ _ _ (by decide) (by decide)]
    exact w.getF_eq (by simp [Area.has, Reg.PAIR_DUAL_ACTIVE_CNT])

theorem dualActiveClear_idle {s : State} (h : getB s Reg.PAIR_PAIR_STATUS_DUAL_ACTIVE = false) : Completes (exec .dualActiveClear s) fun t => t = s :=
  ⟨s, if_neg (by simp [h]), rfl⟩

theorem yieldTimerExpiry_idle {s : State} (h : s.pair.timer = none) : Completes (exec .yieldTimerExpiry s) fun t => t = s := by
  refine ⟨s, ?_, rfl⟩
  show execYieldTimerExpiry s = _
  unfold execYieldTimerExpiry
  rw [h]; rfl

/-- Settles O53: what a role brings by the role and the mode, the end of the yield timer, and of the dual actives. -/
theorem pairRoles : Obligations.PairRoles :=
  ⟨fun _ _ => ⟨roleInTaken_stands, roleInTaken_takesOver, roleInTaken_isolates, fun h ha => roleInTaken_waits h ha.1 ha.2, roleInTaken_idle⟩,
    fun _ => ⟨fun _ => yieldTimerExpiry_yields, fun _ => yieldTimerExpiry_goesOn, yieldTimerExpiry_idle, dualActiveClear_clears, dualActiveClear_idle⟩⟩

end Sys2Proof.Machine

end

section
/-! PROOFS. The selector's evaluation while the selected port's phase word is STALE (R105, R122). -/

namespace Sys2Proof.Machine

/-- LOCKED on slot 0, a port whose phase word is STALE, as a Berm window leaves it (R105); the word of 5 LSB is coasted, no measurement is held. -/
def coasting : State :=
  setF (setF (setF (setF (setF
    { ({} : State) with mode := .locked, power := .full, domains := [.aon, .time, .eng, .lineA], sel := { ownCw := 5, everSelected := true } }
    Reg.REF_SEL_STATUS_SELECTED 0) (Reg.PORT_PHASE_STALE 0) 1) (Reg.SLOT_SLOT_STATUS_QUALIFIED 0) 1) (Reg.SLOT_SLOT_CFG_EN 0) 1)
    (Reg.SLOT_SLOT_CFG_RANK 0) 1

/-- The state after an evaluation that brings no measurement. -/
def coastingNext : State := outcomeOr coasting (exec (.selectorEvaluation []) coasting)

/-- Slot 0 stays selected, no switch runs, and the word stays where it was: a STALE word is not steered on (R105). -/
theorem coastingNext_coasts : selected coastingNext = some 0 ∧ coastingNext.sel.sw = none ∧ coastingNext.sel.ownCw = 5 ∧ slotY coastingNext 0 = 0 := by
  decide +kernel

/-- Refutes O42: with the selected slot's phase word STALE an evaluation coasts the control word (R105), so that the word requested is not the
frequency of the slot that stays selected. -/
theorem not_selectorActs : ¬ Obligations.SelectorActs := by
  intro h
  obtain ⟨t, ht, -, -, -, -, hcw⟩ := (h.1 coasting).1 [] (by decide +kernel) (by decide +kernel)
  have e : coastingNext = t := by unfold coastingNext; rw [ht]; rfl
  obtain ⟨h1, h2, h3, h4⟩ := coastingNext_coasts
  rw [e] at h1 h2 h3 h4
  have := hcw 0 h1 h2
  rw [h3, h4] at this
  exact absurd this (by decide)

end Sys2Proof.Machine

end

section
/-! PROOFS. The helper's lock and the ports' phases through what a loss of a reference does (R49, R86, R115, R121). -/

namespace Sys2Proof.Machine

/-! ### What a loss keeps -/

/-- HELPER_LOCK, or the validity of a port's phase. -/
def IsPhaseLock (f : Fld) : Prop := f = Reg.CLK_ROOT_STATUS_HELPER_LOCK ∨ ∃ p, f = Reg.PORT_PHASE_VALID p

/-- An operation leaves HELPER_LOCK and the validity of every port's phase. -/
def PhaseKept (s t : State) : Prop := ∀ f, IsPhaseLock f → getF t f = getF s f

/-- The registers of a phase word's window: a window is 512 bytes long. -/
theorem portBase_add_ne {p q a b : Nat} (h : a ≠ b) (ha : a < 512) (hb : b < 512) : portBase p + a ≠ portBase q + b := by
  unfold portBase
  split <;> split <;> omega

theorem IsPhaseLock.addr {f : Fld} (h : IsPhaseLock f) : f.addr = 0x10004 ∨ ∃ p, f.addr = portBase p + 4 := by
  obtain rfl | ⟨p, rfl⟩ := h
  · exact .inl rfl
  · exact .inr ⟨p, rfl⟩

theorem PhaseKept.refl (s : State) : PhaseKept s s := fun _ _ => rfl

theorem PhaseKept.after {s t u : State} (k : PhaseKept t u) (h : PhaseKept s t) : PhaseKept s u := fun f i => (k f i).trans (h f i)

theorem PhaseKept.fold {α : Type} {f : State → α → State} (k : ∀ t x, PhaseKept t (f t x)) (xs : List α) (s : State) : PhaseKept s (xs.foldl f s) :=
  List.foldlRecOn (motive := fun t => PhaseKept s t) xs f (.refl s) fun t e x _ => (k t x).after e

theorem PhaseKept.of_regWord {s t : State} (h : regWord t 0x10004 = regWord s 0x10004) (hp : ∀ p, regWord t (portBase p + 4) = regWord s (portBase p + 4)) :
    PhaseKept s t := fun f i => by
  apply getF_eq_of_regWord
  obtain e | ⟨p, e⟩ := i.addr
  · rw [e]; exact h
  · rw [e]; exact hp p

/-- An operation that touches neither the root's registers nor the ports'. -/
theorem Within.phaseKept {l : List StatePart} {g : List Area} {s t : State} (h : Within l g s t)
    (hg : ∀ x ∈ g, x ∈ [Area.dll, .time, .ref, .slot, .eng, .cal]) : PhaseKept s t := by
  apply PhaseKept.of_regWord
  · refine h.regs _ fun x m => ?_
    have := hg x m
    simp only [List.mem_cons, List.not_mem_nil, or_false] at this
    obtain rfl | rfl | rfl | rfl | rfl | rfl := this <;> simp [Area.has]
  · intro p
    refine h.regs _ fun x m => ?_
    have hb := portBase_range p
    have := hg x m
    simp only [List.mem_cons, List.not_mem_nil, or_false] at this
    obtain rfl | rfl | rfl | rfl | rfl | rfl := this <;> simp only [Area.has] <;> omega

/-- Registers that are parts of State make no difference. -/
theorem PhaseKept.of_regs {s t u : State} (k : PhaseKept s t) (h : u.regs = t.regs) : PhaseKept s u := fun f i => (getF_congr h f).trans (k f i)

theorem PhaseKept.gauges {s t : State} (k : PhaseKept s t) (x : List GaugeS) : PhaseKept s { t with gauges := x } := k.of_regs rfl

theorem PhaseKept.calPorts {s t : State} (k : PhaseKept s t) (c : Cal) (p : Ports) : PhaseKept s { t with cal := c, ports := p } := k.of_regs rfl

/-- An address outside the ports' windows, and not the root's status. -/
def NoPhaseWord (a : Nat) : Prop := a ≠ 0x10004 ∧ (a < 0x40000 ∨ 0x50800 ≤ a)

theorem NoPhaseWord.root {a : Nat} (h : NoPhaseWord a) : 0x10004 ≠ a := h.1.symm

theorem NoPhaseWord.phase {a : Nat} (h : NoPhaseWord a) (p : Nat) : portBase p + 4 ≠ a := by
  obtain ⟨-, h⟩ := h
  have := portBase_range p
  omega

theorem setF_phaseKept (s : State) (f : Fld) (x : Nat) (h : NoPhaseWord f.addr) : PhaseKept s (setF s f x) :=
  .of_regWord (regWord_setF_ne _ _ _ h.root) fun p => regWord_setF_ne _ _ _ (h.phase p)

theorem raiseIf_phaseKept (b : Bool) (s : State) (f : Fld) (h : NoPhaseWord f.addr) : PhaseKept s (raiseIf b s f) :=
  .of_regWord (regWord_raiseIf_ne _ _ _ h.root) fun p => regWord_raiseIf_ne _ _ _ (h.phase p)

theorem raise_phaseKept (s : State) (f : Fld) (h : NoPhaseWord f.addr) : PhaseKept s (raise s f) :=
  .of_regWord (regWord_raise_ne _ _ h.root) fun p => regWord_raise_ne _ _ (h.phase p)

/-! ### The control word and the root's input -/

theorem setRequest_phaseKept (s : State) (r : Int) : PhaseKept s (setRequest s r) := by
  unfold setRequest
  dsimp only
  exact (raiseIf_phaseKept _ _ _ (by simp [NoPhaseWord, Reg.CLK_EVENTS_CLAMP_HIT])).after (.of_regs (.refl _) rfl)

theorem requestWord_phaseKept (s : State) (y : Int) : PhaseKept s (requestWord s y) := by
  unfold requestWord
  dsimp only
  exact (setRequest_phaseKept _ _).after (.of_regs (.refl _) rfl)

/-- ROOT_LOCK stands beside HELPER_LOCK in its word. -/
theorem rootUnlock_phaseKept (s : State) : PhaseKept s (setF s Reg.CLK_ROOT_STATUS_ROOT_LOCK 0) := fun f i => by
  apply getF_setF_ne _ _ _ _ (by decide)
  obtain rfl | ⟨p, rfl⟩ := i
  · exact .inr (.inr (by decide))
  · refine .inl ?_
    simp only [Reg.CLK_ROOT_STATUS_ROOT_LOCK, Reg.PORT_PHASE_VALID]
    have := portBase_range p; omega

theorem rootInput_phaseKept (s : State) (v : Option Nat) : PhaseKept s (rootInput s v) := by
  unfold rootInput
  dsimp only
  split
  · exact .refl s
  · split
    · exact .of_regs (.refl s) rfl
    · apply PhaseKept.gauges
      apply ((gateAll_within _).phaseKept (by decide)).after
      exact (rootUnlock_phaseKept _).after (.of_regs (.refl s) rfl)

/-! ### The loss of all references -/

theorem enterFreerun_phaseKept (s : State) : PhaseKept s (enterFreerun s) :=
  (requestWord_phaseKept _ _).after ((enterMode_within s .freerun).phaseKept (by decide))

theorem enterHoldover_phaseKept (s : State) : PhaseKept s (enterHoldover s) := by
  unfold enterHoldover
  dsimp only
  have k (v : Option Int) : PhaseKept s
      (enterMode { publishHold s with sel := { (publishHold s).sel with holdVal := v, specOver := false } } .holdover) :=
    ((enterMode_within _ .holdover).phaseKept (by decide)).after (PhaseKept.of_regs (h := rfl) <| ((publishHold_within s).phaseKept (by decide)))
  split
  · exact (requestWord_phaseKept _ _).after (k _)
  · exact (requestWord_phaseKept _ _).after ((setF_phaseKept _ _ _ (by simp [NoPhaseWord, Reg.REF_LOSS_CTRL_NO_HISTORY])).after (k _))

theorem bermWait_phaseKept (s : State) (p : Nat) : PhaseKept s (setF s (Reg.PORT_TT_STATUS_BERM_WAIT p) 0) := by
  have hb := portBase_range p
  exact .of_regWord (regWord_setF_ne _ _ _ (by simp only [Reg.PORT_TT_STATUS_BERM_WAIT]; omega))
    fun q => regWord_setF_ne _ _ _ (portBase_add_ne (by decide) (by decide) (by decide))

theorem bermWaits_phaseKept (l : List BermReq) (s : State) :
    PhaseKept s (l.foldl (fun t q => setF t (Reg.PORT_TT_STATUS_BERM_WAIT q.port) 0) s) := by
  induction l generalizing s with
  | nil => exact .refl s
  | cons q l ih => exact (ih _).after (bermWait_phaseKept s q.port)

theorem abandonCal_phaseKept (s : State) : PhaseKept s (abandonCal s) := by
  unfold abandonCal
  dsimp only
  have k := bermWaits_phaseKept (s.ports.bermQ.filter (fun q => q.cal)) s
  exact (raise_phaseKept _ _ (by simp [NoPhaseWord, Reg.CAL_EVENTS_ABANDONED])).after (k.calPorts _ _)

theorem lossOfAll_phaseKept (s : State) (lost : Option Nat) : PhaseKept s (lossOfAll s lost) := by
  obtain ⟨u, hu⟩ : ∃ u, u = rootInput { raise (dropSelection (beginCoast s lost)) Reg.TIME_EVENTS_TRACE_LOST with
      tim := { (raise (dropSelection (beginCoast s lost)) Reg.TIME_EVENTS_TRACE_LOST).tim with pend := none } } none := ⟨_, rfl⟩
  have ku : PhaseKept s u := by
    rw [hu]
    apply (rootInput_phaseKept _ _).after
    refine .of_regs (t := raise (dropSelection (beginCoast s lost)) Reg.TIME_EVENTS_TRACE_LOST) ?_ rfl
    apply (raise_phaseKept _ _ (by simp [NoPhaseWord, Reg.TIME_EVENTS_TRACE_LOST])).after
    exact ((dropSelection_within _).phaseKept (by decide)).after ((beginCoast_within s lost).phaseKept (by decide))
  unfold lossOfAll
  dsimp only
  rw [← hu]
  split
  · exact (requestWord_phaseKept _ _).after (((publishHold_within u).phaseKept (by decide)).after ku)
  · have k3 : PhaseKept s (if u.mode = .calibrate then abandonCal u else u) := by
      split
      · exact (abandonCal_phaseKept u).after ku
      · exact ku
    split
    · exact (enterHoldover_phaseKept _).after k3
    · exact (enterFreerun_phaseKept _).after k3

/-! ### Choices and switches (R121, R125, R126) -/

theorem suspectLoss_phaseKept (s : State) (a : Nat) : PhaseKept s (suspectLoss s a) := PhaseKept.of_regs (h := rfl) <| (lossOfAll_phaseKept s (some a))

theorem selectDirect_phaseKept (s : State) (b : Nat) : PhaseKept s (selectDirect s b) := by
  obtain ⟨u, hu⟩ : ∃ u, u = requestWord (follow (setF { s with sel := { s.sel with slewing := false } } Reg.REF_SEL_STATUS_SELECTED b)) (slotY s b) := ⟨_, rfl⟩
  have ku : PhaseKept s u := by
    rw [hu]
    apply (requestWord_phaseKept _ _).after
    apply (rootInput_phaseKept _ _).after
    exact (setF_phaseKept _ _ _ (by simp [NoPhaseWord, Reg.REF_SEL_STATUS_SELECTED])).after (.of_regs (.refl _) rfl)
  unfold selectDirect
  dsimp only
  rw [← hu]
  obtain ⟨v, hv⟩ : ∃ v, v = (if slotSuspect s b && decide ((slotOfs s b).natAbs ≤ stepThr s) then u else takeOffset u (slotOfs s b) (slotSeconds s b)) := ⟨_, rfl⟩
  have kv : PhaseKept s v := by
    rw [hv]
    split
    · exact ku
    · exact ((takeOffset_within _ _ _).phaseKept (by decide)).after ku
  rw [← hv]
  refine .of_regs (t := if s.sel.everSelected then v else firstAlign v (-(slotOfs s b)) 0 0 false) ?_ rfl
  split
  · exact kv
  · exact ((firstAlign_within _ _ _ _ _).phaseKept (by decide)).after kv

theorem settleChoice_phaseKept (s : State) : PhaseKept s (settleChoice s) := by
  unfold settleChoice
  have k : PhaseKept s (testedChoice 8 s).1 := (testedChoice_within 8 s).phaseKept (by decide)
  split
  · split
    next t b e => rw [e] at k; exact (selectDirect_phaseKept t b).after k
    next t e => rw [e] at k; exact k
  · split
    · exact suspectLoss_phaseKept _ _
    · split
      · split
        · exact .refl s
        · exact (switchFrom_within _ _ _).phaseKept (by decide)
      · split
        · exact .refl s
        · exact lossOfAll_phaseKept _ _

theorem abortTo_phaseKept (s : State) (w : Switch) : PhaseKept s (abortTo s w) := by
  have k : PhaseKept s (abortSwitch s) := (abortSwitch_within s).phaseKept (by decide)
  unfold abortTo
  dsimp only
  split
  · exact (settleChoice_phaseKept _).after k
  · split
    · exact ((switchLost_within _ _ _ _).phaseKept (by decide)).after k
    · exact (lossOfAll_phaseKept _ _).after k

theorem switchChoice_phaseKept (s : State) (w : Switch) : PhaseKept s (switchChoice s w) := by
  unfold switchChoice
  dsimp only
  split
  · exact suspectLoss_phaseKept _ _
  · split
    · split
      · split
        · exact (switchLost_within _ _ _ _).phaseKept (by decide)
        · exact lossOfAll_phaseKept _ _
      · exact abortTo_phaseKept _ _
    · split
      · split
        · exact ((startSwitch_within _ _ _ _ _).phaseKept (by decide)).after ((abortSwitch_within s).phaseKept (by decide))
        · exact .refl s
      · exact .refl s

theorem applyChoice_phaseKept (s : State) : PhaseKept s (applyChoice s) := by
  have k : PhaseKept s (sourceLost s) := (sourceLost_within s).phaseKept (by decide)
  unfold applyChoice
  dsimp only
  split
  · exact (switchChoice_phaseKept _ _).after k
  · exact (settleChoice_phaseKept _).after k

theorem reselect_phaseKept (s : State) : PhaseKept s (reselect s) := by
  have k : PhaseKept s (noteEligible s) := (noteEligible_within s).phaseKept (by decide)
  unfold reselect
  dsimp only
  split
  · exact k
  · apply (applyChoice_phaseKept _).after
    split
    · exact ((enterMode_within _ _).phaseKept (by decide)).after k
    · exact k

theorem loseSource_phaseKept (s : State) (ty ix : Nat) : PhaseKept s (loseSource s ty ix) := by
  unfold loseSource loseSlots
  dsimp only
  have k (l : List Nat) : PhaseKept s (l.foldl (fun t n => setF t (Reg.SLOT_SLOT_STATUS_SRC_VALID n) 0) s) :=
    .fold (fun t n => setF_phaseKept t _ _ (by simp [NoPhaseWord, Reg.SLOT_SLOT_STATUS_SRC_VALID]; omega)) l s
  split
  · exact k _
  · apply (reselect_phaseKept _).after
    apply (raise_phaseKept _ _ (by simp [NoPhaseWord, Reg.REF_SEL_EVENTS_QUAL_LOST])).after
    exact PhaseKept.after (.fold (fun t n => (loseSlot_within t n true).phaseKept (by decide)) _ _) (k _)

/-! ### The phases fall (R86) -/

theorem setF_regs_congr {s t : State} (h : t.regs = s.regs) (f : Fld) (x : Nat) : (setF t f x).regs = (setF s f x).regs := by
  unfold setF setWord
  rw [regWord_congr h, h]

/-- What the fall of port q's phase leaves of these fields is what clearing its validity leaves. -/
theorem phaseLose_getF {s : State} {q : Nat} {f : Fld} (hv : getB s (Reg.PORT_PHASE_VALID q) = true) (h : IsPhaseLock f) :
    getF (phaseLose s q) f = getF (setF s (Reg.PORT_PHASE_VALID q) 0) f := by
  obtain ⟨u, hu⟩ : ∃ u, u = updPort s q (fun o => { o with cleanAt := none, phase := none }) := ⟨_, rfl⟩
  have hr : u.regs = s.regs := by rw [hu]; rfl
  have e : phaseLose s q = loseSource (raise (setF u (Reg.PORT_PHASE_VALID q) 0) (Reg.PORT_TT_EVENTS_PHASE_LOST q)) 0 q := by rw [hu]; exact if_pos hv
  have hb := portBase_range q
  have lost : getF (raise (setF u (Reg.PORT_PHASE_VALID q) 0) (Reg.PORT_TT_EVENTS_PHASE_LOST q)) f = getF (setF u (Reg.PORT_PHASE_VALID q) 0) f := by
    apply getF_eq_of_regWord
    apply regWord_raise_ne
    obtain e | ⟨p, e⟩ := h.addr
    · rw [e]; simp only [Reg.PORT_TT_EVENTS_PHASE_LOST]; omega
    · rw [e]; exact portBase_add_ne (by decide) (by decide) (by decide)
  rw [e, loseSource_phaseKept _ _ _ f h, lost]
  exact getF_congr (setF_regs_congr hr _ _) f

theorem phaseLose_idle {s : State} {q : Nat} (hv : getB s (Reg.PORT_PHASE_VALID q) = false) (f : Fld) : getF (phaseLose s q) f = getF s f := by
  have e : phaseLose s q = updPort s q (fun o => { o with cleanAt := none, phase := none }) := if_neg (by rw [hv]; decide)
  rw [e]
  exact getF_congr rfl f

theorem phaseLose_helperLock (s : State) (q : Nat) :
    getF (phaseLose s q) Reg.CLK_ROOT_STATUS_HELPER_LOCK = getF s Reg.CLK_ROOT_STATUS_HELPER_LOCK := by
  cases hv : getB s (Reg.PORT_PHASE_VALID q) with
  | false => exact phaseLose_idle hv _
  | true =>
    refine (phaseLose_getF hv (.inl rfl)).trans (getF_setF_ne _ _ _ _ (Nat.le_refl 32) (.inl ?_))
    simp only [Reg.PORT_PHASE_VALID, Reg.CLK_ROOT_STATUS_HELPER_LOCK]; have := portBase_range q; omega

theorem phaseLose_clears (s : State) (p : Nat) : getB (phaseLose s p) (Reg.PORT_PHASE_VALID p) = false := by
  cases hv : getB s (Reg.PORT_PHASE_VALID p) with
  | false => unfold getB at hv ⊢; rw [phaseLose_idle (by unfold getB; exact hv)]; exact hv
  | true => unfold getB; rw [phaseLose_getF hv (.inr ⟨p, rfl⟩), getF_setF_same _ (Reg.PORT_PHASE_VALID _) _ (Nat.le_refl 32)]; rfl

/-- A phase that is not valid stays so as another falls. -/
theorem phaseLose_keeps {s : State} {p : Nat} (q : Nat) (h : getB s (Reg.PORT_PHASE_VALID p) = false) :
    getB (phaseLose s q) (Reg.PORT_PHASE_VALID p) = false := by
  cases hv : getB s (Reg.PORT_PHASE_VALID q) with
  | false => unfold getB at h ⊢; rw [phaseLose_idle hv]; exact h
  | true =>
    unfold getB at h ⊢
    rw [phaseLose_getF hv (.inr ⟨p, rfl⟩)]
    by_cases e : (Reg.PORT_PHASE_VALID p).addr = (Reg.PORT_PHASE_VALID q).addr
    · have e' : Reg.PORT_PHASE_VALID p = Reg.PORT_PHASE_VALID q := by simpa [Reg.PORT_PHASE_VALID] using e
      rw [e', getF_setF_same _ (Reg.PORT_PHASE_VALID _) _ (Nat.le_refl 32)]; rfl
    · rw [getF_setF_ne _ (Reg.PORT_PHASE_VALID _) _ _ (Nat.le_refl 32) (.inl e)]; exact h

end Sys2Proof.Machine

end

section
/-! PROOFS. Helper lock, output DLLs, the spreadable PLLs (R33, R49, R51, R52, R56, R57, R86). -/

namespace Sys2Proof.Machine

/-! ### HELPER_LOCK -/

theorem helperLock_locks {s : State} (h : s.clk.started = true) :
    Completes (exec (.helperLock true) s) fun t => Frame [.regs, .ports] [.clk] s t ∧ getB t Reg.CLK_ROOT_STATUS_HELPER_LOCK = true := by
  obtain ⟨u, hu⟩ : ∃ u, u = setB s Reg.CLK_ROOT_STATUS_HELPER_LOCK true := ⟨_, rfl⟩
  have run : exec (.helperLock true) s = ok (if getB s Reg.CLK_ROOT_STATUS_HELPER_LOCK then u else (List.range 36).foldl phaseClean u) := by
    rw [hu]; exact if_neg (by simp [h])
  have hb : getB u Reg.CLK_ROOT_STATUS_HELPER_LOCK = true := by rw [hu]; exact getB_setB_same _ _ _ (by decide) (by decide)
  have wu : Within [.regs, .ports] [.clk] s u := by
    rw [hu]; exact setB_in .refl (by decide) ⟨.clk, by decide, by simp [Area.has, Reg.CLK_ROOT_STATUS_HELPER_LOCK]⟩
  have wc : Within [.ports] [] u ((List.range 36).foldl phaseClean u) := .fold (fun t p => phaseClean_within t p) .refl _
  refine ⟨_, run, ?_, ?_⟩
  · split
    · exact wu.frame
    · exact (wc.after wu (by decide) (by decide)).frame
  · split
    · exact hb
    · exact (wc.getB_eq (by simp)).trans hb

theorem helperLock_unlocks {s : State} (h : s.clk.started = true) :
    Completes (exec (.helperLock false) s) fun t =>
      SelFrame s t ∧ getB t Reg.CLK_ROOT_STATUS_HELPER_LOCK = false ∧ ∀ p, p < 36 → getB t (Reg.PORT_PHASE_VALID p) = false := by
  obtain ⟨u, hu⟩ : ∃ u, u = setB s Reg.CLK_ROOT_STATUS_HELPER_LOCK false := ⟨_, rfl⟩
  have run : exec (.helperLock false) s = ok ((List.range 36).foldl phaseLose u) := by rw [hu]; exact if_neg (by simp [h])
  have hb : getB u Reg.CLK_ROOT_STATUS_HELPER_LOCK = false := by rw [hu]; exact getB_setB_same _ _ _ (by decide) (by decide)
  have w := execHelperLock_within false s
  rw [show execHelperLock false s = _ from run, outcomeOr_ok] at w
  refine ⟨_, run, w.frame, ?_, fun p hp => ?_⟩
  · exact List.foldlRecOn (motive := fun t => getB t Reg.CLK_ROOT_STATUS_HELPER_LOCK = false) _ phaseLose hb fun t e q _ => by
      unfold getB at e ⊢; rw [phaseLose_helperLock]; exact e
  · exact foldl_reaches (P := fun t => getB t (Reg.PORT_PHASE_VALID p) = false) (f := phaseLose) (x := p) (fun t => phaseLose_clears t p)
      (fun t q => phaseLose_keeps q) (List.mem_range.mpr hp) u

/-! ### The output DLLs (R33, R57) -/

theorem dllStat_ne {m n : Nat} (hm : m < 20) (hn : n < 20) (h : m ≠ n) : (Reg.DLL_STAT_LOCK m).addr ≠ (Reg.DLL_STAT_LOCK n).addr := by
  simp only [Reg.DLL_STAT_LOCK]; omega

/-- A 10 MHz output has a next edge while its DLL is in lock or in bypass. -/
theorem outScheduled_10MHz {t : State} {n : Nat} (h4 : 4 ≤ n) (h6 : n < 6) : outScheduled t n = clk10Up t n := by
  unfold outScheduled
  rw [if_neg (by omega), if_pos h6]

/-- A 10 MHz output runs in BOOT where it is enabled, once its DLL has locked (R24, R33). -/
theorem outRunning_boot {t : State} {n : Nat} (h4 : 4 ≤ n) (h6 : n < 6) (hm : t.mode = .boot) (hc : clk10Up t n = true) :
    outRunning t n = getB t (Reg.OUT_OUT_CTRL_EN n) := by
  unfold outRunning
  simp [hm, hc, h4, h6]

/-- What DLL_LOCK makes of the outputs: a 10 MHz output that was not up is started. -/
def lockStart (s : State) (n : Nat) : State := if decide (4 ≤ n) && decide (n < 6) && !clk10Up s n then startOut s n 0 else s

theorem lockStart_within (s : State) (n : Nat) : Within [.tim] [] s (lockStart s n) := by
  unfold lockStart; split
  · exact startOut_within _ _ _
  · exact .refl

theorem lockStart_outs (s : State) {m n : Nat} (h : m ≠ n) : outS (lockStart s n) m = outS s m := by
  unfold lockStart; split
  · exact outS_updOut_ne _ _ h
  · rfl

theorem lockStart_up {s : State} {n : Nat} (h : n < 4 ∨ 6 ≤ n ∨ clk10Up s n = true) : lockStart s n = s := by
  unfold lockStart
  rw [if_neg]
  rintro c
  simp only [Bool.and_eq_true, decide_eq_true_eq, Bool.not_eq_true'] at c
  obtain ⟨⟨h4, h6⟩, hc⟩ := c
  obtain h | h | h := h
  · omega
  · omega
  · rw [h] at hc; cases hc

theorem dllLock_locks {n : Nat} {s : State} (hn : n < 20) (h : s.clk.started = true) :
    Completes (exec (.dllLock n) s) fun t =>
      Frame [.regs, .tim] [.dll] s t ∧ t.tim.tod = s.tim.tod ∧ getB t (Reg.DLL_STAT_LOCK n) = true ∧
      getB t (Reg.DLL_STAT_BYPASS n) = getB s (Reg.DLL_STAT_BYPASS n) ∧ (∀ m, m ≠ n → outS t m = outS s m) ∧
      (n < 4 ∨ 6 ≤ n ∨ clk10Up s n = true → t.tim = s.tim) ∧
      (4 ≤ n → n < 6 → outScheduled t n = true ∧ (s.mode = .boot → outRunning t n = getB s (Reg.OUT_OUT_CTRL_EN n))) := by
  have run : exec (.dllLock n) s = ok (setF (lockStart s n) (Reg.DLL_STAT_LOCK n) 1) := (if_neg (by omega)).trans (if_pos h)
  have w := execDllLock_within n s
  rw [show execDllLock n s = _ from run, outcomeOr_ok] at w
  have wl := lockStart_within s n
  have hb : getB (setF (lockStart s n) (Reg.DLL_STAT_LOCK n) 1) (Reg.DLL_STAT_LOCK n) = true :=
    getB_eq_true (getF_setF_same _ (Reg.DLL_STAT_LOCK n) _ (by simp only [Reg.DLL_STAT_LOCK]; omega))
  have up : clk10Up (setF (lockStart s n) (Reg.DLL_STAT_LOCK n) 1) n = true := by unfold clk10Up; rw [hb]; rfl
  have ht : (setF (lockStart s n) (Reg.DLL_STAT_LOCK n) 1).tim = (lockStart s n).tim := setF_tim _ _ _
  refine ⟨_, run, w.frame, w.parts .tod (by decide), hb, ?_, fun m hm => ?_, fun hc => ?_, fun h4 h6 => ⟨(outScheduled_10MHz h4 h6).trans up, fun hm => ?_⟩⟩
  · unfold getB
    rw [getF_setF_ne _ (Reg.DLL_STAT_LOCK n) (Reg.DLL_STAT_BYPASS n) _ (Nat.le_of_ble_eq_true rfl) (.inr (.inl (Nat.le_of_ble_eq_true rfl))),
      wl.getF_eq (by simp)]
  · unfold outS at *
    rw [ht]; exact lockStart_outs s hm
  · rw [ht, lockStart_up hc]
  · rw [outRunning_boot h4 h6 (Eq.trans (w.parts .mode (by decide)) hm) up]
    exact w.getB_eq (by simp [Area.has, Reg.OUT_OUT_CTRL_EN]; omega)

theorem dllUnlock_bypasses {n : Nat} {s : State} (hn : n < 20) (h : getB s (Reg.DLL_STAT_LOCK n) = true) :
    Completes (exec (.dllUnlock n) s) fun t =>
      Frame [.regs, .out] [.clk, .dll] s t ∧ getB t (Reg.DLL_STAT_LOCK n) = false ∧ getB t (Reg.DLL_STAT_BYPASS n) = true ∧
      getB t Reg.CLK_EVENTS_DLL_UNLOCK_SEEN = true ∧ ∀ m, m < 20 → m ≠ n → getB t (Reg.DLL_STAT_LOCK m) = getB s (Reg.DLL_STAT_LOCK m) := by
  have run : exec (.dllUnlock n) s = ok (dllLose s n) := (if_neg (by omega)).trans (if_pos h)
  have w := execDllUnlock_within n s
  rw [show execDllUnlock n s = _ from run, outcomeOr_ok] at w
  have away (m : Nat) : (Reg.DLL_STAT_LOCK m).addr ≠ Reg.CLK_EVENTS_DLL_UNLOCK_SEEN.addr := by simp only [Reg.DLL_STAT_LOCK, Reg.CLK_EVENTS_DLL_UNLOCK_SEEN]; omega
  refine ⟨_, run, w.frame, ?_, ?_, getB_eq_true (getF_raise_same _ _ (by decide) (by decide)), fun m hm hne => ?_⟩
  · unfold getB dllLose
    rw [getF_eq_of_regWord (regWord_raise_ne _ _ (away n)), getF_setF_ne _ (Reg.DLL_STAT_BYPASS n) (Reg.DLL_STAT_LOCK n) _ (Nat.le_of_ble_eq_true rfl)
      (.inr (.inr (Nat.le_of_ble_eq_true rfl))), getF_setF_same _ (Reg.DLL_STAT_LOCK n) _ (Nat.le_of_ble_eq_true rfl)]
    rfl
  · unfold getB dllLose
    rw [getF_eq_of_regWord (regWord_raise_ne _ Reg.CLK_EVENTS_DLL_UNLOCK_SEEN (a := (Reg.DLL_STAT_BYPASS n).addr) (away n)),
      getF_setF_same _ (Reg.DLL_STAT_BYPASS n) _ (Nat.le_of_ble_eq_true rfl)]
    rfl
  · apply getB_eq_of_regWord
    unfold dllLose
    rw [regWord_raise_ne _ _ (away m), regWord_setF_ne _ (Reg.DLL_STAT_BYPASS n) _ (dllStat_ne hm hn hne), regWord_setF_ne _ _ _ (dllStat_ne hm hn hne)]

/-! ### The spreadable PLLs (R51, R52) -/

/-- The three fields of a PLL are bits of one register of the root's, apart from one another. -/
theorem pllFlds_apart (hbm : Bool) :
    (pllFlds hbm).1.w = 1 ∧ (pllFlds hbm).2.1.w = 1 ∧ (pllFlds hbm).2.2.w = 1 ∧
    (pllFlds hbm).1.lo = 7 ∧ (pllFlds hbm).2.1.lo = 8 ∧ (pllFlds hbm).2.2.lo = 9 := by
  cases hbm <;> decide

/-- A PLL's relock over: the fields as the lock leaves them. -/
def relocked (hbm : Bool) (s : State) : State := setF (setF (setF s (pllFlds hbm).1 0) (pllFlds hbm).2.1 0) (pllFlds hbm).2.2 1

section pll
variable (hbm : Bool) (s : State)

theorem relocked_apply : getF (relocked hbm s) (pllFlds hbm).1 = 0 := by
  obtain ⟨w1, w2, w3, l1, l2, l3⟩ := pllFlds_apart hbm
  unfold relocked
  rw [getF_setF_ne _ _ _ _ (by omega) (by omega), getF_setF_ne _ _ _ _ (by omega) (by omega), getF_setF_same _ _ _ (by omega)]
  exact Nat.zero_mod _

theorem relocked_relocking : getF (relocked hbm s) (pllFlds hbm).2.1 = 0 := by
  obtain ⟨w1, w2, w3, l1, l2, l3⟩ := pllFlds_apart hbm
  unfold relocked
  rw [getF_setF_ne _ _ _ _ (by omega) (by omega), getF_setF_same _ _ _ (by omega)]
  exact Nat.zero_mod _

theorem relocked_locked : getF (relocked hbm s) (pllFlds hbm).2.2 = 1 := by
  obtain ⟨w1, w2, w3, l1, l2, l3⟩ := pllFlds_apart hbm
  unfold relocked
  rw [getF_setF_same _ _ _ (by omega), w3]
  rfl

theorem relocked_within : Within [.regs] [.clk] s (relocked hbm s) := by
  obtain ⟨h1, h2, h3⟩ := hits_pll (g := [.clk]) (b := hbm) (by decide)
  exact setF_in (setF_in (setF_in .refl (by decide) h1) (by decide) h2) (by decide) h3

end pll

/-- A group of the fabric leaves the root's fields. -/
theorem drainIngress_pllFld (s : State) {f : Fld} (h : Hits [.clk] f) : getF (drainIngress s) f = getF s f := by
  obtain ⟨x, m, hx⟩ := h
  obtain rfl := List.mem_singleton.mp m
  simp only [Area.has] at hx
  refine (drainIngress_within s).getF_eq ?_
  simp only [List.forall_mem_cons, Area.has, List.not_mem_nil, false_implies, implies_true, and_true]
  omega

theorem pllLock_ends {hbm : Bool} {s : State} (h : getB s (pllFlds hbm).2.1 = true) :
    Completes (exec (.pllLock hbm) s) fun t =>
      getB t (pllFlds hbm).1 = false ∧ getB t (pllFlds hbm).2.1 = false ∧ getB t (pllFlds hbm).2.2 = true ∧ t.clk = s.clk ∧
      Frame [.regs, .sel, .ports, .jieth, .fab, .out] [.clk, .port, .fab, .fport, .queue, .perf, .sec, .cmd] s t ∧
      (hbm = true → Frame [.regs] [.clk] s t) := by
  obtain ⟨u, hu⟩ : ∃ u, u = relocked hbm s := ⟨_, rfl⟩
  have run : exec (.pllLock hbm) s = ok (if hbm then u else drainIngress u) := by rw [hu]; exact if_pos h
  have w := execPllLock_within hbm s
  rw [show execPllLock hbm s = _ from run, outcomeOr_ok] at w
  obtain ⟨h1, h2, h3⟩ := hits_pll (g := [.clk]) (b := hbm) (by decide)
  have same {f : Fld} (hf : Hits [.clk] f) : getF (if hbm then u else drainIngress u) f = getF u f := by
    split
    · rfl
    · exact drainIngress_pllFld u hf
  refine ⟨_, run, getB_eq_false ?_, getB_eq_false ?_, getB_eq_true ?_, w.parts .clk (by decide), (w.mono (by decide) (by decide)).frame, ?_⟩
  · rw [same h1, hu]; exact relocked_apply hbm s
  · rw [same h2, hu]; exact relocked_relocking hbm s
  · rw [same h3, hu]; exact relocked_locked hbm s
  · rintro rfl
    rw [if_pos rfl, hu]; exact (relocked_within true s).frame

/-- The event of a relock that fails. -/
def pllFail (hbm : Bool) : Fld := if hbm then Reg.CLK_EVENTS_HBM_PLL_FAIL else Reg.CLK_EVENTS_FAB_PLL_FAIL

theorem pllFail_apart (hbm : Bool) : (pllFail hbm).w = 1 ∧ (pllFail hbm).lo + (pllFail hbm).w ≤ 32 ∧
    (pllFlds hbm).1.addr ≠ (pllFail hbm).addr ∧ (pllFlds hbm).2.1.addr ≠ (pllFail hbm).addr ∧ (pllFlds hbm).2.2.addr ≠ (pllFail hbm).addr := by
  cases hbm <;> decide

theorem pllLockTimeout_fails {hbm : Bool} {s : State} (h : getB s (pllFlds hbm).2.1 = true) :
    Completes (exec (.pllLockTimeout hbm) s) fun t =>
      getB t (pllFlds hbm).1 = false ∧ getB t (pllFlds hbm).2.1 = false ∧ getB t (pllFlds hbm).2.2 = getB s (pllFlds hbm).2.2 ∧ t.clk = s.clk ∧
      getB t (if hbm then Reg.CLK_EVENTS_HBM_PLL_FAIL else Reg.CLK_EVENTS_FAB_PLL_FAIL) = true ∧
      Frame [.regs, .sel, .ports, .jieth, .fab, .out] [.clk, .port, .fab, .fport, .queue, .perf, .sec, .cmd] s t := by
  obtain ⟨u, hu⟩ : ∃ u, u = setF (setF s (pllFlds hbm).1 0) (pllFlds hbm).2.1 0 := ⟨_, rfl⟩
  have run : exec (.pllLockTimeout hbm) s = ok (raise u (pllFail hbm)) := by rw [hu]; exact if_pos h
  have w := execPllLockTimeout_within hbm s
  rw [show execPllLockTimeout hbm s = _ from run, outcomeOr_ok] at w
  obtain ⟨w1, w2, w3, l1, l2, l3⟩ := pllFlds_apart hbm
  obtain ⟨fw, f32, a1, a2, a3⟩ := pllFail_apart hbm
  refine ⟨_, run, getB_eq_false ?_, getB_eq_false ?_, ?_, w.parts .clk (by decide), getB_eq_true (getF_raise_same _ _ f32 fw),
    (w.mono (by decide) (by decide)).frame⟩
  · rw [getF_eq_of_regWord (regWord_raise_ne _ _ a1), hu, getF_setF_ne _ _ _ _ (by omega) (by omega), getF_setF_same _ _ _ (by omega)]
    exact Nat.zero_mod _
  · rw [getF_eq_of_regWord (regWord_raise_ne _ _ a2), hu, getF_setF_same _ _ _ (by omega)]
    exact Nat.zero_mod _
  · unfold getB
    rw [getF_eq_of_regWord (regWord_raise_ne _ _ a3), hu, getF_setF_ne _ _ _ _ (by omega) (by omega), getF_setF_ne _ _ _ _ (by omega) (by omega)]

/-- Settles O39: the helper's lock, the output DLLs' and the spreadable PLLs'. -/
theorem helperDllsPlls : Obligations.HelperDllsPlls :=
  ⟨fun _ => ⟨helperLock_locks, helperLock_unlocks, fun _ => dllLock_locks, fun _ => dllUnlock_bypasses⟩,
    fun _ _ h => ⟨pllLock_ends h, pllLockTimeout_fails h⟩⟩

end Sys2Proof.Machine

end

section
/-! PROOFS. Gate lists and the counters of the Sluice lane (R185, R186, R195, R321). -/

namespace Sys2Proof.Machine

/-! ### Time that runs to an instant -/

theorem runTo_now (s : State) (goal : Nat) : s.now ≤ (runTo s goal).now := by
  unfold runTo
  split
  · exact Nat.le_refl _
  · rw [advance_now]; exact Nat.le_add_right _ _

theorem runTo_fab (s : State) (goal : Nat) : (runTo s goal).fab = s.fab := (runTo_within s goal).parts .fab (by decide)

/-! ### Gate lists (R185, R186) -/

/-- What a gate's command leaves: time runs, the gates of other ports and the frames stand. -/
def GateMoves (f : Nat) (s t : State) : Prop :=
  TimeFrame [.fab] [] s t ∧ s.now ≤ t.now ∧ (∀ g, g ≠ f → gateS t g = gateS s g) ∧ t.fab.frames = s.fab.frames

/-- A pending list is in force and pending no more. -/
def ListTaken (f : Nat) (s t : State) : Prop := ∃ a, (gateS s f).admin = some a ∧ (gateS t f).run = some a ∧ (gateS t f).admin = none

theorem gateS_congr {s t : State} (h : t.fab = s.fab) (f : Nat) : gateS t f = gateS s f := by unfold gateS; rw [h]

theorem takeList_frames (s : State) (f : Nat) : (takeList s f).fab.frames = s.fab.frames := by
  unfold takeList
  split
  · split <;> rfl
  · rfl

theorem takeList_gate_ne (s : State) {f g : Nat} (h : g ≠ f) : gateS (takeList s f) g = gateS s g := by
  unfold takeList
  split
  · split
    · exact gateS_updGate_ne _ _ h
    · rfl
  · rfl

/-- The gates of a port keep their lists or take the one that is pending. -/
theorem takeList_gate (s : State) (f : Nat) : gateS (takeList s f) f = gateS s f ∨ ListTaken f s (takeList s f) := by
  unfold takeList ListTaken
  cases ha : (gateS s f).admin with
  | none => exact .inl rfl
  | some a =>
    dsimp only
    split
    · exact .inr ⟨a, rfl, by rw [gateS_updGate_same], by rw [gateS_updGate_same]⟩
    · exact .inl rfl

section gates
variable {f : Nat} {s : State}

theorem gateMoves_refl : GateMoves f s s := ⟨⟨fun p _ => .refl p s, fun _ _ => rfl⟩, Nat.le_refl _, fun _ _ => rfl, rfl⟩

/-- Time runs, then the gates of port f alone are changed. -/
theorem GateMoves.afterTime {goal : Nat} {t : State} (w : Within [.fab] [] (runTo s goal) t) (hg : ∀ g, g ≠ f → gateS t g = gateS (runTo s goal) g)
    (hf : t.fab.frames = (runTo s goal).fab.frames) : GateMoves f s t := by
  have hn : t.now = (runTo s goal).now := w.parts .now (by decide)
  have hw : Within ([.regs, .clk, .tim, .sel, .coarse, .now, .out, .tod] ++ [.fab]) ([.gauge, .perf] ++ []) s t :=
    w.after ((runTo_within s goal).mono (by decide) (by decide)) (by decide) (by decide)
  refine ⟨hw.frame, hn ▸ runTo_now s goal, fun g h => ?_, ?_⟩
  · rw [hg g h, gateS_congr (runTo_fab s goal)]
  · rw [hf, runTo_fab]

theorem gateListTakeEffect_takes {a : GateList} (hf : f < 36) (hp : powered s .fab = true) (ha : (gateS s f).admin = some a) :
    Completes (exec (.gateListTakeEffect f) s) fun t => GateMoves f s t ∧ (gateS t f).run = some a ∧ (gateS t f).admin = none := by
  have run : exec (.gateListTakeEffect f) s = ok (updGate (runTo s ((todWholeNs s + (aheadNs (gateS s f).start (todWholeNs s)).toNat) * 2 ^ 56)) f
      (fun g => { g with run := some a, admin := none })) := by
    show execGateListTakeEffect f s = _
    unfold execGateListTakeEffect
    rw [if_neg (by omega), if_neg (by simp [hp]), ha]
  exact ⟨_, run, .afterTime (updGate_within _ _ _) (fun g h => gateS_updGate_ne _ _ h) rfl, by rw [gateS_updGate_same], by rw [gateS_updGate_same]⟩

theorem gateListTakeEffect_idle (hf : f < 36) (hp : powered s .fab = true) (ha : (gateS s f).admin = none) :
    Completes (exec (.gateListTakeEffect f) s) fun t => t = s := by
  refine ⟨s, ?_, rfl⟩
  show execGateListTakeEffect f s = ok s
  unfold execGateListTakeEffect
  rw [if_neg (by omega), if_neg (by simp [hp]), ha]

theorem execGateChange_eq (hf : f < 36) (hp : powered s .fab = true) : exec (.gateChange f) s =
    match minNat (boundsAhead s (gateBounds s f)) with
    | some d => ok (takeList (runTo s ((todWholeNs s + d) * 2 ^ 56)) f)
    | none => ok s :=
  (if_neg (by omega)).trans (if_neg (by simp [hp]))

theorem gateChange_moves (hf : f < 36) (hp : powered s .fab = true) :
    Completes (exec (.gateChange f) s) fun t => GateMoves f s t ∧ (gateS t f = gateS s f ∨ ListTaken f s t) := by
  rw [execGateChange_eq hf hp]
  cases minNat (boundsAhead s (gateBounds s f)) with
  | none => exact ⟨s, rfl, gateMoves_refl, .inl rfl⟩
  | some d =>
    obtain ⟨u, hu⟩ : ∃ u, u = runTo s ((todWholeNs s + d) * 2 ^ 56) := ⟨_, rfl⟩
    have hg : gateS u f = gateS s f := by rw [hu]; exact gateS_congr (runTo_fab _ _) f
    have k := takeList_gate u f
    unfold ListTaken at k ⊢
    rw [hg] at k
    refine ⟨takeList u f, by rw [hu]; rfl, ?_, k⟩
    rw [hu]
    exact .afterTime (takeList_within _ _) (fun g h => takeList_gate_ne _ h) (takeList_frames _ _)

theorem gateChange_idle (hf : f < 36) (hp : powered s .fab = true) (hb : ∀ b ∈ gateBounds s f, aheadNs b (todWholeNs s) ≤ 0) :
    Completes (exec (.gateChange f) s) fun t => t = s := by
  have e : boundsAhead s (gateBounds s f) = [] := by
    unfold boundsAhead
    rw [List.filter_eq_nil_iff.mpr fun b m => by simpa using hb b m]
    rfl
  rw [execGateChange_eq hf hp, e]
  exact ⟨s, rfl, rfl⟩

end gates

/-! ### Two-word counters (R203, R321) -/

theorem getHL_congr {s t : State} {hi lo : Fld} (h : regWord t hi.addr = regWord s hi.addr) (h' : regWord t lo.addr = regWord s lo.addr) :
    getHL t hi lo = getHL s hi lo := by
  unfold getHL
  rw [getF_eq_of_regWord h, getF_eq_of_regWord h']

/-- A counter of two whole words counts modulo 2^64. -/
theorem incHL_counted (s : State) {hi lo : Fld} (k : Nat) (hh : hi.lo = 0 ∧ hi.w = 32) (hl : lo.lo = 0 ∧ lo.w = 32) (hne : hi.addr ≠ lo.addr) :
    Counted hi lo k s (incHL s hi lo k) := by
  obtain ⟨h0, h32⟩ := hh
  obtain ⟨l0, l32⟩ := hl
  unfold Counted incHL setHL
  obtain ⟨x, hx⟩ : ∃ x, x = getHL s hi lo + k := ⟨_, rfl⟩
  rw [← hx]
  unfold getHL
  rw [getF_setF_ne _ lo hi _ (by omega) (.inl hne), getF_setF_same _ hi _ (by omega), getF_setF_same _ lo _ (by omega), h32, l32]
  omega

end Sys2Proof.Machine

end

section
/-! PROOFS. A Sluice frame taken from its buffer: what stands while time runs to its release and its egress is cleared (R195 to R197). -/

namespace Sys2Proof.Machine

/-! ### Outputs of time that runs, and of a packet that ends -/

theorem coarseAdvance_grows (k : Nat) (s : State) : OutGrows s (coarseAdvance k s) := by
  unfold coarseAdvance
  dsimp only
  split
  · exact .same rfl
  · exact (raise_grows _ _).after (.same rfl)

theorem advance_grows (k : Nat) (s : State) : OutGrows s (advance k s) := by
  unfold advance
  dsimp only
  have hp : OutGrows s (perf (countTicks k s) 0x43 0x23 0 0 (weirTicks s k)) := (perf_grows _ _ _ _ _ _).after (.same rfl)
  split
  · split
    · exact (coarseAdvance_grows _ _).after hp
    · exact hp
  · exact .same rfl

theorem runTo_grows (s : State) (goal : Nat) : OutGrows s (runTo s goal) := by
  unfold runTo
  split
  · exact .refl
  · exact advance_grows _ _

theorem finishId_grows (s : State) (id : Option Nat) (st : Status) (ws : List Word) : OutGrows s (finishId s id st ws) := by
  unfold finishId
  split
  · exact .refl
  · split
    · exact finish_grows _ _ _ _
    · exact .refl

theorem finishTx_grows (s : State) (f : Nat) (id : Option Nat) (c : EgressCap) : OutGrows s (finishTx s f id c) := by
  unfold finishTx
  split
  · exact .refl
  · split
    · exact finishId_grows _ _ _ _
    · exact (finishId_grows _ _ _ _).after (raise_grows _ _)

/-! ### The Sluice lane's counters and buffers -/

/-- A word of the Sluice lane's counters: the last six of a fabric port's window. -/
def IsSluiceWord (a : Nat) : Prop := 0x81000 ≤ a ∧ a < 0x82500 ∧ 0x68 ≤ a % 0x80

/-- An operation leaves the Sluice lane's counters. -/
def SluiceCounts (s t : State) : Prop := ∀ a, IsSluiceWord a → regWord t a = regWord s a

/-- An operation leaves the frames held, the Sluice lane's and the others. -/
def FramesKept (s t : State) : Prop := t.fab.sluice = s.fab.sluice ∧ t.fab.frames = s.fab.frames

theorem SluiceCounts.refl (s : State) : SluiceCounts s s := fun _ _ => rfl

theorem SluiceCounts.after {s t u : State} (k : SluiceCounts t u) (h : SluiceCounts s t) : SluiceCounts s u := fun a i => (k a i).trans (h a i)

theorem FramesKept.after {s t u : State} (k : FramesKept t u) (h : FramesKept s t) : FramesKept s u := ⟨k.1.trans h.1, k.2.trans h.2⟩

theorem FramesKept.of_fab {s t : State} (h : t.fab = s.fab) : FramesKept s t := by unfold FramesKept; rw [h]; exact ⟨rfl, rfl⟩

theorem updEg_frames (s : State) (f : Nat) (g : EgS → EgS) : FramesKept s (updEg s f g) := ⟨rfl, rfl⟩

/-- An operation that touches no register of a fabric port. -/
theorem Within.sluiceCounts {l : List StatePart} {g : List Area} {s t : State} (h : Within l g s t)
    (hg : ∀ x ∈ g, x ∈ [Area.port, .fab, .gauge, .perf, .sec, .aud, .cmd]) : SluiceCounts s t := fun a i => by
  obtain ⟨ha, hb, -⟩ := i
  refine h.regs _ fun x m => ?_
  have := hg x m
  simp only [List.mem_cons, List.not_mem_nil, or_false] at this
  obtain rfl | rfl | rfl | rfl | rfl | rfl | rfl := this <;> simp only [Area.has] <;> omega

theorem incHL_sluiceCounts (s : State) (hi lo : Fld) (k : Nat) (hh : ¬ IsSluiceWord hi.addr) (hl : ¬ IsSluiceWord lo.addr) : SluiceCounts s (incHL s hi lo k) :=
  fun _ i => regWord_incHL_ne _ _ _ _ (fun e => hh (e ▸ i)) (fun e => hl (e ▸ i))

theorem setHL_sluiceCounts (s : State) (hi lo : Fld) (x : Int) (hh : ¬ IsSluiceWord hi.addr) (hl : ¬ IsSluiceWord lo.addr) : SluiceCounts s (setHL s hi lo x) :=
  fun _ i => regWord_setHL_ne _ _ _ _ (fun e => hh (e ▸ i)) (fun e => hl (e ▸ i))

/-- The counters of the frames and bytes sent stand below those of the Sluice lane. -/
theorem txWords (f : Nat) : ¬ IsSluiceWord (Reg.FP_TX_FRAMES_HI f).addr ∧ ¬ IsSluiceWord (Reg.FP_TX_FRAMES_LO f).addr ∧
    ¬ IsSluiceWord (Reg.FP_TX_BYTES_HI f).addr ∧ ¬ IsSluiceWord (Reg.FP_TX_BYTES_LO f).addr := by
  simp only [IsSluiceWord, Reg.FP_TX_FRAMES_HI, Reg.FP_TX_FRAMES_LO, Reg.FP_TX_BYTES_HI, Reg.FP_TX_BYTES_LO]
  omega

theorem countTx_sluiceCounts (s : State) (f len : Nat) : SluiceCounts s (countTx s f len) := by
  obtain ⟨h1, h2, h3, h4⟩ := txWords f
  exact (incHL_sluiceCounts _ _ _ _ h3 h4).after (incHL_sluiceCounts _ _ _ _ h1 h2)

theorem uncountTx_sluiceCounts (s : State) (f len : Nat) : SluiceCounts s (uncountTx s f len) := by
  obtain ⟨h1, h2, h3, h4⟩ := txWords f
  exact (setHL_sluiceCounts _ _ _ _ h3 h4).after (setHL_sluiceCounts _ _ _ _ h1 h2)

/-- The counters of the Sluice lane are among its words. -/
theorem sluiceWords (f : Nat) : IsSluiceWord (Reg.FP_SLUICE_TX_HI f).addr ∧ IsSluiceWord (Reg.FP_SLUICE_TX_LO f).addr ∧
    IsSluiceWord (Reg.FP_SLUICE_LATE_HI f).addr ∧ IsSluiceWord (Reg.FP_SLUICE_LATE_LO f).addr ∧
    IsSluiceWord (Reg.FP_SLUICE_DROP_HI f).addr ∧ IsSluiceWord (Reg.FP_SLUICE_DROP_LO f).addr := by
  simp only [IsSluiceWord, Reg.FP_SLUICE_TX_HI, Reg.FP_SLUICE_TX_LO, Reg.FP_SLUICE_LATE_HI, Reg.FP_SLUICE_LATE_LO, Reg.FP_SLUICE_DROP_HI, Reg.FP_SLUICE_DROP_LO]
  omega

/-- A counter of the Sluice lane counts between operations that leave it. -/
theorem SluiceCounts.counted {s t u v : State} {hi lo : Fld} {k : Nat} (h : SluiceCounts s t) (c : Counted hi lo k t u) (h' : SluiceCounts u v)
    (hh : IsSluiceWord hi.addr) (hl : IsSluiceWord lo.addr) : Counted hi lo k s v := by
  unfold Counted at *
  rw [getHL_congr (h' _ hh) (h' _ hl), c, getHL_congr (h _ hh) (h _ hl)]

/-! ### The egress cleared (R196) -/

theorem cutFor_frames (s : State) (f clear : Nat) : FramesKept s (cutFor s f clear) := by
  unfold cutFor
  split
  next t e =>
    split
    next d e' =>
      dsimp only
      apply (updEg_frames _ _ _).after
      apply FramesKept.of_fab
      refine Eq.trans ((perf_within _ _ _ _ _ _).parts .fab (by decide)) ?_
      show (if t.upto = t.fr.len then uncountTx s f t.fr.len else s).fab = s.fab
      split
      · exact (uncountTx_within _ _ _).parts .fab (by decide)
      · rfl
    next => exact ⟨rfl, rfl⟩
  next => exact ⟨rfl, rfl⟩

theorem cutFor_sluiceCounts (s : State) (f clear : Nat) : SluiceCounts s (cutFor s f clear) := by
  unfold cutFor
  split
  next t e =>
    split
    next d e' =>
      dsimp only
      apply ((updEg_within _ _ _).sluiceCounts (by decide)).after
      apply ((perf_within _ _ _ _ _ _).sluiceCounts (by decide)).after
      apply ((emit_within _ _).sluiceCounts (by decide)).after
      split
      · exact uncountTx_sluiceCounts _ _ _
      · exact .refl s
    next => exact .refl s
  next => exact .refl s

/-- The state in which a release finds its egress: cut where it is not free. -/
def egressCut (s : State) (f : Nat) : State := if (egS s f).freeAt ≤ preamblePs s f then s else cutFor s f (preamblePs s f)

theorem clearEgress_eq (s : State) (f : Nat) : (clearEgress s f).1 =
    if (egS (egressCut s f) f).freeAt ≤ preamblePs (egressCut s f) f then egressCut s f
    else runPs (egressCut s f) ((egS (egressCut s f) f).freeAt + (nowPs (egressCut s f) - preamblePs (egressCut s f) f)) := by
  obtain ⟨t, ht⟩ : ∃ t, t = egressCut s f := ⟨_, rfl⟩
  rw [← ht]
  show (clearEgress s f).1 = _
  unfold clearEgress
  dsimp only
  rw [show (if (egS s f).freeAt ≤ preamblePs s f then s else cutFor s f (preamblePs s f)) = t from ht.symm]
  split <;> rfl

/-- A free egress needs no clearing. -/
theorem clearEgress_free {s : State} {f : Nat} (h : (egS s f).freeAt ≤ preamblePs s f) : (clearEgress s f).1 = s := by
  have e : egressCut s f = s := if_pos h
  rw [clearEgress_eq, e, if_pos h]

theorem clearEgress_keeps (s : State) (f : Nat) : FramesKept s (clearEgress s f).1 ∧ SluiceCounts s (clearEgress s f).1 := by
  have kc : FramesKept s (egressCut s f) ∧ SluiceCounts s (egressCut s f) := by
    unfold egressCut
    split
    · exact ⟨⟨rfl, rfl⟩, .refl s⟩
    · exact ⟨cutFor_frames _ _ _, cutFor_sluiceCounts _ _ _⟩
  rw [clearEgress_eq]
  split
  · exact kc
  · exact ⟨(FramesKept.of_fab ((runPs_within _ _).parts .fab (by decide))).after kc.1, ((runPs_within _ _).sluiceCounts (by decide)).after kc.2⟩

/-! ### The frame taken at its release (R197) -/

/-- Time has run to a frame's release and the frame is out of its buffer. -/
def released (s : State) (x : SFrame) : State := dropSluice (runTo s (x.release * 2 ^ 40)) x

section released
variable (s : State) (x : SFrame)

theorem released_within : Within [.regs, .clk, .tim, .sel, .fab, .coarse, .now, .out, .tod] [.gauge, .perf] s (released s x) :=
  (dropSluice_within _ _).after ((runTo_within _ _).mono (by decide) (by decide)) (by decide) (by decide)

theorem released_fab : (released s x).fab = { s.fab with sluice := s.fab.sluice.erase x } := by
  show ({ (runTo s (x.release * 2 ^ 40)).fab with sluice := (runTo s (x.release * 2 ^ 40)).fab.sluice.erase x } : Fab) = _
  rw [runTo_fab]

theorem released_grows : OutGrows s (released s x) := .after (.same rfl) (runTo_grows s _)

/-- A field outside the gauges and the counters is as it was. -/
theorem released_getF {f : Fld} (h : f.addr < 0x90000 ∨ 0xE0000 ≤ f.addr) : getF (released s x) f = getF s f := by
  refine (released_within s x).getF_eq fun a m => ?_
  simp only [List.mem_cons, List.not_mem_nil, or_false] at m
  obtain rfl | rfl := m <;> simp only [Area.has] <;> omega

theorem released_ports : (released s x).ports = s.ports := (released_within s x).parts .ports (by decide)

theorem released_authMissing (f : Nat) : authMissing (released s x) f = authMissing s f := by
  have hp := portBase_range f
  have hs : (released s x).sec = s.sec := (released_within s x).parts .sec (by decide)
  unfold authMissing keyUsable getB
  rw [released_getF s x (f := Reg.PORT_PTP_XPORT_AUTH_EN f) (by simp only [Reg.PORT_PTP_XPORT_AUTH_EN]; omega),
    released_getF s x (f := Reg.PORT_PTP_XPORT_KEY_ID f) (by simp only [Reg.PORT_PTP_XPORT_KEY_ID]; omega),
    released_getF s x (f := Reg.SEC_STATUS_KEYS_LOCKED) (by decide), hs]

theorem released_egressAsym (f : Nat) (y : SFrame) : egressAsym (released s x) f y = egressAsym s f y := by
  have hp := portBase_range f
  unfold egressAsym delayAsym getHL portS
  rw [released_getF s x (f := Reg.PORT_ALPHA f) (by simp only [Reg.PORT_ALPHA]; omega),
    released_getF s x (f := Reg.PORT_LINK_DLY_HI f) (by simp only [Reg.PORT_LINK_DLY_HI]; omega),
    released_getF s x (f := Reg.PORT_LINK_DLY_LO f) (by simp only [Reg.PORT_LINK_DLY_LO]; omega), released_ports]

theorem released_defers (f : Nat) (y : SFrame) : defers (released s x) f y = defers s f y := by
  have hp := portBase_range f
  unfold defers oneStep getB
  rw [released_getF s x (f := Reg.PORT_TT_CTRL_ONE_STEP f) (by simp only [Reg.PORT_TT_CTRL_ONE_STEP]; omega)]

theorem released_bytesPs (f k : Nat) : bytesPs (released s x) f k = bytesPs s f k := by
  have hp := portBase_range f
  unfold bytesPs portMbps portRate
  rw [released_getF s x (f := Reg.LINK_LINK_STATUS_STATE (f - 36)) (by simp only [Reg.LINK_LINK_STATUS_STATE]; omega),
    released_getF s x (f := Reg.PORT_PHY_CFG_RATE f) (by simp only [Reg.PORT_PHY_CFG_RATE]; omega)]

theorem released_egS (f : Nat) : egS (released s x) f = egS s f := by unfold egS; rw [released_fab]

end released

end Sys2Proof.Machine

end

section
/-! PROOFS. A Sluice frame leaves, or does not (R98, R104, R195, R197, R340). -/

namespace Sys2Proof.Machine

/-! ### The steps of a departure -/

/-- The correction that leaves with the frame or for its follow-up (R98). -/
def sluiceTotal (s : State) (f : Nat) (x : SFrame) (c : EgressCap) : Int :=
  if x.own then 0 else x.add + residence x (txStamp s f c) (c.resolved || decide (36 ≤ f)) - egressAsym s f x

/-- The correctionField of the frame (R98). -/
def sluiceCorr (s : State) (f : Nat) (x : SFrame) (c : EgressCap) : Int := if defers s f x then x.hdr.corr else x.hdr.corr + sluiceTotal s f x c

/-- The timestamp inserted into a message of the device's own (R96). -/
def sluiceStamp (s : State) (f : Nat) (x : SFrame) (c : EgressCap) : Option Nat := if x.own then ownInsert s f x.hdr c else none

/-- The frame is out, its correction kept where a follow-up carries it. -/
def sluiceOut (s : State) (f : Nat) (x : SFrame) (c : EgressCap) : State :=
  let icv := sendIcv s f x.body (sluiceCorr s f x c) (sluiceStamp s f x c)
  let s1 := emit (if defers s f x then addResidue s f x (sluiceTotal s f x c) else s)
    (.sluice f x.src x.len (txStamp s f c).toNat (sluiceCorr s f x c) (sluiceStamp s f x c) icv)
  if x.host then emit s1 (.ptp f x.body (sluiceStamp s f x c) icv) else s1

/-- It is counted. -/
def sluiceCounted (s : State) (f len : Nat) (late : Bool) : State :=
  let s3 := incHL (countTx s f len) (Reg.FP_SLUICE_TX_HI f) (Reg.FP_SLUICE_TX_LO f) 1
  if late then raise (incHL s3 (Reg.FP_SLUICE_LATE_HI f) (Reg.FP_SLUICE_LATE_LO f) 1) Reg.FAB_EVENTS_SLUICE_LATE_SEEN else s3

/-- What else follows it: the link's replay, the performance counters and histograms, the timestamps of a message of the device's own. -/
def sluiceFollowed (s : State) (f : Nat) (x : SFrame) (ts plane : Int) (known : Bool) : State :=
  let s5 := perf (if 36 ≤ f then jiethSend s (f - 36) 2 x.len else s) 0x42 0x23 f 0 1
  if x.own then (if f < 36 ∧ known then afterOwn s5 f x plane else s5)
  else if known && x.resolved then histOffer s5 2 (fun h => histIn s5 f h) ((residence x ts known).toNat * 10 / 65536) else s5

/-- The egress is taken from now on for the frame's bytes. -/
def sluiceTakes (s : State) (f : Nat) (x : SFrame) (e : EgS) : EgS :=
  { e with start := nowPs s, freeAt := nowPs s + bytesPs s f (if 36 ≤ f then x.len else x.len + 12), sluice := true, cur := none }

theorem sluiceSend_eq (s : State) (f : Nat) (x : SFrame) (c : EgressCap) (late : Bool) : sluiceSend s f x c late =
    updEg (sluiceFollowed (sluiceCounted (sluiceOut s f x c) f x.len late) f x (txStamp s f c) (txStamp s f c + planeDelay s f 0)
      (c.resolved || decide (36 ≤ f))) f (sluiceTakes s f x) := rfl

section steps
variable (s : State) (f : Nat) (x : SFrame) (c : EgressCap)

theorem sluiceOut_within : Within [.ports, .out] [] s (sluiceOut s f x c) := by
  unfold sluiceOut
  dsimp only
  have w : Within [.ports, .out] [] s (if defers s f x then addResidue s f x (sluiceTotal s f x c) else s) :=
    .ite ((addResidue_within _ _ _ _).mono (by decide) (by decide)) .refl
  have we : ∀ o, Within [.ports, .out] [] s (emit (if defers s f x then addResidue s f x (sluiceTotal s f x c) else s) o) :=
    fun o => (emit_within _ o).after w (by decide) (by decide)
  exact .ite ((emit_within _ _).after (we _) (by decide) (by decide)) (we _)

theorem sluiceCounted_within (len : Nat) (late : Bool) : Within [.regs, .out] [.fab, .fport] s (sluiceCounted s f len late) := by
  have w : Within [.regs, .out] [.fab, .fport] s (incHL (countTx s f len) (Reg.FP_SLUICE_TX_HI f) (Reg.FP_SLUICE_TX_LO f) 1) :=
    incHL_in ((countTx_within s f len).mono (by decide) (by decide)) (by decide)
      ⟨.fport, by decide, by simp only [Area.has, Reg.FP_SLUICE_TX_HI]; omega⟩ ⟨.fport, by decide, by simp only [Area.has, Reg.FP_SLUICE_TX_LO]; omega⟩
  unfold sluiceCounted
  refine .ite (raise_in (incHL_in w (by decide) ?_ ?_) (by decide) (by decide) ?_) w
  · exact ⟨.fport, by decide, by simp only [Area.has, Reg.FP_SLUICE_LATE_HI]; omega⟩
  · exact ⟨.fport, by decide, by simp only [Area.has, Reg.FP_SLUICE_LATE_LO]; omega⟩
  · exact ⟨.fab, by decide, by simp [Area.has, Reg.FAB_EVENTS_SLUICE_LATE_SEEN]⟩

theorem sluiceCounted_tx (len : Nat) (late : Bool) :
    Counted (Reg.FP_SLUICE_TX_HI f) (Reg.FP_SLUICE_TX_LO f) 1 s (sluiceCounted s f len late) := by
  obtain ⟨h1, h2, -⟩ := sluiceWords f
  have hc := incHL_counted (countTx s f len) (hi := Reg.FP_SLUICE_TX_HI f) (lo := Reg.FP_SLUICE_TX_LO f) 1 ⟨rfl, rfl⟩ ⟨rfl, rfl⟩
    (by simp only [Reg.FP_SLUICE_TX_HI, Reg.FP_SLUICE_TX_LO]; omega)
  have k := (countTx_sluiceCounts s f len).counted hc (.refl _) h1 h2
  unfold sluiceCounted
  dsimp only
  split
  · unfold Counted at k ⊢
    rw [← k]
    apply getHL_congr
    · rw [regWord_raise_ne, regWord_incHL_ne]
      all_goals simp only [Reg.FP_SLUICE_TX_HI, Reg.FP_SLUICE_LATE_HI, Reg.FP_SLUICE_LATE_LO, Reg.FAB_EVENTS_SLUICE_LATE_SEEN]; omega
    · rw [regWord_raise_ne, regWord_incHL_ne]
      all_goals simp only [Reg.FP_SLUICE_TX_LO, Reg.FP_SLUICE_LATE_HI, Reg.FP_SLUICE_LATE_LO, Reg.FAB_EVENTS_SLUICE_LATE_SEEN]; omega
  · exact k

theorem sluiceCounted_late (len : Nat) :
    Counted (Reg.FP_SLUICE_LATE_HI f) (Reg.FP_SLUICE_LATE_LO f) 1 s (sluiceCounted s f len true) ∧
    getB (sluiceCounted s f len true) Reg.FAB_EVENTS_SLUICE_LATE_SEEN = true := by
  obtain ⟨-, -, h1, h2, -⟩ := sluiceWords f
  obtain ⟨u, hu⟩ : ∃ u, u = incHL (countTx s f len) (Reg.FP_SLUICE_TX_HI f) (Reg.FP_SLUICE_TX_LO f) 1 := ⟨_, rfl⟩
  have e : sluiceCounted s f len true = raise (incHL u (Reg.FP_SLUICE_LATE_HI f) (Reg.FP_SLUICE_LATE_LO f) 1) Reg.FAB_EVENTS_SLUICE_LATE_SEEN := by
    rw [hu]; unfold sluiceCounted; rw [if_pos rfl]
  have hs : getHL u (Reg.FP_SLUICE_LATE_HI f) (Reg.FP_SLUICE_LATE_LO f) = getHL s (Reg.FP_SLUICE_LATE_HI f) (Reg.FP_SLUICE_LATE_LO f) := by
    have k := countTx_sluiceCounts s f len
    rw [hu]
    apply getHL_congr
    · rw [regWord_incHL_ne, k _ h1] <;> simp only [Reg.FP_SLUICE_LATE_HI, Reg.FP_SLUICE_TX_HI, Reg.FP_SLUICE_TX_LO] <;> omega
    · rw [regWord_incHL_ne, k _ h2] <;> simp only [Reg.FP_SLUICE_LATE_LO, Reg.FP_SLUICE_TX_HI, Reg.FP_SLUICE_TX_LO] <;> omega
  have hc := incHL_counted u (hi := Reg.FP_SLUICE_LATE_HI f) (lo := Reg.FP_SLUICE_LATE_LO f) 1 ⟨rfl, rfl⟩ ⟨rfl, rfl⟩
    (by simp only [Reg.FP_SLUICE_LATE_HI, Reg.FP_SLUICE_LATE_LO]; omega)
  rw [e]
  refine ⟨?_, getB_eq_true (getF_raise_same _ _ (by decide) (by decide))⟩
  unfold Counted at hc ⊢
  rw [← hs, ← hc]
  apply getHL_congr <;> apply regWord_raise_ne <;>
    simp only [Reg.FP_SLUICE_LATE_HI, Reg.FP_SLUICE_LATE_LO, Reg.FAB_EVENTS_SLUICE_LATE_SEEN] <;> omega

variable (ts plane : Int) (known : Bool)

theorem sluicePerf_within : Within [.regs, .jieth, .out] [.perf] s (perf (if 36 ≤ f then jiethSend s (f - 36) 2 x.len else s) 0x42 0x23 f 0 1) :=
  (perf_within _ _ _ _ _ _).after (.ite ((jiethSend_within _ _ _ _).mono (by decide) (by decide)) .refl) (by decide) (by decide)

theorem sluiceFollowed_within : Within [.regs, .ports, .jieth, .out] [.perf] s (sluiceFollowed s f x ts plane known) := by
  have w := (sluicePerf_within s f x).mono (l := [.regs, .ports, .jieth, .out]) (g := [.perf]) (by decide) (by decide)
  unfold sluiceFollowed
  exact .ite (.ite ((afterOwn_within _ _ _ _).after w (by decide) (by decide)) w) (.ite ((histOffer_within _ _ _ _).after w (by decide) (by decide)) w)

variable {x}

/-- After a forwarded frame the ports stand, and what has left has left. -/
theorem sluiceFollowed_forwarded (h : x.own = false) :
    (sluiceFollowed s f x ts plane known).ports = s.ports ∧ OutGrows s (sluiceFollowed s f x ts plane known) := by
  obtain ⟨u, hu⟩ : ∃ u, u = perf (if 36 ≤ f then jiethSend s (f - 36) 2 x.len else s) 0x42 0x23 f 0 1 := ⟨_, rfl⟩
  have hp : u.ports = s.ports := by rw [hu]; exact (sluicePerf_within s f x).parts .ports (by decide)
  have hg : OutGrows s u := by
    rw [hu]
    exact (perf_grows _ _ _ _ _ _).after (.ite ((jiethSend_within _ _ _ _).outGrows (by decide)) .refl)
  unfold sluiceFollowed
  simp only [h, ← hu]
  have ho (n v : Nat) (p : Nat → Bool) : (histOffer u n p v).ports = s.ports ∧ OutGrows s (histOffer u n p v) :=
    ⟨Eq.trans ((histOffer_within _ _ _ _).parts .ports (by decide)) hp, ((histOffer_within _ _ _ _).outGrows (by decide)).after hg⟩
  rw [if_neg (by decide)]
  split
  · exact ho _ _ _
  · exact ⟨hp, hg⟩

/-- A forwarded frame is out with its correction. -/
theorem sluiceOut_out (h : x.own = false) :
    ∃ icv, .sluice f x.src x.len (txStamp s f c).toNat (sluiceCorr s f x c) none icv ∈ (sluiceOut s f x c).out := by
  have hs : sluiceStamp s f x c = none := if_neg (by simp [h])
  have hh : x.host = false := by unfold SFrame.host; rw [h]; rfl
  unfold sluiceOut
  dsimp only
  rw [hh, hs]
  exact ⟨_, List.mem_append_right _ (List.mem_singleton.mpr rfl)⟩

/-- The correction of a frame that a follow-up is to follow is kept for that. -/
theorem sluiceOut_residue (h : x.own = false) (hd : defers s f x = true) :
    ∃ r, r ∈ (sluiceOut s f x c).ports.residues ∧ r.f = f ∧ r.amount = sluiceTotal s f x c ∧ r.source = x.hdr.source ∧ r.seq = x.hdr.seq := by
  have hh : x.host = false := by unfold SFrame.host; rw [h]; rfl
  have hk : (followKind x.hdr.kind).isSome = true := by unfold defers at hd; simp only [Bool.and_eq_true] at hd; exact hd.2
  obtain ⟨k, hk⟩ := Option.isSome_iff_exists.mp hk
  have e : (sluiceOut s f x c).ports = (addResidue s f x (sluiceTotal s f x c)).ports := by
    unfold sluiceOut
    dsimp only
    rw [hh, if_pos hd]
    rfl
  rw [e]
  unfold addResidue
  rw [hk]
  exact ⟨_, List.mem_append_right _ (List.mem_singleton.mpr rfl), rfl, rfl, rfl, rfl⟩

end steps

end Sys2Proof.Machine

end

section
/-! PROOFS. SLUICE_RELEASE (R24, R98, R104, R195, R197, R340). -/

namespace Sys2Proof.Machine

/-- What ends a departure: an unresolved timestamp that no packet waits for is recorded, the packet of the frame completes. -/
def sluiceEnds (u : State) (f : Nat) (x : SFrame) (c : EgressCap) : State :=
  finishTx (if c.resolved || decide (36 ≤ f) || x.origin.isSome then u else raise u (Reg.PORT_TT_EVENTS_TS_UNRESOLVED f)) f x.origin c

theorem sluiceEnds_within (u : State) (f : Nat) (x : SFrame) (c : EgressCap) :
    Within [.regs, .jieth, .cmd, .aud, .out] [.port, .perf, .aud, .cmd] u (sluiceEnds u f x c) := by
  have hp := portBase_range f
  refine (finishTx_within _ _ _ _).after (.ite .refl (raise_in .refl (by decide) (by decide) ⟨.port, by decide, ?_⟩)) (by decide) (by decide)
  simp only [Area.has, Reg.PORT_TT_EVENTS_TS_UNRESOLVED]; omega

theorem sluiceEnds_grows (u : State) (f : Nat) (x : SFrame) (c : EgressCap) : OutGrows u (sluiceEnds u f x c) :=
  (finishTx_grows _ _ _ _).after (.ite .refl (raise_grows _ _))

/-- A departure: the egress cleared, the frame sent, the packet completed. -/
def sluiceLeaves (u : State) (f : Nat) (x : SFrame) (c : EgressCap) (late : Bool) : State :=
  sluiceEnds (sluiceSend (clearEgress u f).1 f x c late) f x c

theorem sluiceSend_frames (s : State) (f : Nat) (x : SFrame) (c : EgressCap) (late : Bool) : FramesKept s (sluiceSend s f x c late) := by
  rw [sluiceSend_eq]
  apply (updEg_frames _ _ _).after
  apply FramesKept.of_fab
  refine Eq.trans ((sluiceFollowed_within _ _ _ _ _ _).parts .fab (by decide)) ?_
  refine Eq.trans ((sluiceCounted_within _ _ _ _).parts .fab (by decide)) ?_
  exact (sluiceOut_within _ _ _ _).parts .fab (by decide)

section leaves
variable (u : State) (f : Nat) (x : SFrame) (c : EgressCap) (late : Bool)

/-- What comes after the count of a departure. -/
theorem sluiceLeaves_after : ∃ t, SluiceCounts u t ∧
    Within [.regs, .ports, .jieth, .fab, .cmd, .aud, .out] [.port, .perf, .aud, .cmd] (sluiceCounted t f x.len late) (sluiceLeaves u f x c late) := by
  refine ⟨sluiceOut (clearEgress u f).1 f x c, ((sluiceOut_within _ _ _ _).sluiceCounts (by decide)).after (clearEgress_keeps u f).2, ?_⟩
  unfold sluiceLeaves
  rw [sluiceSend_eq]
  refine (sluiceEnds_within _ _ _ _).after ?_ (by decide) (by decide)
  refine (updEg_within _ _ _).after ?_ (by decide) (by decide)
  exact (sluiceFollowed_within _ _ _ _ _ _).mono (by decide) (by decide)

theorem sluiceLeaves_tx : Counted (Reg.FP_SLUICE_TX_HI f) (Reg.FP_SLUICE_TX_LO f) 1 u (sluiceLeaves u f x c late) := by
  obtain ⟨t, ht, w⟩ := sluiceLeaves_after u f x c late
  obtain ⟨h1, h2, -⟩ := sluiceWords f
  exact ht.counted (sluiceCounted_tx t f x.len late) (w.sluiceCounts (by decide)) h1 h2

theorem sluiceLeaves_late : Counted (Reg.FP_SLUICE_LATE_HI f) (Reg.FP_SLUICE_LATE_LO f) 1 u (sluiceLeaves u f x c true) ∧
    getB (sluiceLeaves u f x c true) Reg.FAB_EVENTS_SLUICE_LATE_SEEN = true := by
  obtain ⟨t, ht, w⟩ := sluiceLeaves_after u f x c true
  obtain ⟨-, -, h1, h2, -⟩ := sluiceWords f
  obtain ⟨hc, he⟩ := sluiceCounted_late t f x.len
  exact ⟨ht.counted hc (w.sluiceCounts (by decide)) h1 h2, (w.getB_eq (by simp [Area.has, Reg.FAB_EVENTS_SLUICE_LATE_SEEN])).trans he⟩

theorem sluiceLeaves_frames : FramesKept u (sluiceLeaves u f x c late) :=
  (FramesKept.of_fab ((sluiceEnds_within _ _ _ _).parts .fab (by decide))).after ((sluiceSend_frames _ _ _ _ _).after (clearEgress_keeps u f).1)

theorem sluiceCounted_grows (s : State) (len : Nat) : OutGrows s (sluiceCounted s f len late) := by
  have h : OutGrows s (incHL (countTx s f len) (Reg.FP_SLUICE_TX_HI f) (Reg.FP_SLUICE_TX_LO f) 1) :=
    (OutGrows.same (incHL_out _ _ _ _)).after ((countTx_within s f len).outGrows (by decide))
  unfold sluiceCounted
  dsimp only
  split
  · exact (raise_grows _ _).after ((OutGrows.same (incHL_out _ _ _ _)).after h)
  · exact h

theorem sluiceTakes_freeAt (e : EgS) : (sluiceTakes u f x e).freeAt = nowPs u + bytesPs u f (if 36 ≤ f then x.len else x.len + 12) := rfl

theorem egS_updEg_same (g : EgS → EgS) : egS (updEg u f g) f = g (egS u f) := listUpd_getD_same _ _ _ _

theorem egS_congr {s t : State} (h : t.fab = s.fab) : egS t f = egS s f := by unfold egS; rw [h]

variable {u f x}

/-- A departure through a free egress, in its steps. -/
theorem sluiceLeaves_free (hf : (egS u f).freeAt ≤ preamblePs u f) : ∃ t v, t = sluiceCounted (sluiceOut u f x c) f x.len late ∧
    v = sluiceFollowed t f x (txStamp u f c) (txStamp u f c + planeDelay u f 0) (c.resolved || decide (36 ≤ f)) ∧
    sluiceLeaves u f x c late = sluiceEnds (updEg v f (sluiceTakes u f x)) f x c := by
  refine ⟨_, _, rfl, rfl, ?_⟩
  unfold sluiceLeaves
  rw [clearEgress_free hf, sluiceSend_eq]

/-- A forwarded frame through a free egress leaves at once. -/
theorem sluiceLeaves_forwarded (hf : (egS u f).freeAt ≤ preamblePs u f) (h : x.own = false) :
    (sluiceLeaves u f x c late).now = u.now ∧
    (egS (sluiceLeaves u f x c late) f).freeAt = nowPs u + bytesPs u f (if 36 ≤ f then x.len else x.len + 12) ∧
    (∃ icv, .sluice f x.src x.len (txStamp u f c).toNat (sluiceCorr u f x c) none icv ∈ (sluiceLeaves u f x c late).out) ∧
    (defers u f x = true → ∃ r, r ∈ (sluiceLeaves u f x c late).ports.residues ∧ r.f = f ∧ r.amount = sluiceTotal u f x c ∧
      r.source = x.hdr.source ∧ r.seq = x.hdr.seq) := by
  obtain ⟨t, v, ht, hv, e⟩ := sluiceLeaves_free c late hf (x := x)
  have wt : Within [.regs, .out] [.fab, .fport] (sluiceOut u f x c) t := by rw [ht]; exact sluiceCounted_within _ _ _ _
  have gt : OutGrows (sluiceOut u f x c) t := by rw [ht]; exact sluiceCounted_grows _ _ _ _
  have wv : Within [.regs, .ports, .jieth, .out] [.perf] t v := by rw [hv]; exact sluiceFollowed_within _ _ _ _ _ _
  obtain ⟨hp, hg⟩ : v.ports = t.ports ∧ OutGrows t v := by rw [hv]; exact sluiceFollowed_forwarded _ _ _ _ _ h
  obtain ⟨w, hw⟩ : ∃ w, w = updEg v f (sluiceTakes u f x) := ⟨_, rfl⟩
  have we := sluiceEnds_within w f x c
  have wn : w.now = v.now := by rw [hw]; rfl
  have wp : w.ports = v.ports := by rw [hw]; rfl
  have wo : OutGrows v w := by rw [hw]; exact .same rfl
  rw [e, ← hw]
  refine ⟨?_, ?_, ?_, fun hd => ?_⟩
  · refine Eq.trans (we.parts .now (by decide)) (wn.trans ?_)
    refine Eq.trans (wv.parts .now (by decide)) (Eq.trans (wt.parts .now (by decide)) ?_)
    exact (sluiceOut_within _ _ _ _).parts .now (by decide)
  · rw [egS_congr f (we.parts .fab (by decide)), hw, egS_updEg_same, sluiceTakes_freeAt]
  · obtain ⟨icv, m⟩ := sluiceOut_out u f c h
    exact ⟨icv, (sluiceEnds_grows _ _ _ _).mem ((wo.after (hg.after gt)).mem m)⟩
  · obtain ⟨r, m, hr⟩ := sluiceOut_residue u f c h hd
    have ep : (sluiceEnds w f x c).ports = (sluiceOut u f x c).ports :=
      Eq.trans (we.parts .ports (by decide)) (wp.trans (hp.trans (wt.parts .ports (by decide))))
    exact ⟨r, ep ▸ m, hr⟩

end leaves

/-! ### The command -/

/-- The frame is out of its buffer, and no other has moved. -/
def SluiceTaken (x : SFrame) (s t : State) : Prop :=
  TimeFrame [.ports, .jieth, .fab, .cmd, .aud] [.port, .fab, .fport, .sec, .aud, .cmd] s t ∧ t.fab.sluice = s.fab.sluice.erase x ∧ t.fab.frames = s.fab.frames

section release
variable {f : Nat} {c : EgressCap} {s : State} {x : SFrame}

theorem execSluiceRelease_eq (hf : f < 42) (hp : powered s .fab = true) (ht : txOn s = true) : exec (.sluiceRelease f c) s =
    match sluiceFirst s f with
    | none => ok s
    | some x =>
      if !x.own && !forwards s then ok s
      else if inGap (released s x) f then ok (finishId (countSluiceDrop (released s x) f) x.origin .timeout [])
      else if authMissing (released s x) f then ok (finishId (raise (released s x) Reg.SEC_EVENTS_AUTH_KEY_MISSING) x.origin .denied [])
      else ok (sluiceLeaves (released s x) f x c ((decide (x.release + 104858 ≤ todVis s) && !x.own) || (clearEgress (released s x) f).2)) :=
  (if_neg (by omega)).trans (if_neg (by simp [hp, ht]))

theorem sluiceRelease_idle (hf : f < 42) (hp : powered s .fab = true) (ht : txOn s = true) (hx : sluiceFirst s f = none) :
    Completes (exec (.sluiceRelease f c) s) fun t => t = s := by
  rw [execSluiceRelease_eq hf hp ht, hx]
  exact ⟨s, rfl, rfl⟩

theorem sluiceRelease_stays (hf : f < 42) (hp : powered s .fab = true) (ht : txOn s = true) (hx : sluiceFirst s f = some x) (ho : x.own = false)
    (hw : forwards s = false) : Completes (exec (.sluiceRelease f c) s) fun t => t = s := by
  rw [execSluiceRelease_eq hf hp ht, hx]
  exact ⟨s, if_pos (by simp [ho, hw]), rfl⟩

/-- What leaves the frames of the state in which a frame was taken leaves those of the state before. -/
theorem SluiceTaken.of_frames {t : State} (h : exec (.sluiceRelease f c) s = ok t) (k : FramesKept (released s x) t) : SluiceTaken x s t := by
  have w := execSluiceRelease_within f c s
  rw [show execSluiceRelease f c s = _ from h, outcomeOr_ok] at w
  obtain ⟨h1, h2⟩ := k
  rw [released_fab] at h1 h2
  exact ⟨(w.mono (by decide) (by decide)).frame, h1, h2⟩

section taken
variable (hf : f < 42) (hp : powered s .fab = true) (ht : txOn s = true) (hx : sluiceFirst s f = some x) (hm : x.own = true ∨ forwards s = true)
include hf hp ht hx hm

/-- A frame that may leave the mode is taken at its release. -/
theorem sluiceRelease_taken : exec (.sluiceRelease f c) s =
    if inGap (released s x) f then ok (finishId (countSluiceDrop (released s x) f) x.origin .timeout [])
    else if authMissing (released s x) f then ok (finishId (raise (released s x) Reg.SEC_EVENTS_AUTH_KEY_MISSING) x.origin .denied [])
    else ok (sluiceLeaves (released s x) f x c ((decide (x.release + 104858 ≤ todVis s) && !x.own) || (clearEgress (released s x) f).2)) := by
  rw [execSluiceRelease_eq hf hp ht, hx]
  refine if_neg ?_
  obtain h | h := hm <;> simp [h]

theorem sluiceRelease_gap (hg : inGap (released s x) f = true) :
    Completes (exec (.sluiceRelease f c) s) fun t =>
      SluiceTaken x s t ∧ Counted (Reg.FP_SLUICE_DROP_HI f) (Reg.FP_SLUICE_DROP_LO f) 1 s t := by
  have run := sluiceRelease_taken (c := c) hf hp ht hx hm
  rw [if_pos hg] at run
  obtain ⟨-, -, -, -, h1, h2⟩ := sluiceWords f
  have hk : FramesKept (released s x) (finishId (countSluiceDrop (released s x) f) x.origin .timeout []) :=
    .of_fab (Eq.trans ((finishId_within _ _ _ _).parts .fab (by decide)) ((countSluiceDrop_within _ _).parts .fab (by decide)))
  refine ⟨_, run, .of_frames run hk, ?_⟩
  apply ((released_within s x).sluiceCounts (by decide)).counted (incHL_counted _ 1 ⟨rfl, rfl⟩ ⟨rfl, rfl⟩ _) _ h1 h2
  · simp only [Reg.FP_SLUICE_DROP_HI, Reg.FP_SLUICE_DROP_LO]; omega
  · exact ((finishId_within _ _ _ _).sluiceCounts (by decide)).after ((perfDrop_within _ _ _).sluiceCounts (by decide))

theorem sluiceRelease_keyless (hg : inGap (released s x) f = false) (ha : authMissing s f = true) :
    Completes (exec (.sluiceRelease f c) s) fun t =>
      SluiceTaken x s t ∧ getB t Reg.SEC_EVENTS_AUTH_KEY_MISSING = true ∧
      ∀ p src len ts corr st icv, .sluice p src len ts corr st icv ∈ t.out → .sluice p src len ts corr st icv ∈ s.out := by
  have run := sluiceRelease_taken (c := c) hf hp ht hx hm
  rw [if_neg (by simp [hg]), if_pos ((released_authMissing s x f).trans ha)] at run
  have w := finishId_within (raise (released s x) Reg.SEC_EVENTS_AUTH_KEY_MISSING) x.origin .denied []
  have hk : FramesKept (released s x) (finishId (raise (released s x) Reg.SEC_EVENTS_AUTH_KEY_MISSING) x.origin .denied []) :=
    .of_fab (Eq.trans (w.parts .fab (by decide)) (raise_fab _ _))
  refine ⟨_, run, .of_frames run hk, ?_, fun p src len ts corr st icv m => ?_⟩
  · rw [w.getB_eq (by simp [Area.has, Reg.SEC_EVENTS_AUTH_KEY_MISSING])]
    exact getB_eq_true (getF_raise_same _ _ (by decide) (by decide))
  · exact ((finishId_grows _ _ _ _).after ((raise_grows _ _).after (released_grows s x))).sluice_mem rfl m

/-- A frame that nothing holds back leaves. -/
theorem sluiceRelease_leaves (hg : inGap (released s x) f = false) (ha : authMissing s f = false) : exec (.sluiceRelease f c) s =
    ok (sluiceLeaves (released s x) f x c ((decide (x.release + 104858 ≤ todVis s) && !x.own) || (clearEgress (released s x) f).2)) := by
  have run := sluiceRelease_taken (c := c) hf hp ht hx hm
  rw [if_neg (by simp [hg]), if_neg (by simp [released_authMissing, ha])] at run
  exact run

end taken

/-- The correction of a forwarded frame, told by the state before (R98). -/
theorem released_sluiceTotal (h : x.own = false) : sluiceTotal (released s x) f x c =
    x.add + residence x (txStamp (runTo s (x.release * 2 ^ 40)) f c) (c.resolved || decide (36 ≤ f)) - egressAsym s f x := by
  unfold sluiceTotal
  rw [if_neg (by simp [h]), released_egressAsym]
  rfl

theorem sluiceRelease_sends (hf : f < 42) (hp : powered s .fab = true) (ht : txOn s = true) (hx : sluiceFirst s f = some x) :
    let s1 := runTo s (x.release * 2 ^ 40)
    let ts := txStamp s1 f c
    let total := x.add + residence x ts (c.resolved || decide (36 ≤ f)) - egressAsym s f x
    (x.own = true ∨ forwards s = true → inGap s1 f = false → authMissing s f = false →
      Completes (exec (.sluiceRelease f c) s) fun t =>
        SluiceTaken x s t ∧ Counted (Reg.FP_SLUICE_TX_HI f) (Reg.FP_SLUICE_TX_LO f) 1 s t ∧
        (x.own = false → x.release + 104858 ≤ todVis s →
          Counted (Reg.FP_SLUICE_LATE_HI f) (Reg.FP_SLUICE_LATE_LO f) 1 s t ∧ getB t Reg.FAB_EVENTS_SLUICE_LATE_SEEN = true) ∧
        ((egS s f).freeAt ≤ preamblePs s1 f → x.own = false →
          t.now = s1.now ∧ (egS t f).freeAt = nowPs s1 + bytesPs s f (if 36 ≤ f then x.len else x.len + 12) ∧
          (defers s f x = false → ∃ icv, .sluice f x.src x.len ts.toNat (x.hdr.corr + total) none icv ∈ t.out) ∧
          (defers s f x = true →
            (∃ icv, .sluice f x.src x.len ts.toNat x.hdr.corr none icv ∈ t.out) ∧
            ∃ r, r ∈ t.ports.residues ∧ r.f = f ∧ r.amount = total ∧ r.source = x.hdr.source ∧ r.seq = x.hdr.seq))) := by
  intro s1 ts total hm hg ha
  have run := sluiceRelease_leaves (c := c) hf hp ht hx hm hg ha
  obtain ⟨late, hl⟩ : ∃ l, l = ((decide (x.release + 104858 ≤ todVis s) && !x.own) || (clearEgress (released s x) f).2) := ⟨_, rfl⟩
  rw [← hl] at run
  have k := (released_within s x).sluiceCounts (by decide)
  obtain ⟨h1, h2, h3, h4, -⟩ := sluiceWords f
  refine ⟨_, run, .of_frames run (sluiceLeaves_frames _ _ _ _ _), k.counted (sluiceLeaves_tx _ _ _ _ _) (.refl _) h1 h2, fun ho hr => ?_, fun hfree ho => ?_⟩
  · have e : late = true := by rw [hl]; simp [ho, hr]
    obtain ⟨hc, he⟩ := sluiceLeaves_late (released s x) f x c
    rw [e]
    exact ⟨k.counted hc (.refl _) h3 h4, he⟩
  · rw [← released_egS s x] at hfree
    obtain ⟨hn, ha, ⟨icv, hi⟩, hr⟩ := sluiceLeaves_forwarded c late hfree ho
    have total_eq : sluiceTotal (released s x) f x c = total := released_sluiceTotal ho
    unfold sluiceCorr at hi
    rw [released_defers, total_eq] at hi hr
    rw [released_bytesPs] at ha
    refine ⟨hn, ha, fun hd => ?_, fun hd => ⟨?_, hr hd⟩⟩
    · rw [hd] at hi; exact ⟨icv, hi⟩
    · rw [hd] at hi; exact ⟨icv, hi⟩

end release

/-- Settles O48: gate lists and the releases of the Sluice lane. -/
theorem gatesAndSluice : Obligations.GatesAndSluice :=
  ⟨fun _ _ hf hp => ⟨fun _ => gateListTakeEffect_takes hf hp, gateListTakeEffect_idle hf hp, gateChange_moves hf hp, gateChange_idle hf hp⟩,
    fun _ _ _ hf hp ht => ⟨sluiceRelease_idle hf hp ht, fun _ hx => ⟨sluiceRelease_stays hf hp ht hx, sluiceRelease_gap hf hp ht hx,
      sluiceRelease_keyless hf hp ht hx, sluiceRelease_sends hf hp ht hx⟩⟩⟩

end Sys2Proof.Machine

end

section
/-! PROOFS. Loss of OSC_IN, the oven and the warm-up of the time base (R39, R41 to R44, R58, R232). -/

namespace Sys2Proof.Machine

/-- What an operation may touch, told of the state that it leaves. -/
theorem Within.ofRun {o : Host.Outcome State Fault Refusal} {l : List StatePart} {g : List Area} {s t : State}
    (w : Within l g s (outcomeOr s o)) (run : o = ok t) : Within l g s t := by
  rw [run] at w
  exact w

theorem outS_congr {s t : State} (h : t.tim = s.tim) (n : Nat) : outS t n = outS s n := by unfold outS; rw [h]

/-! ### OSC_LOS (R39, R58, R232) -/

theorem gated_set_keeps {s : State} {n : Nat} (m : Nat) (h : getB s (Reg.DLL_STAT_GATED n) = true) :
    getB (setF s (Reg.DLL_STAT_GATED m) 1) (Reg.DLL_STAT_GATED n) = true := by
  by_cases k : n % 20 = m % 20
  · rw [show Reg.DLL_STAT_GATED n = Reg.DLL_STAT_GATED m by simp [Reg.DLL_STAT_GATED, k]]
    exact getB_eq_true (getF_setF_same _ (Reg.DLL_STAT_GATED m) _ (by simp [Reg.DLL_STAT_GATED]))
  · exact (getB_eq_of_regWord (regWord_setF_ne _ _ _ (by simp only [Reg.DLL_STAT_GATED]; omega))).trans h

theorem gateAll_gated (s : State) {n : Nat} (h : n < 20) : getB (gateAll s) (Reg.DLL_STAT_GATED n) = true :=
  foldl_reaches (P := fun t => getB t (Reg.DLL_STAT_GATED n) = true) (f := fun t m => setF t (Reg.DLL_STAT_GATED m) 1) (x := n)
    (fun _ => getB_eq_true (getF_setF_same _ _ _ (by simp [Reg.DLL_STAT_GATED]))) (fun _ m => gated_set_keeps m) (List.mem_range.mpr h) s

/-- OSC_IN lost and the root out of lock, as OSC_LOS leaves them. -/
def oscLost (s : State) : State := setF (setF s Reg.CLK_ROOT_STATUS_OSC_LOS 1) Reg.CLK_ROOT_STATUS_ROOT_LOCK 0

theorem oscLost_los (s : State) : getF (oscLost s) Reg.CLK_ROOT_STATUS_OSC_LOS = 1 := by
  unfold oscLost
  rw [getF_setF_ne _ _ _ _ (by decide) (by decide), getF_setF_same _ _ _ (by decide)]
  rfl

theorem oscLost_lock (s : State) : getF (oscLost s) Reg.CLK_ROOT_STATUS_ROOT_LOCK = 0 := getF_setF_same _ _ _ (by decide)

theorem oscLos_gates {s : State} (h : s.clk.started = true) :
    Completes (exec .oscLos s) fun t =>
      Frame [.regs, .gauges, .out] [.clk, .dll] s t ∧ getB t Reg.CLK_ROOT_STATUS_OSC_LOS = true ∧ getB t Reg.CLK_ROOT_STATUS_ROOT_LOCK = false ∧
      getB t Reg.CLK_EVENTS_OSC_LOS_SEEN = true ∧ (∀ n, n < 20 → getB t (Reg.DLL_STAT_GATED n) = true) ∧ (∀ g ∈ t.gauges, g.hold = true) ∧
      (∀ n, outS t n = outS s n) := by
  obtain ⟨u, hu⟩ : ∃ u, u = raise (gateAll (oscLost s)) Reg.CLK_EVENTS_OSC_LOS_SEEN := ⟨_, rfl⟩
  have run : exec .oscLos s = ok { u with gauges := u.gauges.map (fun g => { g with hold := true }) } := by rw [hu]; exact if_neg (by simp [h])
  have w := (execOscLos_within s).ofRun run
  -- the event is in a register of its own; gating touches the DLLs' registers only
  have same {f : Fld} (hf : f.addr ≠ Reg.CLK_EVENTS_OSC_LOS_SEEN.addr) : getF u f = getF (gateAll (oscLost s)) f := by
    rw [hu]; exact getF_eq_of_regWord (regWord_raise_ne _ _ hf)
  have root {f : Fld} (hf : f.addr = 0x10004) : getF u f = getF (oscLost s) f :=
    (same (by rw [hf]; decide)).trans ((gateAll_within _).getF_eq (by simp [hf, Area.has]))
  refine ⟨_, run, w.frame, getB_eq_true ((root (f := Reg.CLK_ROOT_STATUS_OSC_LOS) rfl).trans (oscLost_los s)),
    getB_eq_false ((root (f := Reg.CLK_ROOT_STATUS_ROOT_LOCK) rfl).trans (oscLost_lock s)), ?_, fun n hn => ?_, ?_,
    outS_congr (w.parts .tim (by decide))⟩
  · refine getB_eq_true (Eq.trans ?_ (getF_raise_same (gateAll (oscLost s)) Reg.CLK_EVENTS_OSC_LOS_SEEN (by decide) (by decide)))
    rw [hu]; rfl
  · have g := gateAll_gated (oscLost s) hn
    unfold getB at g ⊢
    rw [← same (by simp only [Reg.DLL_STAT_GATED, Reg.CLK_EVENTS_OSC_LOS_SEEN]; omega)] at g
    exact g
  · simp

/-! ### OSC_LOS_TIMEOUT (R39) -/

theorem oscLosTimeout_faults {s : State} (ho : getB s Reg.CLK_ROOT_STATUS_OSC_LOS = true) (hl : getB s Reg.CLK_ROOT_STATUS_ROOT_LOCK = false)
    (hr : s.mode ≠ .reset) (hf : s.mode ≠ .fault) :
    Completes (exec .oscLosTimeout s) fun t => t.mode = .fault ∧ getF t Reg.SYS_FAULT_CAUSE_CODE = 2 ∧ FaultFrame s t :=
  ⟨_, if_pos ⟨ho, by simp [hl]⟩, enterFault_mode _ hr hf, enterFault_code _ hr hf, (enterFault_within _ _).frame⟩

theorem oscLosTimeout_locked {s : State} (hl : getB s Reg.CLK_ROOT_STATUS_ROOT_LOCK = true) : Completes (exec .oscLosTimeout s) fun t => t = s :=
  ⟨_, if_neg (by simp [hl]), rfl⟩

/-! ### The oven (R41, R43, R44) -/

theorem ovenOkChange_shows {s : State} {v : Bool} (hp : powered s .time = true) (hv : getB s Reg.CLK_ROOT_STATUS_OVEN_OK = !v) :
    Completes (exec (.ovenOkChange v) s) fun t =>
      Frame [.regs, .clk] [.clk] s t ∧ getB t Reg.CLK_ROOT_STATUS_OVEN_OK = v ∧ t.clk = { s.clk with ovenAt := some s.now } := by
  have run : exec (.ovenOkChange v) s = ok (setB { s with clk := { s.clk with ovenAt := some s.now } } Reg.CLK_ROOT_STATUS_OVEN_OK v) :=
    if_neg (by rw [hp, hv]; cases v <;> simp)
  exact ⟨_, run, ((execOvenOkChange_within v s).ofRun run).frame, getB_setB_same _ _ _ (by decide) (by decide), rfl⟩

theorem ovenLowTimeout_restarts {s : State} (hs : s.clk.started = true) (hu : s.straps.ovenUse = true) (ho : getB s Reg.CLK_ROOT_STATUS_OVEN_OK = false)
    (hh : ovenHeld s = true) :
    Completes (exec .ovenLowTimeout s) fun t =>
      Frame [.regs, .clk, .out] [.clk] s t ∧ getB t Reg.CLK_ROOT_STATUS_TB_WARM = false ∧ t.clk = { s.clk with warmAt := s.clk.ovenAt } ∧
      (getB s Reg.CLK_ROOT_STATUS_TB_WARM = true → getB t Reg.CLK_EVENTS_WARM_LOST = true) := by
  have run : exec .ovenLowTimeout s = ok (if getB s Reg.CLK_ROOT_STATUS_TB_WARM then
      raise (setF (warmRestart s) Reg.CLK_ROOT_STATUS_TB_WARM 0) Reg.CLK_EVENTS_WARM_LOST else warmRestart s) := if_pos ⟨hs, hu, by simp [ho], hh⟩
  have w := (execOvenLowTimeout_within s).ofRun run
  refine ⟨_, run, w.frame, ?_⟩
  by_cases hw : getB s Reg.CLK_ROOT_STATUS_TB_WARM = true
  · rw [if_pos hw]
    refine ⟨getB_eq_false ?_, by rw [raise_clk]; rfl, fun _ => getB_eq_true (getF_raise_same _ _ (by decide) (by decide))⟩
    rw [getF_raise_ne _ _ _ (by decide) (by decide)]
    exact getF_setF_same _ _ _ (by decide)
  · rw [if_neg hw]
    exact ⟨Bool.eq_false_iff.mpr hw, rfl, fun h => absurd h hw⟩

/-! ### The slope of the highest-ranked reference (R42) -/

theorem slopeWatch_same {s : State} (h : topQualified s = s.clk.slopeRef) : slopeWatch s = s := if_pos h

theorem slopeWatch_changed {s : State} (h : topQualified s ≠ s.clk.slopeRef) : slopeWatch s = slopeRestart s := if_neg h

theorem slopeWatch_ref (s : State) : (slopeWatch s).clk.slopeRef = topQualified s := by
  by_cases h : topQualified s = s.clk.slopeRef
  · rw [slopeWatch_same h, h]
  · rw [slopeWatch_changed h]; rfl

/-- A window of fewer than 600 samples passes no evaluation. -/
theorem slopeFlat_short {l : List Int} (h : l.length < 600) : slopeFlat l = false := by
  unfold slopeFlat
  rw [decide_eq_false (by omega), Bool.false_and]

/-- Evaluations passed in a row, once the window of `t` is evaluated. -/
def slopePassed (t : State) : Nat := if slopeFlat t.clk.slope && t.clk.slopeRef.isSome then t.clk.slopePass + 1 else 0

theorem slopePassed_flat {t : State} (hr : t.clk.slopeRef.isSome = true) (hf : slopeFlat t.clk.slope = true) :
    slopePassed t = t.clk.slopePass + 1 := if_pos (by rw [hf, hr]; rfl)

theorem slopePassed_none {t : State} (h : t.clk.slopeRef = none) : slopePassed t = 0 := if_neg (by simp [h])

theorem slopePassed_short {t : State} (h : t.clk.slope.length < 600) : slopePassed t = 0 := if_neg (by simp [slopeFlat_short h])

theorem slopeEvaluation_judges {s : State} (n : Nat) (d : Int) (hn : n = (slopeWatch s).clk.slope.length)
    (hd : d = slopeDrift (slopeWatch s).clk.slope) (h : s.clk.started = true) :
    Completes (exec (.slopeEvaluation n d) s) fun t =>
      Frame [.clk] [] s t ∧ t.clk.slopeRef = topQualified s ∧
      (topQualified s = s.clk.slopeRef → s.clk.slopeRef.isSome = true → slopeFlat s.clk.slope = true →
        t.clk.slopePass = s.clk.slopePass + 1 ∧ t.clk.slope = s.clk.slope) ∧
      ((topQualified s = none ∨ topQualified s ≠ s.clk.slopeRef ∨ s.clk.slope.length < 600) → t.clk.slopePass = 0) ∧
      (topQualified s ≠ s.clk.slopeRef → t.clk.slope = []) := by
  obtain ⟨u, hu⟩ : ∃ u, u = slopeWatch s := ⟨_, rfl⟩
  have run : exec (.slopeEvaluation n d) s = ok { u with clk := { u.clk with slopePass := slopePassed u } } := by
    rw [hu]; exact if_neg (by simp [h, hn, hd])
  refine ⟨_, run, ((execSlopeEvaluation_within n d s).ofRun run).frame, ?_⟩
  dsimp only
  rw [hu]
  refine ⟨slopeWatch_ref s, fun hr hi hf => ?_, fun hw => ?_, fun hc => ?_⟩
  · rw [slopeWatch_same hr]
    exact ⟨slopePassed_flat hi hf, rfl⟩
  · by_cases hc : topQualified s = s.clk.slopeRef
    · rw [slopeWatch_same hc]
      obtain hq | hq | hq := hw
      · exact slopePassed_none (hc ▸ hq)
      · exact absurd hc hq
      · exact slopePassed_short hq
    · rw [slopeWatch_changed hc]
      exact slopePassed_short (Nat.zero_lt_succ _)
  · rw [slopeWatch_changed hc]; rfl

theorem slopeEvaluation_ignores {s : State} (n : Nat) (d : Int)
    (h : n ≠ (slopeWatch s).clk.slope.length ∨ d ≠ slopeDrift (slopeWatch s).clk.slope) :
    Completes (exec (.slopeEvaluation n d) s) fun t => t = s := by
  refine ⟨s, if_pos ?_, rfl⟩
  obtain h | h := h <;> simp [h]

/-! ### TB_WARM (R41) -/

theorem warmTime_eq {s : State} {t0 : Nat} (x : Nat) (h : s.clk.warmAt = some t0) :
    warmTime s x = decide (getF s Reg.CLK_WARM_CFG_MIN_S ≤ x ∧ t0 + x * 625000000 ≤ s.now) := by
  unfold warmTime
  rw [h]
  exact (Bool.decide_and _ _).symm

theorem tbWarmRise_warms {s : State} (t0 x : Nat) (hs : s.clk.started = true)
    (ho : s.straps.ovenUse = true → getB s Reg.CLK_ROOT_STATUS_OVEN_OK = true ∧ ovenHeld s = true) (ht : s.clk.warmAt = some t0) :
    let time := getF s Reg.CLK_WARM_CFG_MIN_S ≤ x ∧ t0 + x * 625000000 ≤ s.now
    (3 ≤ s.clk.slopePass ∨ time) → getB s Reg.CLK_ROOT_STATUS_TB_WARM = false →
    Completes (exec (.tbWarmRise x) s) fun t =>
      Frame [.regs] [.clk] s t ∧ getB t Reg.CLK_ROOT_STATUS_TB_WARM = true ∧ getB t Reg.CLK_ROOT_STATUS_WARM_BY = decide (¬ time) := by
  intro time hw hb
  have et : warmTime s x = decide time := warmTime_eq x ht
  have oven : (!s.straps.ovenUse || (getB s Reg.CLK_ROOT_STATUS_OVEN_OK && ovenHeld s)) = true := by
    cases hu : s.straps.ovenUse
    · rfl
    · obtain ⟨h1, h2⟩ := ho hu
      rw [h1, h2]; rfl
  have run : exec (.tbWarmRise x) s =
      ok (setB (setF s Reg.CLK_ROOT_STATUS_TB_WARM 1) Reg.CLK_ROOT_STATUS_WARM_BY (decide (3 ≤ s.clk.slopePass) && !warmTime s x)) :=
    if_pos ⟨hs, oven, by simpa [et] using hw, by simp [hb]⟩
  -- without the time path it is the slope's
  have path : (decide (3 ≤ s.clk.slopePass) && !warmTime s x) = decide (¬ time) := by
    rw [et]
    by_cases h : time
    · simp [h]
    · simp [h, hw.resolve_right h]
  refine ⟨_, run, ((execTbWarmRise_within x s).ofRun run).frame, getB_eq_true ?_, ?_⟩
  · exact (getF_setF_ne _ _ _ _ (by decide) (by decide)).trans (getF_setF_same _ _ _ (by decide))
  · rw [path]; exact getB_setB_same _ _ _ (by decide) (by decide)

theorem tbWarmRise_cold {s : State} (x : Nat) (hu : s.straps.ovenUse = true)
    (h : getB s Reg.CLK_ROOT_STATUS_OVEN_OK = false ∨ ovenHeld s = false) : Completes (exec (.tbWarmRise x) s) fun t => t = s := by
  refine ⟨s, if_neg ?_, rfl⟩
  rintro ⟨-, oven, -⟩
  obtain h | h := h <;> simp [hu, h] at oven

/-- Settles O38: the loss of the oscillator, the oven and the warm-up of the time base. -/
theorem oscillatorAndWarmUp : Obligations.OscillatorAndWarmUp :=
  ⟨fun _ => ⟨oscLos_gates, oscLosTimeout_faults, oscLosTimeout_locked⟩,
    fun _ => ⟨fun _ => ovenOkChange_shows, ovenLowTimeout_restarts, slopeEvaluation_judges, slopeEvaluation_ignores, tbWarmRise_warms, tbWarmRise_cold⟩⟩

end Sys2Proof.Machine

end

section
/-! PROOFS. BAR0 writes that take effect (R319, R321, R327, R330): the register they reach, what precedes the store, the store itself. -/

namespace Sys2Proof.Machine

/-! ### The register that a write reaches -/

/-- Address `a` is that of the register at offset `o` of window `n` of group `g`: audited, of neither a masked nor a ONCE class, and not an
upper word of a wide value. -/
structure Lands (a : Nat) (g : Grp) (n o : Nat) : Prop where
  decodes : decodeAddr a = some (a / 65536, a % 65536)
  reaches : reached (a / 65536) (a % 65536) = some a
  located : locate (a / 65536) (a % 65536) = some (g, n, o)
  audited : auditedFields (fieldsAt a) = true
  unmasked : hasCls (fieldsAt a) .masked = false
  rewritable : hasCls (fieldsAt a) .once = false
  lower : isUpper a = false

theorem outCtrl_lands {n : Nat} (h : n < 14) : Lands (Reg.OUT_OUT_CTRL_ARM n).addr .outw n 0x0 := by
  interval_cases n <;> exact ⟨by decide, by decide, by decide, by decide, by decide, by decide, by decide⟩

theorem outPstepLo_lands {n : Nat} (h : n < 14) : Lands (Reg.OUT_OUT_PSTEP_LO n).addr .outw n 0x30 := by
  interval_cases n <;> exact ⟨by decide, by decide, by decide, by decide, by decide, by decide, by decide⟩

theorem dllCfg_lands {n : Nat} (h : n < 20) : Lands (Reg.DLL_CFG_RETURN n).addr .dll n 0x0 := by
  interval_cases n <;> exact ⟨by decide, by decide, by decide, by decide, by decide, by decide, by decide⟩

theorem pllCfg_lands (hbm : Bool) : Lands (pllFlds hbm).1.addr .clk 0 (if hbm then 0x44 else 0x40) := by
  cases hbm <;> exact ⟨by decide, by decide, by decide, by decide, by decide, by decide, by decide⟩

theorem nominalLo_lands : Lands Reg.CLK_NOMINAL_LO.addr .clk 0 0x24 := ⟨by decide, by decide, by decide, by decide, by decide, by decide, by decide⟩

theorem incLo_lands : Lands Reg.TIME_INC_LO.addr .time 0 0x14 := ⟨by decide, by decide, by decide, by decide, by decide, by decide, by decide⟩

/-! ### What precedes the store -/

theorem auditFull_congr {s t : State} (h : Within [.regs, .out] [.perf] s t) : auditFull t = auditFull s := by
  unfold auditFull
  rw [h.getF_eq (by simp [Area.has, Reg.AUD_CFG_POLICY]), show t.aud = s.aud from h.parts .aud (by decide)]

theorem powered_congr {s t : State} (h : t.domains = s.domains) (d : Domain) : powered t d = powered s d := by unfold powered; rw [h]

section write
variable {s : State} {a g n o : Nat} {grp : Grp}

/-- A write that is not dropped counts as a register write and goes to its register. -/
theorem busWrite_takes {d : Domain} (v : Word) (h : BarWrites d s) (l : Lands a grp n o) (hd : addrDomain a = d) :
    busWrite s true false 0x14 a 15 v = writeReg (perf s 0x21 0x14 a 0 1) false 0x14 a (issuedAddr a) v := by
  obtain ⟨-, hb, hf, hfull, hp⟩ := h
  have w := perf_within s 0x21 0x14 a 0 1
  have hm : (perf s 0x21 0x14 a 0 1).mode = s.mode := w.parts .mode (by decide)
  have hpow : powered (perf s 0x21 0x14 a 0 1) (addrDomain (a / 65536 * 65536 + a % 65536)) = true := by
    rw [Nat.div_add_mod' a 65536, hd, powered_congr (w.parts .domains (by decide)), hp]
  unfold busWrite
  rw [l.decodes]
  dsimp only
  rw [l.reaches, Option.getD_some, auditFull_congr w, hfull, hm, if_neg (by simp), if_neg (by simp [hb, hf, hpow])]
  exact if_pos l.audited

/-- The unlock is consumed by a write to a register with GUARD fields (R324, R325). -/
def unlockTaken (s : State) (a : Nat) : State := if hasCls (fieldsAt a) .guard then setF s Reg.SYS_UNLOCK_ARMED 0 else s

theorem unlockTaken_plain (h : hasCls (fieldsAt a) .guard = false) (s : State) : unlockTaken s a = s := if_neg (by simp [h])

/-- A write to a register that takes it: its entry is made, the value stored, and what the write starts happens. -/
theorem writeReg_takes (req iss : Nat) (v : Word) (l : Lands a grp n o) (hg : hasCls (fieldsAt a) .guard = true → getB s Reg.SYS_UNLOCK_ARMED = true) :
    ∃ u, Within [.regs, .aud, .out] [.aud] (unlockTaken s a) u ∧
      writeReg s false req a iss v = (writeEffect u (storeWrite u a true v) grp n o true v, .done) := by
  have bad : (hasCls (fieldsAt a) .guard && !getB s Reg.SYS_UNLOCK_ARMED || hasCls (fieldsAt a) .once && s.boardSet) = false := by
    rw [l.rewritable]
    cases hc : hasCls (fieldsAt a) .guard
    · rfl
    · rw [hg hc]; rfl
  refine ⟨auditWrite (unlockTaken s a) false false req a iss (readWord (unlockTaken s a) a) (readWord (storeWrite (unlockTaken s a) a true v) a),
    auditWrite_within _ _ _ _ _ _ _ _, ?_⟩
  unfold writeReg
  dsimp only
  rw [bad, l.unmasked, l.rewritable, l.lower, l.audited, l.located]
  rfl

/-- A BAR0 write that takes effect: from a state with its count and its entry, the value is stored and what the write starts happens. -/
theorem bar0Write_takes {d : Domain} (v : Word) (h : BarWrites d s) (l : Lands a grp n o) (hd : addrDomain a = d)
    (hg : hasCls (fieldsAt a) .guard = true → getB s Reg.SYS_UNLOCK_ARMED = true) :
    ∃ p u, Within [.regs, .out] [.perf] s p ∧ Within [.regs, .aud, .out] [.aud] (unlockTaken p a) u ∧
      bar0Write a 15 v s = ok (writeEffect u (storeWrite u a true v) grp n o true v) := by
  have w := perf_within s 0x21 0x14 a 0 1
  obtain ⟨u, hu, hr⟩ := writeReg_takes (s := perf s 0x21 0x14 a 0 1) 0x14 (issuedAddr a) v l
    fun c => (w.getB_eq (by simp [Area.has, Reg.SYS_UNLOCK_ARMED])).trans (hg c)
  refine ⟨_, u, w, hu, ?_⟩
  unfold bar0Write
  rw [if_pos h.1, busWrite_takes v h l hd, hr]

/-- The same for a register without GUARD fields. -/
theorem bar0Write_plain {d : Domain} (v : Word) (h : BarWrites d s) (l : Lands a grp n o) (hd : addrDomain a = d)
    (hg : hasCls (fieldsAt a) .guard = false) :
    ∃ u, Within [.regs, .aud, .out] [.perf, .aud] s u ∧ bar0Write a 15 v s = ok (writeEffect u (storeWrite u a true v) grp n o true v) := by
  obtain ⟨p, u, hp, hu, run⟩ := bar0Write_takes v h l hd (fun c => by rw [hg] at c; cases c)
  rw [unlockTaken_plain hg] at hu
  exact ⟨u, hu.after (hp.mono (by decide) (by decide)) (by decide) (by decide), run⟩

/-! ### The store -/

/-- The write of a value of one word. -/
theorem storeWrite_single (v : Word) (l : Lands a grp n o) (hu : upperAddrs a = []) :
    storeWrite s a true v = normWide (setWord s a (writtenWord (fieldsAt a) true (regWord s a) v)) grp n o := by
  unfold storeWrite
  dsimp only
  rw [l.lower, l.located, hu]
  simp

end write

/-! ### The words stored -/

/-- The fields of a register that a write lands on, of any group but the ports'. -/
theorem Lands.fields {a n o : Nat} {g : Grp} (l : Lands a g n o) (h : g ≠ .port) : fieldsAt a = (g.fields n).filter (fun f => f.off = o) := by
  unfold fieldsAt
  rw [l.located]
  cases g
  case port => exact absurd rfl h
  all_goals rfl

theorem outCtrl_written {n : Nat} (h : n < 14) (w v : Word) : writtenWord (fieldsAt (Reg.OUT_OUT_CTRL_ARM n).addr) true w v =
    insField (insField w 1 2 (fieldOf v 1 2)) 0 1 (fieldOf v 0 1) := by
  rw [(outCtrl_lands h).fields (by decide)]; rfl

theorem dllCfg_written {n : Nat} (h : n < 20) (w v : Word) : writtenWord (fieldsAt (Reg.DLL_CFG_RETURN n).addr) true w v =
    insField (insField w 16 11 (clampNat 8 1024 (fieldOf v 16 11))) 0 1 (fieldOf v 0 1) := by
  rw [(dllCfg_lands h).fields (by decide)]; rfl

theorem pllCfg_written (hbm : Bool) (w v : Word) : writtenWord (fieldsAt (pllFlds hbm).1.addr) true w v =
    insField (insField (insField w 4 3 (fieldOf v 4 3)) 2 2 (fieldOf v 2 2)) 0 2 (fieldOf v 0 2) := by
  rw [(pllCfg_lands hbm).fields (by decide)]; cases hbm <;> rfl

end Sys2Proof.Machine

end

section
/-! PROOFS. Writes of OUT_CTRL: ARM and EN (R68, R72). -/

namespace Sys2Proof.Machine

/-! ### What a miss, an enable and an ARM leave alone -/

/-- What a write of OUT_CTRL of output `n` leaves alone until it loads the schedule: staging, the time of day, the other outputs, and of the
registers of the outputs all but that OUT_CTRL. -/
structure OutKept (n : Nat) (s t : State) : Prop where
  staged : t.staged = s.staged
  tod : t.tim.tod = s.tim.tod
  outs : ∀ m, m ≠ n → outS t m = outS s m
  regs : ∀ a, Area.outw.has a → a ≠ (Reg.OUT_OUT_CTRL_ARM n).addr → regWord t a = regWord s a

section
variable {n : Nat} {s t u : State}

theorem OutKept.refl : OutKept n s s := ⟨rfl, rfl, fun _ _ => rfl, fun _ _ _ => rfl⟩

theorem OutKept.after (k : OutKept n t u) (h : OutKept n s t) : OutKept n s u where
  staged := k.staged.trans h.staged
  tod := k.tod.trans h.tod
  outs m hm := (k.outs m hm).trans (h.outs m hm)
  regs a ha hc := (k.regs a ha hc).trans (h.regs a ha hc)

theorem OutKept.ite {c : Prop} [Decidable c] (ht : OutKept n s t) (hu : OutKept n s u) : OutKept n s (if c then t else u) := by
  split
  · exact ht
  · exact hu

/-- What leaves staging, the outputs and their registers alone. -/
theorem Within.outKept {l : List StatePart} {g : List Area} (h : Within l g s t) (hs : StatePart.staged ∉ l) (ht : StatePart.tim ∉ l)
    (hg : ∀ x ∈ g, ∀ a, Area.outw.has a → ¬ x.has a) (n : Nat) : OutKept n s t where
  staged := h.parts .staged hs
  tod := congrArg Tim.tod (h.parts .tim ht)
  outs m _ := outS_congr (h.parts .tim ht) m
  regs a ha _ := h.regs a fun x hx => hg x hx a ha

theorem updOut_outKept (s : State) (n : Nat) (f : OutS → OutS) : OutKept n s (updOut s n f) :=
  ⟨rfl, rfl, fun _ hm => outS_updOut_ne _ _ hm, fun _ _ _ => rfl⟩

theorem setWord_outKept (s : State) (n : Nat) (v : Word) : OutKept n s (setWord s (Reg.OUT_OUT_CTRL_ARM n).addr v) :=
  ⟨rfl, rfl, fun _ _ => rfl, fun _ _ h => regWord_setWord_ne _ _ h⟩

theorem missed_outKept (s : State) (n : Nat) : OutKept n s (raise s Reg.TIME_EVENTS_TO_MISSED) where
  staged := raise_staged _ _
  tod := by rw [raise_tim]
  outs m _ := outS_congr (raise_tim _ _) m
  regs a ha _ := regWord_raise_ne _ _ (by simp only [Area.has, Reg.TIME_EVENTS_TO_MISSED] at ha ⊢; omega)

theorem outMiss_outKept (s : State) (n : Nat) : OutKept n s (outMiss s n) :=
  (missed_outKept _ n).after ((setWord_outKept _ n _).after ((setWord_outKept _ n _).after (updOut_outKept _ _ _)))

theorem outEnable_outKept (s : State) (n : Nat) : OutKept n s (outEnable s n) := by
  unfold outEnable
  exact .ite .refl (.ite (updOut_outKept _ _ _) (outMiss_outKept _ _))

theorem OutKept.schedF (h : OutKept n s t) {k lo w : Nat} (h1 : 0x20100 < k) (h2 : k < 0x20180) :
    schedF t ⟨k + 0x80 * (n % 14), lo, w⟩ = schedF s ⟨k + 0x80 * (n % 14), lo, w⟩ := by
  unfold Machine.schedF
  rw [h.staged, getF_eq_of_regWord (h.regs _ _ _)]
  · simp only [Area.has]; omega
  · simp only [Reg.OUT_OUT_CTRL_ARM]; omega

/-- The schedule staged for the output is that of the state before. -/
theorem OutKept.stagedTgt (h : OutKept n s t) : stagedTgt t n = stagedTgt s n := by
  unfold Machine.stagedTgt Reg.OUT_OUT_TGT_SEC_HI Reg.OUT_OUT_TGT_SEC_LO Reg.OUT_OUT_TGT_NS Reg.OUT_OUT_TGT_FRAC
  rw [h.schedF (by decide) (by decide), h.schedF (by decide) (by decide), h.schedF (by decide) (by decide), h.schedF (by decide) (by decide)]

theorem OutKept.stagedPer (h : OutKept n s t) : stagedPer t n = stagedPer s n := by
  unfold Machine.stagedPer Reg.OUT_OUT_PER_S Reg.OUT_OUT_PER_NS Reg.OUT_OUT_PER_FRAC
  rw [h.schedF (by decide) (by decide), h.schedF (by decide) (by decide), h.schedF (by decide) (by decide)]

theorem OutKept.todVis (h : OutKept n s t) : todVis t = todVis s := by unfold Machine.todVis; rw [h.tod]

end

/-! ### A miss -/

section miss
variable (s : State) (n : Nat)

theorem outMissed_apart : (Reg.OUT_OUT_CTRL_ARM n).addr ≠ Reg.TIME_EVENTS_TO_MISSED.addr := by
  simp only [Reg.OUT_OUT_CTRL_ARM, Reg.TIME_EVENTS_TO_MISSED]; omega

/-- A field of OUT_CTRL after a miss. -/
theorem outMiss_ctrl (lo w : Nat) : getF (outMiss s n) ⟨(Reg.OUT_OUT_CTRL_ARM n).addr, lo, w⟩ =
    getF (setF (setF s (Reg.OUT_OUT_CTRL_MISSED n) 1) (Reg.OUT_OUT_CTRL_ARM n) 0) ⟨(Reg.OUT_OUT_CTRL_ARM n).addr, lo, w⟩ :=
  getF_eq_of_regWord (regWord_raise_ne _ _ (outMissed_apart n))

theorem outMiss_missed : getB (outMiss s n) (Reg.OUT_OUT_CTRL_MISSED n) = true := by
  refine getB_eq_true ((outMiss_ctrl s n 9 1).trans ?_)
  rw [getF_setF_ne _ (Reg.OUT_OUT_CTRL_ARM n) _ _ (Nat.le_of_ble_eq_true rfl) (.inr (.inr (Nat.le_of_ble_eq_true rfl)))]
  exact getF_setF_same _ (Reg.OUT_OUT_CTRL_MISSED n) _ (Nat.le_of_ble_eq_true rfl)

/-- MODE and EN stand. -/
theorem outMiss_low {lo w : Nat} (h : lo + w ≤ 4) :
    getF (outMiss s n) ⟨(Reg.OUT_OUT_CTRL_ARM n).addr, lo, w⟩ = getF s ⟨(Reg.OUT_OUT_CTRL_ARM n).addr, lo, w⟩ := by
  rw [outMiss_ctrl, getF_setF_ne _ (Reg.OUT_OUT_CTRL_ARM n) _ _ (Nat.le_of_ble_eq_true rfl) (.inr (.inl h)),
    getF_setF_ne _ (Reg.OUT_OUT_CTRL_MISSED n) _ _ (Nat.le_of_ble_eq_true rfl) (.inr (.inl (h.trans (Nat.le_of_ble_eq_true rfl))))]

theorem outMiss_event : getB (outMiss s n) Reg.TIME_EVENTS_TO_MISSED = true := getB_eq_true (getF_raise_same _ _ (by decide) (by decide))

theorem outMiss_armed : (outS (outMiss s n) n).armed = false := by
  unfold outMiss
  rw [outS_congr (raise_tim _ _), outS_congr (setF_tim _ _ _), outS_congr (setF_tim _ _ _), outS_updOut_same]

theorem outEnable_low {lo w : Nat} (h : lo + w ≤ 4) :
    getF (outEnable s n) ⟨(Reg.OUT_OUT_CTRL_ARM n).addr, lo, w⟩ = getF s ⟨(Reg.OUT_OUT_CTRL_ARM n).addr, lo, w⟩ := by
  unfold outEnable
  dsimp only
  split
  · rfl
  · split
    · rfl
    · exact outMiss_low s n h

end miss

/-! ### ARM -/

/-- What ARM loads (R68, R72): the staged schedule, ARM set and MISSED clear. -/
structure Loaded (s : State) (n : Nat) (t : State) : Prop where
  tod : t.tim.tod = s.tim.tod
  outs : ∀ m, m ≠ n → outS t m = outS s m
  armed : (outS t n).armed = true
  periodic : (outS t n).periodic = decide (getF s (Reg.OUT_OUT_CTRL_MODE n) = 1)
  tgt : (outS t n).tgt = stagedTgt s n
  per : (outS t n).per = stagedPer s n
  arm : getB t (Reg.OUT_OUT_CTRL_ARM n) = true
  missed : getB t (Reg.OUT_OUT_CTRL_MISSED n) = false

/-- ARM loads the staged schedule; a ONCE target too near is missed. -/
theorem outArm_loads (s : State) (n : Nat) : ∃ t, Loaded s n t ∧ outArm s n =
    if (!decide (getF s (Reg.OUT_OUT_CTRL_MODE n) = 1)) = true ∧ cmpDiff (5 * (stagedTgt s n : Int)) (todVis s) < leadFifths then outMiss t n else t := by
  obtain ⟨u, hu⟩ : ∃ u, u = setF (setF (setF (takeSchedule s n) (Reg.OUT_OUT_CTRL_MISSED n) 0) (Reg.OUT_OUT_CTRL_LATE n) 0)
    (Reg.OUT_OUT_CTRL_ARM n) 1 := ⟨_, rfl⟩
  have ht : u.tim = s.tim := by rw [hu, setF_tim, setF_tim, setF_tim]; exact (takeSchedule_within s n).parts .tim (by decide)
  have ha : getF u (Reg.OUT_OUT_CTRL_ARM n) = 1 := by rw [hu]; exact getF_setF_same _ (Reg.OUT_OUT_CTRL_ARM n) _ (Nat.le_of_ble_eq_true rfl)
  have hm : getF u (Reg.OUT_OUT_CTRL_MISSED n) = 0 := by
    rw [hu, getF_setF_ne _ (Reg.OUT_OUT_CTRL_ARM n) (Reg.OUT_OUT_CTRL_MISSED n) _ (Nat.le_of_ble_eq_true rfl) (.inr (.inr (Nat.le_of_ble_eq_true rfl))),
      getF_setF_ne _ (Reg.OUT_OUT_CTRL_LATE n) (Reg.OUT_OUT_CTRL_MISSED n) _ (Nat.le_of_ble_eq_true rfl) (.inr (.inr (Nat.le_of_ble_eq_true rfl)))]
    exact getF_setF_same _ (Reg.OUT_OUT_CTRL_MISSED n) _ (Nat.le_of_ble_eq_true rfl)
  unfold outArm
  dsimp only
  rw [← hu]
  refine ⟨_, ?_, rfl⟩
  refine ⟨?_, fun m h => ?_, ?_, ?_, ?_, ?_, getB_eq_true ha, getB_eq_false hm⟩
  · show u.tim.tod = s.tim.tod
    rw [ht]
  · exact (outS_updOut_ne _ _ h).trans (outS_congr ht m)
  all_goals rw [outS_updOut_same]

/-! ### The write -/

/-- The state with MODE and EN as a write of OUT_CTRL stores them. -/
def ctrlStored (s : State) (n : Nat) (v : Word) : State :=
  setWord s (Reg.OUT_OUT_CTRL_ARM n).addr (insField (insField (regWord s (Reg.OUT_OUT_CTRL_ARM n).addr) 1 2 (fieldOf v 1 2)) 0 1 (fieldOf v 0 1))

theorem ctrlStored_mode (s : State) (n : Nat) (v : Word) : getF (ctrlStored s n v) (Reg.OUT_OUT_CTRL_MODE n) = fieldOf v 1 2 := by
  unfold getF ctrlStored
  rw [show (Reg.OUT_OUT_CTRL_MODE n).addr = (Reg.OUT_OUT_CTRL_ARM n).addr from rfl, regWord_setWord_same]
  exact (fieldOf_insField_disj _ _ _ _ 1 2 (by decide) (by decide)).trans ((fieldOf_insField_same _ _ _ _ (by decide)).trans (Nat.mod_mod _ _))

theorem ctrlStored_en (s : State) (n : Nat) (v : Word) : getF (ctrlStored s n v) (Reg.OUT_OUT_CTRL_EN n) = fieldOf v 0 1 := by
  unfold getF ctrlStored
  rw [show (Reg.OUT_OUT_CTRL_EN n).addr = (Reg.OUT_OUT_CTRL_ARM n).addr from rfl, regWord_setWord_same]
  exact (fieldOf_insField_same _ _ _ _ (by decide)).trans (Nat.mod_mod _ _)

theorem ctrlStored_within (s : State) (n : Nat) (v : Word) : Within [.regs] [.outw] s (ctrlStored s n v) :=
  setWord_within s _ _ ⟨.outw, by decide, by simp only [Area.has, Reg.OUT_OUT_CTRL_ARM]; omega⟩

/-- EN as a write of OUT_CTRL leaves it, and the output resumed where EN has risen. -/
def ctrlEnabled (s : State) (n : Nat) (v : Word) : State :=
  if !getB s (Reg.OUT_OUT_CTRL_EN n) && getB (ctrlStored s n v) (Reg.OUT_OUT_CTRL_EN n) then outEnable (ctrlStored s n v) n else ctrlStored s n v

theorem ctrlEnabled_within (s : State) (n : Nat) (v : Word) : Within [.regs, .tim, .out] [.time, .outw] s (ctrlEnabled s n v) :=
  have w := (ctrlStored_within s n v).mono (l := [.regs, .tim, .out]) (g := [.time, .outw]) (by decide) (by decide)
  .ite ((outEnable_within _ n).after w (by decide) (by decide)) w

theorem ctrlEnabled_outKept (s : State) (n : Nat) (v : Word) : OutKept n s (ctrlEnabled s n v) :=
  .ite ((outEnable_outKept _ n).after (setWord_outKept s n _)) (setWord_outKept s n _)

theorem ctrlEnabled_low (s : State) (n : Nat) (v : Word) {lo w : Nat} (h : lo + w ≤ 4) :
    getF (ctrlEnabled s n v) ⟨(Reg.OUT_OUT_CTRL_ARM n).addr, lo, w⟩ = getF (ctrlStored s n v) ⟨(Reg.OUT_OUT_CTRL_ARM n).addr, lo, w⟩ := by
  unfold ctrlEnabled
  split
  · exact outEnable_low _ n h
  · rfl

/-- A write of OUT_CTRL that takes effect. -/
theorem outCtrlWrite_runs {s : State} {n : Nat} (v : Word) (h : BarWrites .time s) (hn : n < 14) :
    ∃ u, Within [.regs, .aud, .out] [.perf, .aud] s u ∧ OutKept n s u ∧ bar0Write (Reg.OUT_OUT_CTRL_ARM n).addr 15 v s =
      ok (if fieldOf v 4 1 = 1 ∧ 6 ≤ n then outArm (ctrlEnabled u n v) n else ctrlEnabled u n v) := by
  have l := outCtrl_lands hn
  have facts : addrDomain (Reg.OUT_OUT_CTRL_ARM n).addr = .time ∧ hasCls (fieldsAt (Reg.OUT_OUT_CTRL_ARM n).addr) .guard = false ∧
      upperAddrs (Reg.OUT_OUT_CTRL_ARM n).addr = [] := by interval_cases n <;> decide
  obtain ⟨hd, hg, hu⟩ := facts
  obtain ⟨u, w, run⟩ := bar0Write_plain v h l hd hg
  rw [storeWrite_single v l hu, outCtrl_written hn] at run
  refine ⟨u, w, w.outKept (by decide) (by decide) ?_ n, run⟩
  intro x hx a ha
  obtain rfl | rfl : x = .perf ∨ x = .aud := by simpa using hx
  all_goals simp only [Area.has] at ha ⊢; omega

section arm
variable {n : Nat} {s : State} (v : Word) (h : BarWrites .time s) (h6 : 6 ≤ n) (hn : n < 14) (ha : fieldOf v 4 1 = 1)
include h h6 hn ha

/-- An ARM that takes effect loads the staged schedule; a ONCE target less than 256 ns ahead is missed. -/
theorem armWrite_runs : ∃ e t, OutKept n s e ∧ getF e (Reg.OUT_OUT_CTRL_MODE n) = fieldOf v 1 2 ∧ Loaded e n t ∧
    exec (.armWrite n v) s = ok (if ¬ fieldOf v 1 2 = 1 ∧ cmpDiff (5 * (stagedTgt s n : Int)) (todVis s) < leadFifths then outMiss t n else t) ∧
    Within [.regs, .aud, .out, .staged, .tim] [.perf, .aud, .time, .outw] s
      (if ¬ fieldOf v 1 2 = 1 ∧ cmpDiff (5 * (stagedTgt s n : Int)) (todVis s) < leadFifths then outMiss t n else t) := by
  obtain ⟨u, w, k, run⟩ := outCtrlWrite_runs v h hn
  rw [if_pos ⟨ha, h6⟩] at run
  have ke := (ctrlEnabled_outKept u n v).after k
  have hm : getF (ctrlEnabled u n v) (Reg.OUT_OUT_CTRL_MODE n) = fieldOf v 1 2 := (ctrlEnabled_low u n v (by decide)).trans (ctrlStored_mode u n v)
  obtain ⟨t, lt, et⟩ := outArm_loads (ctrlEnabled u n v) n
  have we := (ctrlEnabled_within u n v).after (l := [.regs, .aud, .out, .staged, .tim]) (g := [.perf, .aud, .time, .outw])
    (w.mono (by decide) (by decide)) (by decide) (by decide)
  have wt := (outArm_within (ctrlEnabled u n v) n).after we (by decide) (by decide)
  rw [hm, ke.stagedTgt, ke.todVis] at et
  simp only [Bool.not_eq_true', decide_eq_false_iff_not] at et
  rw [et] at run wt
  exact ⟨_, t, ke, hm, lt, (if_neg (by omega)).trans run, wt⟩

theorem armWrite_arms (hp : fieldOf v 1 2 = 1 ∨ leadFifths ≤ cmpDiff (5 * (stagedTgt s n : Int)) (todVis s)) :
    Completes (exec (.armWrite n v) s) fun t =>
      (BarFrame [.staged, .tim] [.time, .outw] s t ∧ (∀ m, m ≠ n → outS t m = outS s m) ∧ t.tim.tod = s.tim.tod) ∧
      (outS t n).armed = true ∧ (outS t n).periodic = decide (fieldOf v 1 2 = 1) ∧ (outS t n).tgt = stagedTgt s n ∧
      (outS t n).per = stagedPer s n ∧ getB t (Reg.OUT_OUT_CTRL_ARM n) = true ∧ getB t (Reg.OUT_OUT_CTRL_MISSED n) = false := by
  obtain ⟨e, t, k, hm, l, run, w⟩ := armWrite_runs v h h6 hn ha
  rw [if_neg (by omega)] at run w
  exact ⟨t, run, ⟨w.frame, (l.outs · · |>.trans (k.outs _ ‹_›)), l.tod.trans k.tod⟩, l.armed, by rw [l.periodic, hm], l.tgt.trans k.stagedTgt,
    l.per.trans k.stagedPer, l.arm, l.missed⟩

theorem armWrite_misses (hp : ¬ fieldOf v 1 2 = 1) (hl : cmpDiff (5 * (stagedTgt s n : Int)) (todVis s) < leadFifths) :
    Completes (exec (.armWrite n v) s) fun t =>
      (BarFrame [.staged, .tim] [.time, .outw] s t ∧ (∀ m, m ≠ n → outS t m = outS s m) ∧ t.tim.tod = s.tim.tod) ∧
      (outS t n).armed = false ∧ getB t (Reg.OUT_OUT_CTRL_MISSED n) = true ∧ getB t Reg.TIME_EVENTS_TO_MISSED = true := by
  obtain ⟨e, t, k, hm, l, run, w⟩ := armWrite_runs v h h6 hn ha
  rw [if_pos ⟨hp, hl⟩] at run w
  have km := outMiss_outKept t n
  exact ⟨_, run, ⟨w.frame, fun m hm => (km.outs m hm).trans ((l.outs m hm).trans (k.outs m hm)), km.tod.trans (l.tod.trans k.tod)⟩,
    outMiss_armed t n, outMiss_missed t n, outMiss_event t n⟩

end arm

/-- EN alone (R72). -/
theorem outEnWrite_sets {n : Nat} {s : State} (v : Word) (h : BarWrites .time s) (hn : n < 14) (ha : fieldOf v 4 1 = 0) :
    Completes (exec (.outEnWrite n v) s) fun t =>
      BarFrame [.tim] [.time, .outw] s t ∧ ((∀ m, m ≠ n → outS t m = outS s m) ∧ t.tim.tod = s.tim.tod) ∧
      (getB t (Reg.OUT_OUT_CTRL_EN n) = decide (fieldOf v 0 1 = 1)) ∧ (fieldOf v 0 1 = 0 → outS t n = outS s n) := by
  obtain ⟨u, w, k, run⟩ := outCtrlWrite_runs v h hn
  rw [if_neg (by omega)] at run
  have ke := (ctrlEnabled_outKept u n v).after k
  have we := (ctrlEnabled_within u n v).after (l := [.regs, .aud, .out, .tim]) (g := [.perf, .aud, .time, .outw])
    (w.mono (by decide) (by decide)) (by decide) (by decide)
  refine ⟨_, (if_neg (by omega)).trans run, we.frame, ⟨ke.outs, ke.tod⟩, ?_, fun h0 => ?_⟩
  · unfold getB
    rw [show getF (ctrlEnabled u n v) (Reg.OUT_OUT_CTRL_EN n) = _ from ctrlEnabled_low u n v (by decide)]
    exact congrArg (fun x => decide (x = 1)) (ctrlStored_en u n v)
  · have off : getB (ctrlStored u n v) (Reg.OUT_OUT_CTRL_EN n) = false := getB_eq_false ((ctrlStored_en u n v).trans h0)
    unfold ctrlEnabled
    rw [if_neg (by simp [off])]
    exact (outS_congr rfl n).trans (outS_congr (w.parts .tim (by decide)) n)

end Sys2Proof.Machine

end

section
/-! PROOFS. Writes of APPLY and RETURN (R51, R53, R57). -/

namespace Sys2Proof.Machine

/-! ### APPLY (R51, R53) -/

section pll
variable (hbm : Bool) (s : State)

/-- The settings lie below the PLL's flags. -/
theorem stagedPll_setF {f : Fld} (x : Nat) (h : 7 ≤ f.lo) (h32 : f.lo + f.w ≤ 32) : stagedPll (setF s f x) hbm = stagedPll s hbm := by
  have same {g : Fld} (hg : g.lo + g.w ≤ 7) : getF (setF s f x) g = getF s g := getF_setF_ne _ _ _ _ h32 (.inr (.inl (hg.trans h)))
  unfold stagedPll
  rw [same (g := if hbm then Reg.CLK_HBM_PLL_DEPTH else Reg.CLK_FAB_PLL_DEPTH) (by cases hbm <;> decide),
    same (g := if hbm then Reg.CLK_HBM_PLL_FREQ else Reg.CLK_FAB_PLL_FREQ) (by cases hbm <;> decide),
    same (g := if hbm then Reg.CLK_HBM_PLL_SPREAD else Reg.CLK_FAB_PLL_SPREAD) (by cases hbm <;> decide)]

/-- The settings of a PLL in force. -/
def pllForce : Pll := if hbm then s.clk.hbm else s.clk.fab

/-- A relock under way runs with the settings staged. -/
theorem pllStart_relocks : pllForce hbm (pllStart s hbm) = stagedPll (pllStart s hbm) hbm ∧
    getB (pllStart s hbm) (pllFlds hbm).1 = getB s (pllFlds hbm).1 ∧ getB (pllStart s hbm) (pllFlds hbm).2.1 = true ∧
    getB (pllStart s hbm) (pllFlds hbm).2.2 = false := by
  obtain ⟨w1, w2, w3, l1, l2, l3⟩ := pllFlds_apart hbm
  obtain ⟨u, hu, hf, hr⟩ : ∃ u, pllStart s hbm = setF (setF u (pllFlds hbm).2.1 1) (pllFlds hbm).2.2 0 ∧ pllForce hbm u = stagedPll s hbm ∧
      u.regs = s.regs := by cases hbm <;> exact ⟨_, rfl, rfl, rfl⟩
  rw [hu]
  refine ⟨?_, ?_, getB_eq_true ?_, getB_eq_false ?_⟩
  · rw [stagedPll_setF _ _ _ (by omega) (by omega), stagedPll_setF _ _ _ (by omega) (by omega)]
    refine Eq.trans (Eq.trans (by cases hbm <;> rfl) hf) ?_
    unfold stagedPll
    simp only [getF_congr hr]
  · unfold getB
    rw [getF_setF_ne _ _ _ _ (by omega) (by omega), getF_setF_ne _ _ _ _ (by omega) (by omega), getF_congr hr]
  · rw [getF_setF_ne _ _ _ _ (by omega) (by omega), getF_setF_same _ _ _ (by omega), w2]
    rfl
  · rw [getF_setF_same _ _ _ (by omega)]
    exact Nat.zero_mod _

end pll

/-- The state with the settings of a PLL as a write stores them. -/
def pllStored (s : State) (hbm : Bool) (v : Word) : State :=
  setWord s (pllFlds hbm).1.addr
    (insField (insField (insField (regWord s (pllFlds hbm).1.addr) 4 3 (fieldOf v 4 3)) 2 2 (fieldOf v 2 2)) 0 2 (fieldOf v 0 2))

theorem pllStored_within (s : State) (hbm : Bool) (v : Word) : Within [.regs] [.clk] s (pllStored s hbm v) :=
  setWord_within s _ _ (hits_pll (by decide)).1

/-- The PLL's flags stand. -/
theorem pllStored_relocking (s : State) (hbm : Bool) (v : Word) : getF (pllStored s hbm v) (pllFlds hbm).2.1 = getF s (pllFlds hbm).2.1 := by
  obtain ⟨w1, w2, w3, l1, l2, l3⟩ := pllFlds_apart hbm
  have ha : (pllFlds hbm).2.1.addr = (pllFlds hbm).1.addr := by cases hbm <;> rfl
  unfold getF pllStored
  rw [ha, regWord_setWord_same, l2, fieldOf_insField_disj _ _ _ _ _ _ (by decide) (.inr (by decide)),
    fieldOf_insField_disj _ _ _ _ _ _ (by decide) (.inr (by decide)), fieldOf_insField_disj _ _ _ _ _ _ (by decide) (.inr (by decide))]

/-- A write of a PLL's register that takes effect. -/
theorem pllWrite_runs {s : State} (hbm : Bool) (v : Word) (h : BarWrites .time s) :
    ∃ u, Within [.regs, .aud, .out] [.perf, .aud] s u ∧
      exec (.applyWrite hbm v) s = ok (if fieldOf v 7 1 = 1 then pllApply (pllStored u hbm v) hbm else pllStored u hbm v) := by
  have facts : addrDomain (pllFlds hbm).1.addr = .time ∧ hasCls (fieldsAt (pllFlds hbm).1.addr) .guard = false ∧
      upperAddrs (pllFlds hbm).1.addr = [] := by cases hbm <;> decide
  obtain ⟨hd, hg, hu⟩ := facts
  obtain ⟨u, w, run⟩ := bar0Write_plain v h (pllCfg_lands hbm) hd hg
  rw [storeWrite_single v (pllCfg_lands hbm) hu, pllCfg_written] at run
  refine ⟨u, w, run.trans ?_⟩
  cases hbm <;> rfl

theorem applyWrite_relocks {s : State} {v : Word} (h : BarWrites .time s) (hbm : Bool) (ha : fieldOf v 7 1 = 1) :
    Completes (exec (.applyWrite hbm v) s) fun t =>
      BarFrame [.clk] [.clk] s t ∧ getB t (pllFlds hbm).1 = true ∧
      (if hbm then t.clk.hbm else t.clk.fab) = (if powered s (if hbm then .hbm else .fab) then stagedPll t hbm else if hbm then s.clk.hbm else s.clk.fab) ∧
      (powered s (if hbm then .hbm else .fab) = true → getB t (pllFlds hbm).2.1 = true ∧ getB t (pllFlds hbm).2.2 = false) := by
  obtain ⟨u, w, run⟩ := pllWrite_runs hbm v h
  rw [if_pos ha] at run
  obtain ⟨w1, w2, w3, l1, l2, l3⟩ := pllFlds_apart hbm
  obtain ⟨p, hp⟩ : ∃ p, p = setF (pllStored u hbm v) (pllFlds hbm).1 1 := ⟨_, rfl⟩
  have wu := (pllStored_within u hbm v).after (l := [.regs, .aud, .out, .clk]) (g := [.perf, .aud, .clk]) (w.mono (by decide) (by decide)) (by decide) (by decide)
  have wa := (pllApply_within (pllStored u hbm v) hbm).after wu (by decide) (by decide)
  have set : getB p (pllFlds hbm).1 = true := by
    rw [hp]; exact getB_eq_true ((getF_setF_same _ _ _ (by omega)).trans (by rw [w1]; rfl))
  have pow : powered p (if hbm then .hbm else .fab) = powered s (if hbm then .hbm else .fab) := by
    rw [hp]; exact powered_congr (wu.parts .domains (by decide)) _
  have clk : p.clk = s.clk := by rw [hp]; exact w.parts .clk (by decide)
  have apply : pllApply (pllStored u hbm v) hbm = if powered s (if hbm then .hbm else .fab) then pllStart p hbm else p := by
    rw [← pow, hp]; rfl
  refine ⟨_, run, wa.frame, ?_⟩
  rw [apply]
  obtain ⟨force, apply1, relocking, locked⟩ := pllStart_relocks hbm p
  by_cases c : powered s (if hbm then .hbm else .fab) = true
  · simp only [if_pos c]
    exact ⟨apply1.trans set, force, fun _ => ⟨relocking, locked⟩⟩
  · simp only [if_neg c]
    exact ⟨set, by rw [clk], fun k => absurd k c⟩

theorem applyWrite_stores {s : State} {v : Word} (h : BarWrites .time s) (hbm : Bool) (ha : fieldOf v 7 1 = 0) :
    Completes (exec (.applyWrite hbm v) s) fun t => BarFrame [] [.clk] s t ∧ getB t (pllFlds hbm).2.1 = getB s (pllFlds hbm).2.1 := by
  obtain ⟨u, w, run⟩ := pllWrite_runs hbm v h
  rw [if_neg (by omega)] at run
  refine ⟨_, run, ((pllStored_within u hbm v).after (w.mono (by decide) (by decide)) (by decide) (by decide)).frame, ?_⟩
  obtain ⟨-, h2, -⟩ := hits_pll (g := [.clk]) (b := hbm) (by decide)
  unfold getB
  rw [pllStored_relocking, w.getF_eq]
  obtain ⟨x, m, hx⟩ := h2
  obtain rfl := List.mem_singleton.mp m
  simp only [Area.has] at hx
  simp only [List.forall_mem_cons, Area.has, List.not_mem_nil, false_implies, implies_true, and_true]
  omega

/-! ### RETURN (R57) -/

/-- The state with DLL_CFG as a write stores it. -/
def dllStored (s : State) (n : Nat) (v : Word) : State :=
  setWord s (Reg.DLL_CFG_RETURN n).addr
    (insField (insField (regWord s (Reg.DLL_CFG_RETURN n).addr) 16 11 (clampNat 8 1024 (fieldOf v 16 11))) 0 1 (fieldOf v 0 1))

theorem dllStored_within (s : State) (n : Nat) (v : Word) : Within [.regs] [.dll] s (dllStored s n v) :=
  setWord_within s _ _ ⟨.dll, by decide, by simp only [Area.has, Reg.DLL_CFG_RETURN]; omega⟩

theorem dllStored_return (s : State) (n : Nat) (v : Word) : getF (dllStored s n v) (Reg.DLL_CFG_RETURN n) = getF s (Reg.DLL_CFG_RETURN n) := by
  unfold getF dllStored
  rw [regWord_setWord_same]
  exact (fieldOf_insField_disj _ _ _ _ 1 1 (by decide) (by decide)).trans (fieldOf_insField_disj _ _ _ _ 1 1 (by decide) (by decide))

/-- DLL_STAT is another register than DLL_CFG. -/
theorem dllStat_addr (n m : Nat) : (Reg.DLL_STAT_BYPASS n).addr ≠ (Reg.DLL_CFG_RETURN m).addr := by
  simp only [Reg.DLL_STAT_BYPASS, Reg.DLL_CFG_RETURN]; omega

theorem returnWrite_holds {s : State} {v : Word} (h : BarWrites .time s) (n : Nat) (hn : n < 20) (hr : fieldOf v 1 1 = 1) :
    Completes (exec (.returnWrite n v) s) fun t =>
      BarFrame [] [.dll] s t ∧ (getB t (Reg.DLL_CFG_RETURN n) = (getB s (Reg.DLL_STAT_BYPASS n) || getB s (Reg.DLL_CFG_RETURN n))) ∧
      getB t (Reg.DLL_STAT_BYPASS n) = getB s (Reg.DLL_STAT_BYPASS n) := by
  have facts : addrDomain (Reg.DLL_CFG_RETURN n).addr = .time ∧ hasCls (fieldsAt (Reg.DLL_CFG_RETURN n).addr) .guard = false ∧
      upperAddrs (Reg.DLL_CFG_RETURN n).addr = [] := by interval_cases n <;> decide
  obtain ⟨hd, hg, hu⟩ := facts
  obtain ⟨u, w, run⟩ := bar0Write_plain v h (dllCfg_lands hn) hd hg
  rw [storeWrite_single v (dllCfg_lands hn) hu, dllCfg_written hn] at run
  have run : exec (.returnWrite n v) s = ok (dllReturn (dllStored u n v) n) := (if_neg (by omega)).trans (run.trans (congrArg ok (if_pos hr)))
  have wt := (dllReturn_within (dllStored u n v) n).after ((dllStored_within u n v).after (l := [.regs, .aud, .out]) (g := [.perf, .aud, .dll])
    (w.mono (by decide) (by decide)) (by decide) (by decide)) (by decide) (by decide)
  have bypass : getB (dllStored u n v) (Reg.DLL_STAT_BYPASS n) = getB s (Reg.DLL_STAT_BYPASS n) :=
    (getB_eq_of_regWord (regWord_setWord_ne _ _ (dllStat_addr n n))).trans (w.getB_eq (by simp [Area.has, Reg.DLL_STAT_BYPASS]; omega))
  have held : getB (dllStored u n v) (Reg.DLL_CFG_RETURN n) = getB s (Reg.DLL_CFG_RETURN n) := by
    unfold getB
    rw [dllStored_return, w.getF_eq (by simp [Area.has, Reg.DLL_CFG_RETURN]; omega)]
  refine ⟨_, run, wt.frame, ?_⟩
  unfold dllReturn
  by_cases c : getB (dllStored u n v) (Reg.DLL_STAT_BYPASS n) = true
  · rw [if_pos c, ← bypass, c]
    exact ⟨getB_eq_true (getF_setF_same _ (Reg.DLL_CFG_RETURN n) _ (Nat.le_of_ble_eq_true rfl)),
      (getB_eq_of_regWord (regWord_setF_ne _ _ _ (dllStat_addr n n))).trans c⟩
  · rw [if_neg c, ← bypass, held, Bool.eq_false_iff.mpr c]
    exact ⟨rfl, rfl⟩

/-- Settles O31: ARM and EN, APPLY and RETURN. -/
theorem outputWrites : Obligations.OutputWrites :=
  ⟨fun _ v _ h => ⟨fun h6 hn ha hp => armWrite_arms v h h6 hn ha hp, fun h6 hn ha hp hl => armWrite_misses v h h6 hn ha hp hl, outEnWrite_sets v h⟩,
    fun _ _ h => ⟨applyWrite_relocks h, applyWrite_stores h, returnWrite_holds h⟩⟩

end Sys2Proof.Machine

end

section
/-! PROOFS. Measurements of calibration, and the items' values in force (R286 to R291). -/

namespace Sys2Proof.Machine

/-! ### The head of the run list (R287, R288) -/

section
variable (s : State)

theorem startHead_cal : (startHead s).cal = s.cal := (startHead_within s).parts .cal (by decide)

theorem headDone_cal : (headDone s).cal = { s.cal with run := s.cal.run.drop 1, tries := 0 } :=
  Eq.trans ((endCal_within _).parts .cal (by decide)) (startHead_cal _)

theorem headDone_calField {f : Fld} (h : Area.cal.has f.addr) : getF (headDone s) f = getF s f := by
  refine (headDone_within s).getF_eq ?_
  simp only [Area.has] at h
  simp only [List.forall_mem_cons, Area.has, List.not_mem_nil, false_implies, implies_true, and_true]
  omega

theorem acceptItem_cal (it : CalItem) (vs : List Word) :
    it ∈ (acceptItem s it vs).cal.pend ∧ (acceptItem s it vs).cal.force = s.cal.force ∧ (acceptItem s it vs).cal.run = s.cal.run :=
  ⟨List.mem_append_right _ (List.mem_singleton.mpr rfl), rfl, rfl⟩

/-- What an accepted item brings leaves what is pending and what is in force; PORT_DELAY puts BERM_REF behind the head. -/
theorem afterAccept_cal (r : CalReq) :
    (afterAccept s r).cal.pend = s.cal.pend ∧ (afterAccept s r).cal.force = s.cal.force ∧
    (∀ p q, r.item = .portDelay p q → (afterAccept s r).cal.run = s.cal.run.take 1 ++ [{ item := .bermRef p q }] ++ s.cal.run.drop 1) ∧
    ((∀ p q, r.item ≠ .portDelay p q) → (afterAccept s r).cal.run = s.cal.run) := by
  unfold afterAccept
  cases h : r.item with
  | portDelay p q => exact ⟨rfl, rfl, fun p' q' e => by cases e; rfl, fun e => absurd rfl (e p q)⟩
  | bermRef p q =>
    have e : (takeClass (updPort s p fun o => { o with bermPend := some (0, 0, getS s Reg.CAL_DIE_TEMP) }) p).cal = s.cal :=
      (takeClass_within _ p).parts .cal (by decide)
    dsimp only
    rw [e]
    exact ⟨rfl, rfl, nofun, fun _ => rfl⟩
  | jiethDelay n => exact ⟨rfl, rfl, nofun, fun _ => rfl⟩
  | dll n => exact ⟨rfl, rfl, nofun, fun _ => rfl⟩
  | vernier n => exact ⟨rfl, rfl, nofun, fun _ => rfl⟩
  | gaugeDelay n => exact ⟨rfl, rfl, nofun, fun _ => rfl⟩
  | gnssFe => exact ⟨rfl, rfl, nofun, fun _ => rfl⟩
  | tempco i j => exact ⟨rfl, rfl, nofun, fun _ => rfl⟩

end

/-! ### CAL_MEASUREMENT_DONE (R288) -/

section measured
variable {s : State} {r : CalReq} {rest : List CalReq} (r1 r2 : CalResult) (hr : s.cal.run = r :: rest) (hm : measurable s r.item = true)
include hr hm

/-- Two results of the head that disagree are an attempt that fails. -/
theorem execCalMeasurementDone_disagree (hs : solveItem s r r1 r2 = some none) :
    exec (.calMeasurementDone r1 r2) s = ok (headFail (raise s Reg.CAL_EVENTS_CAL_DISAGREE)) := by
  show execCalMeasurementDone r1 r2 s = _
  unfold execCalMeasurementDone
  rw [hr]
  dsimp only
  rw [if_neg (by simp [hm]), hs]

/-- Two results of the head that agree are accepted. -/
theorem execCalMeasurementDone_agree {vs : List Word} (hs : solveItem s r r1 r2 = some (some vs)) : exec (.calMeasurementDone r1 r2) s =
    ok (headDone (raise (afterAccept (acceptItem s r.item vs) r) Reg.CAL_EVENTS_ITEM_DONE)) := by
  show execCalMeasurementDone r1 r2 s = _
  unfold execCalMeasurementDone
  rw [hr]
  dsimp only
  rw [if_neg (by simp [hm]), hs]

theorem calMeasurementDone_accepts (vs : List Word) (hs : solveItem s r r1 r2 = some (some vs)) :
    Completes (exec (.calMeasurementDone r1 r2) s) fun t =>
      Frame [.regs, .mode, .clk, .tim, .sel, .ports, .cal, .out] [.ref, .port, .eng, .cal] s t ∧ r.item ∈ t.cal.pend ∧
      t.cal.force = s.cal.force ∧ getB t Reg.CAL_EVENTS_ITEM_DONE = true ∧
      (∀ p q, r.item = .portDelay p q → t.cal.run = { item := .bermRef p q } :: rest) ∧
      ((∀ p q, r.item ≠ .portDelay p q) → t.cal.run = rest) := by
  have run := execCalMeasurementDone_agree r1 r2 hr hm hs
  obtain ⟨u, hu⟩ : ∃ u, u = acceptItem s r.item vs := ⟨_, rfl⟩
  obtain ⟨pend, force, head⟩ := acceptItem_cal s r.item vs
  rw [← hu] at run pend force head
  obtain ⟨pend', force', berm, other⟩ := afterAccept_cal u r
  have cal : (headDone (raise (afterAccept u r) Reg.CAL_EVENTS_ITEM_DONE)).cal =
      { (afterAccept u r).cal with run := (afterAccept u r).cal.run.drop 1, tries := 0 } := by rw [headDone_cal, raise_cal]
  refine ⟨_, run, ((execCalMeasurementDone_within r1 r2 s).ofRun run).frame, ?_, ?_, ?_, fun p q e => ?_, fun e => ?_⟩
  · rw [cal, pend']; exact pend
  · rw [cal, force']; exact force
  · exact getB_eq_true ((headDone_calField _ (by simp [Area.has, Reg.CAL_EVENTS_ITEM_DONE])).trans (getF_raise_same _ _ (by decide) (by decide)))
  · rw [cal, berm p q e, head, hr]; rfl
  · rw [cal, other e, head, hr]; rfl

theorem calMeasurementDone_repeats (hs : solveItem s r r1 r2 = some none) (ht : s.cal.tries < 2) :
    Completes (exec (.calMeasurementDone r1 r2) s) fun t =>
      Frame [.regs, .ports, .cal, .out] [.port, .cal] s t ∧ getB t Reg.CAL_EVENTS_CAL_DISAGREE = true ∧
      t.cal = { s.cal with tries := s.cal.tries + 1 } := by
  have run := execCalMeasurementDone_disagree r1 r2 hr hm hs
  obtain ⟨u, hu⟩ : ∃ u, u = raise s Reg.CAL_EVENTS_CAL_DISAGREE := ⟨_, rfl⟩
  have cal : u.cal = s.cal := by rw [hu]; exact raise_cal _ _
  obtain ⟨v, hv⟩ : ∃ v, v = { u with cal := { u.cal with tries := u.cal.tries + 1 } } := ⟨_, rfl⟩
  have fails : headFail u = startHead v := by rw [hv]; exact if_neg (by rw [cal]; omega)
  rw [← hu, fails] at run
  have wu : Within [.regs, .ports, .cal, .out] [.port, .cal] s u := by
    rw [hu]; exact raise_in .refl (by decide) (by decide) ⟨.cal, by decide, by simp [Area.has, Reg.CAL_EVENTS_CAL_DISAGREE]⟩
  have wv : Within [.cal] [] u v := by
    rw [hv]; exact .upd (t := u) rfl rfl .refl fun p hp => by cases p <;> first | exact absurd (by decide) hp | rfl
  have wt := (startHead_within v).after (wv.after wu (by decide) (by decide)) (by decide) (by decide)
  refine ⟨_, run, wt.frame, ?_, ?_⟩
  · have e : getB u Reg.CAL_EVENTS_CAL_DISAGREE = true := by rw [hu]; exact getB_eq_true (getF_raise_same _ _ (by decide) (by decide))
    exact ((startHead_within v).getB_eq (by simp [Area.has, Reg.CAL_EVENTS_CAL_DISAGREE])).trans ((wv.getB_eq (by simp)).trans e)
  · rw [startHead_cal, hv, cal]

theorem calMeasurementDone_fails (hs : solveItem s r r1 r2 = some none) (ht : 2 ≤ s.cal.tries) :
    Completes (exec (.calMeasurementDone r1 r2) s) fun t =>
      Frame [.regs, .mode, .clk, .tim, .sel, .ports, .cal, .out] [.ref, .port, .eng, .cal] s t ∧ getB t Reg.CAL_EVENTS_ITEM_FAIL = true ∧
      t.cal.run = rest ∧ t.cal.work = s.cal.work ∧ t.cal.tries = 0 := by
  have run := execCalMeasurementDone_disagree r1 r2 hr hm hs
  obtain ⟨u, hu⟩ : ∃ u, u = raise s Reg.CAL_EVENTS_CAL_DISAGREE := ⟨_, rfl⟩
  have hc : u.cal = s.cal := by rw [hu]; exact raise_cal _ _
  have fails : headFail u = headDone (raise u Reg.CAL_EVENTS_ITEM_FAIL) := if_pos (by rw [hc]; omega)
  have cal : (headDone (raise u Reg.CAL_EVENTS_ITEM_FAIL)).cal = { s.cal with run := s.cal.run.drop 1, tries := 0 } := by
    rw [headDone_cal, raise_cal, hc]
  rw [← hu, fails] at run
  refine ⟨_, run, ((execCalMeasurementDone_within r1 r2 s).ofRun run).frame, ?_, ?_⟩
  · exact getB_eq_true ((headDone_calField _ (by simp [Area.has, Reg.CAL_EVENTS_ITEM_FAIL])).trans (getF_raise_same _ _ (by decide) (by decide)))
  · rw [cal, hr]; exact ⟨rfl, rfl, rfl⟩

end measured

/-! ### The values of an item come into force (R291) -/

theorem memGet_foldl_memPut {w : Nat} (f : Nat → BitVec w) {l : List Nat} {k : Nat} (h : k ∈ l) (m : List (Nat × BitVec w)) :
    memGet (l.foldl (fun m k => memPut m k (f k)) m) k = f k := by
  refine foldl_reaches (P := fun m => memGet m k = f k) (f := fun m k => memPut m k (f k)) (x := k) (fun m => memGet_memPut_same m k _)
    (fun m j e => ?_) h m
  by_cases c : k = j
  · rw [c]; exact memGet_memPut_same m j _
  · rw [memGet_memPut_ne _ _ c]; exact e

section apply
variable (s : State) (it : CalItem)

theorem applyItem_work : (applyItem s it).cal.work = s.cal.work := by unfold applyItem; split <;> rfl

theorem applyItem_pend {x : CalItem} (h : x ≠ it) : x ∈ (applyItem s it).cal.pend ↔ x ∈ s.cal.pend := by
  unfold applyItem
  split
  · exact List.mem_erase_of_ne h
  · rfl

theorem applyItem_force (h : it ∈ s.cal.pend) {k : Nat} (hk : k ∈ itemWords it) : memGet (applyItem s it).cal.force k = memGet s.cal.work k := by
  unfold applyItem
  rw [if_pos h]
  exact memGet_foldl_memPut (memGet s.cal.work) hk s.cal.force

theorem applyItem_cal_congr {t : State} (h : t.cal = s.cal) : (applyItem t it).cal = (applyItem s it).cal := by
  unfold applyItem
  rw [h]
  split
  · rfl
  · exact h

end apply

/-! ### PERIOD_BOUNDARY (R55, R59, R286) -/

/-- At a boundary the pending correction of the DLL comes into force, where the delayed path is in use. -/
theorem openPeriod_cal (s : State) (n : Nat) : (openPeriod s n).cal = if delayedPath s n then (applyItem s (.dll n)).cal else s.cal := by
  unfold openPeriod
  dsimp only
  obtain ⟨v, hv⟩ : ∃ v, v = if (getB s (Reg.DLL_STAT_GATED n) && getB s Reg.CLK_ROOT_STATUS_ROOT_LOCK) = true then
    setF s (Reg.DLL_STAT_GATED n) 0 else s := ⟨_, rfl⟩
  have cv : v.cal = s.cal := by rw [hv, ite_cal, setF_cal, ite_self]
  rw [← hv]
  obtain ⟨u, hu⟩ : ∃ u, u = if (getB v (Reg.DLL_STAT_BYPASS n) && getB v (Reg.DLL_STAT_LOCK n) &&
      (getB v (Reg.DLL_CFG_AUTO_RETURN n) || getB v (Reg.DLL_CFG_RETURN n))) = true then
    setF (setF v (Reg.DLL_STAT_BYPASS n) 0) (Reg.DLL_CFG_RETURN n) 0 else v := ⟨_, rfl⟩
  have cu : u.cal = s.cal := by rw [hu, ite_cal, setF_cal, setF_cal, ite_self, cv]
  obtain ⟨w, hw⟩ : ∃ w, w = setF (applyItem u (.dll n)) (Reg.DLL_STAT_PENDING n) 0 := ⟨_, rfl⟩
  have cw : w.cal = (applyItem s (.dll n)).cal := by rw [hw, setF_cal, applyItem_cal_congr s _ cu]
  rw [← hu, ← hw]
  split
  · split
    · exact cw
    · next c _ =>
      have k : (applyChange (updOut w n fun o => { o with pend := none }) n c).cal = w.cal := (applyChange_within _ n c).parts .cal (by decide)
      rw [k, cw]
  · exact cu

/-- What a boundary makes of the calibration: the DLL's pending correction comes into force, or nothing changes; the former where nothing is
in its way. -/
theorem periodBoundary_cal {s : State} {n : Nat} (hn : n < 20) (h : s.clk.started = true) :
    ∃ t, exec (.periodBoundary n) s = ok t ∧
      (if n < 14 then Within [.regs, .tim, .cal, .out] [.dll, .time] s t
        else Within [.regs, .clk, .tim, .sel, .coarse, .cal, .now, .out, .tod] [.dll, .time, .gauge, .perf] s t) ∧
      (t.cal = (applyItem s (.dll n)).cal ∨
        t.cal = s.cal ∧ ((outS s n).fired = false → (outS s n).opened ≠ some (outS s n).next → delayedPath s n = false)) := by
  by_cases h14 : n < 14
  · have run : exec (.periodBoundary n) s = ok (outBoundary s n) := (if_neg (by omega)).trans ((if_neg (by simp [h])).trans (if_pos h14))
    refine ⟨_, run, ?_, ?_⟩
    · rw [if_pos h14]; exact outBoundary_within s n
    · unfold outBoundary openAhead
      split
      · next hf => exact .inr ⟨rfl, fun e => by rw [hf] at e; cases e⟩
      · split
        · next ho => exact .inr ⟨rfl, fun _ e => absurd ho e⟩
        · have e : (openPeriod s n).cal = _ := openPeriod_cal s n
          cases hd : delayedPath s n
          · rw [hd, if_neg (by simp)] at e; exact .inr ⟨e, fun _ _ => rfl⟩
          · rw [hd, if_pos rfl] at e; exact .inl e
  · obtain ⟨u, hu⟩ : ∃ u, u = advance (ticksToRef s) s := ⟨_, rfl⟩
    have w : Within [.regs, .clk, .tim, .sel, .coarse, .now, .out, .tod] [.gauge, .perf] s u := by rw [hu]; exact advance_within _ _
    have run : exec (.periodBoundary n) s = ok (if fwdRuns (openPeriod u n) (n - 14) then fwdEdge (openPeriod u n) n else openPeriod u n) := by
      rw [hu]; exact (if_neg (by omega)).trans ((if_neg (by simp [h])).trans (if_neg h14))
    have cal : (if fwdRuns (openPeriod u n) (n - 14) then fwdEdge (openPeriod u n) n else openPeriod u n).cal = (openPeriod u n).cal := by
      split
      · exact (fwdEdge_within _ n).parts .cal (by decide)
      · rfl
    have cu : u.cal = s.cal := w.parts .cal (by decide)
    have path : delayedPath u n = delayedPath s n := by
      have away : ∀ x ∈ [Area.gauge, .perf], ¬ x.has (Reg.DLL_STAT_LOCK n).addr := by simp [Area.has, Reg.DLL_STAT_LOCK]; omega
      unfold delayedPath
      rw [w.getB_eq (f := Reg.DLL_STAT_LOCK n) away, w.getB_eq (f := Reg.DLL_STAT_BYPASS n) away, w.getB_eq (f := Reg.DLL_STAT_GATED n) away]
    refine ⟨_, run, ?_, ?_⟩
    · rw [if_neg h14]; exact (execPeriodBoundary_within n s).ofRun run
    · rw [cal, openPeriod_cal, path, applyItem_cal_congr s _ cu, cu]
      split
      · exact .inl rfl
      · next hd => exact .inr ⟨rfl, fun _ _ => by simpa using hd⟩

theorem periodBoundary_applies {s : State} (n : Nat) (hn : n < 20) (h : s.clk.started = true) :
    Completes (exec (.periodBoundary n) s) fun t =>
      (if n < 14 then Frame [.regs, .tim, .cal, .out] [.dll, .time] s t else TimeFrame [.cal] [.dll, .time] s t) ∧
      (∀ it, it ≠ .dll n → (it ∈ t.cal.pend ↔ it ∈ s.cal.pend)) ∧ t.cal.work = s.cal.work ∧
      ((outS s n).fired = false → (outS s n).opened ≠ some (outS s n).next →
        getB s (Reg.DLL_STAT_BYPASS n) = false → getB s (Reg.DLL_STAT_GATED n) = false → getB s (Reg.DLL_STAT_LOCK n) = true →
        CalItem.dll n ∈ s.cal.pend → ∀ k, k ∈ itemWords (.dll n) → memGet t.cal.force k = memGet s.cal.work k) := by
  obtain ⟨t, run, w, c⟩ := periodBoundary_cal hn h
  refine ⟨t, run, ?_, ?_⟩
  · split at w
    · next h14 => rw [if_pos h14]; exact w.frame
    · next h14 => rw [if_neg h14]; exact (w.mono (by decide) (by decide)).frame
  · obtain c | ⟨c, stays⟩ := c
    · rw [c]
      exact ⟨fun it hit => applyItem_pend s _ hit, applyItem_work s _, fun _ _ _ _ _ hp k hk => applyItem_force s _ hp hk⟩
    · rw [c]
      refine ⟨fun _ _ => Iff.rfl, rfl, fun hf ho hb hg hl => ?_⟩
      have off := stays hf ho
      unfold delayedPath at off
      rw [hb, hg, hl] at off
      cases off

theorem periodBoundary_idle {s : State} (n : Nat) (hn : n < 20) (h : s.clk.started = false) : Completes (exec (.periodBoundary n) s) fun t => t = s :=
  ⟨s, (if_neg (by omega)).trans (if_pos (by simp [h])), rfl⟩

end Sys2Proof.Machine

end

section
/-! PROOFS. The load classes and the stated uncertainties (R294 to R296). -/

namespace Sys2Proof.Machine

/-! ### Stated uncertainties (R295) -/

/-- What an element of a list brings about and the other elements keep stands after the fold. -/
theorem foldl_reaches_mem {α β : Type} {P : β → Prop} {f : β → α → β} {x : α} (hset : ∀ t, P (f t x)) {l : List α}
    (hkeep : ∀ t, ∀ y ∈ l, P t → P (f t y)) (hx : x ∈ l) (s : β) : P (l.foldl f s) := by
  induction l generalizing s with
  | nil => exact absurd hx (by simp)
  | cons y l ih =>
    rcases List.mem_cons.mp hx with rfl | hx
    · exact List.foldlRecOn (motive := P) l f (hset s) fun t e z hz => hkeep t z (List.mem_cons_of_mem _ hz) e
    · exact ih (fun t z hz => hkeep t z (List.mem_cons_of_mem _ hz)) hx (f s y)

theorem portBase_inj {p q : Nat} (hp : p < 36) (hq : q < 36) (h : p ≠ q) : portBase p ≠ portBase q := by
  unfold portBase
  split <;> split <;> omega

/-- What the stated uncertainties rest on: the ports' rates and reference classes, the record in force, the present class. -/
structure StatedKept (s t : State) : Prop where
  rate : ∀ p, (portS t p).rate = (portS s p).rate
  refClass : ∀ p, (portS t p).refClass = (portS s p).refClass
  force : t.cal.force = s.cal.force
  cls : getF t Reg.CAL_STATUS_PRESENT_CLASS = getF s Reg.CAL_STATUS_PRESENT_CLASS

section kept
variable {s t u : State}

theorem StatedKept.refl : StatedKept s s := ⟨fun _ => rfl, fun _ => rfl, rfl, rfl⟩

theorem StatedKept.after (k : StatedKept t u) (h : StatedKept s t) : StatedKept s u where
  rate p := (k.rate p).trans (h.rate p)
  refClass p := (k.refClass p).trans (h.refClass p)
  force := k.force.trans h.force
  cls := k.cls.trans h.cls

theorem StatedKept.uStated (h : StatedKept s t) (p : Nat) : uStated t p = uStated s p := by
  unfold Machine.uStated classDiff portRefClass portBudget delayRate calWord
  rw [h.rate, h.refClass, h.force, h.cls]

end kept

/-! ### The evaluation of the ports (R295) -/

section eval
variable (s : State)

/-- The stated uncertainty of every port written out. -/
def statedAll : State := (List.range 36).foldl (fun t p => setF t (Reg.PORT_U_STATED p) (uStated s p)) s

theorem statedAll_within : Within [.regs] [.port] s (statedAll s) :=
  .fold (fun t p => setF_in .refl (by decide) ⟨.port, by decide, by
    have hb := portBase_range p
    simp only [Area.has, Reg.PORT_U_STATED]; omega⟩) .refl _

theorem statedAll_port {p : Nat} (h : p < 36) : getF (statedAll s) (Reg.PORT_U_STATED p) = uStated s p % 2 ^ 16 := by
  have set (t : State) : getF (setF t (Reg.PORT_U_STATED p) (uStated s p)) (Reg.PORT_U_STATED p) = uStated s p % 2 ^ 16 :=
    getF_setF_same _ _ _ (by simp [Reg.PORT_U_STATED])
  refine foldl_reaches_mem (P := fun t => getF t (Reg.PORT_U_STATED p) = uStated s p % 2 ^ 16)
    (f := fun t q => setF t (Reg.PORT_U_STATED q) (uStated s q)) (x := p) set (fun t q hq e => ?_) (List.mem_range.mpr h) s
  by_cases c : p = q
  · rw [← c]; exact set t
  · have hb := portBase_inj h (List.mem_range.mp hq) c
    exact (getF_eq_of_regWord (regWord_setF_ne _ _ _ (by simp only [Reg.PORT_U_STATED]; omega))).trans e

/-- The evaluation of the ports writes their stated uncertainties and the mismatch flags. -/
theorem evalMismatch_eq : ∃ lo hi b, evalMismatch s =
    setB (setF (setF (statedAll s) Reg.CAL_MISMATCH_LO lo) Reg.CAL_MISMATCH_HI hi) Reg.CAL_STATUS_CAL_LOAD_MISMATCH b := ⟨_, _, _, rfl⟩

/-- A field that holds none of the flags reads as after the stated uncertainties. -/
theorem evalMismatch_getF {f : Fld} (h1 : f.addr ≠ Reg.CAL_MISMATCH_LO.addr) (h2 : f.addr ≠ Reg.CAL_MISMATCH_HI.addr)
    (h3 : f.addr ≠ Reg.CAL_STATUS_CAL_LOAD_MISMATCH.addr ∨ 2 ≤ f.lo) : getF (evalMismatch s) f = getF (statedAll s) f := by
  obtain ⟨lo, hi, b, e⟩ := evalMismatch_eq s
  rw [e]
  unfold setB
  rw [getF_setF_ne _ _ _ _ (by decide) (h3.imp id .inr), getF_eq_of_regWord (regWord_setF_ne _ _ _ h2), getF_eq_of_regWord (regWord_setF_ne _ _ _ h1)]

theorem evalMismatch_port {p : Nat} (h : p < 36) : getF (evalMismatch s) (Reg.PORT_U_STATED p) = uStated s p % 2 ^ 16 := by
  have hb := portBase_range p
  refine (evalMismatch_getF s ?_ ?_ (.inl ?_)).trans (statedAll_port s h)
  all_goals simp only [Reg.PORT_U_STATED, Reg.CAL_MISMATCH_LO, Reg.CAL_MISMATCH_HI, Reg.CAL_STATUS_CAL_LOAD_MISMATCH]; omega

/-- A field of CAL beside the flags stands. -/
theorem evalMismatch_cal {f : Fld} (h : Area.cal.has f.addr) (h1 : f.addr ≠ Reg.CAL_MISMATCH_LO.addr) (h2 : f.addr ≠ Reg.CAL_MISMATCH_HI.addr)
    (h3 : f.addr ≠ Reg.CAL_STATUS_CAL_LOAD_MISMATCH.addr ∨ 2 ≤ f.lo) : getF (evalMismatch s) f = getF s f := by
  refine (evalMismatch_getF s h1 h2 h3).trans ((statedAll_within s).getF_eq fun x hx => ?_)
  obtain rfl := List.mem_singleton.mp hx
  simp only [Area.has] at h ⊢
  omega

theorem evalMismatch_kept : StatedKept s (evalMismatch s) where
  rate p := by unfold portS; rw [show (evalMismatch s).ports = s.ports from (evalMismatch_within s).parts .ports (by decide)]
  refClass p := by unfold portS; rw [show (evalMismatch s).ports = s.ports from (evalMismatch_within s).parts .ports (by decide)]
  force := congrArg Cal.force ((evalMismatch_within s).parts .cal (by decide))
  cls := evalMismatch_cal s (by simp [Area.has, Reg.CAL_STATUS_PRESENT_CLASS]) (by decide) (by decide) (.inr (by decide))

end eval

/-! ### AUTO_RECAL (R296) -/

/-- What a request for a Berm window leaves alone: the ports but for the note that one was asked, the record in force, and the registers but for
BERM_WAIT. -/
structure RecalKept (s t : State) : Prop where
  stated : StatedKept s t
  regs : ∀ a, (∀ q, a ≠ portBase q + 8) → regWord t a = regWord s a

section recal
variable {s t u : State}

theorem RecalKept.refl : RecalKept s s := ⟨.refl, fun _ _ => rfl⟩

theorem RecalKept.after (k : RecalKept t u) (h : RecalKept s t) : RecalKept s u := ⟨k.stated.after h.stated, fun a ha => (k.regs a ha).trans (h.regs a ha)⟩

theorem RecalKept.ite {c : Prop} [Decidable c] (ht : RecalKept s t) (hu : RecalKept s u) : RecalKept s (if c then t else u) := by
  split
  · exact ht
  · exact hu

theorem presentClass_apart (q : Nat) : Reg.CAL_STATUS_PRESENT_CLASS.addr ≠ portBase q + 8 := by
  have hb := portBase_range q
  simp only [Reg.CAL_STATUS_PRESENT_CLASS]; omega

theorem bermWait_recalKept (s : State) (p : Nat) : RecalKept s (setF s (Reg.PORT_TT_STATUS_BERM_WAIT p) 1) :=
  ⟨⟨fun _ => rfl, fun _ => rfl, rfl, getF_eq_of_regWord (regWord_setF_ne _ _ _ (presentClass_apart p))⟩, fun _ ha => regWord_setF_ne _ _ _ (ha p)⟩

theorem bermAsk_recalKept (s : State) (r : BermReq) : RecalKept s (bermAsk s r) := by
  have queued (q : List BermReq) : RecalKept s { s with ports := { s.ports with bermQ := q } } :=
    ⟨⟨fun _ => rfl, fun _ => rfl, rfl, rfl⟩, fun _ _ => rfl⟩
  unfold bermAsk
  exact .ite (queued _) ((bermWait_recalKept _ _).after (queued _))

theorem asked_recalKept (s : State) (p : Nat) : RecalKept s (updPort s p fun o => { o with recalAsked := true }) := by
  have port (q : Nat) : (portS (updPort s p fun o => { o with recalAsked := true }) q).rate = (portS s q).rate ∧
      (portS (updPort s p fun o => { o with recalAsked := true }) q).refClass = (portS s q).refClass := by
    by_cases c : q = p
    · rw [c, portS_updPort_same]; exact ⟨rfl, rfl⟩
    · rw [portS_updPort_ne _ _ c]; exact ⟨rfl, rfl⟩
  exact ⟨⟨fun q => (port q).1, fun q => (port q).2, rfl, rfl⟩, fun _ _ => rfl⟩

theorem autoRecal_recalKept (s : State) : RecalKept s (autoRecal s) := by
  unfold autoRecal
  refine .ite ?_ .refl
  refine List.foldlRecOn (motive := RecalKept s) _ _ .refl fun t h p _ => ?_
  exact .ite ((bermAsk_recalKept _ _).after ((asked_recalKept t p).after h)) h

end recal

/-! ### LOAD_CLASS_EVAL (R294, R295) -/

theorem twos_lt (w : Nat) (x : Int) : twos w x < 2 ^ w := by
  unfold twos
  have h : ((2 ^ w : Nat) : Int) ≠ 0 := by exact_mod_cast (Nat.two_pow_pos w).ne'
  have h0 := Int.emod_nonneg x h
  have h1 := Int.emod_lt_of_pos x (b := ((2 ^ w : Nat) : Int)) (by exact_mod_cast Nat.two_pow_pos w)
  omega

theorem classOf_lt (x : Int) : classOf x < 4 := by
  unfold classOf
  split
  · decide
  · split
    · decide
    · split <;> decide

theorem nextClass_lt {c : Nat} (h : c < 4) (load : Nat) : nextClass c load < 4 := by
  unfold nextClass
  dsimp only
  split
  · exact classOf_lt _
  · split
    · exact classOf_lt _
    · exact h

/-- CAL.DIE_TEMP after an evaluation; no other field changes with it. -/
theorem takeDieTemp_getF (s : State) (dt : Option Int) :
    getF (takeDieTemp s dt) Reg.CAL_DIE_TEMP = (dt.map (twos 16)).getD (getF s Reg.CAL_DIE_TEMP) ∧
    ∀ f, f.addr ≠ Reg.CAL_DIE_TEMP.addr → getF (takeDieTemp s dt) f = getF s f := by
  cases dt with
  | none => exact ⟨rfl, fun _ _ => rfl⟩
  | some x => exact ⟨(getF_setF_same _ _ _ (by decide)).trans (Nat.mod_eq_of_lt (twos_lt 16 x)),
      fun _ h => getF_eq_of_regWord (regWord_setF_ne _ _ _ h)⟩

theorem takeDieTemp_fab (s : State) (dt : Option Int) : (takeDieTemp s dt).fab = s.fab := (takeDieTemp_within s dt).parts .fab (by decide)

/-- The state with the second's load and the class that follows from it. -/
def loadShown (s : State) (dt : Option Int) : State :=
  setF (setF (takeDieTemp (loadSecond s) dt) Reg.CAL_LOAD_PERMILLE (fabricLoad (loadSecond s))) Reg.CAL_STATUS_PRESENT_CLASS
    (nextClass (getF s Reg.CAL_STATUS_PRESENT_CLASS) (fabricLoad (loadSecond s)))

theorem exec_loadClassEval {s : State} (h : powered s .time = true) (dt : Option Int) :
    exec (.loadClassEval dt) s = ok (autoRecal (evalMismatch (loadShown s dt))) := by
  have load : fabricLoad (takeDieTemp (loadSecond s) dt) = fabricLoad (loadSecond s) := by unfold fabricLoad; rw [takeDieTemp_fab]
  have cls : getF (takeDieTemp (loadSecond s) dt) Reg.CAL_STATUS_PRESENT_CLASS = getF s Reg.CAL_STATUS_PRESENT_CLASS :=
    (takeDieTemp_getF _ dt).2 _ (by decide)
  unfold loadShown
  rw [← load, ← cls]
  exact if_neg (by simp [h])

theorem loadShown_fab (s : State) (dt : Option Int) : (loadShown s dt).fab = (loadSecond s).fab := by
  unfold loadShown
  rw [setF_fab, setF_fab, takeDieTemp_fab]

theorem loadShown_getF (s : State) (dt : Option Int) :
    getF (loadShown s dt) Reg.CAL_DIE_TEMP = (dt.map (twos 16)).getD (getF s Reg.CAL_DIE_TEMP) ∧
    getF (loadShown s dt) Reg.CAL_LOAD_PERMILLE = fabricLoad (loadSecond s) ∧
    getF (loadShown s dt) Reg.CAL_STATUS_PRESENT_CLASS = nextClass (getF s Reg.CAL_STATUS_PRESENT_CLASS) (fabricLoad (loadSecond s)) := by
  unfold loadShown
  refine ⟨?_, ?_, ?_⟩
  · rw [getF_setF_ne _ _ _ _ (by decide) (by decide), getF_setF_ne _ _ _ _ (by decide) (by decide)]
    exact (takeDieTemp_getF _ dt).1
  · rw [getF_setF_ne _ _ _ _ (by decide) (by decide), getF_setF_same _ _ _ (by decide)]
    exact Nat.mod_eq_of_lt (Nat.lt_of_le_of_lt (Nat.min_le_left _ _) (by decide))
  · rw [getF_setF_same _ _ _ (by decide)]
    exact Nat.mod_eq_of_lt (nextClass_lt (getF_lt s Reg.CAL_STATUS_PRESENT_CLASS) _)

theorem loadClassEval_evaluates {s : State} (h : powered s .time = true) :
    let load := fabricLoad (loadSecond s)
    ∀ dt, Completes (exec (.loadClassEval dt) s) fun t =>
      Frame [.regs, .ports, .fab] [.port, .cal] s t ∧ t.fab = { s.fab with cells := 0, load := (s.fab.cells :: s.fab.load).take 60 } ∧
      getF t Reg.CAL_DIE_TEMP = (dt.map (twos 16)).getD (getF s Reg.CAL_DIE_TEMP) ∧
      getF t Reg.CAL_LOAD_PERMILLE = load ∧
      getF t Reg.CAL_STATUS_PRESENT_CLASS = nextClass (getF s Reg.CAL_STATUS_PRESENT_CLASS) load ∧
      ∀ p, p < 36 → getF t (Reg.PORT_U_STATED p) = uStated t p % 2 ^ 16 := by
  intro load dt
  have run := exec_loadClassEval h dt
  have w := (execLoadClassEval_within dt s).ofRun run
  obtain ⟨temp, permille, cls⟩ := loadShown_getF s dt
  obtain ⟨u, hu⟩ : ∃ u, u = loadShown s dt := ⟨_, rfl⟩
  have fab : u.fab = (loadSecond s).fab := by rw [hu]; exact loadShown_fab s dt
  rw [← hu] at run w temp permille cls
  have k := autoRecal_recalKept (evalMismatch u)
  -- what AUTO_RECAL asks for changes no field of CAL
  have same {f : Fld} (hf : Area.cal.has f.addr) : getF (autoRecal (evalMismatch u)) f = getF (evalMismatch u) f :=
    getF_eq_of_regWord (k.regs _ fun q => by
      have hb := portBase_range q
      simp only [Area.has] at hf
      omega)
  refine ⟨_, run, w.frame, ?_, ?_, ?_, ?_, fun p hp => ?_⟩
  · have recal : (autoRecal (evalMismatch u)).fab = (evalMismatch u).fab := (autoRecal_within _).parts .fab (by decide)
    have eval : (evalMismatch u).fab = u.fab := (evalMismatch_within u).parts .fab (by decide)
    rw [recal, eval, fab]
    rfl
  · rw [same (by simp [Area.has, Reg.CAL_DIE_TEMP]), evalMismatch_cal _ (by simp [Area.has, Reg.CAL_DIE_TEMP]) (by decide) (by decide) (.inl (by decide)), temp]
  · rw [same (by simp [Area.has, Reg.CAL_LOAD_PERMILLE]),
      evalMismatch_cal _ (by simp [Area.has, Reg.CAL_LOAD_PERMILLE]) (by decide) (by decide) (.inl (by decide)), permille]
  · rw [k.stated.cls, (evalMismatch_kept u).cls, cls]
  · rw [k.stated.uStated, (evalMismatch_kept u).uStated, ← evalMismatch_port u hp]
    exact getF_eq_of_regWord (k.regs _ fun q => portBase_add_ne (by decide) (by decide) (by decide))

/-- Settles O26: the measurements of calibration, the boundaries at which their values come into force, the load classes. -/
theorem calibrationMeasures : Obligations.CalibrationMeasures :=
  ⟨fun r1 r2 _ _ _ hr hm => ⟨calMeasurementDone_accepts r1 r2 hr hm, calMeasurementDone_repeats r1 r2 hr hm, calMeasurementDone_fails r1 r2 hr hm⟩,
    fun s => ⟨periodBoundary_applies, periodBoundary_idle, loadClassEval_evaluates, fun h _ => ⟨s, if_pos (by simp [h]), rfl⟩⟩⟩

end Sys2Proof.Machine

end

section
/-! PROOFS. Reads of registers (R319, R321, R322, R330). -/

namespace Sys2Proof.Machine

/-! ### Where the COR fields are -/

/-- Offsets of the registers of a group that have COR fields (R331). -/
def corOffsets : Grp → List Nat
  | .sys => [0x1C]
  | .clk => [0x34]
  | .time => [0x28]
  | .ref => [0x18]
  | .port => [0x0C, 0x88]
  | .link => [0x08, 0x98]
  | .pair => [0x08]
  | .fab => [0x14]
  | .gauge => [0x0C]
  | .gnss => [0x2C]
  | .eng => [0x0C]
  | .perf => [0x30, 0x34, 0x38, 0x3C]
  | .cal => [0x08]
  | .cmd => [0x00]
  | .sec => [0x04]
  | .aud => [0x08]
  | _ => []

theorem corFields_listed (g : Grp) (n : Nat) :
    (g.fields n).all (fun f => f.cls ≠ .cor || (decide (f.off ∈ corOffsets g) && decide (f.lo + f.w ≤ 32))) = true := by
  cases g <;> rfl

/-- A field of the register at an address is one of its window's map. -/
theorem fieldsAt_mem {a : Nat} {f : FieldDef} (h : f ∈ fieldsAt a) :
    ∃ g n, locate (a / 65536) (a % 65536) = some (g, n, f.off) ∧ f ∈ g.fields n := by
  unfold fieldsAt at h
  split at h
  · cases h
  · next n o e =>
    split at h
    · cases h
    · obtain ⟨m, rfl⟩ : f ∈ Grp.port.fields n ∧ f.off = o := by simpa using h
      exact ⟨_, _, e, m⟩
  · next g n o _ e =>
    obtain ⟨m, rfl⟩ : f ∈ g.fields n ∧ f.off = o := by simpa using h
    exact ⟨_, _, e, m⟩

theorem corField_located {a : Nat} {f : FieldDef} (h : f ∈ fieldsAt a) (hc : f.cls = .cor) :
    ∃ g n o, locate (a / 65536) (a % 65536) = some (g, n, o) ∧ o ∈ corOffsets g ∧ f.lo + f.w ≤ 32 := by
  obtain ⟨g, n, e, m⟩ := fieldsAt_mem h
  have k := List.all_eq_true.mp (corFields_listed g n) f m
  simp only [hc, ne_eq, not_true_eq_false, decide_false, Bool.false_or, Bool.and_eq_true, decide_eq_true_eq] at k
  exact ⟨g, n, f.off, e, k⟩

theorem corReg_located {a : Nat} (h : hasCls (fieldsAt a) .cor = true) :
    ∃ g n o, locate (a / 65536) (a % 65536) = some (g, n, o) ∧ o ∈ corOffsets g := by
  obtain ⟨f, m, hc⟩ := List.any_eq_true.mp h
  obtain ⟨g, n, o, e, ho, -⟩ := corField_located m (of_decide_eq_true hc)
  exact ⟨g, n, o, e, ho⟩

/-- Hardware computes no field of a register with COR fields. -/
theorem overlay_cor {a n o : Nat} {g : Grp} (s : State) (hl : locate (a / 65536) (a % 65536) = some (g, n, o)) (ho : o ∈ corOffsets g) :
    overlay s a = [] := by
  unfold overlay
  rw [hl]
  cases g
  case link =>
    have loop : viewLoop s n o = [] := by
      unfold viewLoop
      obtain rfl | rfl : o = 0x08 ∨ o = 0x98 := by simpa [corOffsets] using ho
      all_goals cases loopDue s n <;> rfl
    have o4 : o ≠ 4 := by rintro rfl; revert ho; decide
    dsimp only
    unfold viewLink
    rw [if_neg o4, loop]
  case port =>
    obtain rfl | rfl : o = 0x0C ∨ o = 0x88 := by simpa [corOffsets] using ho
    all_goals rfl
  case perf =>
    obtain rfl | rfl | rfl | rfl : o = 0x30 ∨ o = 0x34 ∨ o = 0x38 ∨ o = 0x3C := by simpa [corOffsets] using ho
    all_goals rfl
  all_goals first | cases ho; done | (obtain rfl := List.mem_singleton.mp ho; rfl)

/-! ### COR fields clear -/

theorem fieldOf_eq_zero {v : Word} {lo w : Nat} : fieldOf v lo w = 0 ↔ ∀ i, lo ≤ i → i < lo + w → v.toNat.testBit i = false := by
  unfold fieldOf bits
  constructor
  · intro h i h1 h2
    have k := congrArg (fun x => x.testBit (i - lo)) h
    simp only [Nat.testBit_mod_two_pow, Nat.testBit_shiftRight, Nat.zero_testBit, Nat.add_sub_cancel' h1] at k
    simpa [show i - lo < w by omega] using k
  · intro h
    apply Nat.eq_of_testBit_eq
    intro i
    rw [Nat.testBit_mod_two_pow, Nat.testBit_shiftRight, Nat.zero_testBit]
    by_cases c : i < w
    · rw [h (lo + i) (by omega) (by omega), Bool.and_false]
    · simp [c]

/-- A field that is zero stays zero while another one is cleared. -/
theorem fieldOf_cleared {v : Word} {lo w lo' w' : Nat} (h32 : lo' + w' ≤ 32) (h : fieldOf v lo w = 0) : fieldOf (insField v lo' w' 0) lo w = 0 := by
  have own : fieldOf (insField v lo' w' 0) lo' w' = 0 := (fieldOf_insField_same _ _ _ _ h32).trans (Nat.zero_mod _)
  rw [fieldOf_eq_zero] at own h ⊢
  intro i h1 h2
  by_cases c : lo' ≤ i ∧ i < lo' + w'
  · exact own i c.1 c.2
  · rw [insField_testBit _ _ _ _ _ h32 (by omega)]
    exact h i h1 h2

/-- A word with the fields of a list cleared reads zero in each of them. -/
theorem fieldOf_foldl_cleared {l : List FieldDef} (h32 : ∀ f ∈ l, f.lo + f.w ≤ 32) {f : FieldDef} (hf : f ∈ l) (w : Word) :
    fieldOf (l.foldl (fun w f => insField w f.lo f.w 0) w) f.lo f.w = 0 := by
  refine foldl_reaches_mem (P := fun u => fieldOf u f.lo f.w = 0) (f := fun u (y : FieldDef) => insField u y.lo y.w 0) (x := f) ?_ ?_ hf w
  · exact fun u => (fieldOf_insField_same u f.lo f.w 0 (h32 f hf)).trans (Nat.zero_mod _)
  · exact fun _ y hy e => fieldOf_cleared (h32 y hy) e

theorem corClear_regWord_ne (s : State) {a b : Nat} (h : b ≠ a) : regWord (corClear s a) b = regWord s b := by
  unfold corClear
  dsimp only
  split
  · rfl
  · exact regWord_setWord_ne _ _ h

theorem corClear_clears (s : State) {a : Nat} {f : FieldDef} (hf : f ∈ fieldsAt a) (hc : f.cls = .cor) :
    fieldOf (regWord (corClear s a) a) f.lo f.w = 0 := by
  have m : f ∈ (fieldsAt a).filter (fun f => f.cls = .cor) := by simp [hf, hc]
  unfold corClear
  dsimp only
  rw [if_neg (List.ne_nil_of_mem m), regWord_setWord_same]
  refine fieldOf_foldl_cleared (fun g hg => ?_) m _
  obtain ⟨hg, gc⟩ : g ∈ fieldsAt a ∧ g.cls = .cor := by simpa using hg
  obtain ⟨-, -, -, -, -, h32⟩ := corField_located hg gc
  exact h32

/-- Reading a register with COR fields does nothing else. -/
theorem readEffect_cor (s : State) {a : Nat} (h : hasCls (fieldsAt a) .cor = true) : readEffect s a = corClear s a := by
  obtain ⟨g, n, o, hl, ho⟩ := corReg_located h
  unfold readEffect
  rw [hl]
  cases g
  case ga => cases ho
  case ue => cases ho
  all_goals rfl

theorem viewWord_cor {s t : State} {a : Nat} (h : hasCls (fieldsAt a) .cor = true) (hr : regWord t a = regWord s a) : viewWord t a = viewWord s a := by
  obtain ⟨g, n, o, hl, ho⟩ := corReg_located h
  unfold viewWord
  rw [overlay_cor s hl ho, overlay_cor t hl ho, hr]

/-- A powered register with COR fields shows its value. -/
theorem readWord_cor {s : State} {a : Nat} (h : hasCls (fieldsAt a) .cor = true) (hp : powered s (addrDomain a) = true) : readWord s a = viewWord s a := by
  have masked : a ≠ 0x24 := by rintro rfl; revert h; decide
  unfold readWord
  rw [hp, if_neg (by simp), if_neg masked]

/-! ### COR_READ (R319, R321, R322, R330) -/

section read
variable {addr : Nat} {s : State} (hup : s.pcieUp = true)
include hup

theorem execCorRead_eq : exec (.corRead addr) s = ok (emit (busRead s 0x14 addr).1 (.read (issuedAddr addr) (busRead s 0x14 addr).2)) := if_pos hup

/-- What a read leaves, told by what the bus makes of it. -/
theorem corRead_runs {u : State} {w : Word} {l : List StatePart} {g : List Area} (e : busRead s 0x14 addr = (u, w)) (h : Within l g s u)
    (ho : StatePart.out ∈ l) : ∃ t, exec (.corRead addr) s = ok t ∧ Within l g s t ∧ t.regs = u.regs ∧
      t.out.getLast? = some (.read (issuedAddr addr) w) := by
  have run := execCorRead_eq (addr := addr) hup
  rw [e] at run
  exact ⟨_, run, (emit_within u _).after h (List.cons_subset.mpr ⟨ho, List.nil_subset l⟩) (List.nil_subset g), rfl, by simp⟩

theorem corRead_clears (b off r : Nat) (hd : decodeAddr addr = some (b, off)) (hr : reached b off = some r) (hp : powered s (addrDomain r) = true)
    (hc : hasCls (fieldsAt r) .cor = true) :
    Completes (exec (.corRead addr) s) fun t =>
      Only [.regs, .out] s t ∧ (∀ a, a ≠ r → ¬ Area.perf.has a → regWord t a = regWord s a) ∧
      (∀ f ∈ fieldsAt r, f.cls = .cor → fieldOf (regWord t r) f.lo f.w = 0) ∧
      (¬ Area.perf.has r → t.out.getLast? = some (.read (issuedAddr addr) (viewWord s r))) := by
  obtain ⟨p, hpf⟩ : ∃ p, p = perf s 0x20 0x14 r 0 1 := ⟨_, rfl⟩
  have w : Within [.regs, .out] [.perf] s p := by rw [hpf]; exact perf_within _ _ _ _ _ _
  have hp' : powered p (addrDomain r) = true := (powered_congr (w.parts .domains (by decide)) _).trans hp
  have bus : busRead s 0x14 addr = (corClear p r, viewWord p r) := by
    unfold busRead
    rw [hd]
    dsimp only
    rw [hr]
    dsimp only
    rw [if_pos hp, ← hpf, readEffect_cor p hc, readWord_cor hc hp']
  have same {a : Nat} (ha : ¬ Area.perf.has a) : regWord p a = regWord s a := w.regs a fun x hx => by rwa [List.mem_singleton.mp hx]
  obtain ⟨t, run, wt, regs, last⟩ := corRead_runs hup bus ((corClear_within p r).afterAny (w.any) (by decide)) (by decide)
  refine ⟨t, run, wt.parts, fun a ha hf => ?_, fun f hf hcor => ?_, fun hf => ?_⟩
  · rw [regWord_congr regs, corClear_regWord_ne p ha, same hf]
  · rw [regWord_congr regs]; exact corClear_clears p hf hcor
  · rw [last, viewWord_cor hc (same hf)]

theorem corRead_unlisted (b off : Nat) (hd : decodeAddr addr = some (b, off)) (hr : reached b off = none) :
    Completes (exec (.corRead addr) s) fun t => Frame [.regs, .out] [.perf] s t ∧ t.out.getLast? = some (.read (issuedAddr addr) 0) := by
  have bus : busRead s 0x14 addr = (perf s 0x20 0x14 (issuedAddr addr) 0 1, 0) := by
    unfold busRead
    rw [hd]
    dsimp only
    rw [hr]
  obtain ⟨t, run, w, -, last⟩ := corRead_runs hup bus (perf_within _ _ _ _ _ _) (by decide)
  exact ⟨t, run, w.frame, last⟩

theorem corRead_unpowered (b off r : Nat) (hd : decodeAddr addr = some (b, off)) (hr : reached b off = some r)
    (hp : powered s (addrDomain r) = false) :
    Completes (exec (.corRead addr) s) fun t => Frame [.regs, .out] [.perf] s t ∧ t.out.getLast? = some (.read (issuedAddr addr) 0) := by
  have bus : busRead s 0x14 addr = (perf s 0x20 0x14 r 0 1, 0) := by
    unfold busRead
    rw [hd]
    dsimp only
    rw [hr]
    dsimp only
    rw [hp, if_neg (by simp)]
  obtain ⟨t, run, w, -, last⟩ := corRead_runs hup bus (perf_within _ _ _ _ _ _) (by decide)
  exact ⟨t, run, w.frame, last⟩

theorem corRead_unassigned (hd : decodeAddr addr = none) :
    Completes (exec (.corRead addr) s) fun t =>
      Frame [.regs, .out] [.sys, .perf] s t ∧ t.out.getLast? = some (.read (issuedAddr addr) 0) ∧
        getF t Reg.SYS_BAD_ADDR = (getF s Reg.SYS_BAD_ADDR + 1) % 2 ^ 32 := by
  obtain ⟨p, hpf⟩ : ∃ p, p = perf s 0x20 0x14 (issuedAddr addr) 0 1 := ⟨_, rfl⟩
  have w : Within [.regs, .out] [.perf] s p := by rw [hpf]; exact perf_within _ _ _ _ _ _
  have bus : busRead s 0x14 addr = (badAddr p, 0) := by
    rw [hpf]
    unfold busRead
    rw [hd]
  obtain ⟨t, run, wt, regs, last⟩ := corRead_runs hup bus ((badAddr_within p).after (l := [.regs, .out]) (g := [.sys, .perf])
    (w.mono (by decide) (by decide)) (by decide) (by decide)) (by decide)
  refine ⟨t, run, wt.frame, last, ?_⟩
  unfold badAddr at regs
  rw [getF_congr regs, getF_eq_of_regWord (regWord_raise_ne _ _ (by decide)), getF_incF_same _ _ _ (by decide),
    w.getF_eq (by simp [Area.has, Reg.SYS_BAD_ADDR])]
  rfl

end read

end Sys2Proof.Machine

end

section
/-! PROOFS. Writes of values of two words (R327): NOMINAL, INC and OUT_PSTEP (R45, R59, R64, R75). -/

namespace Sys2Proof.Machine

/-! ### The upper word -/

/-- The upper word of a value goes to its register where it waits in staging. -/
def upperTaken (s : State) (u : Nat) : State :=
  match spGet? s.staged u with
  | some x => { setWord s u (writtenWord (fieldsAt u) true (regWord s u) x) with staged := spDel s.staged u }
  | none => s

/-- The upper word that a write of the least significant one applies: the one staged, else the one standing. -/
def upperWord (s : State) (u : Nat) : Word := (spGet? s.staged u).getD (regWord s u)

section upper
variable (s : State) (u : Nat)

theorem upperTaken_staged : spGet? (upperTaken s u).staged u = none := by
  unfold upperTaken
  split
  · exact spGet?_spDel_same _ _
  · next h => exact h

theorem upperTaken_within {g : List Area} (h : ∃ x ∈ g, x.has u) : Within [.regs, .staged] g s (upperTaken s u) := by
  unfold upperTaken
  split
  · exact .upd (t := setWord s u _) rfl rfl ((setWord_within s u _ h).mono (by decide) (List.Subset.refl g))
      fun p hp => by cases p <;> first | exact absurd (by decide) hp | rfl
  · exact .refl

/-- A field of the upper register that a write stores as it is. -/
theorem upperTaken_field {lo w : Nat} (h : ∀ v x, fieldOf (writtenWord (fieldsAt u) true v x) lo w = fieldOf x lo w) :
    fieldOf (regWord (upperTaken s u) u) lo w = fieldOf (upperWord s u) lo w := by
  unfold upperTaken upperWord
  cases e : spGet? s.staged u with
  | none => rfl
  | some x =>
    refine Eq.trans ?_ (h (regWord s u) x)
    exact congrArg (fun v => fieldOf v lo w) (regWord_setWord_same s u _)

theorem upperWord_congr {s t : State} (hs : t.staged = s.staged) (hr : regWord t u = regWord s u) : upperWord t u = upperWord s u := by
  unfold upperWord
  rw [hs, hr]

end upper

/-- The write of the least significant word of a value of two words. -/
theorem storeWrite_wide {s : State} {a n o u : Nat} {g : Grp} (v : Word) (l : Lands a g n o) (hu : upperAddrs a = [u]) :
    storeWrite s a true v = normWide (setWord (upperTaken s u) a (writtenWord (fieldsAt a) true (regWord (upperTaken s u) a) v)) g n o := by
  unfold storeWrite
  dsimp only
  rw [l.lower, l.located, hu]
  simp only [Bool.not_true, Bool.and_false, Bool.false_eq_true, if_false, List.foldl_cons, List.foldl_nil]
  rfl

/-- A whole word reads as written. -/
theorem fieldOf_whole (w v : Word) : fieldOf (insField w 0 32 (fieldOf v 0 32)) 0 32 = v.toNat := by
  have h : fieldOf v 0 32 = v.toNat := by
    unfold fieldOf bits
    rw [Nat.shiftRight_zero, Nat.mod_eq_of_lt v.isLt]
  rw [fieldOf_insField_same _ _ _ _ (by decide), h, Nat.mod_eq_of_lt v.isLt]

/-- The value of two words stored: the upper word as staged or standing, the lower one as written. -/
def wideStored (s : State) (a u : Nat) (v : Word) : State :=
  setWord (upperTaken s u) a (insField (regWord (upperTaken s u) a) 0 32 (fieldOf v 0 32))

section wide
variable {s : State} {a u : Nat} (v : Word)

theorem wideStored_within {g : List Area} (ha : ∃ x ∈ g, x.has a) (hu : ∃ x ∈ g, x.has u) : Within [.regs, .staged] g s (wideStored s a u v) :=
  (setWord_within _ a _ ha).after (upperTaken_within s u hu) (by decide) (List.Subset.refl g)

theorem wideStored_staged : spGet? (wideStored s a u v).staged u = none := upperTaken_staged s u

theorem wideStored_lower : fieldOf (regWord (wideStored s a u v) a) 0 32 = v.toNat := by
  unfold wideStored
  rw [regWord_setWord_same, fieldOf_whole]

theorem wideStored_upper (hne : u ≠ a) {lo w : Nat} (h : ∀ v x, fieldOf (writtenWord (fieldsAt u) true v x) lo w = fieldOf x lo w) :
    fieldOf (regWord (wideStored s a u v) u) lo w = fieldOf (upperWord s u) lo w := by
  unfold wideStored
  rw [regWord_setWord_ne _ _ hne]
  exact upperTaken_field s u h

end wide

/-- A quantity of two words whose lower one has 32 bits. -/
theorem getHL_of {s : State} {hi lo : Fld} {x y : Nat} (hw : lo.w = 32) (h1 : getF s hi = x) (h2 : getF s lo = y) : getHL s hi lo = x * 2 ^ 32 + y := by
  unfold getHL
  rw [h1, h2, hw]

/-! ### INC (R64) -/

theorem incHi_written (w x : Word) : writtenWord (fieldsAt 0x20010) true w x =
    insField (insField w 24 8 (fieldOf x 24 8)) 0 24 (fieldOf x 0 24) := rfl

theorem incHi_fields (w x : Word) :
    fieldOf (writtenWord (fieldsAt 0x20010) true w x) 24 8 = fieldOf x 24 8 ∧ fieldOf (writtenWord (fieldsAt 0x20010) true w x) 0 24 = fieldOf x 0 24 := by
  rw [incHi_written]
  constructor
  · rw [fieldOf_insField_disj _ _ _ _ _ _ (by decide) (by decide), fieldOf_insField_same _ _ _ _ (by decide), Nat.mod_eq_of_lt (fieldOf_lt _ _ _)]
  · rw [fieldOf_insField_same _ _ _ _ (by decide), Nat.mod_eq_of_lt (fieldOf_lt _ _ _)]

theorem incLoWrite_applies {s : State} (v : Word) (h : BarWrites .time s) :
    Completes (exec (.incLoWrite v) s) fun t =>
      BarFrame [.staged] [.time] s t ∧
      incVal t = fieldOf (upperWord s 0x20010) 24 8 * 2 ^ 56 + fieldOf (upperWord s 0x20010) 0 24 * 2 ^ 32 + v.toNat := by
  obtain ⟨u, w, run⟩ := bar0Write_plain v h incLo_lands (by decide) (by decide)
  rw [storeWrite_wide (u := 0x20010) v incLo_lands (by decide)] at run
  have e : upperWord u 0x20010 = upperWord s 0x20010 :=
    upperWord_congr _ (w.parts .staged (by decide)) (w.regs _ (by simp [Area.has]))
  have run : exec (.incLoWrite v) s = ok (wideStored u 0x20014 0x20010 v) := run
  have wt := (wideStored_within (s := u) (a := 0x20014) (u := 0x20010) v (g := [.time])
      ⟨.time, by decide, by simp [Area.has]⟩ ⟨.time, by decide, by simp [Area.has]⟩).after
    (l := [.regs, .aud, .out, .staged]) (g := [.perf, .aud, .time]) (w.mono (by decide) (by decide)) (by decide) (by decide)
  refine ⟨_, run, wt.frame, ?_⟩
  have hi : getF (wideStored u 0x20014 0x20010 v) Reg.TIME_INC_HI_NS = fieldOf (upperWord s 0x20010) 24 8 := by
    rw [← e]; exact wideStored_upper v (by decide) fun w x => (incHi_fields w x).1
  have mid : getF (wideStored u 0x20014 0x20010 v) Reg.TIME_INC_HI_FRAC_HI = fieldOf (upperWord s 0x20010) 0 24 := by
    rw [← e]; exact wideStored_upper v (by decide) fun w x => (incHi_fields w x).2
  have lo : getF (wideStored u 0x20014 0x20010 v) Reg.TIME_INC_LO = v.toNat := wideStored_lower v
  unfold incVal
  rw [hi, mid, lo]

/-! ### NOMINAL (R45, R47) -/

theorem nominalHi_field (w x : Word) : fieldOf (writtenWord (fieldsAt 0x10020) true w x) 0 22 = fieldOf x 0 22 :=
  (fieldOf_insField_same w 0 22 (fieldOf x 0 22) (by decide)).trans (Nat.mod_eq_of_lt (fieldOf_lt _ _ _))

theorem nominal_congr {s t : State} (h : ∀ a, a = 0x10020 ∨ a = 0x10024 → regWord t a = regWord s a) : nominal t = nominal s := by
  unfold nominal
  rw [getHL_congr (h _ (.inl rfl)) (h _ (.inr rfl))]

/-- Whether the mode holds NOMINAL rests on the mode, the selection and the registers of REF. -/
theorem holdsNominal_congr {s t : State} (hm : t.mode = s.mode) (hc : t.clk.cwHeld = s.clk.cwHeld) (hs : t.sel = s.sel) (he : t.calEntry = s.calEntry)
    (hr : ∀ f : Fld, Area.ref.has f.addr → getF t f = getF s f) : holdsNominal t = holdsNominal s := by
  unfold holdsNominal selected getB
  rw [hm, hc, hs, he, hr Reg.REF_SEL_STATUS_SELECTED (by simp [Area.has, Reg.REF_SEL_STATUS_SELECTED]),
    hr Reg.REF_LOSS_CTRL_NO_HISTORY (by simp [Area.has, Reg.REF_LOSS_CTRL_NO_HISTORY])]

theorem setRequest_cwReq (s : State) (y : Int) : (setRequest s y).clk.cwReq = y := by
  unfold setRequest
  dsimp only
  rw [raiseIf_clk]

/-- With no trims accepted the request is the word itself. -/
theorem requestWord_untrimmed {s : State} (y : Int) (h : getB s Reg.ENG_STEER_STATUS_ACCEPTED = false) : (requestWord s y).clk.cwReq = y := by
  unfold requestWord
  dsimp only
  rw [setRequest_cwReq, h]
  simp

theorem requestWord_regWord (s : State) (y : Int) {a : Nat} (h : a ≠ Reg.CLK_EVENTS_CLAMP_HIT.addr) : regWord (requestWord s y) a = regWord s a := by
  unfold requestWord setRequest
  dsimp only
  rw [regWord_raiseIf_ne _ _ _ h]
  rfl

/-- The root's own word set. -/
def setRootPos (w : State) (x : Int) : State := { w with clk := { w.clk with rootPos := x } }

theorem setRootPos_clk (w : State) (x : Int) : (setRootPos w x).clk = { w.clk with rootPos := (setRootPos w x).clk.rootPos } := rfl

theorem setRootPos_within (w : State) (x : Int) : Within [.clk] [] w (setRootPos w x) :=
  .upd (t := w) rfl rfl .refl fun p hp => by cases p <;> first | exact absurd (by decide) hp | rfl

/-- NOMINAL stored, and the root's own word set out from where it is. -/
def rootSetOut (u w : State) : State := setRootPos w (cwRound w.clk.rootPos (rootTarget u) * cwUnit)

theorem rootSetOut_within (u w : State) : Within [.clk] [] w (rootSetOut u w) := setRootPos_within w _

theorem setRootPos_regs (w : State) (x : Int) : (setRootPos w x).regs = w.regs := rfl

theorem rootSetOut_regs (u w : State) : (rootSetOut u w).regs = w.regs := setRootPos_regs w _

/-- What an allowed write of NOMINAL starts. -/
def nominalStarted (r : State) : State := if holdsNominal r then requestWord r (nominal r) else r

theorem nominalWrite_allowed (u w : State) : nominalWrite u w true = nominalStarted (rootSetOut u w) := rfl

theorem nominalStarted_within (r : State) : Within [.regs, .clk, .sel, .out] [.clk] r (nominalStarted r) :=
  .ite ((requestWord_within _ _).mono (by decide) (by decide)) .refl

theorem nominalLo_written (w v : Word) : writtenWord (fieldsAt 0x10024) true w v = insField w 0 32 (fieldOf v 0 32) := rfl

theorem normWide_nominal (s : State) : normWide s .clk 0 0x24 = s := rfl

theorem storeWrite_nominalLo (s : State) (v : Word) : storeWrite s 0x10024 true v = wideStored s 0x10024 0x10020 v := by
  rw [storeWrite_wide (a := 0x10024) (u := 0x10020) v nominalLo_lands (by decide), nominalLo_written, normWide_nominal]
  rfl

theorem nominalLoWrite_runs {s : State} (v : Word) (h : BarWrites .time s) (ha : getB s Reg.SYS_UNLOCK_ARMED = true) :
    ∃ p u, Within [.regs, .out] [.perf] s p ∧ Within [.regs, .aud, .out] [.aud] (setF p Reg.SYS_UNLOCK_ARMED 0) u ∧
      exec (.nominalLoWrite v) s = ok (nominalStarted (rootSetOut u (wideStored u 0x10024 0x10020 v))) := by
  obtain ⟨p, u, wp, wu, run⟩ := bar0Write_takes v h nominalLo_lands (by decide) (fun _ => ha)
  rw [show unlockTaken p Reg.CLK_NOMINAL_LO.addr = setF p Reg.SYS_UNLOCK_ARMED 0 from if_pos (by decide)] at wu
  have effect (w : State) : writeEffect u w .clk 0 0x24 true v = nominalWrite u w true := rfl
  have store : storeWrite u Reg.CLK_NOMINAL_LO.addr true v = wideStored u 0x10024 0x10020 v := storeWrite_nominalLo u v
  rw [effect, store, nominalWrite_allowed] at run
  exact ⟨p, u, wp, wu, run⟩

theorem nominalLoWrite_applies {s : State} {v : Word} (h : BarWrites .time s) (ha : getB s Reg.SYS_UNLOCK_ARMED = true) :
    Completes (exec (.nominalLoWrite v) s) fun t =>
      BarFrame [.staged, .clk, .sel] [.sys, .clk] s t ∧ getB t Reg.SYS_UNLOCK_ARMED = false ∧ spGet? t.staged Reg.CLK_NOMINAL_HI.addr = none ∧
      nominal t = sext 54 (fieldOf (upperWord s Reg.CLK_NOMINAL_HI.addr) 0 22 * 2 ^ 32 + v.toNat) ∧
      (holdsNominal s = true → getB s Reg.ENG_STEER_STATUS_ACCEPTED = false → t.clk.cwReq = nominal t) ∧
      (holdsNominal s = false → t.clk = { s.clk with rootPos := t.clk.rootPos }) := by
  obtain ⟨p, u, wp, wu, run⟩ := nominalLoWrite_runs v h ha
  have wl : Within [.regs, .out] [.perf, .sys] s (setF p Reg.SYS_UNLOCK_ARMED 0) :=
    setF_in (wp.mono (by decide) (by decide)) (by decide) ⟨.sys, by decide, by simp [Area.has, Reg.SYS_UNLOCK_ARMED]⟩
  have w : Within [.regs, .aud, .out] [.perf, .aud, .sys] s u := wu.after (wl.mono (by decide) (by decide)) (by decide) (by decide)
  have locked : getB u Reg.SYS_UNLOCK_ARMED = false :=
    getB_eq_false ((wu.getF_eq (by simp [Area.has, Reg.SYS_UNLOCK_ARMED])).trans (getF_setF_same _ _ _ (by decide)))
  obtain ⟨r, hr⟩ : ∃ r, r = rootSetOut u (wideStored u 0x10024 0x10020 v) := ⟨_, rfl⟩
  rw [← hr] at run
  -- from the state with the entry, what the write stores and where the root's word sets out
  have ws : Within [.regs, .staged] [.clk] u (wideStored u 0x10024 0x10020 v) :=
    wideStored_within v ⟨.clk, by decide, by simp [Area.has]⟩ ⟨.clk, by decide, by simp [Area.has]⟩
  have wr : Within [.regs, .staged, .clk] [.clk] u r := by rw [hr]; exact (rootSetOut_within _ _).after (ws.mono (by decide) (by decide)) (by decide) (by decide)
  have wt : Within [.regs, .staged, .clk, .sel, .out] [.clk] u (nominalStarted r) :=
    (nominalStarted_within r).after (wr.mono (by decide) (by decide)) (by decide) (by decide)
  have upper : upperWord u 0x10020 = upperWord s 0x10020 :=
    upperWord_congr _ (w.parts .staged (by decide)) (w.regs _ (by simp [Area.has]))
  have stored : nominal r = sext 54 (fieldOf (upperWord s 0x10020) 0 22 * 2 ^ 32 + v.toNat) := by
    have hi : getF r Reg.CLK_NOMINAL_HI = fieldOf (upperWord s 0x10020) 0 22 := by
      rw [← upper, hr, getF_congr (rootSetOut_regs u _)]; exact wideStored_upper v (by decide) nominalHi_field
    have lo : getF r Reg.CLK_NOMINAL_LO = v.toNat := by rw [hr, getF_congr (rootSetOut_regs u _)]; exact wideStored_lower v
    unfold nominal
    rw [getHL_of rfl hi lo]
  have same : nominal (requestWord r (nominal r)) = nominal r :=
    nominal_congr fun a ha => requestWord_regWord _ _ (by obtain rfl | rfl := ha <;> decide)
  have clk : r.clk = { s.clk with rootPos := r.clk.rootPos } := by
    have e : (wideStored u 0x10024 0x10020 v).clk = s.clk := Eq.trans (ws.parts .clk (by decide)) (w.parts .clk (by decide))
    rw [← e, hr]
    exact setRootPos_clk _ _
  have holds : holdsNominal r = holdsNominal s := by
    refine holdsNominal_congr (Eq.trans (wr.parts .mode (by decide)) (w.parts .mode (by decide))) (by rw [clk])
      (Eq.trans (wr.parts .sel (by decide)) (w.parts .sel (by decide))) (Eq.trans (wr.parts .calEntry (by decide)) (w.parts .calEntry (by decide))) fun f hf => ?_
    simp only [Area.has] at hf
    rw [wr.getF_eq (by simp [Area.has]; omega), w.getF_eq (by simp [Area.has]; omega)]
  have accepted : getB r Reg.ENG_STEER_STATUS_ACCEPTED = getB s Reg.ENG_STEER_STATUS_ACCEPTED :=
    (wr.getB_eq (by simp [Area.has, Reg.ENG_STEER_STATUS_ACCEPTED])).trans (w.getB_eq (by simp [Area.has, Reg.ENG_STEER_STATUS_ACCEPTED]))
  have staged : spGet? r.staged 0x10020 = none := by
    rw [hr, (rootSetOut_within _ _).parts .staged (by decide)]; exact wideStored_staged (a := 0x10024) v
  refine ⟨_, run, (wt.after (w.mono (by decide) (by decide)) (by decide) (by decide)).frame,
    (wt.getB_eq (by simp [Area.has, Reg.SYS_UNLOCK_ARMED])).trans locked, ?_, ?_, fun hh hacc => ?_, fun hh => ?_⟩
  · rw [(nominalStarted_within r).parts .staged (by decide)]; exact staged
  · unfold nominalStarted
    split
    · exact same.trans stored
    · exact stored
  · unfold nominalStarted
    rw [if_pos (holds.trans hh), requestWord_untrimmed _ (accepted.trans hacc), same]
  · unfold nominalStarted
    rw [if_neg (by rw [holds, hh]; simp)]
    exact clk

/-! ### OUT_PSTEP (R59, R75) -/

theorem pstepHi_field {n : Nat} (h : n < 14) (w x : Word) :
    fieldOf (writtenWord (fieldsAt (Reg.OUT_OUT_PSTEP_HI n).addr) true w x) 0 9 = fieldOf x 0 9 := by
  have e : writtenWord (fieldsAt (Reg.OUT_OUT_PSTEP_HI n).addr) true w x = insField w 0 9 (fieldOf x 0 9) := by interval_cases n <;> rfl
  rw [e, fieldOf_insField_same _ _ _ _ (by decide), Nat.mod_eq_of_lt (fieldOf_lt _ _ _)]

theorem pstepLo_written {n : Nat} (h : n < 14) (w v : Word) :
    writtenWord (fieldsAt (Reg.OUT_OUT_PSTEP_LO n).addr) true w v = insField w 0 32 (fieldOf v 0 32) := by
  rw [(outPstepLo_lands h).fields (by decide)]; rfl

/-- Taps within the limits of R75 keep their value in 41 bits. -/
theorem sext_pstep {x : Int} (h1 : -640000000000 ≤ x) (h2 : x ≤ 640000000000) :
    sext 41 ((x / 4294967296 % 512).toNat * 4294967296 + (x % 4294967296).toNat) = x := by
  unfold sext
  split <;> omega

theorem pstepTaps_setHL (s : State) (n : Nat) {x : Int} (h1 : -640000000000 ≤ x) (h2 : x ≤ 640000000000) :
    pstepTaps (setHL s (Reg.OUT_OUT_PSTEP_HI n) (Reg.OUT_OUT_PSTEP_LO n) x) n = x := by
  unfold pstepTaps getHL setHL
  rw [getF_setF_ne _ (Reg.OUT_OUT_PSTEP_LO n) (Reg.OUT_OUT_PSTEP_HI n) _ (Nat.le_of_ble_eq_true rfl)
      (.inl (by simp only [Reg.OUT_OUT_PSTEP_HI, Reg.OUT_OUT_PSTEP_LO]; omega)),
    getF_setF_same _ (Reg.OUT_OUT_PSTEP_HI n) _ (Nat.le_of_ble_eq_true rfl), getF_setF_same _ (Reg.OUT_OUT_PSTEP_LO n) _ (Nat.le_of_ble_eq_true rfl)]
  refine Eq.trans (congrArg (sext 41) ?_) (sext_pstep h1 h2)
  simp only [Reg.OUT_OUT_PSTEP_HI, Reg.OUT_OUT_PSTEP_LO]
  omega

theorem clampInt_bounds {lo hi : Int} (h : lo ≤ hi) (x : Int) : lo ≤ clampInt lo hi x ∧ clampInt lo hi x ≤ hi := by
  unfold clampInt
  omega

theorem holdChange_outs (s : State) (n : Nat) (c : OutChange) :
    outS (holdChange s n c) n = { outS s n with pend := some c } ∧ (∀ m, m ≠ n → outS (holdChange s n c) m = outS s m) ∧
      (holdChange s n c).tim.tod = s.tim.tod := by
  have t : (holdChange s n c).tim = (updOut s n fun o => { o with pend := some c }).tim := by
    unfold holdChange
    dsimp only
    split <;> rfl
  exact ⟨(outS_congr t n).trans (outS_updOut_same _ _ _), fun m hm => (outS_congr t m).trans (outS_updOut_ne _ _ hm), by rw [t]; rfl⟩

theorem normWide_pstep (s : State) (n : Nat) : normWide s .outw n 0x30 =
    setHL s (Reg.OUT_OUT_PSTEP_HI n) (Reg.OUT_OUT_PSTEP_LO n) (clampInt (-640000000000) 640000000000 (pstepTaps s n)) := rfl

theorem storeWrite_pstepLo {n : Nat} (hn : n < 14) (s : State) (v : Word) :
    storeWrite s (Reg.OUT_OUT_PSTEP_LO n).addr true v = normWide (wideStored s (Reg.OUT_OUT_PSTEP_LO n).addr (Reg.OUT_OUT_PSTEP_HI n).addr v) .outw n 0x30 := by
  have hu : upperAddrs (Reg.OUT_OUT_PSTEP_LO n).addr = [(Reg.OUT_OUT_PSTEP_HI n).addr] := by interval_cases n <;> decide
  rw [storeWrite_wide v (outPstepLo_lands hn) hu, pstepLo_written hn]
  rfl

theorem outPstepLoWrite_runs {s : State} (v : Word) (h : BarWrites .time s) {n : Nat} (hn : n < 14) :
    ∃ u, Within [.regs, .aud, .out] [.perf, .aud] s u ∧ ∃ k y, k = wideStored u (Reg.OUT_OUT_PSTEP_LO n).addr (Reg.OUT_OUT_PSTEP_HI n).addr v ∧
      y = setHL k (Reg.OUT_OUT_PSTEP_HI n) (Reg.OUT_OUT_PSTEP_LO n) (clampInt (-640000000000) 640000000000 (pstepTaps k n)) ∧
      exec (.outPstepLoWrite n v) s = ok (holdChange y n (.pstep (pstepTaps y n))) := by
  have facts : addrDomain (Reg.OUT_OUT_PSTEP_LO n).addr = .time ∧ hasCls (fieldsAt (Reg.OUT_OUT_PSTEP_LO n).addr) .guard = false := by
    interval_cases n <;> decide
  obtain ⟨hd, hg⟩ := facts
  obtain ⟨u, w, run⟩ := bar0Write_plain v h (outPstepLo_lands hn) hd hg
  have effect (x : State) : writeEffect u x .outw n 0x30 true v = holdChange x n (.pstep (pstepTaps x n)) := rfl
  have instr : exec (.outPstepLoWrite n v) s = bar0Write (Reg.OUT_OUT_PSTEP_LO n).addr 15 v s := if_neg (by omega)
  rw [effect, storeWrite_pstepLo hn, normWide_pstep, ← instr] at run
  exact ⟨u, w, _, _, rfl, rfl, run⟩

theorem outPstepLoWrite_holds {s : State} (v : Word) (h : BarWrites .time s) (n : Nat) (hn : n < 14) :
    Completes (exec (.outPstepLoWrite n v) s) fun t =>
      BarFrame [.staged, .tim] [.dll, .outw] s t ∧ (∀ m, m ≠ n → outS t m = outS s m) ∧ t.tim.tod = s.tim.tod ∧
      outS t n = { outS s n with pend := some (.pstep (clampInt (-640000000000) 640000000000
        (sext 41 (fieldOf (upperWord s (Reg.OUT_OUT_PSTEP_HI n).addr) 0 9 * 2 ^ 32 + v.toNat)))) } := by
  obtain ⟨u, w, k, y, hk, hy, run⟩ := outPstepLoWrite_runs v h hn
  have hi : Hits [.outw] (Reg.OUT_OUT_PSTEP_HI n) := ⟨.outw, by decide, by simp only [Area.has, Reg.OUT_OUT_PSTEP_HI]; omega⟩
  have lo : Hits [.outw] (Reg.OUT_OUT_PSTEP_LO n) := ⟨.outw, by decide, by simp only [Area.has, Reg.OUT_OUT_PSTEP_LO]; omega⟩
  have wk : Within [.regs, .staged] [.outw] u k := by rw [hk]; exact wideStored_within v lo hi
  have wy : Within [.regs, .staged] [.outw] u y := by rw [hy]; exact setHL_in wk (by decide) hi lo
  have wt := (holdChange_within y n (.pstep (pstepTaps y n))).after (l := [.regs, .aud, .out, .staged, .tim]) (g := [.perf, .aud, .dll, .outw])
    (wy.after (w.mono (by decide) (by decide)) (by decide) (by decide)) (by decide) (by decide)
  have outs (m : Nat) : outS y m = outS s m := outS_congr (Eq.trans (wy.parts .tim (by decide)) (w.parts .tim (by decide))) m
  have upper : upperWord u (Reg.OUT_OUT_PSTEP_HI n).addr = upperWord s (Reg.OUT_OUT_PSTEP_HI n).addr :=
    upperWord_congr _ (w.parts .staged (by decide)) (w.regs _ (by simp [Area.has, Reg.OUT_OUT_PSTEP_HI]; omega))
  have taps : pstepTaps k n = sext 41 (fieldOf (upperWord s (Reg.OUT_OUT_PSTEP_HI n).addr) 0 9 * 2 ^ 32 + v.toNat) := by
    have ne : (Reg.OUT_OUT_PSTEP_HI n).addr ≠ (Reg.OUT_OUT_PSTEP_LO n).addr := by simp only [Reg.OUT_OUT_PSTEP_HI, Reg.OUT_OUT_PSTEP_LO]; omega
    have h1 : getF k (Reg.OUT_OUT_PSTEP_HI n) = fieldOf (upperWord s (Reg.OUT_OUT_PSTEP_HI n).addr) 0 9 := by
      rw [← upper, hk]; exact wideStored_upper v ne (pstepHi_field hn)
    have h2 : getF k (Reg.OUT_OUT_PSTEP_LO n) = v.toNat := by rw [hk]; exact wideStored_lower v
    unfold pstepTaps
    rw [getHL_of rfl h1 h2]
  obtain ⟨b1, b2⟩ := clampInt_bounds (lo := -640000000000) (hi := 640000000000) (by decide) (pstepTaps k n)
  have held : pstepTaps y n = clampInt (-640000000000) 640000000000 (pstepTaps k n) := by rw [hy]; exact pstepTaps_setHL k n b1 b2
  obtain ⟨own, others, tod⟩ := holdChange_outs y n (.pstep (pstepTaps y n))
  refine ⟨_, run, wt.frame, fun m hm => (others m hm).trans (outs m), ?_, ?_⟩
  · exact tod.trans (congrArg Tim.tod (Eq.trans (wy.parts .tim (by decide)) (w.parts .tim (by decide))))
  · rw [own, outs, held, taps]

/-- Settles O30: reads of registers, and writes of values of several words. -/
theorem readsAndWideWrites : Obligations.ReadsAndWideWrites :=
  ⟨fun _ _ hup => ⟨corRead_clears hup, corRead_unlisted hup, corRead_unpowered hup, corRead_unassigned hup⟩,
    fun v _ h => ⟨nominalLoWrite_applies h, incLoWrite_applies v h, outPstepLoWrite_holds v h⟩⟩

end Sys2Proof.Machine

end

section
/-! PROOFS. What every step keeps: the bank's canonical form, the bounds of the audit ring, and the time of day below its wrap (R61, R319, R322,
R351). The first two stand in `Within`; the third follows from it but for the commands on which time runs, a step, or a reset. -/

namespace Sys2Proof.Machine

/-- An operation that leaves the time-of-day part alone. -/
theorem todBelow_of_tim {s t : State} (h : t.tim = s.tim) (w : TodBelow s) : TodBelow t := todBelow_congr (congrArg Tim.tod h) w

theorem todBelow_ite {c : Prop} [Decidable c] {t u : State} (ht : TodBelow t) (hu : TodBelow u) : TodBelow (if c then t else u) := by
  split
  · exact ht
  · exact hu

/-- A command with a guard. -/
theorem below_guard {c : Prop} [Decidable c] {s : State} {a b : Host.Outcome State Fault Refusal} (ha : TodBelow (outcomeOr s a))
    (hb : TodBelow (outcomeOr s b)) : TodBelow (outcomeOr s (if c then a else b)) := by
  split
  · exact ha
  · exact hb

/-! ### The runs of time -/

theorem runToGrid_below (unit : Nat) {s : State} (w : TodBelow s) : TodBelow (runToGrid s unit) := todBelow_ite w (advance_below _ w)

theorem runToSync_below (p : Nat) {s : State} (w : TodBelow s) : TodBelow (runToSync s p) := todBelow_ite w (advance_below _ w)

theorem runToRaw_below {s : State} (w : TodBelow s) : TodBelow (runToRaw s) := todBelow_ite (advance_below _ w) (runToGrid_below _ w)

theorem runPs_below (ps : Nat) {s : State} (w : TodBelow s) : TodBelow (runPs s ps) := todBelow_ite (advance_below _ w) w

theorem fireNext_below (n : Nat) {s : State} (w : TodBelow s) : TodBelow (fireNext s n) :=
  todBelow_ite ((outFire_within _ _ _ _).todBelow (by decide) (tick_below w)) ((outFire_within _ _ _ _).todBelow (by decide) (advance_below _ w))

theorem clearEgress_below (f : Nat) {s : State} (w : TodBelow s) : TodBelow (clearEgress s f).1 := by
  have cut := todBelow_ite (c := (egS s f).freeAt ≤ preamblePs s f) w ((cutFor_within s f (preamblePs s f)).todBelow (by decide) w)
  unfold clearEgress
  dsimp only
  generalize (if (egS s f).freeAt ≤ preamblePs s f then s else cutFor s f (preamblePs s f)) = t at cut ⊢
  split
  · exact cut
  · exact runPs_below _ cut

/-! ### Commands on which time runs -/

theorem execPeriodBoundary_below (n : Nat) {s : State} (w : TodBelow s) : TodBelow (outcomeOr s (execPeriodBoundary n s)) := by
  have opened : TodBelow (openPeriod (advance (ticksToRef s) s) n) := (openPeriod_within _ _).todBelow (by decide) (advance_below _ w)
  refine below_guard w (below_guard w (below_guard ?_ ?_))
  · exact (outBoundary_within _ _).todBelow (by decide) w
  · exact todBelow_ite ((fwdEdge_within _ _).todBelow (by decide) opened) opened

theorem execCompareFire_below (n : Nat) {s : State} (w : TodBelow s) : TodBelow (outcomeOr s (execCompareFire n s)) :=
  below_guard w (below_guard w
    ((updOut_within _ _ _).todBelow (by decide) (fireNext_below n ((openAhead_within s n).todBelow (by decide) w))))

theorem execTodSecondBoundary_below {s : State} (w : TodBelow s) : TodBelow (outcomeOr s (execTodSecondBoundary s)) := by
  refine below_guard w ?_
  have run := (engEvent_within _ 0).todBelow (by decide) (advance_below (ticksToNext s (10 ^ 9 * 2 ^ 56)) w)
  have loaded := (Within.fold (fun t e => engLoad_within t e) .refl (List.range 16)).todBelow (by decide) run
  exact (slopeSecond_within _).todBelow (by decide) ((slotsSecond_within _).todBelow (by decide) ((bermAges_within _).todBelow (by decide) loaded))

theorem execTodMillisecondBoundary_below {s : State} (w : TodBelow s) : TodBelow (outcomeOr s (execTodMillisecondBoundary s)) :=
  below_guard w ((countMs_within _).todBelow (by decide)
    ((mirrorAge_within _).todBelow (by decide) ((engEvent_within _ 1).todBelow (by decide) (advance_below _ w))))

theorem execWeirSlewEnd_below {s : State} (w : TodBelow s) : TodBelow (outcomeOr s (execWeirSlewEnd s)) := below_guard (advance_below _ w) w

theorem execRampEnd_below {s : State} (w : TodBelow s) : TodBelow (outcomeOr s (execRampEnd s)) := below_guard (advance_below _ w) w

theorem execBermWindowStart_below (p : Nat) {s : State} (w : TodBelow s) : TodBelow (outcomeOr s (execBermWindowStart p s)) := by
  unfold execBermWindowStart
  split
  · exact w
  split
  · exact w
  dsimp only
  split
  · rw [outcomeOr_ok]
    apply (perf_within _ _ _ _ _ _).todBelow (by decide)
    rw [TodBelow, updPort_tim, setF_tim, setF_tim, setF_tim]
    dsimp only
    cases gapAhead s p with
    | none => exact w
    | some t => exact runTo_below (t * 2 ^ 40) w
  · exact w

theorem execGateChange_below (f : Nat) {s : State} (w : TodBelow s) : TodBelow (outcomeOr s (execGateChange f s)) := by
  refine below_guard w (below_guard w ?_)
  split
  · exact (takeList_within _ _).todBelow (by decide) (runTo_below _ w)
  · exact w

theorem execGateListTakeEffect_below (f : Nat) {s : State} (w : TodBelow s) : TodBelow (outcomeOr s (execGateListTakeEffect f s)) := by
  refine below_guard w (below_guard w ?_)
  split
  · exact (updGate_within _ _ _).todBelow (by decide) (runTo_below _ w)
  · exact w

theorem execFrameTx_below (x : TxStart) {s : State} (w : TodBelow s) : TodBelow (outcomeOr s (execFrameTx x s)) := by
  have run := (settleIngress_within _).todBelow (by decide) (runPs_below (egS s x.f).freeAt w)
  unfold execFrameTx
  dsimp only
  generalize settleIngress (runPs s (egS s x.f).freeAt) = u at *
  have sent (t : State) (h : TodBelow t) (fr : QFrame) (upto : Nat) (last : Bool) : TodBelow (startPart t x.f fr 0 upto last x.cap) :=
    (startPart_within _ _ _ _ _ _ _).todBelow (by decide) h
  split
  · exact w
  split
  · exact w
  split
  · exact run
  split
  · rw [outcomeOr_ok]
    exact (resumePart_within _ _ _).todBelow (by decide) run
  split
  · exact run
  split
  · exact run
  rw [outcomeOr_ok]
  apply (spillCheck_within _ _).todBelow (by decide)
  split
  · apply (updEg_within _ _ _).todBelow (by decide)
    apply sent
    exact run
  · apply sent
    exact run

theorem execSluiceRelease_below (f : Nat) (c : EgressCap) {s : State} (w : TodBelow s) : TodBelow (outcomeOr s (execSluiceRelease f c s)) := by
  have run (x : SFrame) : TodBelow (dropSluice (runTo s (x.release * 2 ^ 40)) x) := (dropSluice_within _ _).todBelow (by decide) (runTo_below _ w)
  refine below_guard w (below_guard w ?_)
  split
  · exact w
  next x _ =>
  refine below_guard w ?_
  have sent (late : Bool) := (sluiceSend_within _ f x c late).todBelow (by decide) (clearEgress_below f (run x))
  refine below_guard ?_ (below_guard ?_ ?_)
  · exact (finishId_within _ _ _ _).todBelow (by decide) ((countSluiceDrop_within _ _).todBelow (by decide) (run x))
  · exact (finishId_within _ _ _ _).todBelow (by decide) (todBelow_of_tim (raise_tim _ _) (run x))
  · exact (finishTx_within _ _ _ _).todBelow (by decide) (todBelow_ite (sent _) (todBelow_of_tim (raise_tim _ _) (sent _)))

theorem execSyncIntervalBoundary_below (p : Nat) {s : State} (w : TodBelow s) : TodBelow (outcomeOr s (execSyncIntervalBoundary p s)) := by
  have run := runToSync_below p w
  unfold execSyncIntervalBoundary
  dsimp only
  generalize runToSync s p = u at *
  have applied : TodBelow (updPort (syncApply (updPort u p (fun o => { o with dieT := getS u Reg.CAL_DIE_TEMP })) p) p
      (fun o => { o with syncAt := some u.now })) :=
    (updPort_within _ _ _).todBelow (by decide) ((syncApply_within _ _).todBelow (by decide) ((updPort_within _ _ _).todBelow (by decide) run))
  refine below_guard w (below_guard w ?_)
  rw [outcomeOr_ok]
  exact (ptpRound_within _ _).todBelow (by decide) (todBelow_ite ((loseSource_within _ _ _).todBelow (by decide) applied) applied)

theorem execTimingFrameTx_below (n : Nat) {s : State} (w : TodBelow s) : TodBelow (outcomeOr s (execTimingFrameTx n s)) := by
  refine below_guard w (below_guard w ?_)
  dsimp only
  rw [outcomeOr_ok]
  exact (sendMarkerFrame_within _ _ _ _).todBelow (by decide) ((updLink_within _ _ _).todBelow (by decide) (advance_below _ w))

theorem execYieldTimerExpiry_below {s : State} (w : TodBelow s) : TodBelow (outcomeOr s (execYieldTimerExpiry s)) := by
  unfold execYieldTimerExpiry
  split
  · exact w
  next u _ =>
    have run : TodBelow { advance (u + 3125 - s.now) s with pair := { (advance (u + 3125 - s.now) s).pair with timer := none } } :=
      todBelow_of_tim rfl (advance_below (u + 3125 - s.now) w)
    dsimp only
    rw [outcomeOr_ok]
    exact todBelow_ite ((yieldNow_within _).todBelow (by decide) run) run

theorem execDualActiveClear_below {s : State} (w : TodBelow s) : TodBelow (outcomeOr s (execDualActiveClear s)) := below_guard (advance_below _ w) w

theorem execGaugeEdge_below (n ps : Nat) {s : State} (w : TodBelow s) : TodBelow (outcomeOr s (execGaugeEdge n ps s)) :=
  have run := runPs_below ps w
  below_guard w (below_guard w (below_guard run (below_guard run run)))

theorem execFreqGateEnd_below (n : Nat) {s : State} (w : TodBelow s) : TodBelow (outcomeOr s (execFreqGateEnd n s)) :=
  below_guard w (below_guard w ((closeGate_within _ _).todBelow (by decide) (advance_below _ w)))

theorem execSignedPairWindowEnd_below (n : Nat) {s : State} (w : TodBelow s) : TodBelow (outcomeOr s (execSignedPairWindowEnd n s)) := by
  refine below_guard w (below_guard ?_ w)
  split
  · exact w
  · exact (settleStart_within _ _).todBelow (by decide) (advance_below _ w)

theorem execCoarseWrap_below {s : State} (w : TodBelow s) : TodBelow (outcomeOr s (execCoarseWrap s)) := below_guard (advance_below _ w) w

theorem execGaugeCorrectionApply_below (n : Nat) {s : State} (w : TodBelow s) : TodBelow (outcomeOr s (execGaugeCorrectionApply n s)) := by
  unfold execGaugeCorrectionApply
  split
  · exact w
  · apply (applyItem_within _ _).todBelow (by decide)
    apply (applyItem_within _ _).todBelow (by decide)
    split
    · exact runPs_below _ w
    · exact w

theorem execCodeEpoch_below (meas : List ChanMeas) {s : State} (w : TodBelow s) : TodBelow (outcomeOr s (execCodeEpoch meas s)) := by
  have run := runToGrid_below (10 ^ 6 * 2 ^ 56) w
  unfold execCodeEpoch
  dsimp only
  generalize runToGrid s (10 ^ 6 * 2 ^ 56) = u at *
  have applied := todBelow_of_tim (raiseIf_tim (decide (CalItem.gnssFe ∈ u.cal.pend)) _ Reg.GNSS_EVENTS_CAL_APPLIED)
    ((applyItem_within u .gnssFe).todBelow (by decide) run)
  have taken (l : List ChanMeas) {t : State} (h : TodBelow t) : TodBelow (l.foldl takeChan t) :=
    (Within.fold takeChan_within .refl l).todBelow (by decide) h
  have idled (t : State) (h : TodBelow t) : TodBelow (chanNos.foldl (fun t ch => if chanState t ch = 3 then idleChan t ch else t) t) :=
    (Within.fold (fun t ch => .ite (idleChan_within t ch) .refl) .refl _).todBelow (by decide) h
  refine below_guard w (below_guard ?_ ?_)
  · rw [outcomeOr_ok]
    exact (solutionLost_within _).todBelow (by decide) (idled _ (taken _ applied))
  · rw [outcomeOr_ok]
    exact idled _ (taken _ applied)

theorem execRawEpoch_below (recs : List RawChan) {s : State} (w : TodBelow s) : TodBelow (outcomeOr s (execRawEpoch recs s)) :=
  have run := runToRaw_below w
  below_guard w (below_guard (todBelow_of_tim (raise_tim _ _) run) run)

/-! ### Resets -/

theorem resetCore_below (s : State) : TodBelow (resetCore s) := resetParts_below _

theorem resetDevice_below (s : State) (code : Nat) : TodBelow (resetDevice s code) := (sysReset_within _ _).todBelow (by decide) (resetCore_below s)

theorem execResetNLow_below {s : State} (w : TodBelow s) : TodBelow (outcomeOr s (execResetNLow s)) := below_guard w (resetDevice_below _ 1)

theorem execPowerOn_below {s : State} (w : TodBelow s) : TodBelow (outcomeOr s (execPowerOn s)) := below_guard (afterPower_below s) w

theorem execAonSupplyLoss_below {s : State} (_ : TodBelow s) : TodBelow (outcomeOr s (execAonSupplyLoss s)) := afterPower_below (cutStore s)

theorem execSupplyCollapse_below (r : Rail) {s : State} (w : TodBelow s) : TodBelow (outcomeOr s (execSupplyCollapse r s)) :=
  below_guard (resetCore_below s) w

/-! ### Command packets -/

theorem cmdDeviceReset_below (s : State) (p : Packet) : TodBelow (cmdDeviceReset s p).1 := resetDevice_below _ 2

theorem cmdStep_below (ws : List Word) {s : State} (w : TodBelow s) : TodBelow (cmdStep s ws).1 := by
  unfold cmdStep
  dsimp only
  split
  · exact w
  split
  · exact w
  split
  · exact todBelow_ite (stepTo_below _ _) (stepTo_below _ _)
  · exact stepTo_below _ _
  · split
    · exact w
    · exact todBelow_ite ((firstAlign_within _ _ _ _ _).todBelow (by decide) (stepTo_below _ _)) (stepTo_below _ _)

/-- Of the opcodes only STEP and DEVICE_RESET touch the counter. -/
theorem runOpcode_below (p : Packet) {s : State} (w : TodBelow s) : TodBelow (runOpcode s p).1 := by
  unfold runOpcode
  split
  · exact (cmdModeSet_within s p).todBelow (by decide) w
  · exact cmdDeviceReset_below s p
  · exact (cmdSnapshot_within s p).todBelow (by decide) w
  · exact (cmdBootWrite_within s p).todBelow (by decide) w
  · exact (cmdBootGo_within s p).todBelow (by decide) w
  · exact (cmdQueueAbort_within s p).todBelow (by decide) w
  · exact (cmdRegRead_within s p).todBelow (by decide) w
  · exact (cmdRegWrite_within s p).todBelow (by decide) w
  · exact cmdStep_below p.words w
  · exact (cmdSlewAccept_within s).todBelow (by decide) w
  · exact (cmdAlignOutputs_within s p.words).todBelow (by decide) w
  · exact (cmdRefSelect_within s p.words).todBelow (by decide) w
  · exact (cmdPtpSend_within s p).todBelow (by decide) w
  · exact (cmdPtpRecv_within s p.words).todBelow (by decide) w
  · exact (cmdBermRun_within s p.words).todBelow (by decide) w
  · exact (cmdMacEdit_within s p.words).todBelow (by decide) w
  · exact (cmdVlanEdit_within s p.words).todBelow (by decide) w
  · exact (cmdGateLoad_within s p.words).todBelow (by decide) w
  · exact (cmdJiethRelay_within s p).todBelow (by decide) w
  · exact (cmdLaneSlip_within s p.words).todBelow (by decide) w
  · exact (cmdGaugeCtrl_within s p.words).todBelow (by decide) w
  · exact (cmdGaugeRead_within s p.words).todBelow (by decide) w
  · exact (cmdGnssCtrl_within s p.words).todBelow (by decide) w
  · exact (cmdGnssRawRead_within s p.words).todBelow (by decide) w
  · exact (cmdGnssPosSet_within s p.words).todBelow (by decide) w
  · exact (cmdEngLoad_within s p.words).todBelow (by decide) w
  · exact (cmdEngStart_within s p.words).todBelow (by decide) w
  · exact (cmdEngStop_within s p.words).todBelow (by decide) w
  · exact (cmdEngRead_within s p.words).todBelow (by decide) w
  · exact (cmdCalRun_within s p.words).todBelow (by decide) w
  · exact (cmdCalAccept_within s p).todBelow (by decide) w
  · exact (cmdCalLoad_within s p.words).todBelow (by decide) w
  · exact (cmdCalCommit_within s p).todBelow (by decide) w
  · exact (cmdCalRead_within s p.words).todBelow (by decide) w
  · exact (cmdDebugOpen_within s p.words).todBelow (by decide) w
  · exact (cmdAuditExport_within s p.words).todBelow (by decide) w
  · exact (cmdAuditAck_within s p.words).todBelow (by decide) w
  · exact (cmdKeyLoad_within s p.words).todBelow (by decide) w
  · exact (cmdKeyZero_within s p.words).todBelow (by decide) w
  · exact (cmdIdRead_within s).todBelow (by decide) w
  · exact (cmdSampleRead_within s p.words).todBelow (by decide) w
  · split <;> exact w
  · exact w
  · exact w

theorem startPacket_below (p : Packet) {s : State} (w : TodBelow s) : TodBelow (startPacket s p) := by
  have up := (takeUp_within s p).todBelow (by decide) w
  unfold startPacket
  dsimp only
  split
  · exact (finish_within _ _ _ _).todBelow (by decide) (todBelow_ite up up)
  · have ran := runOpcode_below p up
    split
    · exact (finish_within _ _ _ _).todBelow (by decide) ran
    · exact ran

theorem execPacketStart_below (late : Bool) {s : State} (w : TodBelow s) : TodBelow (outcomeOr s (execPacketStart late s)) := by
  refine below_guard w ?_
  split
  · exact startPacket_below _ ((cpLate_within _ _ _).todBelow (by decide) w)
  · exact w

theorem opPacket_below (op : Nat) (c : CmdCtx) (ws : List Word) {s : State} (w : TodBelow s) : TodBelow (outcomeOr s (opPacket op c ws s)) := by
  have came := (arrive_within s c.iface c.queue c.slot (1 + ws.length) (packetHeader op c.tag ws.length false c.reply c.queue :: ws)).todBelow
    (by decide) w
  unfold opPacket
  dsimp only
  generalize arrive s c.iface c.queue c.slot (1 + ws.length) (packetHeader op c.tag ws.length false c.reply c.queue :: ws) = a at *
  split_ifs
  · exact w
  split
  · exact came
  rw [outcomeOr_ok]
  apply (acknowledge_within _ _).todBelow (by decide)
  split
  · split
    · exact startPacket_below _ came
    · exact came
  · exact came

/-! ### Every command -/

/-- What a sound state keeps through an operation: the bank's form, the time of day, the audit ring. -/
structure KeepsSound (s t : State) : Prop where
  bank : BankWf s → BankWf t
  tod : TodBelow s → TodBelow t
  audit : AuditOk s → AuditOk t

/-- An operation that does not touch the counter. -/
theorem Within.keeps {l : List StatePart} {g : List Area} {s t : State} (k : Within l g s t) (h : StatePart.tod ∉ l) : KeepsSound s t :=
  ⟨k.bank, k.todBelow h, k.audit⟩

/-- An operation that counts, steps or resets. -/
theorem Within.keepsCounting {l : List StatePart} {g : List Area} {s t : State} (k : Within l g s t) (h : TodBelow s → TodBelow t) : KeepsSound s t :=
  ⟨k.bank, h, k.audit⟩

theorem opPacket_keeps (op : Nat) (c : CmdCtx) (ws : List Word) (s : State) : KeepsSound s (outcomeOr s (opPacket op c ws s)) :=
  (opPacket_within op c ws s).keepsCounting (opPacket_below op c ws)

/-- Every command keeps a state sound. -/
theorem exec_keepsSound : (i : Instr) → (s : State) → KeepsSound s (outcomeOr s (exec i s))
  | .modeSet c ws, s => opPacket_keeps 0x01 c ws s
  | .deviceReset c ws, s => opPacket_keeps 0x02 c ws s
  | .snapshot c ws, s => opPacket_keeps 0x03 c ws s
  | .bootWrite c ws, s => opPacket_keeps 0x04 c ws s
  | .bootGo c ws, s => opPacket_keeps 0x05 c ws s
  | .queueAbort c ws, s => opPacket_keeps 0x06 c ws s
  | .regRead c ws, s => opPacket_keeps 0x07 c ws s
  | .regWrite c ws, s => opPacket_keeps 0x08 c ws s
  | .stepTod c ws, s => opPacket_keeps 0x10 c ws s
  | .slewAccept c ws, s => opPacket_keeps 0x11 c ws s
  | .alignOutputs c ws, s => opPacket_keeps 0x13 c ws s
  | .refSelect c ws, s => opPacket_keeps 0x20 c ws s
  | .ptpSend c ws, s => opPacket_keeps 0x30 c ws s
  | .ptpRecv c ws, s => opPacket_keeps 0x31 c ws s
  | .bermRun c ws, s => opPacket_keeps 0x38 c ws s
  | .macEdit c ws, s => opPacket_keeps 0x40 c ws s
  | .vlanEdit c ws, s => opPacket_keeps 0x41 c ws s
  | .gateLoad c ws, s => opPacket_keeps 0x42 c ws s
  | .jiethRelay c ws, s => opPacket_keeps 0x50 c ws s
  | .laneSlip c ws, s => opPacket_keeps 0x53 c ws s
  | .gaugeCtrl c ws, s => opPacket_keeps 0x60 c ws s
  | .gaugeRead c ws, s => opPacket_keeps 0x61 c ws s
  | .gnssCtrl c ws, s => opPacket_keeps 0x70 c ws s
  | .gnssRawRead c ws, s => opPacket_keeps 0x71 c ws s
  | .gnssPosSet c ws, s => opPacket_keeps 0x72 c ws s
  | .engLoad c ws, s => opPacket_keeps 0x80 c ws s
  | .engStart c ws, s => opPacket_keeps 0x81 c ws s
  | .engStop c ws, s => opPacket_keeps 0x82 c ws s
  | .engRead c ws, s => opPacket_keeps 0x83 c ws s
  | .calRun c ws, s => opPacket_keeps 0x90 c ws s
  | .calAccept c ws, s => opPacket_keeps 0x91 c ws s
  | .calLoad c ws, s => opPacket_keeps 0x92 c ws s
  | .calCommit c ws, s => opPacket_keeps 0x93 c ws s
  | .calRead c ws, s => opPacket_keeps 0x94 c ws s
  | .debugOpen c ws, s => opPacket_keeps 0xA0 c ws s
  | .auditExport c ws, s => opPacket_keeps 0xA1 c ws s
  | .auditAck c ws, s => opPacket_keeps 0xA2 c ws s
  | .keyLoad c ws, s => opPacket_keeps 0xA3 c ws s
  | .keyZero c ws, s => opPacket_keeps 0xA4 c ws s
  | .idRead c ws, s => opPacket_keeps 0xA5 c ws s
  | .sampleRead c ws, s => opPacket_keeps 0xB0 c ws s
  | .fenceAll c ws, s => opPacket_keeps 0xF0 c ws s
  | .sync c ws, s => opPacket_keeps 0xF1 c ws s
  | .nop c ws, s => opPacket_keeps 0xFF c ws s
  | .fenceAllComplete queue, s => (execFenceAllComplete_within queue s).keeps (by decide)
  | .syncComplete queue, s => (execSyncComplete_within queue s).keeps (by decide)
  | .pcieDoorbell queue slot words pkt late, s => (execPcieDoorbell_within queue slot words pkt late s).keeps (by decide)
  | .spiPacketWrite pkt late, s => (execSpiPacketWrite_within pkt late s).keeps (by decide)
  | .spiReplyRead complete, s => (execSpiReplyRead_within complete s).keeps (by decide)
  | .packetStart late, s => (execPacketStart_within late s).keepsCounting (execPacketStart_below late)
  | .registerWrite addr be v, s => (execRegisterWrite_within addr be v s).keeps (by decide)
  | .corRead addr, s => (execCorRead_within addr s).keeps (by decide)
  | .unlock v, s => (execUnlock_within v s).keeps (by decide)
  | .nominalLoWrite v, s => (execNominalLoWrite_within v s).keeps (by decide)
  | .incLoWrite v, s => (execIncLoWrite_within v s).keeps (by decide)
  | .outPstepLoWrite n v, s => (execOutPstepLoWrite_within n v s).keeps (by decide)
  | .applyWrite hbm v, s => (execApplyWrite_within hbm v s).keeps (by decide)
  | .returnWrite n v, s => (execReturnWrite_within n v s).keeps (by decide)
  | .armWrite n v, s => (execArmWrite_within n v s).keeps (by decide)
  | .outEnWrite n v, s => (execOutEnWrite_within n v s).keeps (by decide)
  | .retrain n v, s => (execRetrain_within n v s).keeps (by decide)
  | .linkRoleWrite n v, s => (execLinkRoleWrite_within n v s).keeps (by decide)
  | .slotCfgWrite n v, s => (execSlotCfgWrite_within n v s).keeps (by decide)
  | .phyCfgWrite p v, s => (execPhyCfgWrite_within p v s).keeps (by decide)
  | .mboxInWrite e v, s => (execMboxInWrite_within e v s).keeps (by decide)
  | .mboxOutRead e, s => (execMboxOutRead_within e s).keeps (by decide)
  | .result3Read n, s => (execResult3Read_within n s).keeps (by decide)
  | .svnSet v, s => (execSvnSet_within v s).keeps (by decide)
  | .keyRevoke v, s => (execKeyRevoke_within v s).keeps (by decide)
  | .freeze v, s => (execFreeze_within v s).keeps (by decide)
  | .sampleReset v, s => (execSampleReset_within v s).keeps (by decide)
  | .clrWrite h v, s => (execClrWrite_within h v s).keeps (by decide)
  | .steerCfgWrite v, s => (execSteerCfgWrite_within v s).keeps (by decide)
  | .debugWrite t v, s => (execDebugWrite_within t v s).keeps (by decide)
  | .powerOn, s => (execPowerOn_within s).keepsCounting (execPowerOn_below)
  | .aonSupplyLoss, s => (execAonSupplyLoss_within s).keepsCounting (execAonSupplyLoss_below)
  | .railOutOfWindow r, s => (execRailOutOfWindow_within r s).keeps (by decide)
  | .supplyCollapse r, s => (execSupplyCollapse_within r s).keepsCounting (execSupplyCollapse_below r)
  | .aonExit b, s => (execAonExit_within b s).keeps (by decide)
  | .resetNLow, s => (execResetNLow_within s).keepsCounting (execResetNLow_below)
  | .resetRelease b, s => (execResetRelease_within b s).keeps (by decide)
  | .perstNLow, s => (execPerstNLow_within s).keeps (by decide)
  | .trstNLow, s => (execTrstNLow_within s).keeps (by decide)
  | .bootRootTimeout, s => (execBootRootTimeout_within s).keeps (by decide)
  | .faultEntry cause, s => (execFaultEntry_within cause s).keeps (by decide)
  | .powerSequenceDone, s => (execPowerSequenceDone_within s).keeps (by decide)
  | .keepPowerDown, s => (execKeepPowerDown_within s).keeps (by decide)
  | .wakeEvent src, s => (execWakeEvent_within src s).keeps (by decide)
  | .wakeComplete r, s => (execWakeComplete_within r s).keeps (by decide)
  | .debugClose, s => (execDebugClose_within s).keeps (by decide)
  | .oscLos, s => (execOscLos_within s).keeps (by decide)
  | .oscLosTimeout, s => (execOscLosTimeout_within s).keeps (by decide)
  | .rootLock, s => (execRootLock_within s).keeps (by decide)
  | .ovenOkChange level, s => (execOvenOkChange_within level s).keeps (by decide)
  | .ovenLowTimeout, s => (execOvenLowTimeout_within s).keeps (by decide)
  | .slopeEvaluation n d, s => (execSlopeEvaluation_within n d s).keeps (by decide)
  | .tbWarmRise x, s => (execTbWarmRise_within x s).keeps (by decide)
  | .helperLock locked, s => (execHelperLock_within locked s).keeps (by decide)
  | .pllLock hbm, s => (execPllLock_within hbm s).keeps (by decide)
  | .pllLockTimeout hbm, s => (execPllLockTimeout_within hbm s).keeps (by decide)
  | .dllLock n, s => (execDllLock_within n s).keeps (by decide)
  | .dllUnlock n, s => (execDllUnlock_within n s).keeps (by decide)
  | .periodBoundary n, s => (execPeriodBoundary_within n s).keepsCounting (execPeriodBoundary_below n)
  | .compareFire n, s => (execCompareFire_within n s).keepsCounting (execCompareFire_below n)
  | .todSecondBoundary, s => (execTodSecondBoundary_within s).keepsCounting (execTodSecondBoundary_below)
  | .weirSlewEnd, s => (execWeirSlewEnd_within s).keepsCounting (execWeirSlewEnd_below)
  | .rampEnd, s => (execRampEnd_within s).keepsCounting (execRampEnd_below)
  | .recoveryWindowClose, s => (execRecoveryWindowClose_within s).keeps (by decide)
  | .slotQualified n m, s => (execSlotQualified_within n m s).keeps (by decide)
  | .slotQualLost n cause, s => (execSlotQualLost_within n cause s).keeps (by decide)
  | .gnssIncons n, s => (execGnssIncons_within n s).keeps (by decide)
  | .wtrExpiry n, s => (execWtrExpiry_within n s).keeps (by decide)
  | .selectorEvaluation meas, s => (execSelectorEvaluation_within meas s).keeps (by decide)
  | .switchCommit, s => (execSwitchCommit_within s).keeps (by decide)
  | .switchWindowEnd m, s => (execSwitchWindowEnd_within m s).keeps (by decide)
  | .holdOffEnd, s => (execHoldOffEnd_within s).keeps (by decide)
  | .historyRecord wholeSecond, s => (execHistoryRecord_within wholeSecond s).keeps (by decide)
  | .holdSpecExpiry, s => (execHoldSpecExpiry_within s).keeps (by decide)
  | .phaseWord p beats, s => (execPhaseWord_within p beats s).keeps (by decide)
  | .portSignalLoss p, s => (execPortSignalLoss_within p s).keeps (by decide)
  | .ptpEventRx p m, s => (execPtpEventRx_within p m s).keeps (by decide)
  | .linkDelayUpdate p a b c d, s => (execLinkDelayUpdate_within p a b c d s).keeps (by decide)
  | .syncIntervalBoundary p, s => (execSyncIntervalBoundary_within p s).keepsCounting (execSyncIntervalBoundary_below p)
  | .bermRequest p t, s => (execBermRequest_within p t s).keeps (by decide)
  | .bermGapRequest p a, s => (execBermGapRequest_within p a s).keeps (by decide)
  | .bermWindowStart p, s => (execBermWindowStart_within p s).keepsCounting (execBermWindowStart_below p)
  | .bermWindowEnd txA loopA txB loopB dieTemp, s => (execBermWindowEnd_within txA loopA txB loopB dieTemp s).keeps (by decide)
  | .frameRx f fr, s => (execFrameRx_within f fr s).keeps (by decide)
  | .spillStagedWrite q, s => (execSpillStagedWrite_within q s).keeps (by decide)
  | .spillReadback q, s => (execSpillReadback_within q s).keeps (by decide)
  | .frameTx x, s => (execFrameTx_within x s).keepsCounting (execFrameTx_below x)
  | .macAgeOut vid mac, s => (execMacAgeOut_within vid mac s).keeps (by decide)
  | .gateChange f, s => (execGateChange_within f s).keepsCounting (execGateChange_below f)
  | .gateListTakeEffect f, s => (execGateListTakeEffect_within f s).keepsCounting (execGateListTakeEffect_below f)
  | .sluiceRelease f c, s => (execSluiceRelease_within f c s).keepsCounting (execSluiceRelease_below f c)
  | .linkUp p x, s => (execLinkUp_within p x s).keeps (by decide)
  | .portDown f laneLost, s => (execPortDown_within f laneLost s).keeps (by decide)
  | .flushDone f, s => (execFlushDone_within f s).keeps (by decide)
  | .jiethClockLock n, s => (execJiethClockLock_within n s).keeps (by decide)
  | .jiethAlignDone n words skew, s => (execJiethAlignDone_within n words skew s).keeps (by decide)
  | .jiethHello n h, s => (execJiethHello_within n h s).keeps (by decide)
  | .jiethDelayDone n r1 r2, s => (execJiethDelayDone_within n r1 r2 s).keeps (by decide)
  | .jiethTrainingTimeout n, s => (execJiethTrainingTimeout_within n s).keeps (by decide)
  | .failedTimeout n, s => (execFailedTimeout_within n s).keeps (by decide)
  | .markerRx n m, s => (execMarkerRx_within n m s).keeps (by decide)
  | .timingFrameTx n, s => (execTimingFrameTx_within n s).keepsCounting (execTimingFrameTx_below n)
  | .timingFrameRx n a b, s => (execTimingFrameRx_within n a b s).keeps (by decide)
  | .rtUpdate n m, s => (execRtUpdate_within n m s).keeps (by decide)
  | .fwdClkLost n, s => (execFwdClkLost_within n s).keeps (by decide)
  | .controlFrameRx n f, s => (execControlFrameRx_within n f s).keeps (by decide)
  | .controlAckTimeout n, s => (execControlAckTimeout_within n s).keeps (by decide)
  | .jiethFrameRx n f, s => (execJiethFrameRx_within n f s).keeps (by decide)
  | .flowRx n f, s => (execFlowRx_within n f s).keeps (by decide)
  | .laneLost n k, s => (execLaneLost_within n k s).keeps (by decide)
  | .pairSwitch n, s => (execPairSwitch_within n s).keeps (by decide)
  | .laneRejoined n k, s => (execLaneRejoined_within n k s).keeps (by decide)
  | .roleInTaken v, s => (execRoleInTaken_within v s).keeps (by decide)
  | .yieldTimerExpiry, s => (execYieldTimerExpiry_within s).keepsCounting (execYieldTimerExpiry_below)
  | .dualActiveClear, s => (execDualActiveClear_within s).keepsCounting (execDualActiveClear_below)
  | .mirrorStateFrameTx, s => (execMirrorStateFrameTx_within s).keeps (by decide)
  | .mirrorStateFrameRx f, s => (execMirrorStateFrameRx_within f s).keeps (by decide)
  | .mirrorLost, s => (execMirrorLost_within s).keeps (by decide)
  | .gaugeEdge n ps, s => (execGaugeEdge_within n ps s).keepsCounting (execGaugeEdge_below n ps)
  | .gaugeConversionDone n coarse sub count, s => (execGaugeConversionDone_within n coarse sub count s).keeps (by decide)
  | .freqGateEnd n, s => (execFreqGateEnd_within n s).keepsCounting (execFreqGateEnd_below n)
  | .coarseWrap, s => (execCoarseWrap_within s).keepsCounting (execCoarseWrap_below)
  | .gaugeCorrectionApply n, s => (execGaugeCorrectionApply_within n s).keepsCounting (execGaugeCorrectionApply_below n)
  | .spectralScan lines, s => (execSpectralScan_within lines s).keeps (by decide)
  | .jamUpdate x b, s => (execJamUpdate_within x b s).keeps (by decide)
  | .noiseRefDone power, s => (execNoiseRefDone_within power s).keeps (by decide)
  | .acquisitionDone p c k n, s => (execAcquisitionDone_within p c k n s).keeps (by decide)
  | .channelTrack ch, s => (execChannelTrack_within ch s).keeps (by decide)
  | .channelLost ch, s => (execChannelLost_within ch s).keeps (by decide)
  | .navDataDecode d, s => (execNavDataDecode_within d s).keeps (by decide)
  | .codeEpoch meas, s => (execCodeEpoch_within meas s).keepsCounting (execCodeEpoch_below meas)
  | .gnssSolution fits, s => (execGnssSolution_within fits s).keeps (by decide)
  | .surveyDone x y z, s => (execSurveyDone_within x y z s).keeps (by decide)
  | .rawEpoch recs, s => (execRawEpoch_within recs s).keepsCounting (execRawEpoch_below recs)
  | .ueAdd e d a b, s => (execUeAdd_within e d a b s).keeps (by decide)
  | .ueSub e d a b, s => (execUeSub_within e d a b s).keeps (by decide)
  | .ueAdds e d a b, s => (execUeAdds_within e d a b s).keeps (by decide)
  | .ueSubs e d a b, s => (execUeSubs_within e d a b s).keeps (by decide)
  | .ueAnd e d a b, s => (execUeAnd_within e d a b s).keeps (by decide)
  | .ueOr e d a b, s => (execUeOr_within e d a b s).keeps (by decide)
  | .ueXor e d a b, s => (execUeXor_within e d a b s).keeps (by decide)
  | .ueShl e d a b, s => (execUeShl_within e d a b s).keeps (by decide)
  | .ueShr e d a b, s => (execUeShr_within e d a b s).keeps (by decide)
  | .ueSar e d a b, s => (execUeSar_within e d a b s).keeps (by decide)
  | .ueCmp e d a b, s => (execUeCmp_within e d a b s).keeps (by decide)
  | .ueMul e d a b, s => (execUeMul_within e d a b s).keeps (by decide)
  | .ueMac e d a b, s => (execUeMac_within e d a b s).keeps (by decide)
  | .ueMsu e d a b, s => (execUeMsu_within e d a b s).keeps (by decide)
  | .ueMulu e d a b, s => (execUeMulu_within e d a b s).keeps (by decide)
  | .ueMacu e d a b, s => (execUeMacu_within e d a b s).keeps (by decide)
  | .ueAccx e d a b, s => (execUeAccx_within e d a b s).keeps (by decide)
  | .ueAccl e d a b, s => (execUeAccl_within e d a b s).keeps (by decide)
  | .ueAsra e d a b, s => (execUeAsra_within e d a b s).keeps (by decide)
  | .ueAcca e d a b, s => (execUeAcca_within e d a b s).keeps (by decide)
  | .ueLd e d a b, s => (execUeLd_within e d a b s).keeps (by decide)
  | .ueSt e d a b, s => (execUeSt_within e d a b s).keeps (by decide)
  | .ueLdi e d imm, s => (execUeLdi_within e d imm s).keeps (by decide)
  | .ueLim e d imm, s => (execUeLim_within e d imm s).keeps (by decide)
  | .ueLit e d imm, s => (execUeLit_within e d imm s).keeps (by decide)
  | .ueAddi e d imm, s => (execUeAddi_within e d imm s).keeps (by decide)
  | .ueShli e d imm, s => (execUeShli_within e d imm s).keeps (by decide)
  | .ueSari e d imm, s => (execUeSari_within e d imm s).keeps (by decide)
  | .ueIn e d imm, s => (execUeIn_within e d imm s).keeps (by decide)
  | .ueOutSel e d, s => (execUeOutSel_within e d s).keeps (by decide)
  | .ueOutMboxOut e d, s => (execUeOutMboxOut_within e d s).keeps (by decide)
  | .ueOutTrimStage e d imm, s => (execUeOutTrimStage_within e d imm s).keeps (by decide)
  | .ueFtrimCommit e d, s => (execUeFtrimCommit_within e d s).keeps (by decide)
  | .uePtrimCommit e d, s => (execUePtrimCommit_within e d s).keeps (by decide)
  | .ueOutTimer e d, s => (execUeOutTimer_within e d s).keeps (by decide)
  | .ueOutIrq e d, s => (execUeOutIrq_within e d s).keeps (by decide)
  | .ueWait e imm, s => (execUeWait_within e imm s).keeps (by decide)
  | .waitWake e, s => (execWaitWake_within e s).keeps (by decide)
  | .ueMark e imm, s => (execUeMark_within e imm s).keeps (by decide)
  | .ueJ e target, s => (execUeJ_within e target s).keeps (by decide)
  | .ueBz e target, s => (execUeBz_within e target s).keeps (by decide)
  | .ueBnz e target, s => (execUeBnz_within e target s).keeps (by decide)
  | .ueBlt e target, s => (execUeBlt_within e target s).keeps (by decide)
  | .ueBge e target, s => (execUeBge_within e target s).keeps (by decide)
  | .ueCall e target, s => (execUeCall_within e target s).keeps (by decide)
  | .ueRet e, s => (execUeRet_within e s).keeps (by decide)
  | .ueHalt e, s => (execUeHalt_within e s).keeps (by decide)
  | .engineTimerExpiry e, s => (execEngineTimerExpiry_within e s).keeps (by decide)
  | .userWatchdogExpiry e, s => (execUserWatchdogExpiry_within e s).keeps (by decide)
  | .steerTimeout, s => (execSteerTimeout_within s).keeps (by decide)
  | .counterWrap n, s => (execCounterWrap_within n s).keeps (by decide)
  | .calMeasurementDone r1 r2, s => (execCalMeasurementDone_within r1 r2 s).keeps (by decide)
  | .calStoreDone failed, s => (execCalStoreDone_within failed s).keeps (by decide)
  | .loadClassEval d, s => (execLoadClassEval_within d s).keeps (by decide)
  | .engineNop e, s => (execEngineNop_within e s).keeps (by decide)
  | .perstNDeassertion, s => (execPerstNDeassertion_within s).keeps (by decide)
  | .signedPairWindowEnd n, s => (execSignedPairWindowEnd_within n s).keepsCounting (execSignedPairWindowEnd_below n)
  | .todMillisecondBoundary, s => (execTodMillisecondBoundary_within s).keepsCounting (execTodMillisecondBoundary_below)

/-- A step keeps a state sound, whether it runs a command or lets a tick pass. -/
theorem step_keepsSound {s t : State} (h : step s = .next t) : KeepsSound s t := by
  unfold step at h
  split at h
  · cases h
    exact (tick_within s).keepsCounting tick_below
  · next c r _ =>
    obtain ⟨bank, tod, audit⟩ := exec_keepsSound c { s with pending := r }
    rw [h] at bank tod audit
    exact ⟨bank, tod, audit⟩

/-- Settles O5: what a step touches it leaves sound, and the counter wraps. -/
theorem stepKeepsSound : Obligations.StepKeepsSound := by
  intro s t hb ht ha h
  obtain ⟨bank, tod, audit⟩ := step_keepsSound h
  exact ⟨bank hb, tod ht, audit ha⟩

end Sys2Proof.Machine

end

section
/-! PROOFS. The five-phase pattern of the exact-nominal increment (R63). -/

namespace Sys2Proof.Machine

/-! ### Time that passes -/

/-- Once the divided clocks run, the passing of time is the count of its ticks, beside counters, events and the coarse counter. -/
theorem advance_counts (k : Nat) {s : State} (h : s.clk.started = true) :
    Within [.regs, .coarse, .out] [.gauge, .perf] (countTicks k s) (advance k s) := by
  have counted : Within [.regs, .coarse, .out] [.gauge, .perf] (countTicks k s) (perf (countTicks k s) 0x43 0x23 0 0 (weirTicks s k)) :=
    (perf_within _ _ _ _ _ _).mono (by decide) (by decide)
  unfold advance
  rw [if_pos h]
  dsimp only
  split
  · exact (coarseAdvance_within _ _).after counted (by decide) (by decide)
  · exact counted

theorem advance_tim (k : Nat) {s : State} (h : s.clk.started = true) : (advance k s).tim = timAdvance s k :=
  (advance_counts k h).parts .tim (by decide)

theorem advance_started (k : Nat) {s : State} (h : s.clk.started = true) : (advance k s).clk.started = true := by
  have same : (advance k s).clk = (countTicks k s).clk := (advance_counts k h).parts .clk (by decide)
  rw [same]; exact h

/-! ### The pattern -/

/-- The divided clocks run, INC_EXACT counts, and no slew goes on. -/
structure ExactCount (s : State) : Prop where
  started : s.clk.started = true
  plain : s.tim.numeric = false
  exact : getB s Reg.TIME_TOD_CTRL_INC_EXACT = true
  still : s.tim.weirRem = 0
  phase : s.tim.phase < 5

/-- Units of 2^-16 ns that the tick of a phase adds. -/
def patUnits (p : Nat) : Nat := [104858, 104857, 104858, 104857, 104858].getD p 0

theorem patSum_one {p : Nat} (h : p < 5) : patSum p 1 = patUnits p := by interval_cases p <;> rfl

theorem weirSum_still {s : State} (h : s.tim.weirRem = 0) (k : Nat) : weirSum s k = 0 := by unfold weirSum; simp [h]

namespace ExactCount
variable {s : State} (h : ExactCount s)
include h

theorem incSum_one : incSum s 1 = patUnits s.tim.phase * 2 ^ 40 := by
  unfold incSum
  simp [h.plain, h.exact, patSum_one h.phase]

theorem tick_tod : (tick s).tim.tod = (s.tim.tod + patUnits s.tim.phase * 2 ^ 40) % todWrap := by
  unfold tick
  rw [advance_tim 1 h.started]
  unfold timAdvance
  dsimp only
  rw [weirSum_still h.still, h.incSum_one, Int.add_zero, ← Int.natCast_emod, Int.toNat_natCast]

theorem tick_phase : (tick s).tim.phase = (s.tim.phase + 1) % 5 := by
  unfold tick
  rw [advance_tim 1 h.started]
  rfl

/-- A tick leaves the count exact. -/
theorem after_tick : ExactCount (tick s) where
  started := advance_started 1 h.started
  plain := by unfold tick; rw [advance_tim 1 h.started]; exact h.plain
  exact := ((tick_within s).getB_eq (by simp [Area.has, Reg.TIME_TOD_CTRL_INC_EXACT])).trans h.exact
  still := by
    unfold tick
    rw [advance_tim 1 h.started]
    unfold timAdvance
    dsimp only
    rw [weirSum_still h.still, h.still, Int.sub_zero]
  phase := by rw [h.tick_phase]; omega

/-- No bit below the visible ones is touched: the wrap is a whole number of visible units. -/
theorem tick_hidden : (tick s).tim.tod % 2 ^ 40 = s.tim.tod % 2 ^ 40 := by
  have wrap : (2 : Nat) ^ 40 ∣ todWrap := ⟨2 ^ 64 * 10 ^ 9, by decide⟩
  rw [h.tick_tod, Nat.mod_mod_of_dvd _ wrap, Nat.add_mul_mod_self_right]

/-- The pattern's five ticks add 8 ns whatever phase they start at. -/
theorem five_ticks : (tick (tick (tick (tick (tick s))))).tim.tod = (s.tim.tod + 8 * 2 ^ 56) % todWrap := by
  have h1 := h.after_tick
  have h2 := h1.after_tick
  have h3 := h2.after_tick
  have h4 := h3.after_tick
  have units : ∀ p, p < 5 → patUnits p + patUnits ((p + 1) % 5) + patUnits ((p + 2) % 5) + patUnits ((p + 3) % 5) + patUnits ((p + 4) % 5) = 8 * 2 ^ 16 := by
    decide
  have sum : patUnits s.tim.phase * 2 ^ 40 + (patUnits ((s.tim.phase + 1) % 5) * 2 ^ 40 + (patUnits ((s.tim.phase + 2) % 5) * 2 ^ 40 +
      (patUnits ((s.tim.phase + 3) % 5) * 2 ^ 40 + patUnits ((s.tim.phase + 4) % 5) * 2 ^ 40))) = 8 * 2 ^ 56 := by
    have := units _ h.phase
    omega
  rw [h4.tick_tod, h3.tick_tod, h2.tick_tod, h1.tick_tod, h.tick_tod, h3.tick_phase, h2.tick_phase, h1.tick_phase, h.tick_phase]
  simp only [Nat.mod_add_mod, Nat.add_assoc, Nat.reduceAdd]
  rw [sum]

end ExactCount

/-- Settles O7: the pattern tick by tick, and its sum over five of them. -/
theorem exactIncrement : Obligations.ExactIncrement := by
  refine ⟨by decide +kernel, by decide, fun s hs hn he hw hp => ?_⟩
  have h : ExactCount s := ⟨hs, hn, he, hw, hp⟩
  exact ⟨h.tick_tod, h.tick_phase, h.tick_hidden, h.five_ticks⟩

end Sys2Proof.Machine

end

section
/-! PROOFS. SLEW_ACCEPT while a slot waits to be selected (R71, R77, R128, R136). -/

namespace Sys2Proof.Machine

/-- HOLDOVER as R136 leaves it: the last clean slot is lost; slot 0, a port, is still qualified but suspect, and counts as qualifying on the
next evaluation. Its offset is 2 s, above STEP_THR; nothing is selected, nothing is pending. -/
def suspectLeft : State :=
  setF (setF (setF (setF
    { ({} : State) with
      mode := .holdover, power := .full, domains := [.aon, .host, .time, .eng, .lineA], pcieUp := true
      sel := { everSelected := true, slots := [{ meas := some { ofs := 2 * 65536 * 10 ^ 9, freq := 0, ofs10 := 2 * 65536 * 10 ^ 9 } }] } }
    (Reg.SLOT_SLOT_CFG_EN 0) 1) (Reg.SLOT_SLOT_CFG_RANK 0) 1) (Reg.SLOT_SLOT_STATUS_QUALIFIED 0) 1) (Reg.SLOT_SLOT_STATUS_PHASE_SUSPECT 0) 1

/-- A SLEW_ACCEPT through PCI Express can start there: HOLDOVER is a mode of it, and nothing holds it. -/
theorem suspectLeft_ready : Ready 0x11 {} [] suspectLeft := by
  refine ⟨⟨⟨by decide, by decide, by decide, by decide⟩, by decide, by decide, by decide⟩, ?_⟩
  exact ⟨_, rfl, by decide, fun _ => by decide +kernel, by decide⟩

/-- The state after it. -/
def suspectAccepted : State := outcomeOr suspectLeft (exec (.slewAccept {} []) suspectLeft)

/-- Slot 0 is suspect no more, so the selector moves to ACQUIRE and selects it, and R77 holds its offset pending. -/
theorem suspectAccepted_pends :
    suspectAccepted.mode = .acquire ∧ selected suspectAccepted = some 0 ∧ slotSuspect suspectAccepted 0 = false ∧
      suspectAccepted.tim.pend = some (2 * 65536 * 10 ^ 9) := by
  decide +kernel

/-- Refutes O18: in HOLDOVER with nothing pending and one suspect slot left (R136), SLEW_ACCEPT clears the suspect, the selector then selects
it (R128), and its offset above STEP_THR is held pending (R77). -/
theorem not_timePackets : ¬ Obligations.TimePackets := by
  intro h
  obtain ⟨-, slewAccept, -, -⟩ := h
  obtain ⟨-, suspectOnly, -, -⟩ := slewAccept {} suspectLeft suspectLeft_ready
  obtain ⟨t, ht, -, nonePending, -⟩ := suspectOnly 0 (by decide) (by decide +kernel) (by decide +kernel)
  have e : suspectAccepted = t := by unfold suspectAccepted; rw [ht]; rfl
  obtain ⟨-, -, -, pends⟩ := suspectAccepted_pends
  rw [e, nonePending] at pends
  cases pends

end Sys2Proof.Machine

end

section
/-! PROOFS. The counters of a fabric port, and what admission and cut-through read of the state (R177 to R181, R190, R191). -/

namespace Sys2Proof.Machine

/-! ### Counters (R203, R321) -/

section counted
variable {hi lo : Fld} {k : Nat} {s t u : State}

/-- What leaves a counter's words after it has counted leaves the count. -/
theorem Counted.then (h : Counted hi lo k s t) (hh : regWord u hi.addr = regWord t hi.addr) (hl : regWord u lo.addr = regWord t lo.addr) :
    Counted hi lo k s u := by
  unfold Counted at *
  rw [getHL_congr hh hl, h]

/-- What left a counter's words before it counts makes no difference. -/
theorem Counted.since (h : Counted hi lo k t u) (hh : regWord t hi.addr = regWord s hi.addr) (hl : regWord t lo.addr = regWord s lo.addr) :
    Counted hi lo k s u := by
  unfold Counted at *
  rw [h, getHL_congr hh hl]

theorem Counted.within {l : List StatePart} {g : List Area} (h : Counted hi lo k s t) (w : Within l g t u)
    (hg : ∀ x ∈ g, ¬ x.has hi.addr ∧ ¬ x.has lo.addr) : Counted hi lo k s u :=
  h.then (w.regs _ fun x m => (hg x m).1) (w.regs _ fun x m => (hg x m).2)

end counted

/-- A counter of fabric port `f`: two whole words at `o` and `o + 4` of its window. -/
def PortCounter (f o : Nat) (hi lo : Fld) : Prop := hi = ⟨0x81000 + o + 0x80 * (f % 42), 0, 32⟩ ∧ lo = ⟨0x81004 + o + 0x80 * (f % 42), 0, 32⟩

section portCounter
variable {f o : Nat} {hi lo : Fld}

theorem PortCounter.counts (h : PortCounter f o hi lo) (s : State) (k : Nat) : Counted hi lo k s (incHL s hi lo k) := by
  obtain ⟨rfl, rfl⟩ := h
  exact incHL_counted s k ⟨rfl, rfl⟩ ⟨rfl, rfl⟩ (by dsimp only; omega)

/-- A counter of a window lies in no group but that of the fabric ports. -/
theorem PortCounter.apart (h : PortCounter f o hi lo) (ho : o < 0x80) {l : List StatePart} {g : List Area} {s t u : State} {k : Nat}
    (c : Counted hi lo k s t) (w : Within l g t u) (hg : ∀ x ∈ g, x ∈ [Area.fab, .queue, .perf, .sec, .aud, .cmd]) : Counted hi lo k s u := by
  obtain ⟨rfl, rfl⟩ := h
  refine c.within w fun x m => ?_
  have := hg x m
  simp only [List.mem_cons, List.not_mem_nil, or_false] at this
  obtain rfl | rfl | rfl | rfl | rfl | rfl := this <;> simp only [Area.has] <;> omega

/-- Another counter of the window leaves its words. -/
theorem PortCounter.untouched {o' : Nat} {hi' lo' : Fld} (h : PortCounter f o hi lo) (h' : PortCounter f o' hi' lo') (hd : o + 4 < o' ∨ o' + 4 < o)
    (t : State) (k : Nat) : regWord (incHL t hi' lo' k) hi.addr = regWord t hi.addr ∧ regWord (incHL t hi' lo' k) lo.addr = regWord t lo.addr := by
  obtain ⟨rfl, rfl⟩ := h
  obtain ⟨rfl, rfl⟩ := h'
  exact ⟨regWord_incHL_ne _ _ _ _ (by dsimp only; omega) (by dsimp only; omega), regWord_incHL_ne _ _ _ _ (by dsimp only; omega) (by dsimp only; omega)⟩

/-- Another counter of the window counts after it. -/
theorem PortCounter.other {o' : Nat} {hi' lo' : Fld} (h : PortCounter f o hi lo) (h' : PortCounter f o' hi' lo') (hd : o + 4 < o' ∨ o' + 4 < o)
    {s t : State} {k : Nat} (c : Counted hi lo k s t) (k' : Nat) : Counted hi lo k s (incHL t hi' lo' k') :=
  c.then (h.untouched h' hd t k').1 (h.untouched h' hd t k').2

end portCounter

theorem rxFrames_counter (f : Nat) : PortCounter f 0x10 (Reg.FP_RX_FRAMES_HI f) (Reg.FP_RX_FRAMES_LO f) := ⟨rfl, rfl⟩
theorem rxBytes_counter (f : Nat) : PortCounter f 0x18 (Reg.FP_RX_BYTES_HI f) (Reg.FP_RX_BYTES_LO f) := ⟨rfl, rfl⟩
theorem rxRunt_counter (f : Nat) : PortCounter f 0x38 (Reg.FP_RX_RUNT_HI f) (Reg.FP_RX_RUNT_LO f) := ⟨rfl, rfl⟩
theorem rxDiscard_counter (f : Nat) : PortCounter f 0x48 (Reg.FP_RX_DISCARD_HI f) (Reg.FP_RX_DISCARD_LO f) := ⟨rfl, rfl⟩
theorem dropAdmit_counter (f : Nat) : PortCounter f 0x50 (Reg.FP_DROP_ADMIT_HI f) (Reg.FP_DROP_ADMIT_LO f) := ⟨rfl, rfl⟩

theorem countDiscard_counts (s : State) (f : Nat) : Counted (Reg.FP_RX_DISCARD_HI f) (Reg.FP_RX_DISCARD_LO f) 1 s (countDiscard s f) :=
  (rxDiscard_counter f).apart (by decide) ((rxDiscard_counter f).counts s 1) (perfDrop_within _ _ _) (by decide)

theorem countAdmit_counts (s : State) (f tc : Nat) : Counted (Reg.FP_DROP_ADMIT_HI f) (Reg.FP_DROP_ADMIT_LO f) 1 s (countAdmit s f tc) :=
  (dropAdmit_counter f).apart (by decide) ((dropAdmit_counter f).counts s 1) (perfDrop_within _ _ _) (by decide)

/-! ### What admission and cut-through read -/

/-- A register that counts: of a fabric port's window all but its settings and status; LEARN_FAIL. -/
def IsRxCount (a : Nat) : Prop := (0x81000 ≤ a ∧ a < 0x82500 ∧ 0x10 ≤ a % 0x80) ∨ a = Reg.FAB_LEARN_FAIL.addr

/-- What happens to a frame on its way to its egress leaves what admission and cut-through read: it counts, learns, and frees cells of a link. -/
structure RxKept (s t : State) : Prop where
  words : ∀ a, ¬ IsRxCount a → regWord t a = regWord s a
  fab : t.fab = { s.fab with cells := t.fab.cells, macs := t.fab.macs }
  links : ∀ n, (linkS t n).credit = (linkS s n).credit ∧ (linkS t n).cellsSent = (linkS s n).cellsSent ∧ (linkS t n).replay = (linkS s n).replay
  parts : Only [.regs, .jieth, .fab, .out] s t

section rxKept
variable {s t u : State}

theorem RxKept.refl (s : State) : RxKept s s := ⟨fun _ _ => rfl, rfl, fun _ => ⟨rfl, rfl, rfl⟩, fun p _ => .refl p s⟩

theorem RxKept.after (k : RxKept t u) (h : RxKept s t) : RxKept s u where
  words a i := (k.words a i).trans (h.words a i)
  fab := by rw [k.fab, h.fab]
  links n := by
    obtain ⟨h1, h2, h3⟩ := h.links n
    obtain ⟨k1, k2, k3⟩ := k.links n
    exact ⟨k1.trans h1, k2.trans h2, k3.trans h3⟩
  parts p m := (h.parts p m).trans (k.parts p m)

/-- An operation that touches only counts of the register bank. -/
theorem RxKept.of_words {l : List StatePart} {g : List Area} (w : Within l g s t) (hl : ∀ p, p ∉ [.regs, .out] → p ∉ l)
    (h : ∀ a, ¬ IsRxCount a → regWord t a = regWord s a) : RxKept s t where
  words := h
  fab := by rw [show t.fab = s.fab from w.parts .fab (hl _ (by decide))]
  links n := by unfold linkS; rw [show t.jieth = s.jieth from w.parts .jieth (hl _ (by decide))]; exact ⟨rfl, rfl, rfl⟩
  parts p m := w.parts p (hl p fun i => m (by
    simp only [List.mem_cons, List.not_mem_nil, or_false] at i
    obtain rfl | rfl := i <;> decide))

theorem RxKept.getF_eq (h : RxKept s t) {f : Fld} (i : ¬ IsRxCount f.addr) : getF t f = getF s f := getF_eq_of_regWord (h.words _ i)

theorem RxKept.getB_eq (h : RxKept s t) {f : Fld} (i : ¬ IsRxCount f.addr) : getB t f = getB s f := getB_eq_of_regWord (h.words _ i)

theorem RxKept.frames_eq (h : RxKept s t) : t.fab.frames = s.fab.frames := by rw [h.fab]
theorem RxKept.sluice_eq (h : RxKept s t) : t.fab.sluice = s.fab.sluice := by rw [h.fab]
theorem RxKept.vlans_eq (h : RxKept s t) : t.fab.vlans = s.fab.vlans := by rw [h.fab]
theorem RxKept.gateS_eq (h : RxKept s t) (f : Nat) : gateS t f = gateS s f := by unfold gateS; rw [h.fab]
theorem RxKept.egS_eq (h : RxKept s t) (f : Nat) : egS t f = egS s f := by unfold egS; rw [h.fab]
theorem RxKept.tim_eq (h : RxKept s t) : t.tim = s.tim := h.parts .tim (by decide)
theorem RxKept.now_eq (h : RxKept s t) : t.now = s.now := h.parts .now (by decide)
theorem RxKept.mode_eq (h : RxKept s t) : t.mode = s.mode := h.parts .mode (by decide)
theorem RxKept.portS_eq (h : RxKept s t) (p : Nat) : portS t p = portS s p := by unfold portS; rw [show t.ports = s.ports from h.parts .ports (by decide)]

end rxKept

end Sys2Proof.Machine

end

section
/-! PROOFS. Admission and cut-through are the same before and after what a frame meets on its way (R178, R180, R188, R190). -/

namespace Sys2Proof.Machine

section rxKept
variable {s t : State} (h : RxKept s t)
include h

/-! ### Tables and classes -/

theorem RxKept.vlanOf_eq (vid : Nat) : vlanOf t vid = vlanOf s vid := by unfold vlanOf; rw [h.vlans_eq]

theorem RxKept.ingressVid_eq (f : Nat) (fr : FrameIn) : ingressVid t f fr = ingressVid s f fr := by
  unfold ingressVid
  rw [h.getF_eq (f := Reg.FP_SW_CFG_PVID f) (by simp only [IsRxCount, Reg.FP_SW_CFG_PVID, Reg.FAB_LEARN_FAIL]; omega)]

theorem RxKept.trafficClass_eq (f : Nat) (fr : FrameIn) : trafficClass t f fr = trafficClass s f fr := by
  unfold trafficClass
  rw [h.getF_eq (f := Reg.FP_SW_CFG_PCP_MAP f) (by simp only [IsRxCount, Reg.FP_SW_CFG_PCP_MAP, Reg.FAB_LEARN_FAIL]; omega)]

theorem RxKept.forwards_eq : forwards t = forwards s := by unfold forwards; rw [h.mode_eq]

theorem RxKept.macLive_eq (e : MacEntry) : macLive t e = macLive s e := by
  unfold macLive ageTicks
  rw [h.now_eq, h.getF_eq (f := Reg.FAB_CFG_AGE_S) (by simp [IsRxCount, Reg.FAB_CFG_AGE_S, Reg.FAB_LEARN_FAIL])]

theorem RxKept.macFind_eq (hm : t.fab.macs = s.fab.macs) (vid mac : Nat) : macFind t vid mac = macFind s vid mac := by
  unfold macFind; simp only [hm, h.macLive_eq]

theorem RxKept.bucketFree_eq (hm : t.fab.macs = s.fab.macs) (vid mac : Nat) : bucketFree t vid mac = bucketFree s vid mac := by
  unfold bucketFree bucketOf; simp only [hm, h.macLive_eq]

theorem RxKept.egressPorts_eq (hm : t.fab.macs = s.fab.macs) (f vid dst : Nat) (v : Vlan) : egressPorts t f vid dst v = egressPorts s f vid dst v := by
  unfold egressPorts; rw [h.macFind_eq hm]

/-! ### Queues and cells -/

theorem RxKept.queueOf_eq (q : Nat) : queueOf t q = queueOf s q := by unfold queueOf; rw [h.frames_eq]

theorem RxKept.queueOcc_eq (q : Nat) : queueOcc t q = queueOcc s q := by unfold queueOcc; rw [h.queueOf_eq]

theorem RxKept.polderFree_eq : polderFree t = polderFree s := by unfold polderFree polderUsed sluiceCells; rw [h.frames_eq, h.sluice_eq]

/-! ### The egress: rate, gates, gap, preemption -/

theorem RxKept.linkState_eq (n : Nat) : getF t (Reg.LINK_LINK_STATUS_STATE n) = getF s (Reg.LINK_LINK_STATUS_STATE n) :=
  h.getF_eq (by simp only [IsRxCount, Reg.LINK_LINK_STATUS_STATE, Reg.FAB_LEARN_FAIL]; omega)

theorem RxKept.fabUp_eq (f : Nat) : fabUp t f = fabUp s f := h.getB_eq (by simp only [IsRxCount, Reg.FP_SW_STATUS_LINK_UP, Reg.FAB_LEARN_FAIL]; omega)

theorem RxKept.flushing_eq (f : Nat) : getB t (Reg.FP_SW_STATUS_FLUSHING f) = getB s (Reg.FP_SW_STATUS_FLUSHING f) :=
  h.getB_eq (by simp only [IsRxCount, Reg.FP_SW_STATUS_FLUSHING, Reg.FAB_LEARN_FAIL]; omega)

theorem RxKept.spilling_eq (q : Nat) : getB t (Reg.Q_Q_CFG_SPILLING q) = getB s (Reg.Q_Q_CFG_SPILLING q) :=
  h.getB_eq (by simp only [IsRxCount, Reg.Q_Q_CFG_SPILLING, Reg.FAB_LEARN_FAIL]; omega)

theorem RxKept.fbHi_eq (q : Nat) : getF t (Reg.Q_Q_FB_HI q) = getF s (Reg.Q_Q_FB_HI q) :=
  h.getF_eq (by simp only [IsRxCount, Reg.Q_Q_FB_HI, Reg.FAB_LEARN_FAIL]; omega)

theorem RxKept.polderRsv_eq : getF t Reg.FAB_POLDER_RSV = getF s Reg.FAB_POLDER_RSV := h.getF_eq (by simp [IsRxCount, Reg.FAB_POLDER_RSV, Reg.FAB_LEARN_FAIL])

theorem RxKept.learnEn_eq : getB t Reg.FAB_CFG_LEARN_EN = getB s Reg.FAB_CFG_LEARN_EN := h.getB_eq (by simp [IsRxCount, Reg.FAB_CFG_LEARN_EN, Reg.FAB_LEARN_FAIL])

theorem RxKept.portMbps_eq (f : Nat) : portMbps t f = portMbps s f := by
  have hb := portBase_range f
  unfold portMbps portRate
  rw [h.linkState_eq, h.getF_eq (f := Reg.PORT_PHY_CFG_RATE f) (by simp only [IsRxCount, Reg.PORT_PHY_CFG_RATE, Reg.FAB_LEARN_FAIL]; omega)]

theorem RxKept.bytePs_eq (f : Nat) : bytePs t f = bytePs s f := by unfold bytePs bytesPs; rw [h.portMbps_eq]

theorem RxKept.todVis_eq : todVis t = todVis s := by unfold todVis; rw [h.tim_eq]

theorem RxKept.todWholeNs_eq : todWholeNs t = todWholeNs s := by unfold todWholeNs; rw [h.tim_eq]

theorem RxKept.inGap_eq (f : Nat) : inGap t f = inGap s f := by unfold inGap; rw [h.portS_eq, h.todVis_eq]

theorem RxKept.gatesAt_eq (f x : Nat) : gatesAt t f x = gatesAt s f x := by
  unfold gatesAt
  rw [h.gateS_eq, h.getB_eq (f := Reg.FP_SW_CFG_GATE_EN f) (by simp only [IsRxCount, Reg.FP_SW_CFG_GATE_EN, Reg.FAB_LEARN_FAIL]; omega)]

theorem RxKept.gateOpen_eq (f tc : Nat) : gateOpen t f tc = gateOpen s f tc := by unfold gateOpen; rw [h.todWholeNs_eq, h.gatesAt_eq]

theorem RxKept.gateCloses_eq (f tc : Nat) : gateCloses t f tc = gateCloses s f tc := by
  unfold gateCloses boundsAhead gateBounds
  simp only [h.todWholeNs_eq, h.gatesAt_eq, h.gateS_eq]

theorem RxKept.preemptActive_eq (f : Nat) : preemptActive t f = preemptActive s f := by
  unfold preemptActive
  rw [h.getB_eq (f := Reg.FP_SW_STATUS_PREEMPT_ACTIVE f) (by simp only [IsRxCount, Reg.FP_SW_STATUS_PREEMPT_ACTIVE, Reg.FAB_LEARN_FAIL]; omega)]

theorem RxKept.roomFor_eq (f tc : Nat) : roomFor t f tc = roomFor s f tc := by
  unfold roomFor
  rw [h.bytePs_eq, h.tim_eq, h.gateCloses_eq, h.preemptActive_eq, h.sluice_eq]

theorem RxKept.minFrag_eq (f : Nat) : minFrag t f = minFrag s f := by
  unfold minFrag
  rw [h.getF_eq (f := Reg.FP_SW_CFG_ADD_FRAG f) (by simp only [IsRxCount, Reg.FP_SW_CFG_ADD_FRAG, Reg.FAB_LEARN_FAIL]; omega)]

theorem RxKept.preemptable_eq (q : Nat) : preemptable t q = preemptable s q := by
  unfold preemptable
  rw [h.preemptActive_eq, h.getB_eq (f := Reg.Q_Q_CFG_EXPRESS q) (by simp only [IsRxCount, Reg.Q_Q_CFG_EXPRESS, Reg.FAB_LEARN_FAIL]; omega)]

theorem RxKept.jiethMay_eq (n cls len : Nat) : jiethMay t n cls len = jiethMay s n cls len := by
  obtain ⟨hc, hs, hr⟩ := h.links n
  unfold jiethMay linkCarries replayBytes jiethCredit
  rw [h.linkState_eq, hc, hs, hr]

theorem RxKept.mayStart_eq (q len sent : Nat) : mayStart t q len sent = mayStart s q len sent := by
  unfold mayStart fragBytes
  dsimp only
  rw [h.jiethMay_eq, h.roomFor_eq, h.preemptable_eq, h.minFrag_eq]

theorem RxKept.cutThrough_eq (f g tc len : Nat) : cutThrough t f g tc len = cutThrough s f g tc len := by
  unfold cutThrough nowPs
  rw [h.getB_eq (f := Reg.FP_SW_CFG_CUT_THROUGH g) (by simp only [IsRxCount, Reg.FP_SW_CFG_CUT_THROUGH, Reg.FAB_LEARN_FAIL]; omega), h.portMbps_eq g,
    h.portMbps_eq f, h.queueOf_eq, h.gateOpen_eq, h.fabUp_eq, h.flushing_eq, h.inGap_eq, h.egS_eq, h.now_eq, h.mayStart_eq]

end rxKept

end Sys2Proof.Machine

end

section
/-! PROOFS. FRAME_RX: a frame is counted, learned, queued or discarded (R104, R177 to R181, R184, R190, R191, R193). -/

namespace Sys2Proof.Machine

/-! ### From the ingress FIFO to the queue -/

/-- The state in which the fabric has a frame of `len` bytes from an ingress FIFO. -/
def fabTakes (s : State) (len : Nat) : State := { s with fab := { s.fab with cells := s.fab.cells + cellsOf len } }

/-- The state in which a frame with a good FCS of port `f` is counted (R203). -/
def rxCounts (s : State) (f len : Nat) : State :=
  incHL (incHL s (Reg.FP_RX_FRAMES_HI f) (Reg.FP_RX_FRAMES_LO f) 1) (Reg.FP_RX_BYTES_HI f) (Reg.FP_RX_BYTES_LO f) len

/-- The state in which a frame of `n` cells waits in the Polder. -/
def queued (s : State) (x : QFrame) (n : Nat) : State :=
  { s with fab := { s.fab with frames := s.fab.frames ++ [{ x with pol := n, stg := 0, spl := 0 }] } }

section taken
variable (s : State) (f : Nat) (len : Nat)

theorem freeCells_rxKept (h : Held) : RxKept s (freeCells s h) where
  words _ _ := by unfold freeCells; split <;> rfl
  fab := by unfold freeCells; split <;> rfl
  links n := by
    unfold freeCells
    split
    · by_cases e : n = h.f - 36
      · subst e; rw [linkS_updLink_same]; exact ⟨rfl, rfl, rfl⟩
      · rw [linkS_updLink_ne _ _ e]; exact ⟨rfl, rfl, rfl⟩
    · exact ⟨rfl, rfl, rfl⟩
  parts p m := (freeCells_within s h).parts p fun i => m (by rw [List.mem_singleton.mp i]; decide)

theorem fabTakes_within : Within [.fab] [] s (fabTakes s len) :=
  .upd (t := s) rfl rfl .refl (fun p hp => by cases p <;> first | exact absurd (by decide) hp | rfl)

theorem fabTakes_rxKept : RxKept s (fabTakes s len) :=
  ⟨fun _ _ => rfl, rfl, fun _ => ⟨rfl, rfl, rfl⟩, fun p m => (fabTakes_within s len).parts p fun i => m (by rw [List.mem_singleton.mp i]; decide)⟩

theorem freeCells_macs (h : Held) : (freeCells s h).fab.macs = s.fab.macs := by
  unfold freeCells
  split <;> rfl

theorem rxCounts_within : Within [.regs] [.fport] s (rxCounts s f len) :=
  incHL_in (incHL_in .refl (by decide) (by simp only [hits_nil, hits_cons, Area.has, Reg.FP_RX_FRAMES_HI]; omega)
    (by simp only [hits_nil, hits_cons, Area.has, Reg.FP_RX_FRAMES_LO]; omega)) (by decide)
    (by simp only [hits_nil, hits_cons, Area.has, Reg.FP_RX_BYTES_HI]; omega) (by simp only [hits_nil, hits_cons, Area.has, Reg.FP_RX_BYTES_LO]; omega)

/-- A counter of a fabric port's window counts, and no more. -/
theorem PortCounter.rxKept {o : Nat} {hi lo : Fld} (h : PortCounter f o hi lo) (ho : 0x10 ≤ o ∧ o % 8 = 0 ∧ o < 0x80) (k : Nat) : RxKept s (incHL s hi lo k) := by
  obtain ⟨rfl, rfl⟩ := h
  refine .of_words (incHL_in (l := [.regs]) (g := [.fport]) .refl (by decide) (by simp only [hits_nil, hits_cons, Area.has]; omega)
    (by simp only [hits_nil, hits_cons, Area.has]; omega)) (fun p hp i => hp (by rw [List.mem_singleton.mp i]; decide)) fun a i => regWord_incHL_ne _ _ _ _ ?_ ?_ <;>
  · rintro rfl
    exact i (.inl (by dsimp only; omega))

theorem rxCounts_rxKept : RxKept s (rxCounts s f len) :=
  ((rxBytes_counter f).rxKept _ _ (by decide) len).after ((rxFrames_counter f).rxKept s f (by decide) 1)

theorem rxCounts_frames : Counted (Reg.FP_RX_FRAMES_HI f) (Reg.FP_RX_FRAMES_LO f) 1 s (rxCounts s f len) :=
  (rxFrames_counter f).other (rxBytes_counter f) (by decide) ((rxFrames_counter f).counts s 1) len

theorem rxCounts_bytes : Counted (Reg.FP_RX_BYTES_HI f) (Reg.FP_RX_BYTES_LO f) len s (rxCounts s f len) :=
  have u := (rxBytes_counter f).untouched (rxFrames_counter f) (by decide) s 1
  ((rxBytes_counter f).counts _ len).since u.1 u.2

/-- A counter of the window beyond these two keeps its words. -/
theorem rxCounts_untouched {o : Nat} {hi lo : Fld} (h : PortCounter f o hi lo) (ho : 0x1C < o) :
    regWord (rxCounts s f len) hi.addr = regWord s hi.addr ∧ regWord (rxCounts s f len) lo.addr = regWord s lo.addr := by
  have h1 := h.untouched (rxFrames_counter f) (by omega) s 1
  have h2 := h.untouched (rxBytes_counter f) (by omega) (incHL s (Reg.FP_RX_FRAMES_HI f) (Reg.FP_RX_FRAMES_LO f) 1) len
  exact ⟨h2.1.trans h1.1, h2.2.trans h1.2⟩

end taken

/-! ### Learning (R181) -/

section learn
variable {s : State} {f vid mac : Nat}

theorem learn_off (h : getB s Reg.FAB_CFG_LEARN_EN = false) : learn s f vid mac = s := if_pos (by rw [h]; rfl)

theorem learn_new (h : getB s Reg.FAB_CFG_LEARN_EN = true) (hm : macFind s vid mac = none) (hb : bucketFree s vid mac = true) :
    learn s f vid mac = macSet s ⟨vid, mac, 2 ^ f, false, s.now⟩ := by
  unfold learn
  simp only [h, hm, hb, Bool.not_true, Bool.false_eq_true, if_false, if_true]

/-- An entry that was written is found in every table that is still the same and in which it is live. -/
theorem macFind_of_macSet {s t : State} {e : MacEntry} (hm : t.fab.macs = (macSet s e).fab.macs) (h : macLive t e = true) :
    macFind t e.vid e.mac = some e := by
  have hn : List.find? (fun x : MacEntry => x.vid = e.vid && x.mac = e.mac && macLive t x) (s.fab.macs.filter fun x => !(x.vid = e.vid && x.mac = e.mac)) = none := by
    rw [List.find?_eq_none]
    intro x hx hp
    have h1 := (List.mem_filter.mp hx).2
    simp only [Bool.and_eq_true] at hp
    simp [hp.1.1, hp.1.2] at h1
  unfold macFind
  rw [hm]
  refine (List.find?_append ..).trans ?_
  rw [hn]
  simp [h]

theorem learn_rxKept (s : State) (f vid mac : Nat) : RxKept s (learn s f vid mac) := by
  refine ⟨fun a i => ?_, ?_, fun n => ?_, fun p m => (learn_within s f vid mac).parts p fun i => m ((show [StatePart.regs, .fab] ⊆ [.regs, .jieth, .fab, .out] by decide) i)⟩
  · have hw : ∀ k, regWord (incF s Reg.FAB_LEARN_FAIL k) a = regWord s a := fun k => regWord_incF_ne _ _ _ fun e => i (.inr e)
    unfold learn
    repeat' split
    all_goals first | rfl | exact hw 1
  · unfold learn
    repeat' split
    all_goals rfl
  · unfold linkS
    rw [show (learn s f vid mac).jieth = s.jieth from (learn_within s f vid mac).parts .jieth (by decide)]
    exact ⟨rfl, rfl, rfl⟩

end learn

/-! ### Admission to a queue (R190, R191) -/

/-- A frame whose cells the queue and the pool have room for is stored whole in the Polder. -/
theorem cellSplit_all {occ free hi rsv n : Nat} (ho : occ + n ≤ hi + 1) (hf : rsv + n ≤ free) : cellSplit occ free hi rsv n = (n, 0) := by
  induction n generalizing occ free with
  | zero => rfl
  | succ n ih =>
    have hr := ih (occ := occ + 1) (free := free - 1) (by omega) (by omega)
    rw [cellSplit, if_pos (by omega), hr]

theorem enqueue_stores {s : State} {x : QFrame} (hs : getB s (Reg.Q_Q_CFG_SPILLING x.q) = false)
    (ho : queueOcc s x.q + cellsOf x.len ≤ getF s (Reg.Q_Q_FB_HI x.q) + 1) (hf : getF s Reg.FAB_POLDER_RSV + cellsOf x.len ≤ polderFree s) :
    enqueue s x = spillMarks (polderLow s (perf (queued s x (cellsOf x.len)) 0x30 0x23 (x.q / 8) (x.q % 8) 1)) := by
  unfold enqueue queued
  simp [hs, cellSplit_all ho hf]

/-- Nothing but the new frame changes in the fabric, and no counter of a port. -/
theorem enqueue_stores_fab {s : State} {x : QFrame} (hs : getB s (Reg.Q_Q_CFG_SPILLING x.q) = false)
    (ho : queueOcc s x.q + cellsOf x.len ≤ getF s (Reg.Q_Q_FB_HI x.q) + 1) (hf : getF s Reg.FAB_POLDER_RSV + cellsOf x.len ≤ polderFree s) :
    (enqueue s x).fab = { s.fab with frames := s.fab.frames ++ [{ x with pol := cellsOf x.len, stg := 0, spl := 0 }] } ∧
    Within [.regs, .fab, .out] [.fab, .queue, .perf] s (enqueue s x) := by
  rw [enqueue_stores hs ho hf]
  have hq : Within [.fab] [] s (queued s x (cellsOf x.len)) :=
    .upd (t := s) rfl rfl .refl (fun p hp => by cases p <;> first | exact absurd (by decide) hp | rfl)
  have hw : Within [.regs, .out] [.fab, .queue, .perf] (queued s x (cellsOf x.len))
      (spillMarks (polderLow s (perf (queued s x (cellsOf x.len)) 0x30 0x23 (x.q / 8) (x.q % 8) 1))) :=
    (spillMarks_within _).after ((polderLow_within _ _).after ((perf_within _ _ _ _ _ _).mono (by decide) (by decide)) (by decide) (by decide)) (by decide) (by decide)
  exact ⟨hw.parts .fab (by decide), hw.after (hq.mono (by decide) (by decide)) (by decide) (by decide)⟩

/-! ### The way of a frame -/

section rx
variable {s : State} {f : Nat} {fr : FrameIn}

theorem ingress_window (h : inWindow s f = true) : ingress s f fr = countDiscard s f := if_pos h

theorem settleIngress_empty (h : s.fab.ingress = []) : settleIngress s = s := by
  unfold settleIngress
  rw [h]; rfl

theorem ingress_throttled (hi : s.fab.ingress = []) (hw : inWindow s f = false) (ht : throttled s = true) (hn : s.now < s.fab.admitAt) :
    ingress s f fr = if fifoBytes f < fr.len then countAdmit s f 0 else { s with fab := { s.fab with ingress := [⟨f, fr, arriveAt s f, 0⟩] } } := by
  have h0 : sumNat (([] : List Held).map fun e => e.fr.len) + fr.len = fr.len := Nat.zero_add _
  unfold ingress
  simp only [hw, settleIngress_empty hi, ht, hn, hi, decide_true, Bool.true_or, Bool.and_self, Bool.false_eq_true, if_false, if_true, List.filter_nil,
    List.nil_append, h0]

theorem ingress_admits (h : Admits f s) : ingress s f fr = rxFrame (freeCells s ⟨f, fr, arriveAt s f, 0⟩) f fr (arriveAt s f) := by
  obtain ⟨-, -, hw, ht, hi⟩ := h
  unfold ingress admitAt
  simp only [hw, settleIngress_empty hi, ht, Bool.false_and, Bool.false_eq_true, if_false]

theorem frameRx_runs (hf : f < 42) (hp : powered s .fab = true) (hu : fabUp s f = true) : exec (.frameRx f fr) s = ok (ingress s f fr) :=
  (if_neg (by omega)).trans (if_pos (by rw [hp, hu]; rfl))

/-- VLAN in whose members a frame's port lies (R179). -/
def rxVlan (s : State) (f : Nat) (fr : FrameIn) : Option Vlan :=
  (if ingressVid s f fr = 4095 then none else vlanOf s (ingressVid s f fr)).filter fun v => decide (bits v.member f 1 = 1)

theorem rxVlan_none : rxVlan s f fr = none ↔
    ingressVid s f fr = 4095 ∨ vlanOf s (ingressVid s f fr) = none ∨ ∃ v, vlanOf s (ingressVid s f fr) = some v ∧ bits v.member f 1 = 0 := by
  have hb : ∀ x, bits x f 1 = 0 ∨ bits x f 1 = 1 := fun x => by unfold bits; omega
  unfold rxVlan
  by_cases h : ingressVid s f fr = 4095
  · simp [h]
  · cases hv : vlanOf s (ingressVid s f fr) with
    | none => simp
    | some v => have := hb v.member; simp [h, Option.filter]; omega

theorem GoodFrame.vlan {v : Vlan} (h : GoodFrame f fr v s) : rxVlan s f fr = some v := by
  obtain ⟨-, -, -, hn, hv, hm⟩ := h
  simp [rxVlan, hn, hv, hm]

end rx

section fabric
variable {s : State} {f : Nat} {fr : FrameIn} {a : Arrive}

theorem rxFrame_runt (h : fr.len < 64) : rxFrame s f fr a = perfDrop (incHL (fabTakes s fr.len) (Reg.FP_RX_RUNT_HI f) (Reg.FP_RX_RUNT_LO f) 1) f 0 := if_pos h

theorem rxFrame_outside (h1 : fr.fcsOk = true) (h2 : 64 ≤ fr.len) (h3 : fr.len ≤ 9216) (hv : rxVlan (fabTakes s fr.len) f fr = none) :
    rxFrame s f fr a = countDiscard (rxCounts (fabTakes s fr.len) f fr.len) f := by
  have hs : ¬ fr.len < 64 := by omega
  have hb : ¬ 9216 < fr.len := by omega
  unfold rxVlan fabTakes at hv
  unfold rxFrame
  simp only [h1, hv, hs, hb, h3, if_false, if_true, false_and, decide_true, Bool.and_self]
  rfl

theorem rxFrame_forwards {v : Vlan} {g : Nat} (h : GoodFrame f fr v (fabTakes s fr.len)) (hd : fr.toDevice = false) (hr : reservedDst fr.dst = false)
    (hw : forwards s = true) (hp : fr.ptp = none) (he : egressPorts (fabTakes s fr.len) f (ingressVid (fabTakes s fr.len) f fr) fr.dst v = [g]) :
    rxFrame s f fr a =
      toEgress (learn (rxCounts (fabTakes s fr.len) f fr.len) f (ingressVid (fabTakes s fr.len) f fr) fr.src) f fr a v g := by
  have hv := h.vlan
  obtain ⟨h1, h2, h3, -⟩ := h
  have hh : ptpHere f fr a = none := by unfold ptpHere; rw [hp]; rfl
  have hs : ¬ fr.len < 64 := by omega
  have hb : ¬ 9216 < fr.len := by omega
  have hw' : forwards (fabTakes s fr.len) = true := hw
  unfold rxFrame
  rw [show ({ s with fab := { s.fab with cells := s.fab.cells + cellsOf fr.len } } : State) = fabTakes s fr.len from rfl]
  generalize fabTakes s fr.len = t at *
  unfold rxVlan at hv
  simp only [h1, hv, hs, hb, h3, hd, hr, hw', if_false, if_true, false_and, decide_true, Bool.and_self, Bool.or_self]
  simp only [hh, Option.isSome_none, Bool.and_false, Bool.false_eq_true, if_false, Bool.not_true, Bool.or_self, he]
  unfold rxCounts
  rw [List.foldl_cons, List.foldl_nil]

theorem toEgress_queues {v : Vlan} {g : Nat} (hp : fr.ptp = none) (h1 : fr.fcsOk = true) (h3 : fr.len ≤ 9216)
    (hc : cutThrough s f g (trafficClass s f fr) (egressLen fr v g) = false) (hu : fabUp s g = true) (hf : getB s (Reg.FP_SW_STATUS_FLUSHING g) = false)
    (hl : egressLen fr v g ≤ 9216) :
    toEgress s f fr a v g =
      enqueue s { q := 8 * g + trafficClass s f fr, len := egressLen fr v g, src := f, ingTs := fr.ingTs, resolved := fr.resolved, body := packBytes fr.body } := by
  have hh : ptpHere f fr a = none := by unfold ptpHere; rw [hp]; rfl
  have hy : sluiceWay f g fr a = false := by unfold sluiceWay; rw [hh]
  have ht : takesSluice f g fr (egressLen fr v g) a = false := by unfold takesSluice; rw [hy]; rfl
  unfold toEgress
  simp [hh, hy, ht, h1, hc, hu, hf, if_neg (show ¬ 9216 < egressLen fr v g by omega), if_neg (show ¬ 9216 < fr.len by omega)]

end fabric

/-! ### The clauses -/

section clauses
variable {f : Nat} {fr : FrameIn} {s : State}

/-- The state from which the fabric looks at a frame that it takes as it comes. -/
def rxFrom (s : State) (f : Nat) (fr : FrameIn) : State := fabTakes (freeCells s ⟨f, fr, arriveAt s f, 0⟩) fr.len

theorem rxFrom_within (s : State) (f : Nat) (fr : FrameIn) : Within [.jieth, .fab] [] s (rxFrom s f fr) :=
  (fabTakes_within _ _).after ((freeCells_within _ _).mono (by decide) (by decide)) (by decide) (by decide)

theorem rxFrom_rxKept (s : State) (f : Nat) (fr : FrameIn) : RxKept s (rxFrom s f fr) := (fabTakes_rxKept _ _).after (freeCells_rxKept _ _)

theorem rxFrom_macs (s : State) (f : Nat) (fr : FrameIn) : (rxFrom s f fr).fab.macs = s.fab.macs := freeCells_macs _ _

theorem rxFrom_vlan (s : State) (f : Nat) (fr : FrameIn) : rxVlan (rxFrom s f fr) f fr = rxVlan s f fr := by
  unfold rxVlan
  simp only [(rxFrom_rxKept s f fr).ingressVid_eq, (rxFrom_rxKept s f fr).vlanOf_eq]

theorem GoodFrame.from {v : Vlan} (h : GoodFrame f fr v s) : GoodFrame f fr v (rxFrom s f fr) := by
  unfold GoodFrame at *
  rw [(rxFrom_rxKept s f fr).ingressVid_eq, (rxFrom_rxKept s f fr).vlanOf_eq]
  exact h

/-- A frame that is taken as it comes ends where `rxFrame` does. -/
theorem Admits.completes {u : State} {P : State → Prop} (hf : f < 42) (h : Admits f s)
    (e : rxFrame (freeCells s ⟨f, fr, arriveAt s f, 0⟩) f fr (arriveAt s f) = u) (hu : P u) : Completes (exec (.frameRx f fr) s) P :=
  ⟨u, (frameRx_runs hf h.1 h.2.1).trans (congrArg ok ((ingress_admits h).trans e)), hu⟩

/-- Nothing but `.jieth` and `.fab` changes before the fabric looks at a frame: no register. -/
theorem rxFrom_words (s : State) (f : Nat) (fr : FrameIn) (a : Nat) : regWord (rxFrom s f fr) a = regWord s a := (rxFrom_within s f fr).regs a (by simp)

theorem frameRx_window (hf : f < 42) (hp : powered s .fab = true) (hu : fabUp s f = true) (hw : inWindow s f = true) :
    Completes (exec (.frameRx f fr) s) fun t =>
      Frame [.regs, .out] [.fport, .perf] s t ∧ Counted (Reg.FP_RX_DISCARD_HI f) (Reg.FP_RX_DISCARD_LO f) 1 s t :=
  ⟨_, (frameRx_runs hf hp hu).trans (congrArg ok (ingress_window hw)), (countDiscard_within s f).frame, countDiscard_counts s f⟩

/-- The state in which a runt is counted. -/
def runtDropped (u : State) (f : Nat) : State := perfDrop (incHL u (Reg.FP_RX_RUNT_HI f) (Reg.FP_RX_RUNT_LO f) 1) f 0

theorem runtDropped_within (u : State) (f : Nat) : Within [.regs, .out] [.fport, .perf] u (runtDropped u f) :=
  (perfDrop_within _ _ _).after (incHL_in .refl (by decide) (by simp only [hits_nil, hits_cons, Area.has, Reg.FP_RX_RUNT_HI]; omega)
    (by simp only [hits_nil, hits_cons, Area.has, Reg.FP_RX_RUNT_LO]; omega)) (by decide) (by decide)

theorem runtDropped_counts (u : State) (f : Nat) : Counted (Reg.FP_RX_RUNT_HI f) (Reg.FP_RX_RUNT_LO f) 1 u (runtDropped u f) :=
  (rxRunt_counter f).apart (by decide) ((rxRunt_counter f).counts u 1) (perfDrop_within _ _ _) (by decide)

/-- A frame dropped at the ingress: what it has counted is all that changes. -/
theorem ingressDrop (s : State) (f : Nat) (fr : FrameIn) {t : State} (w : Within [.regs, .out] [.fport, .perf] (rxFrom s f fr) t) :
    Frame [.regs, .jieth, .fab, .out] [.fport, .perf] s t ∧ t.fab.frames = s.fab.frames ∧ t.fab.macs = s.fab.macs := by
  have hf : t.fab = (rxFrom s f fr).fab := w.parts .fab (by decide)
  exact ⟨(w.after ((rxFrom_within s f fr).mono (by decide) (by decide)) (by decide) (by decide)).frame,
    by rw [hf, (rxFrom_rxKept s f fr).frames_eq], by rw [hf, rxFrom_macs]⟩

theorem frameRx_runt (hf : f < 42) (h : Admits f s) (hl : fr.len < 64) :
    Completes (exec (.frameRx f fr) s) fun t =>
      Frame [.regs, .jieth, .fab, .out] [.fport, .perf] s t ∧ t.fab.frames = s.fab.frames ∧ t.fab.macs = s.fab.macs ∧
      Counted (Reg.FP_RX_RUNT_HI f) (Reg.FP_RX_RUNT_LO f) 1 s t := by
  obtain ⟨hd, hq, hm⟩ := ingressDrop s f fr (runtDropped_within _ f)
  exact h.completes hf (rxFrame_runt hl) ⟨hd, hq, hm, (runtDropped_counts _ f).since (rxFrom_words s f fr _) (rxFrom_words s f fr _)⟩

/-- The counters of received frames count the frame, since the state before. -/
theorem rxCounts_counted (s : State) (f : Nat) (fr : FrameIn) :
    Counted (Reg.FP_RX_FRAMES_HI f) (Reg.FP_RX_FRAMES_LO f) 1 s (rxCounts (rxFrom s f fr) f fr.len) ∧
    Counted (Reg.FP_RX_BYTES_HI f) (Reg.FP_RX_BYTES_LO f) fr.len s (rxCounts (rxFrom s f fr) f fr.len) :=
  ⟨(rxCounts_frames _ f fr.len).since (rxFrom_words s f fr _) (rxFrom_words s f fr _),
   (rxCounts_bytes _ f fr.len).since (rxFrom_words s f fr _) (rxFrom_words s f fr _)⟩

theorem frameRx_outside (hf : f < 42) (h : Admits f s) (h1 : fr.fcsOk = true) (h2 : 64 ≤ fr.len) (h3 : fr.len ≤ 9216) (hv : rxVlan s f fr = none) :
    Completes (exec (.frameRx f fr) s) fun t =>
      Frame [.regs, .jieth, .fab, .out] [.fport, .perf] s t ∧ t.fab.frames = s.fab.frames ∧ t.fab.macs = s.fab.macs ∧
      (Counted (Reg.FP_RX_FRAMES_HI f) (Reg.FP_RX_FRAMES_LO f) 1 s t ∧ Counted (Reg.FP_RX_BYTES_HI f) (Reg.FP_RX_BYTES_LO f) fr.len s t) ∧
      Counted (Reg.FP_RX_DISCARD_HI f) (Reg.FP_RX_DISCARD_LO f) 1 s t := by
  obtain ⟨c1, c2⟩ := rxCounts_counted s f fr
  have d1 := (rxFrames_counter f).other (rxDiscard_counter f) (by decide) c1 1
  have d2 := (rxBytes_counter f).other (rxDiscard_counter f) (by decide) c2 1
  have u := rxCounts_untouched (rxFrom s f fr) f fr.len (rxDiscard_counter f) (by decide)
  obtain ⟨hd, hq, hm⟩ := ingressDrop s f fr ((countDiscard_within _ f).after ((rxCounts_within (rxFrom s f fr) f fr.len).mono (by decide) (by decide))
    (by decide) (by decide))
  exact h.completes hf (rxFrame_outside h1 h2 h3 ((rxFrom_vlan s f fr).trans hv)) ⟨hd, hq, hm,
    ⟨(rxFrames_counter f).apart (by decide) d1 (perfDrop_within _ f 0) (by decide), (rxBytes_counter f).apart (by decide) d2 (perfDrop_within _ f 0) (by decide)⟩,
    (countDiscard_counts _ f).since (u.1.trans (rxFrom_words s f fr _)) (u.2.trans (rxFrom_words s f fr _))⟩

/-- The frame as it waits at egress `g` of VLAN `v`. -/
def queueEntry (s : State) (f : Nat) (fr : FrameIn) (v : Vlan) (g : Nat) : QFrame :=
  { q := 8 * g + trafficClass s f fr, len := egressLen fr v g, src := f, ingTs := fr.ingTs, resolved := fr.resolved, body := packBytes fr.body }

/-- Egress `g` stores the frame in its queue (R184, R190, R191): it is up and not flushing, does not cut through, and queue and pool have room. -/
structure Stores (s : State) (f : Nat) (fr : FrameIn) (v : Vlan) (g : Nat) : Prop where
  stored : cutThrough s f g (trafficClass s f fr) (egressLen fr v g) = false
  up : fabUp s g = true
  flushing : getB s (Reg.FP_SW_STATUS_FLUSHING g) = false
  len : egressLen fr v g ≤ 9216
  spilling : getB s (Reg.Q_Q_CFG_SPILLING (queueEntry s f fr v g).q) = false
  queue : queueOcc s (queueEntry s f fr v g).q + cellsOf (egressLen fr v g) ≤ getF s (Reg.Q_Q_FB_HI (queueEntry s f fr v g).q) + 1
  pool : getF s Reg.FAB_POLDER_RSV + cellsOf (egressLen fr v g) ≤ polderFree s

/-- What the way of a frame leaves alone, its egress leaves alone too. -/
theorem Stores.toEgress_queues {s t : State} {v : Vlan} {g : Nat} {a : Arrive} (h : Stores s f fr v g) (k : RxKept s t) (hp : fr.ptp = none)
    (h1 : fr.fcsOk = true) (h3 : fr.len ≤ 9216) :
    toEgress t f fr a v g = enqueue t (queueEntry s f fr v g) ∧
    (enqueue t (queueEntry s f fr v g)).fab.frames = s.fab.frames ++ [{ queueEntry s f fr v g with pol := cellsOf (egressLen fr v g) }] ∧
    (enqueue t (queueEntry s f fr v g)).fab.macs = t.fab.macs ∧
    Within [.regs, .fab, .out] [.fab, .queue, .perf] t (enqueue t (queueEntry s f fr v g)) := by
  obtain ⟨hc, hu, hf, hl, hs, ho, hq⟩ := h
  have e : (queueEntry s f fr v g).len = egressLen fr v g := rfl
  have st := enqueue_stores_fab (s := t) (x := queueEntry s f fr v g) ((k.spilling_eq _).trans hs)
    (by rw [k.queueOcc_eq, k.fbHi_eq, e]; exact ho) (by rw [k.polderRsv_eq, k.polderFree_eq, e]; exact hq)
  refine ⟨?_, by rw [st.1, k.frames_eq]; rfl, by rw [st.1], st.2⟩
  have tq := Machine.toEgress_queues (s := t) (a := a) hp h1 h3 (by rw [k.trafficClass_eq, k.cutThrough_eq]; exact hc) ((k.fabUp_eq g).trans hu)
    ((k.flushing_eq g).trans hf) hl
  rw [tq, k.trafficClass_eq]
  rfl

theorem frameRx_queued (hf : f < 42) (h : Admits f s) {v : Vlan} {g : Nat} (hg : GoodFrame f fr v s) (hd : fr.toDevice = false)
    (hr : reservedDst fr.dst = false) (hw : forwards s = true) (hp : fr.ptp = none) (he : egressPorts s f (ingressVid s f fr) fr.dst v = [g])
    (hs : Stores s f fr v g) :
    Completes (exec (.frameRx f fr) s) fun t =>
      Frame [.regs, .jieth, .fab, .out] [.fab, .fport, .queue, .perf] s t ∧
      (Counted (Reg.FP_RX_FRAMES_HI f) (Reg.FP_RX_FRAMES_LO f) 1 s t ∧ Counted (Reg.FP_RX_BYTES_HI f) (Reg.FP_RX_BYTES_LO f) fr.len s t) ∧
      t.fab.frames = s.fab.frames ++ [{ queueEntry s f fr v g with pol := cellsOf (egressLen fr v g) }] ∧
      (getB s Reg.FAB_CFG_LEARN_EN = true → macFind s (ingressVid s f fr) fr.src = none → bucketFree s (ingressVid s f fr) fr.src = true →
        macFind t (ingressVid s f fr) fr.src = some ⟨ingressVid s f fr, fr.src, 2 ^ f, false, s.now⟩) ∧
      (getB s Reg.FAB_CFG_LEARN_EN = false → t.fab.macs = s.fab.macs) := by
  have k := rxFrom_rxKept s f fr
  have km := rxFrom_macs s f fr
  obtain ⟨c1, c2⟩ := rxCounts_counted s f fr
  generalize hvid : ingressVid s f fr = vid at *
  have kc : RxKept s (rxCounts (rxFrom s f fr) f fr.len) := (rxCounts_rxKept _ _ _).after k
  have kl : RxKept s (learn (rxCounts (rxFrom s f fr) f fr.len) f vid fr.src) := (learn_rxKept _ _ _ _).after kc
  have wl := learn_within (rxCounts (rxFrom s f fr) f fr.len) f vid fr.src
  obtain ⟨tq, ef, em, wq⟩ := hs.toEgress_queues (a := arriveAt s f) kl hp hg.1 hg.2.2.1
  have w : Within [.regs, .fab, .out] [.fab, .queue, .perf] (rxCounts (rxFrom s f fr) f fr.len)
      (enqueue (learn (rxCounts (rxFrom s f fr) f fr.len) f vid fr.src) (queueEntry s f fr v g)) :=
    wq.after (wl.mono (by decide) (by decide)) (by decide) (by decide)
  have wa : Within [.regs, .jieth, .fab, .out] [.fab, .fport, .queue, .perf] s
      (enqueue (learn (rxCounts (rxFrom s f fr) f fr.len) f vid fr.src) (queueEntry s f fr v g)) :=
    w.after ((rxCounts_within _ f fr.len).after ((rxFrom_within s f fr).mono (by decide) (by decide)) (by decide) (by decide)) (by decide) (by decide)
  have hvid' : ingressVid (rxFrom s f fr) f fr = vid := (k.ingressVid_eq f fr).trans hvid
  have e : rxFrame (freeCells s ⟨f, fr, arriveAt s f, 0⟩) f fr (arriveAt s f) =
      enqueue (learn (rxCounts (rxFrom s f fr) f fr.len) f vid fr.src) (queueEntry s f fr v g) := by
    have hw' : forwards (freeCells s ⟨f, fr, arriveAt s f, 0⟩) = true := (freeCells_rxKept _ _).forwards_eq.trans hw
    have he' : egressPorts (rxFrom s f fr) f (ingressVid (rxFrom s f fr) f fr) fr.dst v = [g] := by rw [hvid', k.egressPorts_eq km]; exact he
    exact (rxFrame_forwards hg.from hd hr hw' hp he').trans (by rw [← tq, ← hvid']; rfl)
  refine h.completes hf e ⟨wa.frame, ⟨(rxFrames_counter f).apart (by decide) c1 w (by decide), (rxBytes_counter f).apart (by decide) c2 w (by decide)⟩,
    ef, fun hl hm hb => ?_, fun hl => ?_⟩
  · have hn : learn (rxCounts (rxFrom s f fr) f fr.len) f vid fr.src = macSet (rxCounts (rxFrom s f fr) f fr.len) ⟨vid, fr.src, 2 ^ f, false, s.now⟩ := by
      rw [← kc.now_eq]
      exact learn_new (kc.learnEn_eq.trans hl) ((kc.macFind_eq km vid fr.src).trans hm) ((kc.bucketFree_eq km vid fr.src).trans hb)
    have hw : (enqueue (learn (rxCounts (rxFrom s f fr) f fr.len) f vid fr.src) (queueEntry s f fr v g)).now = s.now := wa.parts .now (by decide)
    exact macFind_of_macSet (e := ⟨vid, fr.src, 2 ^ f, false, s.now⟩) (em.trans (by rw [hn])) (by unfold macLive; rw [hw]; simp)
  · rw [em, learn_off (kc.learnEn_eq.trans hl)]
    exact km

end clauses

/-- Settles O45: the branches of `rxFrame`; what admission reads of the state is the same after counting and learning, so a frame that the queue
and the pool have room for is stored whole. -/
theorem framesReceived : Obligations.FramesReceived := by
  refine ⟨fun f fr s hf hp hu hi => ⟨fun hw => frameRx_window hf hp hu hw, fun hw ht hn => ⟨fun hl => ?_, fun hl => ?_⟩⟩,
    fun f fr s hf h => ⟨fun hl => frameRx_runt hf h hl, fun h1 h2 h3 hv => frameRx_outside hf h h1 h2 h3 (rxVlan_none.mpr hv), ?_⟩⟩
  · exact ⟨_, (frameRx_runs hf hp hu).trans (congrArg ok ((ingress_throttled hi hw ht hn).trans (if_neg (by omega)))),
      ⟨fun p hp => by cases p <;> first | exact absurd (by decide) hp | rfl, fun _ _ => rfl⟩, rfl⟩
  · exact ⟨_, (frameRx_runs hf hp hu).trans (congrArg ok ((ingress_throttled hi hw ht hn).trans (if_pos hl))), (countAdmit_within s f 0).frame, countAdmit_counts s f 0⟩
  · intro v g hg hd hr hw hp he tc q n hc hu hfl hl hs hq hr'
    exact frameRx_queued hf h hg hd hr hw hp he ⟨hc, hu, hfl, hl, hs, hq, hr'⟩

end Sys2Proof.Machine

end

section
/-! PROOFS. Notches, jamming and the channels of the GNSS baseband (R95, R247 to R250, R253, R254). -/

namespace Sys2Proof.Machine

/-- A number taken modulo 2^w as two's complement. -/
theorem twos_cast (w : Nat) (x : Int) : (twos w x : Int) = x % 2 ^ w := by
  have h : (0 : Int) < ((2 ^ w : Nat) : Int) := by exact_mod_cast Nat.two_pow_pos w
  unfold twos
  rw [Int.toNat_of_nonneg (Int.emod_nonneg _ h.ne')]
  push_cast
  rfl

/-! ### The baseband's own state -/

section updGnss
variable (s : State) (f : Gnss → Gnss)

@[simp] theorem updGnss_regs : (updGnss s f).regs = s.regs := rfl
@[simp] theorem updGnss_gnss : (updGnss s f).gnss = f s.gnss := rfl
theorem regWord_updGnss (a : Nat) : regWord (updGnss s f) a = regWord s a := rfl
theorem getF_updGnss (g : Fld) : getF (updGnss s f) g = getF s g := rfl
theorem getB_updGnss (g : Fld) : getB (updGnss s f) g = getB s g := rfl

end updGnss

/-! ### Notches (R247) -/

section notches
variable {s t u : State} {n m : Nat}

/-- Notch `n` is the same in two states. -/
structure NotchKept (n : Nat) (s t : State) : Prop where
  cfg : regWord t (0xA0050 + 0x8 * (n % 4)) = regWord s (0xA0050 + 0x8 * (n % 4))
  stat : regWord t (0xA0054 + 0x8 * (n % 4)) = regWord s (0xA0054 + 0x8 * (n % 4))
  low : t.gnss.low.getD n 0 = s.gnss.low.getD n 0

theorem NotchKept.manual_eq (h : NotchKept n s t) : getB t (Reg.NOTCH_CFG_MANUAL n) = getB s (Reg.NOTCH_CFG_MANUAL n) := getB_eq_of_regWord h.cfg

theorem NotchKept.stat_eq (h : NotchKept n s t) : getB t (Reg.NOTCH_STAT_ACTIVE n) = getB s (Reg.NOTCH_STAT_ACTIVE n) := getB_eq_of_regWord h.stat

theorem NotchKept.active_eq (h : NotchKept n s t) : notchActive t n = notchActive s n := by
  unfold notchActive
  rw [h.manual_eq, h.stat_eq]

theorem NotchKept.refl (n : Nat) (s : State) : NotchKept n s s := ⟨rfl, rfl, rfl⟩

theorem NotchKept.after (k : NotchKept n t u) (h : NotchKept n s t) : NotchKept n s u := ⟨k.cfg.trans h.cfg, k.stat.trans h.stat, k.low.trans h.low⟩

/-- The state in which notch `n` has another status, and its count begins again. -/
def notchSet (s : State) (n active freq : Nat) : State :=
  updGnss (setF (setF s (Reg.NOTCH_STAT_ACTIVE n) active) (Reg.NOTCH_STAT_FREQ n) freq) (fun g => { g with low := listUpd 0 g.low n (fun _ => 0) })

/-- The state in which notch `n` counts `k` scans with its line low. -/
def notchCounts (s : State) (n k : Nat) : State := updGnss s (fun g => { g with low := listUpd 0 g.low n (fun _ => k) })

theorem releaseNotch_eq (s : State) (n : Nat) : releaseNotch s n = notchSet s n 0 0 := rfl
theorem placeNotch_eq (s : State) (n : Nat) (hz : Int) : placeNotch s n hz = notchSet s n 1 (twos 24 hz) := rfl

theorem notchSet_word (x y : Nat) {b : Nat} (h : b ≠ 0xA0054 + 0x8 * (n % 4)) : regWord (notchSet s n x y) b = regWord s b := by
  rw [notchSet, regWord_updGnss, regWord_setF_ne _ _ _ h, regWord_setF_ne _ _ _ h]

theorem notchSet_active (x y : Nat) : getF (notchSet s n x y) (Reg.NOTCH_STAT_ACTIVE n) = x % 2 := by
  rw [notchSet, getF_updGnss, getF_setF_ne _ _ _ _ (show 0 + 24 ≤ 32 by decide) (.inr (.inr (show 0 + 24 ≤ 31 by decide))),
    getF_setF_same _ _ _ (show 31 + 1 ≤ 32 by decide)]
  rfl

theorem notchSet_freq (x y : Nat) : getF (notchSet s n x y) (Reg.NOTCH_STAT_FREQ n) = y % 2 ^ 24 := by
  rw [notchSet, getF_updGnss, getF_setF_same _ _ _ (show 0 + 24 ≤ 32 by decide)]
  rfl

theorem notchSet_manual (x y : Nat) : getB (notchSet s n x y) (Reg.NOTCH_CFG_MANUAL n) = getB s (Reg.NOTCH_CFG_MANUAL n) :=
  getB_eq_of_regWord (notchSet_word x y (by simp only [Reg.NOTCH_CFG_MANUAL]; omega))

/-- No other notch changes. -/
theorem notchSet_notchKept (hm : m < 4) (hn : n < 4) (hd : m ≠ n) (x y : Nat) : NotchKept m s (notchSet s n x y) where
  cfg := notchSet_word x y (by omega)
  stat := notchSet_word x y (by omega)
  low := by rw [notchSet, updGnss_gnss]; exact listUpd_getD_ne _ _ _ hd

theorem notchCounts_notchKept (hd : m ≠ n) (k : Nat) : NotchKept m s (notchCounts s n k) where
  cfg := rfl
  stat := rfl
  low := by rw [notchCounts, updGnss_gnss]; exact listUpd_getD_ne _ _ _ hd

/-- Scans in a row with the line of notch `n` low, with this one. -/
def lowScans (ls : List Line) (s : State) (n : Nat) : Nat :=
  if ls.any (fun l => decide (l.notch = some n ∧ getF s Reg.GNSS_JAM_CFG_NOTCH_THR ≤ l.level + 12)) then 0 else s.gnss.low.getD n 0 + 1

theorem ageNotch_eq (ls : List Line) (s : State) (n : Nat) :
    ageNotch ls s n = if getB s (Reg.NOTCH_CFG_MANUAL n) || !getB s (Reg.NOTCH_STAT_ACTIVE n) then s
      else if 10 ≤ lowScans ls s n then notchSet s n 0 0 else notchCounts s n (lowScans ls s n) := rfl

theorem ageNotch_notchKept (hm : m < 4) (hn : n < 4) (hd : m ≠ n) (ls : List Line) : NotchKept m s (ageNotch ls s n) := by
  rw [ageNotch_eq]
  split
  · exact .refl m s
  · split
    · exact notchSet_notchKept hm hn hd 0 0
    · exact notchCounts_notchKept hd _

/-- A notch that is not in use does not age. -/
theorem ageNotch_idle (h : notchActive s n = false) (ls : List Line) : ageNotch ls s n = s := by
  unfold notchActive at h
  rw [Bool.or_eq_false_iff] at h
  rw [ageNotch_eq, if_pos (by rw [h.2]; simp)]

theorem ageNotches_idle (h : ∀ n, n < 4 → notchActive s n = false) (ls : List Line) : (List.range 4).foldl (ageNotch ls) s = s := by
  simp only [List.range, List.range.loop, List.foldl_cons, List.foldl_nil, ageNotch_idle (h 0 (by decide)), ageNotch_idle (h 1 (by decide)),
    ageNotch_idle (h 2 (by decide)), ageNotch_idle (h 3 (by decide))]

theorem placeNotch_places (hz : Int) :
    notchActive (placeNotch s n hz) n = true ∧ (getF (placeNotch s n hz) (Reg.NOTCH_STAT_FREQ n) : Int) = hz % 2 ^ 24 := by
  rw [placeNotch_eq, notchSet_freq, Nat.mod_eq_of_lt (twos_lt 24 hz), notchActive, getB_eq_true (notchSet_active 1 _)]
  exact ⟨Bool.or_true _, twos_cast 24 hz⟩

/-- What a scan that shows no line makes of an automatic notch in use, by the scans before it. -/
def Aged (n low : Nat) (t : State) : Prop :=
  (9 ≤ low → notchActive t n = false) ∧ (low < 9 → notchActive t n = true ∧ t.gnss.low.getD n 0 = low + 1)

theorem Aged.kept {low : Nat} (h : Aged n low t) (k : NotchKept n t u) : Aged n low u := by
  unfold Aged at *
  rw [k.active_eq, k.low]
  exact h

theorem ageNotch_ages (hm : getB s (Reg.NOTCH_CFG_MANUAL n) = false) (ha : getB s (Reg.NOTCH_STAT_ACTIVE n) = true) :
    Aged n (s.gnss.low.getD n 0) (ageNotch [] s n) := by
  rw [ageNotch_eq, if_neg (by rw [hm, ha]; decide), show lowScans [] s n = s.gnss.low.getD n 0 + 1 from rfl]
  constructor
  · intro hl
    rw [if_pos (by omega), notchActive, notchSet_manual, hm, getB_eq_false (notchSet_active 0 0)]
    rfl
  · intro hl
    rw [if_neg (by omega)]
    have ha' : notchActive (notchCounts s n (s.gnss.low.getD n 0 + 1)) n = true := by
      unfold notchActive notchCounts
      rw [getB_updGnss, getB_updGnss, ha, Bool.or_true]
    exact ⟨ha', by rw [notchCounts, updGnss_gnss]; exact listUpd_getD_same _ _ _ _⟩

/-- The turns of the other notches leave a notch. -/
theorem ageNotches_notchKept (hn : n < 4) (l : List Nat) (t : State) (h : ∀ k ∈ l, k < 4 ∧ n ≠ k) : NotchKept n t (l.foldl (ageNotch []) t) := by
  induction l generalizing t with
  | nil => exact .refl n t
  | cons k l ih =>
    obtain ⟨hk, hl⟩ := List.forall_mem_cons.mp h
    exact (ih (ageNotch [] t k) hl).after (ageNotch_notchKept hn hk.1 hk.2 [])

/-- One notch of a scan: its own turn ages it, the turns of the others leave it. -/
theorem ageNotches_ages (hn : n < 4) (hm : getB s (Reg.NOTCH_CFG_MANUAL n) = false) (ha : getB s (Reg.NOTCH_STAT_ACTIVE n) = true) {l : List Nat}
    (hl : l.Nodup) (h4 : ∀ m ∈ l, m < 4) (hi : n ∈ l) : Aged n (s.gnss.low.getD n 0) (l.foldl (ageNotch []) s) := by
  induction l generalizing s with
  | nil => exact absurd hi List.not_mem_nil
  | cons m l ih =>
    obtain ⟨hml, hl⟩ := List.nodup_cons.mp hl
    have h4' : ∀ k ∈ l, k < 4 := fun k hk => h4 k (List.mem_cons_of_mem _ hk)
    by_cases e : n = m
    · subst e
      rw [List.foldl_cons]
      exact (ageNotch_ages hm ha).kept (ageNotches_notchKept hn l _ fun k hk => ⟨h4' k hk, fun e => hml (e ▸ hk)⟩)
    · have k : NotchKept n s (ageNotch [] s m) := ageNotch_notchKept hn (h4 m List.mem_cons_self) e []
      rw [List.foldl_cons, ← k.low]
      exact ih (k.manual_eq.trans hm) (k.stat_eq.trans ha) hl h4' ((List.mem_cons.mp hi).resolve_left e)

/-- A line that no notch follows takes notch 0 where none is in use. -/
theorem takeLine_first {l : Line} (hl : l.notch = none) (ht : getF s Reg.GNSS_JAM_CFG_NOTCH_THR < l.level) (h : notchActive s 0 = false) :
    takeLine s l = placeNotch s 0 l.hz := by
  have hf : (List.range 4).find? (fun n => !notchActive s n) = some 0 :=
    List.find?_range_eq_some.mpr ⟨by rw [h]; rfl, by decide, fun j hj => absurd hj (Nat.not_lt_zero j)⟩
  unfold takeLine
  rw [hl, Option.filter_none]
  dsimp only
  rw [if_pos ht, hf]

end notches

section scan
variable {s : State}

theorem spectralScan_runs (ls : List Line) (h : gnssRuns s = true ∧ getB s Reg.GNSS_CFG_NOTCH_AUTO = true) :
    exec (.spectralScan ls) s = ok (ls.foldl takeLine ((List.range 4).foldl (ageNotch ls) s)) :=
  if_pos (by rw [h.1, h.2]; rfl)

theorem spectralScan_places {l : Line} (h : gnssRuns s = true ∧ getB s Reg.GNSS_CFG_NOTCH_AUTO = true) (hl : l.notch = none)
    (ht : getF s Reg.GNSS_JAM_CFG_NOTCH_THR < l.level) (hn : ∀ n, n < 4 → notchActive s n = false) :
    Completes (exec (.spectralScan [l]) s) fun t =>
      Frame [.regs, .gnss] [.gnss] s t ∧ notchActive t 0 = true ∧ (getF t (Reg.NOTCH_STAT_FREQ 0) : Int) = l.hz % 2 ^ 24 ∧
      ∀ n, n < 4 → n ≠ 0 → notchActive t n = false := by
  have run : exec (.spectralScan [l]) s = ok (placeNotch s 0 l.hz) :=
    (spectralScan_runs _ h).trans (congrArg ok (by rw [ageNotches_idle hn]; exact takeLine_first hl ht (hn 0 (by decide))))
  have p := placeNotch_places (s := s) (n := 0) l.hz
  exact ⟨_, run, ((execSpectralScan_within _ s).ofRun run).frame, p.1, p.2,
    fun n h4 h0 => (notchSet_notchKept h4 (by decide) h0 1 _).active_eq.trans (hn n h4)⟩

theorem spectralScan_ages (h : gnssRuns s = true ∧ getB s Reg.GNSS_CFG_NOTCH_AUTO = true) {n : Nat} (hn : n < 4)
    (hm : getB s (Reg.NOTCH_CFG_MANUAL n) = false) (ha : getB s (Reg.NOTCH_STAT_ACTIVE n) = true) :
    Completes (exec (.spectralScan []) s) fun t =>
      Frame [.regs, .gnss] [.gnss] s t ∧ (9 ≤ s.gnss.low.getD n 0 → notchActive t n = false) ∧
      (s.gnss.low.getD n 0 < 9 → notchActive t n = true ∧ t.gnss.low.getD n 0 = s.gnss.low.getD n 0 + 1) :=
  ⟨_, spectralScan_runs [] h, ((execSpectralScan_within _ s).ofRun (spectralScan_runs [] h)).frame,
    ageNotches_ages hn hm ha (List.nodup_range) (fun _ hm => List.mem_range.mp hm) (List.mem_range.mpr hn)⟩

theorem spectralScan_idle (ls : List Line) (h : ¬ (gnssRuns s = true ∧ getB s Reg.GNSS_CFG_NOTCH_AUTO = true)) :
    Completes (exec (.spectralScan ls) s) fun t => t = s :=
  ⟨s, if_neg (by rw [Bool.and_eq_true]; exact h), rfl⟩

/-! ### Jamming (R248) -/

/-- Averages in a row at JAM_THR or above it, with one of `jn`. -/
def jamHigh (s : State) (jn : Nat) (c : Bool) : Nat := if getF s Reg.GNSS_JAM_CFG_JAM_THR ≤ jn then (if c then s.gnss.jamHi else 0) + 1 else 0

/-- Averages in a row 3 dB below JAM_THR, with one of `jn`. -/
def jamBelow (s : State) (jn : Nat) (c : Bool) : Nat := if jn + 12 < getF s Reg.GNSS_JAM_CFG_JAM_THR then (if c then s.gnss.jamLo else 0) + 1 else 0

/-- The state in which an average is taken. -/
def jamTaken (s : State) (jn : Nat) (c : Bool) : State :=
  updGnss (setF s Reg.GNSS_STATUS_JN jn) (fun g => { g with jamHi := jamHigh s jn c, jamLo := jamBelow s jn c })

/-- Not both: the thresholds lie 3 dB apart. -/
theorem jamBelow_of_high {jn : Nat} {c : Bool} (h : 10 ≤ jamHigh s jn c) : jamBelow s jn c = 0 := by
  have hj : getF s Reg.GNSS_JAM_CFG_JAM_THR ≤ jn := by
    by_contra hn
    rw [jamHigh, if_neg hn] at h
    omega
  exact if_neg (by omega)

theorem jamTaken_jam (jn : Nat) (c : Bool) : getB (jamTaken s jn c) Reg.GNSS_STATUS_JAM = getB s Reg.GNSS_STATUS_JAM := by
  rw [jamTaken, getB_updGnss, getB, getF_setF_ne _ _ _ _ (by decide) (by decide), getB]

theorem jamTaken_jn {jn : Nat} (h : jn ≤ 240) (c : Bool) : getF (jamTaken s jn c) Reg.GNSS_STATUS_JN = jn := by
  rw [jamTaken, getF_updGnss, getF_setF_same _ _ _ (by decide)]
  exact Nat.mod_eq_of_lt (show jn < 256 by omega)

theorem jamTaken_gnss (jn : Nat) (c : Bool) : (jamTaken s jn c).gnss = { s.gnss with jamHi := jamHigh s jn c, jamLo := jamBelow s jn c } := rfl

theorem jamUpdate_runs {p b : Nat} (c : Bool) (hp : powered s .gnss = true) (hb : s.gnss.base = some b) :
    exec (.jamUpdate p c) s =
      if 10 ≤ jamHigh s (min 240 (p - b)) c ∧ getB s Reg.GNSS_STATUS_JAM = false then
        ok (raise (setF (jamTaken s (min 240 (p - b)) c) Reg.GNSS_STATUS_JAM 1) Reg.GNSS_EVENTS_JAM_SET)
      else if 10 ≤ jamBelow s (min 240 (p - b)) c then ok (setF (jamTaken s (min 240 (p - b)) c) Reg.GNSS_STATUS_JAM 0)
      else ok (jamTaken s (min 240 (p - b)) c) := by
  show execJamUpdate p c s = _
  unfold execJamUpdate
  rw [if_neg (by rw [hp]; decide), hb]
  rfl

theorem jamUpdate_judges {p b : Nat} (c : Bool) (hp : powered s .gnss = true) (hb : s.gnss.base = some b) :
    Completes (exec (.jamUpdate p c) s) fun t =>
      Frame [.regs, .gnss, .out] [.gnss] s t ∧ getF t Reg.GNSS_STATUS_JN = min 240 (p - b) ∧
      t.gnss = { s.gnss with jamHi := jamHigh s (min 240 (p - b)) c, jamLo := jamBelow s (min 240 (p - b)) c } ∧
      (10 ≤ jamHigh s (min 240 (p - b)) c →
        getB t Reg.GNSS_STATUS_JAM = true ∧ (getB s Reg.GNSS_STATUS_JAM = false → getB t Reg.GNSS_EVENTS_JAM_SET = true)) ∧
      (10 ≤ jamBelow s (min 240 (p - b)) c → getB t Reg.GNSS_STATUS_JAM = false) ∧
      (jamHigh s (min 240 (p - b)) c < 10 → jamBelow s (min 240 (p - b)) c < 10 → getB t Reg.GNSS_STATUS_JAM = getB s Reg.GNSS_STATUS_JAM) := by
  have run := jamUpdate_runs (p := p) c hp hb
  have hj : min 240 (p - b) ≤ 240 := Nat.min_le_left _ _
  generalize min 240 (p - b) = jn at *
  have jn_eq := jamTaken_jn (s := s) hj c
  have keep : ∀ x, getF (setF (jamTaken s jn c) Reg.GNSS_STATUS_JAM x) Reg.GNSS_STATUS_JN = jn := fun x =>
    (getF_setF_ne _ _ _ _ (by decide) (by decide)).trans jn_eq
  have set : ∀ x, x < 2 → getF (setF (jamTaken s jn c) Reg.GNSS_STATUS_JAM x) Reg.GNSS_STATUS_JAM = x := fun x hx =>
    (getF_setF_same _ _ _ (by decide)).trans (Nat.mod_eq_of_lt hx)
  by_cases hi : 10 ≤ jamHigh s jn c
  · have hl := jamBelow_of_high hi
    by_cases hs : getB s Reg.GNSS_STATUS_JAM = false
    · rw [if_pos ⟨hi, hs⟩] at run
      have hjam : getF (raise (setF (jamTaken s jn c) Reg.GNSS_STATUS_JAM 1) Reg.GNSS_EVENTS_JAM_SET) Reg.GNSS_STATUS_JAM = 1 :=
        (getF_raise_ne _ _ _ (by decide) (by decide)).trans (set 1 (by decide))
      exact ⟨_, run, ((execJamUpdate_within p c s).ofRun run).frame, (getF_raise_ne _ _ _ (by decide) (by decide)).trans (keep 1),
        (by rw [raise_gnss, setF_gnss, jamTaken_gnss]),
        fun _ => ⟨getB_eq_true hjam, fun _ => getB_eq_true (getF_raise_same _ _ (by decide) rfl)⟩, by omega, by omega⟩
    · rw [if_neg (fun h => hs h.2), if_neg (by omega)] at run
      exact ⟨_, run, ((execJamUpdate_within p c s).ofRun run).frame, jn_eq, jamTaken_gnss jn c,
        fun _ => ⟨(jamTaken_jam jn c).trans (by simpa using hs), fun h => absurd h hs⟩, by omega, by omega⟩
  · rw [if_neg (fun h => hi h.1)] at run
    by_cases hl : 10 ≤ jamBelow s jn c
    · rw [if_pos hl] at run
      exact ⟨_, run, ((execJamUpdate_within p c s).ofRun run).frame, keep 0, (by rw [setF_gnss, jamTaken_gnss]), fun h => absurd h hi, fun _ => getB_eq_false (set 0 (by decide)), by omega⟩
    · rw [if_neg hl] at run
      exact ⟨_, run, ((execJamUpdate_within p c s).ofRun run).frame, jn_eq, jamTaken_gnss jn c, fun h => absurd h hi, fun h => absurd h hl, fun _ _ => jamTaken_jam jn c⟩

theorem jamUpdate_idle (p : Nat) (c : Bool) (h : s.gnss.base = none ∨ powered s .gnss = false) : Completes (exec (.jamUpdate p c) s) fun t => t = s := by
  refine ⟨s, ?_, rfl⟩
  show execJamUpdate p c s = ok s
  unfold execJamUpdate
  obtain hb | hp := h
  · rw [hb]
    split <;> rfl
  · exact if_pos (by rw [hp]; rfl)

theorem noiseRefDone_takes (p : Nat) (h : s.gnss.baseRun = true) (hp : powered s .gnss = true) :
    Completes (exec (.noiseRefDone p) s) fun t => Frame [.gnss] [] s t ∧ t.gnss = { s.gnss with base := some p, baseRun := false } :=
  have run : exec (.noiseRefDone p) s = ok (updGnss s fun g => { g with base := some p, baseRun := false }) := if_pos ⟨h, hp⟩
  ⟨_, run, ((execNoiseRefDone_within p s).ofRun run).frame, rfl⟩

theorem noiseRefDone_idle (p : Nat) (h : s.gnss.baseRun = false ∨ powered s .gnss = false) : Completes (exec (.noiseRefDone p) s) fun t => t = s :=
  ⟨s, if_neg (by rintro ⟨h1, h2⟩; rw [h1, h2] at h; exact absurd h (by decide)), rfl⟩

end scan

end Sys2Proof.Machine

end

section
/-! PROOFS. The channels of the GNSS baseband: acquisition, tracking, loss, navigation data (R95, R249, R250, R253, R254). -/

namespace Sys2Proof.Machine

/-! ### What an operation on a channel leaves of another -/

section chans
variable {s t u : State} {k ch : Nat}

theorem gnssChan_setF (s : State) (f : Fld) (x k : Nat) : gnssChan (setF s f x) k = gnssChan s k := rfl

theorem gnssChan_updGnss {g : Gnss → Gnss} (h : (g s.gnss).chans = s.gnss.chans) (k : Nat) : gnssChan (updGnss s g) k = gnssChan s k := by
  unfold gnssChan
  rw [updGnss_gnss, h]

theorem gnssChan_updChan_same (s : State) (ch : Nat) (f : GnssChan → GnssChan) : gnssChan (updChan s ch f) ch = f (gnssChan s ch) := by
  unfold gnssChan updChan
  rw [updGnss_gnss]
  exact listUpd_getD_same _ _ _ _

theorem gnssChan_updChan_ne (s : State) (f : GnssChan → GnssChan) (h : k ≠ ch) : gnssChan (updChan s ch f) k = gnssChan s k := by
  unfold gnssChan updChan
  rw [updGnss_gnss]
  exact listUpd_getD_ne _ _ _ h

theorem getF_updChan (s : State) (ch : Nat) (f : GnssChan → GnssChan) (g : Fld) : getF (updChan s ch f) g = getF s g := rfl

/-- The status word of channel `k` and its own state are the same in two states. -/
structure ChanKept (k : Nat) (s t : State) : Prop where
  word : regWord t (0xA0100 + 0x20 * (k % 24)) = regWord s (0xA0100 + 0x20 * (k % 24))
  own : gnssChan t k = gnssChan s k

theorem ChanKept.all (h : ChanKept k s t) : chanState t k = chanState s k ∧ chanPrn t k = chanPrn s k ∧ gnssChan t k = gnssChan s k :=
  ⟨getF_eq_of_regWord h.word, getF_eq_of_regWord h.word, h.own⟩

theorem ChanKept.refl (k : Nat) (s : State) : ChanKept k s s := ⟨rfl, rfl⟩

theorem ChanKept.setF (h : ChanKept k s t) {f : Fld} (x : Nat) (ha : 0xA0100 + 0x20 * (k % 24) ≠ f.addr) : ChanKept k s (setF t f x) :=
  ⟨(regWord_setF_ne _ _ _ ha).trans h.word, h.own⟩

theorem ChanKept.updChan (h : ChanKept k s t) (f : GnssChan → GnssChan) (hd : k ≠ ch) : ChanKept k s (updChan t ch f) :=
  ⟨h.word, (gnssChan_updChan_ne t f hd).trans h.own⟩

variable (hk : k < 24) (hc : ch < 24) (hd : k ≠ ch)
include hk hc hd

theorem idleChan_chanKept : ChanKept k s (idleChan s ch) := by
  have ha : ∀ o, o < 0x20 → 0xA0100 + 0x20 * (k % 24) ≠ 0xA0100 + o + 0x20 * (ch % 24) := fun o ho => by omega
  exact (((((((ChanKept.refl k s).updChan _ hd).setF 0 (ha 0 (by decide))).setF 0 (ha 0 (by decide))).setF 0 (ha 0 (by decide))).setF 0
    (ha 0 (by decide))).setF 0 (ha 4 (by decide))).setF 0 (ha 8 (by decide)) |>.setF 0 (ha 12 (by decide))

end chans

/-! ### A channel taken into PULL_IN (R250) -/

section pullIn
variable {s : State} {ch prn code : Nat} {bin : Int}

/-- The state in which channel `ch` pulls a detected signal in. -/
def pulledIn (s : State) (ch prn : Nat) (bin : Int) (code : Nat) : State :=
  setF (setF (setF (updChan (idleChan s ch) ch (fun _ => { code := code })) (Reg.CH_CH_STATUS_STATE ch) 1) (Reg.CH_CH_STATUS_PRN ch) prn)
    (Reg.CH_DOPPLER ch) (twos 32 (bin * 500 * 256))

theorem pullIn_lowest (hc : ch < 24) (h : chanState s ch = 0) (hl : ∀ k, k < ch → chanState s k ≠ 0) : pullIn s prn bin code = pulledIn s ch prn bin code := by
  have hf : chanNos.find? (fun ch => decide (chanState s ch = 0)) = some ch :=
    List.find?_range_eq_some.mpr ⟨by rw [h]; rfl, List.mem_range.mpr hc, fun k hk => by rw [decide_eq_false (hl k hk)]; rfl⟩
  unfold pullIn
  rw [hf]
  rfl

theorem pulledIn_chanKept {k : Nat} (hk : k < 24) (hc : ch < 24) (hd : k ≠ ch) : ChanKept k s (pulledIn s ch prn bin code) := by
  have ha : ∀ o, o < 0x20 → 0xA0100 + 0x20 * (k % 24) ≠ 0xA0100 + o + 0x20 * (ch % 24) := fun o ho => by omega
  exact ((((idleChan_chanKept hk hc hd).updChan _ hd).setF 1 (ha 0 (by decide))).setF prn (ha 0 (by decide))).setF _ (ha 4 (by decide))

/-- A field that holds two's complement holds what was written to it. -/
theorem getF_setF_twos (s : State) (f : Fld) (x : Int) (h : f.lo + f.w ≤ 32) : (getF (setF s f (twos f.w x)) f : Int) = x % 2 ^ f.w := by
  rw [getF_setF_same _ _ _ h, Nat.mod_eq_of_lt (twos_lt _ _), twos_cast]

theorem pulledIn_state : chanState (pulledIn s ch prn bin code) ch = 1 := by
  have hd : (Reg.CH_CH_STATUS_STATE ch).addr ≠ (Reg.CH_DOPPLER ch).addr := by simp only [Reg.CH_CH_STATUS_STATE, Reg.CH_DOPPLER]; omega
  rw [chanState, pulledIn, getF_setF_ne _ _ _ _ (show 0 + 32 ≤ 32 by decide) (.inl hd), getF_setF_ne _ _ _ _ (show 0 + 6 ≤ 32 by decide)
    (.inr (.inr (show 0 + 6 ≤ 29 by decide))), getF_setF_same _ _ _ (show 29 + 3 ≤ 32 by decide)]
  rfl

theorem pulledIn_prn (hp : prn ≤ 32) : chanPrn (pulledIn s ch prn bin code) ch = prn := by
  have hd : (Reg.CH_CH_STATUS_PRN ch).addr ≠ (Reg.CH_DOPPLER ch).addr := by simp only [Reg.CH_CH_STATUS_PRN, Reg.CH_DOPPLER]; omega
  rw [chanPrn, pulledIn, getF_setF_ne _ _ _ _ (show 0 + 32 ≤ 32 by decide) (.inl hd), getF_setF_same _ _ _ (show 0 + 6 ≤ 32 by decide)]
  exact Nat.mod_eq_of_lt (show prn < 64 by omega)

theorem pulledIn_doppler : (getF (pulledIn s ch prn bin code) (Reg.CH_DOPPLER ch) : Int) = bin * 500 * 256 % 2 ^ 32 :=
  getF_setF_twos _ (Reg.CH_DOPPLER ch) _ (show 0 + 32 ≤ 32 by decide)

theorem pulledIn_own : gnssChan (pulledIn s ch prn bin code) ch = { code := code } := by
  rw [pulledIn, gnssChan_setF, gnssChan_setF, gnssChan_setF, gnssChan_updChan_same]

theorem updChan_lastPrn (s : State) (ch : Nat) (f : GnssChan → GnssChan) : (updChan s ch f).gnss.lastPrn = s.gnss.lastPrn := rfl

theorem pulledIn_lastPrn : (pulledIn s ch prn bin code).gnss.lastPrn = s.gnss.lastPrn := by
  rw [pulledIn, setF_gnss, setF_gnss, setF_gnss, updChan_lastPrn, idleChan, setF_gnss, setF_gnss, setF_gnss, setF_gnss, setF_gnss, setF_gnss, setF_gnss,
    updChan_lastPrn]

end pullIn

/-! ### The rows of the channels -/

section rows
variable {s : State}

theorem acquisitionDone_runs {prn peak nxt : Nat} {c : SearchCell} (h1 : 1 ≤ prn) (h2 : prn ≤ 32) (hb : c.bin.natAbs ≤ 20) (hc : c.code < 32768) :
    exec (.acquisitionDone prn c peak nxt) s =
      if !searches s prn then ok s
      else if peak * 10 ≤ nxt * getF s Reg.GNSS_ACQ_CFG_ACQ_THR then ok (updGnss s fun g => { g with lastPrn := prn })
      else ok (pullIn (updGnss s fun g => { g with lastPrn := prn }) prn c.bin c.code) :=
  if_neg (by omega)

/-- Only channel `ch` changes, in the register bank and in the baseband's own state. -/
def OnlyChan (ch : Nat) (s t : State) : Prop :=
  Frame [.regs, .gnss] [.chan] s t ∧ ∀ k, k < 24 → k ≠ ch → chanState t k = chanState s k ∧ chanPrn t k = chanPrn s k ∧ gnssChan t k = gnssChan s k

theorem acquisitionDone_detects {prn peak nxt ch : Nat} {c : SearchCell} (h1 : 1 ≤ prn) (h2 : prn ≤ 32) (hb : c.bin.natAbs ≤ 20) (hc : c.code < 32768)
    (hs : searches s prn = true) (hp : nxt * getF s Reg.GNSS_ACQ_CFG_ACQ_THR < peak * 10) (h : ch < 24) (h0 : chanState s ch = 0)
    (hl : ∀ k, k < ch → chanState s k ≠ 0) :
    Completes (exec (.acquisitionDone prn c peak nxt) s) fun t =>
      OnlyChan ch s t ∧ chanState t ch = 1 ∧ chanPrn t ch = prn ∧ (getF t (Reg.CH_DOPPLER ch) : Int) = c.bin * 500 * 256 % 2 ^ 32 ∧
      gnssChan t ch = { code := c.code } ∧ t.gnss.lastPrn = prn := by
  have run : exec (.acquisitionDone prn c peak nxt) s = ok (pulledIn (updGnss s fun g => { g with lastPrn := prn }) ch prn c.bin c.code) := by
    rw [acquisitionDone_runs h1 h2 hb hc, hs, if_neg (by decide), if_neg (by omega)]
    exact congrArg ok (pullIn_lowest h h0 hl)
  have keep : ∀ k, k < 24 → k ≠ ch → ChanKept k s (pulledIn (updGnss s fun g => { g with lastPrn := prn }) ch prn c.bin c.code) := fun k hk hd => by
    have p := pulledIn_chanKept (s := updGnss s fun g => { g with lastPrn := prn }) (prn := prn) (bin := c.bin) (code := c.code) hk h hd
    exact ⟨p.word, p.own.trans (gnssChan_updGnss rfl k)⟩
  exact ⟨_, run, ⟨((execAcquisitionDone_within prn c peak nxt s).ofRun run).frame, fun k hk hd => (keep k hk hd).all⟩, pulledIn_state, pulledIn_prn h2,
    pulledIn_doppler, pulledIn_own, pulledIn_lastPrn⟩

theorem acquisitionDone_misses {prn peak nxt : Nat} {c : SearchCell} (h1 : 1 ≤ prn) (h2 : prn ≤ 32) (hb : c.bin.natAbs ≤ 20) (hc : c.code < 32768)
    (hs : searches s prn = true) (hp : peak * 10 ≤ nxt * getF s Reg.GNSS_ACQ_CFG_ACQ_THR) :
    Completes (exec (.acquisitionDone prn c peak nxt) s) fun t => Frame [.gnss] [] s t ∧ t.gnss = { s.gnss with lastPrn := prn } := by
  have run : exec (.acquisitionDone prn c peak nxt) s = ok (updGnss s fun g => { g with lastPrn := prn }) := by
    rw [acquisitionDone_runs h1 h2 hb hc, hs, if_neg (by decide), if_pos hp]
  exact ⟨_, run, (updGnss_within s _).frame, rfl⟩

theorem acquisitionDone_idle {prn peak nxt : Nat} {c : SearchCell} (h1 : 1 ≤ prn) (h2 : prn ≤ 32) (hb : c.bin.natAbs ≤ 20) (hc : c.code < 32768)
    (hs : searches s prn = false) : Completes (exec (.acquisitionDone prn c peak nxt) s) fun t => t = s :=
  ⟨s, (acquisitionDone_runs h1 h2 hb hc).trans (if_pos (by rw [hs]; rfl)), rfl⟩

/-- Only the STATE of channel `ch` is written. -/
theorem chanState_written (s : State) (ch x : Nat) (hx : x < 8) : chanState (setF s (Reg.CH_CH_STATUS_STATE ch) x) ch = x := by
  rw [chanState, getF_setF_same _ _ _ (show 29 + 3 ≤ 32 by decide)]
  exact Nat.mod_eq_of_lt hx

theorem channelTrack_tracks {ch : Nat} (hr : gnssRuns s = true) (h : ch < 24) (h1 : chanState s ch = 1) (hm : 200 ≤ (gnssChan s ch).lockMs) :
    Completes (exec (.channelTrack ch) s) fun t =>
      OnlyChan ch s t ∧ chanState t ch = 2 ∧ chanPrn t ch = chanPrn s ch ∧ gnssChan t ch = { gnssChan s ch with trackMs := 0 } := by
  have run : exec (.channelTrack ch) s = ok (setF (updChan s ch (fun c => { c with trackMs := 0 })) (Reg.CH_CH_STATUS_STATE ch) 2) :=
    (if_neg (by omega)).trans (if_pos (by rw [hr, decide_eq_true h1, decide_eq_true hm]; rfl))
  have keep : ∀ k, k < 24 → k ≠ ch → ChanKept k s (setF (updChan s ch (fun c => { c with trackMs := 0 })) (Reg.CH_CH_STATUS_STATE ch) 2) := fun k hk hd =>
    ((ChanKept.refl k s).updChan _ hd).setF 2 (by simp only [Reg.CH_CH_STATUS_STATE]; omega)
  refine ⟨_, run, ⟨((execChannelTrack_within ch s).ofRun run).frame, fun k hk hd => (keep k hk hd).all⟩, chanState_written _ ch 2 (by decide), ?_, ?_⟩
  · rw [chanPrn, getF_setF_ne _ _ _ _ (show 29 + 3 ≤ 32 by decide) (.inr (.inl (show 0 + 6 ≤ 29 by decide))), getF_updChan, chanPrn]
  · rw [gnssChan_setF, gnssChan_updChan_same]

theorem channelTrack_idle {ch : Nat} (h : ch < 24) (hn : chanState s ch ≠ 1 ∨ (gnssChan s ch).lockMs < 200) :
    Completes (exec (.channelTrack ch) s) fun t => t = s :=
  ⟨s, (if_neg (by omega)).trans (if_neg (by simp only [Bool.and_eq_true, decide_eq_true_eq]; omega)), rfl⟩

theorem chanLoses_iff (s : State) (ch : Nat) : chanLoses s ch = true ↔
    (chanState s ch = 1 ∧ 2000 ≤ (gnssChan s ch).openMs) ∨
    (chanState s ch = 2 ∧ (1000 ≤ (gnssChan s ch).lowMs ∨ 200 ≤ (gnssChan s ch).openMs)) := by
  simp only [chanLoses, Bool.or_eq_true, Bool.and_eq_true, decide_eq_true_eq]

theorem channelLost_loses {ch : Nat} (hr : gnssRuns s = true) (h : ch < 24) (hl : chanLoses s ch = true) :
    Completes (exec (.channelLost ch) s) fun t => OnlyChan ch s t ∧ chanState t ch = 3 := by
  have run : exec (.channelLost ch) s = ok (setF s (Reg.CH_CH_STATUS_STATE ch) 3) := (if_neg (by omega)).trans (if_pos (by rw [hr, hl]; rfl))
  have keep : ∀ k, k < 24 → k ≠ ch → ChanKept k s (setF s (Reg.CH_CH_STATUS_STATE ch) 3) := fun k hk hd =>
    (ChanKept.refl k s).setF 3 (by simp only [Reg.CH_CH_STATUS_STATE]; omega)
  exact ⟨_, run, ⟨((execChannelLost_within ch s).ofRun run).frame.mono (by decide) (by decide), fun k hk hd => (keep k hk hd).all⟩,
    chanState_written s ch 3 (by decide)⟩

theorem channelLost_idle {ch : Nat} (h : ch < 24) (hl : ¬ chanLoses s ch = true) : Completes (exec (.channelLost ch) s) fun t => t = s :=
  ⟨s, (if_neg (by omega)).trans (if_neg (by rw [Bool.and_eq_true]; exact fun e => hl e.2)), rfl⟩

end rows

/-! ### Navigation data (R95, R254) -/

section nav
variable {s : State} {ch : Nat}

/-- A bit of FLAGS is a bit of the status word. -/
theorem chanFlag_eq (s : State) (ch : Nat) {b : Nat} (h : b < 6) : chanFlag s ch b = getB s ⟨0xA0100 + 0x20 * (ch % 24), 10 + b, 1⟩ := by
  have e : bits (getF s (Reg.CH_CH_STATUS_FLAGS ch)) b 1 = getF s ⟨0xA0100 + 0x20 * (ch % 24), 10 + b, 1⟩ := by
    simp only [getF, fieldOf, Reg.CH_CH_STATUS_FLAGS, bits, Nat.shiftRight_eq_div_pow]
    obtain rfl | rfl | rfl | rfl | rfl | rfl : b = 0 ∨ b = 1 ∨ b = 2 ∨ b = 3 ∨ b = 4 ∨ b = 5 := by omega
    all_goals omega
  unfold chanFlag getB
  rw [e]

theorem chanFlag_set_same (s : State) (ch : Nat) {b : Nat} (h : b < 6) (v : Bool) : chanFlag (setChanFlag s ch b v) ch b = v := by
  rw [chanFlag_eq _ _ h]
  exact getB_setB_same _ _ _ (by dsimp only; omega) Nat.one_pos

theorem chanFlag_set_ne (s : State) (ch : Nat) {b c : Nat} (hb : b < 6) (hc : c < 6) (hd : c ≠ b) (v : Bool) :
    chanFlag (setChanFlag s ch b v) ch c = chanFlag s ch c := by
  rw [chanFlag_eq _ _ hc, chanFlag_eq _ _ hc, getB, setChanFlag, setB, getF_setF_ne _ _ _ _ (by dsimp only; omega) (.inr (by dsimp only; omega)), getB]

theorem chanState_setChanFlag (s : State) (ch : Nat) {b : Nat} (hb : b < 6) (v : Bool) : chanState (setChanFlag s ch b v) ch = chanState s ch := by
  rw [chanState, setChanFlag, setB, getF_setF_ne _ _ _ _ (by dsimp only; omega) (.inr (.inr (by simp only [Reg.CH_CH_STATUS_STATE]; omega))), chanState]

theorem chanFlag_updGnss (s : State) (g : Gnss → Gnss) (ch b : Nat) : chanFlag (updGnss s g) ch b = chanFlag s ch b := rfl

/-- Ephemerides held after data of satellite `p`. -/
def ephAfter (eph : List Nat) (p : Nat) (good : Bool) : List Nat := if good then eph.erase p ++ [p] else eph.erase p

/-- What data of a satellite make of the baseband's own state. -/
def navGnss (s : State) (d : NavIn) (g : Gnss) : Gnss := { g with
  eph := ephAfter g.eph d.prn (d.healthy && d.iodMatch && d.toeInRange)
  week := resolveWeek (getF s Reg.GNSS_WEEK_BASE) d.week10
  almanac := g.almanac || d.almanac }

theorem navData_eq (s : State) (ch : Nat) (d : NavIn) :
    navData s ch d = updGnss (setChanFlag (setChanFlag (setChanFlag s ch 2 d.healthy) ch 4 true) ch 5 true) (navGnss s d) := rfl

theorem navData_flags (s : State) (ch : Nat) (d : NavIn) :
    chanFlag (navData s ch d) ch 2 = d.healthy ∧ chanFlag (navData s ch d) ch 4 = true ∧ chanFlag (navData s ch d) ch 5 = true ∧
    chanState (navData s ch d) ch = chanState s ch := by
  refine ⟨?_, ?_, ?_, ?_⟩
  · rw [navData, chanFlag_updGnss, chanFlag_set_ne _ _ (by decide) (by decide) (by decide), chanFlag_set_ne _ _ (by decide) (by decide) (by decide),
      chanFlag_set_same _ _ (by decide)]
  · rw [navData, chanFlag_updGnss, chanFlag_set_ne _ _ (by decide) (by decide) (by decide), chanFlag_set_same _ _ (by decide)]
  · rw [navData, chanFlag_updGnss, chanFlag_set_same _ _ (by decide)]
  · rw [navData, chanState, getF_updGnss]
    exact (chanState_setChanFlag _ ch (by decide) _).trans ((chanState_setChanFlag _ ch (by decide) _).trans (chanState_setChanFlag _ ch (by decide) _))

/-- The first week not earlier than the base with its 10 bits (R254). -/
theorem resolveWeek_spec (b w : Nat) : b ≤ resolveWeek b w ∧ resolveWeek b w < b + 1024 ∧ resolveWeek b w % 1024 = w % 1024 := by
  unfold resolveWeek
  omega

theorem mem_ephAfter_other {eph : List Nat} {p q : Nat} {good : Bool} (h : q ≠ p) : q ∈ ephAfter eph p good ↔ q ∈ eph := by
  unfold ephAfter
  split
  · rw [List.mem_append, List.mem_erase_of_ne h, List.mem_singleton]
    exact or_iff_left h
  · exact List.mem_erase_of_ne h

theorem mem_ephAfter_good (eph : List Nat) (p : Nat) : p ∈ ephAfter eph p true := List.mem_append_right _ (List.mem_singleton_self p)

theorem not_mem_ephAfter_bad {eph : List Nat} {p : Nat} (h : eph.Nodup) : p ∉ ephAfter eph p false := fun hm => ((h.mem_erase_iff).mp hm).1 rfl

theorem setChanFlag_gnss (s : State) (ch b : Nat) (v : Bool) : (setChanFlag s ch b v).gnss = s.gnss := rfl
theorem setChanFlag_ports (s : State) (ch b : Nat) (v : Bool) : (setChanFlag s ch b v).ports = s.ports := rfl
theorem updGnss_ports (s : State) (f : Gnss → Gnss) : (updGnss s f).ports = s.ports := rfl

theorem navData_gnss (s : State) (ch : Nat) (d : NavIn) : (navData s ch d).gnss = navGnss s d s.gnss := by
  rw [navData_eq, updGnss_gnss, setChanFlag_gnss, setChanFlag_gnss, setChanFlag_gnss]

theorem navData_ports (s : State) (ch : Nat) (d : NavIn) : (navData s ch d).ports = s.ports := by
  rw [navData_eq, updGnss_ports, setChanFlag_ports, setChanFlag_ports, setChanFlag_ports]

/-- The state after the data of the satellite of channel `ch`, with its UTC data where it has them. -/
def navTaken (s : State) (ch : Nat) (d : NavIn) : State :=
  match d.utc with
  | some (ls, lsf, last) => navUtc (navData s ch d) ls lsf last
  | none => navData s ch d

theorem navUtc_kept (s : State) (ls lsf : Int) (last : Bool) : (navUtc s ls lsf last).regs = s.regs ∧ (navUtc s ls lsf last).gnss = s.gnss := ⟨rfl, rfl⟩

theorem navUtc_ports (s : State) (ls lsf : Int) (last : Bool) :
    (navUtc s ls lsf last).ports = { s.ports with utcAuto := some (ls + 19, last && decide (lsf < ls), last && decide (ls < lsf)) } := rfl

theorem navTaken_kept (s : State) (ch : Nat) (d : NavIn) : (navTaken s ch d).regs = (navData s ch d).regs ∧ (navTaken s ch d).gnss = (navData s ch d).gnss := by
  unfold navTaken
  cases d.utc with
  | none => exact ⟨rfl, rfl⟩
  | some u => exact navUtc_kept _ _ _ _

theorem navTaken_utc {d : NavIn} {ls lsf : Int} {last : Bool} (h : d.utc = some (ls, lsf, last)) :
    (navTaken s ch d).ports = { s.ports with utcAuto := some (ls + 19, last && decide (lsf < ls), last && decide (ls < lsf)) } := by
  unfold navTaken
  rw [h]
  dsimp only
  rw [navUtc_ports, navData_ports]

theorem navTaken_noUtc {d : NavIn} (h : d.utc = none) : (navTaken s ch d).ports = s.ports := by
  unfold navTaken
  rw [h]
  exact navData_ports s ch d

theorem navDataDecode_runs {d : NavIn} (hr : gnssRuns s = true) (h : ch < 24) (hf : chanState s ch = 2 ∧ chanPrn s ch = d.prn)
    (hl : ∀ k, k < ch → ¬ (chanState s k = 2 ∧ chanPrn s k = d.prn)) : exec (.navDataDecode d) s = ok (navTaken s ch d) := by
  have find : chanNos.find? (fun k => decide (chanState s k = 2) && decide (chanPrn s k = d.prn)) = some ch :=
    List.find?_range_eq_some.mpr ⟨by rw [decide_eq_true hf.1, decide_eq_true hf.2]; rfl, List.mem_range.mpr h,
      fun k hk => by rw [← Bool.decide_and, decide_eq_false (hl k hk)]; rfl⟩
  show execNavDataDecode d s = _
  unfold execNavDataDecode navTaken
  rw [if_neg (by rw [hr]; decide), find]
  cases d.utc with
  | none => rfl
  | some u => rfl

theorem navDataDecode_idle {d : NavIn} (hr : gnssRuns s = true) (hl : ∀ k, k < 24 → ¬ (chanState s k = 2 ∧ chanPrn s k = d.prn)) :
    Completes (exec (.navDataDecode d) s) fun t => t = s := by
  have find : chanNos.find? (fun k => decide (chanState s k = 2) && decide (chanPrn s k = d.prn)) = none :=
    List.find?_range_eq_none.mpr fun k hk => by rw [← Bool.decide_and, decide_eq_false (hl k hk)]; rfl
  refine ⟨s, ?_, rfl⟩
  show execNavDataDecode d s = _
  unfold execNavDataDecode
  rw [if_neg (by rw [hr]; decide), find]
  rfl

theorem navDataDecode_takes {d : NavIn} (hr : gnssRuns s = true) (h : ch < 24) (hf : chanState s ch = 2 ∧ chanPrn s ch = d.prn)
    (hl : ∀ k, k < ch → ¬ (chanState s k = 2 ∧ chanPrn s k = d.prn)) :
    Completes (exec (.navDataDecode d) s) fun t =>
      Frame [.regs, .ports, .gnss] [.chan] s t ∧ chanFlag t ch 2 = d.healthy ∧ chanFlag t ch 4 = true ∧ chanFlag t ch 5 = true ∧
      chanState t ch = 2 ∧
      (d.healthy = true → d.iodMatch = true → d.toeInRange = true → d.prn ∈ t.gnss.eph) ∧
      ((d.healthy && d.iodMatch && d.toeInRange) = false → s.gnss.eph.Nodup → d.prn ∉ t.gnss.eph) ∧
      (∀ p, p ≠ d.prn → (p ∈ t.gnss.eph ↔ p ∈ s.gnss.eph)) ∧ t.gnss.almanac = (s.gnss.almanac || d.almanac) ∧
      getF s Reg.GNSS_WEEK_BASE ≤ t.gnss.week ∧ t.gnss.week < getF s Reg.GNSS_WEEK_BASE + 1024 ∧ t.gnss.week % 1024 = d.week10 % 1024 ∧
      (∀ ls lsf last, d.utc = some (ls, lsf, last) →
        t.ports = { s.ports with utcAuto := some (ls + 19, last && decide (lsf < ls), last && decide (ls < lsf)) }) ∧
      (d.utc = none → t.ports = s.ports) := by
  have run := navDataDecode_runs hr h hf hl
  obtain ⟨f2, f4, f5, st⟩ := navData_flags s ch d
  obtain ⟨w1, w2, w3⟩ := resolveWeek_spec (getF s Reg.GNSS_WEEK_BASE) d.week10
  obtain ⟨kr, kg⟩ := navTaken_kept s ch d
  have flag : ∀ b, chanFlag (navTaken s ch d) ch b = chanFlag (navData s ch d) ch b := fun b => by unfold chanFlag; rw [getF_congr kr]
  refine ⟨_, run, ((execNavDataDecode_within d s).ofRun run).frame, (flag 2).trans f2, (flag 4).trans f4, (flag 5).trans f5,
    (getF_congr kr _).trans (st.trans hf.1), ?_⟩
  rw [kg, navData_gnss]
  have eph : (navGnss s d s.gnss).eph = ephAfter s.gnss.eph d.prn (d.healthy && d.iodMatch && d.toeInRange) := rfl
  rw [eph]
  refine ⟨fun h1 h2 h3 => ?_, fun hb hn => ?_, fun p hp => mem_ephAfter_other hp, rfl, w1, w2, w3, fun ls lsf last e => navTaken_utc e, navTaken_noUtc⟩
  · rw [h1, h2, h3]
    exact mem_ephAfter_good _ _
  · rw [hb]
    exact not_mem_ephAfter_bad hn

end nav

/-- A baseband that does not run does nothing. -/
theorem gnss_stopped {s : State} {ch : Nat} {x y z : Int} {d : NavIn} {ms : List ChanMeas} {fs : List Fit} {rs : List RawChan} (h : gnssRuns s = false)
    (hc : ch < 24) : ∀ i ∈ [Instr.channelTrack ch, .channelLost ch, .navDataDecode d, .codeEpoch ms, .gnssSolution fs, .surveyDone x y z, .rawEpoch rs],
      Completes (exec i s) fun t => t = s := by
  have hn : (!gnssRuns s) = true := by rw [h]; rfl
  have run : ∀ i ∈ [Instr.channelTrack ch, .channelLost ch, .navDataDecode d, .codeEpoch ms, .gnssSolution fs, .surveyDone x y z, .rawEpoch rs],
      exec i s = ok s := by
    simp only [List.forall_mem_cons, List.not_mem_nil, false_implies, implies_true, and_true]
    exact ⟨(if_neg (by omega)).trans (if_neg (by rw [h]; exact Bool.false_ne_true)), (if_neg (by omega)).trans (if_neg (by rw [h]; exact Bool.false_ne_true)), if_pos hn, if_pos hn, if_pos hn,
      if_neg (by rw [h]; exact Bool.false_ne_true), if_pos (by rw [hn]; rfl)⟩
  exact fun i hi => ⟨s, run i hi, rfl⟩

/-- Settles O56: row by row, from what a notch's and a channel's own registers and state become. -/
theorem gnssSignals : Obligations.GnssSignals := by
  refine ⟨fun s => ⟨fun l h hl ht hn => spectralScan_places h hl ht hn, fun n h hn hm ha => spectralScan_ages h hn hm ha, fun ls h => spectralScan_idle ls h,
    fun p b c hp hb => jamUpdate_judges c hp hb, fun p c h => jamUpdate_idle p c h, fun p h hp => noiseRefDone_takes p h hp, fun p h => noiseRefDone_idle p h⟩,
    fun s hr => ⟨fun prn bin code peak nxt h1 h2 hb hc => ⟨fun ch hs hp h h0 hl => acquisitionDone_detects h1 h2 hb hc hs hp h h0 hl,
      fun hs hp => acquisitionDone_misses h1 h2 hb hc hs hp, fun hs => acquisitionDone_idle h1 h2 hb hc hs⟩,
    fun ch h => ⟨fun h1 hm => channelTrack_tracks hr h h1 hm, fun hn => channelTrack_idle h hn,
      fun hl => channelLost_loses hr h ((chanLoses_iff s ch).mpr hl), fun hl => channelLost_idle h fun e => hl ((chanLoses_iff s ch).mp e)⟩,
    fun d ch h hf hl => navDataDecode_takes hr h hf hl, fun d hl => navDataDecode_idle hr hl⟩,
    fun ch x y z d ms fs rs s h hc => gnss_stopped h hc⟩

end Sys2Proof.Machine

end

section
/-! PROOFS. What a loss of a reference and the calibration's run list leave of the ports and slots (R86, R105, R115, R208). -/

namespace Sys2Proof.Machine

/-! ### Fields that stand -/

/-- A field of a port or slot which a new choice of reference and the end of a Berm window leave: a port's registers beside TT_STATUS and TT_EVENTS,
CDR_LOCK and PHASE_LOST of those, a slot's SRC_VALID and QUALIFIED. -/
def IsStand (f : Fld) : Prop :=
  (Area.port.has f.addr ∧ ∀ p, f.addr ≠ portBase p + 8 ∧ f.addr ≠ portBase p + 12) ∨
  (∃ p, f = Reg.PORT_TT_STATUS_CDR_LOCK p ∨ f = Reg.PORT_TT_EVENTS_PHASE_LOST p) ∨
  ∃ n, f = Reg.SLOT_SLOT_STATUS_SRC_VALID n ∨ f = Reg.SLOT_SLOT_STATUS_QUALIFIED n

/-- Every such field has its value. -/
def StandKept (s t : State) : Prop := ∀ f, IsStand f → getF t f = getF s f

section stand
variable {s t u : State}

theorem isStand_port {p a lo w : Nat} (h : a < 512) (h8 : a ≠ 8) (h12 : a ≠ 12) : IsStand ⟨portBase p + a, lo, w⟩ := by
  have hb := portBase_range p
  exact .inl ⟨by simp only [Area.has]; omega, fun q => ⟨portBase_add_ne h8 h (by decide), portBase_add_ne h12 h (by decide)⟩⟩

theorem StandKept.refl (s : State) : StandKept s s := fun _ _ => rfl

theorem StandKept.after (k : StandKept t u) (h : StandKept s t) : StandKept s u := fun f i => (k f i).trans (h f i)

theorem StandKept.of_regs (k : StandKept s t) (h : u.regs = t.regs) : StandKept s u := fun f i => (getF_congr h f).trans (k f i)

theorem StandKept.ite {c : Prop} [Decidable c] (h : StandKept s t) (k : StandKept s u) : StandKept s (if c then t else u) := by
  split
  · exact h
  · exact k

/-- The ports' own state is no register. -/
theorem ports_standKept (s : State) (x : Ports) : StandKept s { s with ports := x } := fun _ _ => rfl

theorem StandKept.getB_eq (k : StandKept s t) {f : Fld} (i : IsStand f) : getB t f = getB s f := by unfold getB; rw [k f i]

/-- The address of such a field. -/
theorem IsStand.addr {f : Fld} (h : IsStand f) : Area.port.has f.addr ∨ Area.slot.has f.addr := by
  obtain ⟨h, -⟩ | ⟨p, rfl | rfl⟩ | ⟨n, rfl | rfl⟩ := h
  · exact .inl h
  · have := portBase_range p
    exact .inl (by simp only [Area.has, Reg.PORT_TT_STATUS_CDR_LOCK]; omega)
  · have := portBase_range p
    exact .inl (by simp only [Area.has, Reg.PORT_TT_EVENTS_PHASE_LOST]; omega)
  · exact .inr (by simp only [Area.has, Reg.SLOT_SLOT_STATUS_SRC_VALID]; omega)
  · exact .inr (by simp only [Area.has, Reg.SLOT_SLOT_STATUS_QUALIFIED]; omega)

/-- An operation that touches neither ports nor slots. -/
theorem Within.standKept {l : List StatePart} {g : List Area} (w : Within l g s t)
    (hg : ∀ x ∈ g, x ∈ [Area.clk, .dll, .time, .ref, .eng, .cal, .gauge, .perf]) : StandKept s t := fun f i => by
  refine getF_eq_of_regWord (w.regs _ fun x m => ?_)
  have a := i.addr
  have m' := hg x m
  simp only [List.mem_cons, List.not_mem_nil, or_false] at m'
  simp only [Area.has] at a
  obtain rfl | rfl | rfl | rfl | rfl | rfl | rfl | rfl := m' <;> simp only [Area.has] <;> omega

/-- A field of TT_STATUS or TT_EVENTS that overlaps neither CDR_LOCK nor PHASE_LOST. -/
def IsBermFld (g : Fld) : Prop := (∃ p, g.addr = portBase p + 8 ∨ g.addr = portBase p + 12) ∧ 1 ≤ g.lo ∧ g.lo + g.w ≤ 32

/-- The Berm bits of a port overlap no such field. -/
theorem IsBermFld.apart {f g : Fld} (h : IsBermFld g) (i : IsStand f) : f.addr ≠ g.addr ∨ f.lo + f.w ≤ g.lo ∨ g.lo + g.w ≤ f.lo := by
  obtain ⟨⟨p, hp⟩, hl, -⟩ := h
  have hb := portBase_range p
  obtain ⟨-, h⟩ | ⟨q, rfl | rfl⟩ | ⟨n, rfl | rfl⟩ := i
  · have := h p
    exact .inl (by omega)
  · exact .inr (.inl hl)
  · exact .inr (.inl hl)
  · exact .inl (by simp only [Reg.SLOT_SLOT_STATUS_SRC_VALID]; omega)
  · exact .inl (by simp only [Reg.SLOT_SLOT_STATUS_QUALIFIED]; omega)

theorem setF_standKept (s : State) {g : Fld} (h : IsBermFld g) (x : Nat) : StandKept s (setF s g x) :=
  fun _ i => getF_setF_ne _ _ _ _ h.2.2 (h.apart i)

theorem raise_standKept (s : State) {g : Fld} (h : IsBermFld g) : StandKept s (raise s g) :=
  fun _ i => getF_raise_ne _ _ _ h.2.2 (h.apart i)

theorem isBerm_wait (p : Nat) : IsBermFld (Reg.PORT_TT_STATUS_BERM_WAIT p) := ⟨⟨p, .inl rfl⟩, show 1 ≤ 4 by decide, show 4 + 1 ≤ 32 by decide⟩
theorem isBerm_busy (p : Nat) : IsBermFld (Reg.PORT_TT_STATUS_BERM_BUSY p) := ⟨⟨p, .inl rfl⟩, show 1 ≤ 3 by decide, show 3 + 1 ≤ 32 by decide⟩
theorem isBerm_abandoned (p : Nat) : IsBermFld (Reg.PORT_TT_EVENTS_BERM_ABANDONED p) := ⟨⟨p, .inr rfl⟩, show 1 ≤ 4 by decide, show 4 + 1 ≤ 32 by decide⟩

end stand

/-! ### Berm requests and the run list (R103, R105, R288) -/

section berm
variable (s : State)

theorem bermAsk_standKept (r : BermReq) : StandKept s (bermAsk s r) := by
  unfold bermAsk
  exact .ite (ports_standKept s _) ((setF_standKept _ (isBerm_wait r.port) 1).after (ports_standKept s _))

theorem startHead_standKept : StandKept s (startHead s) := by
  unfold startHead
  split
  · split
    · split
      · exact .of_regs (.refl s) rfl
      · exact (setF_standKept _ (isBerm_wait _) 1).after (.of_regs (.refl s) rfl)
    · exact .refl s
  · exact .refl s

theorem headDone_standKept : StandKept s (headDone s) :=
  ((endCal_within _).standKept (by decide)).after ((startHead_standKept _).after (.of_regs (.refl s) rfl))

theorem headFail_standKept : StandKept s (headFail s) := by
  have hw : Within [.regs, .out] [.cal] s (raise s Reg.CAL_EVENTS_ITEM_FAIL) :=
    raise_in .refl (by decide) (by decide) (by simp only [hits_nil, hits_cons, Area.has, Reg.CAL_EVENTS_ITEM_FAIL]; omega)
  unfold headFail
  dsimp only
  split
  · exact (headDone_standKept _).after (hw.standKept (by decide))
  · exact (startHead_standKept _).after (.of_regs (.refl s) rfl)

theorem bermAbandon_standKept (p : Nat) : StandKept s (bermAbandon s p) := by
  have k : StandKept s (raise (setF { s with ports := { s.ports with bermWin := none } } (Reg.PORT_TT_STATUS_BERM_BUSY p) 0) (Reg.PORT_TT_EVENTS_BERM_ABANDONED p)) :=
    (raise_standKept _ (isBerm_abandoned p)).after ((setF_standKept _ (isBerm_busy p) 0).after (.of_regs (.refl s) rfl))
  unfold bermAbandon
  split
  · split
    · dsimp only
      split
      · split
        · split
          · exact (headFail_standKept _).after k
          · exact k
        · exact k
      · split
        · exact (bermAsk_standKept _ _).after (k.of_regs rfl)
        · exact k.of_regs rfl
    · exact .refl s
  · exact .refl s

end berm

end Sys2Proof.Machine

end

section
/-! PROOFS. Ports come up, go down and flush (R82, R88, R189, R199, R200, R206 to R208). -/

namespace Sys2Proof.Machine

/-! ### The fabric side of a port that goes down (R199) -/

/-- Bytes of the whole frame in transmission, which is cut off after it was counted as sent. -/
def cutWhole (s : State) (f : Nat) : Option Nat :=
  if decide (nowPs s < (egS s f).freeAt) then match (egS s f).cur with | some t => if t.upto = t.fr.len then some t.fr.len else none | none => none else none

/-- Frames in transmission or held preempted. -/
def inTransit (s : State) (f : Nat) : Nat :=
  if (egS s f).rest.isSome = true ∨ (nowPs s < (egS s f).freeAt ∧ ((egS s f).cur.isSome = true ∨ (egS s f).sluice = true)) then 1 else 0

/-- The queues and the Sluice lane of egress `f` emptied. -/
def queuesEmptied (s : State) (f : Nat) : State :=
  { s with fab := { s.fab with frames := s.fab.frames.filter (fun x => x.q / 8 ≠ f), sluice := s.fab.sluice.filter (fun x => x.f ≠ f) } }

/-- A whole frame cut off is no longer counted as sent. -/
def uncounted (s : State) (f : Nat) : Option Nat → State
  | some k => uncountTx s f k
  | none => s

/-- What goes down is counted as flushed. -/
def flushCounted (s : State) (f : Nat) : State :=
  countFlushed (uncounted (queuesEmptied s f) f (cutWhole s f)) f
    ((s.fab.frames.filter (fun x => x.q / 8 = f)).length + (s.fab.sluice.filter (fun x => x.f = f)).length + inTransit s f)

/-- Each frame dropped is counted. -/
def dropsCounted (s t : State) (f : Nat) : State :=
  (s.fab.frames.filter (fun x => x.q / 8 = f)).foldl (fun t x => perfDrop t f (x.q % 8))
    ((s.fab.sluice.filter (fun x => x.f = f)).foldl (fun t _ => perfDrop t f 7) t)

/-- No queue of the port spills. -/
def spillsEnd (s : State) (f : Nat) : State := (List.range 8).foldl (fun t tc => setF t (Reg.Q_Q_CFG_SPILLING (8 * f + tc)) 0) s

/-- The port shows FLUSHING, and its egress holds nothing. -/
def flushes (s : State) (f : Nat) : State :=
  setF (setF (setF (updEg s f (fun _ => {})) (Reg.FP_SW_STATUS_LINK_UP f) 0) (Reg.FP_SW_STATUS_FLUSHING f) 1) (Reg.FP_SW_STATUS_PREEMPT_ACTIVE f) 0

/-- The packets of the frames dropped end. -/
def originsEnd (s t : State) (f : Nat) : State :=
  ((s.fab.frames.filter (fun x => x.q / 8 = f)).map (·.origin) ++ (s.fab.sluice.filter (fun x => x.f = f)).map (·.origin)).foldl
    (fun t o => finishId t o .timeout []) t

section fabricDown
variable {s : State} {f : Nat}

/-- The count of R199's frames in transmission is one or none. -/
theorem inTransit_eq (s : State) (f : Nat) :
    (decide (nowPs s < (egS s f).freeAt) && ((egS s f).cur.isSome || (egS s f).sluice) && (egS s f).rest.isNone).toNat + (egS s f).rest.isSome.toNat =
      inTransit s f := by
  unfold inTransit
  cases (egS s f).rest with
  | some r => simp
  | none => by_cases h : nowPs s < (egS s f).freeAt <;> cases (egS s f).cur.isSome <;> cases (egS s f).sluice <;> simp [h]

theorem fabricDown_eq (h : fabUp s f = true) :
    fabricDown s f = originsEnd s (flushes (spillsEnd (dropsCounted s (flushCounted s f) f) f) f) f := by
  unfold fabricDown flushCounted
  rw [if_neg (by rw [h]; decide), ← inTransit_eq]
  rfl

theorem queuesEmptied_within (s : State) (f : Nat) : Within [.fab] [] s (queuesEmptied s f) :=
  .upd (t := s) rfl rfl .refl (fun p hp => by cases p <;> first | exact absurd (by decide) hp | rfl)

theorem dropsCounted_within (s t : State) (f : Nat) : Within [.regs, .out] [.perf] t (dropsCounted s t f) :=
  .fold (fun t _ => perfDrop_within t f _) (.fold (fun t _ => perfDrop_within t f 7) .refl _) _

theorem spillsEnd_within (s : State) (f : Nat) : Within [.regs] [.queue] s (spillsEnd s f) :=
  .fold (fun _ _ => setF_in .refl (by decide) (by simp only [hits_nil, hits_cons, Area.has, Reg.Q_Q_CFG_SPILLING]; omega)) .refl _

theorem originsEnd_within (s t : State) (f : Nat) : Within [.regs, .jieth, .cmd, .aud, .out] [.perf, .aud, .cmd] t (originsEnd s t f) :=
  .fold (fun t o => finishId_within t o _ _) .refl _

theorem uncounted_within (s : State) (f : Nat) (c : Option Nat) : Within [.regs] [.fport] s (uncounted s f c) := by
  cases c with
  | none => exact .refl
  | some k => exact uncountTx_within s f k

theorem flushed_counter (f : Nat) : PortCounter f 0x58 (Reg.FP_FLUSHED_HI f) (Reg.FP_FLUSHED_LO f) := ⟨rfl, rfl⟩

/-- Taking back the count of a frame sent leaves FLUSHED. -/
theorem uncounted_flushed (s : State) (f : Nat) (c : Option Nat) :
    regWord (uncounted s f c) (Reg.FP_FLUSHED_HI f).addr = regWord s (Reg.FP_FLUSHED_HI f).addr ∧
    regWord (uncounted s f c) (Reg.FP_FLUSHED_LO f).addr = regWord s (Reg.FP_FLUSHED_LO f).addr := by
  cases c with
  | none => exact ⟨rfl, rfl⟩
  | some k =>
    have e : ∀ a, 0x81058 + 0x80 * (f % 42) ≤ a → a ≤ 0x8105C + 0x80 * (f % 42) → regWord (uncountTx s f k) a = regWord s a := fun a h1 h2 => by
      unfold uncountTx
      rw [regWord_setHL_ne _ _ _ _ (by simp only [Reg.FP_TX_BYTES_HI]; omega) (by simp only [Reg.FP_TX_BYTES_LO]; omega),
        regWord_setHL_ne _ _ _ _ (by simp only [Reg.FP_TX_FRAMES_HI]; omega) (by simp only [Reg.FP_TX_FRAMES_LO]; omega)]
    exact ⟨e _ (Nat.le_refl _) (by simp only [Reg.FP_FLUSHED_HI]; omega), e _ (by simp only [Reg.FP_FLUSHED_LO]; omega) (Nat.le_refl _)⟩

theorem flushCounted_counts (s : State) (f : Nat) :
    Counted (Reg.FP_FLUSHED_HI f) (Reg.FP_FLUSHED_LO f)
      ((s.fab.frames.filter (fun x => x.q / 8 = f)).length + (s.fab.sluice.filter (fun x => x.f = f)).length + inTransit s f) s (flushCounted s f) := by
  have u := uncounted_flushed (queuesEmptied s f) f (cutWhole s f)
  exact ((flushed_counter f).counts _ _).since (u.1.trans rfl) (u.2.trans rfl)

theorem flushCounted_fab (s : State) (f : Nat) : (flushCounted s f).fab = (queuesEmptied s f).fab := by
  have h1 : (flushCounted s f).fab = (uncounted (queuesEmptied s f) f (cutWhole s f)).fab := (countFlushed_within _ f _).parts .fab (by decide)
  have h2 : (uncounted (queuesEmptied s f) f (cutWhole s f)).fab = (queuesEmptied s f).fab := (uncounted_within _ f _).parts .fab (by decide)
  exact h1.trans h2

theorem flushes_within (s : State) (f : Nat) : Within [.regs, .fab] [.fport] s (flushes s f) :=
  setF_in (setF_in (setF_in ((updEg_within s f _).mono (by decide) (by decide)) (by decide) (by simp only [hits_nil, hits_cons, Area.has, Reg.FP_SW_STATUS_LINK_UP]; omega))
    (by decide) (by simp only [hits_nil, hits_cons, Area.has, Reg.FP_SW_STATUS_FLUSHING]; omega)) (by decide)
    (by simp only [hits_nil, hits_cons, Area.has, Reg.FP_SW_STATUS_PREEMPT_ACTIVE]; omega)

theorem flushes_status (s : State) (f : Nat) : fabUp (flushes s f) f = false ∧ getB (flushes s f) (Reg.FP_SW_STATUS_FLUSHING f) = true := by
  refine ⟨getB_eq_false ?_, getB_eq_true ?_⟩
  · rw [flushes, getF_setF_ne _ _ _ _ (show 29 + 1 ≤ 32 by decide) (.inr (.inr (show 29 + 1 ≤ 31 by decide))),
      getF_setF_ne _ _ _ _ (show 30 + 1 ≤ 32 by decide) (.inr (.inr (show 30 + 1 ≤ 31 by decide))), getF_setF_same _ _ _ (show 31 + 1 ≤ 32 by decide)]
    rfl
  · rw [flushes, getF_setF_ne _ _ _ _ (show 29 + 1 ≤ 32 by decide) (.inr (.inr (show 29 + 1 ≤ 30 by decide))), getF_setF_same _ _ _ (show 30 + 1 ≤ 32 by decide)]
    rfl

theorem flushes_word (s : State) {f a : Nat} (h : a ≠ 0x81008 + 0x80 * (f % 42)) : regWord (flushes s f) a = regWord s a := by
  rw [flushes, regWord_setF_ne _ _ _ h, regWord_setF_ne _ _ _ h, regWord_setF_ne _ _ _ h]
  rfl

/-- What a port's fabric side is once it has gone down. -/
structure WentDown (f : Nat) (s t : State) : Prop where
  up : fabUp t f = false
  flushing : getB t (Reg.FP_SW_STATUS_FLUSHING f) = true
  frames : t.fab.frames = s.fab.frames.filter (fun x => x.q / 8 ≠ f)
  sluice : t.fab.sluice = s.fab.sluice.filter (fun x => x.f ≠ f)
  egress : egS t f = {}
  counted : Counted (Reg.FP_FLUSHED_HI f) (Reg.FP_FLUSHED_LO f)
    ((s.fab.frames.filter (fun x => x.q / 8 = f)).length + (s.fab.sluice.filter (fun x => x.f = f)).length + inTransit s f) s t

theorem fabricDown_wentDown (h : fabUp s f = true) : WentDown f s (fabricDown s f) := by
  rw [fabricDown_eq h]
  have w : Within [.regs, .out] [.queue, .perf] (flushCounted s f) (spillsEnd (dropsCounted s (flushCounted s f) f) f) :=
    (spillsEnd_within _ f).after ((dropsCounted_within s _ f).mono (by decide) (by decide)) (by decide) (by decide)
  generalize spillsEnd (dropsCounted s (flushCounted s f) f) f = u at w
  have we := originsEnd_within s (flushes u f) f
  generalize originsEnd s (flushes u f) f = t at we
  have hw : u.fab = (flushCounted s f).fab := w.parts .fab (by decide)
  have hu : u.fab = (queuesEmptied s f).fab := hw.trans (flushCounted_fab s f)
  have ht : t.fab = (flushes u f).fab := we.parts .fab (by decide)
  have keep : ∀ g : Fld, g.addr = 0x81008 + 0x80 * (f % 42) → getB t g = getB (flushes u f) g := fun g e =>
    we.getB_eq (by rw [e]; simp only [List.forall_mem_cons, Area.has, List.not_mem_nil, false_implies, implies_true, and_true]; omega)
  obtain ⟨su, sf⟩ := flushes_status u f
  have fl : Counted (Reg.FP_FLUSHED_HI f) (Reg.FP_FLUSHED_LO f)
      ((s.fab.frames.filter (fun x => x.q / 8 = f)).length + (s.fab.sluice.filter (fun x => x.f = f)).length + inTransit s f) s u :=
    (flushed_counter f).apart (by decide) (flushCounted_counts s f) w (by decide)
  have fw := fl.then (u := flushes u f) (flushes_word u (by simp only [Reg.FP_FLUSHED_HI]; omega)) (flushes_word u (by simp only [Reg.FP_FLUSHED_LO]; omega))
  have ff : (flushes u f).fab = (updEg u f (fun _ => {})).fab := rfl
  exact
    { up := (keep _ rfl).trans su
      flushing := (keep _ rfl).trans sf
      frames := by rw [ht, ff]; exact congrArg Fab.frames hu
      sluice := by rw [ht, ff]; exact congrArg Fab.sluice hu
      egress := (egS_congr f (ht.trans ff)).trans (egS_updEg_same u f _)
      counted := (flushed_counter f).apart (by decide) fw we (by decide) }

end fabricDown

/-! ### A port goes down (R199, R208) -/

section portDown
variable {s : State} {p : Nat}

/-- The state in which the PHY of port `p` shows that its link is down. -/
def phyDown (s : State) (p : Nat) : State :=
  raise (setF (setF s (Reg.PORT_PHY_STATUS_LINK_UP p) 0) (Reg.PORT_PHY_STATUS_BLOCK_LOCK p) 0) (Reg.PORT_PHY_EVENTS_LINK_DOWN p)

/-- A trunk that loses a lane shows it. -/
def laneDown (s : State) (p : Nat) (laneLost : Bool) : State :=
  if laneLost ∧ 32 ≤ p then
    raise (setF (setF s (Reg.PORT_PHY_STATUS_LANE1_LOCK p) 0) (Reg.PORT_PHY_STATUS_AM_LOCK p) 0) (Reg.PORT_PHY_EVENTS_LANE_LOST p)
  else s

/-- The PTP side of a port whose link is down. -/
def ptpDown (s : State) (p : Nat) : State :=
  updPort (setF s (Reg.PORT_TT_STATUS_L1SYNC_UP p) 0) p (fun o =>
    { o with phy := none, ann := none, utc := none, syncIn := none, syncOut := none, reqIn := none, reqOut := none })

theorem portDown_eq (b : Bool) (h : getB s (Reg.PORT_PHY_STATUS_LINK_UP p) = true) :
    portDown s p b = fabricDown (bermAbandon (ptpDown (laneDown (phyDown s p) p b) p) p) p := if_neg (by rw [h]; decide)

theorem phyDown_shows (s : State) (p : Nat) :
    getF (phyDown s p) (Reg.PORT_PHY_STATUS_LINK_UP p) = 0 ∧ getF (phyDown s p) (Reg.PORT_PHY_EVENTS_LINK_DOWN p) = 1 := by
  refine ⟨?_, getF_raise_same _ _ (show 1 + 1 ≤ 32 by decide) rfl⟩
  rw [phyDown, getF_raise_ne _ _ _ (show 1 + 1 ≤ 32 by decide) (.inl (show portBase p + 0x84 ≠ portBase p + 0x88 by omega)),
    getF_setF_ne _ _ _ _ (show 1 + 1 ≤ 32 by decide) (.inr (.inl (show 0 + 1 ≤ 1 by decide))), getF_setF_same _ _ _ (show 0 + 1 ≤ 32 by decide)]
  rfl

theorem laneDown_keeps (s : State) (p : Nat) (b : Bool) :
    getF (laneDown s p b) (Reg.PORT_PHY_STATUS_LINK_UP p) = getF s (Reg.PORT_PHY_STATUS_LINK_UP p) ∧
    getF (laneDown s p b) (Reg.PORT_PHY_EVENTS_LINK_DOWN p) = getF s (Reg.PORT_PHY_EVENTS_LINK_DOWN p) := by
  unfold laneDown
  split
  · constructor
    · rw [getF_raise_ne _ _ _ (show 0 + 1 ≤ 32 by decide) (.inl (show portBase p + 0x84 ≠ portBase p + 0x88 by omega)),
      getF_setF_ne _ _ _ _ (show 3 + 1 ≤ 32 by decide)
        (.inr (.inl (show 0 + 1 ≤ 3 by decide))), getF_setF_ne _ _ _ _ (show 2 + 1 ≤ 32 by decide) (.inr (.inl (show 0 + 1 ≤ 2 by decide)))]
    · rw [getF_raise_ne _ _ _ (show 0 + 1 ≤ 32 by decide) (.inr (.inr (show 0 + 1 ≤ 1 by decide))),
        getF_setF_ne _ _ _ _ (show 3 + 1 ≤ 32 by decide) (.inl (show portBase p + 0x88 ≠ portBase p + 0x84 by omega)), getF_setF_ne _ _ _ _ (show 2 + 1 ≤ 32 by decide) (.inl (show portBase p + 0x88 ≠ portBase p + 0x84 by omega))]
  · exact ⟨rfl, rfl⟩

theorem isBerm_l1sync (p : Nat) : IsBermFld (Reg.PORT_TT_STATUS_L1SYNC_UP p) := ⟨⟨p, .inl rfl⟩, show 1 ≤ 1 by decide, show 1 + 1 ≤ 32 by decide⟩

/-- Beside the fabric side, only registers, port state and what a Berm window's end moves change. -/
theorem portDown_before (s : State) (p : Nat) (b : Bool) :
    Within [.regs, .mode, .clk, .tim, .sel, .ports, .cal, .out] [.ref, .port, .eng, .cal] s (bermAbandon (ptpDown (laneDown (phyDown s p) p b) p) p) := by
  have hb := portBase_range p
  have hits : ∀ f : Fld, (∃ o, o < 512 ∧ f.addr = portBase p + o) → Hits [.ref, .port, .eng, .cal] f := by
    rintro f ⟨o, ho, hf⟩
    simp only [hits_nil, hits_cons, Area.has, hf]
    omega
  refine (bermAbandon_within _ p).after ?_ (by decide) (by decide)
  refine (updPort_within _ _ _).after (setF_in ?_ (by decide) (hits _ ⟨8, by decide, rfl⟩)) (by decide) (by decide)
  have hd : Within [.regs, .mode, .clk, .tim, .sel, .ports, .cal, .out] [.ref, .port, .eng, .cal] s (phyDown s p) :=
    raise_in (setF_in (setF_in .refl (by decide) (hits _ ⟨0x84, by decide, rfl⟩)) (by decide) (hits _ ⟨0x84, by decide, rfl⟩)) (by decide) (by decide)
      (hits _ ⟨0x88, by decide, rfl⟩)
  refine .ite ?_ hd
  exact raise_in (setF_in (setF_in hd (by decide) (hits _ ⟨0x84, by decide, rfl⟩)) (by decide) (hits _ ⟨0x84, by decide, rfl⟩)) (by decide) (by decide)
    (hits _ ⟨0x88, by decide, rfl⟩)

theorem portDown_phy (s : State) (p : Nat) (b : Bool) :
    getB (bermAbandon (ptpDown (laneDown (phyDown s p) p b) p) p) (Reg.PORT_PHY_STATUS_LINK_UP p) = false ∧
    getB (bermAbandon (ptpDown (laneDown (phyDown s p) p b) p) p) (Reg.PORT_PHY_EVENTS_LINK_DOWN p) = true := by
  have k : StandKept (laneDown (phyDown s p) p b) (bermAbandon (ptpDown (laneDown (phyDown s p) p b) p) p) :=
    (bermAbandon_standKept _ p).after ((setF_standKept _ (isBerm_l1sync p) 0).of_regs rfl)
  obtain ⟨hu, hd⟩ := phyDown_shows s p
  obtain ⟨ku, kd⟩ := laneDown_keeps (phyDown s p) p b
  exact ⟨getB_eq_false ((k _ (isStand_port (by decide) (by decide) (by decide))).trans (ku.trans hu)),
    getB_eq_true ((k _ (isStand_port (by decide) (by decide) (by decide))).trans (kd.trans hd))⟩

/-- What goes down is the same after a step that leaves the fabric. -/
theorem WentDown.since {f : Nat} {s t u : State} {l : List StatePart} {g : List Area} (h : WentDown f t u) (w : Within l g s t) (hf : StatePart.fab ∉ l)
    (hn : StatePart.now ∉ l) (hg : ∀ x ∈ g, x ∈ [Area.ref, .port, .eng, .cal]) : WentDown f s u := by
  have ef : t.fab = s.fab := w.parts .fab hf
  have en : t.now = s.now := w.parts .now hn
  have ei : inTransit t f = inTransit s f := by unfold inTransit nowPs; rw [egS_congr f ef, en]
  have word : ∀ a, 0x81000 ≤ a → a < 0x82500 → regWord t a = regWord s a := fun a h1 h2 => by
    refine w.regs a fun x m => ?_
    have m' := hg x m
    simp only [List.mem_cons, List.not_mem_nil, or_false] at m'
    obtain rfl | rfl | rfl | rfl := m' <;> simp only [Area.has] <;> omega
  obtain ⟨up, fl, fr, sl, eg, c⟩ := h
  rw [ef] at fr sl c
  rw [ei] at c
  exact ⟨up, fl, fr, sl, eg, c.since (word _ (by simp only [Reg.FP_FLUSHED_HI]; omega) (by simp only [Reg.FP_FLUSHED_HI]; omega))
    (word _ (by simp only [Reg.FP_FLUSHED_LO]; omega) (by simp only [Reg.FP_FLUSHED_LO]; omega))⟩

theorem portDown_drops (b : Bool) (hp : p < 36) (h : getB s (Reg.PORT_PHY_STATUS_LINK_UP p) = true) (hu : fabUp s p = true) :
    Completes (exec (.portDown p b) s) fun t =>
      Frame [.regs, .mode, .clk, .tim, .sel, .ports, .jieth, .fab, .cal, .cmd, .aud, .out]
        [.ref, .port, .fport, .queue, .eng, .perf, .cal, .aud, .cmd] s t ∧
      getB t (Reg.PORT_PHY_STATUS_LINK_UP p) = false ∧ getB t (Reg.PORT_PHY_EVENTS_LINK_DOWN p) = true ∧ WentDown p s t := by
  have run : exec (.portDown p b) s = ok (portDown s p b) := (if_neg (by omega)).trans (if_pos hp)
  have wb := portDown_before s p b
  obtain ⟨pu, pd⟩ := portDown_phy s p b
  have hub : fabUp (bermAbandon (ptpDown (laneDown (phyDown s p) p b) p) p) p = true := by
    refine Eq.trans (wb.getB_eq fun x m => ?_) hu
    simp only [List.mem_cons, List.not_mem_nil, or_false] at m
    obtain rfl | rfl | rfl | rfl := m <;> simp only [Area.has, Reg.FP_SW_STATUS_LINK_UP] <;> omega
  have wf := fabricDown_within (bermAbandon (ptpDown (laneDown (phyDown s p) p b) p) p) p
  have keep : ∀ g : Fld, Area.port.has g.addr → getB (portDown s p b) g = getB (bermAbandon (ptpDown (laneDown (phyDown s p) p b) p) p) g := fun g hg => by
    rw [portDown_eq b h]
    refine wf.getB_eq fun x m => ?_
    simp only [Area.has] at hg
    simp only [List.mem_cons, List.not_mem_nil, or_false] at m
    obtain rfl | rfl | rfl | rfl | rfl := m <;> simp only [Area.has] <;> omega
  have hb := portBase_range p
  refine ⟨_, run, (portDown_within s p b).frame, (keep _ ?_).trans pu, (keep _ ?_).trans pd, ?_⟩
  · simp only [Area.has, Reg.PORT_PHY_STATUS_LINK_UP]; omega
  · simp only [Area.has, Reg.PORT_PHY_EVENTS_LINK_DOWN]; omega
  · rw [portDown_eq b h]
    exact (fabricDown_wentDown hub).since wb (by decide) (by decide) (by decide)

theorem linkDown_drops {f : Nat} (b : Bool) (h36 : 36 ≤ f) (hf : f < 42) (hu : fabUp s f = true) :
    Completes (exec (.portDown f b) s) fun t =>
      Frame [.regs, .jieth, .fab, .cmd, .aud, .out] [.fport, .queue, .perf, .aud, .cmd] s t ∧ fabUp t f = false ∧
      getB t (Reg.FP_SW_STATUS_FLUSHING f) = true ∧ t.fab.frames = s.fab.frames.filter (fun x => x.q / 8 ≠ f) := by
  have run : exec (.portDown f b) s = ok (fabricDown s f) := (if_neg (by omega)).trans (if_neg (by omega))
  obtain ⟨up, fl, fr, -, -, -⟩ := fabricDown_wentDown hu
  exact ⟨_, run, (fabricDown_within s f).frame, up, fl, fr⟩

theorem flushDone_ends {f : Nat} (hf : f < 42) (h : getB s (Reg.FP_SW_STATUS_FLUSHING f) = true) :
    Completes (exec (.flushDone f) s) fun t =>
      Frame [.regs, .out] [.fab, .fport] s t ∧ getB t (Reg.FP_SW_STATUS_FLUSHING f) = false ∧ getB t Reg.FAB_EVENTS_FLUSH_DONE = true := by
  have run : exec (.flushDone f) s = ok (raise (setF s (Reg.FP_SW_STATUS_FLUSHING f) 0) Reg.FAB_EVENTS_FLUSH_DONE) := (if_neg (by omega)).trans (if_pos h)
  refine ⟨_, run, ((execFlushDone_within f s).ofRun run).frame, getB_eq_false ?_, getB_eq_true (getF_raise_same _ _ (by decide) rfl)⟩
  rw [getF_raise_ne _ _ _ (by decide) (.inl (by simp only [Reg.FP_SW_STATUS_FLUSHING, Reg.FAB_EVENTS_FLUSH_DONE]; omega)),
    getF_setF_same _ _ _ (show 30 + 1 ≤ 32 by decide)]
  rfl

theorem flushDone_idle {f : Nat} (hf : f < 42) (h : getB s (Reg.FP_SW_STATUS_FLUSHING f) = false) : Completes (exec (.flushDone f) s) fun t => t = s :=
  ⟨s, (if_neg (by omega)).trans (if_neg (by rw [h]; decide)), rfl⟩

end portDown

/-! ### A port comes up (R82, R88, R189, R206, R207) -/

section linkUp
variable {s : State} {p : Nat}

/-- What a port's state is as it comes up. -/
def portUp (s : State) (p : Nat) (x : LinkStart) : State :=
  updPort (phaseClean s p) p (fun o => { o with
    divAt := some s.now, skew := if 32 ≤ p then x.skew else 0, txPhi := x.txPhi % 2 ^ 18, phy := some (portRate s p, portFec s p),
    eq0 := regWord s (portBase p + 0x98), eq1 := if 32 ≤ p then regWord s (portBase p + 0x9C) else o.eq1 })

/-- The PHY of port `p` shows its link up. -/
def phyUp (s : State) (p : Nat) : State :=
  setF (setF (setF s (Reg.PORT_PHY_STATUS_LINK_UP p) 1) (Reg.PORT_PHY_STATUS_BLOCK_LOCK p) 1) (Reg.PORT_TT_STATUS_CDR_LOCK p) 1

/-- A trunk shows its second lane locked. -/
def lanesUp (s : State) (p : Nat) : State :=
  if 32 ≤ p then setF (setF s (Reg.PORT_PHY_STATUS_LANE1_LOCK p) 1) (Reg.PORT_PHY_STATUS_AM_LOCK p) 1 else s

/-- The fabric side of port `p` comes up. -/
def fabricUp (s : State) (p : Nat) (preempt : Bool) : State := setB (setF s (Reg.FP_SW_STATUS_LINK_UP p) 1) (Reg.FP_SW_STATUS_PREEMPT_ACTIVE p) preempt

theorem linkUp_runs (x : LinkStart) (hp : p < 36) (hd : powered s (portDomain p) = true) (he : phyEnabled s p = true)
    (h : getB s (Reg.PORT_PHY_STATUS_LINK_UP p) = false) :
    exec (.linkUp p x) s = ok (fabricUp (lanesUp (phyUp (portUp s p x) p) p) p (x.verified && getB s (Reg.FP_SW_CFG_PREEMPT_EN p))) :=
  (if_neg (by omega)).trans (if_neg (by rw [hd, he, h]; decide))

theorem phyUp_shows (s : State) (p : Nat) :
    getF (phyUp s p) (Reg.PORT_PHY_STATUS_LINK_UP p) = 1 ∧ getF (phyUp s p) (Reg.PORT_PHY_STATUS_BLOCK_LOCK p) = 1 ∧
    getF (phyUp s p) (Reg.PORT_TT_STATUS_CDR_LOCK p) = 1 := by
  have hne : portBase p + 0x84 ≠ portBase p + 8 := by omega
  refine ⟨?_, ?_, ?_⟩
  · rw [phyUp, getF_setF_ne _ _ _ _ (show 0 + 1 ≤ 32 by decide) (.inl hne), getF_setF_ne _ _ _ _ (show 1 + 1 ≤ 32 by decide)
      (.inr (.inl (show 0 + 1 ≤ 1 by decide))), getF_setF_same _ _ _ (show 0 + 1 ≤ 32 by decide)]
    rfl
  · rw [phyUp, getF_setF_ne _ _ _ _ (show 0 + 1 ≤ 32 by decide) (.inl hne), getF_setF_same _ _ _ (show 1 + 1 ≤ 32 by decide)]
    rfl
  · rw [phyUp, getF_setF_same _ _ _ (show 0 + 1 ≤ 32 by decide)]
    rfl

theorem lanesUp_keeps (s : State) (p : Nat) :
    getF (lanesUp s p) (Reg.PORT_PHY_STATUS_LINK_UP p) = getF s (Reg.PORT_PHY_STATUS_LINK_UP p) ∧
    getF (lanesUp s p) (Reg.PORT_PHY_STATUS_BLOCK_LOCK p) = getF s (Reg.PORT_PHY_STATUS_BLOCK_LOCK p) ∧
    getF (lanesUp s p) (Reg.PORT_TT_STATUS_CDR_LOCK p) = getF s (Reg.PORT_TT_STATUS_CDR_LOCK p) := by
  have hne : portBase p + 8 ≠ portBase p + 0x84 := by omega
  unfold lanesUp
  split
  · refine ⟨?_, ?_, ?_⟩
    · rw [getF_setF_ne _ _ _ _ (show 3 + 1 ≤ 32 by decide) (.inr (.inl (show 0 + 1 ≤ 3 by decide))),
        getF_setF_ne _ _ _ _ (show 2 + 1 ≤ 32 by decide) (.inr (.inl (show 0 + 1 ≤ 2 by decide)))]
    · rw [getF_setF_ne _ _ _ _ (show 3 + 1 ≤ 32 by decide) (.inr (.inl (show 1 + 1 ≤ 3 by decide))),
        getF_setF_ne _ _ _ _ (show 2 + 1 ≤ 32 by decide) (.inr (.inl (show 1 + 1 ≤ 2 by decide)))]
    · rw [getF_setF_ne _ _ _ _ (show 3 + 1 ≤ 32 by decide) (.inl hne), getF_setF_ne _ _ _ _ (show 2 + 1 ≤ 32 by decide) (.inl hne)]
  · exact ⟨rfl, rfl, rfl⟩

theorem lanesUp_shows (s : State) (h : 32 ≤ p) :
    getF (lanesUp s p) (Reg.PORT_PHY_STATUS_LANE1_LOCK p) = 1 ∧ getF (lanesUp s p) (Reg.PORT_PHY_STATUS_AM_LOCK p) = 1 := by
  rw [lanesUp, if_pos h]
  refine ⟨?_, ?_⟩
  · rw [getF_setF_ne _ _ _ _ (show 3 + 1 ≤ 32 by decide) (.inr (.inl (show 2 + 1 ≤ 3 by decide))), getF_setF_same _ _ _ (show 2 + 1 ≤ 32 by decide)]
    rfl
  · rw [getF_setF_same _ _ _ (show 3 + 1 ≤ 32 by decide)]
    rfl

theorem fabricUp_within (s : State) (p : Nat) (b : Bool) : Within [.regs] [.fport] s (fabricUp s p b) :=
  setF_in (setF_in .refl (by decide) (by simp only [hits_nil, hits_cons, Area.has, Reg.FP_SW_STATUS_LINK_UP]; omega)) (by decide)
    (by simp only [hits_nil, hits_cons, Area.has, Reg.FP_SW_STATUS_PREEMPT_ACTIVE]; omega)

theorem fabricUp_shows (s : State) (b : Bool) (hp : p < 36) : fabUp (fabricUp s p b) p = true ∧ preemptActive (fabricUp s p b) p = b := by
  refine ⟨getB_eq_true ?_, ?_⟩
  · rw [fabricUp, setB, getF_setF_ne _ _ _ _ (show 29 + 1 ≤ 32 by decide) (.inr (.inr (show 29 + 1 ≤ 31 by decide))),
      getF_setF_same _ _ _ (show 31 + 1 ≤ 32 by decide)]
    rfl
  · rw [preemptActive, decide_eq_true hp, Bool.true_and]
    exact getB_setB_same _ _ _ (show 29 + 1 ≤ 32 by decide) Nat.one_pos

theorem lanesUp_ports (s : State) (p : Nat) : (lanesUp s p).ports = s.ports := by
  unfold lanesUp
  split <;> rfl

/-- The ports' own state is what `portUp` makes of it. -/
theorem linkUp_ports (s : State) (p : Nat) (x : LinkStart) (b : Bool) (k : Nat) :
    portS (fabricUp (lanesUp (phyUp (portUp s p x) p) p) p b) k = portS (portUp s p x) k := by
  have h1 : (fabricUp (lanesUp (phyUp (portUp s p x) p) p) p b).ports = (lanesUp (phyUp (portUp s p x) p) p).ports := (fabricUp_within _ p b).parts .ports (by decide)
  unfold portS
  rw [h1, lanesUp_ports, phyUp, setF_ports, setF_ports, setF_ports]

theorem portUp_own (s : State) (p : Nat) (x : LinkStart) :
    (portS (portUp s p x) p).divAt = some s.now ∧ (portS (portUp s p x) p).txPhi = x.txPhi % 2 ^ 18 ∧
    (portS (portUp s p x) p).skew = if 32 ≤ p then x.skew else 0 := by
  unfold portUp
  rw [portS_updPort_same]
  exact ⟨rfl, rfl, rfl⟩

theorem portUp_other (s : State) (x : LinkStart) {k : Nat} (h : k ≠ p) : portS (portUp s p x) k = portS s k := by
  unfold portUp phaseClean
  rw [portS_updPort_ne _ _ h, portS_updPort_ne _ _ h]

theorem linkUp_comesUp {b : Bool} {sk : Int} {ph : Nat} (hp : p < 36) (hd : powered s (portDomain p) = true) (he : phyEnabled s p = true)
    (h : getB s (Reg.PORT_PHY_STATUS_LINK_UP p) = false) :
    Completes (exec (.linkUp p ⟨b, sk, ph⟩) s) fun t =>
      Frame [.regs, .ports] [.port, .fport] s t ∧ getB t (Reg.PORT_PHY_STATUS_LINK_UP p) = true ∧
      getB t (Reg.PORT_PHY_STATUS_BLOCK_LOCK p) = true ∧ getB t (Reg.PORT_TT_STATUS_CDR_LOCK p) = true ∧ fabUp t p = true ∧
      preemptActive t p = (b && getB s (Reg.FP_SW_CFG_PREEMPT_EN p)) ∧
      (32 ≤ p → getB t (Reg.PORT_PHY_STATUS_LANE1_LOCK p) = true ∧ getB t (Reg.PORT_PHY_STATUS_AM_LOCK p) = true ∧ (portS t p).skew = sk) ∧
      (portS t p).divAt = some s.now ∧ (portS t p).txPhi = ph % 2 ^ 18 ∧ ∀ k, k ≠ p → portS t k = portS s k := by
  have run := linkUp_runs ⟨b, sk, ph⟩ hp hd he h
  obtain ⟨u1, u2, u3⟩ := phyUp_shows (portUp s p ⟨b, sk, ph⟩) p
  obtain ⟨k1, k2, k3⟩ := lanesUp_keeps (phyUp (portUp s p ⟨b, sk, ph⟩) p) p
  obtain ⟨o1, o2, o3⟩ := portUp_own s p ⟨b, sk, ph⟩
  have hb := portBase_range p
  have keep : ∀ (t : State) (v : Bool) (o lo w x : Nat), o < 512 → getF t ⟨portBase p + o, lo, w⟩ = x → getF (fabricUp t p v) ⟨portBase p + o, lo, w⟩ = x :=
    fun t v o lo w x ho e => ((fabricUp_within t p v).getF_eq fun y m => by
      rw [List.mem_singleton.mp m]
      simp only [Area.has]
      omega).trans e
  obtain ⟨f1, f2⟩ := fabricUp_shows (lanesUp (phyUp (portUp s p ⟨b, sk, ph⟩) p) p) (b && getB s (Reg.FP_SW_CFG_PREEMPT_EN p)) hp
  refine ⟨_, run, ((execLinkUp_within p ⟨b, sk, ph⟩ s).ofRun run).frame, getB_eq_true (keep _ _ 0x84 0 1 1 (by decide) (k1.trans u1)),
    getB_eq_true (keep _ _ 0x84 1 1 1 (by decide) (k2.trans u2)), getB_eq_true (keep _ _ 8 0 1 1 (by decide) (k3.trans u3)), f1, f2, fun h32 => ?_, ?_, ?_, fun k hk => ?_⟩
  · obtain ⟨l1, l2⟩ := lanesUp_shows (phyUp (portUp s p ⟨b, sk, ph⟩) p) h32
    refine ⟨getB_eq_true (keep _ _ 0x84 2 1 1 (by decide) l1), getB_eq_true (keep _ _ 0x84 3 1 1 (by decide) l2), ?_⟩
    rw [linkUp_ports, o3, if_pos h32]
  · rw [linkUp_ports, o1]
  · rw [linkUp_ports, o2]
  · rw [linkUp_ports, portUp_other _ _ hk]

theorem linkUp_idle (x : LinkStart) (hp : p < 36) (h : phyEnabled s p = false ∨ getB s (Reg.PORT_PHY_STATUS_LINK_UP p) = true) :
    Completes (exec (.linkUp p x) s) fun t => t = s :=
  ⟨s, (if_neg (by omega)).trans (if_pos (by obtain h | h := h <;> simp [h])), rfl⟩

end linkUp

/-- Settles O49: a port's own fields and its fabric side one after the other; a Berm window that ends with it leaves both. -/
theorem portsUpAndDown : Obligations.PortsUpAndDown := by
  refine fun s => ⟨fun p b sk ph hp hd he h => linkUp_comesUp hp hd he h, fun p x hp h => linkUp_idle x hp h, fun p b hp h hu => ?_,
    fun f b h36 hf hu => linkDown_drops b h36 hf hu, fun f hf h => flushDone_ends hf h, fun f hf h => flushDone_idle hf h⟩
  obtain ⟨t, run, fr, pu, pd, w⟩ := portDown_drops b hp h hu
  exact ⟨t, run, fr, pu, pd, w.up, w.flushing, w.frames, w.sluice, w.egress, w.counted⟩

end Sys2Proof.Machine

end

section
/-! PROOFS. PTP_EVENT_RX counts a failed learning, which the statement's frame leaves out (R96, R181). -/

namespace Sys2Proof.Machine

/-! ### A frame for the device (R96, R180) -/

section mine
variable {s : State} {f : Nat} {fr : FrameIn} {a : Arrive}

theorem ptpAuth_off (h : getB s (Reg.PORT_PTP_XPORT_AUTH_EN f) = false) : ptpAuth s f fr = (s, true) := if_pos (by rw [h]; rfl)

/-- A good frame for the device is counted, its source learned, and handed on. -/
theorem rxFrame_device {v : Vlan} (h : GoodFrame f fr v (fabTakes s fr.len)) (hd : fr.toDevice = true) (hw : forwards s = true)
    (ha : getB (rxCounts (fabTakes s fr.len) f fr.len) (Reg.PORT_PTP_XPORT_AUTH_EN f) = false) :
    rxFrame s f fr a =
      toDevice (learn (rxCounts (fabTakes s fr.len) f fr.len) f (ingressVid (fabTakes s fr.len) f fr) fr.src) f fr a := by
  have hv := h.vlan
  obtain ⟨h1, h2, h3, -⟩ := h
  have hs : ¬ fr.len < 64 := by omega
  have hb : ¬ 9216 < fr.len := by omega
  have hw' : forwards (fabTakes s fr.len) = true := hw
  unfold rxFrame
  rw [show ({ s with fab := { s.fab with cells := s.fab.cells + cellsOf fr.len } } : State) = fabTakes s fr.len from rfl]
  generalize fabTakes s fr.len = t at *
  unfold rxCounts at ha
  unfold rxVlan at hv
  simp only [h1, hv, hs, hb, h3, hd, hw', if_false, if_true, false_and, decide_true, Bool.and_self, Bool.or_true]
  unfold rxCounts
  simp only [ptpAuth_off ha, ite_self, Bool.not_true, Bool.false_eq_true, if_false]

/-- A bucket with no way free: the failure is counted (R181). -/
theorem learn_full {vid mac : Nat} (h : getB s Reg.FAB_CFG_LEARN_EN = true) (hm : macFind s vid mac = none) (hb : bucketFree s vid mac = false) :
    learn s f vid mac = incF s Reg.FAB_LEARN_FAIL 1 := by
  unfold learn
  simp only [h, hm, hb, Bool.not_true, Bool.false_eq_true, if_false]

end mine

/-- Five addresses of VID 1 share a bucket, whatever the hash is: 2^17 addresses fall into 2^14 buckets. -/
theorem bucket_shared : ∃ (m : Nat) (l : List Nat), m < 2 ^ 17 ∧ m ∉ l ∧ l.length = 4 ∧ ∀ k ∈ l, Config.macHash 1 k = Config.macHash 1 m := by
  obtain ⟨y, hy⟩ := Fintype.exists_lt_card_fiber_of_mul_lt_card (fun k : Fin (2 ^ 17) => (Config.macHash 1 k.val).toFin) (n := 4) (by simp)
  obtain ⟨u, hu, hc⟩ := Finset.exists_subset_card_eq (Nat.succ_le_of_lt hy)
  obtain ⟨m, t, hm, rfl, ht⟩ := Finset.card_eq_succ.mp hc
  have same : ∀ k ∈ insert m t, Config.macHash 1 k.val = Config.macHash 1 m.val := fun k hk =>
    BitVec.eq_of_toFin_eq (((Finset.mem_filter.mp (hu hk)).2).trans ((Finset.mem_filter.mp (hu (Finset.mem_insert_self m t))).2).symm)
  refine ⟨m.val, t.toList.map Fin.val, m.isLt, fun h => ?_, by rw [List.length_map, Finset.length_toList, ht], fun k hk => ?_⟩
  · obtain ⟨k, hk, e⟩ := List.mem_map.mp h
    exact hm (Fin.ext e ▸ Finset.mem_toList.mp hk)
  · obtain ⟨j, hj, rfl⟩ := List.mem_map.mp hk
    exact same j (Finset.mem_insert_of_mem (Finset.mem_toList.mp hj))

/-! ### A device whose bucket is full -/

/-- The device but for its MAC table: in LOCKED, port 0 up and host-handled, one VLAN of all ports. -/
def hostDevice : State :=
  updPort { setF (setF State.reset (Reg.FP_SW_STATUS_LINK_UP 0) 1) Reg.CLK_FAB_PLL_LOCKED 1 with
    mode := .locked, domains := mainDomains, fab := { vlans := [⟨1, 2 ^ 42 - 1, 2 ^ 42 - 1⟩] } } 0 (fun o => { o with hostHandled := true })

/-- The device with static entries of VID 1. -/
def fullDevice (l : List Nat) : State :=
  { hostDevice with fab := { hostDevice.fab with macs := l.map fun k => ⟨1, k, 1, true, 0⟩ } }

/-- A Sync for the device from address `m`, tagged for VID 1, with its timestamp resolved. -/
def hostSync (m : Nat) : PtpRx :=
  { rise := 0, fall := 0, uis := 0,
    fr := { dst := 0x011B19000000, src := m, tag := some (1, 0), len := 64, toDevice := true, ptp := some { kind := .sync, domain := 0, corr := 0 } } }

section full
variable (l : List Nat) (m : Nat)

/-- The registers of the device that admission and learning read. -/
theorem hostDevice_regs :
    fabUp hostDevice 0 = true ∧ getB hostDevice Reg.CLK_FAB_PLL_LOCKED = true ∧ getB hostDevice Reg.FAB_CFG_LEARN_EN = true ∧
    getB hostDevice (Reg.PORT_PTP_XPORT_AUTH_EN 0) = false := by decide +kernel

theorem fullDevice_admits : Admits 0 (fullDevice l) := by
  obtain ⟨up, pll, -, -⟩ := hostDevice_regs
  have ht : throttled (fullDevice l) = false := by
    have e : getB (fullDevice l) Reg.CLK_FAB_PLL_LOCKED = true := pll
    rw [throttled, e, Bool.not_true, Bool.and_false]
  exact ⟨rfl, up, rfl, ht, rfl⟩

/-- The frame of a PTP message as it goes into the fabric. -/
def ptpFrame (s : State) (p : Nat) (m : PtpRx) : FrameIn :=
  { m.fr with ingTs := if m.resolved then (ingressStamp s p m / 5).toNat else 0, resolved := m.resolved }

/-- What a PTP message does before its frame goes into the fabric: its timestamp's event, and a gap that it asks for. -/
def ptpTaken (s : State) (p : Nat) (m : PtpRx) : Option PtpHdr → State
  | some h => takeGap (raiseIf (!m.resolved) s (Reg.PORT_TT_EVENTS_TS_UNRESOLVED p)) p m h
  | none => s

theorem ptpTaken_none {s : State} {p : Nat} {m : PtpRx} (hr : m.resolved = true) (hg : m.gap = none) (h : Option PtpHdr) : ptpTaken s p m h = s := by
  cases h with
  | none => rfl
  | some h => rw [ptpTaken, takeGap, hg, hr]; rfl

theorem ptpEventRx_runs {s : State} {p : Nat} {m : PtpRx} (hp : p < 36) (hd : powered s (portDomain p) = true) {u : State}
    (hu : u = ptpTaken s p m (ptpHere p (ptpFrame s p m) (arriveAt s p))) :
    exec (.ptpEventRx p m) s = ok (if powered u .fab && fabUp u p then ingress u p (ptpFrame s p m) else u) := by
  subst hu
  exact (if_neg (by omega)).trans (if_neg (by rw [hd]; decide))

theorem ptpEventRx_resolved {s : State} {p : Nat} {m : PtpRx} (hp : p < 36) (hd : powered s (portDomain p) = true) (hr : m.resolved = true)
    (hg : m.gap = none) : exec (.ptpEventRx p m) s = ok (if powered s .fab && fabUp s p then ingress s p (ptpFrame s p m) else s) :=
  ptpEventRx_runs hp hd (ptpTaken_none hr hg _).symm

theorem fullDevice_good : GoodFrame 0 (ptpFrame (fullDevice l) 0 (hostSync m)) ⟨1, 2 ^ 42 - 1, 2 ^ 42 - 1⟩ (fullDevice l) :=
  ⟨rfl, Nat.le_refl 64, show 64 ≤ 9216 by decide, show 1 ≠ 4095 by decide, rfl, by decide⟩

theorem fullDevice_hears : (ptpHere 0 (ptpFrame (fullDevice l) 0 (hostSync m)) (arriveAt (fullDevice l) 0)).isSome = true := rfl

variable {l m}

theorem macFind_full (hm : m ∉ l) : macFind (fullDevice l) 1 m = none := by
  refine List.find?_eq_none.mpr fun e he h => ?_
  obtain ⟨k, hk, rfl⟩ := List.mem_map.mp he
  simp only [Bool.and_eq_true, decide_eq_true_eq] at h
  exact hm (h.1.2 ▸ hk)

theorem bucketFree_full (hl : l.length = 4) (hk : ∀ k ∈ l, Config.macHash 1 k = Config.macHash 1 m) : bucketFree (fullDevice l) 1 m = false := by
  have all : bucketOf (fullDevice l) (Config.macHash 1 m).toNat = (fullDevice l).fab.macs := List.filter_eq_self.mpr fun e he => by
    obtain ⟨k, hkl, rfl⟩ := List.mem_map.mp he
    simp [hk k hkl, macLive]
  rw [bucketFree, all, show (fullDevice l).fab.macs.length = l.length from List.length_map _, hl]
  rfl

end full

/-- A PTP message for the host of a host-handled port whose source has no way in its bucket: the failure counts on its way. -/
theorem hostMessage_failsLearning {s : State} {p : Nat} {m : PtpRx} {v : Vlan} (hp : p < 36) (hd : powered s (portDomain p) = true)
    (hr : m.resolved = true) (hg : m.gap = none) (had : Admits p s) (hgood : GoodFrame p (ptpFrame s p m) v s) (hdev : m.fr.toDevice = true)
    (hw : forwards s = true) (hauth : getB s (Reg.PORT_PTP_XPORT_AUTH_EN p) = false) (hhost : hostAt s p = true)
    (hptp : (ptpHere p (ptpFrame s p m) (arriveAt s p)).isSome = true) (hlearn : getB s Reg.FAB_CFG_LEARN_EN = true)
    (hfind : macFind s (ingressVid s p (ptpFrame s p m)) m.fr.src = none) (hfull : bucketFree s (ingressVid s p (ptpFrame s p m)) m.fr.src = false) :
    ∃ t, exec (.ptpEventRx p m) s = ok t ∧ getF t Reg.FAB_LEARN_FAIL = (getF s Reg.FAB_LEARN_FAIL + 1) % 2 ^ 32 := by
  have run := ptpEventRx_resolved hp hd hr hg
  rw [had.1, had.2.1, Bool.and_self, if_pos rfl, ingress_admits had] at run
  have hsrc : (ptpFrame s p m).src = m.fr.src := rfl
  have hdev' : (ptpFrame s p m).toDevice = true := hdev
  generalize ptpFrame s p m = fr at *
  have free : freeCells s ⟨p, fr, arriveAt s p, 0⟩ = s := if_neg (by simp only; omega)
  have kt : RxKept s (fabTakes s fr.len) := fabTakes_rxKept s fr.len
  have k : RxKept s (rxCounts (fabTakes s fr.len) p fr.len) := (rxCounts_rxKept _ _ _).after kt
  have tables : (rxCounts (fabTakes s fr.len) p fr.len).fab = (fabTakes s fr.len).fab := (rxCounts_within _ p fr.len).parts .fab (by decide)
  have macs : (rxCounts (fabTakes s fr.len) p fr.len).fab.macs = s.fab.macs := by rw [tables]; rfl
  have hb := portBase_range p
  have auth : getB (rxCounts (fabTakes s fr.len) p fr.len) (Reg.PORT_PTP_XPORT_AUTH_EN p) = false :=
    (k.getB_eq (by simp only [IsRxCount, Reg.PORT_PTP_XPORT_AUTH_EN, Reg.FAB_LEARN_FAIL]; omega)).trans hauth
  have good : GoodFrame p fr v (fabTakes s fr.len) := by
    unfold GoodFrame at *
    rw [kt.ingressVid_eq, kt.vlanOf_eq]
    exact hgood
  rw [free, rxFrame_device good hdev' hw auth, kt.ingressVid_eq, hsrc,
    learn_full (k.learnEn_eq.trans hlearn) ((k.macFind_eq macs _ _).trans hfind) ((k.bucketFree_eq macs _ _).trans hfull)] at run
  generalize hu : rxCounts (fabTakes s fr.len) p fr.len = u at *
  obtain ⟨h, hh⟩ := Option.isSome_iff_exists.mp hptp
  have host : (arriveAt s p).host = true := hhost
  have dev : toDevice (incF u Reg.FAB_LEARN_FAIL 1) p fr (arriveAt s p) = hostPtp (incF u Reg.FAB_LEARN_FAIL 1) p fr (arriveAt s p) := by
    rw [toDevice, hh]
    exact if_pos host
  have fail : getF u Reg.FAB_LEARN_FAIL = getF s Reg.FAB_LEARN_FAIL := by
    rw [← hu]
    exact ((rxCounts_within _ p fr.len).getF_eq (by simp [Area.has, Reg.FAB_LEARN_FAIL])).trans
      ((fabTakes_within s fr.len).getF_eq fun x hx => absurd hx List.not_mem_nil)
  refine ⟨_, run, ?_⟩
  rw [dev, (hostPtp_within _ p fr _).getF_eq (by simp [Area.has, Reg.FAB_LEARN_FAIL]), getF_incF_same _ _ _ (by decide), fail]
  rfl

/-- Refutes O44: five addresses of VID 1 share a bucket. Four of them are static entries; a Sync of the fifth for a host-handled device joins the
FIFO, and the failed learning counts in LEARN_FAIL, a register of the fabric's group, which the frame of the second clause holds unchanged. -/
theorem not_ptpAndBerm : ¬ Obligations.PtpAndBerm := by
  intro h
  obtain ⟨m, l, -, hm, hl, hk⟩ := bucket_shared
  obtain ⟨-, -, learns, auth⟩ := hostDevice_regs
  have had := fullDevice_admits l
  have hgood := fullDevice_good l m
  have hears := fullDevice_hears l m
  obtain ⟨t, run, fail⟩ := hostMessage_failsLearning (s := fullDevice l) (p := 0) (m := hostSync m) (by decide) rfl rfl rfl had hgood rfl rfl auth rfl hears
    learns (macFind_full hm) (bucketFree_full hl hk)
  obtain ⟨t', run', ⟨-, words⟩, -⟩ := (h.1 0 (hostSync m) (fullDevice l) (by decide) rfl).2.1 _ had hgood hears auth ⟨rfl, rfl, rfl⟩
    (show 0 < 64 by decide)
  have e : t' = t := Host.Outcome.next.inj (run'.symm.trans run)
  rw [e] at words
  have kept : getF t Reg.FAB_LEARN_FAIL = getF (fullDevice l) Reg.FAB_LEARN_FAIL := getF_eq_of_regWord (words _ (by simp [Area.has, Reg.FAB_LEARN_FAIL]))
  omega

end Sys2Proof.Machine

end

section
/-! PROOFS. What the loss of a source leaves of the ports, and what it takes from the source's slots (R86, R115, R121). -/

namespace Sys2Proof.Machine

/-! ### The ports and slots through a new choice of reference -/

/-- The fields that stand have their values, and every port its own state. -/
def ChoiceKept (s t : State) : Prop := StandKept s t ∧ t.ports.port = s.ports.port

section kept
variable {s t u : State}

theorem ChoiceKept.refl (s : State) : ChoiceKept s s := ⟨.refl s, rfl⟩

theorem ChoiceKept.after (k : ChoiceKept t u) (h : ChoiceKept s t) : ChoiceKept s u := ⟨k.1.after h.1, k.2.trans h.2⟩

theorem ChoiceKept.of_parts (k : ChoiceKept s t) (h : u.regs = t.regs) (hp : u.ports = t.ports) : ChoiceKept s u :=
  ⟨k.1.of_regs h, by rw [hp]; exact k.2⟩

theorem ChoiceKept.portS_eq (k : ChoiceKept s t) (p : Nat) : portS t p = portS s p := by unfold portS; rw [k.2]

theorem ChoiceKept.ite {c : Prop} [Decidable c] (h : ChoiceKept s t) (k : ChoiceKept s u) : ChoiceKept s (if c then t else u) := by
  split
  · exact h
  · exact k

/-- An operation that touches neither the ports nor a register of ports and slots. -/
theorem Within.choiceKept {l : List StatePart} {g : List Area} (w : Within l g s t) (hl : StatePart.ports ∉ l)
    (hg : ∀ x ∈ g, x ∈ [Area.clk, .dll, .time, .ref, .eng, .cal, .gauge, .perf]) : ChoiceKept s t := by
  have h : t.ports = s.ports := w.parts .ports hl
  exact ⟨w.standKept hg, by rw [h]⟩

end kept

/-! ### The loss of all references -/

section walk
variable (s : State)

theorem bermWaits_choiceKept (l : List BermReq) : ChoiceKept s (l.foldl (fun t q => setF t (Reg.PORT_TT_STATUS_BERM_WAIT q.port) 0) s) :=
  List.foldlRecOn (motive := ChoiceKept s) l _ (.refl s) fun t h q _ => ChoiceKept.after ⟨setF_standKept t (isBerm_wait q.port) 0, rfl⟩ h

theorem abandonCal_choiceKept : ChoiceKept s (abandonCal s) := by
  have k := bermWaits_choiceKept s (s.ports.bermQ.filter (fun q => q.cal))
  unfold abandonCal
  dsimp only
  generalize (s.ports.bermQ.filter (fun q => q.cal)).foldl (fun t q => setF t (Reg.PORT_TT_STATUS_BERM_WAIT q.port) 0) s = t at k ⊢
  have w (u : State) : Within [.regs, .out] [.cal] u (raise u Reg.CAL_EVENTS_ABANDONED) :=
    raise_in .refl (by decide) (by decide) (by simp only [hits_nil, hits_cons, Area.has, Reg.CAL_EVENTS_ABANDONED]; omega)
  exact ((w _).choiceKept (by decide) (by decide)).after ⟨k.1.of_regs rfl, k.2⟩

theorem lossOfAll_choiceKept (lost : Option Nat) : ChoiceKept s (lossOfAll s lost) := by
  have w (u : State) : Within [.regs, .out] [.time] u (raise u Reg.TIME_EVENTS_TRACE_LOST) :=
    raise_in .refl (by decide) (by decide) (by simp only [hits_nil, hits_cons, Area.has, Reg.TIME_EVENTS_TRACE_LOST]; omega)
  have k1 : ChoiceKept s (raise (dropSelection (beginCoast s lost)) Reg.TIME_EVENTS_TRACE_LOST) :=
    ((w _).choiceKept (by decide) (by decide)).after
      (((dropSelection_within _).choiceKept (by decide) (by decide)).after ((beginCoast_within s lost).choiceKept (by decide) (by decide)))
  unfold lossOfAll
  dsimp only
  generalize raise (dropSelection (beginCoast s lost)) Reg.TIME_EVENTS_TRACE_LOST = a at k1 ⊢
  have k2 : ChoiceKept s (rootInput { a with tim := { a.tim with pend := none } } none) :=
    ((rootInput_within _ _).choiceKept (by decide) (by decide)).after (k1.of_parts rfl rfl)
  generalize rootInput { a with tim := { a.tim with pend := none } } none = b at k2 ⊢
  split
  · exact ((requestWord_within _ _).choiceKept (by decide) (by decide)).after
      (((publishHold_within b).choiceKept (by decide) (by decide)).after k2)
  · have k3 : ChoiceKept s (if b.mode = .calibrate then abandonCal b else b) := .ite ((abandonCal_choiceKept b).after k2) k2
    exact .ite (((enterHoldover_within _).choiceKept (by decide) (by decide)).after k3)
      (((enterFreerun_within _).choiceKept (by decide) (by decide)).after k3)

theorem suspectLoss_choiceKept (a : Nat) : ChoiceKept s (suspectLoss s a) := (lossOfAll_choiceKept s (some a)).of_parts rfl rfl

/-! ### Choices and switches (R121, R125, R126) -/

/-- The jump test's fields stand beside SRC_VALID and QUALIFIED. -/
theorem IsStand.apart_test {f : Fld} (i : IsStand f) (n : Nat) :
    f.addr ≠ (Reg.SLOT_JUMP n).addr ∧ (f.addr ≠ (Reg.SLOT_SLOT_STATUS_PHASE_SUSPECT n).addr ∨ f.lo + f.w ≤ 4 ∨ 4 + 1 ≤ f.lo) := by
  obtain ⟨h, -⟩ | ⟨p, rfl | rfl⟩ | ⟨m, rfl | rfl⟩ := i
  · simp only [Area.has] at h
    simp only [Reg.SLOT_JUMP, Reg.SLOT_SLOT_STATUS_PHASE_SUSPECT]
    omega
  · have := portBase_range p
    simp only [Reg.PORT_TT_STATUS_CDR_LOCK, Reg.SLOT_JUMP, Reg.SLOT_SLOT_STATUS_PHASE_SUSPECT]
    omega
  · have := portBase_range p
    simp only [Reg.PORT_TT_EVENTS_PHASE_LOST, Reg.SLOT_JUMP, Reg.SLOT_SLOT_STATUS_PHASE_SUSPECT]
    omega
  · simp only [Reg.SLOT_SLOT_STATUS_SRC_VALID, Reg.SLOT_JUMP]
    omega
  · simp only [Reg.SLOT_SLOT_STATUS_QUALIFIED, Reg.SLOT_JUMP]
    omega

theorem jumpTest_choiceKept (n : Nat) (x : Int) : ChoiceKept s (jumpTest s n x) := by
  have h : (jumpTest s n x).ports = s.ports := (jumpTest_within s n x).parts .ports (by decide)
  have hw (t : State) : Within [.regs, .out] [.ref] t (raise t Reg.REF_SEL_EVENTS_SUSPECT_SET) :=
    raise_in .refl (by decide) (by decide) (by simp only [hits_nil, hits_cons, Area.has, Reg.REF_SEL_EVENTS_SUSPECT_SET]; omega)
  refine ⟨?_, by rw [h]⟩
  unfold jumpTest
  cases slotJump s n x with
  | none => exact .refl s
  | some j =>
    have k : StandKept s (setF s (Reg.SLOT_JUMP n) (twos 32 (jumpPs j))) := fun f i =>
      getF_setF_ne _ _ _ _ (Nat.le_refl 32) (.inl (i.apart_test n).1)
    refine .ite (((hw _).standKept (by decide)).after (StandKept.after (fun f i => ?_) k)) k
    exact getF_setF_ne _ _ _ _ (show 4 + 1 ≤ 32 by decide) (i.apart_test n).2

theorem testedChoice_choiceKept (fuel : Nat) : ChoiceKept s (testedChoice fuel s).1 := by
  induction fuel generalizing s with
  | zero => exact .refl s
  | succ k ih =>
    unfold testedChoice
    split
    · exact .refl s
    next b _ =>
      dsimp only
      split
      · exact jumpTest_choiceKept s b _
      · exact (ih _).after (jumpTest_choiceKept s b _)

theorem settleChoice_choiceKept : ChoiceKept s (settleChoice s) := by
  have k := testedChoice_choiceKept s 8
  unfold settleChoice
  split
  · split
    next t b e => rw [e] at k; exact ((selectDirect_within t b).choiceKept (by decide) (by decide)).after k
    next t e => rw [e] at k; exact k
  · split
    · exact suspectLoss_choiceKept s _
    · split
      · exact .ite (.refl s) ((switchFrom_within _ _ _).choiceKept (by decide) (by decide))
      · exact .ite (.refl s) (lossOfAll_choiceKept s _)

theorem abortTo_choiceKept (w : Switch) : ChoiceKept s (abortTo s w) := by
  have k : ChoiceKept s (abortSwitch s) := (abortSwitch_within s).choiceKept (by decide) (by decide)
  unfold abortTo
  dsimp only
  split
  · exact (settleChoice_choiceKept _).after k
  · split
    · exact ((switchLost_within _ _ _ _).choiceKept (by decide) (by decide)).after k
    · exact (lossOfAll_choiceKept _ _).after k

theorem switchChoice_choiceKept (w : Switch) : ChoiceKept s (switchChoice s w) := by
  have k : ChoiceKept s (abortSwitch s) := (abortSwitch_within s).choiceKept (by decide) (by decide)
  unfold switchChoice
  dsimp only
  split
  · exact suspectLoss_choiceKept s _
  · split
    · split
      · split
        · exact (switchLost_within _ _ _ _).choiceKept (by decide) (by decide)
        · exact lossOfAll_choiceKept s _
      · exact abortTo_choiceKept s _
    · split
      · exact .ite (((startSwitch_within _ _ _ _ _).choiceKept (by decide) (by decide)).after k) (.refl s)
      · exact .refl s

theorem applyChoice_choiceKept : ChoiceKept s (applyChoice s) := by
  have k : ChoiceKept s (sourceLost s) := (sourceLost_within s).choiceKept (by decide) (by decide)
  unfold applyChoice
  dsimp only
  split
  · exact (switchChoice_choiceKept _ _).after k
  · exact (settleChoice_choiceKept _).after k

theorem reselect_choiceKept : ChoiceKept s (reselect s) := by
  have k : ChoiceKept s (noteEligible s) := (noteEligible_within s).choiceKept (by decide) (by decide)
  unfold reselect
  dsimp only
  split
  · exact k
  · exact (applyChoice_choiceKept _).after (.ite (((enterMode_within _ _).choiceKept (by decide) (by decide)).after k) k)

end walk

/-! ### A slot that loses its qualification (R115) -/

section lost
variable (s : State) (m n : Nat) (count : Bool)

/-- A slot's fields that a loss of qualification does not restart. -/
def IsQual (f : Fld) : Prop := ∃ n, f = Reg.SLOT_SLOT_STATUS_SRC_VALID n ∨ f = Reg.SLOT_SLOT_STATUS_QUALIFIED n

/-- WTR_RUN, PHASE_SUSPECT and TIMER_S stand beside them. -/
theorem IsQual.lo {f : Fld} (h : IsQual f) : f.lo + f.w ≤ 4 ∨ 5 + 1 ≤ f.lo ∧ f.lo + f.w ≤ 16 := by
  obtain ⟨n, rfl | rfl⟩ := h
  · exact .inl (show 2 + 1 ≤ 4 by decide)
  · exact .inr (show 5 + 1 ≤ 7 ∧ 7 + 1 ≤ 16 by decide)

/-- Of these fields a lost slot clears QUALIFIED alone. -/
theorem loseSlot_getF {f : Fld} (i : IsQual f) (h : slotQual s m = true) :
    getF (loseSlot s m count) f = getF (setF s (Reg.SLOT_SLOT_STATUS_QUALIFIED m) 0) f := by
  have hl := i.lo
  unfold loseSlot
  rw [h]
  dsimp only [Bool.not_true, Bool.false_eq_true, if_false]
  rw [if_neg (by decide), (slopeWatch_within _).getF_eq (by simp),
    getF_setF_ne _ _ _ _ (show 16 + 16 ≤ 32 by decide) (.inr (.inl (show f.lo + f.w ≤ 16 by omega))),
    getF_setF_ne _ _ _ _ (show 4 + 1 ≤ 32 by decide) (.inr (show f.lo + f.w ≤ 4 ∨ 4 + 1 ≤ f.lo by omega)),
    getF_setF_ne _ _ _ _ (show 5 + 1 ≤ 32 by decide) (.inr (show f.lo + f.w ≤ 5 ∨ 5 + 1 ≤ f.lo by omega))]
  exact getF_congr (setF_regs_congr (updSlot_regs s m _) _ _) f

theorem loseSlot_idle (h : slotQual s m = false) : loseSlot s m count = s := by
  unfold loseSlot
  rw [h]
  rfl

theorem loseSlot_srcValid : getF (loseSlot s m count) (Reg.SLOT_SLOT_STATUS_SRC_VALID n) = getF s (Reg.SLOT_SLOT_STATUS_SRC_VALID n) := by
  cases h : slotQual s m with
  | false => rw [loseSlot_idle s m count h]
  | true =>
    rw [loseSlot_getF s m count ⟨n, .inl rfl⟩ h]
    exact getF_setF_ne _ _ _ _ (show 7 + 1 ≤ 32 by decide) (.inr (.inl (show 2 + 1 ≤ 7 by decide)))

theorem loseSlot_slotQual_same : slotQual (loseSlot s n count) n = false := by
  cases h : slotQual s n with
  | false => rw [loseSlot_idle s n count h]; exact h
  | true =>
    unfold slotQual getB
    rw [loseSlot_getF s n count ⟨n, .inr rfl⟩ h, getF_setF_same _ _ _ (show 7 + 1 ≤ 32 by decide)]
    rfl

theorem setF_zero_getB {f g : Fld} (hf : f.lo + f.w ≤ 32) (hd : g = f ∨ g.addr ≠ f.addr) (h : getB s g = false) : getB (setF s f 0) g = false := by
  unfold getB at h ⊢
  obtain rfl | hd := hd
  · rw [getF_setF_same _ _ _ hf, Nat.zero_mod]; rfl
  · rw [getF_setF_ne _ _ _ _ hf (.inl hd)]; exact h

theorem loseSlot_slotQual_keeps (h : slotQual s n = false) : slotQual (loseSlot s m count) n = false := by
  cases hm : slotQual s m with
  | false => rw [loseSlot_idle s m count hm]; exact h
  | true =>
    have e := setF_zero_getB s (f := Reg.SLOT_SLOT_STATUS_QUALIFIED m) (g := Reg.SLOT_SLOT_STATUS_QUALIFIED n) (show 7 + 1 ≤ 32 by decide)
      (by simp only [Reg.SLOT_SLOT_STATUS_QUALIFIED, Fld.mk.injEq, and_true]; omega) h
    unfold slotQual getB at e ⊢
    rw [loseSlot_getF s m count ⟨n, .inr rfl⟩ hm]
    exact e

end lost

/-! ### The source's loss -/

section source
variable (s : State)

/-- The slots that follow a source, with SRC_VALID clear. -/
def sourceGone (l : List Nat) : State := l.foldl (fun t n => setF t (Reg.SLOT_SLOT_STATUS_SRC_VALID n) 0) s

/-- The slots on a list, without their qualification. -/
def slotsGone (l : List Nat) : State := l.foldl (fun t n => loseSlot t n true) s

theorem sourceGone_within (l : List Nat) : Within [.regs] [.slot] s (sourceGone s l) :=
  .fold (fun _ n => setF_in .refl (by decide) (by simp only [hits_nil, hits_cons, Area.has, Reg.SLOT_SLOT_STATUS_SRC_VALID]; omega)) .refl l

theorem slotsGone_within (l : List Nat) : Within [.regs, .clk, .sel] [.slot] s (slotsGone s l) := .fold (fun t n => loseSlot_within t n true) .refl l

theorem qualLost_choiceKept : ChoiceKept s (reselect (raise s Reg.REF_SEL_EVENTS_QUAL_LOST)) := by
  have w : Within [.regs, .out] [.ref] s (raise s Reg.REF_SEL_EVENTS_QUAL_LOST) :=
    raise_in .refl (by decide) (by decide) (by simp only [hits_nil, hits_cons, Area.has, Reg.REF_SEL_EVENTS_QUAL_LOST]; omega)
  exact (reselect_choiceKept _).after (w.choiceKept (by decide) (by decide))

theorem loseSlots_choiceKept (l : List Nat) : ChoiceKept (slotsGone s l) (loseSlots s l) := by
  unfold loseSlots
  split
  next e => subst e; exact .refl s
  · exact qualLost_choiceKept _

/-- The slots that follow the source. -/
def sourceSlots (ty ix : Nat) : List Nat := slotNos.filter (fun n => slotEn s n && decide (slotType s n = ty) && decide (slotIndex s n = ix))

theorem loseSource_choiceKept (ty ix : Nat) :
    ChoiceKept (slotsGone (sourceGone s (sourceSlots s ty ix)) ((sourceSlots s ty ix).filter (slotQual s))) (loseSource s ty ix) :=
  loseSlots_choiceKept _ _

/-- The ports keep their own state as a source is lost. -/
theorem loseSource_portS (ty ix p : Nat) : portS (loseSource s ty ix) p = portS s p := by
  have h1 : (slotsGone (sourceGone s (sourceSlots s ty ix)) ((sourceSlots s ty ix).filter (slotQual s))).ports = (sourceGone s (sourceSlots s ty ix)).ports :=
    (slotsGone_within _ _).parts .ports (by decide)
  have h2 : (sourceGone s (sourceSlots s ty ix)).ports = s.ports := (sourceGone_within s _).parts .ports (by decide)
  rw [(loseSource_choiceKept s ty ix).portS_eq p]
  unfold portS
  rw [h1, h2]

/-- A port's registers that stand do so as a source is lost. -/
theorem loseSource_getF (ty ix : Nat) {f : Fld} (i : IsStand f) (h : ¬ Area.slot.has f.addr) : getF (loseSource s ty ix) f = getF s f := by
  rw [(loseSource_choiceKept s ty ix).1 f i, (slotsGone_within _ _).getF_eq (by simpa using h), (sourceGone_within _ _).getF_eq (by simpa using h)]

theorem sourceGone_srcValid {l : List Nat} {n : Nat} (h : n ∈ l) : getB (sourceGone s l) (Reg.SLOT_SLOT_STATUS_SRC_VALID n) = false := by
  refine foldl_reaches (P := fun t => getB t (Reg.SLOT_SLOT_STATUS_SRC_VALID n) = false) (fun t => ?_) (fun t m ht => ?_) h s
  · unfold getB
    rw [getF_setF_same _ _ _ (show 2 + 1 ≤ 32 by decide)]
    rfl
  · exact setF_zero_getB t (show 2 + 1 ≤ 32 by decide) (by simp only [Reg.SLOT_SLOT_STATUS_SRC_VALID, Fld.mk.injEq, and_true]; omega) ht

theorem sourceGone_slotQual (l : List Nat) (n : Nat) : slotQual (sourceGone s l) n = slotQual s n :=
  List.foldlRecOn (motive := fun t => slotQual t n = slotQual s n) l _ rfl fun t h m _ => by
    rw [← h]
    unfold slotQual getB
    rw [getF_setF_ne _ _ _ _ (show 2 + 1 ≤ 32 by decide) (.inr (.inr (show 2 + 1 ≤ 7 by decide)))]

theorem slotsGone_srcValid (l : List Nat) (n : Nat) :
    getF (slotsGone s l) (Reg.SLOT_SLOT_STATUS_SRC_VALID n) = getF s (Reg.SLOT_SLOT_STATUS_SRC_VALID n) :=
  List.foldlRecOn (motive := fun t => getF t (Reg.SLOT_SLOT_STATUS_SRC_VALID n) = getF s (Reg.SLOT_SLOT_STATUS_SRC_VALID n)) l _ rfl
    fun t h m _ => (loseSlot_srcValid t m n true).trans h

theorem slotsGone_slotQual {l : List Nat} {n : Nat} (h : n ∈ l ∨ slotQual s n = false) : slotQual (slotsGone s l) n = false := by
  obtain h | h := h
  · exact foldl_reaches (P := fun t => slotQual t n = false) (f := fun t m => loseSlot t m true) (fun t => loseSlot_slotQual_same t n true)
      (fun t m => loseSlot_slotQual_keeps t m n true) h s
  · exact List.foldlRecOn (motive := fun t => slotQual t n = false) l _ h fun t e m _ => loseSlot_slotQual_keeps t m n true e

/-- The slots of the source that is lost: without a valid source, and not qualified. -/
theorem loseSource_loses {ty ix n : Nat} (hn : n < 8) (he : slotEn s n = true) (ht : slotType s n = ty) (hi : slotIndex s n = ix) :
    getB (loseSource s ty ix) (Reg.SLOT_SLOT_STATUS_SRC_VALID n) = false ∧ slotQual (loseSource s ty ix) n = false := by
  have hm : n ∈ sourceSlots s ty ix := by
    unfold sourceSlots slotNos
    simp [hn, he, ht, hi]
  obtain ⟨k, -⟩ := loseSource_choiceKept s ty ix
  constructor
  · rw [k.getB_eq (.inr (.inr ⟨n, .inl rfl⟩))]
    have := sourceGone_srcValid s hm
    unfold getB at this ⊢
    rw [slotsGone_srcValid]
    exact this
  · unfold slotQual
    rw [k.getB_eq (.inr (.inr ⟨n, .inr rfl⟩))]
    refine slotsGone_slotQual _ ?_
    rw [sourceGone_slotQual]
    cases hq : slotQual s n with
    | false => exact .inr rfl
    | true => exact .inl (List.mem_filter.mpr ⟨hm, hq⟩)

end source

end Sys2Proof.Machine

end

section
/-! PROOFS. Phase words, the loss of a port's signal, and completed delay exchanges (R83 to R86, R90). -/

namespace Sys2Proof.Machine

/-! ### The state of a port beside its registers -/

theorem getF_updPort (s : State) (p : Nat) (f : PortS → PortS) (g : Fld) : getF (updPort s p f) g = getF s g := getF_congr (updPort_regs s p f) g

theorem Within.portS_eq {l : List StatePart} {g : List Area} {s t : State} (w : Within l g s t) (hl : StatePart.ports ∉ l) (p : Nat) :
    portS t p = portS s p := by
  have h : t.ports = s.ports := w.parts .ports hl
  unfold portS
  rw [h]

/-! ### A phase word (R84 to R86) -/

section word
variable (s : State) (p : Nat)

/-- The phase word's lock: the CDR's and the helper's, and beats of which none is from before it. -/
def phaseGood : Bool := getB s (Reg.PORT_TT_STATUS_CDR_LOCK p) && getB s Reg.CLK_ROOT_STATUS_HELPER_LOCK && wordWhole s p

/-- The word is counted. -/
def phaseCounted : State := perf (incF s (Reg.PORT_PHASE_SEQ p) 1) 0x40 0x23 p 0 1

/-- What a group of beats makes of the port's phase, before the next group begins. -/
def phaseTaken (beats : List Beat) : State :=
  match phaseWordOf (getF s (Reg.PORT_TT_CTRL_DGW p)) beats with
  | none => updPort (phaseCounted s p) p (fun o => { o with phase := none })
  | some w =>
    if portStale s p then setF (updPort (phaseCounted s p) p (fun o => { o with phase := none })) (Reg.PORT_PHASE_STALE p) 1
    else if phaseGood s p then publishPhase (phaseCounted s p) p w
    else phaseCounted s p

variable {s p} {beats : List Beat}

theorem phaseWord_off (hp : p < 36) (h : getB s (Reg.PORT_TT_CTRL_DDMTD_EN p) = false) : exec (.phaseWord p beats) s = ok s := by
  show execPhaseWord p beats s = _
  unfold execPhaseWord
  rw [if_neg (by omega), if_pos (by simp [h])]

theorem phaseWord_run (hp : p < 36) (pw : powered s (portDomain p) = true) (hg : powered s .gauge = true)
    (h : getB s (Reg.PORT_TT_CTRL_DDMTD_EN p) = true) :
    exec (.phaseWord p beats) s = ok (updPort (phaseTaken s p beats) p (fun o => { o with groupAt := s.now })) := by
  show execPhaseWord p beats s = _
  unfold execPhaseWord phaseTaken
  rw [if_neg (by omega), if_neg (by simp [pw, hg, h])]
  dsimp only
  cases phaseWordOf (getF s (Reg.PORT_TT_CTRL_DGW p)) beats with
  | none => rfl
  | some w =>
    dsimp only
    split
    · rfl
    · unfold phaseGood
      split
      · rfl
      · rfl

/-- Of a phase word's register the count changes SEQ alone. -/
theorem phaseCounted_getF {f : Fld} (ha : f.addr = portBase p + 4) (hl : f.lo + f.w ≤ 26 ∨ 30 ≤ f.lo) : getF (phaseCounted s p) f = getF s f := by
  have hb := portBase_range p
  unfold phaseCounted
  rw [(perf_within _ _ _ _ _ _).getF_eq (by simp only [List.mem_singleton, forall_eq, Area.has, ha]; omega),
    getF_incF_ne _ _ _ _ (show 26 + 4 ≤ 32 by decide) (.inr hl)]

theorem phaseCounted_seq : getF (phaseCounted s p) (Reg.PORT_PHASE_SEQ p) = (getF s (Reg.PORT_PHASE_SEQ p) + 1) % 16 := by
  have hb := portBase_range p
  unfold phaseCounted
  rw [(perf_within _ _ _ _ _ _).getF_eq (by simp only [List.mem_singleton, forall_eq, Area.has, Reg.PORT_PHASE_SEQ]; omega),
    getF_incF_same _ _ _ (show 26 + 4 ≤ 32 by decide)]
  rfl

/-- The published word. -/
theorem publishPhase_phase (w : Nat) : getF (publishPhase s p w) (Reg.PORT_PHASE_PHASE p) = w % 2 ^ 18 := by
  unfold publishPhase
  rw [getF_setF_ne _ _ _ _ (show 30 + 1 ≤ 32 by decide) (.inr (.inl (show 0 + 18 ≤ 30 by decide))),
    getF_setF_ne _ _ _ _ (show 31 + 1 ≤ 32 by decide) (.inr (.inl (show 0 + 18 ≤ 31 by decide))), getF_setF_same _ _ _ (show 0 + 18 ≤ 32 by decide)]
  rfl

theorem publishPhase_valid (w : Nat) : getB (publishPhase s p w) (Reg.PORT_PHASE_VALID p) = true := by
  unfold publishPhase getB
  rw [getF_setF_ne _ _ _ _ (show 30 + 1 ≤ 32 by decide) (.inr (.inr (show 30 + 1 ≤ 31 by decide))), getF_setF_same _ _ _ (show 31 + 1 ≤ 32 by decide)]
  rfl

theorem publishPhase_stale (w : Nat) : getB (publishPhase s p w) (Reg.PORT_PHASE_STALE p) = false := by
  unfold publishPhase getB
  rw [getF_setF_same _ _ _ (show 30 + 1 ≤ 32 by decide)]
  rfl

theorem publishPhase_seq (w : Nat) : getF (publishPhase s p w) (Reg.PORT_PHASE_SEQ p) = getF s (Reg.PORT_PHASE_SEQ p) := by
  unfold publishPhase
  rw [getF_setF_ne _ _ _ _ (show 30 + 1 ≤ 32 by decide) (.inr (.inl (show 26 + 4 ≤ 30 by decide))),
    getF_setF_ne _ _ _ _ (show 31 + 1 ≤ 32 by decide) (.inr (.inl (show 26 + 4 ≤ 31 by decide))),
    getF_setF_ne _ _ _ _ (show 0 + 18 ≤ 32 by decide) (.inr (.inr (show 0 + 18 ≤ 26 by decide))), getF_updPort]

theorem phaseTaken_seq : getF (phaseTaken s p beats) (Reg.PORT_PHASE_SEQ p) = (getF s (Reg.PORT_PHASE_SEQ p) + 1) % 16 := by
  rw [← phaseCounted_seq]
  unfold phaseTaken
  split
  · exact getF_updPort _ _ _ _
  · split
    · rw [getF_setF_ne _ _ _ _ (show 30 + 1 ≤ 32 by decide) (.inr (.inl (show 26 + 4 ≤ 30 by decide))), getF_updPort]
    · split
      · exact publishPhase_seq _
      · rfl

/-- A held word, or one without lock, leaves what the port had. -/
theorem phaseTaken_kept (h : portStale s p = true ∨ phaseGood s p = false) {f : Fld} (ha : f.addr = portBase p + 4)
    (hl : f.lo + f.w ≤ 26 ∨ 31 ≤ f.lo) : getF (phaseTaken s p beats) f = getF s f := by
  rw [← phaseCounted_getF (s := s) (p := p) ha (by omega)]
  unfold phaseTaken
  split
  · exact getF_updPort _ _ _ _
  · split
    · rw [getF_setF_ne _ _ _ _ (show 30 + 1 ≤ 32 by decide) (.inr (show f.lo + f.w ≤ 30 ∨ 30 + 1 ≤ f.lo by omega)), getF_updPort]
    next hs =>
      rw [if_neg (by simpa [hs] using h)]

variable {w : Nat} (hw : phaseWordOf (getF s (Reg.PORT_TT_CTRL_DGW p)) beats = some w)
include hw

theorem phaseTaken_published (hg : phaseGood s p = true) (hs : portStale s p = false) : phaseTaken s p beats = publishPhase (phaseCounted s p) p w := by
  unfold phaseTaken
  rw [hw]
  dsimp only
  rw [if_neg (by simp [hs]), if_pos hg]

theorem phaseTaken_stale (hs : portStale s p = true) : getB (phaseTaken s p beats) (Reg.PORT_PHASE_STALE p) = true := by
  unfold phaseTaken
  rw [hw]
  dsimp only
  rw [if_pos hs]
  unfold getB
  rw [getF_setF_same _ _ _ (show 30 + 1 ≤ 32 by decide)]
  rfl

end word

theorem phaseWord_taken {p : Nat} {s : State} (beats : List Beat) (hp : p < 36) (pw : powered s (portDomain p) = true)
    (hg : powered s .gauge = true) (he : getB s (Reg.PORT_TT_CTRL_DDMTD_EN p) = true) :
    Completes (exec (.phaseWord p beats) s) fun t =>
      Frame [.regs, .ports, .out] [.port, .perf] s t ∧ getF t (Reg.PORT_PHASE_SEQ p) = (getF s (Reg.PORT_PHASE_SEQ p) + 1) % 16 ∧
      (∀ w, phaseWordOf (getF s (Reg.PORT_TT_CTRL_DGW p)) beats = some w → phaseGood s p = true → portStale s p = false →
        getF t (Reg.PORT_PHASE_PHASE p) = w % 2 ^ 18 ∧ getB t (Reg.PORT_PHASE_VALID p) = true ∧ getB t (Reg.PORT_PHASE_STALE p) = false) ∧
      (portStale s p = true ∨ phaseGood s p = false →
        getF t (Reg.PORT_PHASE_PHASE p) = getF s (Reg.PORT_PHASE_PHASE p) ∧ getB t (Reg.PORT_PHASE_VALID p) = getB s (Reg.PORT_PHASE_VALID p)) ∧
      (∀ w, phaseWordOf (getF s (Reg.PORT_TT_CTRL_DGW p)) beats = some w → phaseGood s p = true → portStale s p = true →
        getB t (Reg.PORT_PHASE_STALE p) = true) := by
  have run := phaseWord_run (beats := beats) hp pw hg he
  refine ⟨_, run, ((execPhaseWord_within p beats s).ofRun run).frame, ?_, fun w hw g hs => ?_, fun h => ⟨?_, ?_⟩, fun w hw _ hs => ?_⟩
  · rw [getF_updPort, phaseTaken_seq]
  · unfold getB
    rw [getF_updPort, getF_updPort, getF_updPort, phaseTaken_published hw g hs]
    exact ⟨publishPhase_phase w, publishPhase_valid w, publishPhase_stale w⟩
  · rw [getF_updPort]
    exact phaseTaken_kept h rfl (.inl (show 0 + 18 ≤ 26 by decide))
  · unfold getB
    rw [getF_updPort, phaseTaken_kept h (f := Reg.PORT_PHASE_VALID p) rfl (.inr (show 31 ≤ 31 by decide))]
  · unfold getB
    rw [getF_updPort]
    exact phaseTaken_stale hw hs

/-! ### Loss of signal (R86) -/

section loss
variable {s : State} {p : Nat}

theorem portSignalLoss_window (hp : p < 36) (h : inWindow s p = true ∨ (portS s p).after = true) : exec (.portSignalLoss p) s = ok s := by
  show execPortSignalLoss p s = _
  unfold execPortSignalLoss
  rw [if_neg (by omega), if_pos (by obtain h | h := h <;> simp [h])]

theorem portSignalLoss_run (hp : p < 36) (pw : powered s (portDomain p) = true) (hi : inWindow s p = false) (ha : (portS s p).after = false) :
    exec (.portSignalLoss p) s = ok (cdrLose s p) := by
  show execPortSignalLoss p s = _
  unfold execPortSignalLoss
  rw [if_neg (by omega), if_neg (by simp [pw, hi, ha])]

/-- The fall of a phase that was valid leaves the fields that stand but for what it raises. -/
theorem phaseLose_standing (hv : getB s (Reg.PORT_PHASE_VALID p) = true) {f : Fld} (i : IsStand f) (h : ¬ Area.slot.has f.addr) :
    getF (phaseLose s p) f = getF (raise (setF s (Reg.PORT_PHASE_VALID p) 0) (Reg.PORT_TT_EVENTS_PHASE_LOST p)) f := by
  unfold phaseLose
  rw [if_pos hv, loseSource_getF _ _ _ i h, getF_raise, getF_raise]
  exact getF_congr (setF_regs_congr (setF_regs_congr (updPort_regs s p _) _ _) _ _) f

theorem phaseLose_cdrLock : getF (phaseLose s p) (Reg.PORT_TT_STATUS_CDR_LOCK p) = getF s (Reg.PORT_TT_STATUS_CDR_LOCK p) := by
  have hb := portBase_range p
  cases hv : getB s (Reg.PORT_PHASE_VALID p) with
  | false => exact phaseLose_idle hv _
  | true =>
    rw [phaseLose_standing hv (.inr (.inl ⟨p, .inl rfl⟩)) (by simp only [Area.has, Reg.PORT_TT_STATUS_CDR_LOCK]; omega),
      getF_raise_ne _ _ _ (show 0 + 1 ≤ 32 by decide) (.inl (portBase_add_ne (by decide) (by decide) (by decide))),
      getF_setF_ne _ _ _ _ (show 31 + 1 ≤ 32 by decide) (.inl (portBase_add_ne (by decide) (by decide) (by decide)))]

theorem phaseLose_lost (hv : getB s (Reg.PORT_PHASE_VALID p) = true) : getB (phaseLose s p) (Reg.PORT_TT_EVENTS_PHASE_LOST p) = true := by
  have hb := portBase_range p
  unfold getB
  rw [phaseLose_standing hv (.inr (.inl ⟨p, .inr rfl⟩)) (by simp only [Area.has, Reg.PORT_TT_EVENTS_PHASE_LOST]; omega),
    getF_raise_same _ _ (show 0 + 1 ≤ 32 by decide) rfl]
  rfl

theorem cdrLose_fields :
    getB (cdrLose s p) (Reg.PORT_TT_STATUS_CDR_LOCK p) = false ∧ getB (cdrLose s p) (Reg.PORT_PHASE_VALID p) = false ∧
    (getB s (Reg.PORT_PHASE_VALID p) = true → getB (cdrLose s p) (Reg.PORT_TT_EVENTS_PHASE_LOST p) = true) := by
  unfold cdrLose
  refine ⟨?_, phaseLose_clears _ p, fun hv => phaseLose_lost ?_⟩
  · unfold getB
    rw [phaseLose_cdrLock, getF_updPort, getF_setF_same _ _ _ (show 0 + 1 ≤ 32 by decide)]
    rfl
  · unfold getB at hv ⊢
    rw [getF_updPort, getF_setF_ne _ _ _ _ (show 0 + 1 ≤ 32 by decide) (.inl (portBase_add_ne (by decide) (by decide) (by decide)))]
    exact hv

theorem portSignalLoss_loses (hp : p < 36) (pw : powered s (portDomain p) = true) (hi : inWindow s p = false) (ha : (portS s p).after = false) :
    Completes (exec (.portSignalLoss p) s) fun t =>
      SelFrame s t ∧ getB t (Reg.PORT_TT_STATUS_CDR_LOCK p) = false ∧ getB t (Reg.PORT_PHASE_VALID p) = false ∧
      (getB s (Reg.PORT_PHASE_VALID p) = true → getB t (Reg.PORT_TT_EVENTS_PHASE_LOST p) = true) := by
  have run := portSignalLoss_run hp pw hi ha
  exact ⟨_, run, ((execPortSignalLoss_within p s).ofRun run).frame, cdrLose_fields⟩

end loss

/-! ### A completed delay exchange (R90) -/

section delay
variable {s : State} {p : Nat} (t1 t2 t3 t4 : Int)

/-- The values of an exchange wait on a port. -/
def LinkWaits (s : State) (p : Nat) (t1 t2 t3 t4 : Int) (ofs : Option Int) (t : State) : Prop :=
  Frame [.ports] [] s t ∧
  (portS t p).pendLink = some ((linkQuantities (getS s (Reg.PORT_ALPHA p)) t1 t2 t3 t4).1, (linkQuantities (getS s (Reg.PORT_ALPHA p)) t1 t2 t3 t4).2.1, ofs) ∧
  ∀ k, k ≠ p → portS t k = portS s k

/-- The exchange's values wait, with `ofs`; `q` gives the count of intervals without one. -/
def linkTaken (s : State) (p : Nat) (t1 t2 t3 t4 : Int) (ofs : Option Int) (q : PortS → Nat) : State :=
  updPort s p (fun o => { o with
    pendLink := some ((linkQuantities (getS s (Reg.PORT_ALPHA p)) t1 t2 t3 t4).1, (linkQuantities (getS s (Reg.PORT_ALPHA p)) t1 t2 t3 t4).2.1, ofs)
    quiet := q o })

theorem linkTaken_waits (ofs : Option Int) (q : PortS → Nat) :
    LinkWaits s p t1 t2 t3 t4 ofs (linkTaken s p t1 t2 t3 t4 ofs q) ∧ (portS (linkTaken s p t1 t2 t3 t4 ofs q) p).quiet = q (portS s p) := by
  unfold linkTaken
  refine ⟨⟨(updPort_within s p _).frame, ?_, fun k hk => portS_updPort_ne s _ hk⟩, ?_⟩
  · rw [portS_updPort_same]
  · rw [portS_updPort_same]

theorem linkDelay_peer (hp : p < 36) (hm : delayMech s p = 2) : exec (.linkDelayUpdate p t1 t2 t3 t4) s = ok s := by
  show execLinkDelayUpdate p t1 t2 t3 t4 s = _
  unfold execLinkDelayUpdate
  rw [if_neg (by omega), if_pos (by simp [hm])]

variable (hp : p < 36) (pw : powered s (portDomain p) = true) (hm : delayMech s p ≠ 2)
include hp pw hm

theorem linkDelay_slave (hs : portState s p ≠ .master) (h2 : (portS s p).syncIn = some t2) (h3 : (portS s p).reqOut = some t3) :
    exec (.linkDelayUpdate p t1 t2 t3 t4) s =
      ok (linkTaken s p t1 t2 t3 t4 (some (linkQuantities (getS s (Reg.PORT_ALPHA p)) t1 t2 t3 t4).2.2) fun _ => 0) := by
  show execLinkDelayUpdate p t1 t2 t3 t4 s = _
  unfold execLinkDelayUpdate
  rw [if_neg (by omega), if_neg (by simp [pw, hm])]
  simp only [hs, decide_false, Bool.false_eq_true, if_false, h2, h3, ne_eq, not_true_eq_false, or_self]
  rfl

theorem linkDelay_master (hs : portState s p = .master) (h2 : (portS s p).reqIn = some t2) (h3 : (portS s p).syncOut = some t3) :
    exec (.linkDelayUpdate p t1 t2 t3 t4) s = ok (linkTaken s p t1 t2 t3 t4 none fun o => o.quiet) := by
  show execLinkDelayUpdate p t1 t2 t3 t4 s = _
  unfold execLinkDelayUpdate
  rw [if_neg (by omega), if_neg (by simp [pw, hm])]
  simp only [hs, decide_true, if_true, h2, h3, ne_eq, not_true_eq_false, or_self, if_false]
  rfl

/-- Timestamps that the device did not take complete no exchange. -/
theorem linkDelay_foreign (hs : portState s p ≠ .master) (h : (portS s p).syncIn ≠ some t2 ∨ (portS s p).reqOut ≠ some t3) :
    exec (.linkDelayUpdate p t1 t2 t3 t4) s = ok s := by
  show execLinkDelayUpdate p t1 t2 t3 t4 s = _
  unfold execLinkDelayUpdate
  rw [if_neg (by omega), if_neg (by simp [pw, hm])]
  simp only [hs, decide_false, Bool.false_eq_true, if_false]
  cases h2 : (portS s p).syncIn with
  | none => rfl
  | some own =>
    cases h3 : (portS s p).reqOut with
    | none => rfl
    | some out =>
      rw [h2, h3, ne_eq, ne_eq, Option.some.injEq, Option.some.injEq] at h
      exact if_pos (by tauto)

end delay

end Sys2Proof.Machine

end

section
/-! PROOFS. The Sync interval boundary of a port (R90, R92, R102, R111, R115, R286). -/

namespace Sys2Proof.Machine

/-! ### What each step at the boundary makes of the port's own state -/

theorem portS_setF (s : State) (f : Fld) (x p : Nat) : portS (setF s f x) p = portS s p := rfl

theorem portS_setHL (s : State) (hi lo : Fld) (x : Int) (p : Nat) : portS (setHL s hi lo x) p = portS s p := rfl

theorem PortS.eq_of_pendLink {o : PortS} (h : o.pendLink = none) : o = { o with pendLink := none } := by
  cases o
  cases h
  rfl

theorem PortS.eq_of_bermPend {o : PortS} (h : o.bermPend = none) : o = { o with bermPend := none } := by
  cases o
  cases h
  rfl

section own
variable (s : State) (p : Nat)

theorem applyItems_within (l : List CalItem) : Within [.cal] [] s (l.foldl applyItem s) := .fold (fun t it => applyItem_within t it) .refl l

theorem applyPortItems_portS : ∃ m, portS (applyPortItems s p) p = { portS s p with temps := m } := by
  have h : portS ((portItems s p).foldl applyItem s) p = portS s p := (applyItems_within s _).portS_eq (by decide) p
  unfold applyPortItems
  dsimp only
  split
  · refine ⟨[], ?_⟩
    rw [portS_setF, portS_setF, portS_updPort_same, h]
  · exact ⟨(portS s p).temps, h⟩

theorem publishLink_none (h : (portS s p).pendLink = none) : publishLink s p = s := by
  unfold publishLink
  rw [h]

/-- The link quantities with the pending rt and d_in published. -/
def linkShown (rt din : Int) : State :=
  setHL (updPort s p (fun o => { o with pendLink := none, rt := rt })) (Reg.PORT_LINK_DLY_HI p) (Reg.PORT_LINK_DLY_LO p) din

/-- The offset beside them, but while a correction of the port is pending. -/
def linkOffset (rt din : Int) : Option Int → State
  | none => linkShown s p rt din
  | some x =>
    if corrPending s p then linkShown s p rt din
    else setHL (updPort (linkShown s p rt din) p (fun o => { o with ofs := some x })) (Reg.PORT_OFFSET_HI p) (Reg.PORT_OFFSET_LO p) x

theorem publishLink_some {rt din : Int} {ofs : Option Int} (h : (portS s p).pendLink = some (rt, din, ofs)) :
    publishLink s p = linkOffset s p rt din ofs := by
  unfold publishLink
  rw [h]
  cases ofs with
  | none => rfl
  | some x => rfl

theorem linkShown_portS (rt din : Int) : portS (linkShown s p rt din) p = { portS s p with pendLink := none, rt := rt } := by
  unfold linkShown
  rw [portS_setHL, portS_updPort_same]

theorem publishLink_portS : ∃ r o, portS (publishLink s p) p = { portS s p with pendLink := none, rt := r, ofs := o } := by
  cases h : (portS s p).pendLink with
  | none => exact ⟨(portS s p).rt, (portS s p).ofs, by rw [publishLink_none s p h]; exact PortS.eq_of_pendLink h⟩
  | some q =>
    obtain ⟨rt, din, ofs⟩ := q
    have e := linkShown_portS s p rt din
    rw [publishLink_some s p h]
    cases ofs with
    | none => exact ⟨rt, _, e⟩
    | some x =>
      unfold linkOffset
      dsimp only
      split
      · exact ⟨rt, _, e⟩
      · refine ⟨rt, some x, ?_⟩
        rw [portS_setHL, portS_updPort_same, e]

theorem applyBerm_none (h : (portS s p).bermPend = none) : applyBerm s p = s := by
  unfold applyBerm
  rw [h]

theorem applyBerm_some {tx rx temp : Int} (h : (portS s p).bermPend = some (tx, rx, temp)) :
    applyBerm s p =
      setF (setF (setF (updPort s p (fun o => { o with bermPend := none, refTemp := some temp, temps := (tx, rx, temp) :: o.temps }))
        (Reg.PORT_BERM_TX p) (twos 32 tx)) (Reg.PORT_BERM_RX p) (twos 32 rx)) (Reg.PORT_BERM_AGE p) 0 := by
  unfold applyBerm
  rw [h]

theorem applyBerm_portS_some {tx rx temp : Int} (h : (portS s p).bermPend = some (tx, rx, temp)) :
    portS (applyBerm s p) p = { portS s p with bermPend := none, refTemp := some temp, temps := (tx, rx, temp) :: (portS s p).temps } := by
  rw [applyBerm_some s p h, portS_setF, portS_setF, portS_setF, portS_updPort_same]

theorem applyBerm_portS : ∃ r m, portS (applyBerm s p) p = { portS s p with bermPend := none, refTemp := r, temps := m } := by
  cases h : (portS s p).bermPend with
  | none => exact ⟨(portS s p).refTemp, (portS s p).temps, by rw [applyBerm_none s p h]; exact PortS.eq_of_bermPend h⟩
  | some q => exact ⟨_, _, applyBerm_portS_some s p h⟩

theorem portQuality_portS : portS (portQuality s p) p = portS s p := (portQuality_within s p).portS_eq (by decide) p

end own

/-! ### What each step makes of the registers -/

section regs
variable (s : State) (p : Nat) {f : Fld}

theorem applyPortItems_getF (h : ∀ a ∈ [0x30, 0x34], f.addr ≠ portBase p + a) : getF (applyPortItems s p) f = getF s f := by
  have e := (applyItems_within s (portItems s p)).getF_eq (f := f) (by simp)
  unfold applyPortItems
  dsimp only
  split
  · rw [getF_setF_ne _ (Reg.PORT_BERM_RX p) _ _ (Nat.le_refl 32) (.inl (h 0x34 (by decide))),
      getF_setF_ne _ (Reg.PORT_BERM_TX p) _ _ (Nat.le_refl 32) (.inl (h 0x30 (by decide))),
      getF_updPort, e]
  · exact e

theorem linkShown_getF (rt din : Int) (h : ∀ a ∈ [0x20, 0x24, 0x28, 0x2C], f.addr ≠ portBase p + a) : getF (linkShown s p rt din) f = getF s f := by
  unfold linkShown
  rw [getF_eq_of_regWord (regWord_setHL_ne _ _ _ _ (h 0x20 (by decide)) (h 0x24 (by decide))), getF_updPort]

theorem publishLink_getF (h : ∀ a ∈ [0x20, 0x24, 0x28, 0x2C], f.addr ≠ portBase p + a) : getF (publishLink s p) f = getF s f := by
  cases e : (portS s p).pendLink with
  | none => rw [publishLink_none s p e]
  | some q =>
    obtain ⟨rt, din, ofs⟩ := q
    rw [publishLink_some s p e]
    cases ofs with
    | none => exact linkShown_getF s p rt din h
    | some x =>
      unfold linkOffset
      dsimp only
      split
      · exact linkShown_getF s p rt din h
      · rw [getF_eq_of_regWord (regWord_setHL_ne _ _ _ _ (h 0x28 (by decide)) (h 0x2C (by decide))), getF_updPort]
        exact linkShown_getF s p rt din h

theorem applyBerm_getF (h : ∀ a ∈ [0x30, 0x34, 0x38], f.addr ≠ portBase p + a) : getF (applyBerm s p) f = getF s f := by
  cases e : (portS s p).bermPend with
  | none => rw [applyBerm_none s p e]
  | some q =>
    rw [applyBerm_some s p e, getF_setF_ne _ (Reg.PORT_BERM_AGE p) _ _ (Nat.le_refl 32) (.inl (h 0x38 (by decide))),
      getF_setF_ne _ (Reg.PORT_BERM_RX p) _ _ (Nat.le_refl 32) (.inl (h 0x34 (by decide))),
      getF_setF_ne _ (Reg.PORT_BERM_TX p) _ _ (Nat.le_refl 32) (.inl (h 0x30 (by decide))), getF_updPort]

theorem portQuality_getF (h : ∀ a ∈ [0x4, 0x8, 0x3C], f.addr ≠ portBase p + a) : getF (portQuality s p) f = getF s f := by
  unfold portQuality setB
  dsimp only
  rw [getF_setF_ne _ _ _ _ (show 0 + 16 ≤ 32 by decide) (.inl (h 0x3C (by decide)))]
  split
  · exact getF_setF_ne _ _ _ _ (show 2 + 1 ≤ 32 by decide) (.inl (h 0x8 (by decide)))
  · rw [getF_setF_ne _ _ _ _ (show 30 + 1 ≤ 32 by decide) (.inl (h 0x4 (by decide))),
      getF_setF_ne _ _ _ _ (show 2 + 1 ≤ 32 by decide) (.inl (h 0x8 (by decide)))]

/-- A value of 48 bits in two registers. -/
theorem getHL_setHL {hi lo : Fld} (x : Int) (hh : hi.lo + hi.w ≤ 32) (hl : lo.lo + lo.w ≤ 32) (h16 : hi.w = 16) (h32 : lo.w = 32) (ha : hi.addr ≠ lo.addr) :
    (getHL (setHL s hi lo x) hi lo : Int) = x % 2 ^ 48 := by
  have e1 : getF (setHL s hi lo x) hi = ((x / 2 ^ 32) % 2 ^ 16).toNat := by
    unfold setHL
    rw [getF_setF_ne _ _ _ _ hl (.inl ha), getF_setF_same _ _ _ hh, h16, h32]
    push_cast
    omega
  have e2 : getF (setHL s hi lo x) lo = (x % 2 ^ 32).toNat := by
    unfold setHL
    rw [getF_setF_same _ _ _ hl, h32]
    push_cast
    omega
  rw [getHL_of h32 e1 e2]
  push_cast
  omega

theorem linkShown_delay (rt din : Int) : (getHL (linkShown s p rt din) (Reg.PORT_LINK_DLY_HI p) (Reg.PORT_LINK_DLY_LO p) : Int) = din % 2 ^ 48 :=
  getHL_setHL _ din (show 0 + 16 ≤ 32 by decide) (Nat.le_refl 32) rfl rfl (show portBase p + 0x20 ≠ portBase p + 0x24 by omega)

theorem publishLink_delay {rt din : Int} {ofs : Option Int} (h : (portS s p).pendLink = some (rt, din, ofs)) :
    (getHL (publishLink s p) (Reg.PORT_LINK_DLY_HI p) (Reg.PORT_LINK_DLY_LO p) : Int) = din % 2 ^ 48 := by
  rw [publishLink_some s p h]
  cases ofs with
  | none => exact linkShown_delay s p rt din
  | some x =>
    unfold linkOffset
    dsimp only
    split
    · exact linkShown_delay s p rt din
    · refine Eq.trans (congrArg Nat.cast (getHL_congr ?_ ?_)) (linkShown_delay s p rt din)
      · exact (regWord_setHL_ne _ _ _ _ (show portBase p + 0x20 ≠ portBase p + 0x28 by omega) (show portBase p + 0x20 ≠ portBase p + 0x2C by omega)).trans
          (regWord_congr (updPort_regs _ _ _) _)
      · exact (regWord_setHL_ne _ _ _ _ (show portBase p + 0x24 ≠ portBase p + 0x28 by omega) (show portBase p + 0x24 ≠ portBase p + 0x2C by omega)).trans
          (regWord_congr (updPort_regs _ _ _) _)

theorem publishLink_offset {rt din x : Int} (h : (portS s p).pendLink = some (rt, din, some x)) (hc : corrPending s p = false) :
    (getHL (publishLink s p) (Reg.PORT_OFFSET_HI p) (Reg.PORT_OFFSET_LO p) : Int) = x % 2 ^ 48 := by
  rw [publishLink_some s p h]
  unfold linkOffset
  dsimp only
  rw [if_neg (by simp [hc])]
  exact getHL_setHL _ x (show 0 + 16 ≤ 32 by decide) (Nat.le_refl 32) rfl rfl (show portBase p + 0x28 ≠ portBase p + 0x2C by omega)

theorem applyBerm_values {tx rx temp : Int} (h : (portS s p).bermPend = some (tx, rx, temp)) :
    (getF (applyBerm s p) (Reg.PORT_BERM_TX p) : Int) = tx % 2 ^ 32 ∧ (getF (applyBerm s p) (Reg.PORT_BERM_RX p) : Int) = rx % 2 ^ 32 ∧
    getF (applyBerm s p) (Reg.PORT_BERM_AGE p) = 0 := by
  rw [applyBerm_some s p h]
  refine ⟨?_, ?_, ?_⟩
  · rw [getF_setF_ne _ (Reg.PORT_BERM_AGE p) (Reg.PORT_BERM_TX p) _ (Nat.le_refl 32) (.inl (show portBase p + 0x30 ≠ portBase p + 0x38 by omega)),
      getF_setF_ne _ (Reg.PORT_BERM_RX p) (Reg.PORT_BERM_TX p) _ (Nat.le_refl 32) (.inl (show portBase p + 0x30 ≠ portBase p + 0x34 by omega))]
    exact getF_setF_twos _ (Reg.PORT_BERM_TX p) tx (Nat.le_refl 32)
  · rw [getF_setF_ne _ (Reg.PORT_BERM_AGE p) (Reg.PORT_BERM_RX p) _ (Nat.le_refl 32) (.inl (show portBase p + 0x34 ≠ portBase p + 0x38 by omega))]
    exact getF_setF_twos _ (Reg.PORT_BERM_RX p) rx (Nat.le_refl 32)
  · rw [getF_setF_same _ (Reg.PORT_BERM_AGE p) _ (Nat.le_refl 32), Nat.zero_mod]

end regs

/-! ### The boundary -/

section boundary
variable (s : State) (p : Nat)

/-- The port as its PTP settings are taken: corrections, link quantities and Berm values are in force. -/
def syncHeld : State := applyBerm (publishLink (applyPortItems s p) p) p

theorem syncApply_eq : syncApply s p = portQuality (applyPtpPort (syncHeld s p) p ((portS s p).quiet + 1)) p := rfl

theorem syncHeld_portS :
    ∃ r o b m, portS (syncHeld s p) p = { portS s p with pendLink := none, rt := r, ofs := o, bermPend := none, refTemp := b, temps := m } := by
  obtain ⟨m0, h0⟩ := applyPortItems_portS s p
  obtain ⟨r, o, h1⟩ := publishLink_portS (applyPortItems s p) p
  obtain ⟨b, m, h2⟩ := applyBerm_portS (publishLink (applyPortItems s p) p) p
  exact ⟨r, o, b, m, by unfold syncHeld; rw [h2, h1, h0]⟩

/-- The Berm request's values wait through what comes before them. -/
theorem published_bermPend : (portS (publishLink (applyPortItems s p) p) p).bermPend = (portS s p).bermPend := by
  obtain ⟨m0, h0⟩ := applyPortItems_portS s p
  obtain ⟨r, o, h1⟩ := publishLink_portS (applyPortItems s p) p
  rw [h1, h0]

theorem applyPortItems_pendLink : (portS (applyPortItems s p) p).pendLink = (portS s p).pendLink := by
  obtain ⟨m0, h0⟩ := applyPortItems_portS s p
  rw [h0]

theorem syncHeld_getF {f : Fld} (h : ∀ a ∈ [0x20, 0x24, 0x28, 0x2C, 0x30, 0x34, 0x38], f.addr ≠ portBase p + a) : getF (syncHeld s p) f = getF s f := by
  unfold syncHeld
  rw [applyBerm_getF _ _ fun a m => h a (by revert m; revert a; decide), publishLink_getF _ _ fun a m => h a (by revert m; revert a; decide),
    applyPortItems_getF _ _ fun a m => h a (by revert m; revert a; decide)]

theorem syncApply_portS :
    ∃ q tr tc ra, portS (syncApply s p) p = { portS (syncHeld s p) p with
      quiet := q, logSync := getS s (Reg.PORT_PTP_CFG_LOG_SYNC p), transport := tr, domain := domainCfg s, tcType := tc,
      hostHandled := getB s Reg.PTPG_PTP_MODE_HOST_HANDLED, rate := ra } := by
  have hb := portBase_range p
  have e1 : getF (syncHeld s p) (Reg.PORT_PTP_CFG_LOG_SYNC p) = getF s (Reg.PORT_PTP_CFG_LOG_SYNC p) :=
    syncHeld_getF s p fun a m => by simp only [List.mem_cons, List.not_mem_nil, or_false] at m; simp only [Reg.PORT_PTP_CFG_LOG_SYNC]; omega
  have e2 : getF (syncHeld s p) Reg.PTPG_PTP_GLOBAL_DOMAIN = getF s Reg.PTPG_PTP_GLOBAL_DOMAIN :=
    syncHeld_getF s p fun a m => by simp only [List.mem_cons, List.not_mem_nil, or_false] at m; simp only [Reg.PTPG_PTP_GLOBAL_DOMAIN]; omega
  have e3 : getF (syncHeld s p) Reg.PTPG_PTP_MODE_HOST_HANDLED = getF s Reg.PTPG_PTP_MODE_HOST_HANDLED :=
    syncHeld_getF s p fun a m => by simp only [List.mem_cons, List.not_mem_nil, or_false] at m; simp only [Reg.PTPG_PTP_MODE_HOST_HANDLED]; omega
  rw [syncApply_eq, portQuality_portS]
  unfold applyPtpPort
  dsimp only
  rw [portS_updPort_same]
  unfold getS domainCfg getB
  rw [e1, e2, e3]
  exact ⟨_, _, _, _, rfl⟩

theorem syncApply_getF {f : Fld} (h : ∀ a ∈ [0x4, 0x8, 0x3C], f.addr ≠ portBase p + a) : getF (syncApply s p) f = getF (syncHeld s p) f := by
  rw [syncApply_eq, portQuality_getF _ _ h]
  exact getF_updPort _ _ _ _

theorem syncApply_refTemp {tx rx temp : Int} (h : (portS s p).bermPend = some (tx, rx, temp)) : (portS (syncApply s p) p).refTemp = some temp := by
  obtain ⟨q, tr, tc, ra, e⟩ := syncApply_portS s p
  rw [e]
  show (portS (applyBerm (publishLink (applyPortItems s p) p) p) p).refTemp = _
  rw [applyBerm_portS_some _ _ ((published_bermPend s p).trans h)]

theorem syncApply_berm {tx rx temp : Int} (h : (portS s p).bermPend = some (tx, rx, temp)) :
    (getF (syncApply s p) (Reg.PORT_BERM_TX p) : Int) = tx % 2 ^ 32 ∧ (getF (syncApply s p) (Reg.PORT_BERM_RX p) : Int) = rx % 2 ^ 32 ∧
    getF (syncApply s p) (Reg.PORT_BERM_AGE p) = 0 := by
  have k {a : Nat} (lo w : Nat) (ha : a ∈ [0x30, 0x34, 0x38]) : getF (syncApply s p) ⟨portBase p + a, lo, w⟩ = getF (syncHeld s p) ⟨portBase p + a, lo, w⟩ :=
    syncApply_getF s p fun b m => by simp only [List.mem_cons, List.not_mem_nil, or_false] at m ha; show portBase p + a ≠ portBase p + b; omega
  have e := applyBerm_values _ p ((published_bermPend s p).trans h)
  unfold Reg.PORT_BERM_TX Reg.PORT_BERM_RX Reg.PORT_BERM_AGE at e ⊢
  rw [k _ _ (by decide), k _ _ (by decide), k _ _ (by decide)]
  exact e

/-- The link's registers are as they were published. -/
theorem syncApply_link {f : Fld} (h : ∃ a ∈ [0x20, 0x24, 0x28, 0x2C], f.addr = portBase p + a) :
    getF (syncApply s p) f = getF (publishLink (applyPortItems s p) p) f := by
  obtain ⟨a, ha, hf⟩ := h
  simp only [List.mem_cons, List.not_mem_nil, or_false] at ha
  rw [syncApply_getF s p fun b m => by simp only [List.mem_cons, List.not_mem_nil, or_false] at m; omega]
  exact applyBerm_getF _ _ fun b m => by simp only [List.mem_cons, List.not_mem_nil, or_false] at m; omega

theorem syncApply_delay {rt din : Int} {ofs : Option Int} (h : (portS s p).pendLink = some (rt, din, ofs)) :
    (getHL (syncApply s p) (Reg.PORT_LINK_DLY_HI p) (Reg.PORT_LINK_DLY_LO p) : Int) = din % 2 ^ 48 := by
  have e := publishLink_delay _ p ((applyPortItems_pendLink s p).trans h)
  unfold getHL at e ⊢
  rw [syncApply_link s p ⟨0x20, by decide, rfl⟩, syncApply_link s p ⟨0x24, by decide, rfl⟩]
  exact e

/-- A port without a pending correction has none to apply. -/
theorem applyPortItems_idle (h : corrPending s p = false) : applyPortItems s p = s := by
  unfold corrPending at h
  rw [Bool.or_eq_false_iff, List.any_eq_false] at h
  obtain ⟨h, -⟩ := h
  have hp : ∀ it ∈ portItems s p, it ∉ s.cal.pend := fun it m hm => h it m (by unfold itemBusy; simp [hm])
  have e : (portItems s p).foldl applyItem s = s :=
    List.foldlRecOn (motive := fun t => t = s) _ _ rfl fun t ht it m => by
      subst ht
      exact if_neg (hp it m)
  unfold applyPortItems
  rw [e]
  exact if_neg (hp _ (by unfold portItems; simp))

theorem syncApply_offset {rt din x : Int} (h : (portS s p).pendLink = some (rt, din, some x)) (hc : corrPending s p = false) :
    (getHL (syncApply s p) (Reg.PORT_OFFSET_HI p) (Reg.PORT_OFFSET_LO p) : Int) = x % 2 ^ 48 := by
  have e := publishLink_offset s p h hc
  unfold getHL at e ⊢
  rw [syncApply_link s p ⟨0x28, by decide, rfl⟩, syncApply_link s p ⟨0x2C, by decide, rfl⟩, applyPortItems_idle s p hc]
  exact e

end boundary

end Sys2Proof.Machine

end

section
/-! PROOFS. Time up to a Sync interval boundary, and the messages and the loss that follow it (R90, R92, R93, R115). -/

namespace Sys2Proof.Machine

/-! ### The port's own state as its messages are sent (R93) -/

/-- An operation notes at most the intervals served on port p. -/
def ServedKept (p : Nat) (s t : State) : Prop := ∃ a b, portS t p = { portS s p with annDue := a, reqDue := b }

section served
variable {p : Nat} {s t u : State}

theorem ServedKept.of_eq (h : portS t p = portS s p) : ServedKept p s t := ⟨(portS s p).annDue, (portS s p).reqDue, h⟩

theorem ServedKept.after (k : ServedKept p t u) (h : ServedKept p s t) : ServedKept p s u := by
  obtain ⟨a, b, h⟩ := h
  obtain ⟨c, d, k⟩ := k
  exact ⟨c, d, by rw [k, h]⟩

theorem Within.served {l : List StatePart} {g : List Area} (w : Within l g s t) (hl : StatePart.ports ∉ l) : ServedKept p s t := .of_eq (w.portS_eq hl p)

variable (p s)

theorem announceRound_served : ServedKept p s (announceRound s p) := by
  unfold announceRound
  dsimp only
  split
  · refine ((sendAnnounce_within _ p).served (by decide)).after ⟨_, (portS s p).reqDue, portS_updPort_same _ _ _⟩
  · exact .of_eq rfl

theorem delayRound_served : ServedKept p s (delayRound s p) := by
  unfold delayRound
  dsimp only
  split
  · split
    · refine ((originate_within _ p _).served (by decide)).after ⟨(portS s p).annDue, _, portS_updPort_same _ _ _⟩
    · exact .of_eq rfl
  · exact .of_eq rfl

theorem ptpRound_served : ServedKept p s (ptpRound s p) := by
  unfold ptpRound
  split
  · exact ((l1Round_within _ p).served (by decide)).after ((delayRound_served p _).after
      (((syncRound_within _ p).served (by decide)).after (announceRound_served p s)))
  · exact .of_eq rfl

end served

/-! ### What the boundary ends with -/

section done
variable (s : State) (p : Nat)

/-- The port at the boundary, to which time has run. -/
def syncStart : State := updPort (runToSync s p) p (fun o => { o with dieT := getS (runToSync s p) Reg.CAL_DIE_TEMP })

/-- The port with what waited for the boundary in force. -/
def syncDone : State := updPort (syncApply (syncStart s p) p) p (fun o => { o with syncAt := some (runToSync s p).now })

/-- The port with the loss of its slots, where one is due. -/
def syncLost : State := if (portS (runToSync s p) p).quiet + 1 = 5 then loseSource (syncDone s p) 0 p else syncDone s p

theorem syncBoundary_run (hp : p < 36) (pw : powered s (portDomain p) = true) :
    exec (.syncIntervalBoundary p) s = ok (ptpRound (syncLost s p) p) := by
  show execSyncIntervalBoundary p s = _
  unfold execSyncIntervalBoundary
  rw [if_neg (by omega), if_neg (by simp [pw])]
  rfl

theorem runToSync_now : s.now ≤ (runToSync s p).now := by
  unfold runToSync
  dsimp only
  split
  · exact Nat.le_refl _
  · rw [advance_now]
    omega

theorem syncBoundary_now : s.now ≤ (ptpRound (syncLost s p) p).now := by
  have h1 : (ptpRound (syncLost s p) p).now = (syncLost s p).now := (ptpRound_within _ p).parts .now (by decide)
  have h2 : (loseSource (syncDone s p) 0 p).now = (syncDone s p).now := (loseSource_within _ 0 p).parts .now (by decide)
  have h3 : (syncApply (syncStart s p) p).now = (syncStart s p).now := (syncApply_within _ p).parts .now (by decide)
  have h4 : (syncDone s p).now = (runToSync s p).now := h3
  have h5 : (syncLost s p).now = (syncDone s p).now := by
    unfold syncLost
    split
    · exact h2
    · rfl
  rw [h1, h5, h4]
  exact runToSync_now s p

theorem syncStart_getF {f : Fld} (h : ¬ Area.gauge.has f.addr ∧ ¬ Area.perf.has f.addr) : getF (syncStart s p) f = getF s f := by
  unfold syncStart
  rw [getF_updPort]
  exact (runToSync_within s p).getF_eq (by simpa using h)

theorem runToSync_portS : portS (runToSync s p) p = portS s p := (runToSync_within s p).portS_eq (by decide) p

theorem syncStart_portS : ∃ d, portS (syncStart s p) p = { portS s p with dieT := d } := by
  unfold syncStart
  exact ⟨_, by rw [portS_updPort_same, runToSync_portS]⟩

theorem syncStart_corrPending : corrPending (syncStart s p) p = corrPending s p := by
  have hb := portBase_range p
  have hc : (runToSync s p).cal = s.cal := (runToSync_within s p).parts .cal (by decide)
  have hc' : (syncStart s p).cal = s.cal := hc
  have hr : portRate (syncStart s p) p = portRate s p := by
    unfold portRate
    rw [syncStart_getF s p (by simp only [Area.has, Reg.PORT_PHY_CFG_RATE]; omega)]
  have hi (it : CalItem) : itemBusy (syncStart s p) it = itemBusy s it := by unfold itemBusy; rw [hc']
  obtain ⟨d, hd⟩ := syncStart_portS s p
  unfold corrPending portItems
  rw [hr, hd]
  simp only [List.any_cons, List.any_nil, hi]

/-- What the messages and the loss keep of the port. -/
theorem syncLost_portS : portS (syncLost s p) p = portS (syncDone s p) p := by
  unfold syncLost
  split
  · exact loseSource_portS _ _ _ _
  · rfl

theorem syncLost_getF {f : Fld} (i : IsStand f) (h : ¬ Area.slot.has f.addr) : getF (syncLost s p) f = getF (syncDone s p) f := by
  unfold syncLost
  split
  · exact loseSource_getF _ _ _ i h
  · rfl

/-- A register of the port's window from 0x10 on reads at the end as the boundary left it. -/
theorem syncBoundary_getF {a lo w : Nat} (h : a < 512) (h16 : 16 ≤ a) :
    getF (ptpRound (syncLost s p) p) ⟨portBase p + a, lo, w⟩ = getF (syncApply (syncStart s p) p) ⟨portBase p + a, lo, w⟩ := by
  have i : IsStand ⟨portBase p + a, lo, w⟩ := isStand_port h (by omega) (by omega)
  have hp : Area.port.has (portBase p + a) := by
    have hb := portBase_range p
    simp only [Area.has]
    omega
  simp only [Area.has] at hp
  rw [(ptpRound_within _ p).getF_eq fun x m => ?_, syncLost_getF s p i (by simp only [Area.has]; omega)]
  · exact getF_updPort _ _ _ _
  · simp only [List.mem_cons, List.not_mem_nil, or_false] at m
    obtain rfl | rfl | rfl | rfl | rfl := m <;> simp only [Area.has] <;> omega

/-- The port's own state at the end is what the boundary left, but for the notes of what was sent. -/
theorem syncBoundary_portS :
    ∃ a b n, portS (ptpRound (syncLost s p) p) p = { portS (syncApply (syncStart s p) p) p with annDue := a, reqDue := b, syncAt := n } := by
  obtain ⟨a, b, h⟩ := ptpRound_served p (syncLost s p)
  refine ⟨a, b, some (runToSync s p).now, ?_⟩
  rw [h, syncLost_portS]
  unfold syncDone
  rw [portS_updPort_same]

theorem syncBoundary_settings :
    (portS (ptpRound (syncLost s p) p) p).pendLink = none ∧ (portS (ptpRound (syncLost s p) p) p).bermPend = none ∧
    (portS (ptpRound (syncLost s p) p) p).domain = domainCfg s ∧
    (portS (ptpRound (syncLost s p) p) p).hostHandled = getB s Reg.PTPG_PTP_MODE_HOST_HANDLED ∧
    (portS (ptpRound (syncLost s p) p) p).logSync = getS s (Reg.PORT_PTP_CFG_LOG_SYNC p) := by
  have hb := portBase_range p
  have e1 : getF (syncStart s p) (Reg.PORT_PTP_CFG_LOG_SYNC p) = getF s (Reg.PORT_PTP_CFG_LOG_SYNC p) :=
    syncStart_getF s p (by simp only [Area.has, Reg.PORT_PTP_CFG_LOG_SYNC]; omega)
  have e2 : getF (syncStart s p) Reg.PTPG_PTP_GLOBAL_DOMAIN = getF s Reg.PTPG_PTP_GLOBAL_DOMAIN :=
    syncStart_getF s p (by simp only [Area.has, Reg.PTPG_PTP_GLOBAL_DOMAIN]; omega)
  have e3 : getF (syncStart s p) Reg.PTPG_PTP_MODE_HOST_HANDLED = getF s Reg.PTPG_PTP_MODE_HOST_HANDLED :=
    syncStart_getF s p (by simp only [Area.has, Reg.PTPG_PTP_MODE_HOST_HANDLED]; omega)
  obtain ⟨a, b, n, h⟩ := syncBoundary_portS s p
  obtain ⟨q, tr, tc, ra, k⟩ := syncApply_portS (syncStart s p) p
  obtain ⟨r, o, f, m, j⟩ := syncHeld_portS (syncStart s p) p
  rw [h, k, j]
  unfold getS domainCfg getB
  rw [e1, e2, e3]
  exact ⟨rfl, rfl, rfl, rfl, rfl⟩

theorem syncBoundary_link {rt din : Int} {ofs : Option Int} (h : (portS s p).pendLink = some (rt, din, ofs)) :
    (getHL (ptpRound (syncLost s p) p) (Reg.PORT_LINK_DLY_HI p) (Reg.PORT_LINK_DLY_LO p) : Int) = din % 2 ^ 48 ∧
    ∀ x, ofs = some x → corrPending s p = false →
      (getHL (ptpRound (syncLost s p) p) (Reg.PORT_OFFSET_HI p) (Reg.PORT_OFFSET_LO p) : Int) = x % 2 ^ 48 := by
  obtain ⟨d, hd⟩ := syncStart_portS s p
  have h' : (portS (syncStart s p) p).pendLink = some (rt, din, ofs) := by rw [hd]; exact h
  constructor
  · rw [← syncApply_delay (syncStart s p) p h']
    unfold getHL Reg.PORT_LINK_DLY_HI Reg.PORT_LINK_DLY_LO
    rw [syncBoundary_getF s p (by decide) (by decide), syncBoundary_getF s p (by decide) (by decide)]
  · intro x hx hc
    rw [hx] at h'
    rw [← syncApply_offset (syncStart s p) p h' ((syncStart_corrPending s p).trans hc)]
    unfold getHL Reg.PORT_OFFSET_HI Reg.PORT_OFFSET_LO
    rw [syncBoundary_getF s p (by decide) (by decide), syncBoundary_getF s p (by decide) (by decide)]

theorem syncBoundary_berm {tx rx temp : Int} (h : (portS s p).bermPend = some (tx, rx, temp)) :
    (getF (ptpRound (syncLost s p) p) (Reg.PORT_BERM_TX p) : Int) = tx % 2 ^ 32 ∧
    (getF (ptpRound (syncLost s p) p) (Reg.PORT_BERM_RX p) : Int) = rx % 2 ^ 32 ∧
    getF (ptpRound (syncLost s p) p) (Reg.PORT_BERM_AGE p) = 0 ∧ (portS (ptpRound (syncLost s p) p) p).refTemp = some temp := by
  obtain ⟨d, hd⟩ := syncStart_portS s p
  have h' : (portS (syncStart s p) p).bermPend = some (tx, rx, temp) := by rw [hd]; exact h
  obtain ⟨a, b, n, e⟩ := syncBoundary_portS s p
  obtain ⟨e1, e2, e3⟩ := syncApply_berm (syncStart s p) p h'
  refine ⟨?_, ?_, ?_, ?_⟩
  · rw [← e1]
    unfold Reg.PORT_BERM_TX
    rw [syncBoundary_getF s p (by decide) (by decide)]
  · rw [← e2]
    unfold Reg.PORT_BERM_RX
    rw [syncBoundary_getF s p (by decide) (by decide)]
  · rw [← e3]
    unfold Reg.PORT_BERM_AGE
    rw [syncBoundary_getF s p (by decide) (by decide)]
  · rw [e]
    exact syncApply_refTemp (syncStart s p) p h'

/-- A register of a slot reads as the boundary finds it. -/
theorem syncDone_slot {f : Fld} (h : Area.slot.has f.addr) : getF (syncDone s p) f = getF s f := by
  simp only [Area.has] at h
  unfold syncDone
  rw [getF_updPort, (syncApply_within _ p).getF_eq (by simp only [List.mem_singleton, forall_eq, Area.has]; omega)]
  exact syncStart_getF s p (by simp only [Area.has]; omega)

theorem ptpRound_slot (t : State) {f : Fld} (h : Area.slot.has f.addr) : getF (ptpRound t p) f = getF t f := by
  simp only [Area.has] at h
  refine (ptpRound_within t p).getF_eq fun x m => ?_
  simp only [List.mem_cons, List.not_mem_nil, or_false] at m
  obtain rfl | rfl | rfl | rfl | rfl := m <;> simp only [Area.has] <;> omega

/-- The end of the fourth whole interval without an update (R115). -/
theorem syncBoundary_quiet (hq : (portS s p).quiet = 4) {n : Nat} (hn : n < 8) (he : slotEn s n = true) (ht : slotType s n = 0) (hi : slotIndex s n = p) :
    getB (ptpRound (syncLost s p) p) (Reg.SLOT_SLOT_STATUS_SRC_VALID n) = false ∧ slotQual (ptpRound (syncLost s p) p) n = false := by
  have he' : slotEn (syncDone s p) n = true := by
    unfold slotEn getB at he ⊢
    rw [syncDone_slot s p (by simp only [Area.has, Reg.SLOT_SLOT_CFG_EN]; omega)]
    exact he
  have ht' : slotType (syncDone s p) n = 0 := by
    unfold slotType at ht ⊢
    rw [syncDone_slot s p (by simp only [Area.has, Reg.SLOT_SLOT_CFG_TYPE]; omega)]
    exact ht
  have hi' : slotIndex (syncDone s p) n = p := by
    unfold slotIndex at hi ⊢
    rw [syncDone_slot s p (by simp only [Area.has, Reg.SLOT_SLOT_CFG_INDEX]; omega)]
    exact hi
  have e : syncLost s p = loseSource (syncDone s p) 0 p := if_pos (by rw [runToSync_portS, hq])
  have k := loseSource_loses (syncDone s p) hn he' ht' hi'
  rw [← e] at k
  unfold slotQual getB at k ⊢
  rw [ptpRound_slot p _ (by simp only [Area.has, Reg.SLOT_SLOT_STATUS_SRC_VALID]; omega),
    ptpRound_slot p _ (by simp only [Area.has, Reg.SLOT_SLOT_STATUS_QUALIFIED]; omega)]
  exact k

end done

/-! ### The obligation -/

/-- Settles O43: a phase word is one of four cases, of which each leaves what the statement says of its register; a loss of signal goes through the
loss of the port's slots, which leaves the ports' registers; at the boundary each step is followed in the port's own state and registers. -/
theorem phaseAndDelay : Obligations.PhaseAndDelay := by
  unfold Obligations.PhaseAndDelay
  constructor
  · intro p s hp pw
    refine ⟨fun beats hg he => phaseWord_taken beats hp pw hg he, fun beats he => ⟨s, phaseWord_off hp he, rfl⟩,
      fun h => ⟨s, portSignalLoss_window hp h, rfl⟩, fun hi ha => portSignalLoss_loses hp pw hi ha⟩
  · intro p s hp pw
    have run := syncBoundary_run s p hp pw
    refine ⟨fun t1 t2 t3 t4 => ⟨fun hm hs h2 h3 => ?_, fun hm hs h2 h3 => ?_, fun hm hs h => ?_, fun hm => ?_⟩, ?_, fun rt din ofs h => ?_,
      fun tx rx temp h => ?_, fun hq => ?_⟩
    · exact ⟨_, linkDelay_slave t1 t2 t3 t4 hp pw hm hs h2 h3, linkTaken_waits t1 t2 t3 t4 _ _⟩
    · exact ⟨_, linkDelay_master t1 t2 t3 t4 hp pw hm hs h2 h3, linkTaken_waits t1 t2 t3 t4 _ _⟩
    · exact ⟨s, linkDelay_foreign t1 t2 t3 t4 hp pw hm hs h, rfl⟩
    · exact ⟨s, linkDelay_peer t1 t2 t3 t4 hp hm, rfl⟩
    · have w := (execSyncIntervalBoundary_within p s).ofRun run
      exact ⟨_, run, (w.mono (by decide) (by decide)).frame, syncBoundary_now s p, syncBoundary_settings s p⟩
    · exact ⟨_, run, syncBoundary_link s p h⟩
    · exact ⟨_, run, syncBoundary_berm s p h⟩
    · exact ⟨_, run, fun n hn he ht hi => syncBoundary_quiet s p hq hn he ht hi⟩

end Sys2Proof.Machine

end

section
/-! PROOFS. What a new choice of reference leaves of the slots and of the selector's events (R115, R121, R133). -/

namespace Sys2Proof.Machine

/-! ### Slots and events through a choice -/

/-- A field of the slots' registers beside JUMP and PHASE_SUSPECT, which a jump test writes (R133). -/
def IsSlotFld (f : Fld) : Prop :=
  Area.slot.has f.addr ∧ ∀ n, f.addr ≠ (Reg.SLOT_JUMP n).addr ∧
    (f.addr ≠ (Reg.SLOT_SLOT_STATUS_PHASE_SUSPECT n).addr ∨ f.lo + f.w ≤ 4 ∨ 4 + 1 ≤ f.lo)

/-- A flag of SEL_EVENTS. -/
def IsSelEvent (f : Fld) : Prop := f.addr = 0x30018 ∧ f.w = 1 ∧ f.lo < 32

/-- Of a slot a choice makes a prediction alone; a slot without its qualification does not become suspect, and no event is lost. -/
structure SlotsKept (s t : State) : Prop where
  fields : ∀ f, IsSlotFld f → getF t f = getF s f
  clean : ∀ n, slotQual s n = false → slotSuspect s n = false → slotSuspect t n = false
  own : ∀ n, ∃ p, slotS t n = { slotS s n with pred := p }
  events : ∀ f, IsSelEvent f → getF s f = 1 → getF t f = 1

/-- An address of neither a slot's register nor SEL_EVENTS. -/
abbrev OffSlots (a : Nat) : Prop := a < 0x30018 ∨ 0x30018 < a ∧ a < 0x30100 ∨ 0x30200 ≤ a

theorem isSelEvent_bit {k : Nat} (h : k < 32) : IsSelEvent ⟨0x30018, k, 1⟩ := ⟨rfl, rfl, h⟩

section kept
variable {s t u : State}

theorem isSlotFld_status (n : Nat) {lo w : Nat} (h : lo + w ≤ 4 ∨ 4 + 1 ≤ lo) : IsSlotFld ⟨(Reg.SLOT_SLOT_STATUS_QUALIFIED n).addr, lo, w⟩ := by
  refine ⟨by simp only [Area.has, Reg.SLOT_SLOT_STATUS_QUALIFIED]; omega, fun m => ⟨?_, .inr h⟩⟩
  simp only [Reg.SLOT_SLOT_STATUS_QUALIFIED, Reg.SLOT_JUMP]
  omega

theorem isSlotFld_cfg (n lo w : Nat) : IsSlotFld ⟨(Reg.SLOT_SLOT_CFG_EN n).addr, lo, w⟩ := by
  refine ⟨by simp only [Area.has, Reg.SLOT_SLOT_CFG_EN]; omega, fun m => ⟨?_, .inl ?_⟩⟩
  · simp only [Reg.SLOT_SLOT_CFG_EN, Reg.SLOT_JUMP]
    omega
  · simp only [Reg.SLOT_SLOT_CFG_EN, Reg.SLOT_SLOT_STATUS_PHASE_SUSPECT]
    omega

theorem SlotsKept.getB_eq (k : SlotsKept s t) {f : Fld} (i : IsSlotFld f) : getB t f = getB s f := by unfold getB; rw [k.fields f i]

theorem SlotsKept.slotQual_eq (k : SlotsKept s t) (n : Nat) : slotQual t n = slotQual s n := k.getB_eq (isSlotFld_status n (.inr (by decide)))

theorem SlotsKept.refl (s : State) : SlotsKept s s := ⟨fun _ _ => rfl, fun _ _ h => h, fun n => ⟨(slotS s n).pred, rfl⟩, fun _ _ h => h⟩

theorem SlotsKept.after (k : SlotsKept t u) (h : SlotsKept s t) : SlotsKept s u where
  fields f i := (k.fields f i).trans (h.fields f i)
  clean n hq hs := k.clean n ((h.slotQual_eq n).trans hq) (h.clean n hq hs)
  own n := by
    obtain ⟨p, hp⟩ := h.own n
    obtain ⟨q, hq⟩ := k.own n
    exact ⟨q, by rw [hq, hp]⟩
  events f i e := k.events f i (h.events f i e)

theorem SlotsKept.ite {c : Prop} [Decidable c] (h : SlotsKept s t) (k : SlotsKept s u) : SlotsKept s (if c then t else u) := by
  split
  · exact h
  · exact k

/-- The words of the slots and of SEL_EVENTS have their values, and the slots what stands beside them. -/
theorem SlotsKept.of_regWord (h : ∀ a, Area.slot.has a ∨ a = 0x30018 → regWord t a = regWord s a) (hs : t.sel.slots = s.sel.slots) :
    SlotsKept s t where
  fields _ i := getF_eq_of_regWord (h _ (.inl i.1))
  clean n _ hc := (getB_eq_of_regWord (h _ (.inl (by simp only [Area.has, Reg.SLOT_SLOT_STATUS_PHASE_SUSPECT]; omega)))).trans hc
  own n := ⟨(slotS s n).pred, by unfold slotS; rw [hs]⟩
  events _ i e := (getF_eq_of_regWord (h _ (.inr i.1))).trans e

theorem SlotsKept.of_parts (k : SlotsKept s t) (hr : u.regs = t.regs) (hs : u.sel.slots = t.sel.slots) : SlotsKept s u :=
  SlotsKept.after (.of_regWord (fun a _ => regWord_congr hr a) hs) k

/-- A change of the selector beside its slots. -/
theorem SlotsKept.sel (k : SlotsKept s t) {x : Sel} (hs : x.slots = t.sel.slots := by rfl) : SlotsKept s { t with sel := x } := k.of_parts rfl hs

/-- An operation that touches neither the selector nor its registers. -/
theorem Within.slotsKept {l : List StatePart} {g : List Area} (w : Within l g s t) (hl : StatePart.sel ∉ l)
    (hg : ∀ x ∈ g, x ∈ [Area.clk, .dll, .time, .port, .eng, .cal]) : SlotsKept s t := by
  have h : t.sel = s.sel := w.parts .sel hl
  refine .of_regWord (fun a ha => w.regs a fun x m => ?_) (by rw [h])
  have m' := hg x m
  simp only [List.mem_cons, List.not_mem_nil, or_false] at m'
  simp only [Area.has] at ha
  obtain rfl | rfl | rfl | rfl | rfl | rfl := m' <;> simp only [Area.has] <;> omega

theorem SlotsKept.setF (k : SlotsKept s t) {f : Fld} {x : Nat} (h : OffSlots f.addr) : SlotsKept s (setF t f x) := by
  refine SlotsKept.after (.of_regWord (fun a ha => regWord_setF_ne _ _ _ ?_) rfl) k
  simp only [Area.has] at ha
  unfold OffSlots at h
  omega

theorem SlotsKept.raise (k : SlotsKept s t) {f : Fld} (h : OffSlots f.addr) : SlotsKept s (raise t f) :=
  (k.setF h (x := 1)).of_parts (raise_regs _ _) (by rw [raise_sel]; rfl)

/-- An event of the selector adds to those that stand. -/
theorem SlotsKept.event (k : SlotsKept s t) {f : Fld} (h : IsSelEvent f) : SlotsKept s (Machine.raise t f) := by
  obtain ⟨ha, hw, hl⟩ := h
  have word : ∀ a, Area.slot.has a → regWord (Machine.raise t f) a = regWord t a := fun a h => by
    simp only [Area.has] at h
    exact regWord_raise_ne _ _ (by omega)
  refine SlotsKept.after ⟨fun g i => getF_eq_of_regWord (word _ i.1), fun n _ hc => ?_, fun n => ⟨(slotS t n).pred, ?_⟩, fun g i e => ?_⟩ k
  · exact (getB_eq_of_regWord (word _ (by simp only [Area.has, Reg.SLOT_SLOT_STATUS_PHASE_SUSPECT]; omega))).trans hc
  · unfold slotS
    rw [raise_sel]
  · obtain ⟨ga, gw, gl⟩ := i
    by_cases e' : g.lo = f.lo
    · have : g = f := by
        cases f
        cases g
        simp_all
      rw [this]
      exact getF_raise_same _ _ (by omega) hw
    · rw [getF_raise_ne _ _ _ (by omega) (by omega)]
      exact e

end kept

/-! ### What a choice sets going -/

section acts
variable (s : State)

theorem requestWord_slotsKept (y : Int) : SlotsKept s (requestWord s y) :=
  ((setRequest_within _ _).slotsKept (by decide) (by decide)).after (.sel (.refl s))

theorem follow_slotsKept : SlotsKept s (follow s) := (follow_within s).slotsKept (by decide) (by decide)

theorem giveWeir_slotsKept (x : Int) (seconds : Bool) : SlotsKept s (giveWeir s x seconds) := by
  have k (y : Int) : SlotsKept s (setWeir { s with sel := { s.sel with ownWeir := x } } y) :=
    ((setWeir_within _ _).slotsKept (by decide) (by decide)).after (.sel (.refl s))
  unfold giveWeir
  exact .ite ((k _).setF (by decide)) (k _)

theorem takeOffset_slotsKept (x : Int) (seconds : Bool) : SlotsKept s (takeOffset s x seconds) := by
  have k : SlotsKept s (setPending s x) := (setPending_within s x).slotsKept (by decide) (by decide)
  unfold takeOffset
  exact .ite k (.ite ((giveWeir_slotsKept _ x seconds).after (.sel (.refl s))) (.ite (giveWeir_slotsKept s x seconds) k))

theorem modeEntered_slotsKept (m n : Mode) : SlotsKept s (modeEntered s m n) := by
  unfold modeEntered
  split
  · have k (b : Bool) : SlotsKept s { s with sel := { s.sel with keepAvg := b } } := .sel (.refl s)
    exact .ite (k _) ((k _).setF (by decide))
  · exact .setF (.sel (.refl s)) (by decide)
  · exact .refl s

theorem enterMode_slotsKept (m : Mode) : SlotsKept s (enterMode s m) := by
  have k : SlotsKept s (setMode s m) := (setMode_within s m).slotsKept (by decide) (by decide)
  have k2 (c : Prop) [Decidable c] : SlotsKept s (if c then leaveConfig (setMode s m) else setMode s m) :=
    .ite (((leaveConfig_within _).slotsKept (by decide) (by decide)).after k) k
  exact ((evalTrims_within _).slotsKept (by decide) (by decide)).after ((modeEntered_slotsKept _ _ _).after (k2 _))

theorem enterFreerun_slotsKept : SlotsKept s (enterFreerun s) := (requestWord_slotsKept _ _).after (enterMode_slotsKept s _)

theorem publishHold_slotsKept : SlotsKept s (publishHold s) := (((SlotsKept.refl s).setF (by decide)).setF (by decide)).setF (by decide)

theorem enterHoldover_slotsKept : SlotsKept s (enterHoldover s) := by
  have k (v : Option Int) :
      SlotsKept s (enterMode { publishHold s with sel := { (publishHold s).sel with holdVal := v, specOver := false } } .holdover) :=
    (enterMode_slotsKept _ _).after ((publishHold_slotsKept s).sel)
  unfold enterHoldover
  dsimp only
  split
  · exact (requestWord_slotsKept _ _).after (k _)
  · exact (requestWord_slotsKept _ _).after ((k _).setF (by decide))

theorem updSlot_pred_slotsKept (n : Nat) (f : SlotS → Option (Int × Int)) : SlotsKept s (updSlot s n (fun o => { o with pred := f o })) where
  fields _ _ := rfl
  clean _ _ h := h
  own m := by
    by_cases e : m = n
    · subst e
      exact ⟨_, slotS_updSlot_same _ _ _⟩
    · exact ⟨(slotS s m).pred, slotS_updSlot_ne _ _ e⟩
  events _ _ h := h

theorem beginCoast_slotsKept (lost : Option Nat) : SlotsKept s (beginCoast s lost) := by
  unfold beginCoast
  exact List.foldlRecOn (motive := SlotsKept s) slotNos _ (.sel (.refl s)) fun t h n _ => (updSlot_pred_slotsKept t n _).after h

theorem dropSelection_slotsKept : SlotsKept s (dropSelection s) := by
  unfold dropSelection
  dsimp only
  exact .setF (.setF (.setF (.setF (.sel (.refl s)) (by decide)) (by decide)) (by decide)) (by decide)

theorem lossOfAll_slotsKept (lost : Option Nat) : SlotsKept s (lossOfAll s lost) := by
  have k1 : SlotsKept s (raise (dropSelection (beginCoast s lost)) Reg.TIME_EVENTS_TRACE_LOST) :=
    ((dropSelection_slotsKept _).after (beginCoast_slotsKept s lost)).raise (by decide)
  unfold lossOfAll
  dsimp only
  generalize raise (dropSelection (beginCoast s lost)) Reg.TIME_EVENTS_TRACE_LOST = a at k1 ⊢
  have k2 : SlotsKept s (rootInput { a with tim := { a.tim with pend := none } } none) :=
    ((rootInput_within _ _).slotsKept (by decide) (by decide)).after (k1.of_parts rfl rfl)
  generalize rootInput { a with tim := { a.tim with pend := none } } none = b at k2 ⊢
  split
  · exact (requestWord_slotsKept _ _).after ((publishHold_slotsKept b).after k2)
  · have k3 : SlotsKept s (if b.mode = .calibrate then abandonCal b else b) :=
      .ite (((abandonCal_within b).slotsKept (by decide) (by decide)).after k2) k2
    exact .ite ((enterHoldover_slotsKept _).after k3) ((enterFreerun_slotsKept _).after k3)

theorem suspectLoss_slotsKept (a : Nat) : SlotsKept s (suspectLoss s a) := (lossOfAll_slotsKept s (some a)).sel

theorem startSwitch_slotsKept (b : Nat) (src : Int × Int) (live fo : Bool) : SlotsKept s (startSwitch s b src live fo) := by
  unfold startSwitch
  dsimp only
  exact .setF (.setF (.setF (.sel (.refl s)) (by decide)) (by decide)) (by decide)

theorem abortSwitch_slotsKept : SlotsKept s (abortSwitch s) := by
  unfold abortSwitch
  dsimp only
  exact .event (.setF (.setF (.setF (.sel (.refl s)) (by decide)) (by decide)) (by decide)) (isSelEvent_bit (by decide))

theorem switchLost_slotsKept (b : Nat) (src : Int × Int) (fo : Bool) : SlotsKept s (switchLost s b src fo) :=
  (startSwitch_slotsKept _ _ _ _ _).after (.of_parts (.refl s) rfl rfl)

theorem switchFrom_slotsKept (a b : Nat) : SlotsKept s (switchFrom s a b) := .ite (startSwitch_slotsKept _ _ _ _ _) (switchLost_slotsKept _ _ _ _)

theorem selectDirect_slotsKept (b : Nat) : SlotsKept s (selectDirect s b) := by
  have k2 : SlotsKept s (requestWord (follow (setF { s with sel := { s.sel with slewing := false } } Reg.REF_SEL_STATUS_SELECTED b)) (slotY s b)) :=
    (requestWord_slotsKept _ _).after ((follow_slotsKept _).after (.setF (.sel (.refl s)) (by decide)))
  have k3 (c : Prop) [Decidable c] := SlotsKept.ite (c := c) k2 ((takeOffset_slotsKept _ (slotOfs s b) (slotSeconds s b)).after k2)
  unfold selectDirect
  exact .sel (.ite (k3 _) (((firstAlign_within _ _ _ _ _).slotsKept (by decide) (by decide)).after (k3 _)))

theorem sourceLost_slotsKept : SlotsKept s (sourceLost s) := by
  unfold sourceLost
  split
  · exact .ite ((SlotsKept.sel (.refl s)).of_parts rfl rfl) (.refl s)
  · exact .refl s

end acts

/-! ### The slots that a choice may name (R120) -/

section choose
variable {s : State}

theorem mem_bestGroup {b : Nat} (h : b ∈ bestGroup s) : b ∈ slotNos ∧ slotEligible s b = true := by
  unfold bestGroup at h
  dsimp only at h
  split at h
  · exact absurd h List.not_mem_nil
  · exact List.mem_filter.mp (List.mem_filter.mp h).1

theorem nearest_mem {g : List Nat} {cur : Option Nat} {f : Int} {b : Nat} (h : nearest s g cur f = some b) : b ∈ g := by
  unfold nearest at h
  dsimp only at h
  split at h
  · cases h
  next d _ =>
    have sub : ∀ x ∈ g.filter (fun n => decide ((slotFreq s n - f).natAbs = d)), x ∈ g := fun x m => (List.mem_filter.mp m).1
    split at h
    · split at h
      next m => cases h; exact sub _ m
      · exact sub _ (List.mem_of_mem_head? h)
    · exact sub _ (List.mem_of_mem_head? h)

theorem chooseAuto_mem {g : List Nat} {cur keep : Option Nat} {b : Nat} (hk : ∀ c, keep = some c → c ∈ g)
    (h : chooseSlot.chooseAuto s cur g keep = some b) : b ∈ g := by
  unfold chooseSlot.chooseAuto at h
  split at h
  · cases h
  · split at h
    · split at h
      · exact hk _ h
      · exact List.mem_of_mem_head? h
    · split at h
      · exact nearest_mem h
      · split at h
        · exact nearest_mem h
        · exact hk _ h

/-- The slot that a choice keeps is one of the group. -/
theorem keep_mem {g : List Nat} {cur : Option Nat} {c : Nat} (h : (match cur with | some c => if c ∈ g then some c else none | none => none) = some c) :
    c ∈ g := by
  split at h
  · split at h
    next m => cases h; exact m
    · cases h
  · cases h

/-- A choice names an eligible slot. -/
theorem chooseSlot_eligible {cur : Option Nat} {b : Nat} (h : chooseSlot s cur = some b) : slotEligible s b = true := by
  unfold chooseSlot at h
  dsimp only at h
  split at h
  next f _ =>
    split at h
    next e => cases h; exact e
    · exact (mem_bestGroup (chooseAuto_mem (fun _ => keep_mem) h)).2
  · exact (mem_bestGroup (chooseAuto_mem (fun _ => keep_mem) h)).2

theorem slotEligible_ready {n : Nat} (h : slotEligible s n = true) : slotReady s n = true := (Bool.and_eq_true_iff.mp h).1

theorem slotReady_qual {n : Nat} (h : slotReady s n = true) : slotQual s n = true := by
  unfold slotReady at h
  simp only [Bool.and_eq_true] at h
  exact h.1.1.2

end choose

/-! ### Choices and switches (R121, R125, R126, R133) -/

section choice
variable (s : State)

theorem setJump_slotsKept (n j : Nat) : SlotsKept s (setF s (Reg.SLOT_JUMP n) j) where
  fields _ i := getF_setF_ne _ _ _ _ (Nat.le_refl 32) (.inl (i.2 n).1)
  clean m _ hc := by
    refine (getB_eq_of_regWord (regWord_setF_ne _ _ _ ?_)).trans hc
    simp only [Reg.SLOT_SLOT_STATUS_PHASE_SUSPECT, Reg.SLOT_JUMP]
    omega
  own m := ⟨(slotS s m).pred, rfl⟩
  events f i e := by
    rw [getF_setF_ne _ _ _ _ (show 0 + 32 ≤ 32 by decide) (.inl (by rw [i.1]; simp only [Reg.SLOT_JUMP]; omega))]
    exact e

/-- A qualified slot becomes suspect: none that is not qualified does. -/
theorem setSuspect_slotsKept {n : Nat} (q : slotQual s n = true) : SlotsKept s (setF s (Reg.SLOT_SLOT_STATUS_PHASE_SUSPECT n) 1) where
  fields _ i := getF_setF_ne _ _ _ _ (show 4 + 1 ≤ 32 by decide) (i.2 n).2
  clean m hq hc := by
    have ne : n % 8 ≠ m % 8 := fun e => by
      unfold slotQual Reg.SLOT_SLOT_STATUS_QUALIFIED at q hq
      rw [e, hq] at q
      cases q
    refine (getB_eq_of_regWord (regWord_setF_ne _ _ _ ?_)).trans hc
    simp only [Reg.SLOT_SLOT_STATUS_PHASE_SUSPECT]
    omega
  own m := ⟨(slotS s m).pred, rfl⟩
  events f i e := by
    rw [getF_setF_ne _ _ _ _ (show 4 + 1 ≤ 32 by decide) (.inl (by rw [i.1]; simp only [Reg.SLOT_SLOT_STATUS_PHASE_SUSPECT]; omega))]
    exact e

/-- The jump test of a qualified slot. -/
theorem jumpTest_slotsKept {n : Nat} (x : Int) (h : slotQual s n = true) : SlotsKept s (jumpTest s n x) := by
  unfold jumpTest
  split
  · exact .refl s
  next j _ =>
    have k := setJump_slotsKept s n (twos 32 (jumpPs j))
    exact .ite (.event ((setSuspect_slotsKept _ ((k.slotQual_eq n).trans h)).after k) (isSelEvent_bit (by decide))) k

theorem testedChoice_slotsKept (fuel : Nat) : SlotsKept s (testedChoice fuel s).1 := by
  induction fuel generalizing s with
  | zero => exact .refl s
  | succ k ih =>
    unfold testedChoice
    split
    · exact .refl s
    next b e =>
      have j := jumpTest_slotsKept s (slotOfs s b) (slotReady_qual (slotEligible_ready (chooseSlot_eligible e)))
      dsimp only
      split
      · exact j
      · exact (ih _).after j

theorem settleChoice_slotsKept : SlotsKept s (settleChoice s) := by
  have k := testedChoice_slotsKept s 8
  unfold settleChoice
  split
  · split
    next t b e => rw [e] at k; exact (selectDirect_slotsKept t b).after k
    next t e => rw [e] at k; exact k
  · split
    · exact suspectLoss_slotsKept s _
    · split
      · exact .ite (.refl s) (switchFrom_slotsKept _ _ _)
      · exact .ite (.refl s) (lossOfAll_slotsKept s _)

theorem abortTo_slotsKept (w : Switch) : SlotsKept s (abortTo s w) := by
  unfold abortTo
  dsimp only
  split
  · exact (settleChoice_slotsKept _).after (abortSwitch_slotsKept s)
  · split
    · exact (switchLost_slotsKept _ _ _ _).after (abortSwitch_slotsKept s)
    · exact (lossOfAll_slotsKept _ _).after (abortSwitch_slotsKept s)

theorem switchChoice_slotsKept (w : Switch) : SlotsKept s (switchChoice s w) := by
  unfold switchChoice
  dsimp only
  split
  · exact suspectLoss_slotsKept s _
  · split
    · split
      · split
        · exact switchLost_slotsKept _ _ _ _
        · exact lossOfAll_slotsKept s _
      · exact abortTo_slotsKept s _
    · split
      · exact .ite ((startSwitch_slotsKept _ _ _ _ _).after (abortSwitch_slotsKept s)) (.refl s)
      · exact .refl s

theorem applyChoice_slotsKept : SlotsKept s (applyChoice s) := by
  unfold applyChoice
  dsimp only
  split
  · exact (switchChoice_slotsKept _ _).after (sourceLost_slotsKept s)
  · exact (settleChoice_slotsKept _).after (sourceLost_slotsKept s)

theorem reselect_slotsKept : SlotsKept s (reselect s) := by
  have k : SlotsKept s (noteEligible s) := .sel (.refl s)
  unfold reselect
  dsimp only
  split
  · exact k
  · exact (applyChoice_slotsKept _).after (.ite ((enterMode_slotsKept _ _).after k) k)

end choice

end Sys2Proof.Machine

end

section
/-! PROOFS. Reference slots qualify and are lost (R115 to R118, R120, R121, R128). -/

namespace Sys2Proof.Machine

/-! ### A slot is lost (R115, R117) -/

section loss
variable (s : State) (n : Nat)

theorem slopeWatch_regs (s : State) : (slopeWatch s).regs = s.regs := (slopeWatch_within s).parts .regs (by decide)

theorem slopeWatch_sel (s : State) : (slopeWatch s).sel = s.sel := (slopeWatch_within s).parts .sel (by decide)

theorem loseSlot_regs (count : Bool) (h : slotQual s n = true) : (loseSlot s n count).regs =
    (setF (setF (setF (setF s (Reg.SLOT_SLOT_STATUS_QUALIFIED n) 0) (Reg.SLOT_SLOT_STATUS_WTR_RUN n) 0)
      (Reg.SLOT_SLOT_STATUS_PHASE_SUSPECT n) 0) (Reg.SLOT_SLOT_STATUS_TIMER_S n) (getF s Reg.REF_SEL_TIMERS_QUAL_S)).regs := by
  unfold loseSlot
  rw [if_neg (by rw [h]; decide)]
  refine (slopeWatch_regs _).trans ?_
  exact setF_regs_congr (setF_regs_congr (setF_regs_congr (setF_regs_congr (updSlot_regs s n _) _ _) _ _) _ _) _ _

/-- A lost slot waits no more, and is no longer suspect. -/
theorem loseSlot_clears (count : Bool) (h : slotQual s n = true) :
    getB (loseSlot s n count) (Reg.SLOT_SLOT_STATUS_WTR_RUN n) = false ∧ slotSuspect (loseSlot s n count) n = false := by
  refine ⟨getB_eq_false ?_, getB_eq_false ?_⟩
  · rw [getF_congr (loseSlot_regs s n count h), getF_setF_ne _ _ _ _ (show 16 + 16 ≤ 32 by decide) (.inr (.inl (show 5 + 1 ≤ 16 by decide))),
      getF_setF_ne _ _ _ _ (show 4 + 1 ≤ 32 by decide) (.inr (.inr (show 4 + 1 ≤ 5 by decide))), getF_setF_same _ _ _ (show 5 + 1 ≤ 32 by decide)]
    exact Nat.zero_mod _
  · rw [getF_congr (loseSlot_regs s n count h), getF_setF_ne _ _ _ _ (show 16 + 16 ≤ 32 by decide) (.inr (.inl (show 4 + 1 ≤ 16 by decide))),
      getF_setF_same _ _ _ (show 4 + 1 ≤ 32 by decide)]
    exact Nat.zero_mod _

theorem loseSlot_lostOnce (h : slotQual s n = true) : (slotS (loseSlot s n true) n).lostOnce = true := by
  unfold loseSlot
  rw [if_neg (by rw [h]; decide)]
  dsimp only
  unfold slotS
  rw [slopeWatch_sel]
  simp only [setF_sel]
  refine (congrArg SlotS.lostOnce (slotS_updSlot_same s n _)).trans ?_
  exact Bool.or_true _

theorem loseSlot_slotQual_ne (count : Bool) {m : Nat} (hn : n < 8) (hm : m < 8) (hne : m ≠ n) : slotQual (loseSlot s n count) m = slotQual s m := by
  cases h : slotQual s n with
  | false => rw [loseSlot_idle s n count h]
  | true =>
    refine getB_eq_of_regWord ?_
    rw [regWord_congr (loseSlot_regs s n count h)]
    have other (t : State) (f : Fld) (x : Nat) (e : f.addr = (Reg.SLOT_SLOT_STATUS_QUALIFIED n).addr) :
        regWord (setF t f x) (Reg.SLOT_SLOT_STATUS_QUALIFIED m).addr = regWord t (Reg.SLOT_SLOT_STATUS_QUALIFIED m).addr :=
      regWord_setF_ne _ _ _ (by
        rw [e]
        simp only [Reg.SLOT_SLOT_STATUS_QUALIFIED]
        omega)
    rw [other, other, other, other] <;> rfl

/-- A slot lost alone: what follows its loss leaves the slots. -/
theorem loseSlots_one_slotsKept : SlotsKept (loseSlot s n true) (loseSlots s [n]) :=
  (reselect_slotsKept _).after (.event (.refl _) (isSelEvent_bit (by decide)))

theorem loseSlots_one_qualLost : getB (loseSlots s [n]) Reg.REF_SEL_EVENTS_QUAL_LOST = true :=
  getB_eq_true ((reselect_slotsKept _).events _ (isSelEvent_bit (by decide)) (getF_raise_same _ _ (by decide) rfl))

theorem loseSlots_one_slotQual : slotQual (loseSlots s [n]) n = false :=
  ((loseSlots_one_slotsKept s n).slotQual_eq n).trans (loseSlot_slotQual_same s n true)

/-- An event that stands does so as a slot is lost. -/
theorem loseSlots_one_event {f : Fld} (i : IsSelEvent f) (h : getF s f = 1) : getF (loseSlots s [n]) f = 1 := by
  refine (loseSlots_one_slotsKept s n).events f i (((loseSlot_within s n true).getF_eq fun x m => ?_).trans h)
  obtain rfl := List.mem_singleton.mp m
  simp only [Area.has, i.1]
  omega

end loss

theorem hits_slotStatus (n lo w : Nat) : Hits [.slot] ⟨(Reg.SLOT_SLOT_STATUS_QUALIFIED n).addr, lo, w⟩ := by
  simp only [hits_nil, hits_cons, Area.has, Reg.SLOT_SLOT_STATUS_QUALIFIED]
  omega

section lost
variable {s : State} {n : Nat}

/-- SRC_VALID clears with a loss condition; a frequency out of range is not one (R115). -/
def lossSeen (s : State) (n : Nat) (c : LossCause) : State := if c = .frequency then s else setF s (Reg.SLOT_SLOT_STATUS_SRC_VALID n) 0

theorem lossSeen_slotQual (c : LossCause) (m : Nat) : slotQual (lossSeen s n c) m = slotQual s m := by
  unfold lossSeen
  split
  · rfl
  · unfold slotQual getB
    rw [getF_setF_ne _ _ _ _ (show 2 + 1 ≤ 32 by decide) (.inr (.inr (show 2 + 1 ≤ 7 by decide)))]

theorem lossSeen_srcValid {c : LossCause} (h : c ≠ .frequency) : getB (lossSeen s n c) (Reg.SLOT_SLOT_STATUS_SRC_VALID n) = false := by
  unfold lossSeen
  rw [if_neg h]
  exact getB_eq_false (getF_setF_same _ _ _ (show 2 + 1 ≤ 32 by decide))

theorem slotQualLost_loses (hn : n < 8) (c : LossCause) (h : slotQual s n = true) :
    Completes (exec (.slotQualLost n c) s) fun t =>
      SelFrame s t ∧ slotQual t n = false ∧ getB t (Reg.SLOT_SLOT_STATUS_WTR_RUN n) = false ∧ slotSuspect t n = false ∧ (slotS t n).lostOnce = true ∧
      getB t Reg.REF_SEL_EVENTS_QUAL_LOST = true ∧ (c ≠ .frequency → getB t (Reg.SLOT_SLOT_STATUS_SRC_VALID n) = false) ∧
      ∀ m, m < 8 → m ≠ n → slotQual t m = slotQual s m := by
  have run : exec (.slotQualLost n c) s = ok (loseSlots (lossSeen s n c) [n]) := (if_neg (by omega)).trans (congrArg ok (if_pos h))
  have q : slotQual (lossSeen s n c) n = true := (lossSeen_slotQual c n).trans h
  obtain ⟨hw, hs⟩ := loseSlot_clears (lossSeen s n c) n true q
  have k := loseSlots_one_slotsKept (lossSeen s n c) n
  refine ⟨_, run, ((execSlotQualLost_within n c s).ofRun run).frame, loseSlots_one_slotQual _ n,
    (k.getB_eq (isSlotFld_status n (.inr (by decide)))).trans hw, k.clean n (loseSlot_slotQual_same _ n true) hs, ?_,
    loseSlots_one_qualLost _ n, fun hc => ?_, fun m hm hne => ?_⟩
  · obtain ⟨p, hp⟩ := k.own n
    rw [hp]
    exact loseSlot_lostOnce _ n q
  · exact (k.getB_eq (isSlotFld_status n (.inl (by decide)))).trans
      ((congrArg (decide <| · = 1) (loseSlot_srcValid (lossSeen s n c) n n true)).trans (lossSeen_srcValid hc))
  · exact (k.slotQual_eq m).trans ((loseSlot_slotQual_ne _ n true hn hm hne).trans (lossSeen_slotQual c m))

theorem slotQualLost_restarts (hn : n < 8) (c : LossCause) (h : slotQual s n = false) :
    Completes (exec (.slotQualLost n c) s) fun t => Frame [.regs] [.slot] s t ∧ slotQual t n = false := by
  have run : exec (.slotQualLost n c) s = ok (setF (lossSeen s n c) (Reg.SLOT_SLOT_STATUS_TIMER_S n) (getF s Reg.REF_SEL_TIMERS_QUAL_S)) :=
    (if_neg (by omega)).trans (congrArg ok (if_neg (by rw [h]; decide)))
  have w : Within [.regs] [.slot] s (lossSeen s n c) := by
    unfold lossSeen
    exact .ite .refl (setF_in .refl (by decide) (hits_slotStatus n 2 1))
  have wt : Within [.regs] [.slot] s (setF (lossSeen s n c) (Reg.SLOT_SLOT_STATUS_TIMER_S n) (getF s Reg.REF_SEL_TIMERS_QUAL_S)) :=
    setF_in w (by decide) (hits_slotStatus n 16 16)
  refine ⟨_, run, wt.frame, ?_⟩
  unfold slotQual getB
  rw [getF_setF_ne _ _ _ _ (show 16 + 16 ≤ 32 by decide) (.inr (.inl (show 7 + 1 ≤ 16 by decide)))]
  exact (lossSeen_slotQual c n).trans h

theorem gnssIncons_loses (hn : n < 8) (ht : slotType s n = 2) (hq : slotQual s n = true) (hi : 10 ≤ (slotS s n).incons) :
    Completes (exec (.gnssIncons n) s) fun t =>
      SelFrame s t ∧ slotQual t n = false ∧ getB t Reg.REF_SEL_EVENTS_GNSS_INCONS = true ∧ getB t Reg.REF_SEL_EVENTS_QUAL_LOST = true := by
  have run : exec (.gnssIncons n) s = ok (loseSlots (raise s Reg.REF_SEL_EVENTS_GNSS_INCONS) [n]) := (if_neg (by omega)).trans (if_pos ⟨ht, hq, hi⟩)
  exact ⟨_, run, ((execGnssIncons_within n s).ofRun run).frame, loseSlots_one_slotQual _ n,
    getB_eq_true (loseSlots_one_event _ n (isSelEvent_bit (by decide)) (getF_raise_same _ _ (by decide) rfl)), loseSlots_one_qualLost _ n⟩

theorem gnssIncons_idle (hn : n < 8) (h : slotType s n ≠ 2 ∨ slotQual s n = false ∨ (slotS s n).incons < 10) :
    Completes (exec (.gnssIncons n) s) fun t => t = s := by
  refine ⟨s, (if_neg (by omega)).trans (if_neg ?_), rfl⟩
  rintro ⟨ht, hq, hi⟩
  rw [hq] at h
  obtain h | h | h := h
  · exact h ht
  · cases h
  · omega

end lost

/-! ### The end of wait-to-restore (R117) -/

theorem wtrExpiry_ends {s : State} {n : Nat} (hn : n < 8) (h : getB s (Reg.SLOT_SLOT_STATUS_WTR_RUN n) = true) :
    Completes (exec (.wtrExpiry n) s) fun t =>
      SelFrame s t ∧ getB t (Reg.SLOT_SLOT_STATUS_WTR_RUN n) = false ∧ getF t (Reg.SLOT_SLOT_STATUS_TIMER_S n) = 0 ∧ slotQual t n = slotQual s n := by
  have run : exec (.wtrExpiry n) s = ok (reselect (setF (setF s (Reg.SLOT_SLOT_STATUS_WTR_RUN n) 0) (Reg.SLOT_SLOT_STATUS_TIMER_S n) 0)) :=
    (if_neg (by omega)).trans (if_pos h)
  have k := reselect_slotsKept (setF (setF s (Reg.SLOT_SLOT_STATUS_WTR_RUN n) 0) (Reg.SLOT_SLOT_STATUS_TIMER_S n) 0)
  have timer {f : Fld} (hf : f.lo + f.w ≤ 16) : getF (setF (setF s (Reg.SLOT_SLOT_STATUS_WTR_RUN n) 0) (Reg.SLOT_SLOT_STATUS_TIMER_S n) 0) f =
      getF (setF s (Reg.SLOT_SLOT_STATUS_WTR_RUN n) 0) f := getF_setF_ne _ _ _ _ (show 16 + 16 ≤ 32 by decide) (.inr (.inl hf))
  refine ⟨_, run, ((execWtrExpiry_within n s).ofRun run).frame, getB_eq_false ?_, ?_, ?_⟩
  · exact (k.fields _ (isSlotFld_status n (.inr (by decide)))).trans
      ((timer (show 5 + 1 ≤ 16 by decide)).trans (getF_setF_same _ _ _ (show 5 + 1 ≤ 32 by decide)))
  · exact (k.fields _ (isSlotFld_status n (.inr (by decide)))).trans ((getF_setF_same _ _ _ (show 16 + 16 ≤ 32 by decide)).trans (Nat.zero_mod _))
  · refine (k.slotQual_eq n).trans ?_
    unfold slotQual getB
    rw [timer (show 7 + 1 ≤ 16 by decide), getF_setF_ne _ _ _ _ (show 5 + 1 ≤ 32 by decide) (.inr (.inr (show 5 + 1 ≤ 7 by decide)))]

/-! ### A slot qualifies (R115, R117, R133) -/

section passed
variable (s : State) (n : Nat) (m : SlotMeas)

/-- A counted loss before, and a wait-to-restore. -/
def slotWaits (s : State) (n : Nat) : Bool := (slotS s n).lostOnce && decide (getF s Reg.REF_SEL_TIMERS_WTR_S ≠ 0)

/-- Slot `n` is qualified, its source valid. -/
def slotPassed (s : State) (n : Nat) (m : SlotMeas) : State :=
  setF (setF (updSlot s n (fun o => { o with meas := some m, secs := 0, freqs := [], incons := 0, lostAt := none }))
    (Reg.SLOT_SLOT_STATUS_QUALIFIED n) 1) (Reg.SLOT_SLOT_STATUS_SRC_VALID n) 1

/-- Its wait-to-restore runs where a loss was counted. -/
def slotTimed (s : State) (n : Nat) (m : SlotMeas) : State :=
  if slotWaits s n then
    setF (setF (slotPassed s n m) (Reg.SLOT_SLOT_STATUS_WTR_RUN n) 1) (Reg.SLOT_SLOT_STATUS_TIMER_S n) (getF s Reg.REF_SEL_TIMERS_WTR_S)
  else setF (slotPassed s n m) (Reg.SLOT_SLOT_STATUS_TIMER_S n) 0

/-- Its measurement is stored. -/
def slotMeasured (s : State) (n : Nat) (m : SlotMeas) : State := storeMeas (slotTimed s n m) n (some m)

/-- Its jump is tested, and the slope watched, before the choice. -/
def slotTested (s : State) (n : Nat) (m : SlotMeas) : State :=
  slopeWatch (jumpTest (slotMeasured s n m) n (slotOfs (slotMeasured s n m) n))

theorem slotQualified_run {s : State} {n : Nat} (hn : n < 8) (hc : srcClear s n = true) (hq : slotQual s n = false)
    (hf : m.freq.natAbs * 10 ^ 6 ≤ 19 * 2 ^ 60) : exec (.slotQualified n m) s = ok (reselect (slotTested s n m)) :=
  (if_neg (by omega)).trans (if_neg (by
    rw [hq, hc, decide_eq_false (by omega)]
    decide))

theorem slotQualified_idle {s : State} {n : Nat} {m : SlotMeas} (hn : n < 8)
    (h : srcClear s n = false ∨ slotQual s n = true ∨ 19 * 2 ^ 60 < m.freq.natAbs * 10 ^ 6) : Completes (exec (.slotQualified n m) s) fun t => t = s := by
  refine ⟨s, (if_neg (by omega)).trans (if_pos ?_), rfl⟩
  obtain h | h | h := h
  · rw [h]
    simp
  · rw [h]
    simp
  · rw [decide_eq_true h]
    simp

theorem slotTimed_within : Within [.regs, .sel] [.slot] s (slotTimed s n m) := by
  have w : Within [.regs, .sel] [.slot] s (slotPassed s n m) := by
    unfold slotPassed
    exact setF_in (setF_in ((updSlot_within s n _).mono (by decide) (by decide)) (by decide) (hits_slotStatus n 7 1)) (by decide) (hits_slotStatus n 2 1)
  unfold slotTimed
  exact .ite (setF_in (setF_in w (by decide) (hits_slotStatus n 5 1)) (by decide) (hits_slotStatus n 16 16))
    (setF_in w (by decide) (hits_slotStatus n 16 16))

/-- Of the registers the slot's status alone is written. -/
theorem slotTimed_regWord {a : Nat} (h : a ≠ (Reg.SLOT_SLOT_STATUS_QUALIFIED n).addr) : regWord (slotTimed s n m) a = regWord s a := by
  have other (t : State) (f : Fld) (x : Nat) (e : f.addr = (Reg.SLOT_SLOT_STATUS_QUALIFIED n).addr) : regWord (setF t f x) a = regWord t a :=
    regWord_setF_ne _ _ _ (by rw [e]; exact h)
  have p : regWord (slotPassed s n m) a = regWord s a :=
    (other _ (Reg.SLOT_SLOT_STATUS_SRC_VALID n) _ rfl).trans ((other _ (Reg.SLOT_SLOT_STATUS_QUALIFIED n) _ rfl).trans (regWord_congr (updSlot_regs s n _) a))
  unfold slotTimed
  split
  · exact (other _ (Reg.SLOT_SLOT_STATUS_TIMER_S n) _ rfl).trans ((other _ (Reg.SLOT_SLOT_STATUS_WTR_RUN n) _ rfl).trans p)
  · exact (other _ (Reg.SLOT_SLOT_STATUS_TIMER_S n) _ rfl).trans p

/-- The status below the timer, but for WTR_RUN. -/
theorem slotTimed_status {lo w : Nat} (h : lo + w ≤ 5 ∨ 5 + 1 ≤ lo) (h16 : lo + w ≤ 16) :
    getF (slotTimed s n m) ⟨(Reg.SLOT_SLOT_STATUS_QUALIFIED n).addr, lo, w⟩ =
      getF (slotPassed s n m) ⟨(Reg.SLOT_SLOT_STATUS_QUALIFIED n).addr, lo, w⟩ := by
  unfold slotTimed
  split
  · rw [getF_setF_ne _ _ _ _ (show 16 + 16 ≤ 32 by decide) (.inr (.inl h16)), getF_setF_ne _ _ _ _ (show 5 + 1 ≤ 32 by decide) (.inr h)]
  · rw [getF_setF_ne _ _ _ _ (show 16 + 16 ≤ 32 by decide) (.inr (.inl h16))]

theorem slotTimed_qualified : getF (slotTimed s n m) (Reg.SLOT_SLOT_STATUS_QUALIFIED n) = 1 := by
  refine (slotTimed_status s n m (.inr (by decide)) (by decide)).trans ?_
  exact (getF_setF_ne _ _ _ _ (show 2 + 1 ≤ 32 by decide) (.inr (.inr (show 2 + 1 ≤ 7 by decide)))).trans
    (getF_setF_same _ _ _ (show 7 + 1 ≤ 32 by decide))

theorem slotTimed_srcValid : getF (slotTimed s n m) (Reg.SLOT_SLOT_STATUS_SRC_VALID n) = 1 :=
  (slotTimed_status s n m (.inl (by decide)) (by decide)).trans (getF_setF_same _ _ _ (show 2 + 1 ≤ 32 by decide))

theorem slotTimed_waits (h : slotWaits s n = true) : getF (slotTimed s n m) (Reg.SLOT_SLOT_STATUS_WTR_RUN n) = 1 ∧
    getF (slotTimed s n m) (Reg.SLOT_SLOT_STATUS_TIMER_S n) = getF s Reg.REF_SEL_TIMERS_WTR_S := by
  unfold slotTimed
  rw [if_pos h]
  refine ⟨?_, (getF_setF_same _ _ _ (show 16 + 16 ≤ 32 by decide)).trans (Nat.mod_eq_of_lt (getF_lt s _))⟩
  exact (getF_setF_ne _ _ _ _ (show 16 + 16 ≤ 32 by decide) (.inr (.inl (show 5 + 1 ≤ 16 by decide)))).trans
    (getF_setF_same _ _ _ (show 5 + 1 ≤ 32 by decide))

theorem slotTimed_runs (h : slotWaits s n = false) :
    getF (slotTimed s n m) (Reg.SLOT_SLOT_STATUS_WTR_RUN n) = getF s (Reg.SLOT_SLOT_STATUS_WTR_RUN n) := by
  unfold slotTimed
  rw [if_neg (by rw [h]; decide), getF_setF_ne _ _ _ _ (show 16 + 16 ≤ 32 by decide) (.inr (.inl (show 5 + 1 ≤ 16 by decide)))]
  unfold slotPassed
  rw [getF_setF_ne _ _ _ _ (show 2 + 1 ≤ 32 by decide) (.inr (.inr (show 2 + 1 ≤ 5 by decide))),
    getF_setF_ne _ _ _ _ (show 7 + 1 ≤ 32 by decide) (.inr (.inl (show 5 + 1 ≤ 7 by decide)))]
  exact getF_congr (updSlot_regs s n _) _

/-- The measurement that the state holds of a slot is that of its source. -/
theorem heldMeas_congr {s t : State} (hc : regWord t (Reg.SLOT_SLOT_CFG_EN n).addr = regWord s (Reg.SLOT_SLOT_CFG_EN n).addr)
    (hp : t.ports = s.ports) (hj : t.jieth = s.jieth) (hg : t.gnss = s.gnss) : heldMeas t n m = heldMeas s n m := by
  have ht : slotType t n = slotType s n := getF_eq_of_regWord hc
  have hi : slotIndex t n = slotIndex s n := getF_eq_of_regWord hc
  have port : ∀ p, portS t p = portS s p := fun p => by unfold portS; rw [hp]
  have link : ∀ k, linkS t k = linkS s k := fun k => by unfold linkS; rw [hj]
  unfold heldMeas wrapOfs
  simp only [ht, hi, port, link, hg]

/-- The registers of slot `n` that hold its measurement. -/
def IsMeasWord (n a : Nat) : Prop :=
  a = (Reg.SLOT_FREQ_HI n).addr ∨ a = (Reg.SLOT_FREQ_LO n).addr ∨ a = (Reg.SLOT_OFS_HI n).addr ∨ a = (Reg.SLOT_OFS_LO n).addr

/-- Of a source already seen the measurement alone is stored. -/
theorem storeMeas_seen (h : getB s (Reg.SLOT_SLOT_STATUS_SRC_VALID n) = true) :
    slotS (storeMeas s n (some m)) n = { slotS s n with meas := some (heldMeas s n m) } ∧
    (storeMeas s n (some m)).sel.sw = s.sel.sw ∧ ∀ a, ¬ IsMeasWord n a → regWord (storeMeas s n (some m)) a = regWord s a := by
  have seen : sourceSeen (updSlot s n (fun o => { o with meas := some (heldMeas s n m) })) n =
      updSlot s n (fun o => { o with meas := some (heldMeas s n m) }) :=
    if_neg (by
      rw [show getB (updSlot s n _) (Reg.SLOT_SLOT_STATUS_SRC_VALID n) = true from h]
      simp)
  unfold storeMeas
  dsimp only
  rw [seen]
  refine ⟨slotS_updSlot_same s n _, rfl, fun a ha => ?_⟩
  unfold IsMeasWord at ha
  rw [not_or, not_or, not_or] at ha
  obtain ⟨h1, h2, h3, h4⟩ := ha
  rw [regWord_setHL_ne _ _ _ _ h3 h4, regWord_setHL_ne _ _ _ _ h1 h2]
  exact regWord_congr (updSlot_regs s n _) a

/-- No status or settings of a slot are among them. -/
theorem not_isMeasWord_status (k : Nat) : ¬ IsMeasWord n (Reg.SLOT_SLOT_STATUS_QUALIFIED k).addr := by
  simp only [IsMeasWord, Reg.SLOT_FREQ_HI, Reg.SLOT_FREQ_LO, Reg.SLOT_OFS_HI, Reg.SLOT_OFS_LO, Reg.SLOT_SLOT_STATUS_QUALIFIED]
  omega

theorem not_isMeasWord_cfg (k : Nat) : ¬ IsMeasWord n (Reg.SLOT_SLOT_CFG_EN k).addr := by
  simp only [IsMeasWord, Reg.SLOT_FREQ_HI, Reg.SLOT_FREQ_LO, Reg.SLOT_OFS_HI, Reg.SLOT_OFS_LO, Reg.SLOT_SLOT_CFG_EN]
  omega

theorem slotMeasured_seen :
    slotS (slotMeasured s n m) n = { slotS (slotTimed s n m) n with meas := some (heldMeas (slotTimed s n m) n m) } ∧
    (slotMeasured s n m).sel.sw = (slotTimed s n m).sel.sw ∧
    ∀ a, ¬ IsMeasWord n a → regWord (slotMeasured s n m) a = regWord (slotTimed s n m) a :=
  storeMeas_seen _ n m (getB_eq_true (slotTimed_srcValid s n m))

theorem slotMeasured_status (k lo w : Nat) : getF (slotMeasured s n m) ⟨(Reg.SLOT_SLOT_STATUS_QUALIFIED k).addr, lo, w⟩ =
    getF (slotTimed s n m) ⟨(Reg.SLOT_SLOT_STATUS_QUALIFIED k).addr, lo, w⟩ := by
  obtain ⟨-, -, h⟩ := slotMeasured_seen s n m
  exact getF_eq_of_regWord (h _ (not_isMeasWord_status n k))

theorem slotMeasured_meas : (slotS (slotMeasured s n m) n).meas = some (heldMeas s n m) := by
  obtain ⟨h, -, -⟩ := slotMeasured_seen s n m
  have w := slotTimed_within s n m
  rw [h]
  refine congrArg some (heldMeas_congr n m (slotTimed_regWord s n m ?_) (w.parts .ports (by decide)) (w.parts .jieth (by decide))
    (w.parts .gnss (by decide)))
  simp only [Reg.SLOT_SLOT_CFG_EN, Reg.SLOT_SLOT_STATUS_QUALIFIED]
  omega

theorem slotMeasured_slotQual : slotQual (slotMeasured s n m) n = true :=
  getB_eq_true ((slotMeasured_status s n m n 7 1).trans (slotTimed_qualified s n m))

theorem slotTested_slotsKept : SlotsKept (slotMeasured s n m) (slotTested s n m) :=
  ((slopeWatch_within _).slotsKept (by decide) (by decide)).after (jumpTest_slotsKept _ _ (slotMeasured_slotQual s n m))

/-- What the choice leaves of the slot that has qualified. -/
theorem reselect_slotTested :
    slotQual (reselect (slotTested s n m)) n = true ∧ getB (reselect (slotTested s n m)) (Reg.SLOT_SLOT_STATUS_SRC_VALID n) = true ∧
    (slotS (reselect (slotTested s n m)) n).meas = some (heldMeas s n m) ∧
    (slotWaits s n = true → getB (reselect (slotTested s n m)) (Reg.SLOT_SLOT_STATUS_WTR_RUN n) = true ∧
      getF (reselect (slotTested s n m)) (Reg.SLOT_SLOT_STATUS_TIMER_S n) = getF s Reg.REF_SEL_TIMERS_WTR_S) := by
  have k := (reselect_slotsKept (slotTested s n m)).after (slotTested_slotsKept s n m)
  have status {lo w : Nat} (h : lo + w ≤ 4 ∨ 4 + 1 ≤ lo) : getF (reselect (slotTested s n m)) ⟨(Reg.SLOT_SLOT_STATUS_QUALIFIED n).addr, lo, w⟩ =
      getF (slotTimed s n m) ⟨(Reg.SLOT_SLOT_STATUS_QUALIFIED n).addr, lo, w⟩ :=
    (k.fields _ (isSlotFld_status n h)).trans (slotMeasured_status s n m n lo w)
  refine ⟨(k.slotQual_eq n).trans (slotMeasured_slotQual s n m), getB_eq_true ((status (.inl (by decide))).trans (slotTimed_srcValid s n m)), ?_,
    fun h => ?_⟩
  · obtain ⟨p, hp⟩ := k.own n
    rw [hp]
    exact slotMeasured_meas s n m
  · obtain ⟨hw, ht⟩ := slotTimed_waits s n m h
    exact ⟨getB_eq_true ((status (.inr (by decide))).trans hw), (status (.inr (by decide))).trans ht⟩

end passed

/-! ### The only slot ready is selected (R118, R120, R121, R128) -/

section only
variable {s t : State} {n : Nat}

/-- Slot `n` alone is ready (R118). -/
def OnlyReady (s : State) (n : Nat) : Prop := slotReady s n = true ∧ ∀ k, k < 8 → k ≠ n → slotReady s k = false

/-- The settings of every slot are the same in two states. -/
def SlotCfgsKept (s t : State) : Prop := ∀ k lo w, getF t ⟨(Reg.SLOT_SLOT_CFG_EN k).addr, lo, w⟩ = getF s ⟨(Reg.SLOT_SLOT_CFG_EN k).addr, lo, w⟩

theorem SlotsKept.cfgs (k : SlotsKept s t) : SlotCfgsKept s t := fun _ _ _ => k.fields _ (isSlotFld_cfg _ _ _)

/-- The error of a slot follows from the slots' settings and the links' roles (R113). -/
theorem slotErr_congr (hc : SlotCfgsKept s t) (hs : t.straps = s.straps) (hl : ∀ k, linkRole t k = linkRole s k) (k : Nat) :
    slotErr t k = slotErr s k := by
  have ht : ∀ k, slotType t k = slotType s k := fun k => hc k 6 2
  have hi : ∀ k, slotIndex t k = slotIndex s k := fun k => hc k 0 6
  have he : ∀ k, slotEn t k = slotEn s k := fun k => congrArg (decide <| · = 1) (hc k 15 1)
  unfold slotErr
  simp only [ht, hi, he, hs, hl]

/-- An operation that touches neither the links nor their registers leaves their roles. -/
theorem Within.linkRole_eq {l : List StatePart} {g : List Area} (w : Within l g s t) (hl : StatePart.jieth ∉ l)
    (hg : ∀ x ∈ g, x ∈ [Area.clk, .dll, .time, .ref, .slot, .port, .eng, .cal, .perf, .aud, .jg]) (k : Nat) : linkRole t k = linkRole s k := by
  have hj : t.jieth = s.jieth := w.parts .jieth hl
  have hr : linkRoleCfg t k = linkRoleCfg s k := by
    refine w.getF_eq fun x m => ?_
    have m' := hg x m
    simp only [List.mem_cons, List.not_mem_nil, or_false] at m'
    obtain rfl | rfl | rfl | rfl | rfl | rfl | rfl | rfl | rfl | rfl | rfl := m' <;> simp only [Area.has, Reg.LINK_LINK_CFG_ROLE] <;> omega
  unfold linkRole linkS
  rw [hj, hr]

/-- Whether a slot is ready follows from its settings, its error and its status. -/
theorem slotReady_congr (hc : SlotCfgsKept s t) (hs : t.straps = s.straps) (hl : ∀ k, linkRole t k = linkRole s k) {k : Nat}
    (hq : slotQual t k = slotQual s k) (hw : getB t (Reg.SLOT_SLOT_STATUS_WTR_RUN k) = getB s (Reg.SLOT_SLOT_STATUS_WTR_RUN k)) :
    slotReady t k = slotReady s k := by
  have he : slotEn t k = slotEn s k := congrArg (decide <| · = 1) (hc k 15 1)
  have ho : getB t (Reg.SLOT_SLOT_CFG_LOCKOUT k) = getB s (Reg.SLOT_SLOT_CFG_LOCKOUT k) := congrArg (decide <| · = 1) (hc k 14 1)
  unfold slotReady
  rw [slotErr_congr hc hs hl, hq, hw, he, ho]

theorem SlotsKept.slotReady_eq (k : SlotsKept s t) (hs : t.straps = s.straps) (hl : ∀ k, linkRole t k = linkRole s k) (j : Nat) :
    slotReady t j = slotReady s j :=
  slotReady_congr k.cfgs hs hl (k.slotQual_eq j) (k.getB_eq (isSlotFld_status j (.inr (by decide))))

theorem OnlyReady.kept (h : OnlyReady s n) (e : ∀ k, slotReady t k = slotReady s k) : OnlyReady t n :=
  ⟨(e n).trans h.1, fun k hk hne => (e k).trans (h.2 k hk hne)⟩

theorem jumpTest_slotReady (x : Int) (h : slotQual s n = true) (k : Nat) : slotReady (jumpTest s n x) k = slotReady s k := by
  have w := jumpTest_within s n x
  exact (jumpTest_slotsKept s x h).slotReady_eq (w.parts .straps (by decide)) (w.linkRole_eq (by decide) (by decide)) k

/-- It alone is eligible, suspect or not. -/
theorem OnlyReady.eligible (h : OnlyReady s n) {k : Nat} (hk : k < 8) : slotEligible s k = decide (k = n) := by
  obtain ⟨hn, hk'⟩ := h
  unfold slotEligible
  by_cases e : k = n
  · subst e
    rw [hn, decide_eq_true rfl, Bool.true_and]
    cases hs : slotSuspect s k with
    | false => rfl
    | true =>
      have none : (List.range 8).any (fun m => slotReady s m && !slotSuspect s m) = false := by
        rw [List.any_eq_false]
        intro m hm
        by_cases e : m = k
        · rw [e, hs]
          simp
        · rw [hk' m (List.mem_range.mp hm) e]
          simp
      rw [none]
      rfl
  · rw [hk' k hk e, decide_eq_false e]
    rfl

theorem OnlyReady.bestGroup_eq (h : OnlyReady s n) (hn : n < 8) : bestGroup s = [n] := by
  have e : slotNos.filter (slotEligible s) = [n] := by
    refine (List.filter_congr fun k hk => h.eligible (List.mem_range.mp hk)).trans ?_
    interval_cases n <;> rfl
  unfold bestGroup
  rw [e]
  exact List.filter_eq_self.mpr fun k hk => by rw [List.mem_singleton.mp hk]; exact decide_eq_true rfl

/-- A slot does not disagree with itself. -/
theorem groupDisagrees_one (s : State) (n : Nat) : groupDisagrees s [n] 1 = false := by
  have e : pairDiffers s n n 1 = false := by
    unfold pairDiffers pairFreqs freqDiffers
    dsimp only
    rw [Int.sub_self]
    exact decide_eq_false (by simp)
  unfold groupDisagrees
  simp [e]

theorem OnlyReady.chooseSlot_eq (h : OnlyReady s n) (hn : n < 8) : chooseSlot s none = some n := by
  have auto : chooseSlot.chooseAuto s none [n] none = some n := by
    unfold chooseSlot.chooseAuto
    rw [if_neg (List.cons_ne_nil _ _), groupDisagrees_one]
    rfl
  unfold chooseSlot
  rw [h.bestGroup_eq hn]
  dsimp only
  split
  next f hf =>
    have hlt : f < 8 := by
      unfold forced at hf
      dsimp only at hf
      split at hf
      next hx => cases hf; exact hx
      · cases hf
    split
    next he => rw [of_decide_eq_true ((h.eligible hlt).symm.trans he)]
    · exact auto
  · exact auto

/-- Whatever the tests of its jump show. -/
theorem OnlyReady.testedChoice_eq (hn : n < 8) (fuel : Nat) (h : OnlyReady s n) : (testedChoice fuel s).2 = some n := by
  induction fuel generalizing s with
  | zero => exact h.chooseSlot_eq hn
  | succ k ih =>
    unfold testedChoice
    rw [h.chooseSlot_eq hn]
    dsimp only
    split
    · rfl
    · exact ih (h.kept (jumpTest_slotReady _ (slotReady_qual h.1)))

theorem selected_eq_some (hn : n < 8) (h : getF s Reg.REF_SEL_STATUS_SELECTED = n) : selected s = some n := by
  unfold selected
  dsimp only
  rw [h, if_pos hn]

theorem selectDirect_selected (s : State) (hn : n < 8) : selected (selectDirect s n) = some n := by
  have ref {t u : State} {l : List StatePart} {g : List Area} (w : Within l g t u) (hg : ∀ x ∈ g, x ∈ [Area.clk, .dll, .time])
      (h : getF t Reg.REF_SEL_STATUS_SELECTED = n) : getF u Reg.REF_SEL_STATUS_SELECTED = n := by
    refine (w.getF_eq fun x m => ?_).trans h
    have m' := hg x m
    simp only [List.mem_cons, List.not_mem_nil, or_false] at m'
    obtain rfl | rfl | rfl := m' <;> simp [Area.has, Reg.REF_SEL_STATUS_SELECTED]
  have h1 : getF (setF { s with sel := { s.sel with slewing := false } } Reg.REF_SEL_STATUS_SELECTED n) Reg.REF_SEL_STATUS_SELECTED = n :=
    (getF_setF_same _ _ _ (by decide)).trans (Nat.mod_eq_of_lt (show n < 16 by omega))
  have h2 := ref (requestWord_within _ (slotY s n)) (by decide) (ref (follow_within _) (by decide) h1)
  have h3 (c : Prop) [Decidable c] (t u : State) (ht : getF t Reg.REF_SEL_STATUS_SELECTED = n) (hu : getF u Reg.REF_SEL_STATUS_SELECTED = n) :
      getF (if c then t else u) Reg.REF_SEL_STATUS_SELECTED = n := by
    split
    · exact ht
    · exact hu
  have h4 (c : Prop) [Decidable c] := h3 c _ _ h2 (ref (takeOffset_within _ (slotOfs s n) (slotSeconds s n)) (by decide) h2)
  exact selected_eq_some hn (h3 _ _ _ (h4 _) (ref (firstAlign_within _ _ _ _ _) (by decide) (h4 _)))

theorem settleChoice_only (hn : n < 8) (h : OnlyReady s n) (hs : selected s = none) : selected (settleChoice s) = some n := by
  have e := h.testedChoice_eq hn 8
  unfold settleChoice
  rw [hs]
  dsimp only
  split
  next t b eq =>
    rw [eq] at e
    cases e
    exact selectDirect_selected t hn
  next t eq =>
    rw [eq] at e
    cases e

/-- In ACQUIRE with nothing selected and no switch the only slot ready is selected. -/
theorem reselect_only (hn : n < 8) (h : OnlyReady s n) (hm : s.mode = .acquire) (hs : selected s = none) (hw : s.sel.sw = none) :
    selected (reselect s) = some n := by
  have mode : (noteEligible s).mode = .acquire := hm
  have sw : (noteEligible s).sel.sw = none := hw
  have lost : sourceLost (noteEligible s) = noteEligible s := by
    unfold sourceLost
    rw [sw]
  have choice : applyChoice (noteEligible s) = settleChoice (noteEligible s) := by
    unfold applyChoice
    dsimp only
    rw [lost, sw]
  have e : reselect s = applyChoice (noteEligible s) := by
    unfold reselect
    dsimp only
    rw [mode]
    rfl
  rw [e, choice]
  exact settleChoice_only hn (h.kept fun _ => rfl) hs

end only

/-! ### SLOT_QUALIFIED -/

section qualified
variable {s : State} {n : Nat} (m : SlotMeas)

theorem jumpTest_selection (s : State) (n : Nat) (x : Int) : selected (jumpTest s n x) = selected s := by
  have word : regWord (jumpTest s n x) 0x30014 = regWord s 0x30014 := by
    have jump : ∀ j, regWord (setF s (Reg.SLOT_JUMP n) j) 0x30014 = regWord s 0x30014 := fun j =>
      regWord_setF_ne _ _ _ (by simp only [Reg.SLOT_JUMP]; omega)
    unfold jumpTest
    split
    · rfl
    · dsimp only
      split
      · rw [regWord_raise_ne _ _ (by decide), regWord_setF_ne _ _ _ (by simp only [Reg.SLOT_SLOT_STATUS_PHASE_SUSPECT]; omega)]
        exact jump _
      · exact jump _
  unfold selected
  rw [show getF (jumpTest s n x) Reg.REF_SEL_STATUS_SELECTED = getF s Reg.REF_SEL_STATUS_SELECTED from getF_eq_of_regWord word]

theorem slotMeasured_within (s : State) (n : Nat) : Within [.regs, .sel] [.slot] s (slotMeasured s n m) :=
  (storeMeas_within _ _ _).after (slotTimed_within s n m) (by decide) (by decide)

theorem slotTested_within (s : State) (n : Nat) : Within [.regs, .clk, .out] [.ref, .slot] (slotMeasured s n m) (slotTested s n m) :=
  (slopeWatch_within _).after ((jumpTest_within (slotMeasured s n m) n _).mono (by decide) (by decide)) (by decide) (by decide)

theorem slotTested_mode (s : State) (n : Nat) : (slotTested s n m).mode = s.mode :=
  SamePart.trans (p := .mode) ((slotMeasured_within m s n).parts .mode (by decide)) ((slotTested_within m s n).parts .mode (by decide))

theorem slotTested_selected (s : State) (n : Nat) : selected (slotTested s n m) = selected s := by
  have e : selected (slotMeasured s n m) = selected s := by
    unfold selected
    rw [(slotMeasured_within m s n).getF_eq (by simp [Area.has, Reg.REF_SEL_STATUS_SELECTED])]
  rw [← e, ← jumpTest_selection (slotMeasured s n m) n (slotOfs (slotMeasured s n m) n)]
  unfold selected slotTested
  rw [getF_congr (slopeWatch_regs _)]

theorem slotTested_sw (s : State) (n : Nat) : (slotTested s n m).sel.sw = s.sel.sw := by
  obtain ⟨-, h, -⟩ := slotMeasured_seen s n m
  have timed : (slotTimed s n m).sel.sw = s.sel.sw := by
    unfold slotTimed
    split <;> rfl
  have sel : (slotTested s n m).sel = (slotMeasured s n m).sel := (slotTested_within m s n).parts .sel (by decide)
  rw [sel, h, timed]

theorem slotMeasured_cfgs (s : State) (n : Nat) : SlotCfgsKept s (slotMeasured s n m) := fun k lo w => by
  obtain ⟨-, -, h⟩ := slotMeasured_seen s n m
  refine getF_eq_of_regWord ((h _ (not_isMeasWord_cfg n k)).trans (slotTimed_regWord s n m ?_))
  simp only [Reg.SLOT_SLOT_CFG_EN, Reg.SLOT_SLOT_STATUS_QUALIFIED]
  omega

theorem srcClear_en (h : srcClear s n = true) : slotEn s n = true ∧ slotErr s n = false := by
  unfold srcClear at h
  simp only [Bool.and_eq_true, Bool.not_eq_true'] at h
  exact ⟨h.1.1.1, h.1.1.2⟩

theorem slotTested_onlyReady (hn : n < 8) (hc : srcClear s n = true) (hs : slotWaits s n = false)
    (hw : getB s (Reg.SLOT_SLOT_STATUS_WTR_RUN n) = false) (hl : getB s (Reg.SLOT_SLOT_CFG_LOCKOUT n) = false)
    (ho : ∀ k, k < 8 → k ≠ n → slotReady s k = false) : OnlyReady (slotTested s n m) n := by
  have w := slotMeasured_within m s n
  have straps : (slotMeasured s n m).straps = s.straps := w.parts .straps (by decide)
  have roles : ∀ k, linkRole (slotMeasured s n m) k = linkRole s k := w.linkRole_eq (by decide) (by decide)
  have cfgs := slotMeasured_cfgs m s n
  have ready : OnlyReady (slotMeasured s n m) n := by
    constructor
    · obtain ⟨he, hr⟩ := srcClear_en hc
      have en : slotEn (slotMeasured s n m) n = true := (congrArg (decide <| · = 1) (cfgs n 15 1)).trans he
      have lock : getB (slotMeasured s n m) (Reg.SLOT_SLOT_CFG_LOCKOUT n) = false := (congrArg (decide <| · = 1) (cfgs n 14 1)).trans hl
      have run : getB (slotMeasured s n m) (Reg.SLOT_SLOT_STATUS_WTR_RUN n) = false :=
        (congrArg (decide <| · = 1) ((slotMeasured_status s n m n 5 1).trans (slotTimed_runs s n m hs))).trans hw
      unfold slotReady
      rw [en, (slotErr_congr cfgs straps roles n).trans hr, slotMeasured_slotQual, run, lock]
      rfl
    · intro k hk hne
      have status : ∀ lo w, getF (slotMeasured s n m) ⟨(Reg.SLOT_SLOT_STATUS_QUALIFIED k).addr, lo, w⟩ =
          getF s ⟨(Reg.SLOT_SLOT_STATUS_QUALIFIED k).addr, lo, w⟩ := fun lo w =>
        (slotMeasured_status s n m k lo w).trans (getF_eq_of_regWord (slotTimed_regWord s n m (by
          simp only [Reg.SLOT_SLOT_STATUS_QUALIFIED]
          omega)))
      exact (slotReady_congr cfgs straps roles (congrArg (decide <| · = 1) (status 7 1)) (congrArg (decide <| · = 1) (status 5 1))).trans (ho k hk hne)
  have wt := slotTested_within m s n
  exact ready.kept ((slotTested_slotsKept s n m).slotReady_eq (wt.parts .straps (by decide)) (wt.linkRole_eq (by decide) (by decide)))

theorem slotQualified_qualifies (hn : n < 8) (hc : srcClear s n = true) (hq : slotQual s n = false) (hf : m.freq.natAbs * 10 ^ 6 ≤ 19 * 2 ^ 60) :
    Completes (exec (.slotQualified n m) s) fun t =>
      SelFrame s t ∧ slotQual t n = true ∧ getB t (Reg.SLOT_SLOT_STATUS_SRC_VALID n) = true ∧ (slotS t n).meas = some (heldMeas s n m) ∧
      ((slotS s n).lostOnce = true ∧ getF s Reg.REF_SEL_TIMERS_WTR_S ≠ 0 →
        getB t (Reg.SLOT_SLOT_STATUS_WTR_RUN n) = true ∧ getF t (Reg.SLOT_SLOT_STATUS_TIMER_S n) = getF s Reg.REF_SEL_TIMERS_WTR_S) ∧
      (¬ ((slotS s n).lostOnce = true ∧ getF s Reg.REF_SEL_TIMERS_WTR_S ≠ 0) → s.mode = .acquire → selected s = none → s.sel.sw = none →
        getB s (Reg.SLOT_SLOT_STATUS_WTR_RUN n) = false → getB s (Reg.SLOT_SLOT_CFG_LOCKOUT n) = false →
        (∀ k, k < 8 → k ≠ n → slotReady s k = false) → selected t = some n) := by
  have run := slotQualified_run m hn hc hq hf
  have waits : slotWaits s n = true ↔ (slotS s n).lostOnce = true ∧ getF s Reg.REF_SEL_TIMERS_WTR_S ≠ 0 := by
    unfold slotWaits
    rw [Bool.and_eq_true, decide_eq_true_eq]
  obtain ⟨hqual, hsrc, hmeas, hwait⟩ := reselect_slotTested s n m
  refine ⟨_, run, ((execSlotQualified_within n m s).ofRun run).frame, hqual, hsrc, hmeas, fun h => hwait (waits.mpr h), ?_⟩
  intro h hm hs hw hr hl ho
  have hn' : slotWaits s n = false := Bool.eq_false_iff.mpr fun e => h (waits.mp e)
  exact reselect_only hn (slotTested_onlyReady m hn hc hn' hr hl ho) ((slotTested_mode m s n).trans hm) ((slotTested_selected m s n).trans hs)
    ((slotTested_sw m s n).trans hw)

end qualified

/-- Settles O41: what a choice leaves of the slots carries the qualification, the loss and the wait through it; the only slot ready is the only one
eligible, so every choice names it. -/
theorem slotsQualify : Obligations.SlotsQualify :=
  ⟨fun _ _ hn => ⟨fun m hc hq hf => slotQualified_qualifies m hn hc hq hf, fun _ h => slotQualified_idle hn h, wtrExpiry_ends hn⟩,
    fun _ _ hn => ⟨fun c => slotQualLost_loses hn c, fun c => slotQualLost_restarts hn c, gnssIncons_loses hn, gnssIncons_idle hn⟩⟩

end Sys2Proof.Machine

end

section
/-! PROOFS. Writes of a slot's and of a port's settings (R113, R206). -/

namespace Sys2Proof.Machine

/-! ### The words stored -/

theorem slotCfg_lands {n : Nat} (h : n < 8) : Lands (Reg.SLOT_SLOT_CFG_EN n).addr .slot n 0x0 := by
  interval_cases n <;> exact ⟨by decide, by decide, by decide, by decide, by decide, by decide, by decide⟩

theorem phyCfg_lands {n : Nat} (h : n < 36) : Lands (Reg.PORT_PHY_CFG_EN n).addr .port n 0x80 := by
  interval_cases n <;> exact ⟨by decide, by decide, by decide, by decide, by decide, by decide, by decide⟩

theorem slotCfg_written {n : Nat} (h : n < 8) (w v : Word) : writtenWord (fieldsAt (Reg.SLOT_SLOT_CFG_EN n).addr) true w v =
    insField (insField (insField (insField (insField w 15 1 (fieldOf v 15 1)) 14 1 (fieldOf v 14 1)) 8 4 (max 1 (fieldOf v 8 4)))
      6 2 (fieldOf v 6 2)) 0 6 (fieldOf v 0 6) := by
  rw [(slotCfg_lands h).fields (by decide)]; rfl

theorem phyCfg_written {n : Nat} (h : n < 36) (w v : Word) : writtenWord (fieldsAt (Reg.PORT_PHY_CFG_EN n).addr) true w v =
    insField (insField (insField (insField w 7 1 (fieldOf v 7 1)) 6 1 (fieldOf v 6 1)) 4 2 (fieldOf v 4 2)) 0 2 (fieldOf v 0 2) := by
  unfold fieldsAt
  rw [(phyCfg_lands h).located]
  exact congrArg (writtenWord · true w v) (if_neg fun c => absurd c.2 (by decide))

/-- The state with SLOT_CFG as a write stores it. -/
def slotStored (s : State) (n : Nat) (v : Word) : State :=
  setWord s (Reg.SLOT_SLOT_CFG_EN n).addr
    (insField (insField (insField (insField (insField (regWord s (Reg.SLOT_SLOT_CFG_EN n).addr) 15 1 (fieldOf v 15 1)) 14 1 (fieldOf v 14 1))
      8 4 (max 1 (fieldOf v 8 4))) 6 2 (fieldOf v 6 2)) 0 6 (fieldOf v 0 6))

/-- The state with PHY_CFG as a write stores it. -/
def phyStored (s : State) (p : Nat) (v : Word) : State :=
  setWord s (Reg.PORT_PHY_CFG_EN p).addr
    (insField (insField (insField (insField (regWord s (Reg.PORT_PHY_CFG_EN p).addr) 7 1 (fieldOf v 7 1)) 6 1 (fieldOf v 6 1)) 4 2 (fieldOf v 4 2))
      0 2 (fieldOf v 0 2))

theorem fieldOf_insField_fits (v w : Word) (lo k : Nat) (h : lo + k ≤ 32) : fieldOf (insField w lo k (fieldOf v lo k)) lo k = fieldOf v lo k :=
  (fieldOf_insField_same _ _ _ _ h).trans (Nat.mod_mod _ _)

theorem slotStored_fields (s : State) (n : Nat) (v : Word) :
    slotType (slotStored s n v) n = fieldOf v 6 2 ∧ slotIndex (slotStored s n v) n = fieldOf v 0 6 ∧
    slotRank (slotStored s n v) n = max 1 (fieldOf v 8 4) ∧ slotEn (slotStored s n v) n = decide (fieldOf v 15 1 = 1) := by
  have word : regWord (slotStored s n v) (Reg.SLOT_SLOT_CFG_EN n).addr = _ := regWord_setWord_same _ _ _
  have keep (w : Word) {lo k lo' k' : Nat} (x : Nat) (h : lo' + k' ≤ 32) (d : lo + k ≤ lo' ∨ lo' + k' ≤ lo) :
      fieldOf (insField w lo' k' x) lo k = fieldOf w lo k := fieldOf_insField_disj _ _ _ _ _ _ h d
  have en : getF (slotStored s n v) (Reg.SLOT_SLOT_CFG_EN n) = fieldOf v 15 1 := by
    refine (congrArg (fieldOf · 15 1) word).trans ?_
    rw [keep _ _ (by decide) (by decide), keep _ _ (by decide) (by decide), keep _ _ (by decide) (by decide), keep _ _ (by decide) (by decide)]
    exact fieldOf_insField_fits _ _ _ _ (by decide)
  refine ⟨?_, ?_, ?_, congrArg (decide <| · = 1) en⟩
  · refine (congrArg (fieldOf · 6 2) word).trans ?_
    rw [keep _ _ (by decide) (by decide)]
    exact fieldOf_insField_fits _ _ _ _ (by decide)
  · exact (congrArg (fieldOf · 0 6) word).trans (fieldOf_insField_fits _ _ _ _ (by decide))
  · refine (congrArg (fieldOf · 8 4) word).trans ?_
    rw [keep _ _ (by decide) (by decide), keep _ _ (by decide) (by decide), fieldOf_insField_same _ _ _ _ (by decide)]
    have : fieldOf v 8 4 < 2 ^ 4 := Nat.mod_lt _ (by decide)
    omega

theorem phyStored_en (s : State) (p : Nat) (v : Word) : getB (phyStored s p v) (Reg.PORT_PHY_CFG_EN p) = decide (fieldOf v 6 1 = 1) := by
  have word : regWord (phyStored s p v) (Reg.PORT_PHY_CFG_EN p).addr = _ := regWord_setWord_same _ _ _
  refine congrArg (decide <| · = 1) ((congrArg (fieldOf · 6 1) word).trans ?_)
  rw [fieldOf_insField_disj _ _ _ _ _ _ (by decide) (by decide), fieldOf_insField_disj _ _ _ _ _ _ (by decide) (by decide)]
  exact fieldOf_insField_fits _ _ _ _ (by decide)

/-- A write of SLOT_CFG that takes effect. -/
theorem slotCfgWrite_runs {s : State} {n : Nat} (v : Word) (h : BarWrites .eng s) (hn : n < 8) :
    ∃ u, Within [.regs, .aud, .out] [.perf, .aud] s u ∧ exec (.slotCfgWrite n v) s = ok (slotWrite u (slotStored u n v) n) := by
  have l := slotCfg_lands hn
  have facts : addrDomain (Reg.SLOT_SLOT_CFG_EN n).addr = .eng ∧ hasCls (fieldsAt (Reg.SLOT_SLOT_CFG_EN n).addr) .guard = false ∧
      upperAddrs (Reg.SLOT_SLOT_CFG_EN n).addr = [] := by interval_cases n <;> decide
  obtain ⟨hd, hg, hu⟩ := facts
  obtain ⟨u, w, run⟩ := bar0Write_plain v h l hd hg
  rw [storeWrite_single v l hu, slotCfg_written hn] at run
  exact ⟨u, w, (if_neg (by omega)).trans run⟩

/-- A write of PHY_CFG that takes effect. -/
theorem phyCfgWrite_runs {s : State} {p : Nat} (v : Word) (h : BarWrites (portDomain p) s) (hp : p < 36) :
    ∃ u, Within [.regs, .aud, .out] [.perf, .aud] s u ∧ exec (.phyCfgWrite p v) s = ok (phyWrite u (phyStored u p v) p) := by
  have l := phyCfg_lands hp
  have facts : addrDomain (Reg.PORT_PHY_CFG_EN p).addr = portDomain p ∧ hasCls (fieldsAt (Reg.PORT_PHY_CFG_EN p).addr) .guard = false ∧
      upperAddrs (Reg.PORT_PHY_CFG_EN p).addr = [] := by interval_cases p <;> decide
  obtain ⟨hd, hg, hu⟩ := facts
  obtain ⟨u, w, run⟩ := bar0Write_plain v h l hd hg
  rw [storeWrite_single v l hu, phyCfg_written hp] at run
  exact ⟨u, w, (if_neg (by omega)).trans run⟩

/-! ### A slot's settings (R113) -/

section slot
variable {s t u : State}

theorem SlotCfgsKept.after (k : SlotCfgsKept t u) (h : SlotCfgsKept s t) : SlotCfgsKept s u := fun n lo w => (k n lo w).trans (h n lo w)

theorem slotStatus_ne_cfg (n k : Nat) : (Reg.SLOT_SLOT_CFG_EN k).addr ≠ (Reg.SLOT_SLOT_STATUS_QUALIFIED n).addr := by
  simp only [Reg.SLOT_SLOT_CFG_EN, Reg.SLOT_SLOT_STATUS_QUALIFIED]
  omega

/-- A write of a slot's status leaves the settings. -/
theorem slotStatus_cfgs (s : State) (n lo w x : Nat) : SlotCfgsKept s (setF s ⟨(Reg.SLOT_SLOT_STATUS_QUALIFIED n).addr, lo, w⟩ x) :=
  fun k _ _ => getF_eq_of_regWord (regWord_setF_ne _ _ _ (slotStatus_ne_cfg n k))

theorem loseSlot_cfgs (s : State) (n : Nat) (count : Bool) : SlotCfgsKept s (loseSlot s n count) := by
  cases h : slotQual s n with
  | false => rw [loseSlot_idle s n count h]; exact fun _ _ _ => rfl
  | true =>
    intro k lo w
    rw [getF_congr (loseSlot_regs s n count h)]
    exact (slotStatus_cfgs _ n 16 16 _ k lo w).trans ((slotStatus_cfgs _ n 4 1 0 k lo w).trans
      ((slotStatus_cfgs _ n 5 1 0 k lo w).trans (slotStatus_cfgs s n 7 1 0 k lo w)))

theorem loseSlots_cfgs (s : State) (l : List Nat) : SlotCfgsKept s (loseSlots s l) := by
  unfold loseSlots
  split
  · exact fun _ _ _ => rfl
  · refine (reselect_slotsKept _).cfgs.after (SlotsKept.cfgs (.event (.refl _) (isSelEvent_bit (by decide))) |>.after ?_)
    exact List.foldlRecOn (motive := SlotCfgsKept s) l _ (fun _ _ _ => rfl) fun t h n _ => (loseSlot_cfgs t n true).after h

/-- What a restart leaves once its slot is lost (R113). -/
theorem slotRestart_chosen (s : State) (n : Nat) :
    SlotsKept (loseSlot s n false) (reselect (raiseIf (slotQual s n) (loseSlot s n false) Reg.REF_SEL_EVENTS_QUAL_LOST)) :=
  (reselect_slotsKept _).after (.ite (.event (.refl _) (isSelEvent_bit (by decide))) (.refl _))

theorem slotRestart_cfgs (s : State) (n : Nat) : SlotCfgsKept s (slotRestart s n) := fun k lo w =>
  (slotStatus_cfgs _ n 16 16 _ k lo w).trans ((slotStatus_cfgs _ n 2 1 0 k lo w).trans
    ((slotRestart_chosen s n).cfgs.after (loseSlot_cfgs s n false) k lo w))

theorem slotRestart_slotQual (s : State) (n : Nat) : slotQual (slotRestart s n) n = false := by
  refine Eq.trans ?_ (((slotRestart_chosen s n).slotQual_eq n).trans (loseSlot_slotQual_same s n false))
  unfold slotRestart slotQual getB
  rw [getF_setF_ne _ _ _ _ (show 16 + 16 ≤ 32 by decide) (.inr (.inl (show 7 + 1 ≤ 16 by decide))),
    getF_setF_ne _ _ _ _ (show 2 + 1 ≤ 32 by decide) (.inr (.inr (show 2 + 1 ≤ 7 by decide)))]
  rfl

/-- The same source, enabled or not. -/
abbrev SameSource (s t : State) (n : Nat) : Prop := slotEn s n = slotEn t n ∧ slotType s n = slotType t n ∧ slotIndex s n = slotIndex t n

theorem slotWrite_same {n : Nat} (h : SameSource u s n) : SlotsKept s (slotWrite u s n) := by
  unfold slotWrite
  rw [if_pos h]
  exact .ite (.of_parts (.refl s) (slopeWatch_regs s) (by rw [slopeWatch_sel])) (reselect_slotsKept s)

theorem slotWrite_restarts {n : Nat} (h : ¬ SameSource u s n) : SlotCfgsKept s (slotWrite u s n) ∧ slotQual (slotWrite u s n) n = false := by
  unfold slotWrite
  rw [if_neg h]
  exact ⟨(slotRestart_cfgs _ n).after (loseSlots_cfgs s _), slotRestart_slotQual _ n⟩

theorem slotWrite_cfgs (u s : State) (n : Nat) : SlotCfgsKept s (slotWrite u s n) := by
  by_cases h : SameSource u s n
  · exact (slotWrite_same h).cfgs
  · exact (slotWrite_restarts h).1

theorem slotStored_within (s : State) (n : Nat) (v : Word) : Within [.regs] [.slot] s (slotStored s n v) :=
  setWord_within s _ _ ⟨.slot, by decide, by simp only [Area.has, Reg.SLOT_SLOT_CFG_EN]; omega⟩

theorem slotStored_slotQual (s : State) (n : Nat) (v : Word) : slotQual (slotStored s n v) n = slotQual s n :=
  getB_eq_of_regWord (regWord_setWord_ne _ _ (slotStatus_ne_cfg n n).symm)

theorem slotCfgWrite_takes {n : Nat} (v : Word) (hn : n < 8) (h : BarWrites .eng s) :
    Completes (exec (.slotCfgWrite n v) s) fun t =>
      BarFrame [.mode, .clk, .tim, .sel, .ports, .gauges, .cal, .freeCtr] [.clk, .dll, .time, .ref, .slot, .port, .eng, .cal] s t ∧
      slotType t n = fieldOf v 6 2 ∧ slotIndex t n = fieldOf v 0 6 ∧ slotRank t n = max 1 (fieldOf v 8 4) ∧ slotEn t n = decide (fieldOf v 15 1 = 1) ∧
      ((slotType t n ≠ slotType s n ∨ slotIndex t n ≠ slotIndex s n ∨ slotEn t n ≠ slotEn s n) → slotQual t n = false) ∧
      ((slotType t n = slotType s n ∧ slotIndex t n = slotIndex s n ∧ slotEn t n = slotEn s n) → slotQual t n = slotQual s n) := by
  obtain ⟨u, w, run⟩ := slotCfgWrite_runs v h hn
  have ku : SlotsKept s u := .of_regWord (fun a ha => w.regs a fun x m => by
    simp only [Area.has] at ha
    obtain rfl | rfl : x = .perf ∨ x = .aud := by simpa using m
    all_goals simp only [Area.has]; omega) (congrArg Sel.slots (w.parts .sel (by decide)))
  have ws := (slotStored_within u n v).after (l := [.regs, .aud, .out]) (g := [.perf, .aud, .slot]) (w.mono (by decide) (by decide)) (by decide) (by decide)
  have wt := (slotWrite_within u (slotStored u n v) n).after
    (l := [.regs, .aud, .out, .mode, .clk, .tim, .sel, .ports, .gauges, .cal, .freeCtr])
    (g := [.perf, .aud, .clk, .dll, .time, .ref, .slot, .port, .eng, .cal]) (ws.mono (by decide) (by decide)) (by decide) (by decide)
  have kt := slotWrite_cfgs u (slotStored u n v) n
  obtain ⟨ht, hi, hr, he⟩ := slotStored_fields u n v
  have et : slotType (slotWrite u (slotStored u n v) n) n = slotType (slotStored u n v) n := kt n 6 2
  have ei : slotIndex (slotWrite u (slotStored u n v) n) n = slotIndex (slotStored u n v) n := kt n 0 6
  have er : slotRank (slotWrite u (slotStored u n v) n) n = slotRank (slotStored u n v) n := kt n 8 4
  have ee : slotEn (slotWrite u (slotStored u n v) n) n = slotEn (slotStored u n v) n := congrArg (decide <| · = 1) (kt n 15 1)
  have before : slotType u n = slotType s n ∧ slotIndex u n = slotIndex s n ∧ slotEn u n = slotEn s n :=
    ⟨ku.cfgs n 6 2, ku.cfgs n 0 6, congrArg (decide <| · = 1) (ku.cfgs n 15 1)⟩
  obtain ⟨bt, bi, be⟩ := before
  refine ⟨_, run, wt.frame, et.trans ht, ei.trans hi, er.trans hr, ee.trans he, fun c => ?_, fun ⟨ct, ci, ce⟩ => ?_⟩
  · refine (slotWrite_restarts fun ⟨ke, kt, ki⟩ => ?_).2
    obtain c | c | c := c
    · exact c (et.trans (kt.symm.trans bt))
    · exact c (ei.trans (ki.symm.trans bi))
    · exact c (ee.trans (ke.symm.trans be))
  · have same : SameSource u (slotStored u n v) n := ⟨be.trans (ce.symm.trans ee), bt.trans (ct.symm.trans et), bi.trans (ci.symm.trans ei)⟩
    exact ((slotWrite_same same).slotQual_eq n).trans ((slotStored_slotQual u n v).trans (ku.slotQual_eq n))

end slot

/-! ### A port's settings (R206) -/

section phy
variable (s : State) (p : Nat)

/-- PHY_CFG is none of the port's other registers. -/
theorem phyCfg_ne {o : Nat} (ho : o < 512) (hne : 0x80 ≠ o) : (Reg.PORT_PHY_CFG_EN p).addr ≠ portBase p + o :=
  portBase_add_ne hne (by decide) ho

theorem isStand_phyCfg (lo w : Nat) : IsStand ⟨(Reg.PORT_PHY_CFG_EN p).addr, lo, w⟩ := isStand_port (by decide) (by decide) (by decide)

/-- A port that goes down keeps its settings. -/
theorem portDown_cfg (b : Bool) (lo w : Nat) :
    getF (portDown s p b) ⟨(Reg.PORT_PHY_CFG_EN p).addr, lo, w⟩ = getF s ⟨(Reg.PORT_PHY_CFG_EN p).addr, lo, w⟩ := by
  cases h : getB s (Reg.PORT_PHY_STATUS_LINK_UP p) with
  | false => unfold portDown; rw [h]; rfl
  | true =>
    rw [portDown_eq b h, (fabricDown_within _ p).getF_eq (by
      have := portBase_range p
      simp only [List.forall_mem_cons, Area.has, Reg.PORT_PHY_CFG_EN, List.not_mem_nil, false_implies, implies_true, and_true]; omega),
      bermAbandon_standKept _ p _ (isStand_phyCfg p lo w)]
    refine getF_eq_of_regWord ?_
    have hp : regWord (phyDown s p) (Reg.PORT_PHY_CFG_EN p).addr = regWord s (Reg.PORT_PHY_CFG_EN p).addr := by
      unfold phyDown
      rw [regWord_raise_ne _ _ (phyCfg_ne p (o := 0x88) (by decide) (by decide)), regWord_setF_ne _ _ _ (phyCfg_ne p (o := 0x84) (by decide) (by decide)),
        regWord_setF_ne _ _ _ (phyCfg_ne p (o := 0x84) (by decide) (by decide))]
    have hl : regWord (laneDown (phyDown s p) p b) (Reg.PORT_PHY_CFG_EN p).addr = regWord (phyDown s p) (Reg.PORT_PHY_CFG_EN p).addr := by
      unfold laneDown
      split
      · rw [regWord_raise_ne _ _ (phyCfg_ne p (o := 0x88) (by decide) (by decide)), regWord_setF_ne _ _ _ (phyCfg_ne p (o := 0x84) (by decide) (by decide)),
          regWord_setF_ne _ _ _ (phyCfg_ne p (o := 0x84) (by decide) (by decide))]
      · rfl
    have ht (t : State) : regWord (ptpDown t p) (Reg.PORT_PHY_CFG_EN p).addr = regWord t (Reg.PORT_PHY_CFG_EN p).addr :=
      (regWord_congr (updPort_regs _ p _) _).trans (regWord_setF_ne t (Reg.PORT_TT_STATUS_L1SYNC_UP p) 0 (phyCfg_ne p (o := 8) (by decide) (by decide)))
    exact (ht _).trans (hl.trans hp)

/-- So does one whose CDR leaves lock. -/
theorem cdrLose_cfg (lo w : Nat) :
    getF (cdrLose s p) ⟨(Reg.PORT_PHY_CFG_EN p).addr, lo, w⟩ = getF s ⟨(Reg.PORT_PHY_CFG_EN p).addr, lo, w⟩ := by
  have off : ¬ Area.slot.has (Reg.PORT_PHY_CFG_EN p).addr := by
    have := portBase_range p
    simp only [Area.has, Reg.PORT_PHY_CFG_EN]
    omega
  have lock : getF (setF s (Reg.PORT_TT_STATUS_CDR_LOCK p) 0) ⟨(Reg.PORT_PHY_CFG_EN p).addr, lo, w⟩ = getF s ⟨(Reg.PORT_PHY_CFG_EN p).addr, lo, w⟩ :=
    getF_eq_of_regWord (regWord_setF_ne _ _ _ (phyCfg_ne p (o := 8) (by decide) (by decide)))
  refine Eq.trans ?_ lock
  unfold cdrLose phaseLose
  dsimp only
  split
  · rw [loseSource_getF _ _ _ (isStand_phyCfg p lo w) off]
    exact getF_eq_of_regWord ((regWord_raise_ne _ _ (phyCfg_ne p (o := 12) (by decide) (by decide))).trans
      (regWord_setF_ne _ _ _ (phyCfg_ne p (o := 4) (by decide) (by decide))))
  · rfl

theorem phyWrite_en (u : State) : getB (phyWrite u s p) (Reg.PORT_PHY_CFG_EN p) = getB s (Reg.PORT_PHY_CFG_EN p) := by
  have eq (c : Prop) [Decidable c] (f : PortS → PortS) :
      getF (if c then updPort s p f else s) (Reg.PORT_PHY_CFG_EN p) = getF s (Reg.PORT_PHY_CFG_EN p) := by split <;> rfl
  refine congrArg (decide <| · = 1) ?_
  unfold phyWrite
  dsimp only
  split
  · exact (cdrLose_cfg _ p 6 1).trans ((portDown_cfg _ p false 6 1).trans (eq _ _))
  · split
    · exact (portDown_cfg _ p false 6 1).trans (eq _ _)
    · exact eq _ _

variable {s p}

theorem phyWrite_disables {u : State} (hu : getB u (Reg.PORT_PHY_CFG_EN p) = true) (hs : getB s (Reg.PORT_PHY_CFG_EN p) = false) :
    getB (phyWrite u s p) (Reg.PORT_TT_STATUS_CDR_LOCK p) = false ∧ getB (phyWrite u s p) (Reg.PORT_PHASE_VALID p) = false := by
  unfold phyWrite
  rw [if_pos (by rw [hu, hs]; rfl)]
  exact ⟨cdrLose_fields.1, cdrLose_fields.2.1⟩

theorem phyStored_within (s : State) (p : Nat) (v : Word) : Within [.regs] [.port] s (phyStored s p v) :=
  setWord_within s _ _ ⟨.port, by decide, by have := portBase_range p; simp only [Area.has, Reg.PORT_PHY_CFG_EN]; omega⟩

theorem phyCfgWrite_takes (v : Word) (hp : p < 36) (h : BarWrites (portDomain p) s) :
    Completes (exec (.phyCfgWrite p v) s) fun t =>
      BarFrame [.mode, .clk, .tim, .sel, .ports, .jieth, .fab, .gauges, .cal, .cmd, .freeCtr] [.clk, .dll, .time, .ref, .slot, .port, .fport, .queue, .eng, .cal, .cmd] s t ∧
      (getB t (Reg.PORT_PHY_CFG_EN p) = decide (fieldOf v 6 1 = 1)) ∧
      (getB s (Reg.PORT_PHY_CFG_EN p) = true → fieldOf v 6 1 = 0 →
        getB t (Reg.PORT_TT_STATUS_CDR_LOCK p) = false ∧ getB t (Reg.PORT_PHASE_VALID p) = false) := by
  obtain ⟨u, w, run⟩ := phyCfgWrite_runs v h hp
  have ws := (phyStored_within u p v).after (l := [.regs, .aud, .out]) (g := [.perf, .aud, .port]) (w.mono (by decide) (by decide)) (by decide) (by decide)
  have wt := (phyWrite_within u (phyStored u p v) p).after
    (l := [.regs, .aud, .out, .mode, .clk, .tim, .sel, .ports, .jieth, .fab, .gauges, .cal, .cmd, .freeCtr])
    (g := [.perf, .aud, .clk, .dll, .time, .ref, .slot, .port, .fport, .queue, .eng, .cal, .cmd])
    (ws.mono (by decide) (by decide)) (by decide) (by decide)
  refine ⟨_, run, wt.frame, (phyWrite_en _ p u).trans (phyStored_en u p v), fun hs h0 => phyWrite_disables ?_ ?_⟩
  · refine (w.getB_eq ?_).trans hs
    have := portBase_range p
    simp only [List.forall_mem_cons, Area.has, Reg.PORT_PHY_CFG_EN, List.not_mem_nil, false_implies, implies_true, and_true]
    omega
  · rw [phyStored_en, h0]
    rfl

end phy

end Sys2Proof.Machine

end

section
/-! PROOFS. Writes of a link's role, and its retraining (R139, R143, R155). -/

namespace Sys2Proof.Machine

/-! ### Places held (R139) -/

/-- Every link holds a place, or none, as before. -/
def HoldsKept (s t : State) : Prop := ∀ k, (linkS t k).holds = (linkS s k).holds

section holds
variable {s t u : State}

theorem HoldsKept.refl (s : State) : HoldsKept s s := fun _ => rfl

theorem HoldsKept.after (k : HoldsKept t u) (h : HoldsKept s t) : HoldsKept s u := fun n => (k n).trans (h n)

theorem HoldsKept.ite {c : Prop} [Decidable c] (h : HoldsKept s t) (k : HoldsKept s u) : HoldsKept s (if c then t else u) := by
  split
  · exact h
  · exact k

theorem HoldsKept.fold {α : Type} {f : State → α → State} (h : ∀ t x, HoldsKept t (f t x)) (s : State) (l : List α) : HoldsKept s (l.foldl f s) :=
  List.foldlRecOn (motive := HoldsKept s) l f (.refl s) fun t k x _ => (h t x).after k

theorem HoldsKept.of_links (h : t.jieth.link = s.jieth.link) : HoldsKept s t := fun k => by unfold linkS; rw [h]

theorem Within.holdsKept {l : List StatePart} {g : List Area} (w : Within l g s t) (h : StatePart.jieth ∉ l) : HoldsKept s t :=
  .of_links (congrArg Jieth.link (w.parts .jieth h))

theorem updLink_holdsKept (s : State) (n : Nat) {f : LinkS → LinkS} (h : ∀ l, (f l).holds = l.holds) : HoldsKept s (updLink s n f) := fun k => by
  by_cases e : k = n
  · subst e
    rw [linkS_updLink_same, h]
  · rw [linkS_updLink_ne _ _ e]

theorem ctlReply_holdsKept (s : State) (n : Nat) (ws : List Word) : HoldsKept s (ctlReply s n ws) := by
  have emits (t : State) (o : Output) : HoldsKept t (emit t o) := (emit_within t o).holdsKept (by decide)
  have sends (t : State) (cls len : Nat) : HoldsKept t (jiethSend t n cls len) := updLink_holdsKept t n fun _ => rfl
  unfold ctlReply
  refine .ite ?_ (.refl s)
  unfold ctlSend ctlOut
  refine HoldsKept.after (.ite ?_ (.refl _)) ((updLink_holdsKept _ n ?_).after (emits s _))
  · exact (emits _ _).after (sends _ _ _)
  · exact fun _ => rfl

theorem writeReply_holdsKept (s : State) (p : Packet) (final : Bool) (st : Status) (ws : List Word) : HoldsKept s (writeReply s p final st ws) := by
  have emits (t : State) (o : Output) : HoldsKept t (emit t o) := (emit_within t o).holdsKept (by decide)
  unfold writeReply
  dsimp only
  split
  · refine .ite (.refl s) ?_
    have h : HoldsKept s (if final then { s with cmd := { s.cmd with slots := s.cmd.slots.erase (p.queue, p.slot) } } else s) :=
      .ite (.of_links rfl) (.refl s)
    generalize (if final = true then _ else s) = t at h
    obtain ⟨words, hw⟩ : ∃ words, words = replyHeader s final ws.length st p.tag :: ws := ⟨_, rfl⟩
    rw [← hw]
    have sent := (emits (setReplySlot t p.queue p.slot words) (.pcieReply p.queue p.slot words)).after (((setReplySlot_within t p.queue p.slot _).holdsKept (by decide)).after h)
    exact .ite (.ite ((emits _ _).after sent) sent) h
  · exact ((msixEdges_within _ _).holdsKept (by decide)).after (.of_links rfl)
  · exact .ite (ctlReply_holdsKept s _ _) (.refl s)

theorem finish_holdsKept (s : State) (p : Packet) (st : Status) (ws : List Word) : HoldsKept s (finish s p st ws) := by
  unfold finish
  refine (writeReply_holdsKept _ _ _ _ _).after (((histOffer_within _ _ _ _).holdsKept (by decide)).after
    (((perf_within _ _ _ _ _ _).holdsKept (by decide)).after ?_))
  have h : HoldsKept s (cpLate s (pastBound s p) p) := (cpLate_within _ _ _).holdsKept (by decide)
  exact .ite (((auditCommand_within _ _ _).holdsKept (by decide)).after (HoldsKept.after (.of_links rfl) h)) (HoldsKept.after (.of_links rfl) h)

theorem finishId_holdsKept (s : State) (id : Option Nat) (st : Status) (ws : List Word) : HoldsKept s (finishId s id st ws) := by
  unfold finishId
  split
  · exact .refl s
  · split
    · exact finish_holdsKept s _ st ws
    · exact .refl s

theorem fabricDown_holdsKept (s : State) (f : Nat) : HoldsKept s (fabricDown s f) := by
  cases h : fabUp s f with
  | false => unfold fabricDown; rw [h]; exact .refl s
  | true =>
    rw [fabricDown_eq h]
    have counted : HoldsKept s (flushCounted s f) := ((countFlushed_within _ f _).holdsKept (by decide)).after
      (((uncounted_within _ f _).holdsKept (by decide)).after ((queuesEmptied_within s f).holdsKept (by decide)))
    exact (HoldsKept.fold (fun t o => finishId_holdsKept t o _ _) _ _).after (((flushes_within _ f).holdsKept (by decide)).after
      (((spillsEnd_within _ f).holdsKept (by decide)).after (((dropsCounted_within s _ f).holdsKept (by decide)).after counted)))

theorem failRelays_holdsKept (s : State) (n : Nat) : HoldsKept s (failRelays s n) := by
  unfold failRelays
  exact (HoldsKept.fold (fun t b => ctlReply_holdsKept t _ _) _ _).after ((HoldsKept.fold (fun t r => finishId_holdsKept t _ _ _) _ _).after (.of_links rfl))

end holds

/-! ### Roles kept -/

/-- Every link has its role, as written and in effect. -/
structure RolesKept (s t : State) : Prop where
  cfg : ∀ k, k < 6 → linkRoleCfg t k = linkRoleCfg s k
  holds : HoldsKept s t

section roles
variable {s t u : State}

theorem RolesKept.refl (s : State) : RolesKept s s := ⟨fun _ _ => rfl, .refl s⟩

theorem RolesKept.after (k : RolesKept t u) (h : RolesKept s t) : RolesKept s u :=
  ⟨fun n hn => (k.cfg n hn).trans (h.cfg n hn), k.holds.after h.holds⟩

theorem RolesKept.ite {c : Prop} [Decidable c] (h : RolesKept s t) (k : RolesKept s u) : RolesKept s (if c then t else u) := by
  split
  · exact h
  · exact k

theorem RolesKept.linkRole_eq (k : RolesKept s t) {n : Nat} (hn : n < 6) : linkRole t n = linkRole s n := by
  unfold linkRole
  rw [k.cfg n hn, k.holds n]

/-- An operation that leaves the links' registers, and their places. -/
theorem Within.rolesKept_of_holds {l : List StatePart} {g : List Area} (w : Within l g s t) (h : HoldsKept s t)
    (hg : ∀ x ∈ g, x ∈ [Area.clk, .dll, .time, .ref, .slot, .port, .jg, .pair, .fport, .queue, .eng, .perf, .cal, .aud, .cmd]) : RolesKept s t := by
  refine ⟨fun k _ => w.getF_eq fun x m => ?_, h⟩
  have m' := hg x m
  simp only [List.mem_cons, List.not_mem_nil, or_false] at m'
  obtain rfl | rfl | rfl | rfl | rfl | rfl | rfl | rfl | rfl | rfl | rfl | rfl | rfl | rfl | rfl := m' <;>
    simp only [Area.has, Reg.LINK_LINK_CFG_ROLE] <;> omega

/-- An operation that touches neither the links nor their registers. -/
theorem Within.rolesKept {l : List StatePart} {g : List Area} (w : Within l g s t) (hl : StatePart.jieth ∉ l)
    (hg : ∀ x ∈ g, x ∈ [Area.clk, .dll, .time, .ref, .slot, .port, .jg, .pair, .fport, .queue, .eng, .perf, .cal, .aud, .cmd]) : RolesKept s t :=
  w.rolesKept_of_holds (w.holdsKept hl) hg

theorem updLink_rolesKept (s : State) (n : Nat) {f : LinkS → LinkS} (h : ∀ l, (f l).holds = l.holds) : RolesKept s (updLink s n f) :=
  ⟨fun _ _ => rfl, updLink_holdsKept s n h⟩

/-- The registers but the roles. -/
def NoRole (f : Fld) : Prop := f.lo + f.w ≤ 32 ∧ ((∀ k, f.addr ≠ (Reg.LINK_LINK_CFG_ROLE k).addr) ∨ 2 ≤ f.lo)

theorem setF_rolesKept (s : State) {f : Fld} (x : Nat) (h : NoRole f) : RolesKept s (setF s f x) := by
  refine ⟨fun k _ => getF_setF_ne _ _ _ _ h.1 ?_, .of_links rfl⟩
  obtain ⟨-, h | h⟩ := h
  · exact .inl (h k).symm
  · exact .inr (.inl h)

theorem raise_rolesKept (s : State) {f : Fld} (h : NoRole f) : RolesKept s (raise s f) := by
  refine ⟨fun k _ => getF_raise_ne _ _ _ h.1 ?_, .of_links (by rw [raise_jieth])⟩
  obtain ⟨-, h | h⟩ := h
  · exact .inl (h k).symm
  · exact .inr (.inl h)

/-- A register of a link beside LINK_CFG. -/
theorem noRole_link (n : Nat) {a lo w : Nat} (h : 0x60000 < a) (h' : a < 0x60200) (hw : lo + w ≤ 32) : NoRole ⟨a + 0x200 * (n % 6), lo, w⟩ := by
  refine ⟨hw, .inl fun k => ?_⟩
  simp only [Reg.LINK_LINK_CFG_ROLE]
  omega

/-! ### A link stops, fails and trains (R143, R148, R155) -/

theorem linkDrop_rolesKept (s : State) (n : Nat) : RolesKept s (linkDrop s n) := by
  have workers (t : State) : RolesKept t (dropWorkers t n) := ⟨fun _ _ => rfl, .of_links rfl⟩
  have relays : RolesKept s (dropWorkers (failRelays (fabricDown s (36 + n)) n) n) :=
    (workers _).after (((failRelays_within (fabricDown s (36 + n)) n).rolesKept_of_holds (failRelays_holdsKept _ n) (by decide)).after
      ((fabricDown_within s (36 + n)).rolesKept_of_holds (fabricDown_holdsKept s _) (by decide)))
  have mirror (t : State) : RolesKept t (mirrorGone t) := (mirrorGone_within t).rolesKept (by decide) (by decide)
  have pending (t : State) : RolesKept t (dropPending t) := (dropPending_within t).rolesKept (by decide) (by decide)
  have used (t : State) (a : Nat) (lo : Nat) (h : 0x60000 < a) (h' : a < 0x60200) (hl : lo + 1 ≤ 32) :
      RolesKept t (setF t ⟨a + 0x200 * (n % 6), lo, 1⟩ 0) := setF_rolesKept t 0 (noRole_link n h h' hl)
  unfold linkDrop
  dsimp only
  generalize dropWorkers (failRelays (fabricDown s (36 + n)) n) n = v at relays
  have clears (v : State) : RolesKept v (setF (setF (setF (setF v (Reg.LINK_LINK_STATUS_PAIR01_OK n) 0) (Reg.LINK_LINK_STATUS_PAIR23_OK n) 0)
      (Reg.LINK_JPHY_STATUS_TX_PAIR01_USED n) 0) (Reg.LINK_JPHY_STATUS_TX_PAIR23_USED n) 0) :=
    (used _ 0x60094 1 (by decide) (by decide) (by decide)).after ((used _ 0x60094 0 (by decide) (by decide) (by decide)).after
      ((used _ 0x60004 6 (by decide) (by decide) (by decide)).after (used _ 0x60004 5 (by decide) (by decide) (by decide))))
  have drops := (clears _).after ((updLink_rolesKept v n (f := fun l =>
    { l with regAddr := none, tf := none, tfNext := none, ofs := none, freq := none, loopPend := none, marker := none, ctlWait := [], helloHeld := false })
    fun _ => rfl).after relays)
  exact .ite ((mirror _).after (.ite ((pending _).after drops) drops)) drops

theorem linkLost_rolesKept (s : State) (n : Nat) : RolesKept s (linkLost s n) := (linkLost_within s n).rolesKept (by decide) (by decide)

theorem reselect_rolesKept (s : State) : RolesKept s (reselect s) := (reselect_within s).rolesKept (by decide) (by decide)

theorem setLinkState_rolesKept (s : State) (n st : Nat) : RolesKept s (setLinkState s n st) :=
  setF_rolesKept s st (noRole_link n (a := 0x60004) (by decide) (by decide) (by decide))

theorem failLink_rolesKept (s : State) (n : Nat) : RolesKept s (failLink s n) := by
  unfold failLink
  refine .ite (.refl s) ((linkLost_rolesKept _ n).after ((raise_rolesKept _ (noRole_link n (a := 0x60008) (by decide) (by decide) (by decide))).after ?_))
  exact (setF_rolesKept _ _ (noRole_link n (a := 0x60028) (by decide) (by decide) (by decide))).after
    ((setF_rolesKept _ 0 (noRole_link n (a := 0x60004) (by decide) (by decide) (by decide))).after
      ((setLinkState_rolesKept _ n 7).after (linkDrop_rolesKept s n)))

/-- CLOCK writes LINK_STATUS, RETRAIN and the lanes' registers. -/
theorem enterClock_regWord (s : State) (n : Nat) {a : Nat} (h : ∀ k, a ≠ (Reg.LINK_JPHY_LANE_LOCK n k).addr) :
    regWord (enterClock s n) a = regWord (setF (setLinkState s n 1) (Reg.LINK_LINK_CFG_RETRAIN n) 0) a := by
  have lane (t : State) (k lo w x : Nat) : regWord (setF t ⟨(Reg.LINK_JPHY_LANE_LOCK n k).addr, lo, w⟩ x) a = regWord t a := regWord_setF_ne _ _ _ (h k)
  unfold enterClock
  dsimp only
  refine (regWord_congr (updLink_regs _ n _) a).trans ?_
  refine List.foldlRecOn (motive := fun t => regWord t a = regWord (setF (setLinkState s n 1) (Reg.LINK_LINK_CFG_RETRAIN n) 0) a) _ _ rfl
    fun t ht k _ => ?_
  exact (lane _ k 10 3 7).trans ((lane _ k 13 1 0).trans ((lane _ k 14 1 0).trans ((lane t k 15 1 0).trans ht)))

theorem linkCfg_ne_lane (n m k : Nat) : (Reg.LINK_LINK_CFG_ROLE m).addr ≠ (Reg.LINK_JPHY_LANE_LOCK n k).addr := by
  simp only [Reg.LINK_LINK_CFG_ROLE, Reg.LINK_JPHY_LANE_LOCK]
  omega

theorem linkStatus_ne_lane (n m k : Nat) : (Reg.LINK_LINK_STATUS_STATE m).addr ≠ (Reg.LINK_JPHY_LANE_LOCK n k).addr := by
  simp only [Reg.LINK_LINK_STATUS_STATE, Reg.LINK_JPHY_LANE_LOCK]
  omega

theorem linkStatus_ne_cfg (n m : Nat) : (Reg.LINK_LINK_STATUS_STATE n).addr ≠ (Reg.LINK_LINK_CFG_ROLE m).addr := by
  simp only [Reg.LINK_LINK_STATUS_STATE, Reg.LINK_LINK_CFG_ROLE]
  omega

/-- RETRAIN lies above ROLE in LINK_CFG. -/
theorem retrain_noRole (n : Nat) : NoRole (Reg.LINK_LINK_CFG_RETRAIN n) := ⟨show 2 + 1 ≤ 32 by decide, .inr (Nat.le_refl 2)⟩

theorem enterClock_rolesKept (s : State) (n : Nat) : RolesKept s (enterClock s n) := by
  have clears (t : State) (f : Fld) (x : Nat) : HoldsKept t (setF t f x) := .of_links rfl
  have regs := (setF_rolesKept _ 0 (retrain_noRole n)).after (setLinkState_rolesKept s n 1)
  refine ⟨fun k hk => (getF_eq_of_regWord (enterClock_regWord s n (linkCfg_ne_lane n k))).trans (regs.cfg k hk), ?_⟩
  unfold enterClock
  dsimp only
  refine (updLink_holdsKept _ n ?_).after (HoldsKept.after (HoldsKept.fold (fun t k => ?_) _ _) ((clears _ _ _).after (clears s _ _)))
  · exact fun _ => rfl
  · exact (clears _ _ _).after ((clears _ _ _).after ((clears _ _ _).after (clears t _ _)))

theorem enterClock_state (s : State) (n : Nat) :
    linkState (enterClock s n) n = 1 ∧ getB (enterClock s n) (Reg.LINK_LINK_CFG_RETRAIN n) = false := by
  refine ⟨?_, getB_eq_false ?_⟩
  · refine (getF_eq_of_regWord (enterClock_regWord s n (linkStatus_ne_lane n n))).trans ?_
    refine (getF_setF_ne (setLinkState s n 1) (Reg.LINK_LINK_CFG_RETRAIN n) (Reg.LINK_LINK_STATUS_STATE n) 0 (show 2 + 1 ≤ 32 by decide)
      (.inl (linkStatus_ne_cfg n n))).trans ?_
    exact getF_setF_same s (Reg.LINK_LINK_STATUS_STATE n) 1 (show 0 + 4 ≤ 32 by decide)
  · have word : regWord (enterClock s n) (Reg.LINK_LINK_CFG_RETRAIN n).addr = _ := enterClock_regWord s n (linkCfg_ne_lane n n)
    rw [getF_eq_of_regWord word, getF_setF_same _ (Reg.LINK_LINK_CFG_RETRAIN n) 0 (show 2 + 1 ≤ 32 by decide)]
    rfl

theorem retrainLink_trains {n : Nat} (hr : linkRole s n ≠ 0) (h : linkState s n ≠ 7) :
    linkState (retrainLink s n) n = 1 ∧ getB (retrainLink s n) (Reg.LINK_LINK_CFG_RETRAIN n) = false := by
  unfold retrainLink
  rw [if_neg hr, if_neg h]
  exact enterClock_state _ n

theorem retrainLink_failed {n : Nat} (hr : linkRole s n ≠ 0) (h : linkState s n = 7) : retrainLink s n = s := by
  unfold retrainLink
  rw [if_neg hr, if_pos h]

end roles

/-! ### A role is written (R139) -/

section role
variable {s t : State} {n r : Nat}

/-- The links but `n` that hold a role. -/
def otherHolders (s : State) (n r : Nat) : List Nat := (List.range 6).filter (fun m => decide (m ≠ n) && decide (linkRole s m = r))

/-- Link `n` names a role, and holds its place or not. -/
structure Stands (n r : Nat) (b : Bool) (t : State) : Prop where
  cfg : linkRoleCfg t n = r
  holds : (linkS t n).holds = b

theorem RolesKept.stands {b : Bool} (k : RolesKept s t) (hn : n < 6) (h : Stands n r b s) : Stands n r b t :=
  ⟨(k.cfg n hn).trans h.cfg, (k.holds n).trans h.holds⟩

theorem Stands.linkRole_eq {b : Bool} (h : Stands n r b t) : linkRole t n = if b then r else 0 := by
  unfold linkRole
  rw [h.cfg, h.holds]

/-- A place is given; a link that is OFF also enters CLOCK. -/
def grantPlace (s : State) (n : Nat) : State :=
  let t := updLink s n (fun l => { l with holds := true })
  if linkState t n = 0 ∧ powered t .jieth = true then enterClock t n else t

theorem grantPlace_self (hn : n < 6) (h : Stands n r false s) : Stands n r true (grantPlace s n) := by
  have held : Stands n r true (updLink s n (fun l => { l with holds := true })) := ⟨h.cfg, by rw [linkS_updLink_same]⟩
  unfold grantPlace
  dsimp only
  split
  · exact (enterClock_rolesKept _ n).stands hn held
  · exact held

theorem grantPlace_other {m : Nat} {b : Bool} (hn : n < 6) (hm : n ≠ m) (h : Stands n r b s) : Stands n r b (grantPlace s m) := by
  have held : Stands n r b (updLink s m (fun l => { l with holds := true })) := ⟨h.cfg, by rw [linkS_updLink_ne _ _ hm]; exact h.holds⟩
  unfold grantPlace
  dsimp only
  split
  · exact (enterClock_rolesKept _ m).stands hn held
  · exact held

/-- The place that a link leaves goes to none that names another role. -/
theorem fillRole_stands {old : Nat} {b : Bool} (hn : n < 6) (ho : old ≠ 0 → r ≠ old) (h : Stands n r b s) : Stands n r b (fillRole s old) := by
  refine List.foldlRecOn (motive := Stands n r b) (List.range 6) _ h fun t ht m _ => ?_
  split
  next c =>
    obtain ⟨hc, h0, -⟩ := c
    have hm : n ≠ m := by
      rintro rfl
      exact ho h0 (ht.cfg.symm.trans hc)
    exact grantPlace_other hn hm ht
  · exact ht

/-- A link whose role is OFF names a new one. -/
def renamed (s : State) (n r : Nat) : State := setF (updLink s n (fun l => { l with holds := false })) (Reg.LINK_LINK_CFG_ROLE n) r

theorem linkCfg_ne {k : Nat} (hn : n < 6) (hk : k < 6) (hne : k ≠ n) : (Reg.LINK_LINK_CFG_ROLE k).addr ≠ (Reg.LINK_LINK_CFG_ROLE n).addr := by
  simp only [Reg.LINK_LINK_CFG_ROLE]
  omega

theorem renamed_stands (hr : r < 4) : Stands n r false (renamed s n r) := by
  refine ⟨(getF_setF_same _ (Reg.LINK_LINK_CFG_ROLE n) _ (show 0 + 2 ≤ 32 by decide)).trans (Nat.mod_eq_of_lt hr), ?_⟩
  show (linkS (updLink s n _) n).holds = false
  rw [linkS_updLink_same]

theorem renamed_linkRole {k : Nat} (hn : n < 6) (hk : k < 6) (hne : k ≠ n) : linkRole (renamed s n r) k = linkRole s k := by
  have cfg : linkRoleCfg (renamed s n r) k = linkRoleCfg s k := getF_eq_of_regWord (regWord_setF_ne _ _ _ (linkCfg_ne hn hk hne))
  have link : linkS (renamed s n r) k = linkS s k := linkS_updLink_ne s _ hne
  unfold linkRole
  rw [cfg, link]

theorem otherHolders_congr (h : ∀ k, k < 6 → k ≠ n → linkRole t k = linkRole s k) : otherHolders t n r = otherHolders s n r := by
  refine List.filter_congr fun m hm => ?_
  by_cases e : m = n
  · simp [e]
  · rw [h m (List.mem_range.mp hm) e]

/-- The holders of a role that the link itself does not hold. -/
theorem roleHolders_eq (hr : r ≠ 0) (h : linkRole s n = 0) : roleHolders s r = otherHolders s n r := by
  refine List.filter_congr fun m _ => ?_
  by_cases e : m = n
  · subst e
    simp [h, hr.symm]
  · simp [e]

/-- The state in which the old role's link has failed. -/
def roleLeft (s : State) (n : Nat) : State := if linkRole s n = 0 then s else failLink s n

theorem roleLeft_rolesKept : RolesKept s (roleLeft s n) := .ite (.refl s) (failLink_rolesKept s n)

theorem roleLeft_straps : (roleLeft s n).straps = s.straps := by
  unfold roleLeft
  split
  · rfl
  · exact (failLink_within s n).parts .straps (by decide)

theorem setLinkRole_eq (hc : linkRoleCfg s n ≠ r) : setLinkRole s n r =
    reselect (fillRole (if r ≠ 0 ∧ (roleHolders (renamed (roleLeft s n) n r) r).length < roleLimit (renamed (roleLeft s n) n r) r then
      grantPlace (renamed (roleLeft s n) n r) n else renamed (roleLeft s n) n r) (linkRole s n)) := if_neg hc

/-- A new role is held where the limit leaves a place. -/
theorem setLinkRole_takes (hn : n < 6) (hr : r < 4) (hc : linkRoleCfg s n ≠ r) :
    Stands n r (decide (r ≠ 0 ∧ (otherHolders s n r).length < roleLimit s r)) (setLinkRole s n r) := by
  have stands : Stands n r false (renamed (roleLeft s n) n r) := renamed_stands hr
  have limit : roleLimit (renamed (roleLeft s n) n r) r = roleLimit s r := by
    have h : (renamed (roleLeft s n) n r).straps = s.straps := roleLeft_straps
    unfold roleLimit
    rw [h]
  have others : otherHolders (renamed (roleLeft s n) n r) n r = otherHolders s n r :=
    otherHolders_congr fun k hk hne => (renamed_linkRole hn hk hne).trans (roleLeft_rolesKept.linkRole_eq hk)
  have old : linkRole s n ≠ 0 → r ≠ linkRole s n := fun h0 e => by
    unfold linkRole at h0 e
    split at e
    · exact hc e.symm
    next h => exact h0 (if_neg h)
  rw [setLinkRole_eq hc]
  refine (reselect_rolesKept _).stands hn (fillRole_stands hn old ?_)
  by_cases h : r ≠ 0 ∧ (otherHolders s n r).length < roleLimit s r
  · have given : r ≠ 0 ∧ (roleHolders (renamed (roleLeft s n) n r) r).length < roleLimit (renamed (roleLeft s n) n r) r := by
      rw [roleHolders_eq h.1 stands.linkRole_eq, others, limit]
      exact h
    rw [if_pos given, decide_eq_true h]
    exact grantPlace_self hn stands
  · have kept : ¬ (r ≠ 0 ∧ (roleHolders (renamed (roleLeft s n) n r) r).length < roleLimit (renamed (roleLeft s n) n r) r) := fun ⟨h0, hl⟩ => by
      rw [roleHolders_eq h0 stands.linkRole_eq, others, limit] at hl
      exact h ⟨h0, hl⟩
    rw [if_neg kept, decide_eq_false h]
    exact stands

end role

/-! ### The write of LINK_CFG -/

theorem linkCfg_lands {n : Nat} (h : n < 6) : Lands (Reg.LINK_LINK_CFG_ROLE n).addr .link n 0x0 := by
  interval_cases n <;> exact ⟨by decide, by decide, by decide, by decide, by decide, by decide, by decide⟩

theorem linkCfg_written {n : Nat} (h : n < 6) (w v : Word) : writtenWord (fieldsAt (Reg.LINK_LINK_CFG_ROLE n).addr) true w v =
    insField (insField w 3 1 (fieldOf v 3 1)) 0 2 (fieldOf v 0 2) := by
  rw [(linkCfg_lands h).fields (by decide)]; rfl

/-- The state with LINK_CFG as a write stores it. -/
def linkStored (s : State) (n : Nat) (v : Word) : State :=
  setWord s (Reg.LINK_LINK_CFG_ROLE n).addr (insField (insField (regWord s (Reg.LINK_LINK_CFG_ROLE n).addr) 3 1 (fieldOf v 3 1)) 0 2 (fieldOf v 0 2))

/-- The state so stored, with the role still the old one. -/
def linkHeld (s : State) (n : Nat) (v : Word) : State := setF (linkStored s n v) (Reg.LINK_LINK_CFG_ROLE n) (linkRoleCfg s n)

section write
variable {s : State} {n : Nat} (v : Word)

theorem linkStored_role : linkRoleCfg (linkStored s n v) n = fieldOf v 0 2 :=
  (congrArg (fieldOf · 0 2) (regWord_setWord_same _ _ _)).trans (fieldOf_insField_fits _ _ _ _ (by decide))

theorem linkHeld_rolesKept (hn : n < 6) : RolesKept s (linkHeld s n v) := by
  refine ⟨fun k hk => ?_, .of_links rfl⟩
  by_cases e : k = n
  · subst e
    exact (getF_setF_same _ (Reg.LINK_LINK_CFG_ROLE k) _ (show 0 + 2 ≤ 32 by decide)).trans (Nat.mod_eq_of_lt (Nat.mod_lt _ (show 0 < 2 ^ 2 by decide)))
  · exact getF_eq_of_regWord ((regWord_setF_ne _ _ _ (linkCfg_ne hn hk e)).trans (regWord_setWord_ne _ _ (linkCfg_ne hn hk e)))

theorem linkHeld_linkState (n m : Nat) : linkState (linkHeld s n v) m = linkState s m :=
  getF_eq_of_regWord ((regWord_setF_ne _ _ _ (linkStatus_ne_cfg m n)).trans (regWord_setWord_ne _ _ (linkStatus_ne_cfg m n)))

theorem linkWrite_eq : linkWrite s (linkStored s n v) n v =
    if fieldOf v 2 1 = 1 then retrainLink (setF (setLinkRole (linkHeld s n v) n (fieldOf v 0 2)) (Reg.LINK_LINK_CFG_RETRAIN n) 1) n
    else setLinkRole (linkHeld s n v) n (fieldOf v 0 2) := by
  rw [← linkStored_role (s := s) (n := n) v]
  rfl

theorem linkStored_within : Within [.regs] [.link] s (linkStored s n v) :=
  setWord_within s _ _ ⟨.link, by decide, by simp only [Area.has, Reg.LINK_LINK_CFG_ROLE]; omega⟩

/-- What a write of LINK_CFG may change. -/
abbrev LinkWriteFrame : State → State → Prop :=
  BarFrame [.mode, .clk, .tim, .sel, .ports, .jieth, .fab, .gauges, .cal, .cmd, .freeCtr] [.clk, .dll, .time, .ref, .slot, .port, .link, .jg, .pair, .fport, .queue, .eng, .cal, .cmd]

/-- A write of LINK_CFG that takes effect. -/
theorem linkCfgWrite_runs (h : BarWrites .jieth s) (hn : n < 6) : ∃ u, RolesKept s u ∧ linkState u n = linkState s n ∧ roleLimit u = roleLimit s ∧
    bar0Write (Reg.LINK_LINK_CFG_ROLE n).addr 15 v s = ok (linkWrite u (linkStored u n v) n v) ∧
    LinkWriteFrame s (linkWrite u (linkStored u n v) n v) := by
  have l := linkCfg_lands hn
  have facts : addrDomain (Reg.LINK_LINK_CFG_ROLE n).addr = .jieth ∧ hasCls (fieldsAt (Reg.LINK_LINK_CFG_ROLE n).addr) .guard = false ∧
      upperAddrs (Reg.LINK_LINK_CFG_ROLE n).addr = [] := by interval_cases n <;> decide
  obtain ⟨hd, hg, hu⟩ := facts
  obtain ⟨u, w, run⟩ := bar0Write_plain v h l hd hg
  rw [storeWrite_single v l hu, linkCfg_written hn] at run
  have ws := (linkStored_within v (s := u) (n := n)).after (l := [.regs, .aud, .out]) (g := [.perf, .aud, .link]) (w.mono (by decide) (by decide))
    (by decide) (by decide)
  have wt := (linkWrite_within u (linkStored u n v) n v).after
    (l := [.regs, .aud, .out, .mode, .clk, .tim, .sel, .ports, .jieth, .fab, .gauges, .cal, .cmd, .freeCtr])
    (g := [.perf, .aud, .clk, .dll, .time, .ref, .slot, .port, .link, .jg, .pair, .fport, .queue, .eng, .cal, .cmd])
    (ws.mono (by decide) (by decide)) (by decide) (by decide)
  refine ⟨u, w.rolesKept (by decide) (by decide), w.getF_eq ?_, ?_, run, wt.frame⟩
  · simp only [List.forall_mem_cons, Area.has, Reg.LINK_LINK_STATUS_STATE, List.not_mem_nil, false_implies, implies_true, and_true]
    omega
  · funext r
    unfold roleLimit
    rw [w.parts .straps (by decide)]

theorem linkRoleWrite_takes (h : BarWrites .jieth s) (hn : n < 6) (h0 : fieldOf v 2 1 = 0) :
    Completes (exec (.linkRoleWrite n v) s) fun t =>
      LinkWriteFrame s t ∧
      linkRoleCfg t n = fieldOf v 0 2 ∧
      (fieldOf v 0 2 ≠ linkRoleCfg s n → fieldOf v 0 2 ≠ 0 → (otherHolders s n (fieldOf v 0 2)).length < roleLimit s (fieldOf v 0 2) →
        linkRole t n = fieldOf v 0 2) ∧
      (fieldOf v 0 2 ≠ linkRoleCfg s n → fieldOf v 0 2 ≠ 0 → roleLimit s (fieldOf v 0 2) = 0 → linkRole t n = 0) := by
  obtain ⟨u, ku, -, limit, run, frame⟩ := linkCfgWrite_runs v h hn
  have kept := (linkHeld_rolesKept v hn).after ku
  rw [linkWrite_eq, if_neg (by omega)] at run frame
  refine ⟨_, (if_neg (by omega)).trans run, frame, ?_⟩
  by_cases hc : linkRoleCfg (linkHeld u n v) n = fieldOf v 0 2
  · have same : setLinkRole (linkHeld u n v) n (fieldOf v 0 2) = linkHeld u n v := if_pos hc
    have no : ¬ fieldOf v 0 2 ≠ linkRoleCfg s n := fun k => k (hc.symm.trans (kept.cfg n hn))
    rw [same]
    exact ⟨hc, fun k => absurd k no, fun k => absurd k no⟩
  · have stands := setLinkRole_takes hn (show fieldOf v 0 2 < 4 from Nat.mod_lt _ (by decide)) hc
    have others : otherHolders (linkHeld u n v) n (fieldOf v 0 2) = otherHolders s n (fieldOf v 0 2) :=
      otherHolders_congr fun k hk _ => kept.linkRole_eq hk
    have places : roleLimit (linkHeld u n v) = roleLimit s := limit
    rw [others, places] at stands
    refine ⟨stands.cfg, fun _ hr hl => ?_, fun _ _ hl => ?_⟩
    · rw [stands.linkRole_eq, decide_eq_true ⟨hr, hl⟩]
      rfl
    · rw [stands.linkRole_eq, decide_eq_false fun c => by omega]
      rfl

theorem retrain_trains (h : BarWrites .jieth s) (hn : n < 6) (h1 : fieldOf v 2 1 = 1) (hc : fieldOf v 0 2 = linkRoleCfg s n) (hr : linkRole s n ≠ 0) :
    Completes (exec (.retrain n v) s) fun t =>
      LinkWriteFrame s t ∧
      (linkState s n ≠ 7 → linkState t n = 1 ∧ getB t (Reg.LINK_LINK_CFG_RETRAIN n) = false) ∧ (linkState s n = 7 → linkState t n = 7) := by
  obtain ⟨u, ku, state, -, run, frame⟩ := linkCfgWrite_runs v h hn
  have kept := (linkHeld_rolesKept v hn).after ku
  have same : setLinkRole (linkHeld u n v) n (fieldOf v 0 2) = linkHeld u n v := if_pos ((kept.cfg n hn).trans hc.symm)
  rw [linkWrite_eq, if_pos h1, same] at run frame
  have role : linkRole (setF (linkHeld u n v) (Reg.LINK_LINK_CFG_RETRAIN n) 1) n ≠ 0 := by
    rw [((setF_rolesKept _ 1 (retrain_noRole n)).after kept).linkRole_eq hn]
    exact hr
  have was : linkState (setF (linkHeld u n v) (Reg.LINK_LINK_CFG_RETRAIN n) 1) n = linkState s n :=
    (getF_eq_of_regWord (regWord_setF_ne (linkHeld u n v) (Reg.LINK_LINK_CFG_RETRAIN n) 1 (linkStatus_ne_cfg n n))).trans
      ((linkHeld_linkState v n n).trans state)
  refine ⟨_, (if_neg (by omega)).trans run, frame, fun h => retrainLink_trains role (by rw [was]; exact h), fun h => ?_⟩
  rw [retrainLink_failed role (was.trans h), was]
  exact h

end write

/-- Settles O32: the write of LINK_CFG keeps every other link's role, so the places counted are those of the state before; the settings of a slot
and of a port outlive what their change brings about. -/
theorem linkSlotPhyWrites : Obligations.LinkSlotPhyWrites := by
  unfold Obligations.LinkSlotPhyWrites
  refine ⟨fun n v s hn h => ⟨fun h0 => ?_, fun h1 hc hr => ?_⟩, fun n v s => ⟨fun hn h => ?_, fun hp h => ?_⟩⟩
  · exact linkRoleWrite_takes v h hn h0
  · exact retrain_trains v h hn h1 hc hr
  · exact slotCfgWrite_takes v hn h
  · exact phyCfgWrite_takes v hp h

end Sys2Proof.Machine

end
